-- ==== Sys2Proof/Word.lean ====
section
/-! DEFINITION. The word types of the SKP3232: bytes, the fixed-width words of the register and entry
formats (00_scope.md R4, R5), and lists of bytes as they lie in memory, lowest address first. -/

namespace Sys2Proof

abbrev Byte := BitVec 8
abbrev U16 := BitVec 16
abbrev U32 := BitVec 32
abbrev U64 := BitVec 64

/-- Bytes as they lie in memory, lowest address first. -/
abbrev Bytes := List Byte

/-- Positions: Q48.8 counts, wrapping modulo 2^56 (02_position.md R52). -/
abbrev Pos := BitVec 56

/-- A spine cell of 32 bytes, byte 0 in bits 7:0 (10_spine.md R285, R286). -/
abbrev Cell := BitVec 256

/-- Bytes 8 to 63 of a command entry, byte 8 in bits 7:0 (13_commands_events.md R362). -/
abbrev Params := BitVec 448

end Sys2Proof
end

