-- ==== Sys2Proof/Syntax.lean ====
section
/-! DEFINITION. The commands and happenings of the block as syntax: one constructor of Instr per row of
spec/opcode_table.json, with the operands that the outside world (or the block's own clockwork) supplies. -/

namespace Sys2Proof

/-- Where a command entry came from: a submission ring (R368), the tunnel (R304), MCTP (R441), or a ring that a host
reset has since closed, so that its completion is discarded (R355). -/
inductive CmdSrc where
  | ring (n : Fin 64)
  | tunnel (node : BitVec 12) (ttag : U16)
  | mctp (vdm : Bool)
  | lost
  deriving DecidableEq, Repr

/-- The header of a command entry that execution needs (R362): TAG, FLAGS, and whether TARGET was the
broadcast 0xFFF (R374). -/
structure CmdHdr where
  src : CmdSrc
  tag : U16
  flags : Byte
  bcast : Bool
  deriving DecidableEq, Repr

/-- The two port windows (07_head_ports.md R218). -/
inductive Win where
  | a
  | b
  deriving DecidableEq, Repr

/-- Waveform channels A and B of a port; the A and B inputs of an encoder. -/
inductive Chan where
  | a
  | b
  deriving DecidableEq, Repr

/-- The two compares of a port window (03_fire_timing.md R90). -/
inductive CmpSel where
  | start
  | stop
  deriving DecidableEq, Repr

/-- The QUIRE register pairs whose low-half read latches the high half (02_position.md R74, 03 QUIRE registers). -/
inductive QuirePair where
  | origin
  | cmpStart
  | cmpStop
  | next
  | sosPos
  | sosTb
  deriving DecidableEq, Repr

/-- What the controller sensed of one SSI or BiSS C frame (R46 to R51): whether the start bit came (BiSS C) in
time, the position bits, nE, nW (active low, as received) or the SSI error bit, and the CRC field. -/
structure SerialFrame where
  started : Bool
  bits : U32
  nE : Bool
  nW : Bool
  errBit : Bool
  crc : BitVec 16
  deriving DecidableEq, Repr

/-- The kinds of request the stop arbiter knows (01_architecture.md R19); a STOP carries its cause code (R98). -/
inductive ReqKind where
  | stop (cause : BitVec 4)
  | inhibit
  | cap (n : BitVec 3)
  deriving DecidableEq, Repr

/-- The scope of a request (01_architecture.md, table of R21). -/
inductive ReqScope where
  | quire (q : Fin 8)
  | port (p : Fin 32)
  deriving DecidableEq, Repr

/-- The sources of requests (01_architecture.md, table of R21). -/
inductive ReqSource where
  | headLimit (p : Fin 32)
  | headMinJet (p : Fin 32)
  | headEnforce (p : Fin 32)
  | dieLimit
  | stopN
  | interlock
  | pressTimeout
  | spine
  | jobStop
  | jobAbort
  | perst
  | sourceFault
  | tableEcc
  | portFault
  | underrun
  | stopCompare
  | endOfData
  | swath
  deriving DecidableEq, Repr

/-- An access to BAR 0: how many bytes, and the data of a write. -/
structure Access where
  size : Nat
  value : BitVec 64
  deriving DecidableEq, Repr

/-- A level of an encoder input: the first sample that showed it, and how long it held, both in phases (02_position.md R43). -/
structure Pulse where
  stamp : Nat
  held : Nat
  deriving DecidableEq, Repr

/-- A level of a pin and how long it has held, in phases. -/
structure HeldLevel where
  high : Bool
  held : Nat
  deriving DecidableEq, Repr

/-- What the host sets in configuration space: Max_Payload_Size, Max_Read_Request_Size, MSI-X enable and function mask (12_host_rings.md
R335, R340). -/
structure HostSettings where
  mps : Nat
  mrrs : Nat
  msixEn : Bool
  msixMask : Bool
  deriving DecidableEq, Repr

/-- What a failed PCIe request of the controller was for (12_host_rings.md R350). -/
inductive DmaTarget where
  | command (id : Nat)
  | entryRead (r : Fin 64)
  | imageData (p : Fin 32)
  | gdmaData (c : Fin 8)
  | entryWrite (r : Fin 64)
  deriving DecidableEq, Repr

/-- The four host resets (12_host_rings.md R355). -/
inductive HostResetCause where
  | perst
  | hotReset
  | linkDown
  | flr
  deriving DecidableEq, Repr

/-- One housekeeping round as sensed (09_thermal_supply.md R257): the sum of 16 conversions of every thermistor
input (port p, sensor s at index 2p + s), the die sensors in 1/16 degC, the supplies in mV, the auxiliary sums. -/
structure HkRound where
  th : List Nat
  die : List Int
  supply : List Nat
  aux : List Nat
  deriving DecidableEq, Repr

/-- The write-safe comparators (R275). -/
inductive Comparator where
  | vdd
  | vddio18
  | vpp
  deriving DecidableEq, Repr

/-- The three Yobor ports (10_spine.md R282). -/
inductive SpPort where
  | u
  | a
  | b
  deriving DecidableEq, Repr

/-- A HELLO as a port receives it: the cell, and how many consecutive blocks without a sync-header error the port has received since block
lock (10_spine.md R284, R291). -/
structure HelloSeen where
  cell : Cell
  blocks : Nat
  deriving DecidableEq, Repr

/-- A CAN frame as received (11_press_bus.md R315, R322). -/
structure CanFrame where
  id : BitVec 29
  ext : Bool
  fd : Bool
  brs : Bool
  rtr : Bool
  data : Bytes
  deriving DecidableEq, Repr

/-- A CAN frame as a controller hears it, and how many receive errors it has detected since the frame before. -/
structure CanHeard where
  frame : CanFrame
  errs : Nat
  deriving DecidableEq, Repr

/-- A frame that a CAN controller has sent: its start of frame lies `ago` phases back; before, it has lost arbitration `lost` times and met
`errs` transmit errors. -/
structure CanSent where
  c : Fin 2
  ago : Nat
  lost : Nat
  errs : Nat
  deriving DecidableEq, Repr

/-- The sources of a reset (14_reset_boot.md R392, R394). -/
inductive ResetSource where
  | corePor
  | pinExt
  | watchdog
  | selfReset
  | thermal
  | perst
  deriving DecidableEq, Repr

/-- An OTP word whose bits have aged: what it now reads at the two margins (15_otp_trust.md R417, R433). -/
structure OtpAged where
  word : Fin 1024
  m0 : BitVec 73
  m1 : BitVec 73
  deriving DecidableEq, Repr

/-- What a scrubber or the patrol has read (16_background.md R454, R455): a clean word of activity `a`'s memory, which may be the last of
its pass; or a word with an error, by what it holds, with its byte address within the memory where an event reports that. -/
inductive ScrubLoc where
  | clean (a : Fin 6) (last : Bool)
  | lineWord (p : Fin 32) (nominal : Int) (word : Nat) (addr : Nat)
  | lineOther (addr : Nat)
  | bankWord (p : Fin 32) (shadowOnly : Bool) (table : Fin 9) (index : Nat)
  | tile (mask : Bool) (handle : Fin 64) (word : Nat)
  | tileFree (addr : Nat)
  | wave (p : Fin 32) (c : Chan) (sample : Nat) (addr : Nat)
  | pageRegion (handle : Nat) (ofs : Nat) (addr : Nat)
  | pageStaged (p : Fin 32) (addr : Nat)
  | pageFree (addr : Nat)
  | sram (allocated : Bool) (addr : Nat)
  deriving DecidableEq, Repr

/-- What a read of page-store data shows (R120): a clean word, a corrected one, an uncorrectable one at an address. -/
inductive PageRead where
  | clean
  | corrected
  | uncorrectable (addr : Nat)
  deriving DecidableEq, Repr

/-- The two MCTP bindings: SMBus and PCIe VDM (15_otp_trust.md R440). -/
inductive MctpBinding where
  | smbus
  | vdm
  deriving DecidableEq, Repr

/-- The commands and happenings: one constructor per row of spec/opcode_table.json. Log entry 3: DESIGN CHOICE. -/
inductive Instr where
  /-- NOP (R383): Command that completes with OK and returns the timebase at which it executed. -/
  | nop (h : CmdHdr) (p : Params)
  /-- GET_INFO (R384): Command that writes the device identity and status record. -/
  | getInfo (h : CmdHdr) (p : Params)
  /-- SET_PROFILE (R385): Command that changes layout, posture and ABORT_ON_PERST together or not at all. -/
  | setProfile (h : CmdHdr) (p : Params)
  /-- SELF_RESET (R386): Command that completes, stops fetching commands and schedules a self-driven pin reset after DELAY_US. -/
  | selfReset (h : CmdHdr) (p : Params)
  /-- SET_TIME (R387): Command that sets or adjusts the node timebase in one step. -/
  | setTime (h : CmdHdr) (p : Params)
  /-- GET_COUNTERS (R388): Command that writes the saturating device counters and optionally clears them. -/
  | getCounters (h : CmdHdr) (p : Params)
  /-- RING_CREATE (R359): Command that creates an ABSENT ring with head and tail 0 and catchword 1. -/
  | ringCreate (h : CmdHdr) (p : Params)
  /-- RING_DESTROY (R360): Command that moves a ring to CLOSING and completes once it is ABSENT. -/
  | ringDestroy (h : CmdHdr) (p : Params)
  /-- RING_RESUME (R361): Command that clears a HALTED ring's halt code and continues fetching. -/
  | ringResume (h : CmdHdr) (p : Params)
  /-- PORT_OPEN (R223): Command that starts the bring-up of a CLOSED or FAULT port. -/
  | portOpen (h : CmdHdr) (p : Params)
  /-- PORT_CLOSE (R224): Command that abandons any bring-up, commits wear and closes the port. -/
  | portClose (h : CmdHdr) (p : Params)
  /-- PORT_CONFIG (R222): Command that sets a port's input form, depth, nozzle count, error limit and lane rate. -/
  | portConfig (h : CmdHdr) (p : Params)
  /-- PORT_QUERY (R225): Command that writes the port status and identity record. -/
  | portQuery (h : CmdHdr) (p : Params)
  /-- HEADMEM_READ (R226): Command that reads head memory into host memory. -/
  | headmemRead (h : CmdHdr) (p : Params)
  /-- HEADMEM_WRITE (R227): Command that writes head memory in 64-byte pages. -/
  | headmemWrite (h : CmdHdr) (p : Params)
  /-- HEATER_SET (R228): Command that sets a port heater's mode, sensor and setpoint. -/
  | heaterSet (h : CmdHdr) (p : Params)
  /-- HEAD_PROFILE_LOAD (R221): Command that loads and checks a head profile for a CLOSED port. -/
  | headProfileLoad (h : CmdHdr) (p : Params)
  /-- ENC_CONFIG (R75): Command that configures a local position source and moves it per the source state table. -/
  | encConfig (h : CmdHdr) (p : Params)
  /-- ENC_QUERY (R76): Command that writes a one-instant snapshot record of a position source. -/
  | encQuery (h : CmdHdr) (p : Params)
  /-- ENC_PRESET (R77): Command that sets raw position, mark and tracked position at once or at the next index edge. -/
  | encPreset (h : CmdHdr) (p : Params)
  /-- QUIRE_BIND (R78): Command that binds or unbinds a quire to a source, ports, pacing, pitch and origin. -/
  | quireBind (h : CmdHdr) (p : Params)
  /-- SOS_CONFIG (R106): Command that configures a start-of-scan input's polarity, filter, holdoff and window. -/
  | sosConfig (h : CmdHdr) (p : Params)
  /-- JOB_DEFINE (R101): Command that stores a quire's job definition. -/
  | jobDefine (h : CmdHdr) (p : Params)
  /-- JOB_ARM (R102): Command that checks, commits the banks and arms a quire's job at its start compare. -/
  | jobArm (h : CmdHdr) (p : Params)
  /-- JOB_STOP (R103): Command that stops a job at the next boundary, a given boundary or a swath end. -/
  | jobStop (h : CmdHdr) (p : Params)
  /-- JOB_ABORT (R104): Command that stops a quire's job and purges its image data, or returns a FAULT quire to BOUND. -/
  | jobAbort (h : CmdHdr) (p : Params)
  /-- JOB_QUERY (R105): Command that writes a one-instant record of a quire's job state. -/
  | jobQuery (h : CmdHdr) (p : Params)
  /-- DEMAND_CONFIG (R136): Command that sets a quire's underrun-anticipation and demand parameters. -/
  | demandConfig (h : CmdHdr) (p : Params)
  /-- TABLE_COMMIT (R173): Command that requests a bank swap of the named ports at their quires' next boundaries. -/
  | tableCommit (h : CmdHdr) (p : Params)
  /-- WAVE_LOAD (R193): Command that defines, replaces or frees a waveform slot. -/
  | waveLoad (h : CmdHdr) (p : Params)
  /-- LEVEL_MAP_LOAD (R194): Command that writes a channel's level-map rows and keep-wet slot into the shadow bank. -/
  | levelMapLoad (h : CmdHdr) (p : Params)
  /-- WAVE_TCOMP_LOAD (R195): Command that writes a channel's temperature table, sensor, hysteresis and rank gain into the shadow bank. -/
  | waveTcompLoad (h : CmdHdr) (p : Params)
  /-- FIRE_OFFSET_SET (R107): Command that writes fractional offsets into the shadow bank. -/
  | fireOffsetSet (h : CmdHdr) (p : Params)
  /-- SCREEN_LOAD (R166): Command that loads, selects or frees a threshold tile. -/
  | screenLoad (h : CmdHdr) (p : Params)
  /-- NUC_LOAD (R167): Command that loads uniformity entries or curves into the shadow bank. -/
  | nucLoad (h : CmdHdr) (p : Params)
  /-- DELAY_LOAD (R168): Command that loads per-nozzle delays into the shadow bank. -/
  | delayLoad (h : CmdHdr) (p : Params)
  /-- MASK_LOAD (R169): Command that loads or frees a mask tile. -/
  | maskLoad (h : CmdHdr) (p : Params)
  /-- STITCH_CONFIG (R170): Command that replaces a port's stitch and pass settings in the shadow bank. -/
  | stitchConfig (h : CmdHdr) (p : Params)
  /-- DECKLE_SET (R171): Command that writes a port's deckle into the shadow bank. -/
  | deckleSet (h : CmdHdr) (p : Params)
  /-- NOZ_MAP_SET (R254): Command that writes or fills the shadow host nozzle layer, or resets the monitor layer. -/
  | nozMapSet (h : CmdHdr) (p : Params)
  /-- NOZ_MAP_GET (R255): Command that writes nozzle states, details or a summary to host memory. -/
  | nozMapGet (h : CmdHdr) (p : Params)
  /-- RVS_CONFIG (R252): Command that enables and configures nozzle sensing on a port. -/
  | rvsConfig (h : CmdHdr) (p : Params)
  /-- RVS_LEARN (R253): Command that starts, commits, discards, loads or saves nozzle signatures. -/
  | rvsLearn (h : CmdHdr) (p : Params)
  /-- COMP_CONFIG (R172): Command that writes a port's compensation policy into the shadow bank. -/
  | compConfig (h : CmdHdr) (p : Params)
  /-- WEAR_QUERY (R256): Command that reports wear totals or per-nozzle counts, or commits wear. -/
  | wearQuery (h : CmdHdr) (p : Params)
  /-- THERM_LIMITS (R278): Command that sets the round period, grace time, die thresholds, throttle and ambient input. -/
  | thermLimits (h : CmdHdr) (p : Params)
  /-- THERM_QUERY (R279): Command that writes thermal values or runs a sensor cross-check self-test. -/
  | thermQuery (h : CmdHdr) (p : Params)
  /-- SENSOR_SUBSTITUTE (R280): Command that binds or clears a substitute for a faulty head sensor. -/
  | sensorSubstitute (h : CmdHdr) (p : Params)
  /-- SUPPLY_QUERY (R281): Command that writes one round's supply measurements. -/
  | supplyQuery (h : CmdHdr) (p : Params)
  /-- SPINE_CONFIG (R311): Command that sets spine event, position, demand and tunnel settings. -/
  | spineConfig (h : CmdHdr) (p : Params)
  /-- SPINE_ENUMERATE (R312): Command at the root that enumerates the spine tree depth first. -/
  | spineEnumerate (h : CmdHdr) (p : Params)
  /-- SPINE_QUERY (R313): Command that writes a one-instant record of the node's spine state. -/
  | spineQuery (h : CmdHdr) (p : Params)
  /-- REMOTE_ENC_BIND (R314): Command that binds or unbinds a remote position source to an origin node's source. -/
  | remoteEncBind (h : CmdHdr) (p : Params)
  /-- BUS_CONFIG (R331): Command that configures a CAN controller and the node-wide press bus settings. -/
  | busConfig (h : CmdHdr) (p : Params)
  /-- BUS_FILTER (R332): Command that replaces a CAN host acceptance filter. -/
  | busFilter (h : CmdHdr) (p : Params)
  /-- BUS_SEND (R333): Command that queues a host CAN frame for transmission. -/
  | busSend (h : CmdHdr) (p : Params)
  /-- BUS_QUERY (R334): Command that reports CAN status or moves received frames to host memory. -/
  | busQuery (h : CmdHdr) (p : Params)
  /-- OTP_READ (R445): Command that reads OTP words resolved or raw at a margin. -/
  | otpRead (h : CmdHdr) (p : Params)
  /-- OTP_PROGRAM (R446): Command that blows an OTP word's data, check and seal bits with verify. -/
  | otpProgram (h : CmdHdr) (p : Params)
  /-- OTP_SEAL (R447): Command that writes a region's map, seal and lock words in order. -/
  | otpSeal (h : CmdHdr) (p : Params)
  /-- OTP_MARGIN_CHECK (R448): Command that re-reads OTP words at both margins on demand. -/
  | otpMarginCheck (h : CmdHdr) (p : Params)
  /-- OTP_LOCK (R449): Command that sets program and read lock bits until reset. -/
  | otpLock (h : CmdHdr) (p : Params)
  /-- FW_STAGE (R409): Command that writes a firmware image into a flash slot or RAM. -/
  | fwStage (h : CmdHdr) (p : Params)
  /-- FW_VERIFY (R410): Command that reads back a slot and applies every boot check. -/
  | fwVerify (h : CmdHdr) (p : Params)
  /-- FW_ACTIVATE (R411): Command that selects a slot, confirms a trial, or runs a RAM image. -/
  | fwActivate (h : CmdHdr) (p : Params)
  /-- FW_QUERY (R412): Command that writes the firmware slot and boot record state. -/
  | fwQuery (h : CmdHdr) (p : Params)
  /-- COLOPHON_READ (R450): Command that signs and writes a colophon with the requester's nonce. -/
  | colophonRead (h : CmdHdr) (p : Params)
  /-- COLOPHON_LOG (R451): Command that writes measurement log entries to host memory. -/
  | colophonLog (h : CmdHdr) (p : Params)
  /-- LOOPBACK (R389): Command that copies host data through control SRAM or a page region and back. -/
  | loopback (h : CmdHdr) (p : Params)
  /-- TEST_PATTERN (R390): Command that sets or cancels a generated image for a port's next job. -/
  | testPattern (h : CmdHdr) (p : Params)
  /-- EVENT_CONFIG (R391): Command that sets or reads event group and telemetry routing. -/
  | eventConfig (h : CmdHdr) (p : Params)
  /-- BACKGROUND_CONFIG (R460): Command that sets the background share, telemetry period and port mask. -/
  | backgroundConfig (h : CmdHdr) (p : Params)
  /-- PAGE_ALLOC (R137): Command that takes free page-store blocks for a new region. -/
  | pageAlloc (h : CmdHdr) (p : Params)
  /-- PAGE_FREE (R138): Command that returns a region's blocks to the staging pool. -/
  | pageFree (h : CmdHdr) (p : Params)
  /-- PAGE_FILL (R139): Command that copies host data into a page-store region. -/
  | pageFill (h : CmdHdr) (p : Params)
  /-- PAGE_QUERY (R140): Command that writes page-store state and counts. -/
  | pageQuery (h : CmdHdr) (p : Params)
  /-- REGISTER_WRITE (R6): A host write to a register that has no row of its own, acting per its access code. -/
  | registerWrite (off : BitVec 24) (v : U32)
  /-- BAR_ACCESS_INVALID (R338): A BAR 0 access of wrong size, alignment or offset completes normally and sets GLB_ERR.ACCESS. -/
  | barAccessInvalid (write : Bool) (off : BitVec 24) (a : Access)
  /-- RING_CTRL_ENABLE (R341): Writing RING_CTRL.ENABLE on an ABSENT ring creates it by registers after the checks. -/
  | ringCtrlEnable (r : Fin 64) (v : U32)
  /-- RING_CTRL_RESUME (R354): Writing RING_CTRL.RESUME to a HALTED ring acts as RING_RESUME. -/
  | ringCtrlResume (r : Fin 64) (v : U32)
  /-- RING_TAIL_DOORBELL (R342): Host write of RING_TAIL on a host-produced ring announces new entries. -/
  | ringTailDoorbell (r : Fin 64) (v : U32)
  /-- RING_HEAD_RETURN (R342): Host write of RING_HEAD on a controller-produced ring returns slots. -/
  | ringHeadReturn (r : Fin 64) (v : U32)
  /-- RING_TAIL_READ (R346): A read of RING_TAIL of a completion or event ring returns only after the counted entries are written. -/
  | ringTailRead (r : Fin 64)
  /-- PW_STATUS_READ (R29): A read of PW_STATUS returns only after earlier writes into TIME and PORT have taken effect. -/
  | pwStatusRead (w : Win)
  /-- PW_CMP_LOW_WRITE (R90): A write to a compare low half stages it in the port window. -/
  | pwCmpLowWrite (w : Win) (c : CmpSel) (v : U32)
  /-- PW_CMP_START_HIGH_WRITE (R90): A write to the start compare high half evaluates the compare under R88. -/
  | pwCmpStartHighWrite (w : Win) (v : U32)
  /-- PW_CMP_STOP_HIGH_WRITE (R90): A write to the stop compare high half evaluates the compare under R89. -/
  | pwCmpStopHighWrite (w : Win) (v : U32)
  /-- PW_LATE_WIN_WRITE (R90): A write to PW_LATE_WIN sets the quire's late-start window. -/
  | pwLateWinWrite (w : Win) (v : U32)
  /-- PW_FRAC_OFS_WRITE (R85): A write to a fractional offset register changes the shadow bank. -/
  | pwFracOfsWrite (w : Win) (i : Fin 8) (v : U32)
  /-- PW_LEVEL_CAP_WRITE (R155): A write to PW_LEVEL_CAP changes the shadow cap. -/
  | pwLevelCapWrite (w : Win) (v : U32)
  /-- PW_CTRL_RETRAIN (R212): Writing PW_CTRL.RETRAIN in IDLE repeats the link bring-up steps. The write carries HTR_FORCE_OFF and ARM_CLEAR
  beside it (R219). -/
  | pwCtrlRetrain (w : Win) (htrOff : Bool) (armClear : Bool)
  /-- ENC_RAW_LO_READ (R74): A read of ENC_RAW_LO latches a one-instant snapshot of the source. -/
  | encRawLoRead (n : Fin 4)
  /-- QUIRE_LOW_HALF_READ (R74): A read of a QUIRE pair's low half latches its high half. -/
  | quireLowHalfRead (q : Fin 8) (pr : QuirePair)
  /-- GLB_TB_LO_READ (R74): A read of GLB_TB_LO latches the high half of the timebase. -/
  | glbTbLoRead
  /-- MGT_MEAS_W0_READ (R435): A read of MGT_MEASn_W0 latches the rest of the measurement register and its count. -/
  | mgtMeasW0Read (n : Fin 8)
  /-- ENCODER_EDGE (R44): An accepted A or B change counts, updates marks, speed and tracked position. `clash` says that a change of
  the other input, accepted too, has its first sample less than 2 ns from this one. -/
  | encoderEdge (n : Fin 4) (ch : Chan) (level : Bool) (x : Pulse) (clash : Bool)
  /-- INDEX_EDGE (R61): An accepted rising Z during increasing movement triggers the index check or a pending preset. -/
  | indexEdge (n : Fin 4) (level : Bool) (x : Pulse)
  /-- SERIAL_FRAME_START (R48): Every SER_PERIOD the controller starts an SSI or BiSS C frame. -/
  | serialFrameStart (n : Fin 4) (idle : Bool)
  /-- SERIAL_FRAME_END (R49): A completed serial frame is checked and a good reading updates the raw position. -/
  | serialFrameEnd (n : Fin 4) (f : SerialFrame)
  /-- ENC_STALL (R59): Four expected edge intervals without an advancing edge make the source STALLED. -/
  | encStall (n : Fin 16)
  /-- REMOTE_LOST (R66): No position cell for 16 µs puts a remote source in FAULT with cause REMOTE_LOST. -/
  | remoteLost (n : Fin 16)
  /-- LINE_DUE (R80): The tracked position reaching a boundary's fire point commits the line and fixes its reference instant. -/
  | lineDue (p : Fin 32)
  /-- LINE_DECISION (R20): At a line's decision instant the arbiter's most restrictive request is applied to that line. -/
  | lineDecision (p : Fin 32)
  /-- HEAD_LATCH (R203): The LATCH word or control set moves a line's codes into the head's pending register. -/
  | headLatch (p : Fin 32) (badWords : List Nat)
  /-- PLAYBACK_START (R177): At a start instant a channel begins a playback with a PLAY event to the head. -/
  | playbackStart (p : Fin 32) (c : Chan) (eccBad : Bool)
  /-- PLAYBACK_END (R178): A playback ends and the channel output rests at code 0. -/
  | playbackEnd (p : Fin 32) (c : Chan)
  /-- PROBE_CAPTURE_END (R234): A completed capture yields features, a verdict and an update of the nozzle's monitor state. -/
  | probeCaptureEnd (p : Fin 32) (samples : List Int)
  /-- SOS_EDGE (R93): An accepted start-of-scan edge opens a swath gate and captures position and time. -/
  | sosEdge (i : Fin 4) (rising : Bool) (held : Nat)
  /-- ARBITER_REQUEST (R19): A STOP, INHIBIT or CAP request reaches the stop arbiter from any source. -/
  | arbiterRequest (src : ReqSource) (sc : ReqScope) (k : ReqKind)
  /-- ARBITER_WITHDRAW (R21): A source withdraws its INHIBIT or CAP request. -/
  | arbiterWithdraw (src : ReqSource) (sc : ReqScope)
  /-- BANK_SWAP (R15): At the quire's next boundary the live and shadow banks of the committed ports swap. -/
  | bankSwap (q : Fin 8)
  /-- SHADOW_COPY (R17): Once old-bank image lines are screened or discarded the shadow bank is made equal to the live bank and held writes land. -/
  | shadowCopy (p : Fin 32)
  /-- QUIRE_DRAIN_END (R99): When every port's last playback has ended and the link is idle a STOPPING quire leaves to BOUND or FAULT. -/
  | quireDrainEnd (q : Fin 8)
  /-- PORT_DRAIN_END (R215): A DRAINING port whose last playback has ended returns to IDLE. -/
  | portDrainEnd (p : Fin 32)
  /-- IMAGE_DESC_FETCH (R109): The ring engine fetches and checks a band descriptor, halting the ring on a failure. -/
  | imageDescFetch (p : Fin 32) (entry : BitVec 256)
  /-- BAND_STAGED (R115): A BUFFERED band's data is in the page store and the band retires. -/
  | bandStaged (p : Fin 32) (data : Bytes)
  /-- DESC_RETIRE (R110): A descriptor whose lines have fired or been discarded retires and may complete. -/
  | descRetire (p : Fin 32)
  /-- LINE_DECODE (R112): The decoder expands the next image line from band data when the line store has room. -/
  | lineDecode (p : Fin 32) (data : Bytes) (read : PageRead)
  /-- LINE_SCREEN (R141): The screening engine turns a decoded image line into level codes and writes it to the line store. -/
  | lineScreen (p : Fin 32)
  /-- TAP_REFRESH (R25): At each boundary and at least every 10 µs the tap copies and time-to-underrun are refreshed. -/
  | tapRefresh (p : Fin 32)
  /-- DEMAND_EVAL (R130): Every 100 µs each port's data demand and the node demand are recomputed. -/
  | demandEval
  /-- PAGE_TRAINING_DONE (R120): LPDDR5X training completes and the page store becomes READY or FAILED. -/
  | pageTrainingDone (ok : Bool) (rate : Nat) (gib : Nat)
  /-- GDMA_DESC_FETCH (R353): A general DMA descriptor is fetched and executed between host and region. -/
  | gdmaDescFetch (c : Fin 8) (entry : BitVec 256)
  /-- CMD_FETCH (R343): With a completion slot reserved, the controller fetches the next command entry. -/
  | cmdFetch (c : Fin 8) (entry : BitVec 512)
  /-- CATCHWORD_REREAD (R345): 1 µs after a catchword mismatch the entry is read again. -/
  | catchwordReread (r : Fin 64) (entry : BitVec 512)
  /-- DMA_FAULT (R350): A controller request gets UR, CA, poison or times out; the command or ring fails. -/
  | dmaFault (t : DmaTarget)
  /-- RING_CLOSE_DONE (R354): A CLOSING ring whose fetched entries have completed becomes ABSENT. -/
  | ringCloseDone (r : Fin 64)
  /-- MSIX_HOLDOFF_END (R339): At the end of an interrupt holdoff one message is sent for entries that arrived meanwhile. -/
  | msixHoldoffEnd (r : Fin 64)
  /-- TELEMETRY_SNAPSHOT (R462): Every TEL_PERIOD a telemetry snapshot is written as consecutive segments or dropped. -/
  | telemetrySnapshot
  /-- HOST_RESET (R355): PERST_N, hot reset, link down or FLR resets the host link and rings only. -/
  | hostReset (c : HostResetCause)
  /-- D3HOT_ENTRY (R337): In D3hot the controller issues no requests while printing continues from held data. -/
  | d3hotEntry
  /-- D0_RETURN (R337): On return to D0 the controller continues where it stopped. -/
  | d0Return
  /-- PCIE_LINK_UP (R400): Link training completes and configuration space is served. With it comes what the host sets there. -/
  | pcieLinkUp (gen : Nat) (width : Nat) (x : HostSettings)
  /-- HEAD_PRESENCE_CHANGE (R209): An accepted HPnn_PRS_N level change; a high level loses the head of an open port. -/
  | headPresenceChange (p : Fin 32) (x : HeldLevel)
  /-- PORT_BRINGUP_DONE (R212): Bring-up succeeds to IDLE or fails back, completing PORT_OPEN. `till` is the phase of the clock at which the time
  of a link attempt has passed. -/
  | portBringupDone (p : Fin 32) (till : Nat)
  /-- BACK_CHANNEL_STATUS (R208): A HIF-C status frame arrives with sequence, flags and temperatures. -/
  | backChannelStatus (p : Fin 32) (frame : BitVec 64)
  /-- HEADMEM_REPLY (R208): A back-channel reply frame answers a head-memory request: K28.4 as 0x9C, 0x02 and a status byte (`head`), any
  read data, a CRC-32. -/
  | headmemReply (p : Fin 32) (head : Bytes) (data : Bytes) (crc : U32)
  /-- LINK_LOST (R216): No lane lock or valid status frame for 16 µs faults a HIF-C port. -/
  | linkLost (p : Fin 32)
  /-- LINK_BLOCK_END (R216): A link-error block of 1,024 lines or 10 ms ends and a new one begins. -/
  | linkBlockEnd (p : Fin 32)
  /-- LEVEL_MAP_TRANSFER (R206): New shadow rows are sent into the head's other map bank between events. -/
  | levelMapTransfer (p : Fin 32) (c : Chan)
  /-- LEARN_TIME_LIMIT (R253): A learning run's TIME_LIMIT expires and START completes with OK_PARTIAL. -/
  | learnTimeLimit (p : Fin 32)
  /-- LEARN_SWAP (R245): At the next boundary staged signature entries become live. -/
  | learnSwap (p : Fin 32)
  /-- MONITOR_RESET (R254): At the next boundary RESET_MONITOR clears history and resets monitor states. -/
  | monitorReset (p : Fin 32)
  /-- WEAR_COMMIT_PERIODIC (R249): Every 10 minutes an open port's wear counts are committed to head memory. -/
  | wearCommitPeriodic (p : Fin 32)
  /-- HK_ROUND_END (R257): At each round end all sensors and supplies are published and every limit is evaluated. -/
  | hkRoundEnd (rd : HkRound)
  /-- THERMAL_SHUTDOWN (R268): A die comparator trips; DACs and heaters go off and RST_N is driven low. -/
  | thermalShutdown (die : List Int)
  /-- WRITE_SAFE_CHANGE (R275): A write-safe comparator changes, blocking or allowing risky writes. -/
  | writeSafeChange (c : Comparator) (high : Bool) (mv : Nat)
  /-- BLOCK_LOCK_ACQUIRED (R284): A Yobor port acquires block lock and enters TRAINING. -/
  | blockLockAcquired (sp : SpPort)
  /-- BLOCK_LOCK_LOST (R284): A Yobor port loses block lock or exceeds the sync-header error rate and goes DOWN. -/
  | blockLockLost (sp : SpPort) (errors : Bool)
  /-- PEER_SILENT (R284): No HELLO for 1 ms returns an UP port to TRAINING. -/
  | peerSilent (sp : SpPort)
  /-- HELLO_TX (R291): Every 100 µs a live port sends an ENU HELLO. -/
  | helloTx (sp : SpPort)
  /-- HELLO_RX (R291): A received HELLO decides the port's roles and link state. -/
  | helloRx (sp : SpPort) (x : HelloSeen)
  /-- CELL_FRAMING_ERROR (R285): An unexpected block discards a partial cell and is counted. -/
  | cellFramingError (sp : SpPort)
  /-- FLOW_XOFF_RX (R285): An XOFF ordered set stops MGT cells on the port. -/
  | flowXoffRx (sp : SpPort)
  /-- FLOW_XON_RX (R285): An XON ordered set lets MGT cells flow again. -/
  | flowXonRx (sp : SpPort)
  /-- EVT_CELL_RX (R301): An EVT cell is forwarded and an accepted STOP or fault cell is acted on. -/
  | evtCellRx (sp : SpPort) (cell : Cell)
  /-- SYNC_TX (R297): Every 125 µs a node sends SYNC on each UP down port. -/
  | syncTx
  /-- SYNC_RX (R297): An accepted SYNC corrects the timebase and moves the node state. -/
  | syncRx (sp : SpPort) (cell : Cell)
  /-- SYNC_LOSS (R295): No accepted SYNC for 1 ms makes the node LOST. -/
  | syncLoss
  /-- DELAY_REQ_TX (R296): The SPNU side sends a DELAY_REQ on schedule. -/
  | delayReqTx
  /-- DELAY_REQ_RX (R296): A received DELAY_REQ is answered with DELAY_RESP. -/
  | delayReqRx (sp : SpPort) (cell : Cell) (turn : U32)
  /-- DELAY_RESP_RX (R296): A DELAY_RESP updates the link delay mean. -/
  | delayRespRx (sp : SpPort) (cell : Cell) (rtt : Nat)
  /-- POS_PUBLISH (R298): A published local source sends a POS cell on edge, change or 4 µs. -/
  | posPublish (n : Fin 4)
  /-- POS_CELL_RX (R299): A POS cell is forwarded and updates the bound remote sources. -/
  | posCellRx (sp : SpPort) (cell : Cell)
  /-- DMD_TX (R303): Every 100 µs or on change a node sends its subtree demand up. -/
  | dmdTx
  /-- DMD_RX (R303): A child's DMD updates the node's subtree demand. -/
  | dmdRx (sp : SpPort) (cell : Cell)
  /-- CHILD_LOST (R303): A child without DMD for 1 ms counts as lost. -/
  | childLost (sp : SpPort)
  /-- MGT_CMD_RX (R304): A tunnelled CMD message is executed at the target. -/
  | mgtCmdRx (sp : SpPort) (cell : Cell)
  /-- MGT_CPL_RX (R304): A CPL message is written as a completion at the entry node. -/
  | mgtCplRx (sp : SpPort) (cell : Cell)
  /-- MGT_EVT_RX (R305): An MGT EVT message is written by the event sink. -/
  | mgtEvtRx (sp : SpPort) (cell : Cell)
  /-- MGT_RD_REQ_RX (R305): The entry node reads host memory for a target and returns RD_DATA. -/
  | mgtRdReqRx (sp : SpPort) (cell : Cell)
  /-- MGT_RD_DATA_RX (R305): The target receives host data read for a tunnelled command. -/
  | mgtRdDataRx (sp : SpPort) (cell : Cell)
  /-- MGT_WR_REQ_RX (R305): The entry node receives a write request from a target. -/
  | mgtWrReqRx (sp : SpPort) (cell : Cell)
  /-- MGT_WR_DATA_RX (R305): The entry node writes received data to host memory and returns WR_ACK. -/
  | mgtWrDataRx (sp : SpPort) (cell : Cell)
  /-- MGT_WR_ACK_RX (R305): The target receives the status of a tunnelled host write. -/
  | mgtWrAckRx (sp : SpPort) (cell : Cell)
  /-- TUNNEL_TIMEOUT (R306): No CPL within TUNNEL_TIMEOUT completes the tunnelled command with TIMEOUT. -/
  | tunnelTimeout (ttag : BitVec 16)
  /-- ENU_PROBE_RX (R293): A child measures its delay and answers PROBE with REPLY or REFUSE. -/
  | enuProbeRx (sp : SpPort) (cell : Cell)
  /-- ENU_REPLY_RX (R292): A parent sends ASSIGN with the next free ID. -/
  | enuReplyRx (sp : SpPort) (cell : Cell)
  /-- ENU_ASSIGN_RX (R295): A node takes its ID, depth and epoch and enumerates its down ports. -/
  | enuAssignRx (sp : SpPort) (cell : Cell)
  /-- ENU_DONE_RX (R292): A child's DONE lets the parent continue after its subtree. -/
  | enuDoneRx (sp : SpPort) (cell : Cell)
  /-- ENU_REFUSE_RX (R293): A child's REFUSE marks the down port REFUSED. -/
  | enuRefuseRx (sp : SpPort) (cell : Cell)
  /-- ENU_PROBE_TIMEOUT (R292): No answer to PROBE within 2 ms counts the port as timed out. -/
  | enuProbeTimeout (sp : SpPort)
  /-- CAN_FRAME_RX (R322): A received CAN frame is acted on as a press bus frame or filtered to the host FIFO. -/
  | canFrameRx (c : Fin 2) (x : CanHeard)
  /-- PRESS_STATE_TIMEOUT (R321): No PRESS_STATE for PS_TIMEOUT sends policy requests as a separate source. -/
  | pressStateTimeout
  /-- BUS_OFF_ENTRY (R323): A CAN controller enters bus-off. -/
  | busOffEntry (c : Fin 2) (tec : Nat) (rec : Nat)
  /-- BUS_OFF_RECOVERY (R323): After 128 recessive sequences an AUTO_RECOVER controller rejoins. -/
  | busOffRecovery (c : Fin 2)
  /-- SPEED_DEMAND_TX (R319): The SPEED_DEMAND message is sent every SD_PERIOD or on a large change. -/
  | speedDemandTx
  /-- STATUS_TX (R319): The STATUS message is sent on change and at least every second. -/
  | statusTx
  /-- HEARTBEAT_TX (R319): The HEARTBEAT message is sent every HB_PERIOD. -/
  | heartbeatTx
  /-- CAN_TX_DONE (R333): A host frame is sent and acknowledged, completing BUS_SEND. -/
  | canTxDone (x : CanSent)
  /-- BUS_SEND_TIMEOUT (R333): A frame not sent within TIMEOUT_MS is withdrawn. -/
  | busSendTimeout (id : Nat)
  /-- STOP_N_ACCEPTED (R325): STOP_N accepted low sends a STOP for every quire ARMED or beyond. -/
  | stopNAccepted
  /-- STOP_N_RELEASED (R325): STOP_N accepted high lifts nothing but lets RDY rise. -/
  | stopNReleased
  /-- SPD_DEM_PERIOD (R328): At each 50 µs period start the SPD_DEM high time takes the current demand. -/
  | spdDemPeriod
  /-- VBAT_POWER_ON (R392): VBAT power-on clears the backup domain. -/
  | vbatPowerOn
  /-- CORE_POR (R392): A monitored rail below threshold asserts core POR. -/
  | corePor
  /-- PIN_RESET (R393): RST_N accepted low asserts a pin reset. -/
  | pinReset
  /-- WATCHDOG_EXPIRY (R394): 1.0 s without service makes the watchdog drive RST_N. -/
  | watchdogExpiry
  /-- SELF_RESET_DRIVE (R386): After DELAY_US SELF_RESET drives RST_N low as a pin reset. -/
  | selfResetDrive
  /-- SELF_DRIVE_END (R394): A self-driven 4 µs RST_N drive ends. -/
  | selfDriveEnd
  /-- RESET_SOURCE_RELEASE (R395): The last source releasing starts the stretch and fuse load. -/
  | resetSourceRelease (src : ResetSource)
  /-- FUSE_LOAD_DONE (R397): The fuse load finishes and fuse-fed outputs take their loaded values. -/
  | fuseLoadDone (refOk : Bool)
  /-- STRETCH_END (R396): After 200 µs with the load done the drive is released and the pin checked, giving t1 or PIN_EXT. -/
  | stretchEnd (pinHigh : Bool) (straps : BitVec 5) (testEn : Bool)
  /-- PLL_LOCK (R400): 100 µs after t1 the PLLs lock, islands leave reset and the boot ROM starts. -/
  | pllLock
  /-- SPNU_CLOCK_LOCK (R399): With CLK_S 2 the SPNU receiver locks and islands leave WAIT_CLOCK. -/
  | spnuClockLock
  /-- MAIN_FIRMWARE_READY (R400): Main firmware reaches READY and the node becomes command-ready. -/
  | mainFirmwareReady
  /-- OTP_MARGIN_RECHECK (R433): After 24 h or a 30 °C swing every OTP word is re-read at both margins. -/
  | otpMarginRecheck (aged : List OtpAged)
  /-- SCRUB_STEP (R454): A scrubber or patrol reads a word in an idle cycle and writes back a correction. -/
  | scrubStep (loc : ScrubLoc) (bad : Bool)
  /-- DAC_CALIBRATION (R456): In a quiet span of 1,600 ns a waveform channel's zero and gain are calibrated. -/
  | dacCalibration (p : Fin 32) (c : Chan)
  /-- SENSE_ADC_CALIBRATION (R457): A sense ADC's zero is measured over 500 ns with the switch open. -/
  | senseAdcCalibration (p : Fin 32)
  /-- JTAG_DEBUG_ATTACH (R443): A debug attach extends MEAS5 and sets DEBUG_ATTACHED. -/
  | jtagDebugAttach
  /-- SET_ENDPOINT_ID (R440): MCTP control command that assigns the endpoint ID. -/
  | setEndpointId (b : MctpBinding) (op : BitVec 2) (eid : BitVec 8)
  /-- GET_ENDPOINT_ID (R440): MCTP control command that returns the endpoint ID. -/
  | getEndpointId (b : MctpBinding)
  /-- GET_MCTP_VERSION_SUPPORT (R440): MCTP control command that returns supported versions. -/
  | getMctpVersionSupport (b : MctpBinding) (msgType : BitVec 8)
  /-- GET_MESSAGE_TYPE_SUPPORT (R440): MCTP control command that returns supported message types. -/
  | getMessageTypeSupport (b : MctpBinding)
  /-- MCTP_CMD (R441): A vendor message carrying a command entry is executed using the SRAM staging window. -/
  | mctpCmd (b : MctpBinding) (entry : BitVec 512)
  /-- MCTP_DATA_WR (R441): A vendor message writes bytes into the staging window. -/
  | mctpDataWr (b : MctpBinding) (ofs : U32) (data : Bytes)
  /-- MCTP_DATA_RD (R441): A vendor message reads bytes from the staging window. -/
  | mctpDataRd (b : MctpBinding) (ofs : U32) (len : BitVec 8)
  /-- GET_VERSION (R442): SPDM request answered with the supported version 1.2. -/
  | getVersion (b : MctpBinding) (req : Bytes)
  /-- GET_CAPABILITIES (R442): SPDM request answered with CERT, CHAL and MEAS capabilities. -/
  | getCapabilities (b : MctpBinding) (req : Bytes)
  /-- NEGOTIATE_ALGORITHMS (R442): SPDM request answered with P-384 and SHA-384. -/
  | negotiateAlgorithms (b : MctpBinding) (req : Bytes)
  /-- GET_DIGESTS (R442): SPDM request answered with the certificate chain digest. -/
  | getDigests (b : MctpBinding) (req : Bytes)
  /-- GET_CERTIFICATE (R442): SPDM request answered with the slot 0 certificate chain. -/
  | getCertificate (b : MctpBinding) (req : Bytes)
  /-- CHALLENGE (R442): SPDM request answered with a response signed by the device key. -/
  | challenge (b : MctpBinding) (req : Bytes)
  /-- GET_MEASUREMENTS (R442): SPDM request answered with measurement blocks of MEAS0 to MEAS7. -/
  | getMeasurements (b : MctpBinding) (req : Bytes)
  /-- SPDM_UNSUPPORTED_REQUEST (R442): Any other SPDM request is answered with ERROR UnsupportedRequest. -/
  | spdmUnsupportedRequest (b : MctpBinding) (req : Bytes)
  /-- DMA_TRANSFER_DONE (R372): A host-memory DMA transfer of a command or descriptor finishes, letting class T commands, PAGE_FILL, LOOPBACK and general DMA descriptors complete. -/
  | dmaTransferDone (id : Nat) (data : Bytes)
  /-- HEAD_I2C_TRANSFER_DONE (R210): An I2C transaction with head memory (identity read, status block read, head-memory page read or write) completes or is not acknowledged. -/
  | headI2cTransferDone (p : Fin 32) (ack : Bool) (data : Bytes)
  /-- OTP_PULSE_END (R426): A 12 us or 20 us OTP programming pulse ends and the bit is verified at M0, leading to the next bit, a repeat pulse or OTP_VERIFY_FAIL. -/
  | otpPulseEnd (blown : Bool) (weak : Bool)
  /-- FLASH_WRITE_DONE (R405): A flash erase, page program or read-back finishes, moving a STAGING slot to VALID or a boot record copy to written. -/
  | flashWriteDone (ok : Bool)
  /-- FLASH_PAUSE_TIMEOUT (R409): A flash write paused by WRITE_SAFE at 0 for 10 s ends FW_STAGE with SUPPLY_LOW and leaves the slot EMPTY. -/
  | flashPauseTimeout
  /-- VPP_PRESENCE_CHANGE (R275): The VPP pin crosses 1.0 V, changing THM_SUPPLY.VPP_PRESENT, whether the VPP comparator is active, and the OTP pulse source. -/
  | vppPresenceChange (present : Bool)
  deriving DecidableEq, Repr

end Sys2Proof
end

