-- ==== Sys2Proof/Decode.lean ====
section
/-! DEFINITION. Decoding: the command that an opcode and the parameters of an entry name (R375), and the host's word
decoder, which answers none because no row of spec/opcode_table.json gives bits. -/

namespace Sys2Proof

/-- The command of an opcode (R375), none for an undefined opcode. -/
def commandOf (op : Nat) (h : CmdHdr) (p : Params) : Option Instr :=
  match op with
  | 0x0001 => some (.nop h p)
  | 0x0002 => some (.getInfo h p)
  | 0x0003 => some (.setProfile h p)
  | 0x0004 => some (.selfReset h p)
  | 0x0005 => some (.setTime h p)
  | 0x0006 => some (.getCounters h p)
  | 0x0101 => some (.ringCreate h p)
  | 0x0102 => some (.ringDestroy h p)
  | 0x0103 => some (.ringResume h p)
  | 0x0201 => some (.portOpen h p)
  | 0x0202 => some (.portClose h p)
  | 0x0203 => some (.portConfig h p)
  | 0x0204 => some (.portQuery h p)
  | 0x0205 => some (.headmemRead h p)
  | 0x0206 => some (.headmemWrite h p)
  | 0x0207 => some (.heaterSet h p)
  | 0x0208 => some (.headProfileLoad h p)
  | 0x0301 => some (.encConfig h p)
  | 0x0302 => some (.encQuery h p)
  | 0x0303 => some (.encPreset h p)
  | 0x0304 => some (.quireBind h p)
  | 0x0305 => some (.sosConfig h p)
  | 0x0401 => some (.jobDefine h p)
  | 0x0402 => some (.jobArm h p)
  | 0x0403 => some (.jobStop h p)
  | 0x0404 => some (.jobAbort h p)
  | 0x0405 => some (.jobQuery h p)
  | 0x0406 => some (.demandConfig h p)
  | 0x0407 => some (.tableCommit h p)
  | 0x0501 => some (.waveLoad h p)
  | 0x0502 => some (.levelMapLoad h p)
  | 0x0503 => some (.waveTcompLoad h p)
  | 0x0504 => some (.fireOffsetSet h p)
  | 0x0601 => some (.screenLoad h p)
  | 0x0602 => some (.nucLoad h p)
  | 0x0603 => some (.delayLoad h p)
  | 0x0604 => some (.maskLoad h p)
  | 0x0605 => some (.stitchConfig h p)
  | 0x0606 => some (.deckleSet h p)
  | 0x0701 => some (.nozMapSet h p)
  | 0x0702 => some (.nozMapGet h p)
  | 0x0703 => some (.rvsConfig h p)
  | 0x0704 => some (.rvsLearn h p)
  | 0x0705 => some (.compConfig h p)
  | 0x0706 => some (.wearQuery h p)
  | 0x0801 => some (.thermLimits h p)
  | 0x0802 => some (.thermQuery h p)
  | 0x0803 => some (.sensorSubstitute h p)
  | 0x0804 => some (.supplyQuery h p)
  | 0x0901 => some (.spineConfig h p)
  | 0x0902 => some (.spineEnumerate h p)
  | 0x0903 => some (.spineQuery h p)
  | 0x0904 => some (.remoteEncBind h p)
  | 0x0A01 => some (.busConfig h p)
  | 0x0A02 => some (.busFilter h p)
  | 0x0A03 => some (.busSend h p)
  | 0x0A04 => some (.busQuery h p)
  | 0x0B01 => some (.otpRead h p)
  | 0x0B02 => some (.otpProgram h p)
  | 0x0B03 => some (.otpSeal h p)
  | 0x0B04 => some (.otpMarginCheck h p)
  | 0x0B05 => some (.otpLock h p)
  | 0x0C01 => some (.fwStage h p)
  | 0x0C02 => some (.fwVerify h p)
  | 0x0C03 => some (.fwActivate h p)
  | 0x0C04 => some (.fwQuery h p)
  | 0x0D01 => some (.colophonRead h p)
  | 0x0D02 => some (.colophonLog h p)
  | 0x0E01 => some (.loopback h p)
  | 0x0E02 => some (.testPattern h p)
  | 0x0E03 => some (.eventConfig h p)
  | 0x0E04 => some (.backgroundConfig h p)
  | 0x0F01 => some (.pageAlloc h p)
  | 0x0F02 => some (.pageFree h p)
  | 0x0F03 => some (.pageFill h p)
  | 0x0F04 => some (.pageQuery h p)
  | _ => none

/-- The command that a word spells by the table's bits. No row of the table has bits, so no word spells one. -/
def decodeTableWord (_nbits _w : Nat) : Option Instr := none

end Sys2Proof
end

