-- ==== Sys2Proof/Config.lean ====
section
/-! DEFINITION. What an implementation fixes and the manual does not give: free values, as constants without a
body. Nothing can evaluate them, so no statement can lean on a number. -/

namespace Sys2Proof

/-- The data of an OTP word that Nohaid programs before shipment (regions VT, ID and SEC, 15_otp_trust.md R415).
The manual does not give the values. Log entry 5. PRESUMED. -/
opaque Config.factoryWord : Nat → U64

/-- The check bits of the (72,64) code of R414 (the manual names the class of code, not its matrix). Log entry 6. DESIGN CHOICE. -/
opaque Config.eccCheck : U64 → BitVec 8

/-- The decoder of the (72,64) code of R414 for a word whose check bits do not match: the corrected data, or none
when the word is UNCORRECTABLE. Log entry 6. DESIGN CHOICE. -/
opaque Config.eccFix : U64 → BitVec 8 → Option U64

/-- The public key (x then y, 96 bytes) of the P-384 key pair derived from 48 bytes of KDF output (R438). Log entry 7. DESIGN CHOICE. -/
opaque Config.ecdsaPublic : Bytes → Bytes

/-- An ECDSA P-384 signature (r then s, 96 bytes) with the device key over a digest; the counter stands for the
nonce the signer draws (R439, R442). Log entry 7. DESIGN CHOICE. -/
opaque Config.ecdsaSign : Bytes → Bytes → Nat → Bytes

/-- Whether an ECDSA P-384 signature verifies under a public key over a message (R403, R420). Log entry 7. DESIGN CHOICE. -/
opaque Config.ecdsaVerify : Bytes → Bytes → Bytes → Bool

/-- The bytes of a page-store span that a cut PAGE_FILL leaves undefined (04_data_path.md R139). Log entry 8. DESIGN CHOICE. -/
opaque Config.undefByte : Nat → Nat → Byte

/-- Bytes that a published standard draws at random (the SPDM nonce, 15_otp_trust.md R442). Log entry 9. DESIGN CHOICE. -/
opaque Config.randomByte : Nat → Nat → Byte

/-- The Nohaid root certificate's hash and the intermediate certificate in the boot ROM (R438, R442). Log entry 7. -/
opaque Config.romChain : Bytes

/-- The version of the boot ROM (GET_INFO bytes 36 to 39) and Nohaid's PCI vendor ID (R335). Log entry 10. DESIGN CHOICE. -/
opaque Config.romVersion : U32

/-- Nohaid's PCI vendor ID (R335, R440). Log entry 10. DESIGN CHOICE. -/
opaque Config.vendorId : U16

/-- A value the manual leaves open, drawn fresh each time (R363 RESULT where nothing is stated, and the like). Log entry 8. DESIGN CHOICE. -/
opaque Config.freeValue : Nat → U64

/-- What host memory holds in 32 bytes at an address at a phase of the clock: posted image descriptors that the controller has not read lie
there, and PAGE_FREE answers by them (R138). Log entry 8. DESIGN CHOICE. -/
opaque Config.hostEntry : Nat → Nat → BitVec 256

/-- The present levels of the five strap pins, after they were last sampled at these levels, at a phase of the clock (R8; RST_STRAPS.PINS).
The board drives them. Log entry 93. DESIGN CHOICE. -/
opaque Config.strapPins : BitVec 5 → Nat → BitVec 5

/-- Whether another controller on the wired-OR FAULT_N line pulls it low at a phase of the clock (R326). Log entry 99. DESIGN CHOICE. -/
opaque Config.faultLine : Nat → Bool

/-- What the 32-bit actuation counter of a nozzle reads once it has counted past its end (R246 does not say); the arguments are the
nozzle and the image lines fired. Log entry 42. DESIGN CHOICE. -/
opaque Config.actuationsPast : Nat → Nat → U32

/-- How long the fuse load takes, in 250 ps phases, beyond the least time the manual lets it take; the load ends within 350 us
(R397). Log entry 11. DESIGN CHOICE. -/
opaque Config.freeDelay : Nat → Nat

/-- The output of the fractional-delay filter's 8-tap interpolator at one of its twenty phases over eight scaled samples
(R177); the manual gives no coefficients. Log entry 12. DESIGN CHOICE. -/
opaque Config.fracFilter : Fin 20 → List Int → Int

end Sys2Proof
end

