-- ==== Sys2Proof/Machine/Bits.lean ====
section
/-! DEFINITION. Bit fields, byte order, fixed arrays and the published checksums and digests the spec names:
CRC-8, CRC-16, CRC-32 (R200, R208, R210, R286), SHA-384, HMAC and the counter-mode KDF (R435, R438). -/

namespace Sys2Proof.Machine

/-- `n` bytes of `v`, little-endian (R4). -/
def le : Nat → Nat → Bytes
  | 0, _ => []
  | n + 1, v => BitVec.ofNat 8 v :: le n (v / 256)

/-- The number a little-endian byte string stands for (R4). -/
def rdLE : Bytes → Nat
  | [] => 0
  | b :: bs => b.toNat + 256 * rdLE bs

/-- The `n`-byte number at offset `o` of a record. -/
def rdAt (bs : Bytes) (o n : Nat) : Nat := rdLE ((bs.drop o).take n)

/-- The signed reading of an `n`-bit number. -/
def sgn (bits v : Nat) : Int :=
  if v % 2 ^ bits < 2 ^ (bits - 1) then Int.ofNat (v % 2 ^ bits) else Int.ofNat (v % 2 ^ bits) - 2 ^ bits

/-- A signed value as an unsigned number of `bits` bits. -/
def uns (bits : Nat) (v : Int) : Nat := (v % (2 ^ bits : Int)).toNat

/-- A signed 16-bit little-endian field. -/
def le16s (v : Int) : Bytes := le 2 (uns 16 v)

/-- `n` zero bytes. -/
def zeros (n : Nat) : Bytes := List.replicate n 0

/-- A record zero-padded to `n` bytes. -/
def padTo (n : Nat) (bs : Bytes) : Bytes := bs ++ zeros (n - bs.length)

/-- A record zero-padded to a multiple of 64 bytes (R251). -/
def pad64 (bs : Bytes) : Bytes := padTo ((bs.length + 63) / 64 * 64) bs

/-- Round a length up to a multiple of 64. -/
def up64 (n : Nat) : Nat := (n + 63) / 64 * 64

/-- The bytes of a bit vector, least significant first. -/
def bytesOf {w : Nat} (n : Nat) (v : BitVec w) : Bytes := le n v.toNat

/-- The bits `hi:lo` of a number. -/
def bits (v hi lo : Nat) : Nat := v / 2 ^ lo % 2 ^ (hi + 1 - lo)

/-- Bit `i` of a number. -/
def bit (v i : Nat) : Bool := v.testBit i

/-- A Bool as a number shifted to bit `i`. -/
def bitAt (b : Bool) (i : Nat) : Nat := if b then 2 ^ i else 0

/-- Saturating addition at `2^w - 1`. -/
def satAdd (w v n : Nat) : Nat := min (v + n) (2 ^ w - 1)

/-- Clamp an integer into a range. -/
def clampI (lo hi x : Int) : Int := if x < lo then lo else if hi < x then hi else x

/-- Division to the nearest, halves rounded up (R184, R185, R258, R328). -/
def roundDiv (a b : Int) : Int := if b = 0 then 0 else Int.fdiv (2 * a + b) (2 * b)

/-- Ceiling division of natural numbers. -/
def ceilDiv (a b : Nat) : Nat := if b = 0 then 0 else (a + b - 1) / b

/-- Entry `i` of a fixed array. -/
def look {α : Type} {n : Nat} (v : Vector α n) (i : Fin n) : α := v[i.1]

/-- Change entry `i` of a fixed array. -/
def upd {α : Type} {n : Nat} (v : Vector α n) (i : Fin n) (f : α → α) : Vector α n := v.set i.1 (f v[i.1])

/-- Change every entry of a fixed array, told its index. -/
def updAll {α : Type} {n : Nat} (v : Vector α n) (f : Fin n → α → α) : Vector α n :=
  Vector.ofFn fun i => f i v[i.1]

/-- The indices of a fixed array. -/
def idx (n : Nat) : List (Fin n) := List.finRange n

/-- A number as an index, when it is one. -/
def toFin? (n v : Nat) : Option (Fin n) := if h : v < n then some ⟨v, h⟩ else none

/-- The mask of the indices for which a test holds. -/
def maskOf {n : Nat} (f : Fin n → Bool) : Nat := (idx n).foldl (fun m i => m + bitAt (f i) i.1) 0

/-- The entry at a key of an association list. -/
def assoc {α : Type} (k : Nat) : List (Nat × α) → Option α
  | [] => none
  | (j, a) :: t => if j = k then some a else assoc k t

/-- Put an entry into an association list sorted by key. -/
def assocSet {α : Type} (k : Nat) (a : α) : List (Nat × α) → List (Nat × α)
  | [] => [(k, a)]
  | (j, b) :: t => if k < j then (k, a) :: (j, b) :: t else if j = k then (k, a) :: t else (j, b) :: assocSet k a t

/-- Take an entry out of an association list. -/
def assocDel {α : Type} (k : Nat) (l : List (Nat × α)) : List (Nat × α) := l.filter fun e => e.1 ≠ k

/-- Overwrite a stretch of a list from index `i` on; the list keeps its length. -/
def splice {α : Type} (l : List α) (i : Nat) (new : List α) : List α :=
  (l.take i ++ new ++ l.drop (i + new.length)).take l.length

/-- Entry `i` of a list, or a default. -/
def nth {α : Type} (l : List α) (i : Nat) (d : α) : α := (l[i]?).getD d

/-- Change entry `i` of a list. -/
def modAt {α : Type} (l : List α) (i : Nat) (f : α → α) : List α := l.modify i f

/-! ### CRCs -/

/-- One byte into a reflected CRC of polynomial `poly`. -/
def crcRefStep {w : Nat} (poly : BitVec w) (c : BitVec w) : Nat → BitVec w
  | 0 => c
  | n + 1 => crcRefStep poly (if c.getLsbD 0 then (c >>> 1) ^^^ poly else c >>> 1) n

/-- The IEEE 802.3 CRC-32 of a byte string (R210, R286, R389, R416). -/
def crc32 (bs : Bytes) : U32 :=
  (bs.foldl (fun c b => crcRefStep 0xEDB88320#32 (c ^^^ b.setWidth 32) 8) 0xFFFFFFFF#32) ^^^ 0xFFFFFFFF#32

/-- One bit into a most-significant-first CRC. -/
def crcBit {w : Nat} (poly : BitVec w) (c : BitVec w) (b : Bool) : BitVec w :=
  if (c.msb != b) then (c <<< 1) ^^^ poly else c <<< 1

/-- A most-significant-first CRC over bits (R47, R200, R208). -/
def crcBits {w : Nat} (poly init : BitVec w) (l : List Bool) : BitVec w := l.foldl (crcBit poly) init

/-- The bits of a number of `n` bits, most significant first. -/
def bitsMsb : Nat → Nat → List Bool
  | 0, _ => []
  | n + 1, v => v.testBit n :: bitsMsb n v

/-- CRC-16 of polynomial 0x1021, initial value 0xFFFF, over bits (R200). -/
def crc16 (l : List Bool) : BitVec 16 := crcBits 0x1021#16 0xFFFF#16 l

/-- CRC-8 of polynomial 0x07, initial value 0 (R208). -/
def crc8 (bs : Bytes) : Byte := crcBits 0x07#8 0#8 (bs.flatMap fun b => bitsMsb 8 b.toNat)

/-! ### SHA-384 (FIPS 180-4), HMAC-SHA-384 and the KDF in counter mode (R435, R438) -/

/-- The round constants of SHA-384. -/
def shaK : List U64 :=
  [0x428a2f98d728ae22, 0x7137449123ef65cd, 0xb5c0fbcfec4d3b2f, 0xe9b5dba58189dbbc] ++
  [0x3956c25bf348b538, 0x59f111f1b605d019, 0x923f82a4af194f9b, 0xab1c5ed5da6d8118] ++
  [0xd807aa98a3030242, 0x12835b0145706fbe, 0x243185be4ee4b28c, 0x550c7dc3d5ffb4e2] ++
  [0x72be5d74f27b896f, 0x80deb1fe3b1696b1, 0x9bdc06a725c71235, 0xc19bf174cf692694] ++
  [0xe49b69c19ef14ad2, 0xefbe4786384f25e3, 0x0fc19dc68b8cd5b5, 0x240ca1cc77ac9c65] ++
  [0x2de92c6f592b0275, 0x4a7484aa6ea6e483, 0x5cb0a9dcbd41fbd4, 0x76f988da831153b5] ++
  [0x983e5152ee66dfab, 0xa831c66d2db43210, 0xb00327c898fb213f, 0xbf597fc7beef0ee4] ++
  [0xc6e00bf33da88fc2, 0xd5a79147930aa725, 0x06ca6351e003826f, 0x142929670a0e6e70] ++
  [0x27b70a8546d22ffc, 0x2e1b21385c26c926, 0x4d2c6dfc5ac42aed, 0x53380d139d95b3df] ++
  [0x650a73548baf63de, 0x766a0abb3c77b2a8, 0x81c2c92e47edaee6, 0x92722c851482353b] ++
  [0xa2bfe8a14cf10364, 0xa81a664bbc423001, 0xc24b8b70d0f89791, 0xc76c51a30654be30] ++
  [0xd192e819d6ef5218, 0xd69906245565a910, 0xf40e35855771202a, 0x106aa07032bbd1b8] ++
  [0x19a4c116b8d2d0c8, 0x1e376c085141ab53, 0x2748774cdf8eeb99, 0x34b0bcb5e19b48a8] ++
  [0x391c0cb3c5c95a63, 0x4ed8aa4ae3418acb, 0x5b9cca4f7763e373, 0x682e6ff3d6b2b8a3] ++
  [0x748f82ee5defb2fc, 0x78a5636f43172f60, 0x84c87814a1f0ab72, 0x8cc702081a6439ec] ++
  [0x90befffa23631e28, 0xa4506cebde82bde9, 0xbef9a3f7b2c67915, 0xc67178f2e372532b] ++
  [0xca273eceea26619c, 0xd186b8c721c0c207, 0xeada7dd6cde0eb1e, 0xf57d4f7fee6ed178] ++
  [0x06f067aa72176fba, 0x0a637dc5a2c898a6, 0x113f9804bef90dae, 0x1b710b35131c471b] ++
  [0x28db77f523047d84, 0x32caab7b40c72493, 0x3c9ebe0a15c9bebc, 0x431d67c49c100d4c] ++
  [0x4cc5d4becb3e42b6, 0x597f299cfc657e2a, 0x5fcb6fab3ad6faec, 0x6c44198c4a475817]

/-- The initial hash value of SHA-384. -/
def shaH : List U64 :=
  [0xcbbb9d5dc1059ed8, 0x629a292a367cd507, 0x9159015a3070dd17, 0x152fecd8f70e5939] ++
  [0x67332667ffc00b31, 0x8eb44a8768581511, 0xdb0c2e0d64f98fa7, 0x47b5481dbefa4fa4]

/-- Big-endian bytes of a number. -/
def be (n v : Nat) : Bytes := (le n v).reverse

/-- The number a big-endian byte string stands for. -/
def rdBE (bs : Bytes) : Nat := rdLE bs.reverse

/-- Pad a message to a multiple of 128 bytes. -/
def shaPad (m : Bytes) : Bytes :=
  m ++ [0x80#8] ++ zeros ((239 - m.length % 128) % 128) ++ be 16 (8 * m.length)

/-- The words of a padded message. -/
def shaWords : Nat → Bytes → List U64
  | 0, _ => []
  | n + 1, bs => BitVec.ofNat 64 (rdBE (bs.take 8)) :: shaWords n (bs.drop 8)

/-- Extend the schedule; `w` holds the words so far, newest first. -/
def shaExtend : Nat → List U64 → List U64
  | 0, w => w
  | n + 1, w =>
    let g := fun i => nth w i 0#64
    let s0 := (g 14).rotateRight 1 ^^^ (g 14).rotateRight 8 ^^^ ((g 14) >>> 7)
    let s1 := (g 1).rotateRight 19 ^^^ (g 1).rotateRight 61 ^^^ ((g 1) >>> 6)
    shaExtend n ((g 15 + s0 + g 6 + s1) :: w)

/-- The eight working variables of a round. -/
structure ShaReg where
  a : U64
  b : U64
  c : U64
  d : U64
  e : U64
  f : U64
  g : U64
  h : U64
  deriving DecidableEq, Repr

/-- One round. -/
def shaRound (r : ShaReg) (kw : U64 × U64) : ShaReg :=
  let s1 := r.e.rotateRight 14 ^^^ r.e.rotateRight 18 ^^^ r.e.rotateRight 41
  let ch := (r.e &&& r.f) ^^^ (~~~r.e &&& r.g)
  let t1 := r.h + s1 + ch + kw.1 + kw.2
  let s0 := r.a.rotateRight 28 ^^^ r.a.rotateRight 34 ^^^ r.a.rotateRight 39
  let maj := (r.a &&& r.b) ^^^ (r.a &&& r.c) ^^^ (r.b &&& r.c)
  { a := t1 + (s0 + maj), b := r.a, c := r.b, d := r.c, e := r.d + t1, f := r.e, g := r.f, h := r.g }

/-- A hash value as working variables. -/
def shaLoad (h : List U64) : ShaReg :=
  { a := nth h 0 0, b := nth h 1 0, c := nth h 2 0, d := nth h 3 0,
    e := nth h 4 0, f := nth h 5 0, g := nth h 6 0, h := nth h 7 0 }

/-- Absorb one block. -/
def shaBlock (h : List U64) (blk : Bytes) : List U64 :=
  let w := (shaExtend 64 (shaWords 16 blk).reverse).reverse
  let r := (shaK.zip w).foldl shaRound (shaLoad h)
  List.zipWith (· + ·) h [r.a, r.b, r.c, r.d, r.e, r.f, r.g, r.h]

/-- Absorb blocks, `n` at most. -/
def shaBlocks : Nat → List U64 → Bytes → List U64
  | 0, h, _ => h
  | n + 1, h, m => if m.isEmpty then h else shaBlocks n (shaBlock h (m.take 128)) (m.drop 128)

/-- SHA-384 of a byte string, 48 bytes in output order. -/
def sha384 (m : Bytes) : Bytes :=
  let p := shaPad m
  ((shaBlocks (p.length / 128) shaH p).take 6).flatMap fun w => be 8 w.toNat

/-- HMAC-SHA-384. -/
def hmac384 (key m : Bytes) : Bytes :=
  let k := padTo 128 (if key.length > 128 then sha384 key else key)
  sha384 (k.map (· ^^^ 0x5C#8) ++ sha384 (k.map (· ^^^ 0x36#8) ++ m))

/-- One block of the SP 800-108 counter-mode KDF: counter, label, zero byte, output length in bits. -/
def kdf384 (key label : Bytes) : Bytes := hmac384 key (be 4 1 ++ label ++ [0#8] ++ be 4 384)

end Sys2Proof.Machine
end

