-- ==== Sys2Proof/Machine/State.lean ====
section
/-! DEFINITION. The state of the SKP3232 as plain data: everything the manual gives the machine, the queue of waiting
commands, and the model's own counters. Times are in 250 ps phases of the TIME clock (R43) unless a name says otherwise;
positions are Q48.8 (R52); speeds are unsigned Q32.16 (R57). -/

namespace Sys2Proof.Machine

/-! ### Bytes of the block's own memories -/

/-- Bytes by address in one canonical form: addresses strictly rising, no byte equal to 0 listed; an unlisted byte reads 0
(log entry 13). -/
structure Mem where
  cells : List Host.Cell
  deriving DecidableEq, Repr

/-! ### Host link and rings (12_host_rings.md) -/

/-- RING_STATUS.STATE (R354). -/
inductive RingState where
  | absent
  | active
  | halted
  | closing
  deriving DecidableEq, Repr

/-- One ring window (R341, R342, R354). -/
structure Ring where
  base : U64
  size : BitVec 17
  head : Nat
  tail : Nat
  holdoff : Byte
  pair : BitVec 6
  vector : BitVec 6
  irqEn : Bool
  haltCode : Nat
  pass : Nat
  st : RingState
  dropped : Nat
  /-- the next entry the controller reads on a host-produced ring; entries from `head` to here are fetched, unretired -/
  fetch : Nat
  /-- the pass catchword of the entry at `fetch` (R345) -/
  fetchPass : Nat
  /-- re-reads used for the entry at `fetch` (R345), and when the next one is due -/
  rereads : Nat
  rereadAt : Nat
  /-- interrupt holdoff running until (R339), and whether an entry arrived during it -/
  holdUntil : Nat
  arrived : Bool
  deriving DecidableEq, Repr

/-- The PCI Express function (R335, R337, R340, R355). -/
structure HostLink where
  up : Bool
  rate : Nat
  width : Nat
  /-- Max_Payload_Size and Max_Read_Request_Size in bytes, as the host has set them (R335) -/
  mps : Nat
  mrrs : Nat
  d3hot : Bool
  perstLow : Bool
  /-- MSI-X function enable and function mask -/
  msixEn : Bool
  msixMask : Bool
  /-- MSI-X table: address and data of each vector (96 bits), and its mask bit -/
  msixTab : Vector (BitVec 96) 64
  msixVMask : Vector Bool 64
  msixPend : BitVec 64
  deriving DecidableEq, Repr

/-- The GLB block and device-wide settings. -/
structure Glb where
  /-- GLB_ID.PART is 0x3232 (else SKP3216), as the fuses say (R1, R2, R422) -/
  part3232 : Bool
  layout : BitVec 2
  capped : Bool
  forced : Bool
  abortOnPerst : Bool
  bgShare : BitVec 2
  err : BitVec 5
  irqMask : U32
  /-- GLB_IRQ_STATUS AND GLB_IRQ_MASK as last evaluated (R340) -/
  irqSeen : U32
  pselA : BitVec 5
  bcastA : Bool
  pselB : BitVec 5
  bcastB : Bool
  /-- staging of the compare low halves in each port window: PWA start and stop, PWB start and stop (R90) -/
  stageAStart : U32
  stageAStop : U32
  stageBStart : U32
  stageBStop : U32
  tbHi : U32
  deriving DecidableEq, Repr

/-- The counters of GET_COUNTERS (R388), saturating. -/
structure Counters where
  cmds : Nat
  refused : Nat
  events : Nat
  unwritten : Nat
  dropped : Nat
  telWritten : Nat
  telDropped : Nat
  rereads : Nat
  dmaFaults : Nat
  tunnelSent : Nat
  tunnelRun : Nat
  tunnelTimeouts : Nat
  msix : Nat
  deriving DecidableEq, Repr

/-- Routing of one event group (R379). -/
structure Route where
  ring : Byte
  minSev : Nat
  disable : U16
  deriving DecidableEq, Repr

/-! ### Commands being executed (13_commands_events.md) -/

/-- What a command holds while it executes (R368). -/
inductive Subject where
  | port (p : Nat)
  | quire (q : Nat)
  | source (n : Nat)
  | ring (r : Nat)
  | region (h : Nat)
  | can (c : Nat)
  | tile (t : Nat)
  | mask (t : Nat)
  | sos (i : Nat)
  | profile
  | spine
  | otp
  | flash
  | timebase
  | routing
  deriving DecidableEq, Repr

/-- What an executing command waits for. -/
inductive Wait where
  /-- a transfer from or to host memory (R372 class T) -/
  | dma
  /-- the swap of the ports of this mask; those already swapped; the boundary RESULT reports, once known, and the port whose swap gives
  it: the lowest named one whose quire ran when the command executed, 32 without one (R173) -/
  | swap (todo done : U32) (bound : Option Int) (low : Nat)
  /-- a shadow-bank write held until the copy of R17 -/
  | copy
  /-- bring-up; whether the identity record has been read and checked (R212) -/
  | bringup (checked : Bool)
  | retrain
  /-- head-memory pages (R226, R227) -/
  | headMem
  /-- the wear commit of a port (R248) -/
  | wear
  /-- the quire leaving STOPPING (R103, R104) -/
  | drain
  | ringClose
  | otp
  | flash
  /-- a CAN frame in the transmit queue until this time (R333) -/
  | can (deadline : Nat)
  | learn
  | learnSwap
  /-- the next round end (R279) -/
  | round
  | enumerate
  | posture
  deriving DecidableEq, Repr

/-- The ports that a TABLE_COMMIT still has to swap. -/
def Wait.todo : Wait → U32
  | .swap todo _ _ _ => todo
  | .dma | .copy | .bringup _ | .retrain | .headMem | .wear | .drain | .ringClose | .otp | .flash | .can _ | .learn | .learnSwap | .round
  | .enumerate | .posture => 0

/-- A command in execution. -/
structure Exec where
  id : Nat
  op : Nat
  h : CmdHdr
  p : Params
  subj : List Subject
  wait : Wait
  /-- host data received so far, and how many bytes the present transfer needs -/
  data : Bytes
  need : Nat
  /-- WR_ACKs of the entry node still due (R305) -/
  acks : Nat
  deriving DecidableEq, Repr

/-- A fetched command that has not started (R368). -/
structure Waiting where
  /-- 0 for this node, 0xFFF for a broadcast, else the node the tunnel takes it to (R373, R374) -/
  target : Nat
  op : Nat
  h : CmdHdr
  p : Params
  /-- CATCHWORD of its entry, which a CMD message carries on (R304) -/
  cw : Nat
  /-- a reserved bit of its entry's header is set (R9, R306) -/
  bad : Bool
  deriving DecidableEq, Repr

/-! ### What the block sends out -/

/-- One thing the block sends out, in the order it sends it. Log entry 4: DESIGN CHOICE. -/
inductive Out where
  /-- a completion or event entry written at an index of a ring -/
  | ringWrite (ring idx : Nat) (addr : Nat) (entry : Bytes)
  /-- configuration space is served: vendor, device, revision, class code, the size of BAR 0 (R335) -/
  | identity (vendor device revision cls bar : Nat)
  | hostWrite (addr : Nat) (data : Bytes)
  /-- band data read for a port, and a general DMA transfer read from host memory on a ring -/
  | bandRead (p addr len : Nat) (ns : Bool)
  | gdmaRead (ring id addr len : Nat) (ns : Bool)
  | dmaRead (id addr len : Nat) (ns : Bool)
  | entryRead (ring idx : Nat) (addr : Nat)
  | msix (vector : Nat)
  /-- the answer of a register read with a side effect -/
  | readData (off : Nat) (v : U32)
  | cell (sp : SpPort) (c : Cell)
  | flow (sp : SpPort) (xoff : Bool)
  | canFrame (c : Fin 2) (f : CanFrame)
  /-- an error flag: active, of dominant bits, or passive (R315) -/
  | canError (c : Fin 2) (active : Bool)
  /-- a HIF-A or HIF-B timing-lane word (R201): lane, type, payload, the phase at which it begins -/
  | laneWord (p : Nat) (lane : Chan) (type payload : Nat) (at_ : Nat)
  /-- a HIF-C control set (R202): whether lane 0 carries K28.4, for a SOF, and not K28.2, lanes 1 to 3, when it begins -/
  | control (p : Nat) (sof : Bool) (lane1 lane2 lane3 : Nat) (at_ : Nat)
  /-- the code stream of a line (R200, R486): what each of the four data lanes sends, in bits on HIF-A and HIF-B and in bytes on HIF-C,
  when it begins, when it ends -/
  | codeStream (p : Nat) (lanes : List (List Nat)) (from_ to_ : Nat)
  /-- the bytes of a HIF-C map or head-memory frame after its SOF (R206, R208) -/
  | frame (p : Nat) (data : Bytes)
  /-- the outputs of an open port drive, CK at this rate in kHz (0 is held at logic 0), or are high-impedance with the I²C pins released
  (R196 to R198) -/
  | outputs (p : Nat) (on : Bool) (ckKhz : Nat)
  /-- a playback: channel, group mask, slot, start, scaled samples, phase (R177) -/
  | play (p : Nat) (c : Chan) (groups slot start : Nat) (samples : List Int) (phase : Fin 20)
  /-- the output falls to code 0 at once (R22, R189) -/
  | cut (p : Nat) (c : Chan)
  | i2cRead (p addr len : Nat)
  | i2cWrite (p addr : Nat) (data : Bytes)
  | heater (p duty : Nat)
  | encClock (n : Nat)
  | pinRstN (low : Bool)
  /-- SPD_DEM high time in phases (R328) -/
  | pinSpdDem (high : Nat)
  | pwmOff
  | mctpReply (vdm : Bool) (msg : Bytes)
  | flashErase (addr : Nat)
  | flashProgram (addr : Nat) (data : Bytes)
  /-- an OTP pulse: word, bit, whether VPP drives it (R426) -/
  | otpPulse (word bit : Nat) (vpp : Bool)
  deriving DecidableEq, Repr

/-- What waits for D0 (R337): a ring entry with its NOTIFY, or a request to host memory. -/
inductive Parked where
  | entry (ring : Nat) (e : Bytes) (notify : Bool)
  | request (o : Out)
  deriving DecidableEq, Repr

/-! ### Position (02_position.md) -/

/-- ENC_STATE.STATE (R71). -/
inductive SrcState where
  | disabled
  | acquiring
  | tracking
  | held
  | reversed
  | stalled
  | fault
  deriving DecidableEq, Repr

/-- ENC_MODE.MODE (R42). -/
inductive EncMode where
  | off
  | incremental
  | ssi
  | bissC
  deriving DecidableEq, Repr

/-- What ENC_CONFIG stores (R75). -/
structure SrcCfg where
  mode : EncMode
  invert : Bool
  bi : Bool
  gray : Bool
  filtered : Bool
  hyst : Nat
  winUs : Nat
  indexTol : Nat
  glitch : Nat
  indexPeriod : Nat
  indexPhase : Nat
  serBits : Nat
  errBit : Bool
  crcInv : Bool
  crcWidth : Nat
  crcPoly : Nat
  clkKhz : Nat
  serPeriod : Nat
  serGap : Nat
  ackLimit : Nat
  serLatency : Nat
  deriving DecidableEq, Repr

/-- Counters and sticky bits of a local source (R43, R50, R62). -/
structure SrcCount where
  indexLast : Int
  misplaced : Nat
  corrected : Nat
  corrSum : Int
  glitch : Nat
  timeout : Nat
  crc : Nat
  warning : Nat
  event : BitVec 6
  deriving DecidableEq, Repr

/-- The snapshot that ENC_RAW_LO latches (R74). -/
structure Snapshot where
  raw : U64
  mark : U64
  tracked : U64
  speed : U64
  tb : U64
  deriving DecidableEq, Repr

/-- What a remote source keeps of the last good position cell (R65, R299): the origin's state and cause, its
directions, tracking, response, the clamp in counts, and the time TRACKED belongs to (in phases of the timebase). -/
structure PosCopy where
  st : SrcState
  cause : Nat
  trackDir : Bool
  moveDir : Bool
  bi : Bool
  filtered : Bool
  clampA : Nat
  ts : Nat
  deriving DecidableEq, Repr

/-- What a source was before its last count, for a GLITCH fault that takes the count back (R44). -/
structure EdgeUndo where
  raw : Pos
  mark : Pos
  tracked : Pos
  residue : Nat
  edges : List (Nat × Nat × Pos)
  speed : Nat
  base : Option (Pos × Nat)
  adv : Nat
  st : SrcState
  trackDir : Bool
  moveDir : Bool
  deriving DecidableEq, Repr

/-- One position source. -/
structure Source where
  cfg : SrcCfg
  cnt : SrcCount
  /-- what the last read of ENC_RAW_LO latched (R75); before the first, the other halves show the live values -/
  latch : Option Snapshot
  st : SrcState
  cause : Nat
  raw : Pos
  mark : Pos
  tracked : Pos
  /-- advancing edges since the speed window last restarted, newest first: measured time, time in use (R60), mark -/
  edges : List (Nat × Nat × Pos)
  undo : Option EdgeUndo
  /-- S (R57) -/
  speed : Nat
  /-- interpolation base: mark and time of the last advancing edge, none when interpolation waits for the next one (R54) -/
  base : Option (Pos × Nat)
  /-- whole counts the mark advanced between the last two good readings (R58, serial) -/
  adv : Nat
  trackDir : Bool
  moveDir : Bool
  warn : Bool
  misplaceRun : Nat
  presetPend : Option Pos
  /-- the index residue counter (R61) -/
  residue : Nat
  levelA : Bool
  levelB : Bool
  /-- the level of Z as last accepted (R43) -/
  levelZ : Bool
  lastA : Option Nat
  lastB : Option Nat
  /-- serial: the last raw reading, the preset offset to add to later readings, a preset that waits for the next good
  reading (R77), consecutive bad frames (R50), start of the frame in progress, whether the line was idle -/
  reading : Option Nat
  presetNext : Option Pos
  badRun : Nat
  frameAt : Option Nat
  nextFrame : Nat
  lineIdle : Bool
  /-- remote: bound origin, copy of its last good cell, when the last cell (or the bind) came -/
  bound : Option (Nat × Nat)
  copy : Option PosCopy
  cellAt : Nat
  /-- publication: when the last POS cell left, and the state, direction and cause it carried (R298) -/
  pubAt : Nat
  pubKey : Nat
  /-- a POS cell is owed for an advancing edge -/
  pubEdge : Bool
  deriving DecidableEq, Repr

/-! ### Fire timing (03_fire_timing.md) -/

/-- QUIRE_STATE.STATE (R99). -/
inductive QState where
  | unbound
  | bound
  | armed
  | flyleaf
  | printing
  | suspended
  | stopping
  | fault
  deriving DecidableEq, Repr

/-- A stored job (R101). -/
structure Job where
  through : Bool
  halt : Bool
  stopPort : Bool
  bidir : Bool
  truncStop : Bool
  flyleaf : Nat
  maxRate : Nat
  flight : Nat
  policy : Nat
  sosFwd : Nat
  sosRev : Nat
  swathLines : Nat
  swaths : Nat
  firstFwd : Int
  firstRev : Int
  jobId : U32
  deriving DecidableEq, Repr

/-- DEMAND_CONFIG of a quire (R136). -/
structure DemandCfg where
  exclude : Bool
  floor : Nat
  warn : Nat
  crit : Nat
  quota : Nat
  fullSpeed : Nat
  deriving DecidableEq, Repr

/-- The counters of a quire's job (R97, R102) and of its swaths. -/
structure QCount where
  fired : Nat
  late : Nat
  skipped : Nat
  inhibited : Nat
  sosRejected : Nat
  truncated : Nat
  completed : Nat
  deriving DecidableEq, Repr

/-- One quire. -/
structure Quire where
  st : QState
  cause : Nat
  scan : Bool
  source : Fin 16
  ports : U32
  active : U32
  pitch : Nat
  origin : U64
  job : Option Job
  dem : DemandCfg
  lateWin : Nat
  cmpStart : Int
  cmpStop : Int
  next : Int
  cnt : QCount
  /-- the armed grid: the boundary of line 0 of the job (CLOCKED) or of the swath (SCAN) -/
  anchor : Int
  /-- direction of the swath in progress or of the next swath (R92): true is decreasing -/
  down : Bool
  gate : Bool
  /-- the first line of the job or of the swath has become due (R87) -/
  running : Bool
  /-- the job's first line has fired (QUIRE_EVENT.STARTED) -/
  started : Bool
  /-- swath ordinal w (R147) -/
  swathOrd : Nat
  /-- boundaries counted as fired, late, inhibited, as far as a port of the job has still to decide one of them -/
  tallyF : List Int
  tallyL : List Int
  tallyI : List Int
  /-- STOPs that wait for a boundary, each with its cause (R89, R134) -/
  stopAt : List (Int × Nat)
  /-- the causes of the STOPs at the boundary at which the job stops or has stopped (R97, R103) -/
  causes : List Nat
  /-- stop at the end of the current or next swath (JOB_STOP SWATH_END) -/
  stopSwath : Bool
  /-- the ports are purged when the job ends (R104, R127) -/
  purge : Bool
  /-- a JOB_ABORT is outstanding, or an abort on PERST_N runs (R104, R355): the quire goes on to BOUND whatever its cause -/
  abort : Bool
  lateStart : Bool
  resumeTo : QState
  sosPos : U64
  sosTb : U64
  latches : Vector U32 6
  event : BitVec 6
  deriving DecidableEq, Repr

/-- A request held by the stop arbiter until lifted (R21): an INHIBIT or CAP. -/
structure Req where
  src : ReqSource
  sc : ReqScope
  kind : ReqKind
  /-- withdrawn by its source; lifted at the first line boundary after -/
  gone : Bool
  deriving DecidableEq, Repr

/-- One start-of-scan input (R93, R106). -/
structure Sos where
  enable : Bool
  falling : Bool
  filter : Nat
  holdoff : Nat
  winLo : U64
  winHi : U64
  last : Option Nat
  deriving DecidableEq, Repr

/-! ### Tables (05_screening.md, 06_waveforms.md) -/

/-- Stitch and pass settings (R170). -/
structure Stitch where
  passEn : Bool
  leftTile : Nat
  rightTile : Nat
  leftWidth : Nat
  rightWidth : Nat
  yOfs : Nat
  passTile : Nat
  passes : Nat
  advance : Int
  passX : Nat
  passY : Nat
  deriving DecidableEq, Repr

/-- Compensation policy (R172). -/
structure Comp where
  mode : Nat
  airOut : Bool
  weakOut : Bool
  radius : Nat
  w1 : Nat
  w2 : Nat
  vol : List Nat
  deriving DecidableEq, Repr

/-- An entry of a temperature table (R195). -/
structure TEntry where
  tStart : Int
  slot : Nat
  g0 : Nat
  g1 : Nat
  deriving DecidableEq, Repr

/-- The banked part of a waveform channel (R183). -/
structure ChanBank where
  rows : List Nat
  keepwet : Option Nat
  tcomp : List TEntry
  sensor : Nat
  hyst : Nat
  rankGain : Nat
  deriving DecidableEq, Repr

/-- One bank of a port's tables (R15, R142). -/
structure Bank where
  /-- gain and curve index per nozzle -/
  ents : List (Nat × Nat)
  curves : List (List Nat)
  tile : Nat
  xOfs : Nat
  yOfs : Nat
  delays : List Nat
  deckFirst : Nat
  deckLast : Nat
  stitch : Stitch
  comp : Comp
  cap : Nat
  frac : Vector Int 8
  host : List Nat
  chA : ChanBank
  chB : ChanBank
  deriving DecidableEq, Repr

/-- A threshold tile (R148) or a mask tile (R154, depth 0). -/
structure Tile where
  depth : Nat
  w : Nat
  h : Nat
  data : List Nat
  damaged : Bool
  deriving DecidableEq, Repr

/-- A write to the shadow bank that waits for the copy of R17. -/
inductive HeldWrite where
  | reg (off : Nat) (v : U32)
  | cmd (id : Nat)
  deriving DecidableEq, Repr

/-- What lines before a swap's boundary still go by on a port (R15, R17): their bank, the line number at which the new bank begins,
counted from line 0 of the job, the head's map bank that holds their rows, and the temperature entries in use for them (R185, R206). -/
structure OldBank where
  bank : Bank
  from_ : Int
  mapBank : Bool
  entryA : Nat
  entryB : Nat
  deriving DecidableEq, Repr

/-- The banks of an open port and what hangs on their swap (R15 to R17, R143, R144). -/
structure Banks where
  live : Bank
  shadow : Bank
  /-- the bank before the last swap, until the copy of R17 -/
  old : Option OldBank
  heldW : List HeldWrite
  /-- table index and entry index of each entry of the live bank known to be uncorrectable -/
  hurt : List (Nat × Nat)
  /-- table index and entry index of each damaged entry that poisons the shadow bank -/
  poison : List (Nat × Nat)
  /-- tables (by R164 number, 7 A and 17 B for level maps) and entries written since the last swap -/
  written : List (Nat × Nat)
  pend : Bool
  /-- the channel's shadow temperature table has been written since the last swap (R185) -/
  tcompA : Bool
  tcompB : Bool
  deriving DecidableEq, Repr

/-- A waveform slot (R174, R175). -/
structure Slot where
  start : Nat
  samples : Nat
  segs : List (Nat × Nat)
  deriving DecidableEq, Repr

/-- A waveform channel (R174, R184, R185). -/
structure Channel where
  /-- samples written, by index (canonical: rising, none equal to 0) -/
  mem : List (Nat × Int)
  slots : List (Nat × Slot)
  /-- samples known to be uncorrectable, until they are written anew (R190, R455) -/
  hurt : List Nat
  entry : Nat
  lastT : Option Int
  /-- the last gain used for a line, for the monitor (R234) -/
  lastGain : Nat
  lastCal : Nat
  /-- the head's two map banks of this channel (R206) and whether new shadow rows wait to be sent -/
  map0 : List Nat
  map1 : List Nat
  mapDue : Bool
  deriving DecidableEq, Repr

/-! ### Head ports (07_head_ports.md) -/

/-- PW_STATUS.STATE (R215). -/
inductive PState where
  | closed
  | opening
  | idle
  | armed
  | printing
  | draining
  | fault
  deriving DecidableEq, Repr

/-- A head profile (R221). -/
structure Profile where
  gen : Nat
  model : Nat
  nozzles : Nat
  depths : Nat
  sense : Bool
  th1 : Bool
  laneMax : Nat
  tMinjet : Int
  tColdWarn : Int
  tWarn : Int
  tLimit : Int
  tAbs : Int
  tHyst : Int
  capLevel : Nat
  htrKp : Nat
  htrKi : Nat
  htrMax : Nat
  thCurve : List (Nat × Int)
  /-- channel (0 A, 1 B) and group of each nozzle, as the byte of the profile -/
  noz : List Nat
  deriving DecidableEq, Repr

/-- PORT_CONFIG (R222). -/
structure PortCfg where
  form : Nat
  nrl : Bool
  depth : Nat
  nozzles : Nat
  errLimit : Nat
  laneRate : Nat
  deriving DecidableEq, Repr

/-- A word for the head that waits for its lane (R201, R202, R204): when it is to begin, its channel, TYPE, payload or code C, and
the group mask of a PLAY or the nozzle of a SENSE. -/
structure LinkWord where
  begin_ : Nat
  ch : Chan
  type : Nat
  payload : Nat
  more : Nat
  deriving DecidableEq, Repr

/-- Link state of a port (R200 to R208, R216). -/
structure Link where
  up : Bool
  errs : Nat
  total : Nat
  blockStart : Nat
  blockLines : Nat
  raised : Bool
  segLate : Nat
  /-- until when each timing lane is busy (on HIF-C `laneA`, for the control sets), and the words that wait -/
  laneA : Nat
  laneB : Nat
  words : List LinkWord
  /-- the head's map bank that holds the live rows -/
  mapBank : Bool
  /-- the head's pending codes, active codes (R205) -/
  headPend : List Nat
  headActive : List Nat
  /-- end of the last code stream (R486), the line of the last LATCH, and the codes streamed for a line that has not become due -/
  streamEnd : Nat
  latchK : Option Int
  next : Option (Int × List Nat)
  /-- time of the last valid status frame, lanes in lock as last reported, since when a lane has been unlocked (R208, R216) -/
  lastStatus : Nat
  lanes : Nat
  /-- attempts of the link steps of R212 under way, 0 while none runs -/
  train : Nat
  unlockedAt : Option Nat
  /-- T0 and T1 of the last valid status frame (R259): none before one, none inside for 0x8000 -/
  bcT0 : Option (Option Int)
  bcT1 : Option (Option Int)
  /-- the line-frame error count of the last HIF-B status block (R210) -/
  hifbBase : Option Nat
  /-- nozzle named by the SENSE in use (R207) -/
  sense : Option Nat
  deriving DecidableEq, Repr

/-- Heater of a port (R213, R214). -/
structure Heater where
  mode : Nat
  sensor : Nat
  setpoint : Int
  duty : Nat
  integ : Int
  out : Nat
  deriving DecidableEq, Repr

/-- Live and tap registers of a port window (R219). -/
structure Window where
  /-- PW_CTRL as in force, and ARM_CLEAR and HTR_FORCE_OFF as written, when they wait for the next line boundary (R18) -/
  armClear : Bool
  htrOff : Bool
  ctrlDue : Option (Bool × Bool)
  event : BitVec 12
  eventEn : BitVec 12
  line : U32
  lastDue : Option Int
  tempT0 : Int
  tempT1 : Int
  fill : Nat
  demand : Nat
  psFill : Nat
  ttu : Nat
  satLines : Nat
  nozOut : Nat
  deriving DecidableEq, Repr

/-- One playback of a line (R81, R177, R178). -/
structure Play where
  ch : Chan
  groups : Nat
  start : Nat
  slot : Nat
  segs : List (Nat × Nat)
  samples : Nat
  gain : Nat
  rank : Nat
  /-- 0 waiting, 1 running, 2 ended -/
  phase : Nat
  deriving DecidableEq, Repr

/-- The arbiter's decision for a line (R84). -/
inductive Decision where
  | fire (cap : Nat)
  | suppress
  deriving DecidableEq, Repr

/-- A line that has become due and is committed (R80). -/
structure Line where
  k : Int
  /-- lines since line 0 of the job or swath, the end of the port's playbacks before this line -/
  idx : Nat
  prevEnd : Nat
  /-- the head map bank the LATCH selects (R206) -/
  mapBank : Bool
  flyleaf : Bool
  down : Bool
  /-- the committed cap of the bank that governs the line (R19) -/
  cap : Nat
  /-- earliest start, latch instant, decision instant, in phases -/
  first : Nat
  latchAt : Nat
  decideAt : Nat
  late : Bool
  dec : Option Decision
  latched : Bool
  /-- the image lines that missed the line's deadline (R132), and the line's codes once they are gathered (R486) -/
  miss : List Nat
  codes : Option (List Nat)
  plays : List Play
  probe : Option (Nat × Bool)
  /-- the image line whose nominal line this is, and whether it was complete at the deadline (R132) -/
  img : Option (Nat × Bool)
  /-- the start of the line's port window (R230), when its last playback ended -/
  windowAt : Option Nat
  deriving DecidableEq, Repr

/-! ### Data path (04_data_path.md) -/

/-- A fetched, unretired image descriptor (R108, R110, R118). -/
structure Desc where
  kind : Nat
  ns : Bool
  notify : Bool
  tag : U16
  lines : Nat
  len : Nat
  addr : Nat
  region : Nat
  ofs : Nat
  reps : Nat
  /-- image line of the job that is its first -/
  startJ : Int
  /-- image lines of it decoded so far (over every repeat), and byte offset of the next one in the band or repeat -/
  decoded : Nat
  byteOfs : Nat
  /-- lines of a BLANK or REPEAT header still to be produced: how many, whether they repeat -/
  run : Nat
  runRep : Bool
  /-- the rest of the band (or repeat) decodes as zeros after a decode error -/
  broken : Bool
  /-- every byte of the band is staged; `data` holds the bytes staged so far (R115) -/
  staged : Bool
  retired : Bool
  /-- a host reset has closed the ring it came from (R356): its retirement shows nowhere -/
  ringless : Bool
  /-- byte offsets of the decoded lines, the newest first (R115) -/
  starts : List Nat
  /-- lines that fired at their nominal line, and lines discarded -/
  firedN : Nat
  lostN : Nat
  data : Bytes
  deriving DecidableEq, Repr

/-- A decoded image line not yet screened. -/
structure ImgLine where
  j : Nat
  bytes : Bytes
  /-- level codes given directly (test patterns, R390) -/
  levels : Option (List Nat)
  /-- the line has been counted in SAT_LINES (R163) -/
  sat : Bool
  deriving DecidableEq, Repr

/-- A line of the line store (R121). -/
structure StoreLine where
  j : Nat
  nominal : Int
  codes : List Nat
  /-- first nozzles of the 64-nozzle words with an uncorrectable error (R125) -/
  badW : List Nat
  deriving DecidableEq, Repr

/-- A test pattern (R390). -/
structure Pattern where
  kind : Nat
  level : Nat
  step : Nat
  lines : Nat
  deriving DecidableEq, Repr

/-- What a test-pattern job sets aside (R390). -/
structure Stash where
  descs : List Desc
  nextJ : Int
  endJ : Int
  total : Option Nat
  prevLine : Option Bytes
  queue : List ImgLine
  deriving DecidableEq, Repr

/-- The data path of a port. -/
structure DataPath where
  descs : List Desc
  /-- next image line of the job to be decoded, the first beyond the fetched descriptors, and the image lines before the MARK once known -/
  nextJ : Int
  endJ : Int
  total : Option Nat
  prevLine : Option Bytes
  queue : List ImgLine
  store : List StoreLine
  /-- retained band data: decoded lines whose nominal line has not fired (R123) -/
  kept : List ImgLine
  pattern : Option Pattern
  /-- the pattern prints in the present job -/
  patOn : Bool
  consumed : Bool
  /-- the port's own image data during a test-pattern job -/
  stash : Option Stash
  /-- times of lines fired in the last 250 ms; times and numbers of lines delivered in the last 10 ms (R128) -/
  firedAt : List Nat
  delivered : List (Nat × Nat)
  /-- the underrun episode in progress: first line of the present report, lines since (R133) -/
  under : Option (Int × Nat)
  critArmed : Bool
  /-- after a host reset the port's image ring has not been created again (R356) -/
  orphan : Bool
  /-- image lines of the job whose nominal line has passed or that were discarded -/
  settled : Nat
  /-- the next line's boundary and the image lines that missed its deadline (R132) -/
  miss : Option (Int × List Nat)
  /-- posted descriptors that a purge still has to take, up to a MARK (R127) -/
  purge : Nat
  /-- image lines below this were discarded: they are never missing (R88) -/
  dropped : Nat
  /-- the first image line of the present swath of a SCAN quire (R122) -/
  base : Nat
  /-- the boundary before the port's first line of the job or swath is still to be crossed (R132) -/
  ahead : Bool
  /-- nothing of the present or last job is left for a purge to take (R127) -/
  spent : Bool
  /-- live values of which PW_FILL.DEMAND and PW_NOZ_OUT show tap copies (R25) -/
  demand : Nat
  nozOut : Nat
  /-- purged descriptors that still wait for a completion slot, in ring order, with the RESULT each gets (R127, R343) -/
  owed : List (Desc × Nat)
  deriving DecidableEq, Repr

/-! ### Nozzle health (08_nozzle_health.md) -/

/-- RVS_CONFIG (R252). -/
structure RvsCfg where
  enable : Bool
  k : Nat
  n : Nat
  recover : Nat
  levels : Nat
  noiseFloor : Nat
  clogAmp : Nat
  clogDecay : Nat
  airPer : Nat
  weakAmp : Nat
  deriving DecidableEq, Repr

/-- A signature of a nozzle in one class (R242, R245). -/
structure Sig where
  amp : Nat
  per : Nat
  decay : Nat
  deriving DecidableEq, Repr

/-- A signature set (R242). -/
structure SigSet where
  p : List (Option Sig)
  k : List (Option Sig)
  slots : Vector (Option Nat) 4
  levels : Nat
  deriving DecidableEq, Repr

/-- The monitor's record of one nozzle (R236, R255). -/
structure Mon where
  state : Nat
  hist : List Nat
  good : Nat
  lastVerdict : Nat
  lastAmp : Nat
  lastPer : Nat
  deriving DecidableEq, Repr

/-- The collection of one nozzle in one class during learning (R244). -/
structure Collect where
  probes : List (Nat × Nat × Nat × Nat)
  scattered : Nat
  learned : Bool
  deriving DecidableEq, Repr

/-- A learning run (R244, R253). -/
structure Learn where
  id : Nat
  wantP : Bool
  wantK : Bool
  count : Nat
  until_ : Nat
  colP : List (Nat × Collect)
  colK : List (Nat × Collect)
  deriving DecidableEq, Repr

/-- Wear counts of a port (R246 to R249). -/
structure Wear where
  cnt : List (Nat × Nat)
  residue : List (Nat × Nat)
  stored : List (Nat × Nat)
  img : Nat
  fly : Nat
  probes : Nat
  failures : Nat
  recoveries : Nat
  openedAt : Nat
  /-- seconds outside CLOSED before this opening; phases at or above T_WARN, and since when they run on -/
  secs : Nat
  warmPh : Nat
  warmFrom : Option Nat
  /-- the newest record has been read; its SEQ, slot and array (R248) -/
  loaded : Bool
  seq : Nat
  slot : Nat
  array : Nat
  /-- time of the last commit (or of the opening), and when the next periodic one is due (R249) -/
  lastCommit : Nat
  dueAt : Nat
  deriving DecidableEq, Repr

/-- The monitor of a port. -/
structure Rvs where
  cfg : RvsCfg
  mon : List Mon
  live : SigSet
  staging : Option SigSet
  /-- the staging set was loaded (every entry replaces) and not learned -/
  stagedLoad : Bool
  learn : Option Learn
  swapDue : Bool
  pointer : Nat
  passes : Nat
  passAt : Nat
  planned : Int
  noWindow : Bool
  monReset : List (Nat × Nat)
  valid : Nat
  invalid : Nat
  short : Nat
  rounds : Nat
  cfgDue : Option RvsCfg
  deriving DecidableEq, Repr

/-! ### Temperature (09_thermal_supply.md) -/

/-- A substitute for a faulty sensor (R273). -/
structure Subst where
  ambient : Bool
  port : Nat
  sensor : Nat
  ofs : Int
  deriving DecidableEq, Repr

/-- A head sensor (R258 to R260, R270). -/
structure Sensor where
  last : Option Int
  run : Nat
  faulty : Bool
  cause : Nat
  subst : Option Subst
  value : Option Int
  deriving DecidableEq, Repr

/-- The thermal state of a head (R261 to R263, R487). -/
structure HeadTherm where
  s0 : Sensor
  s1 : Sensor
  /-- the head temperature record as the last round published it (R24) -/
  rec0 : Option Int
  rec1 : Option Int
  /-- throttle episode: when it began, its grace time in ms, v_q once latched, as numerator and denominator -/
  epi : Option (Nat × Nat × Option (Nat × Nat))
  enforce : Bool
  absSeen : Bool
  limSeen : Bool
  absHold : Bool
  limHold : Bool
  cold : Bool
  minjet : Bool
  checkDue : Bool
  unchecked : Bool
  deriving DecidableEq, Repr

/-- What an access to head memory is for. -/
inductive HeadWhy where
  /-- the identity read of PORT_OPEN and the status block read while a HIF-B link comes up (R212), and in service (R210) -/
  | ident
  | lock
  | status
  /-- HEADMEM_READ and HEADMEM_WRITE, by the id of the executing command (R226, R227) -/
  | host (id : Nat)
  /-- the wear area is read (R248); a wear commit, for a command or periodic (R249) -/
  | wearLoad
  | wearCommit (id : Option Nat)
  /-- whoever asked has gone -/
  | nobody
  deriving DecidableEq, Repr

/-- An access to head memory, page by page (R210, R227): the next address, bytes still to be read, bytes read or still to be
written there, further stretches to write, bytes written so far, and the page under way (over I²C or as a request frame). -/
structure HeadJob where
  why : HeadWhy
  write : Bool
  addr : Nat
  left : Nat
  data : Bytes
  more : List (Nat × Bytes)
  done : Nat
  sent : Option Bool
  deriving DecidableEq, Repr

/-- One head port. -/
structure Port where
  st : PState
  cause : Nat
  fromFault : Bool
  profile : Option Profile
  cfg : Option PortCfg
  ident : Bytes
  prsHigh : Bool
  link : Link
  /-- accesses to head memory, oldest first -/
  hm : List HeadJob
  heater : Heater
  win : Window
  banks : Option Banks
  chA : Channel
  chB : Channel
  lines : List Line
  /-- the next boundary to become due on the port -/
  nextK : Int
  /-- end of the last playback of the port (R83, R99) -/
  playEnd : Nat
  dat : DataPath
  rvs : Rvs
  /-- tap copy of the nozzle states, as of one line boundary (R25, R255) -/
  nozTap : Option (Rvs × Option Banks)
  wear : Wear
  therm : HeadTherm
  senseCal : Nat
  /-- counts at the last telemetry snapshot: fired, late lines and fired lines now (R462) -/
  telFired : Nat
  telLate : Nat
  firedAll : Nat
  lateAll : Nat
  deriving DecidableEq, Repr

/-! ### Page store (R119, R120, R137 to R140) -/

/-- PAGE_QUERY byte 0. -/
inductive PageState where
  | untrained
  | training
  | ready
  | failed
  deriving DecidableEq, Repr

/-- A page-store region. -/
structure Region where
  blocks : Nat
  mem : Mem
  /-- byte addresses with an uncorrectable error (R114, R120) -/
  bad : List Nat
  deriving DecidableEq, Repr

/-- The page store. -/
structure PageStore where
  st : PageState
  gib : Nat
  rate : Nat
  regions : List (Nat × Region)
  corrected : Nat
  uncorr : Nat
  deriving DecidableEq, Repr

/-! ### Die, supplies (09_thermal_supply.md) -/

/-- The device-wide thermal and supply state. -/
structure Thermal where
  round : Nat
  graceMs : Nat
  dieWarn : Int
  dieLimit : Int
  throttle : Nat
  ambient : Option (Fin 8)
  ambCurve : List (Nat × Int)
  /-- when the round in progress ends -/
  roundAt : Nat
  roundCount : U32
  die : Vector (Option Int) 8
  /-- die throttle episode: when it began, its grace, v_q per quire -/
  epi : Option (Nat × Nat)
  epiV : Vector (Option (Nat × Nat)) 8
  enforce : Bool
  limitStop : Bool
  cold : Bool
  faultReq : Bool
  /-- the thermal demand, what it may rise to (R262), and when demands were last evaluated (R130) -/
  demand : Nat
  demandTo : Nat
  demandAt : Nat
  aux : Vector Nat 8
  ambT : Option Int
  supply : Vector Nat 20
  outRun : Vector Nat 20
  /-- supply channels outside their window, and those that are above it (R274) -/
  window : BitVec 20
  windowHi : BitVec 20
  lowVdd : Option Nat
  wsVdd : Bool
  wsVddio : Bool
  wsVpp : Bool
  vppPresent : Bool
  wsLowCount : Nat
  shutCount : Nat
  shutPeak : Int
  event : BitVec 7
  firstRound : Bool
  deriving DecidableEq, Repr

/-! ### Spine (10_spine.md) -/

/-- Link states of a Yobor port (R284). -/
inductive SpLink where
  | down
  | training
  | up
  | disabled
  | refused
  deriving DecidableEq, Repr

/-- SPN_STATE.STATE (R295). -/
inductive SpState where
  | alone
  | joining
  | member
  | synced
  | lost
  deriving DecidableEq, Repr

/-- One Yobor port (R284, R285, R296). -/
structure Yobor where
  link : SpLink
  /-- block lock held; why the link is DISABLED or REFUSED outlives HELLOs -/
  locked : Bool
  paused : Bool
  peer : Nat
  peerUid : BitVec 96
  crcErrs : Nat
  frameErrs : Nat
  lastHello : Nat
  lastHelloTx : Nat
  /-- last eight delay exchanges in ps, newest first; requests sent since TRAINING; outstanding TSEQ and when it left -/
  delays : List Nat
  reqs : Nat
  tseq : Nat
  reqAt : Option Nat
  /-- MGT cells held in this port's buffer and whether XOFF was sent (R285) -/
  mgtHeld : Nat
  xoff : Bool
  /-- MGT cells waiting for the peer's XON, with the port they came in on (R285) -/
  mgtOut : List (Option SpPort × Cell)
  /-- the ID range of the subtree (down ports), nodes in it -/
  lo : Nat
  hi : Nat
  /-- the child's latest DMD: demand, limiter, reason, nodes; when it came (R303) -/
  dmd : Option (Nat × Nat × Nat × Nat)
  dmdAt : Nat
  childLost : Bool
  deriving DecidableEq, Repr

/-- A tunnelled command that waits for its CPL (R304, R306). -/
structure Tunnelled where
  ttag : Nat
  node : Nat
  h : CmdHdr
  deadline : Nat
  /-- a copy of a broadcast -/
  bcast : Bool
  deriving DecidableEq, Repr

/-- A broadcast in progress at the root (R374). -/
structure Broadcast where
  h : CmdHdr
  left : Nat
  answered : Nat
  total : Nat
  failed : Bool
  deriving DecidableEq, Repr

/-- A partly received MGT message or a transfer for another node (R304, R305). -/
structure MgtPart where
  src : Nat
  kind : Nat
  ttag : Nat
  data : Bytes
  nextSeg : Nat
  addr : Nat
  len : Nat
  deriving DecidableEq, Repr

/-- Enumeration in progress on this node (R292). -/
structure Enum where
  /-- the down port being enumerated: SPNA or SPNB -/
  sp : SpPort
  next : Nat
  assigned : Option Nat
  sentAt : Nat
  refused : Nat
  tooDeep : Bool
  version : Bool
  timedOut : Nat
  nodes : Nat
  spvMin : Nat
  spvMinId : Nat
  bigP : Nat
  /-- SYNCED before the ASSIGN (R295) -/
  wasSynced : Bool
  deriving DecidableEq, Repr

/-- The spine interface. -/
structure Spine where
  u : Yobor
  a : Yobor
  b : Yobor
  evtQuires : Byte
  evtIn : Byte
  posOut : BitVec 4
  evtOut : BitVec 3
  lostDemand : Bool
  treeFault : Bool
  posPeriod : Nat
  /-- LAT_BUDGET in force, and as SPINE_CONFIG set it on the root (R311) -/
  latBudget : Nat
  latCfg : Nat
  evtSink : BitVec 12
  tunnelMs : Nat
  st : SpState
  nodeId : Nat
  depth : Nat
  spvOp : Nat
  epoch : Nat
  last : Nat
  parent : Nat
  pathP : Nat
  nodes : Nat
  parentP : Nat
  held : Bool
  enum : Option Enum
  deriving DecidableEq, Repr

/-- Time, demand, faults and the tunnel of the spine interface. -/
structure SpineRun where
  syncAt : Nat
  syncTxAt : Nat
  syncRun : Nat
  syncOfsPs : Int
  firstSync : Bool
  seqs : Vector Byte 6
  dmdTxAt : Nat
  subtree : Nat
  own : Nat
  limiter : Nat
  reason : Nat
  dmdSent : Nat
  faultSet : List Nat
  faultSent : Bool
  event : BitVec 5
  tunnel : List Tunnelled
  heldBack : List Waiting
  bcasts : List Broadcast
  parts : List MgtPart
  nextTtag : Nat
  postureDem : Nat
  deriving DecidableEq, Repr

/-! ### Press bus (11_press_bus.md) -/

/-- A CAN controller's mode (R315). -/
inductive CanMode where
  | off
  | classic
  | fd
  | listen
  deriving DecidableEq, Repr

/-- CAN_c_STATE.STATE. -/
inductive CanState where
  | off
  | errorActive
  | errorPassive
  | busOff
  | recovering
  deriving DecidableEq, Repr

/-- A host acceptance filter (R322, R332). -/
structure CanFilter where
  enable : Bool
  ext : Bool
  id : BitVec 29
  mask : BitVec 29
  deriving DecidableEq, Repr

/-- A received frame in the FIFO (R322). -/
structure CanRx where
  f : CanFrame
  filter : Nat
  tb : Nat
  deriving DecidableEq, Repr

/-- A CAN controller. -/
structure Can where
  mode : CanMode
  autoRec : Bool
  pressMsgs : Bool
  tdc : Bool
  timing : BitVec 64
  tdcOfs : Nat
  st : CanState
  tec : Nat
  recErr : Nat
  busOffs : Nat
  arbLost : Nat
  dropped : Nat
  sent : Nat
  received : Nat
  filters : Vector CanFilter 16
  fifo : List CanRx
  /-- waiting press messages by TYPE with their payloads, and host frames with the id of their command (R323) -/
  press : List (Nat × Bytes)
  host : List (Nat × CanFrame)
  /-- press bus frames that acted here and whose copy the other controller has not received, newest first (R317) -/
  seen : List CanFrame
  deriving DecidableEq, Repr

/-- The press bus and the press signals. -/
structure Press where
  canA : Can
  canB : Can
  idBase : BitVec 13
  station : BitVec 12
  pressStation : BitVec 12
  psTimeout : Nat
  sdTx : Nat
  faultSrc : BitVec 4
  stopFilter : Nat
  sdPeriod : Nat
  hbPeriod : Nat
  rdyHold : Bool
  stopLow : Bool
  spdHigh : Nat
  spdAt : Nat
  pressState : Nat
  counter : Nat
  speed : Nat
  interlock : Bool
  timeout : Bool
  /-- when the press-state timer started; when the last PRESS_STATE arrived (R321, R329) -/
  psAt : Nat
  psLast : Option Nat
  sdSent : Nat
  sdAt : Nat
  sdSeq : Nat
  statusSent : Bytes
  statusAt : Nat
  hbAt : Nat
  hbSeq : Nat
  clashAt : Vector (Option Nat) 5
  event : BitVec 6
  deriving DecidableEq, Repr

/-! ### Reset and boot (14_reset_boot.md) -/

/-- The reset sequencer (R408). -/
inductive SeqState where
  | held
  | stretch
  | boot
  | ready
  | recovery
  deriving DecidableEq, Repr

/-- The RST block and the reset sequencer. -/
structure Rst where
  seq : SeqState
  cause : BitVec 6
  count : Nat
  straps : BitVec 5
  pins : BitVec 5
  testEn : Bool
  retries : Nat
  defaults : Bool
  integFail : Bool
  loadDone : Bool
  scratch : U16
  trialBoots : Nat
  vbatPor : Bool
  reject : Nat
  trial : Bool
  fallback : Bool
  slot : BitVec 2
  source : BitVec 2
  stage : BitVec 3
  asserted : List ResetSource
  stretchAt : Nat
  t1 : Nat
  pllLocked : Bool
  spnuLocked : Bool
  driveEnd : Option Nat
  selfAt : Option Nat
  /-- the instant from which the boot steps count: t1, or the SPNU lock with CLK_S 2 (R400) -/
  bootAt : Nat
  noFetch : Bool
  shut : Bool
  deriving DecidableEq, Repr

/-- States of a firmware slot (R405). -/
inductive SlotState where
  | empty
  | staging
  | valid
  | verified
  | running
  deriving DecidableEq, Repr

/-- A firmware slot: its state, image and trailer. -/
structure FwSlot where
  st : SlotState
  image : Bytes
  deriving DecidableEq, Repr

/-- A boot record copy that is valid (R403). -/
structure BootRec where
  seq : Nat
  active : Nat
  previous : Nat
  trial : Bool
  limit : Nat
  deriving DecidableEq, Repr

/-- A flash write in progress (R405, R276): what it writes, whether it is paused since when. -/
inductive FlashJob where
  | stage (id slot : Nat) (image : Bytes)
  | record (id : Nat) (copy : Bool) (r : BootRec) (clearTrial : Bool) (advance : Bool)
  deriving DecidableEq, Repr

/-- Flash and the running image. -/
structure Flash where
  slotA : FwSlot
  slotB : FwSlot
  ram : FwSlot
  rec0 : Option BootRec
  rec1 : Option BootRec
  job : Option FlashJob
  pausedAt : Option Nat
  running : Option Bytes
  deriving DecidableEq, Repr

/-! ### OTP and management (15_otp_trust.md) -/

/-- One OTP word: its 73 bits (data 63:0, check 71:64, seal 72) as sensed at M0 and at M1 (R413, R417). -/
structure OtpWord where
  m0 : BitVec 73
  m1 : BitVec 73
  deriving DecidableEq, Repr

/-- A word still to be programmed by an OTP operation: its number, the target's 73 bits. -/
structure OtpTarget where
  word : Nat
  bits : BitVec 73
  /-- the bit of RESULT byte 5 that it sets (R447) -/
  step : Nat
  deriving DecidableEq, Repr

/-- An OTP operation in progress (R426 to R431). -/
structure OtpJob where
  id : Nat
  targets : List OtpTarget
  bit : Nat
  pulses : Nat
  blown : Nat
  most : Nat
  torn : Bool
  steps : Nat
  crc : Nat
  region : Nat
  /-- OTP_SEAL: USED, whether step 2 has passed, and the READ_LOCK of the lock asked for -/
  used : Nat
  checked : Bool
  lock : Option Bool
  /-- when the pulse in progress ends -/
  due : Nat
  deriving DecidableEq, Repr

/-- The OTP array and its registers. -/
structure Otp where
  /-- words changed since shipment, by number; others as shipped (R415) -/
  words : List (Nat × OtpWord)
  corrected : Nat
  marginal : Nat
  selfOk : Bool
  vppUsed : Bool
  readLock : Byte
  progLock : Byte
  checkT : Int
  checkAt : Nat
  ar : Nat
  /-- words known marginal or UNCORRECTABLE -/
  known : List Nat
  job : Option OtpJob
  checking : Bool
  /-- loaded values (R418 to R422) -/
  ports32 : Bool
  enforceSig : Bool
  debugLock : Bool
  bootDeny : BitVec 4
  smbAddr : BitVec 7
  keyRegion : Option Nat
  /-- OTP_REGION_STATE states as last evaluated -/
  regState : Vector Nat 8
  deriving DecidableEq, Repr

/-- Measurements and management interfaces. -/
structure Mgt where
  meas : Vector Bytes 8
  cnts : Vector Nat 8
  log : List Bytes
  extends_ : Nat
  overflow : Bool
  /-- what the last read of MGT_MEASn_W0 latched for W1 to W11 and CNT (R435) -/
  latch : Vector Bytes 8
  latchCnt : Vector Nat 8
  debugAtt : Bool
  attaches : Nat
  keyReady : Bool
  vdmEid : Option Byte
  smbEid : Option Byte
  sram : Mem
  spdmVersion : Bool
  spdmCaps : Bool
  spdmAlgs : Bool
  /-- SPDM messages so far: version to algorithms, digests and certificates, measurements (DSP0274) -/
  msgA : Bytes
  msgB : Bytes
  msgL : Bytes
  deriving DecidableEq, Repr

/-! ### Background work (16_background.md) -/

/-- Background work. -/
structure Background where
  telPeriod : Nat
  telMask : U32
  telAt : Nat
  overdue : BitVec 12
  durations : Vector Nat 12
  passStart : Vector Nat 12
  corrections : Nat
  uncorr : Nat
  /-- damaged words already reported (R455): live bank words by port, table and index; staged words by 64 + port; allocated control
  SRAM as 128 -/
  reported : List (Nat × Nat × Nat)
  /-- since when die enforcement suspends the activities (R31, R459) -/
  suspAt : Option Nat
  deriving DecidableEq, Repr

/-! ### The machine -/

/-- The whole state of the block. -/
structure State where
  /-- commands that are waiting, first in first out (this task's queue) -/
  pending : List Instr
  /-- the model's clock and the node timebase, both in phases of 250 ps (log entry 1) -/
  clk : Nat
  tb : Nat
  glb : Glb
  link : HostLink
  rings : Vector Ring 64
  cnt : Counters
  routes : Vector Route 8
  telRoute : Byte
  execs : List Exec
  waiting : List Waiting
  /-- set while the step starts a command out of `waiting` (log entry 14) -/
  resuming : Bool
  /-- what waits for D0 while the function is in D3hot, oldest first (R337) -/
  parked : List Parked
  gdma : List (Nat × BitVec 256 × Nat)
  src : Vector Source 16
  quires : Vector Quire 8
  reqs : List Req
  sos : Vector Sos 4
  ports : Vector Port 32
  tiles : List (Nat × Tile)
  masks : List (Nat × Tile)
  page : PageStore
  th : Thermal
  sp : Spine
  spr : SpineRun
  press : Press
  rst : Rst
  flash : Flash
  otp : Otp
  mgt : Mgt
  bg : Background
  /-- what the block has sent out, newest first (log entry 4) -/
  out : List Out
  nextId : Nat
  /-- counts the free values drawn (log entry 8) -/
  draws : Nat
  deriving DecidableEq, Repr

/-! ### Reset values. A value without a rule in its line is the Reset column of the register table it shows in; the values
the manual does not give are named in log entry 2. -/

def Mem.empty : Mem := { cells := [] }

def Ring.reset : Ring :=
  { base := 0, size := 0, head := 0, tail := 0, holdoff := 0, pair := 0, vector := 0, irqEn := false, haltCode := 0, pass := 0,
    st := .absent, dropped := 0, fetch := 0, fetchPass := 0, rereads := 0, rereadAt := 0, holdUntil := 0, arrived := false }

def HostLink.reset : HostLink :=
  { up := false, rate := 0, width := 0, mps := 128, mrrs := 512, d3hot := false, perstLow := false, msixEn := false, msixMask := false,
    msixTab := .replicate 64 0, msixVMask := .replicate 64 true, msixPend := 0 }

def Glb.reset : Glb :=
  { part3232 := false, layout := 0, capped := false, forced := false, abortOnPerst := false, bgShare := 1, err := 0, irqMask := 0,
    irqSeen := 0, pselA := 0, bcastA := false, pselB := 0, bcastB := false, stageAStart := 0, stageAStop := 0,
    stageBStart := 0, stageBStop := 0, tbHi := 0 }

def Counters.reset : Counters :=
  { cmds := 0, refused := 0, events := 0, unwritten := 0, dropped := 0, telWritten := 0, telDropped := 0, rereads := 0,
    dmaFaults := 0, tunnelSent := 0, tunnelRun := 0, tunnelTimeouts := 0, msix := 0 }

def Route.reset : Route := { ring := 0xFF, minSev := 0, disable := 0 }

def SrcCfg.reset : SrcCfg :=
  { mode := .off, invert := false, bi := false, gray := false, filtered := false, hyst := 2, winUs := 64, indexTol := 2,
    glitch := 1, indexPeriod := 0, indexPhase := 0, serBits := 0, errBit := false, crcInv := false, crcWidth := 0, crcPoly := 0,
    clkKhz := 0, serPeriod := 0, serGap := 0, ackLimit := 0, serLatency := 0 }

def SrcCount.reset : SrcCount :=
  { indexLast := 0, misplaced := 0, corrected := 0, corrSum := 0, glitch := 0, timeout := 0, crc := 0, warning := 0, event := 0 }

def Source.reset : Source :=
  { cfg := .reset, cnt := .reset, latch := none, st := .disabled, cause := 0, raw := 0, mark := 0, tracked := 0, edges := [], undo := none,
    speed := 0, base := none, adv := 0, trackDir := false, moveDir := false, warn := false, misplaceRun := 0, presetPend := none,
    residue := 0, levelA := false, levelB := false, levelZ := false, lastA := none, lastB := none, reading := none, presetNext := none,
    badRun := 0, frameAt := none, nextFrame := 0, lineIdle := true, bound := none, copy := none, cellAt := 0, pubAt := 0,
    pubKey := 0, pubEdge := false }

/-- The defaults a QUIRE_BIND from UNBOUND sets (R136). -/
def DemandCfg.reset : DemandCfg :=
  { exclude := false, floor := 0x2000, warn := 250000, crit := 20000, quota := 0, fullSpeed := 0 }

def QCount.reset : QCount :=
  { fired := 0, late := 0, skipped := 0, inhibited := 0, sosRejected := 0, truncated := 0, completed := 0 }

/-- The stop compare that means none (R89). -/
def noCompare : Int := 0x7FFFFFFFFFFFFFFF

def Quire.reset : Quire :=
  { st := .unbound, cause := 0, scan := false, source := 0, ports := 0, active := 0, pitch := 0, origin := 0, job := none,
    dem := .reset, lateWin := 0, cmpStart := 0, cmpStop := noCompare, next := 0, cnt := .reset, anchor := 0, down := false,
    gate := false, running := false, started := false, swathOrd := 0, tallyF := [], tallyL := [], tallyI := [], stopAt := [], causes := [], stopSwath := false, purge := false,
    abort := false, lateStart := false, resumeTo := .flyleaf, sosPos := 0, sosTb := 0, latches := #v[0, 0, 0x7FFFFFFF, 0, 0, 0], event := 0 }

def Sos.reset : Sos :=
  { enable := false, falling := false, filter := 0, holdoff := 0, winLo := 0, winHi := 0, last := none }

def Channel.reset : Channel :=
  { mem := [], slots := [], hurt := [], entry := 0, lastT := none, lastGain := 0x4000, lastCal := 0, map0 := [], map1 := [],
    mapDue := false }

def Link.reset : Link :=
  { up := false, errs := 0, total := 0, blockStart := 0, blockLines := 0, raised := false, segLate := 0, laneA := 0, laneB := 0, words := [],
    mapBank := false, headPend := [], headActive := [], streamEnd := 0, latchK := none, next := none, lastStatus := 0, lanes := 0, train := 0,
    unlockedAt := none, bcT0 := none, bcT1 := none, hifbBase := none, sense := none }

def Heater.reset : Heater := { mode := 0, sensor := 0, setpoint := 0, duty := 0, integ := 0, out := 0 }

/-- A temperature of 0x8000, "no valid value". -/
def noTemp : Int := -32768

def Window.reset : Window :=
  { armClear := true, htrOff := false, ctrlDue := none, event := 0, eventEn := 0, line := 0, lastDue := none, tempT0 := noTemp, tempT1 := noTemp,
    fill := 0, demand := 0xFFFF, psFill := 0, ttu := 0xFFFFFFFF, satLines := 0, nozOut := 0 }

def DataPath.reset : DataPath :=
  { descs := [], nextJ := 0, endJ := 0, total := none, prevLine := none, queue := [], store := [], kept := [], pattern := none, patOn := false, stash := none,
    consumed := false, firedAt := [], delivered := [], under := none, critArmed := true, orphan := false, settled := 0, miss := none, purge := 0, dropped := 0,
    base := 0, ahead := false, spent := true, demand := 0xFFFF, nozOut := 0, owed := [] }

/-- The defaults of R252. -/
def RvsCfg.reset : RvsCfg :=
  { enable := false, k := 3, n := 4, recover := 8, levels := 0xFE, noiseFloor := 32, clogAmp := 64, clogDecay := 128,
    airPer := 20, weakAmp := 179 }

def SigSet.reset : SigSet := { p := [], k := [], slots := .replicate 4 none, levels := 0 }

def Rvs.reset : Rvs :=
  { cfg := .reset, mon := [], live := .reset, staging := none, stagedLoad := false, learn := none, swapDue := false, pointer := 0,
    passes := 0, passAt := 0, planned := 0, noWindow := false, monReset := [], valid := 0, invalid := 0, short := 0, rounds := 0,
    cfgDue := none }

def Wear.reset : Wear :=
  { cnt := [], residue := [], stored := [], img := 0, fly := 0, probes := 0, failures := 0, recoveries := 0, openedAt := 0,
    secs := 0, warmPh := 0, warmFrom := none, loaded := false, seq := 0, slot := 7, array := 1, lastCommit := 0, dueAt := 0 }

def Sensor.reset : Sensor :=
  { last := none, run := 0, faulty := false, cause := 0, subst := none, value := none }

def HeadTherm.reset : HeadTherm :=
  { s0 := .reset, s1 := .reset, rec0 := none, rec1 := none, epi := none, enforce := false, absSeen := false, limSeen := false, absHold := false,
    limHold := false, cold := false, minjet := false, checkDue := false, unchecked := false }

def Port.reset : Port :=
  { st := .closed, cause := 0, fromFault := false, profile := none, cfg := none, ident := [], prsHigh := true, link := .reset, hm := [],
    heater := .reset, win := .reset, banks := none, chA := .reset, chB := .reset, lines := [], nextK := 0,
    playEnd := 0, dat := .reset, rvs := .reset, nozTap := none, wear := .reset, therm := .reset, senseCal := 0, telFired := 0, telLate := 0,
    firedAll := 0, lateAll := 0 }

def PageStore.reset : PageStore :=
  { st := .untrained, gib := 0, rate := 0, regions := [], corrected := 0, uncorr := 0 }

def Thermal.reset : Thermal :=
  { round := 64, graceMs := 2000, dieWarn := 2160, dieLimit := 2320, throttle := 192, ambient := none, ambCurve := [], roundAt := 0,
    roundCount := 0, die := .replicate 8 none, epi := none, epiV := .replicate 8 none, enforce := false, limitStop := false,
    cold := false, faultReq := false, demand := 0xFFFF, demandTo := 0xFFFF, demandAt := 0, aux := .replicate 8 0, ambT := none,
    supply := .replicate 20 0, outRun := .replicate 20 0, window := 0, windowHi := 0, lowVdd := none, wsVdd := true, wsVddio := true,
    wsVpp := false, vppPresent := false, wsLowCount := 0, shutCount := 0, shutPeak := 0, event := 0, firstRound := true }

def Yobor.reset : Yobor :=
  { link := .down, locked := false, paused := false, peer := 0, peerUid := 0, crcErrs := 0, frameErrs := 0, lastHello := 0,
    lastHelloTx := 0, delays := [], reqs := 0, tseq := 0, reqAt := none, mgtHeld := 0, xoff := false, mgtOut := [], lo := 0,
    hi := 0, dmd := none, dmdAt := 0, childLost := false }

def Spine.reset : Spine :=
  { u := .reset, a := .reset, b := .reset, evtQuires := 0xFF, evtIn := 0xFF, posOut := 0, evtOut := 1, lostDemand := false,
    treeFault := false, posPeriod := 256, latBudget := 4000, latCfg := 4000, evtSink := 1, tunnelMs := 1000, st := .alone, nodeId := 0, depth := 0,
    spvOp := 2, epoch := 0, last := 0, parent := 0, pathP := 0, nodes := 0, parentP := 0, held := false, enum := none }

def SpineRun.reset : SpineRun :=
  { syncAt := 0, syncTxAt := 0, syncRun := 0, syncOfsPs := 0, firstSync := true, seqs := .replicate 6 0, dmdTxAt := 0,
    subtree := 0xFFFF, own := 0xFFFF, limiter := 0, reason := 0, dmdSent := 0xFFFF, faultSet := [], faultSent := false, event := 0,
    tunnel := [], heldBack := [], bcasts := [], parts := [], nextTtag := 0, postureDem := 0xFFFF }

def CanFilter.reset : CanFilter := { enable := false, ext := false, id := 0, mask := 0 }

def Can.reset : Can :=
  { mode := .off, autoRec := false, pressMsgs := false, tdc := false, timing := 0, tdcOfs := 0, st := .off, tec := 0, recErr := 0,
    busOffs := 0, arbLost := 0, dropped := 0, sent := 0, received := 0, filters := .replicate 16 .reset, fifo := [], press := [],
    host := [], seen := [] }

def Press.reset : Press :=
  { canA := .reset, canB := .reset, idBase := 0x150, station := 0, pressStation := 0, psTimeout := 0, sdTx := 0, faultSrc := 0,
    stopFilter := 10, sdPeriod := 0, hbPeriod := 0, rdyHold := false, stopLow := true,
    spdHigh := 0, spdAt := 0, pressState := 0, counter := 0, speed := 0, interlock := false, timeout := false, psAt := 0, psLast := none,
    sdSent := 0, sdAt := 0, sdSeq := 0, statusSent := [], statusAt := 0, hbAt := 0, hbSeq := 0, clashAt := .replicate 5 none,
    event := 0 }

/-- Core POR asserted: RST_CAUSE.CORE_POR is 1 (R392). -/
def Rst.reset : Rst :=
  { seq := .held, cause := 1, count := 0, straps := 0, pins := 0, testEn := false, retries := 0, defaults := false,
    integFail := false, loadDone := false, scratch := 0, trialBoots := 0, vbatPor := true, reject := 0, trial := false,
    fallback := false, slot := 3, source := 0, stage := 0, asserted := [.corePor], stretchAt := 0, t1 := 0, pllLocked := false,
    spnuLocked := false, driveEnd := none, selfAt := none, bootAt := 0, noFetch := false, shut := false }

def FwSlot.reset : FwSlot := { st := .empty, image := [] }

def Flash.reset : Flash :=
  { slotA := .reset, slotB := .reset, ram := .reset, rec0 := none, rec1 := none, job := none, pausedAt := none, running := none }

def Otp.reset : Otp :=
  { words := [], corrected := 0, marginal := 0, selfOk := false, vppUsed := false, readLock := 0, progLock := 0, checkT := 0,
    checkAt := 0, ar := 0, known := [], job := none, checking := false, ports32 := false, enforceSig := true, debugLock := true,
    bootDeny := 0, smbAddr := 0x48, keyRegion := none, regState := .replicate 8 0 }

def Mgt.reset : Mgt :=
  { meas := .replicate 8 (List.replicate 48 0), cnts := .replicate 8 0, log := [], extends_ := 0, overflow := false, latch := .replicate 8 [],
    latchCnt := .replicate 8 0, debugAtt := false, attaches := 0, keyReady := false, vdmEid := none, smbEid := none,
    sram := .empty, spdmVersion := false, spdmCaps := false, spdmAlgs := false, msgA := [], msgB := [], msgL := [] }

def Background.reset : Background :=
  { telPeriod := 100, telMask := 0xFFFFFFFF, telAt := 0, overdue := 0, durations := .replicate 12 0, passStart := .replicate 12 0,
    corrections := 0, uncorr := 0, reported := [], suspAt := none }

/-- The machine right after power-on: core POR asserted, nothing released (R392, R408). Log entry 2: DESIGN CHOICE.
Log entry 83: DESIGN CHOICE. -/
def State.reset : State :=
  { pending := [], clk := 0, tb := 0, glb := .reset, link := .reset, rings := .replicate 64 .reset, cnt := .reset,
    routes := .replicate 8 .reset, telRoute := 0, execs := [], waiting := [], resuming := false, parked := [], gdma := [], src := .replicate 16 .reset,
    quires := .replicate 8 .reset, reqs := [], sos := .replicate 4 .reset, ports := .replicate 32 .reset, tiles := [], masks := [],
    page := .reset, th := .reset, sp := .reset, spr := .reset, press := .reset, rst := .reset, flash := .reset, otp := .reset,
    mgt := .reset, bg := .reset, out := [], nextId := 0, draws := 0 }

/-- Faults of the model. -/
inductive Fault where
  /-- Raised by no meaning: every row of the table has an effect the manual gives. Safe. -/
  | none
  deriving DecidableEq, Repr

/-- Refusals of the model. -/
inductive Refusal where
  /-- Raised by an arm of exec whose row has no meaning yet. Safe: nothing can be proved of its next state. -/
  | notModelled (mnemonic : String)
  deriving DecidableEq, Repr

end Sys2Proof.Machine
end

