-- ==== Sys2Proof/Machine/Flags.lean ====
section
/-! DEFINITION. The status codes of completions (R376), the opcodes of the ROM (R402), the event codes (R377), and the
codes that states show in registers and records. -/

namespace Sys2Proof.Machine

/-! ### Status codes (R376) -/
def stOk : Nat := 0x0000
def stOkLate : Nat := 0x0001
def stOkPartial : Nat := 0x0002
def stBadOpcode : Nat := 0x0100
def stBadParam : Nat := 0x0101
def stBadState : Nat := 0x0102
def stBusy : Nat := 0x0103
def stNotSupported : Nat := 0x0104
def stAlign : Nat := 0x0105
def stRange : Nat := 0x0106
def stStale : Nat := 0x0107
def stLocked : Nat := 0x0200
def stSupplyLow : Nat := 0x0201
def stOtpConflict : Nat := 0x0202
def stOtpSealed : Nat := 0x0203
def stOtpVerifyFail : Nat := 0x0204
def stOtpMarginal : Nat := 0x0205
def stPortFault : Nat := 0x0300
def stHeadAbsent : Nat := 0x0301
def stHeadMismatch : Nat := 0x0302
def stTempInhibit : Nat := 0x0303
def stLinkLimit : Nat := 0x0304
def stCapacity : Nat := 0x0305
def stPosFault : Nat := 0x0400
def stCompareBehind : Nat := 0x0401
def stSpineDown : Nat := 0x0500
def stSpineVersion : Nat := 0x0501
def stSpineTooDeep : Nat := 0x0502
def stNodeUnknown : Nat := 0x0503
def stFwSig : Nat := 0x0600
def stFwSlotInvalid : Nat := 0x0601
def stFwRollback : Nat := 0x0602
def stAborted : Nat := 0x0700
def stTimeout : Nat := 0x0701
def stStopped : Nat := 0x0702

/-- A status that reports success: its high byte is 0 (R376). -/
def succeeds (st : Nat) : Bool := st < 0x100

/-- The opcodes the ROM executes (R402): NOP, GET_INFO, SELF_RESET, RING_*, FW_*, OTP_*, COLOPHON_READ. -/
def romOps : List Nat :=
  [0x0001, 0x0002, 0x0004, 0x0101, 0x0102, 0x0103, 0x0C01, 0x0C02, 0x0C03, 0x0C04, 0x0B01, 0x0B02, 0x0B03, 0x0B04, 0x0B05, 0x0D01]

/-- The opcodes a broadcast may carry (R374). -/
def bcastOps : List Nat := [0x0001, 0x0003, 0x0403, 0x0404, 0x0406, 0x0801, 0x0901, 0x0B04, 0x0E03, 0x0E04]

/-- The opcodes whose commands may move host memory (R306): those with a host or result address. -/
def hostOps : List Nat :=
  [0x0002, 0x0006, 0x0204, 0x0205, 0x0206, 0x0208, 0x0302, 0x0405, 0x0501, 0x0503, 0x0601, 0x0602, 0x0603, 0x0604, 0x0701, 0x0702] ++
  [0x0704, 0x0706, 0x0802, 0x0804, 0x0903, 0x0A04, 0x0B01, 0x0C01, 0x0C04, 0x0D01, 0x0D02, 0x0E01, 0x0E04, 0x0F03, 0x0F04]

/-! ### Event codes (R377) and SOURCE kinds (R364) -/
def evReversal : Nat := 0x1001
def evIndexMisplaced : Nat := 0x1002
def evEncFault : Nat := 0x1003
def evLateStart : Nat := 0x1004
def evHeadLost : Nat := 0x2001
def evLinkErr : Nat := 0x2002
def evStateChange : Nat := 0x2003
def evThrottle : Nat := 0x3001
def evEnforce : Nat := 0x3002
def evLimitStop : Nat := 0x3003
def evSensorFault : Nat := 0x3004
def evColdInhibit : Nat := 0x3005
def evSpeedDemand : Nat := 0x4001
def evUnderrun : Nat := 0x4002
def evLineBlanked : Nat := 0x4003
def evNozState : Nat := 0x5001
def evNoWindow : Nat := 0x5002
def evSpineLinkDown : Nat := 0x6001
def evVersionHold : Nat := 0x6002
def evSpineStopRx : Nat := 0x6003
def evBusOff : Nat := 0x7001
def evIdClash : Nat := 0x7002
def evPressTimeout : Nat := 0x7003
def evOtpMarginal : Nat := 0x8001
def evRingStale : Nat := 0x8002
def evSupplyLow : Nat := 0x8003
def evScrubUncorr : Nat := 0x8004
def evLineEcc : Nat := 0x8005
def evTableEcc : Nat := 0x8006

def kDevice : Nat := 0
def kPort : Nat := 1
def kQuire : Nat := 2
def kSource : Nat := 3
def kRing : Nat := 4

/-! ### State codes -/

/-- ENC_STATE.STATE. -/
def SrcState.code : SrcState → Nat
  | .disabled => 0 | .acquiring => 1 | .tracking => 2 | .held => 3 | .reversed => 4 | .stalled => 5 | .fault => 6

/-- The state a POS cell names (R294). -/
def srcStateOf : Nat → SrcState
  | 0 => .disabled | 1 => .acquiring | 2 => .tracking | 3 => .held | 4 => .reversed | 5 => .stalled | _ => .fault

/-- ENC_MODE.MODE. -/
def EncMode.code : EncMode → Nat
  | .off => 0 | .incremental => 1 | .ssi => 2 | .bissC => 3

def encModeOf : Nat → EncMode
  | 1 => .incremental | 2 => .ssi | 3 => .bissC | _ => .off

/-- QUIRE_STATE.STATE. -/
def QState.code : QState → Nat
  | .unbound => 0 | .bound => 1 | .armed => 2 | .flyleaf => 3 | .printing => 4 | .suspended => 5 | .stopping => 6 | .fault => 7

/-- "Beyond BOUND", "ARMED or beyond" (R99). -/
def QState.beyond : QState → Bool
  | .armed | .flyleaf | .printing | .suspended | .stopping => true
  | .unbound | .bound | .fault => false

/-- FLYLEAF, PRINTING or SUSPENDED. -/
def QState.runs : QState → Bool
  | .flyleaf | .printing | .suspended => true
  | .unbound | .bound | .armed | .stopping | .fault => false

/-- FLYLEAF or PRINTING. -/
def QState.fires : QState → Bool
  | .flyleaf | .printing => true
  | .unbound | .bound | .armed | .suspended | .stopping | .fault => false

/-- ARMED, FLYLEAF, PRINTING or SUSPENDED: a STOP has something to end (R97). -/
def QState.stoppable : QState → Bool
  | .armed | .flyleaf | .printing | .suspended => true
  | .unbound | .bound | .stopping | .fault => false

/-- PW_STATUS.STATE. -/
def PState.code : PState → Nat
  | .closed => 0 | .opening => 1 | .idle => 2 | .armed => 3 | .printing => 4 | .draining => 5 | .fault => 6

/-- The port is in a job (ARMED or PRINTING). -/
def PState.inJob : PState → Bool
  | .armed | .printing => true
  | .closed | .opening | .idle | .draining | .fault => false

/-- ARMED, PRINTING or DRAINING. -/
def PState.busy : PState → Bool
  | .armed | .printing | .draining => true
  | .closed | .opening | .idle | .fault => false

def RingState.code : RingState → Nat
  | .absent => 0 | .active => 1 | .halted => 2 | .closing => 3

def PageState.code : PageState → Nat
  | .untrained => 0 | .training => 1 | .ready => 2 | .failed => 3

def SpLink.code : SpLink → Nat
  | .down => 0 | .training => 1 | .up => 2 | .disabled => 3 | .refused => 4

def SpState.code : SpState → Nat
  | .alone => 0 | .joining => 1 | .member => 2 | .synced => 3 | .lost => 4

def CanState.code : CanState → Nat
  | .off => 0 | .errorActive => 1 | .errorPassive => 2 | .busOff => 3 | .recovering => 4

def CanMode.code : CanMode → Nat
  | .off => 0 | .classic => 1 | .fd => 2 | .listen => 3

def SlotState.code : SlotState → Nat
  | .empty => 0 | .staging => 1 | .valid => 2 | .verified => 3 | .running => 4

def spIndex : SpPort → Nat
  | .u => 0 | .a => 1 | .b => 2

def chanNo : Chan → Nat
  | .a => 0 | .b => 1

/-! ### Masks of states -/

/-- The quires for which a test holds, as a mask. -/
def State.quireMask (s : State) (f : Quire → Bool) : Nat := maskOf fun q : Fin 8 => f (look s.quires q)

/-- The ports for which a test holds, as a mask. -/
def State.portMask (s : State) (f : Port → Bool) : Nat := maskOf fun p : Fin 32 => f (look s.ports p)

/-! ### The identity of the part and the layout -/

/-- Ports of the part (GLB_CAPS.PORTS). -/
def State.partPorts (s : State) : Nat := if s.otp.ports32 then 32 else 16

/-- Ports of the layout (R34): 32, 16 or 8. -/
def State.layoutPorts (s : State) : Nat :=
  if s.glb.layout = 0 then 32 else if s.glb.layout = 1 then 16 else 8

/-- The port lies in the part and in the layout (R2, R34). -/
def State.portIn (s : State) (p : Nat) : Bool := p < s.partPorts && p < s.layoutPorts

/-- GLB_PROFILE.POSTURE_EFF. -/
def State.postureEff (s : State) : Bool := s.glb.capped || s.glb.forced

/-- The aggregate cap of the posture, in nozzle-lines/s (R37, R38, R40). -/
def State.aggregateCap (s : State) (capped : Bool) : Nat :=
  if s.otp.ports32 then (if capped then 36000000000 else 48000000000)
  else (if capped then 18000000000 else 24000000000)

/-- The per-port cap of the layout (R35). -/
def State.portCap (s : State) : Nat := if s.glb.layout = 0 then 1500000000 else 2048000000

/-- Line store depth in lines (R35). -/
def State.lineDepth (s : State) (depth : Nat) : Nat :=
  let base := if depth = 3 then 512 else 768
  if s.glb.layout = 0 then base else if s.glb.layout = 1 then 2 * base else 4 * base

/-- WRITE_SAFE: every active comparator is high (R275). -/
def State.writeSafe (s : State) : Bool := s.th.wsVdd && s.th.wsVddio && (!s.th.vppPresent || s.th.wsVpp)

/-- The top level of a level depth. -/
def topLevel (depth : Nat) : Nat := if depth = 3 then 7 else 3

end Sys2Proof.Machine
end

