-- ==== Sys2Proof/Machine/Operands.lean ====
section
/-! DEFINITION. The operand forms of the block: the parameter fields of a command entry (offsets count from the start of
the 64-byte entry, R362), the checks that every command shares (R9, R10, R350, R371), and the subjects a command holds
(R368). -/

namespace Sys2Proof.Machine

/-- The unsigned field of `n` bytes at entry offset `o` (8 to 63), little-endian (R4). -/
def fld (p : Params) (o n : Nat) : Nat := p.toNat / 2 ^ (8 * (o - 8)) % 2 ^ (8 * n)

/-- The signed field of `n` bytes at entry offset `o`. -/
def sfld (p : Params) (o n : Nat) : Int := sgn (8 * n) (fld p o n)

/-- The bytes `o` to `o + n - 1` of the entry. -/
def fldBytes (p : Params) (o n : Nat) : Bytes := le n (fld p o n)

/-- The mask of the parameter bits that a command's table defines: fields (offset, size) and single bits removed below. -/
def definedMask (fs : List (Nat × Nat)) : Nat :=
  fs.foldl (fun m f => m ||| ((2 ^ (8 * f.2) - 1) * 2 ^ (8 * (f.1 - 8)))) 0

/-- Some parameter byte outside the defined fields is not zero (R9). -/
def undefSet (p : Params) (fs : List (Nat × Nat)) : Bool :=
  let m := definedMask fs
  (p.toNat &&& m) != p.toNat

/-- Bits of a field outside `mask` are set (reserved bits, R9). -/
def rsv (v mask : Nat) : Bool := (v &&& mask) != v

/-- The value lies outside `lo` to `hi`. Log entry 4: DESIGN CHOICE. -/
def out (v lo hi : Nat) : Bool := v < lo || hi < v

/-- The first status whose condition holds; 0 when none does (R371). -/
def firstBad : List (Bool × Nat) → Nat
  | [] => 0
  | (b, st) :: t => if b then st else firstBad t

/-- FENCE of a command entry (R365). -/
def isFence (h : CmdHdr) : Bool := h.flags.getLsbD 0
/-- NOTIFY (R366). -/
def isNotify (h : CmdHdr) : Bool := h.flags.getLsbD 1
/-- DRY_RUN (R367). -/
def isDry (h : CmdHdr) : Bool := h.flags.getLsbD 3

/-- Commands of one submission ring, or of one entry node, keep an order among themselves (R368, R304). -/
def sameSource : CmdSrc → CmdSrc → Bool
  | .ring a, .ring b => a = b
  | .tunnel a _, .tunnel b _ => a = b
  | .mctp a, .mctp b => a = b
  | .lost, .lost => true
  | _, _ => false

/-- The command came over MCTP: its addresses name the staging window, and alignment does not apply (R441). -/
def isMctp (h : CmdHdr) : Bool :=
  match h.src with
  | .mctp _ => true
  | _ => false

/-- The bytes of the staging window: 4 MiB while the ROM runs, 256 KiB under main firmware (R441). -/
def State.window (s : State) : Nat := if s.rst.stage.toNat ≥ 4 && s.rst.stage.toNat ≤ 5 then 0x40000 else 0x400000

/-- A buffer beyond the staging window of an MCTP command (R441). -/
def beyond (s : State) (h : CmdHdr) (addr len : Nat) : Bool := isMctp h && s.window < addr + len

/-- A host address that breaks the 64-byte alignment of R350. -/
def misaddr (h : CmdHdr) (addr : Nat) : Bool := !(isMctp h) && addr % 64 != 0

/-- A size field that is no multiple of 64 (R10, R350). -/
def mislen (h : CmdHdr) (len : Nat) : Bool := !(isMctp h) && len % 64 != 0

/-- A size field that is a multiple of 64 of another size than the command's parameters require (R10). -/
def wrongLen (h : CmdHdr) (len need : Nat) : Bool := (isMctp h || len % 64 == 0) && len != need

/-- A size field that is a multiple of 64 outside the limits the command gives it (R10). -/
def outLen (h : CmdHdr) (len lo hi : Nat) : Bool := (isMctp h || len % 64 == 0) && out len lo hi

/-- The word could not be corrected. -/
def readBad : PageRead → Bool
  | .clean | .corrected => false
  | .uncorrectable _ => true

/-! ### Subjects (R368) -/

/-- The ports of a mask as subjects. -/
def portSubjects (m : Nat) : List Subject := (List.range 32).filterMap fun i => if m.testBit i then some (.port i) else none

/-- The subjects a command holds while it executes, from its opcode and parameters (R368). Queries hold none. -/
def subjectsOf (op : Nat) (p : Params) : List Subject :=
  let b := fld p 8 1
  match op with
  | 0x0003 => [.profile]
  | 0x0005 => [.timebase]
  | 0x0101 | 0x0102 | 0x0103 => [.ring b]
  | 0x0201 | 0x0203 | 0x0205 | 0x0206 | 0x0207 | 0x0208 => [.port b]
  | 0x0202 => [.port b]
  | 0x0301 | 0x0303 => [.source b]
  | 0x0304 => .quire b :: portSubjects (fld p 12 4)
  | 0x0305 => [.sos b]
  | 0x0401 | 0x0402 | 0x0403 | 0x0404 | 0x0406 => [.quire b]
  | 0x0407 => portSubjects (fld p 8 4)
  | 0x0501 | 0x0502 | 0x0503 | 0x0504 => [.port b]
  | 0x0601 => if b = 1 then [.port (fld p 11 1), .tile (fld p 9 1)] else [.tile (fld p 9 1)]
  | 0x0602 | 0x0603 | 0x0606 => [.port b]
  | 0x0605 => .port b :: ([fld p 10 1, fld p 11 1, fld p 18 1].filter (· != 0)).map .mask
  | 0x0604 => [.mask (fld p 9 1)]
  | 0x0701 | 0x0703 | 0x0704 | 0x0705 => [.port b]
  | 0x0706 => if fld p 9 1 = 2 then [.port b] else []
  | 0x0802 => if b = 1 then [.profile] else []
  | 0x0803 => [.port b]
  | 0x0901 | 0x0902 => [.spine]
  | 0x0904 => [.source b]
  | 0x0A01 | 0x0A02 | 0x0A03 => [.can b]
  | 0x0B02 | 0x0B03 | 0x0B04 | 0x0B05 => [.otp]
  | 0x0C03 => if b = 1 && bit (fld p 10 1) 1 then [.flash, .otp] else [.flash]
  | 0x0C01 | 0x0C02 => [.flash]
  | 0x0E01 => if b = 1 then [.region (fld p 10 2)] else []
  | 0x0E02 => [.port b]
  | 0x0E03 => [.routing]
  | 0x0E04 => [.profile]
  | 0x0F02 | 0x0F03 => [.region (fld p 8 2)]
  | _ => []

/-- An executing command that this one does not wait for although they share a subject (R368): JOB_STOP and JOB_ABORT
over a JOB_STOP, RVS_LEARN operations over a START, BUS_SEND over a BUS_SEND, TABLE_COMMIT over a pending swap, PORT_CLOSE over
the PORT_OPEN it abandons (R224), and HEADMEM_READ over a PORT_OPEN, during which it completes with BUSY (R226), SPINE_ENUMERATE over
another, during which it completes with BUSY (R312). Log entry 50: DEDUCED. -/
def passes (op : Nat) (p : Params) (e : Exec) : Bool :=
  match op with
  | 0x0403 | 0x0404 => e.op == 0x0403
  | 0x0704 => e.op == 0x0704 && fld e.p 9 1 == 0 && fld p 9 1 != 0
  | 0x0A03 => e.op == 0x0A03
  | 0x0407 => e.op == 0x0407
  | 0x0202 => e.op == 0x0201 || (e.op == 0x0704 && fld e.p 9 1 == 0)
  | 0x0203 => e.op == 0x0704 && fld e.p 9 1 == 0
  | 0x0205 => e.op == 0x0201
  | 0x0902 => e.op == 0x0902
  | _ => false

/-- Two subject lists share a subject. -/
def share (a b : List Subject) : Bool := a.any fun x => b.contains x

end Sys2Proof.Machine
end

