-- ==== Sys2Proof/Machine/Ops.lean ====
section
/-! DEFINITION. The named operations every meaning shares: time, the fixed arrays of the state, the block's memories, output,
interrupts, ring entries, spine cells, events, completions, and the frame in which a command starts. -/

namespace Sys2Proof.Machine

/-! ### Time (log entry 1) -/

/-- Phases of 250 ps in a microsecond and in a millisecond. -/
def usPh : Nat := 4000
def msPh : Nat := 4000000

/-- The node's timebase in ns (GLB_TB). -/
def State.ns (s : State) : Nat := s.tb / 4 % 2 ^ 64

/-- The clock and the timebase run on by `n` phases. Log entry 1: DESIGN CHOICE. -/
def State.advance (s : State) (n : Nat) : State := { s with clk := s.clk + n, tb := s.tb + n }

/-- Time runs on to the instant `t`, if that lies ahead (log entry 1). DESIGN CHOICE. -/
def State.advanceTo (s : State) (t : Nat) : State := s.advance (t - s.clk)

/-- Whole seconds since reset release. -/
def State.seconds (s : State) : Nat := (s.clk - s.rst.t1) / (1000 * msPh)

/-! ### Entries of the fixed arrays -/

def State.modRing (s : State) (r : Fin 64) (f : Ring → Ring) : State := { s with rings := upd s.rings r f }
def State.modSrc (s : State) (n : Fin 16) (f : Source → Source) : State := { s with src := upd s.src n f }
def State.modQuire (s : State) (q : Fin 8) (f : Quire → Quire) : State := { s with quires := upd s.quires q f }
def State.modPort (s : State) (p : Fin 32) (f : Port → Port) : State := { s with ports := upd s.ports p f }
def State.ring (s : State) (r : Fin 64) : Ring := look s.rings r
def State.source (s : State) (n : Fin 16) : Source := look s.src n
def State.quire (s : State) (q : Fin 8) : Quire := look s.quires q
def State.port (s : State) (p : Fin 32) : Port := look s.ports p

/-- The index that a parameter byte names, reduced to the array's size (a range check comes first). -/
def finOf (n : Nat) (h : 0 < n) (v : Nat) : Fin n := ⟨v % n, Nat.mod_lt v h⟩
def portNo (v : Nat) : Fin 32 := finOf 32 (by decide) v
def quireNo (v : Nat) : Fin 8 := finOf 8 (by decide) v
def ringNo (v : Nat) : Fin 64 := finOf 64 (by decide) v
def srcNo (v : Nat) : Fin 16 := finOf 16 (by decide) v

/-- Do something for each index of an array. -/
def forAll {n : Nat} (s : State) (f : State → Fin n → State) : State := (idx n).foldl f s

/-- The quire that a port belongs to (R67: at most one). -/
def State.quireOf (s : State) (p : Fin 32) : Option (Fin 8) :=
  (idx 8).find? fun q => (s.quire q).st != .unbound && (s.quire q).ports.getLsbD p.1

/-- The ports of a quire, in ascending order. -/
def State.portsOf (s : State) (q : Fin 8) : List (Fin 32) := (idx 32).filter fun p => (s.quire q).ports.getLsbD p.1

/-- The ports of a quire that are still in its job (QUIRE_ACTIVE). -/
def State.activeOf (s : State) (q : Fin 8) : List (Fin 32) := (idx 32).filter fun p => (s.quire q).active.getLsbD p.1

/-- The quires bound to a source. -/
def State.boundTo (s : State) (n : Fin 16) : List (Fin 8) :=
  (idx 8).filter fun q => (s.quire q).st != .unbound && (s.quire q).source = n

/-! ### The block's own memories -/

/-- The byte at an address; an unlisted byte reads 0 (log entry 13). DESIGN CHOICE. -/
def Mem.readIn : List Host.Cell → Nat → Byte
  | [], _ => 0
  | (k, v) :: t, a => if k = a then v else Mem.readIn t a

/-- Read one byte. -/
def Mem.read (m : Mem) (a : Nat) : Byte := Mem.readIn m.cells a

/-- Put one byte into a rising list of cells, keeping the canonical form. -/
def Mem.setIn (a : Nat) (b : Byte) : List Host.Cell → List Host.Cell
  | [] => if b = 0 then [] else [(a, b)]
  | (k, v) :: t =>
    if a < k then (if b = 0 then (k, v) :: t else (a, b) :: (k, v) :: t)
    else if k = a then (if b = 0 then t else (a, b) :: t)
    else (k, v) :: Mem.setIn a b t

/-- Write one byte. -/
def Mem.set (m : Mem) (a : Nat) (b : Byte) : Mem := { cells := Mem.setIn a b m.cells }

/-- Write bytes from an address up. -/
def Mem.write (m : Mem) (a : Nat) : Bytes → Mem
  | [] => m
  | b :: bs => Mem.write (m.set a b) (a + 1) bs

/-- Read `n` bytes from an address up. -/
def Mem.bytes (m : Mem) (a n : Nat) : Bytes := (List.range n).map fun i => m.read (a + i)

/-- Addresses strictly rising and above `lo`, no byte 0 listed. -/
def Mem.wfFrom : Nat → List Host.Cell → Bool
  | _, [] => true
  | lo, (k, v) :: t => decide (lo ≤ k) && (v != 0) && Mem.wfFrom (k + 1) t

/-- The canonical form of a memory. -/
def Mem.wf (m : Mem) : Bool := Mem.wfFrom 0 m.cells

/-! ### Output, interrupts -/

/-- The block sends something out. Log entry 4: DESIGN CHOICE. -/
def State.emit (s : State) (o : Out) : State := { s with out := o :: s.out }

/-- Saturating 32-bit count. -/
def sat32 (v n : Nat) : Nat := satAdd 32 v n

/-- Send the MSI-X message of a vector, or set its pending bit where the function or the vector is masked (R339, R340), and in D3hot (R337). -/
def sendMsix (s : State) (v : Nat) : State :=
  let l := s.link
  if !l.msixEn then s
  else if l.d3hot || l.msixMask || look l.msixVMask (finOf 64 (by decide) v) then
    { s with link := { l with msixPend := l.msixPend ||| BitVec.ofNat 64 (2 ^ (v % 64)) } }
  else { s with cnt := { s.cnt with msix := sat32 s.cnt.msix 1 } }.emit (.msix v)

/-- GLB_IRQ_STATUS: ports whose PW_EVENT AND PW_EVENT_EN is not zero. -/
def State.irqStatus (s : State) : Nat := s.portMask fun p => (p.win.event &&& p.win.eventEn) != 0

/-- Vector 63 gets a message for each bit of IRQ_STATUS AND IRQ_MASK that rises (R340). -/
def irqPorts (s : State) : State :=
  let now := BitVec.ofNat 32 s.irqStatus &&& s.glb.irqMask
  let rising := now &&& ~~~s.glb.irqSeen
  let s1 := { s with glb := { s.glb with irqSeen := now } }
  if rising = 0 then s1 else sendMsix s1 63

/-- Set sticky bits of PW_EVENT of a port. -/
def setPwEvent (s : State) (p : Fin 32) (m : Nat) : State :=
  irqPorts (s.modPort p fun x => { x with win := { x.win with event := x.win.event ||| BitVec.ofNat 12 m } })

/-! ### Requests to host memory (R336, R337) -/

/-- The pieces of a span as requests carry them: `max` bytes at most, none across a 4 KiB boundary (R336). -/
def spans (max : Nat) : Nat → Nat → Nat → List (Nat × Nat)
  | 0, _, _ => []
  | n + 1, addr, len =>
    if len = 0 then []
    else
      let m := min len (min max (4096 - addr % 4096))
      (addr, m) :: spans max n (addr + m) (len - m)

/-- Make requests, or keep them for D0 (R337). -/
def State.request (s : State) (l : List Out) : State :=
  if s.link.d3hot then { s with parked := s.parked ++ l.map .request } else l.foldl State.emit s

/-- The pieces of a read of host memory: Max_Read_Request_Size, 128 bytes at least (R335, R336). -/
def State.readSpans (s : State) (addr len : Nat) : List (Nat × Nat) := spans (max 128 s.link.mrrs) (len / 64 + 2) addr len

/-- Write to host memory, in requests of Max_Payload_Size at most. -/
def State.hostWrite (s : State) (addr : Nat) (data : Bytes) : State :=
  s.request ((spans (max 128 s.link.mps) (data.length / 64 + 2) addr data.length).map fun x => .hostWrite x.1 ((data.drop (x.1 - addr)).take x.2))

/-- Read host memory for a command, for a general DMA descriptor, for a band. Only reads carry No Snoop (R336). -/
def State.dmaRead (s : State) (id addr len : Nat) (ns : Bool) : State :=
  s.request ((s.readSpans addr len).map fun x => .dmaRead id x.1 x.2 ns)

def State.gdmaRead (s : State) (ring id addr len : Nat) (ns : Bool) : State :=
  s.request ((s.readSpans addr len).map fun x => .gdmaRead ring id x.1 x.2 ns)

def State.bandRead (s : State) (p addr len : Nat) (ns : Bool) : State :=
  s.request ((s.readSpans addr len).map fun x => .bandRead p x.1 x.2 ns)

/-! ### Ring entries (R339, R342 to R346) -/

/-- Entries between head and tail. -/
def Ring.used (g : Ring) : Nat := (g.tail + g.size.toNat - g.head) % (max g.size.toNat 1)

/-- The ring is full (R341 preamble: one slot stays empty). -/
def Ring.full (g : Ring) : Bool := g.size.toNat ≤ g.used + 1

/-- Free slots. -/
def Ring.free (g : Ring) : Nat := g.size.toNat - 1 - g.used

/-- The ring exists: ACTIVE, HALTED or CLOSING. -/
def Ring.exists_ (g : Ring) : Bool := g.st != .absent

/-- The catchword of a pass (R345). -/
def catchword (pass : Nat) : Nat := pass % 255 + 1

/-- Bytes of an entry of a ring of this number. -/
def entrySize (r : Nat) : Nat := if r < 32 then 32 else if r < 40 then 64 else if r < 48 then 16 else 32

/-- The interrupt of a ring after a new entry: at once, or marked for the end of the holdoff; a NOTIFY command's message goes
out whatever holdoff runs (R339, R366). -/
def ringIrq (s : State) (r : Fin 64) (force : Bool) : State :=
  let g := s.ring r
  if !g.irqEn then s
  else if force || g.holdUntil ≤ s.clk then
    sendMsix (s.modRing r fun x => { x with holdUntil := s.clk + x.holdoff.toNat * usPh, arrived := false }) g.vector.toNat
  else s.modRing r fun x => { x with arrived := true }

/-- Write an entry at the tail of a controller-produced ring, with the catchword of its pass in byte 4, or count it as dropped when
the ring is full (R344, R346). A ring that is ABSENT or CLOSING takes none (R360). In D3hot the entry waits (R337).
Log entry 74: DEDUCED. -/
def pushEntry (s : State) (r : Fin 64) (e : Bytes) (force : Bool) : State :=
  let g := s.ring r
  if g.st = .absent ∨ g.st = .closing then s
  else if s.link.d3hot then { s with parked := s.parked ++ [.entry r.1 e force] }
  else if g.full then s.modRing r fun x => { x with dropped := sat32 x.dropped 1 }
  else
    let entry := e.take 4 ++ [BitVec.ofNat 8 (catchword g.pass)] ++ e.drop 5
    let s1 := s.emit (.ringWrite r.1 g.tail (g.base.toNat + entrySize r.1 * g.tail) entry)
    let last := g.tail + 1 = g.size.toNat
    let s2 := s1.modRing r fun x => { x with tail := if last then 0 else x.tail + 1, pass := if last then x.pass + 1 else x.pass }
    ringIrq s2 r force

/-- Halt a ring with a status (R350, R354). -/
def haltRing (s : State) (r : Fin 64) (st : Nat) : State :=
  s.modRing r fun g => if g.st = .active then { g with st := .halted, haltCode := st } else g

/-! ### Spine cells (R286, R287, R294) -/

/-- The port of a spine direction. -/
def State.yobor (s : State) : SpPort → Yobor
  | .u => s.sp.u | .a => s.sp.a | .b => s.sp.b

/-- Change a Yobor port. -/
def State.modYobor (s : State) (p : SpPort) (f : Yobor → Yobor) : State :=
  match p with
  | .u => { s with sp := { s.sp with u := f s.sp.u } }
  | .a => { s with sp := { s.sp with a := f s.sp.a } }
  | .b => { s with sp := { s.sp with b := f s.sp.b } }

/-- A cell from its fields; DIR is 0 toward the root (up) and 1 away from it. -/
def mkCell (typ spv : Nat) (sp : SpPort) (src dst hops seq : Nat) (payload : Bytes) : Cell :=
  let dir := if sp = .u then 0 else 1
  let b := [BitVec.ofNat 8 (0xA0 + typ), BitVec.ofNat 8 (16 * spv + dir)] ++ le 2 (src % 4096) ++ le 2 (dst % 4096) ++
    [BitVec.ofNat 8 hops, BitVec.ofNat 8 seq] ++ (padTo 20 payload).take 20
  BitVec.ofNat 256 (rdLE (b ++ bytesOf 4 (crc32 b)))

/-- The SPV a node sends: 2 until it has an ID, then SPV_OP (R307). -/
def State.spv (s : State) : Nat := if s.sp.nodeId = 0 then 2 else s.sp.spvOp

/-- Take the next SEQ of a cell type (R286). -/
def takeSeq (s : State) (typ : Fin 6) : State × Nat :=
  ({ s with spr := { s.spr with seqs := upd s.spr.seqs typ fun x => x + 1 } }, (look s.spr.seqs typ).toNat)

/-- Put a cell on a port; an MGT cell waits while the peer has sent XOFF (R285). -/
def putCell (s : State) (sp : SpPort) (mgt : Bool) (c : Cell) : State :=
  if mgt && (s.yobor sp).paused then s.modYobor sp fun y => { y with mgtOut := y.mgtOut ++ [(none, c)] }
  else s.emit (.cell sp c)

/-- Originate a cell on one link. -/
def sendOne (s : State) (sp : SpPort) (typ : Fin 6) (dst : Nat) (payload : Bytes) : State :=
  let (s1, q) := takeSeq s typ
  putCell s1 sp (typ = 4) (mkCell typ.1 s1.spv sp s1.sp.nodeId dst 0 q payload)

/-- Originate a flooded cell on every UP port (R287). -/
def flood (s : State) (typ : Fin 6) (payload : Bytes) : State :=
  let (s1, q) := takeSeq s typ
  [SpPort.u, .a, .b].foldl (fun t sp =>
    if (t.yobor sp).link = .up then t.emit (.cell sp (mkCell typ.1 t.spv sp t.sp.nodeId 0xFFF 0 q payload)) else t) s1

/-- Where an MGT cell for a node goes: a down port whose range holds it, else up (R292). None for the node itself. -/
def mgtRoute (s : State) (dst : Nat) : Option SpPort :=
  if dst = s.sp.nodeId then none
  else if s.sp.a.lo ≤ dst ∧ dst ≤ s.sp.a.hi ∧ s.sp.a.lo ≠ 0 then some .a
  else if s.sp.b.lo ≤ dst ∧ dst ≤ s.sp.b.hi ∧ s.sp.b.lo ≠ 0 then some .b
  else some .u

/-- Send the segments of an MGT message from segment `n` on. -/
def mgtSegs : Nat → Nat → State → SpPort → Nat → Nat → Nat → Bytes → State
  | 0, _, s, _, _, _, _, _ => s
  | fuel + 1, n, s, sp, dst, kind, ttag, bs =>
    if bs.isEmpty && n != 0 then s
    else mgtSegs fuel (n + 1)
      (sendOne s sp 4 dst ([BitVec.ofNat 8 kind, BitVec.ofNat 8 n] ++ le 2 ttag ++ padTo 16 (bs.take 16))) sp dst kind ttag (bs.drop 16)

/-- Send an MGT message to a node (R294); nothing while ALONE (R282), and no transfer message under SPV 2 (R308). -/
def sendMgt (s : State) (dst kind ttag : Nat) (bs : Bytes) : State :=
  if s.sp.st = .alone ∨ (3 ≤ kind ∧ s.spv < 3) then s
  else match mgtRoute s dst with
    | none => s
    | some sp => if (s.yobor sp).link ≠ .up then s else mgtSegs (bs.length / 16 + 2) 0 s sp dst kind ttag bs

/-! ### Events (R364, R379, R305) -/

/-- The lowest-numbered event ring that exists. -/
def lowestEventRing (s : State) : Option (Fin 64) := (idx 64).find? fun r => 48 ≤ r.1 && r.1 < 56 && (s.ring r).exists_

/-- The event ring a route names, if it exists (R379). -/
def routeRing (s : State) (v : Byte) : Option (Fin 64) :=
  if v = 0xFF then lowestEventRing s
  else if 48 ≤ v.toNat ∧ v.toNat < 56 ∧ (s.ring (ringNo v.toNat)).exists_ then some (ringNo v.toNat)
  else none

/-- Write an event entry under this node's routing; count it where it is not written (R379) or dropped (R344). -/
def writeEvent (s : State) (code sev : Nat) (e : Bytes) : State :=
  let r := look s.routes (finOf 8 (by decide) (code / 4096 + 7))
  let i := code % 4096 - 1
  if r.disable.getLsbD i || sev < r.minSev then { s with cnt := { s.cnt with unwritten := sat32 s.cnt.unwritten 1 } }
  else match routeRing s r.ring with
    | none => { s with cnt := { s.cnt with unwritten := sat32 s.cnt.unwritten 1 } }
    | some n =>
      let full := (s.ring n).full && !s.link.d3hot
      let s1 := pushEntry s n e false
      if full then { s1 with cnt := { s1.cnt with dropped := sat32 s1.cnt.dropped 1 } } else s1

/-- An event entry with byte 4 left for the catchword (R364). -/
def eventEntry (code kind index sev node tb : Nat) (data : Bytes) : Bytes :=
  le 2 code ++ [BitVec.ofNat 8 index, BitVec.ofNat 8 kind, 0, BitVec.ofNat 8 sev] ++ le 2 node ++ le 8 tb ++ (padTo 16 data).take 16

/-- Raise an event: count it, write it under the routing, and send it to EVT_SINK (R305, R379). -/
def raise (s : State) (code kind index sev : Nat) (data : Bytes) : State :=
  let e := eventEntry code kind index sev s.sp.nodeId s.ns data
  let s1 := { s with cnt := { s.cnt with events := sat32 s.cnt.events 1 } }
  let s2 := writeEvent s1 code sev e
  if s.sp.nodeId ≠ 0 ∧ s.sp.evtSink ≠ 0 ∧ s.sp.evtSink.toNat ≠ s.sp.nodeId then sendMgt s2 s.sp.evtSink.toNat 2 0 e else s2

/-! ### Completions (R363, R370, R374) -/

/-- A completion entry with byte 4 left for the catchword. -/
def cplEntry (tag st ring node res : Nat) : Bytes :=
  le 2 tag ++ le 2 st ++ [0, BitVec.ofNat 8 ring] ++ le 2 node ++ le 8 res

/-- Write a completion for an entry that ring `r` carried, on its paired ring (R363). -/
def writeCpl (s : State) (r : Fin 64) (tag st node res : Nat) (notify : Bool) : State :=
  let g := s.ring r
  if g.exists_ then pushEntry s (ringNo g.pair.toNat) (cplEntry tag st r.1 node res) notify else s

/-- Count a completion (R388). -/
def countCpl (s : State) (st : Nat) : State :=
  { s with cnt := { s.cnt with cmds := satAdd 64 s.cnt.cmds 1, refused := if succeeds st then s.cnt.refused else sat32 s.cnt.refused 1 } }

/-- Change the first broadcast with this header, or take it out. Log entry 70: DEDUCED. -/
def bcastPut (h : CmdHdr) (new : Option Broadcast) : List Broadcast → List Broadcast
  | [] => []
  | b :: bs => if b.h = h then new.toList ++ bs else b :: bcastPut h new bs

/-- One node has answered a broadcast: its completion is written, and the closing one after the last (R374). Log entry 70: DEDUCED. -/
def bcastAnswer (s : State) (h : CmdHdr) (node st res : Nat) (timedOut : Bool) : State :=
  match h.src with
  | .ring r =>
    let s1 := writeCpl s r h.tag.toNat st node res (isNotify h)
    match s.spr.bcasts.find? fun b => b.h = h with
    | none => s1
    | some b =>
      let b' := { b with left := b.left - 1, answered := if timedOut then b.answered else b.answered + 1, failed := b.failed || timedOut }
      let over_ := b'.left = 0
      let s2 := { s1 with spr := { s1.spr with bcasts := bcastPut h (if over_ then none else some b') s1.spr.bcasts } }
      if over_ then
        writeCpl s2 r h.tag.toNat (if b'.failed then stTimeout else stOk) 0xFFF (b'.answered + 65536 * b'.total) (isNotify h)
      else s2
  | .tunnel _ _ | .mctp _ | .lost => s

/-- A vendor-defined MCTP message: type 0x7E, Nohaid's vendor ID, KIND, and its content (R440, R441). Log entry 10: DESIGN CHOICE. -/
def vendorMsg (kind : Byte) (body : Bytes) : Bytes := 0x7E :: be 2 Config.vendorId.toNat ++ kind :: body

/-- Complete a command where it came from: its ring, the tunnel, MCTP, or nowhere (R304, R355, R363, R441). -/
def complete (s : State) (h : CmdHdr) (st res : Nat) : State :=
  let s1 := countCpl s st
  match h.src with
  | .ring r =>
    if h.bcast && s.sp.st != .alone then bcastAnswer s1 h s.sp.nodeId st res false
    else writeCpl s1 r h.tag.toNat st s.sp.nodeId res (isNotify h)
  | .tunnel n t => sendMgt s1 n.toNat 1 t.toNat (cplEntry h.tag.toNat st 0 s.sp.nodeId res)
  | .mctp v => s1.emit (.mctpReply v (vendorMsg 2 (cplEntry h.tag.toNat st 0xFF s.sp.nodeId res)))
  | .lost => s1

/-- Refuse a command: complete it, and halt the ring that carried it on ALIGN (R350). -/
def refuse (s : State) (h : CmdHdr) (st : Nat) : State :=
  let s1 := complete s h st 0
  match h.src with
  | .ring r => if st = stAlign then haltRing s1 r stAlign else s1
  | .tunnel _ _ | .mctp _ | .lost => s1

/-! ### Starting commands (R365, R368, R369, R371) -/

/-- The control cores take commands: in READY, or in the ROM (R402). -/
def State.cores (s : State) : Bool :=
  match s.rst.seq with
  | .ready => !s.rst.noFetch
  | .boot => (s.rst.stage = 0 || s.rst.stage = 2) && s.rst.pllLocked && !s.rst.noFetch
  | .recovery => !s.rst.noFetch
  | .held | .stretch => false

/-- Only the ROM's commands run (R402). -/
def State.romOnly (s : State) : Bool := s.rst.seq != .ready

/-- A tunnelled command of the same source has not completed (R304, R365). -/
def tunnelled (s : State) (h : CmdHdr) : Bool :=
  (s.spr.tunnel.any fun t => sameSource h.src t.h.src) || s.spr.heldBack.any fun w => sameSource h.src w.h.src

/-- An executing command keeps this one from starting: a shared subject, a fence, or the limit of 32 (R365, R368, R369). -/
def heldBy (s : State) (op : Nat) (h : CmdHdr) (p : Params) : Bool :=
  let subj := subjectsOf op p
  (s.execs.any fun e => share subj e.subj && !(passes op p e)) || 32 ≤ s.execs.length ||
  (s.execs.any fun e => sameSource h.src e.h.src && (isFence h || isFence e.h)) || (isFence h && tunnelled s h)

/-- A command came over a ring whose completion ring is this one. -/
def pairedTo (s : State) (c : Fin 64) (h : CmdHdr) : Bool :=
  match h.src with
  | .ring r => (s.ring r).exists_ && (s.ring r).pair.toNat == c.1
  | .tunnel _ _ | .mctp _ | .lost => false

/-- Slots of a completion ring that commands in execution hold reserved; a broadcast in progress holds one for its closing completion, and
a general DMA descriptor in execution one where its NOTIFY bit is set (R343, R374). Log entry 45: DEDUCED. -/
def reserved (s : State) (c : Fin 64) : Nat :=
  (s.execs.filter fun e => pairedTo s c e.h).length + (s.spr.tunnel.filter fun t => pairedTo s c t.h).length +
  (s.spr.heldBack.filter fun w => pairedTo s c w.h).length + (s.spr.bcasts.filter fun b => pairedTo s c b.h).length +
  (s.gdma.filter fun g => g.2.1.getLsbD 9 && (s.ring (ringNo g.1)).pair.toNat == c.1).length

/-- The paired completion ring has no slot left beside the reserved ones (R343). -/
def noSlot (s : State) (h : CmdHdr) : Bool :=
  match h.src with
  | .ring r =>
    let c := ringNo (s.ring r).pair.toNat
    (s.ring r).exists_ && (s.ring c).exists_ && (s.ring c).free ≤ reserved s c
  | .tunnel _ _ | .mctp _ | .lost => false

/-- The root of an enumerated tree: it sends a broadcast to its members (R374). -/
def State.rootOfTree (s : State) : Bool := s.rst.straps.getLsbD 4 && s.sp.st != .alone

/-- The completions a fetched command will write: one, or on the root of a tree one for each node and the closing one (R374). -/
def Waiting.slots (s : State) (w : Waiting) : Nat := if w.target = 0xFFF && s.rootOfTree then s.sp.last + 1 else 1

/-- A completion ring has room for `n` more completions beside those reserved for fetched commands (R343). -/
def cplRoom (s : State) (r : Fin 64) (n : Nat) : Bool :=
  let c := ringNo (s.ring r).pair.toNat
  !(s.ring c).exists_ ||
    decide (reserved s c + ((s.waiting.filter fun w => pairedTo s c w.h).map (Waiting.slots s)).sum + n ≤ (s.ring c).free)

/-- The command is for another node. -/
def Waiting.remote (w : Waiting) : Bool := w.target != 0 && w.target != 0xFFF

/-- The subjects a waiting command will hold on this node. -/
def Waiting.subj (w : Waiting) : List Subject := if w.remote then [] else subjectsOf w.op w.p

/-- A waiting command of the same source, or one that shares a subject, comes first (R368, R369). -/
def behind (ws : List Waiting) (src : CmdSrc) (subj : List Subject) : Bool :=
  ws.any fun w => sameSource w.h.src src || share w.subj subj

/-- The host link lets a command of its own rings wait: the function is in D3hot (R337). -/
def linkRests (s : State) (h : CmdHdr) : Bool :=
  match h.src with
  | .ring _ => s.link.d3hot
  | .tunnel _ _ | .mctp _ | .lost => false

/-- The command has to wait. Log entry 14: DESIGN CHOICE. -/
def mustWait (s : State) (op : Nat) (h : CmdHdr) (p : Params) : Bool :=
  heldBy s op h p || noSlot s h || linkRests s h || (!s.resuming && behind s.waiting h.src (subjectsOf op p))

/-- A waiting command cannot start yet. A tunnelled one waits for no subject here, and its fence acts at its target (R365). -/
def keptBack (s : State) (before : List Waiting) (w : Waiting) : Bool :=
  behind before w.h.src w.subj || noSlot s w.h || linkRests s w.h ||
  (if w.remote then s.execs.any fun e => sameSource w.h.src e.h.src && isFence e.h else heldBy s w.op w.h w.p)

/-- The first waiting command that can start, with the list before it (earlier ones, in order) and after it. Log entry 14: DESIGN CHOICE. -/
def nextStart (s : State) : List Waiting → List Waiting → Option (Waiting × List Waiting)
  | _, [] => none
  | before, w :: ws => if keptBack s before w then nextStart s (before ++ [w]) ws else some (w, before ++ ws)

/-- The bits of FLAGS that are reserved (R362). -/
def flagsBad (h : CmdHdr) : Bool := rsv h.flags.toNat 0x0B

/-- The frame in which every command starts: it waits (R368), the ROM refuses what it does not execute (R402), the checks run in the
order of R371, and then a dry run only reports (R367), or the command acts. Log entry 81: DESIGN CHOICE. -/
def command (op : Nat) (h : CmdHdr) (p : Params) (s : State) (fields : List (Nat × Nat)) (checks : List (Bool × Nat))
    (dry : State → State) (act : State → State) : State :=
  if !s.cores then s
  else if mustWait s op h p then { s with waiting := s.waiting ++ [{ target := 0, op := op, h := h, p := p, cw := 0, bad := false }] }
  else if s.romOnly && !(romOps.contains op) then refuse s h stBadState
  else match firstBad ((flagsBad h || undefSet p fields, stBadParam) :: checks) with
    | 0 => if isDry h then dry s else act s
    | st + 1 => refuse s h (st + 1)

/-- Take up execution of a command that does not complete at once. -/
def beginExec (s : State) (op : Nat) (h : CmdHdr) (p : Params) (w : Wait) (need : Nat) : State :=
  { s with execs := s.execs ++ [{ id := s.nextId, op := op, h := h, p := p, subj := subjectsOf op p, wait := w, data := [], need := need, acks := 0 }],
           nextId := s.nextId + 1 }

/-- An executing command ends: it leaves the list and completes. -/
def endExec (s : State) (e : Exec) (st res : Nat) : State :=
  complete { s with execs := s.execs.filter fun x => x.id != e.id } e.h st res

/-- End every executing command that a test picks. -/
def endAll (s : State) (f : Exec → Bool) (st res : Nat) : State :=
  (s.execs.filter f).foldl (fun t e => endExec t e st res) s

/-- Pieces of 4,096 bytes at most (R305). -/
def pieces : Nat → Bytes → List Bytes
  | 0, _ => []
  | n + 1, bs => if bs.isEmpty then [] else bs.take 4096 :: pieces n (bs.drop 4096)

/-- How many pieces a transfer of a length makes. -/
def pieceCount (len : Nat) : Nat := (len + 4095) / 4096

/-- Write a result record or read-out for a command: to host memory, through the tunnel to the entry node, or into the staging
window (R305, R348, R441). -/
def writeOut (s : State) (h : CmdHdr) (addr : Nat) (data : Bytes) : State :=
  match h.src with
  | .ring _ => s.hostWrite addr data
  | .tunnel n t =>
    ((pieces (pieceCount data.length) data).foldl (fun (a : State × Nat) d =>
      (sendMgt (sendMgt a.1 n.toNat 5 t.toNat (le 8 a.2 ++ le 4 d.length)) n.toNat 6 t.toNat d, a.2 + d.length)) (s, addr)).1
  | .mctp _ => { s with mgt := { s.mgt with sram := s.mgt.sram.write addr data } }
  | .lost => s

/-- Ask for the host data of an executing command (R305, R349); the staging window needs no request. -/
def readIn (s : State) (id : Nat) (h : CmdHdr) (addr len : Nat) (ns : Bool) : State :=
  match h.src with
  | .ring _ => s.dmaRead id addr len ns
  | .tunnel n t =>
    (List.range (pieceCount len)).foldl (fun u i =>
      sendMgt u n.toNat 3 t.toNat (le 8 (addr + 4096 * i) ++ le 4 (min 4096 (len - 4096 * i)))) s
  | .mctp _ | .lost => s

/-- There is no host memory to reach for a command: a host reset has closed its ring (R355, R406), or it came through the tunnel and SPV_OP is
2 by now, under which no transfer message exists (R308). Log entry 17: DEDUCED. -/
def noHost (s : State) (h : CmdHdr) : Bool :=
  match h.src with
  | .lost => true
  | .tunnel _ _ => decide (s.spv < 3)
  | .ring _ | .mctp _ => false

/-- The status of a command whose output is written: ABORTED where the tunnel does not carry it (R308, R350). Log entry 17: DEDUCED. -/
def outSt (s : State) (h : CmdHdr) : Nat :=
  match h.src with
  | .tunnel _ _ => if s.spv < 3 then stAborted else stOk
  | .ring _ | .mctp _ | .lost => stOk

/-- Start a command that reads host data (class T). Where there is no host memory to reach, it ends. -/
def beginRead (s : State) (op : Nat) (h : CmdHdr) (p : Params) (addr len : Nat) (ns : Bool) : State :=
  if noHost s h then complete s h stAborted 0 else readIn (beginExec s op h p .dma len) s.nextId h addr len ns

/-- Write a read-out longer than a result record; the command completes when the transfer is done (class T). -/
def beginWrite (s : State) (op : Nat) (h : CmdHdr) (p : Params) (addr : Nat) (data : Bytes) : State :=
  let s1 := writeOut (beginExec s op h p .dma 0) h addr data
  { s1 with execs := s1.execs.map fun x => if x.id = s.nextId then { x with acks := pieceCount data.length } else x }

/-- Draw a free value. Log entry 8: DESIGN CHOICE. -/
def State.draw (s : State) : State := { s with draws := s.draws + 1 }

/-! ### Transfers that are cut (R139, R353, R355, R405) -/

/-- The region of a handle. -/
def State.region (s : State) (handle : Nat) : Option Region := assoc handle s.page.regions

/-- Write bytes into a region; words written anew are no longer damaged. -/
def fillRegion (s : State) (handle ofs : Nat) (data : Bytes) : State :=
  match s.region handle with
  | none => s
  | some r =>
    let new : Region := { r with mem := r.mem.write ofs data, bad := r.bad.filter fun a => decide (a < ofs) || decide (ofs + data.length ≤ a) }
    { s with page := { s.page with regions := assocSet handle new s.page.regions } }

/-- The slot of a number: 0 A, 1 B, 2 RAM. -/
def State.fwSlot (s : State) (n : Nat) : FwSlot := if n = 0 then s.flash.slotA else if n = 1 then s.flash.slotB else s.flash.ram

/-- Change a slot. -/
def State.setFwSlot (s : State) (n : Nat) (f : FwSlot) : State :=
  if n = 0 then { s with flash := { s.flash with slotA := f } }
  else if n = 1 then { s with flash := { s.flash with slotB := f } }
  else { s with flash := { s.flash with ram := f } }

/-- An EMPTY slot. -/
def FwSlot.none_ : FwSlot := { st := .empty, image := [] }

/-- The transfer of an FW_STAGE is cut: its slot is EMPTY (R405). -/
def stageCut (s : State) (e : Exec) : State := if e.op = 0x0C01 ∧ !(isDry e.h) then s.setFwSlot (fld e.p 8 1) .none_ else s

/-- The bytes of a cut transfer into a region are undefined (R139, R353). -/
def undefSpan (s : State) (handle ofs len : Nat) : State :=
  (fillRegion s handle ofs ((List.range len).map (Config.undefByte s.draws))).draw

/-- A command ends because its transfer is cut: an FW_STAGE leaves its slot EMPTY, a PAGE_FILL its span undefined. -/
def cutExec (s : State) (e : Exec) : State :=
  let s1 := stageCut s e
  let s2 := if e.op = 0x0F03 ∧ !(isDry e.h) then undefSpan s1 (fld e.p 8 2) (fld e.p 12 4) (fld e.p 24 4) else s1
  endExec s2 e stAborted 0

end Sys2Proof.Machine
end

