-- ==== Sys2Proof/Machine/Fetch.lean ====
section
/-! DEFINITION. Reading entries of host-produced rings: catchwords, re-reads and STALE halts (12_host_rings.md R345, R351, R354, R358). -/

namespace Sys2Proof.Machine

/-- Entries posted and not fetched. -/
def Ring.posted (g : Ring) : Nat := (g.tail + g.size.toNat - g.fetch) % max g.size.toNat 1

/-- The ring engine may read the next entry of a host-produced ring: it is ACTIVE, an entry is posted, and the function is in D0 (R337). -/
def mayRead (s : State) (r : Fin 64) : Bool := (s.ring r).st == .active && (s.ring r).posted != 0 && !s.link.d3hot

/-- What a read of an entry comes to. -/
inductive ReadResult where
  /-- the entry is not accepted yet, or the ring is halted -/
  | wait (s : State)
  /-- the entry is accepted -/
  | got (s : State)
  deriving DecidableEq, Repr

/-- Step the fetch index past an accepted entry. -/
def Ring.fetched (g : Ring) : Ring :=
  let last := g.fetch + 1 = g.size.toNat
  { g with fetch := if last then 0 else g.fetch + 1, fetchPass := if last then g.fetchPass + 1 else g.fetchPass, rereads := 0 }

/-- SYS_RING_STALE, and the ring halts (R345, R358). -/
def staleHalt (s : State) (r : Fin 64) (got : Nat) : State :=
  let g := s.ring r
  let addr := g.base.toNat + entrySize r.1 * g.fetch
  let s1 := raise s evRingStale kRing r.1 3
    ([BitVec.ofNat 8 r.1, BitVec.ofNat 8 (catchword g.fetchPass), BitVec.ofNat 8 got, 0] ++ le 4 g.fetch ++ le 8 addr)
  (haltRing s1 r stStale).modRing r fun x => { x with rereads := 0 }

/-- Read the entry at the fetch index, whose byte 3 is `cw`; a mismatch asks for another read 1 µs later, 16 times at most. -/
def readEntry (s : State) (r : Fin 64) (cw : Nat) : ReadResult :=
  let g := s.ring r
  let s1 := s.emit (.entryRead r.1 g.fetch (g.base.toNat + entrySize r.1 * g.fetch))
  if cw = catchword g.fetchPass then .got (s1.modRing r Ring.fetched)
  else if 16 ≤ g.rereads then .wait (staleHalt s1 r cw)
  else .wait (s1.modRing r fun x => { x with rereads := x.rereads + 1, rereadAt := s1.clk + usPh })

/-- A further read of the entry at the fetch index is made: when it is due, counted (R388). -/
def rereadNow (s : State) (r : Fin 64) : State :=
  let t := s.advanceTo (s.ring r).rereadAt
  { t with cnt := { t.cnt with rereads := sat32 t.cnt.rereads 1 } }

/-- The catchword of an entry given as a number (byte 3). -/
def entryCw {w : Nat} (e : BitVec w) : Nat := e.toNat / 2 ^ 24 % 256

end Sys2Proof.Machine
end

