-- ==== Sys2Proof/Machine/Pins.lean ====
section
/-! DEFINITION. FAULT_N and RDY as what the state says now, the spine STOP and fault cells that go with them (10_spine.md R300,
R302; 11_press_bus.md R326, R327). -/

namespace Sys2Proof.Machine

/-- ROOT_S as sampled (R398). -/
def State.isRoot (s : State) : Bool := s.rst.straps.getLsbD 4

/-- The controller of a CAN pair. -/
def State.can (s : State) (c : Fin 2) : Can := if c = 0 then s.press.canA else s.press.canB

/-- Change a CAN controller. -/
def State.modCan (s : State) (c : Fin 2) (f : Can → Can) : State :=
  if c = 0 then { s with press := { s.press with canA := f s.press.canA } }
  else { s with press := { s.press with canB := f s.press.canB } }

/-- In bus-off, recovering or not. -/
def Can.isOff (c : Can) : Bool := c.st == .busOff || c.st == .recovering

/-- Every controller with PRESS_MSGS is in bus-off, and there is one. -/
def State.pressOff (s : State) : Bool :=
  (s.press.canA.pressMsgs || s.press.canB.pressMsgs) && (!s.press.canA.pressMsgs || s.press.canA.isOff) &&
  (!s.press.canB.pressMsgs || s.press.canB.isOff)

/-- The node's FAULT_N request (R326). Log entry 59: DEDUCED. -/
def State.faultRequest (s : State) : Bool :=
  s.th.faultReq || (s.isRoot && s.sp.treeFault && !s.spr.faultSet.isEmpty) ||
  (s.press.faultSrc.getLsbD 0 && (idx 32).any fun p => (s.port p).st == .fault) ||
  (s.press.faultSrc.getLsbD 1 && (idx 8).any fun q => (s.quire q).st == .fault) ||
  (s.press.faultSrc.getLsbD 2 && s.pressOff) || (s.press.faultSrc.getLsbD 3 && s.press.timeout)

/-- The node is command-ready (R400). -/
def State.commandReady (s : State) : Bool := s.rst.seq == .ready

/-- Some reset holds the part (R326 to R328). -/
def State.inReset (s : State) : Bool := s.rst.seq == .held || s.rst.seq == .stretch

/-- The FAULT_N pin is driven low: on a request, never during a reset, but from a thermal shutdown until reset release.
Log entry 59: DEDUCED. -/
def State.faultLow (s : State) : Bool := s.rst.shut || (!s.inReset && s.faultRequest)

/-- The RDY pin (R327). Log entry 59: DEDUCED. -/
def State.rdy (s : State) : Bool :=
  s.commandReady && !s.press.rdyHold && !s.press.stopLow && !s.faultRequest

/-- The spine STOP of a happening that EVT_OUT enables (R300): bit of EVT_OUT, cause sent. -/
def evtStop (s : State) (b cause : Nat) : State :=
  if s.sp.nodeId = 0 || !(s.sp.evtOut.getLsbD b) then s
  else flood s 0 ([1, BitVec.ofNat 8 cause, s.sp.evtQuires, 0] ++ le 8 s.ns)

/-- FAULT_SET or FAULT_CLEAR when the FAULT_N request has changed since it was last looked at (R302). -/
def faultEdge (s : State) : State :=
  let now := s.faultRequest
  if now = s.spr.faultSent then s
  else
    let s1 := { s with spr := { s.spr with faultSent := now } }
    if s.sp.nodeId = 0 ∨ s.sp.spvOp < 3 then s1
    else flood s1 0 ([if now then 2 else 3, 0, 0, 0] ++ le 8 s.ns)

end Sys2Proof.Machine
end

