-- ==== Sys2Proof/Machine/Measure.lean ====
section
/-! DEFINITION. Measurement registers and their log (15_otp_trust.md R435 to R437). -/

namespace Sys2Proof.Machine

/-- A log entry (R437). -/
def logEntry (n kind seq tb : Nat) (d : Bytes) : Bytes := [BitVec.ofNat 8 n, BitVec.ofNat 8 kind, 0, 0] ++ le 4 seq ++ le 8 tb ++ d

/-- Extend MEASn with a digest: MEASn becomes SHA-384(MEASn then D), counted and logged (R435, R437). -/
def measure (s : State) (n : Fin 8) (kind : Nat) (d : Bytes) : State :=
  let m := s.mgt
  let full := decide (4096 ≤ m.log.length)
  { s with mgt := { m with
      meas := upd m.meas n fun x => sha384 (x ++ d), cnts := upd m.cnts n fun c => sat32 c 1,
      log := if full then m.log else m.log ++ [logEntry n.1 kind m.extends_ s.ns d],
      overflow := m.overflow || full, extends_ := sat32 m.extends_ 1 } }

/-- MEAS4 takes loaded data: the digest of the port, the channel and slot where they apply, then the data (R436). -/
def measureData (s : State) (kind : Nat) (who : List Nat) (data : Bytes) : State :=
  measure s 4 kind (sha384 (who.map (BitVec.ofNat 8 ·) ++ data))

/-- A level map or a temperature table that has been loaded into a shadow bank is measured. -/
def measureLoad (s : State) (op : Nat) (p : Params) (data : Bytes) : State :=
  if op = 0x0502 then measureData s 8 [fld p 8 1, fld p 9 1] (fldBytes p 10 1 ++ fldBytes p 12 8)
  else if op = 0x0503 then measureData s 9 [fld p 8 1, fld p 9 1] data
  else s

/-- MGT_MEASn_W0_READ: the read of W0 latches the rest of the register and its count. -/
def mgtMeasW0Read (n : Fin 8) (s : State) : State :=
  let x := look s.mgt.meas n
  { s with mgt := { s.mgt with latch := upd s.mgt.latch n fun _ => x, latchCnt := upd s.mgt.latchCnt n fun _ => look s.mgt.cnts n } }.emit
    (.readData (0x8100 + 0x40 * n.1) (BitVec.ofNat 32 (rdAt x 0 4)))

/-- MGT_MEAS_W0_READ (R435). -/
def execMgtMeasW0Read (n : Fin 8) (s : State) : Host.Outcome State Fault Refusal := .next (mgtMeasW0Read n s)

end Sys2Proof.Machine
end

