-- ==== Sys2Proof/Machine/Tracker.lean ====
section
/-! DEFINITION. What the position tracker and the fire timing engine compute from a source: the interpolated and tracked
position, S, fire points, `QUIRE_NEXT`, reference instants (02_position.md R52 to R60; 03_fire_timing.md R79 to R87). -/

namespace Sys2Proof.Machine

/-! ### Positions -/

/-- The signed difference of two positions, in 1/256 count (R52). -/
def posDiff (a b : Pos) : Int := (a - b).toInt

/-- A position moved by a signed number of 1/256 counts. -/
def posAdd (a : Pos) (d : Int) : Pos := a + BitVec.ofInt 56 d

/-- +1 while the tracking direction is increasing, −1 while it is decreasing. -/
def Source.sign (x : Source) : Int := if x.trackDir then -1 else 1

/-- The prediction speed (R57): zero while HELD, REVERSED, STALLED, FAULT, and until interpolation resumes (R54). -/
def Source.pred (x : Source) : Nat := if x.st = .tracking ∧ x.base.isSome then x.speed else 0

/-- Whole 1/256 counts travelled at `S` (Q32.16 counts/s) in `dt` phases: ⌊256 × S × dt⌋ (R58). Log entry 23: DESIGN CHOICE. -/
def travelled (speed dt : Nat) : Nat := speed * dt / 1024000000000

/-- The most the interpolation runs beyond its base before the next advancing edge (R58), in 1/256 count. -/
def Source.clampUnits (x : Source) (e : Pos) : Nat :=
  (x.sign * posDiff x.mark e + 256 * x.adv + 255).toNat

/-- The interpolated position at time `t` (R58, R65). -/
def Source.interpAt (x : Source) (t : Nat) : Pos :=
  match x.base with
  | none => x.tracked
  | some (e, te) => posAdd e (x.sign * (min (travelled x.pred (t - te)) (x.clampUnits e) : Nat))

/-- The tracked position at time `t`: it moves only while TRACKING, and never against the tracking direction (R53, R56). -/
def Source.trackedAt (x : Source) (t : Nat) : Pos :=
  if x.st = .tracking ∧ x.base.isSome ∧ 0 < x.sign * posDiff (x.interpAt t) x.tracked then x.interpAt t else x.tracked

/-- The interpolated position sits at its clamp (ENC_STATE.INTERP_CLAMPED). -/
def Source.clamped (x : Source) (t : Nat) : Bool :=
  match x.base with
  | none => false
  | some (e, te) => x.st = .tracking && x.clampUnits e ≤ travelled x.pred (t - te)

/-- The time a source's positions run on: the timebase for a remote source (R65), else the clock. -/
def State.srcTime (s : State) (n : Fin 16) : Nat := if n.1 < 4 then s.clk else s.tb

/-- The tracked position now. -/
def State.trackedNow (s : State) (n : Fin 16) : Pos := (s.source n).trackedAt (s.srcTime n)

/-- The source follows BI tracking; a remote source follows its origin's (R69), and counts as UNI before its first position cell. Log entry 89:
DESIGN CHOICE. -/
def State.srcBi (s : State) (n : Fin 16) : Bool :=
  if n.1 < 4 then (s.source n).cfg.bi
  else match (s.source n).copy with
    | some c => c.bi
    | none => false

/-- The source's response is FILTERED; a remote source uses its origin's (R79). -/
def State.srcFiltered (s : State) (n : Fin 16) : Bool :=
  if n.1 < 4 then (s.source n).cfg.filtered
  else match (s.source n).copy with
    | some c => c.filtered
    | none => false

/-! ### Speed (R57) -/

/-- The oldest advancing edge not older than `from_`, else the second newest. -/
def oldestIn (from_ : Nat) : List (Nat × Nat × Pos) → Option (Nat × Pos)
  | [] => none
  | [e] => if from_ ≤ e.2.1 then some e.2 else none
  | e :: es => if from_ ≤ e.2.1 then (oldestIn from_ es).orElse fun _ => some e.2 else none

/-- S from the advancing edges, newest first: marks over time, in Q32.16 counts/s, cut to 48 bits. Log entry 23: DESIGN CHOICE. -/
def speedOf (winUs : Nat) (es : List (Nat × Nat × Pos)) : Nat :=
  match es with
  | [] | [_] => 0
  | a :: b :: rest =>
    let old := (oldestIn (a.2.1 - winUs * usPh) (b :: rest)).getD b.2
    min ((posDiff a.2.2 old.2).natAbs * 1024000000000 / max (a.2.1 - old.1) 1) (2 ^ 48 - 1)

/-- Edges that may still matter: those in the window, the newest 16 (R60), and two at least. -/
def keepEdges (winUs : Nat) (es : List (Nat × Nat × Pos)) : List (Nat × Nat × Pos) :=
  match es with
  | [] => []
  | a :: rest =>
    let inWin := (a :: rest).takeWhile fun e => a.2.1 - winUs * usPh ≤ e.2.1
    if inWin.length < 16 then (a :: rest).take 16 else inWin

/-- The expected edge interval in phases, rounded up; none while S is 0 (R59). -/
def Source.interval (x : Source) : Option Nat :=
  if x.speed = 0 then none
  else
    let one := ceilDiv 262144000000000 x.speed
    if x.cfg.mode = .ssi ∨ x.cfg.mode = .bissC then some (max one (x.cfg.serPeriod * 4)) else some one

/-- The value at the newest edge of the least-squares line of time over mark through the last 16 advancing edges (R60), in
phases; `es` holds the newest edge first with its measured time. -/
def fitted (es : List (Nat × Nat × Pos)) : Int :=
  match es.take 16 with
  | [] => 0
  | a :: rest =>
    let pts := (a :: rest).map fun e => (posDiff e.2.2 a.2.2 / 256, (e.1 : Int) - (a.1 : Int))
    let n : Int := pts.length
    let sx := (pts.map fun q => q.1).sum
    let sy := (pts.map fun q => q.2).sum
    let sxx := (pts.map fun q => q.1 * q.1).sum
    let sxy := (pts.map fun q => q.1 * q.2).sum
    let den := n * sxx - sx * sx
    if den = 0 then a.1 else (a.1 : Int) + roundDiv (sxx * sy - sx * sxy) den

/-- The time in use of a new advancing edge: as measured, or under FILTERED the fitted value within a quarter of the expected
interval (R60). -/
def Source.stampFor (x : Source) (t : Nat) (m : Pos) : Nat :=
  if x.cfg.filtered then
    match x.interval with
    | none => t
    | some i => (clampI ((t : Int) - i / 4) ((t : Int) + i / 4) (fitted ((t, t, m) :: x.edges))).toNat
  else t

/-- Record an advancing edge at time `t` that moves the mark to `m` (R57, R58, R60). -/
def Source.advanceEdge (x : Source) (t : Nat) (m : Pos) : Source :=
  let u := x.stampFor t m
  let es := keepEdges x.cfg.winUs ((t, u, m) :: x.edges)
  { x with mark := m, edges := es, speed := speedOf x.cfg.winUs es, base := some (m, u) }

/-- Shift the marks of the recorded edges and the interpolation base (an index correction, a preset). Log entry 25: DEDUCED. -/
def Source.shift (x : Source) (d : Int) : Source :=
  { x with edges := x.edges.map (fun e => (e.1, e.2.1, posAdd e.2.2 d)), base := x.base.map fun b => (posAdd b.1 d, b.2) }

/-! ### Boundaries and fire points (R67, R79, R80, R87) -/

/-- A position less boundary k, in 1/65,536 count, by signed difference (R52, R67). -/
def Quire.rel (q : Quire) (pos : Pos) (k : Int) : Int :=
  (BitVec.ofInt 64 ((pos.toNat : Int) * 256 - (q.origin.toNat : Int) * 256 - k * q.pitch)).toInt

/-- E_p in ps: max(0, 21 τ − 96 ns) on HIF-A and HIF-B, 0 on HIF-C (R79). -/
def Port.eventLead (p : Port) : Nat :=
  match p.profile, p.cfg with
  | some f, some c => if f.gen = 3 then 0 else ceilDiv 21000000 (max c.laneRate 1) - 96000
  | _, _ => 0

/-- The magnitude of the most negative live fractional offset, in 250 ps (R79). -/
def Port.negLead (p : Port) : Nat :=
  match p.banks with
  | none => 0
  | some b => b.live.frac.toList.foldl (fun m o => max m (-o).toNat) 0

/-- T_FIX in ps (R79). -/
def State.tFix (s : State) (n : Fin 16) : Nat := if s.srcFiltered n then 420000 else 160000

/-- T_FLIGHT in ps; 0 without a stored job (R87). -/
def Quire.flight (q : Quire) : Nat :=
  match q.job with
  | some j => j.flight
  | none => 0

/-- The whole lead of a port in ps: flight, T_FIX, N_p, E_p. -/
def State.leadPs (s : State) (q : Quire) (p : Fin 32) : Nat :=
  q.flight + s.tFix q.source + 250 * (s.port p).negLead + (s.port p).eventLead

/-- The lead of a quire with the largest N_p and E_p among its ports (R87). -/
def State.quireLead (s : State) (qi : Fin 8) : Nat :=
  let q := s.quire qi
  let m := (s.portsOf qi).foldl (fun m p => (max m.1 (s.port p).negLead, max m.2 (s.port p).eventLead)) (0, 0)
  q.flight + s.tFix q.source + 250 * m.1 + m.2

/-- +1 for increasing, −1 for decreasing: the quire's firing direction (R87). Between jobs a SCAN quire keeps that of its last swath, and a bind
sets it to increasing. Log entry 95: DESIGN CHOICE. -/
def Quire.dir (q : Quire) : Int := if q.down then -1 else 1

/-- The tracked position has reached the fire point of boundary k with lead `lead` (R79). -/
def reached (q : Quire) (x : Source) (pos : Pos) (lead : Nat) (k : Int) : Bool :=
  0 ≤ q.dir * q.rel pos k * 1000000000000 + (x.pred : Int) * lead

/-- The first boundary in firing order whose fire point the tracked position has not reached (R87). -/
def State.nextByPosition (s : State) (qi : Fin 8) : Int :=
  let q := s.quire qi
  let x := s.source q.source
  let d := q.rel (s.trackedNow q.source) 0
  let den : Int := q.pitch * 1000000000000
  let lead : Int := (x.pred : Int) * s.quireLead qi
  if q.pitch = 0 then 0
  else if q.down then -(Int.fdiv (lead - d * 1000000000000) den) - 1
  else Int.fdiv (d * 1000000000000 + lead) den + 1

/-- `QUIRE_NEXT` (R87). -/
def State.quireNext (s : State) (qi : Fin 8) : Int :=
  let q := s.quire qi
  if q.st = .unbound ∨ q.st = .fault then q.next
  else if q.running then
    match s.activeOf qi with
    | [] => q.next
    | p :: ps => ps.foldl (fun m r => if q.down then max m (s.port r).nextK else min m (s.port r).nextK) (s.port p).nextK
  else if (s.source q.source).trackDir = q.down then s.nextByPosition qi
  else q.next

/-- By how many lines boundary b is behind; not positive means not behind (R87). -/
def State.behindBy (s : State) (qi : Fin 8) (b : Int) : Int := (s.quire qi).dir * (s.quireNext qi - b)

/-- Fix `QUIRE_NEXT` at its present value, before the tracking direction turns (R87). -/
def holdNext (s : State) (qi : Fin 8) : State := s.modQuire qi fun q => { q with next := s.quireNext qi }

/-- The instant, on the clock, at which the tracked position reaches the fire point of boundary k: now if it has, later if the
interpolation gets there before its clamp, never otherwise. Log entry 32: DEDUCED. -/
def State.crossing (s : State) (q : Quire) (lead : Nat) (k : Int) : Option Nat :=
  let x := s.source q.source
  let now := s.srcTime q.source
  if reached q x (x.trackedAt now) lead k then some s.clk
  else if x.pred = 0 ∨ x.trackDir ≠ q.down then none
  else match x.base with
    | none => none
    | some (e, te) =>
      let short := -(q.dir * q.rel e k * 1000000000000 + (x.pred : Int) * lead)
      let u := (Int.fdiv (short + 255999999999999) 256000000000000).toNat
      if u ≤ x.clampUnits e then
        let t := te + ceilDiv (u * 1024000000000) x.pred
        some (s.clk + (t - now))
      else none

/-- t_k in phases of the clock: the source, extrapolated from its newest advancing edge at S, reaches B − D × S × T_FLIGHT
(R80); none while S is 0. Log entry 23: DESIGN CHOICE. -/
def State.reference (s : State) (q : Quire) (k : Int) : Option Int :=
  let x := s.source q.source
  match x.base with
  | none => none
  | some (e, te) =>
    if x.pred = 0 then none
    else
      let num := -(q.dir * q.rel e k) * 1000000000000 - (x.pred : Int) * q.flight
      let t : Int := (te : Int) + roundDiv num ((x.pred : Int) * 250)
      some (t + (s.clk : Int) - (s.srcTime q.source : Int))

end Sys2Proof.Machine
end

