-- ==== Sys2Proof/Machine/Banks.lean ====
section
/-! DEFINITION. The commit joint: the double-banked tables of a port, what each load writes into the shadow bank, the swap and
the copy after it (01_architecture.md R15 to R18; 05_screening.md R142 to R144; 06_waveforms.md R183 to R188). -/

namespace Sys2Proof.Machine

/-! ### Line numbers of a job -/

/-- FLYLEAF_LINES of the stored job. -/
def Quire.fly (q : Quire) : Nat :=
  match q.job with
  | some j => j.flyleaf
  | none => 0

/-- SWATH_LINES of the stored job, at least 1. -/
def Quire.swath (q : Quire) : Nat :=
  match q.job with
  | some j => max j.swathLines 1
  | none => 1

/-- BIDIR of the stored job. -/
def Quire.bidir (q : Quire) : Bool :=
  match q.job with
  | some j => j.bidir
  | none => false

/-- The direction of swath `w`: true is decreasing (R92). -/
def Quire.downAt (q : Quire) (w : Nat) : Bool :=
  if q.scan && q.bidir then (if (w + q.swathOrd) % 2 = 0 then q.down else !q.down) else false

/-- The first boundary of a swath in a direction (R92). -/
def Quire.firstOf (q : Quire) (down : Bool) : Int :=
  match q.job with
  | some j => if down then j.firstRev else j.firstFwd
  | none => 0

/-- The line number, from 0 at the job's or swath's first boundary, of boundary k. -/
def Quire.idx (q : Quire) (k : Int) : Int := q.dir * (k - q.anchor)

/-- The line number over the whole job: in a SCAN quire earlier swaths count in full. -/
def Quire.lineG (q : Quire) (k : Int) : Int :=
  q.idx k + (if q.scan then (q.swathOrd * (q.fly + q.swath) : Nat) else 0)

/-- Boundaries of a swath. -/
def Quire.span (q : Quire) : Nat := q.fly + q.swath

/-- The largest delay of a bank. -/
def Bank.dmax (b : Bank) : Nat := b.delays.foldl max 0

/-- The largest live delay. -/
def Port.dmax (p : Port) : Nat :=
  match p.banks with
  | some b => b.live.dmax
  | none => 0

/-- Image lines of a swath on a port: its last d_max boundaries carry delayed codes alone, and SWATH_LINES includes them (R122). -/
def Quire.per (q : Quire) (x : Port) : Nat := q.swath - x.dmax

/-- The first image line whose nominal line is at or beyond line number `g` of the job (R121, R122). -/
def Quire.imageFrom (q : Quire) (x : Port) (g : Int) : Int :=
  if q.scan then
    let w := Int.fdiv g q.span
    x.dat.base + (w - q.swathOrd) * q.per x + min (q.per x : Int) (max 0 (g - w * q.span - q.fly))
  else max 0 (g - q.fly)

/-- The swaths between the present one and that of image line `j`. -/
def Quire.swathOf (q : Quire) (x : Port) (j : Nat) : Nat := (j - x.dat.base) / q.per x

/-- The number of image line `j` from its swath's first boundary, or from the job's. -/
def Quire.inSwathLine (q : Quire) (x : Port) (j : Nat) : Nat := q.fly + (if q.scan then (j - x.dat.base) % q.per x else j)

/-- The nominal line of image line `j` (R121). -/
def Quire.nominal (q : Quire) (x : Port) (j : Nat) : Int :=
  let i : Int := q.inSwathLine x j
  if q.scan then (if q.downAt (q.swathOf x j) then q.firstOf true - i else q.firstOf false + i) else q.anchor + i

/-- The line number of image line `j` over the whole job. -/
def Quire.imageG (q : Quire) (x : Port) (j : Nat) : Int :=
  (q.inSwathLine x j : Int) + (if q.scan then ((q.swathOrd + q.swathOf x j) * q.span : Nat) else 0)

/-! ### Defaults (R142, R183, R240) -/

def volDefault (depth : Nat) : List Nat :=
  (List.range 8).map fun l => if l ≤ topLevel depth then 255 * l / topLevel depth else 0

def Stitch.none_ : Stitch :=
  { passEn := false, leftTile := 0, rightTile := 0, leftWidth := 0, rightWidth := 0, yOfs := 0, passTile := 0, passes := 0,
    advance := 0, passX := 0, passY := 0 }

def Comp.default_ (depth : Nat) : Comp :=
  { mode := 0, airOut := false, weakOut := false, radius := 1, w1 := 128, w2 := 0, vol := volDefault depth }

def ChanBank.default_ : ChanBank :=
  { rows := List.replicate 8 0, keepwet := none, tcomp := [{ tStart := -640, slot := 0, g0 := 0x4000, g1 := 0x4000 }], sensor := 2,
    hyst := 16, rankGain := 0x4000 }

/-- The tables of R142 at their defaults for `n` nozzles. -/
def Bank.defaults (b : Bank) (n depth : Nat) : Bank :=
  { b with ents := List.replicate n (0x80, 0), curves := List.replicate 16 (List.range 256), tile := 0, xOfs := 0, yOfs := 0,
           delays := List.replicate n 0, deckFirst := 0, deckLast := n - 1, stitch := Stitch.none_, comp := Comp.default_ depth,
           cap := 7, host := List.replicate n 0 }

/-- A bank of a port that opens from CLOSED (R142, R183, R219). -/
def Bank.fresh (n depth : Nat) : Bank :=
  let b : Bank :=
    { ents := [], curves := [], tile := 0, xOfs := 0, yOfs := 0, delays := [], deckFirst := 0, deckLast := 0,
      stitch := Stitch.none_, comp := Comp.default_ depth, cap := 7, frac := .replicate 8 0, host := [], chA := ChanBank.default_,
      chB := ChanBank.default_ }
  b.defaults n depth

def Banks.fresh (n depth : Nat) : Banks :=
  { live := Bank.fresh n depth, shadow := Bank.fresh n depth, old := none, heldW := [], hurt := [], poison := [], written := [], pend := false,
    tcompA := false, tcompB := false }

/-- Nozzle count of PORT_CONFIG; 8,192 stands for it before one (R165). -/
def Port.nozzles (p : Port) : Nat :=
  match p.cfg with
  | some c => c.nozzles
  | none => 8192

def Port.depth (p : Port) : Nat :=
  match p.cfg with
  | some c => c.depth
  | none => 2

def Port.form (p : Port) : Nat :=
  match p.cfg with
  | some c => c.form
  | none => 0

/-- The head generation: 0 without a profile. -/
def Port.gen (p : Port) : Nat :=
  match p.profile with
  | some f => f.gen
  | none => 0

def Bank.chan (b : Bank) : Chan → ChanBank
  | .a => b.chA
  | .b => b.chB

def Bank.modChan (b : Bank) (c : Chan) (f : ChanBank → ChanBank) : Bank :=
  match c with
  | .a => { b with chA := f b.chA }
  | .b => { b with chB := f b.chB }

def Port.chan (p : Port) : Chan → Channel
  | .a => p.chA
  | .b => p.chB

def Port.modChan (p : Port) (c : Chan) (f : Channel → Channel) : Port :=
  match c with
  | .a => { p with chA := f p.chA }
  | .b => { p with chB := f p.chB }

def chanOf (n : Nat) : Chan := if n = 0 then .a else .b

/-- Change the banks of a port that has them. -/
def State.modBanks (s : State) (p : Fin 32) (f : Banks → Banks) : State := s.modPort p fun x => { x with banks := x.banks.map f }

/-! ### What each load writes -/

/-- `n` little-endian 16-bit numbers. -/
def u16s (n : Nat) (data : Bytes) : List Nat := (List.range n).map fun i => rdAt data (2 * i) 2

def entryOf (v : Nat) : Nat × Nat := (bits v 15 8, bits v 7 4)

def tentryOf (data : Bytes) (i : Nat) : TEntry :=
  { tStart := sgn 16 (rdAt data (8 * i) 2), slot := rdAt data (8 * i + 2) 1, g0 := rdAt data (8 * i + 4) 2,
    g1 := rdAt data (8 * i + 6) 2 }

def stitchOf (p : Params) : Stitch :=
  { passEn := bit (fld p 9 1) 0, leftTile := fld p 10 1, rightTile := fld p 11 1, leftWidth := fld p 12 2,
    rightWidth := fld p 14 2, yOfs := fld p 16 2, passTile := fld p 18 1, passes := fld p 19 1, advance := sfld p 20 2,
    passX := fld p 22 2, passY := fld p 24 2 }

def compOf (p : Params) : Comp :=
  { mode := fld p 9 1, airOut := bit (fld p 10 1) 0, weakOut := bit (fld p 10 1) 1, radius := fld p 11 1, w1 := fld p 12 1,
    w2 := fld p 13 1, vol := (List.range 8).map fun i => fld p (16 + i) 1 }

/-- Write the offsets that MASK names (R107). -/
def fracEdit (p : Params) (v : Vector Int 8) : Vector Int 8 :=
  updAll v fun i o => if bit (fld p 9 1) i.1 then sfld p (12 + 2 * i.1) 2 else o

/-- The host entries that NOZ_MAP_SET writes (R254). -/
def hostValues (p : Params) (data : Bytes) : List Nat :=
  if fld p 9 1 = 1 then List.replicate (fld p 12 2) (fld p 14 1)
  else (List.range (fld p 12 2)).map fun i => rdAt data i 1

/-- The shadow bank after the load of opcode `op` (R166 to R172, R107, R194, R195, R254). -/
def shadowEdit (op : Nat) (p : Params) (data : Bytes) (b : Bank) : Bank :=
  match op with
  | 0x0601 => { b with tile := fld p 9 1, xOfs := fld p 28 2, yOfs := fld p 30 2 }
  | 0x0602 =>
    if fld p 9 1 = 0 then { b with ents := splice b.ents (fld p 10 2) ((u16s (fld p 12 2) data).map entryOf) }
    else { b with curves := splice b.curves (fld p 10 2)
                    ((List.range (fld p 12 2)).map fun k => (List.range 256).map fun c => rdAt data (256 * k + c) 1) }
  | 0x0603 => { b with delays := splice b.delays (fld p 10 2) (u16s (fld p 12 2) data) }
  | 0x0605 => { b with stitch := stitchOf p }
  | 0x0606 => { b with deckFirst := fld p 12 2, deckLast := fld p 14 2 }
  | 0x0705 => { b with comp := compOf p }
  | 0x0502 =>
    b.modChan (chanOf (fld p 9 1)) fun c =>
      { c with rows := (List.range 8).map (fun i => fld p (12 + i) 1),
               keepwet := if fld p 10 1 = 0xFF then none else some (fld p 10 1) }
  | 0x0503 =>
    b.modChan (chanOf (fld p 9 1)) fun c =>
      { c with tcomp := (List.range (fld p 10 1)).map (tentryOf data), sensor := fld p 11 1, hyst := fld p 12 2,
               rankGain := fld p 14 2 }
  | 0x0504 => { b with frac := fracEdit p b.frac }
  | 0x0701 => { b with host := splice b.host (fld p 10 2) (hostValues p data) }
  | _ => b

/-- Table (R164) and index of every entry that the load writes; level maps are rows 8c + r of channel c, its temperature table
16 + c; deckle, stitch and policy are entries 0, 1, 2 of table 5. -/
def writesOf (op : Nat) (p : Params) : List (Nat × Nat) :=
  let span := fun (t first n : Nat) => (List.range n).map fun i => (t, first + i)
  match op with
  | 0x0602 => if fld p 9 1 = 0 then span 0 (fld p 10 2) (fld p 12 2) else span 1 (256 * fld p 10 2) (256 * fld p 12 2)
  | 0x0603 => span 2 (fld p 10 2) (fld p 12 2)
  | 0x0606 => [(5, 0)]
  | 0x0605 => [(5, 1)]
  | 0x0705 => [(5, 2)]
  | 0x0502 => span 7 (8 * fld p 9 1) 8
  | 0x0503 => [(7, 16 + fld p 9 1)]
  | 0x0504 => (List.range 8).filterMap fun i => if bit (fld p 9 1) i then some (8, 0x60 + 4 * i) else none
  | 0x0701 => span 6 (fld p 10 2) (fld p 12 2)
  | _ => []

/-- Note entries as written: their damage is repaired (R144). -/
def Banks.noteWritten (b : Banks) (w : List (Nat × Nat)) : Banks :=
  { b with written := w ++ b.written, poison := b.poison.filter fun e => !(w.contains e) }

/-- A tile that the shadow bank does not select poisons it no more. -/
def Banks.dropTilePoison (b : Banks) : Banks :=
  let st := b.shadow.stitch
  { b with poison := b.poison.filter fun e =>
      !((e.1 == 3 && e.2 != b.shadow.tile) || (e.1 == 4 && !([st.leftTile, st.rightTile, st.passTile].contains e.2))) }

/-- The tile of a handle in one of the pools is damaged. -/
def tileHurt (ts : List (Nat × Tile)) (t : Nat) : Bool :=
  match assoc t ts with
  | some x => x.damaged
  | none => false

/-- The damaged tiles that a bank selects, as entries of tables 3 and 4 (R144, R164). -/
def State.hurtTiles (s : State) (b : Bank) : List (Nat × Nat) :=
  (if tileHurt s.tiles b.tile then [(3, b.tile)] else []) ++
  (([b.stitch.leftTile, b.stitch.rightTile, b.stitch.passTile].filter (tileHurt s.masks)).eraseDups).map fun t => (4, t)

/-- A damaged tile that the shadow bank selects poisons it, whichever came first (R144). Log entry 20: DEDUCED. -/
def State.poisonTiles (s : State) (b : Banks) : Banks :=
  { b with poison := (s.hurtTiles b.shadow).filter (fun e => !(b.poison.contains e)) ++ b.poison }

/-- Damage that has been reported may be reported again (R455). Log entry 76: DEDUCED. -/
def forgetDamage (s : State) (key : Nat) : State :=
  { s with bg := { s.bg with reported := s.bg.reported.filter fun e => e.1 != key } }

/-- A load changes the shadow bank; a new map is due to be sent to the head, a new temperature table is marked (R185, R206). -/
def applyShadow (s : State) (port : Fin 32) (op : Nat) (p : Params) (data : Bytes) : State :=
  let ch := fld p 9 1
  let s1 := s.modBanks port fun b => s.poisonTiles <| Banks.dropTilePoison
    { (b.noteWritten (writesOf op p)) with
        shadow := shadowEdit op p data b.shadow,
        tcompA := b.tcompA || (op == 0x0503 && ch == 0), tcompB := b.tcompB || (op == 0x0503 && ch == 1) }
  if op = 0x0502 then s1.modPort port fun x => x.modChan (chanOf ch) fun c => { c with mapDue := true } else s1

/-- A shadowed register changes (R85, R155). -/
def applyReg (s : State) (port : Fin 32) (off : Nat) (v : U32) : State :=
  s.modBanks port fun b =>
    let b1 := b.noteWritten [(8, off)]
    if off = 0x44 then { b1 with shadow := { b1.shadow with cap := v.toNat % 8 } }
    else { b1 with shadow := { b1.shadow with
             frac := updAll b1.shadow.frac fun i o => if off = 0x60 + 4 * i.1 then sgn 16 v.toNat else o } }

/-- A write to the port's shadow bank has to wait for the copy of R17, or for a pending swap (a level map, R206). -/
def shadowHeld (s : State) (port : Fin 32) (op : Nat) : Bool :=
  match (s.port port).banks with
  | none => false
  | some b => b.old.isSome || (op == 0x0502 && b.pend)

/-- Finish a shadow-bank load: now, or at the copy (R17). `e` is the executing command that carries the load. -/
def shadowLoad (s : State) (port : Fin 32) (e : Exec) (data : Bytes) : State :=
  if shadowHeld s port e.op then
    { (s.modBanks port fun b => { b with heldW := b.heldW ++ [.cmd e.id] }) with
        execs := s.execs.map fun x => if x.id = e.id then { x with wait := .copy, data := data } else x }
  else endExec (measureLoad (applyShadow s port e.op e.p data) e.op e.p data) e stOk 0

/-- A shadow-bank load whose command carries everything: it completes at once, unless it has to wait for the copy. -/
def shadowNow (s : State) (port : Fin 32) (op : Nat) (h : CmdHdr) (p : Params) : State :=
  let s1 := beginExec s op h p .copy 0
  match s1.execs.getLast? with
  | some e => shadowLoad s1 port e []
  | none => s1

/-! ### Head temperature and the temperature table (R184, R185) -/

/-- T for a channel's SENSOR from the head temperature record, as the last round published it (R24). -/
def Port.tempFor (p : Port) (sensor : Nat) : Option Int :=
  match sensor with
  | 0 => p.therm.rec0
  | 1 => p.therm.rec1
  | _ =>
    match p.therm.rec0, p.therm.rec1 with
    | some a, some b => some (Int.fdiv (a + b + 1) 2)
    | some a, none => some a
    | none, some b => some b
    | none, none => none

/-- The highest entry with T_START ≤ T, or 0. -/
def pickEntry (es : List TEntry) (t : Int) : Nat :=
  (List.range es.length).foldl (fun b i => match es[i]? with
    | some e => if e.tStart ≤ t then i else b
    | none => b) 0

/-- The entry in use after T has been read (R185). -/
def stepEntry (cb : ChanBank) (b : Nat) (t : Int) : Nat :=
  match cb.tcomp[b]? with
  | none => pickEntry cb.tcomp t
  | some e =>
    let below := match cb.tcomp[b + 1]? with
      | some n => decide (t < n.tStart)
      | none => true
    if (decide (e.tStart - cb.hyst ≤ t)) && below then b else pickEntry cb.tcomp t

/-- The temperature gain of an entry (R185). -/
def gainOf (es : List TEntry) (b : Nat) (t : Int) : Nat :=
  match es[b]?, es[b + 1]? with
  | some e, some n =>
    if t < e.tStart then e.g0
    else ((e.g0 : Int) + roundDiv (((e.g1 : Int) - e.g0) * (t - e.tStart)) (n.tStart - e.tStart)).toNat
  | some e, none => e.g0
  | none, _ => 0x4000

/-- The length of a waveform slot in phases: (N + 8) × 5 ns; an undefined slot counts zero (R174, R178). -/
def Channel.slotLen (c : Channel) (slot : Nat) : Nat :=
  match assoc slot c.slots with
  | some w => (w.samples + 8) * 20
  | none => 0

/-- The slots of the live waveform set of a bank (R188). -/
def ChanBank.slots (b : ChanBank) : List Nat := b.tcomp.map (·.slot) ++ b.keepwet.toList

/-- W: the largest length in a channel's set (R86, R188). -/
def Channel.longest (c : Channel) (b : ChanBank) : Nat := b.slots.foldl (fun m i => max m (c.slotLen i)) 0

/-- The offsets of a channel's four groups, in 250 ps. -/
def Bank.offsets (b : Bank) (c : Chan) : List Int := ((b.frac.toList).drop (4 * chanNo c)).take 4

/-- Put a number into a rising list without repeats. -/
def insertI (x : Int) : List Int → List Int
  | [] => [x]
  | y :: t => if x < y then x :: y :: t else if x = y then y :: t else y :: insertI x t

/-- The distinct offsets of a channel, rising. -/
def Bank.distinct (b : Bank) (c : Chan) : List Int := (b.offsets c).foldl (fun l o => insertI o l) []

/-- Consecutive numbers differ by at least `w`. -/
def spaced (w : Nat) : List Int → Bool
  | a :: b :: t => decide ((w : Int) ≤ b - a) && spaced w (b :: t)
  | _ => true

/-- R86 for one channel of a bank; without a stored job there is no MAX_RATE to hold the offsets against. -/
def channelFits (c : Channel) (b : Bank) (ch : Chan) (rate : Option Nat) : Bool :=
  let w := c.longest (b.chan ch)
  let ds := b.distinct ch
  let extent := (ds.getLast?.getD 0) - (ds.head?.getD 0) + w
  spaced w ds && (match rate with
    | some r => decide (extent * r ≤ 4000000000)
    | none => true)

/-- R86 for a port's shadow bank. -/
def Port.fits86 (p : Port) (rate : Option Nat) : Bool :=
  match p.banks with
  | none => true
  | some b => channelFits p.chA b.shadow .a rate && channelFits p.chB b.shadow .b rate

/-- The shadow bank holds a damaged entry (R144). -/
def Port.poisoned (p : Port) : Bool :=
  match p.banks with
  | none => false
  | some b => !b.poison.isEmpty

/-- MAX_RATE of the stored job of the port's quire. -/
def State.rateOf (s : State) (p : Fin 32) : Option Nat :=
  match s.quireOf p with
  | none => none
  | some q => ((s.quire q).job).map (·.maxRate)

/-! ### Level maps in the head (R206) -/

/-- The rows of a head map bank. -/
def Channel.headMap (c : Channel) (bank : Bool) : List Nat := if bank then c.map1 else c.map0

def Channel.setMap (c : Channel) (bank : Bool) (rows : List Nat) : Channel :=
  if bank then { c with map1 := rows } else { c with map0 := rows }

/-- Phases that `n` bit times of a port's lanes last, rounded up to 250 ps; on HIF-C `n` symbol times (R198). -/
def Port.bitsPh (p : Port) (n : Nat) : Nat :=
  match p.cfg with
  | some c => ceilDiv (n * (if p.gen = 3 then 40000 else 4000)) (max c.laneRate 1)
  | none => 0

/-- The nibbles of a map transfer on a timing lane: rows 0 to 7, low nibble first. -/
def mapNibbles (rows : List Nat) : List Nat := rows.flatMap fun r => [r % 16, r / 16 % 16]

/-- A map transfer goes to the head: MAP_START and 16 MAP words on the channel's lane, or a frame of kind 1 on HIF-C (R201, R206). The words
fit between events and delay none, so no lane becomes busy. Log entry 88: DEDUCED. -/
def mapTransfer (s : State) (p : Fin 32) (c : Chan) (bank : Bool) (rows : List Nat) : State :=
  let x := s.port p
  let b := bitAt bank 0
  if x.gen = 3 then
    let d := rows.map (BitVec.ofNat 8)
    (s.emit (.control p.1 true 1 (128 * chanNo c + b) 0 s.clk)).emit (.frame p.1 (d ++ bytesOf 4 (crc32 d)))
  else
    ((mapNibbles rows).foldl (fun (a : State × Nat) v => (a.1.emit (.laneWord p.1 c 5 v a.2), a.2 + x.bitsPh 9))
      (s.emit (.laneWord p.1 c 6 b s.clk), s.clk + x.bitsPh 9)).1

/-- Send a channel's shadow rows into the head's other map bank, when they differ from what it holds. -/
def sendMap (s : State) (p : Fin 32) (c : Chan) : State :=
  let x := s.port p
  match x.banks with
  | none => s
  | some b =>
    let bank := !x.link.mapBank
    let rows := (b.shadow.chan c).rows
    let s1 := s.modPort p fun y => y.modChan c fun z => { (z.setMap bank rows) with mapDue := false }
    if (x.chan c).headMap bank = rows then s1 else mapTransfer s1 p c bank rows

/-! ### Nozzle states (R236, R237, R241) -/

def Mon.unknown : Mon := { state := 7, hist := [], good := 0, lastVerdict := 0xFF, lastAmp := 0, lastPer := 0 }

/-- The monitor's record of a nozzle. -/
def Port.monOf (p : Port) (i : Nat) : Mon := nth p.rvs.mon i Mon.unknown

/-- The merged state of a nozzle (R241). -/
def mergedState (host mon : Nat) : Nat :=
  if host % 16 = 5 ∨ host % 16 = 6 then host % 16 else if bit host 4 then host % 16 else mon

/-- A class P signature of the nozzle is valid. -/
def Port.validP (p : Port) (i : Nat) : Bool := (nth p.rvs.live.p i none).isSome

/-- The port's head has the sense capability (R229): only its nozzles ever leave UNKNOWN. -/
def Port.canSense (p : Port) : Bool :=
  match p.profile with
  | some f => f.gen == 3 && f.sense
  | none => false

/-- The monitor state that a nozzle restarts in: OK with a valid class P entry, else UNKNOWN (R229, R237, R243, R245). -/
def Port.startState (p : Port) (i : Nat) : Nat := if p.canSense && p.validP i then 0 else 7

/-- Clear a nozzle's history (R237, R243, R245). -/
def Port.clearMon (p : Port) (i : Nat) : Port :=
  { p with rvs := { p.rvs with mon := modAt p.rvs.mon i fun m => { m with state := p.startState i, hist := [], good := 0 } } }

/-- The merged state of a nozzle under a bank (R241). -/
def Port.merged (p : Port) (b : Bank) (i : Nat) : Nat := mergedState (nth b.host i 0) (p.monOf i).state

/-- WEAK, AIR or CLOGGED. -/
def badState (v : Nat) : Bool := v == 2 || v == 3 || v == 4

/-- NOZ_STATE_CHANGE for a change into or out of WEAK, AIR or CLOGGED (R238, R250), with the failure and recovery counts (R246). -/
def monChanged (s : State) (p : Fin 32) (i old new verdict bad : Nat) (k : Int) : State :=
  if old = new ∨ (badState old = false ∧ badState new = false) then s
  else
    let x := s.port p
    let merged := match x.banks with
      | some b => x.merged b.live i
      | none => new
    let s1 := s.modPort p fun y => { y with wear := { y.wear with
        failures := if badState new then y.wear.failures + 1 else y.wear.failures,
        recoveries := if new = 0 then y.wear.recoveries + 1 else y.wear.recoveries } }
    raise (setPwEvent s1 p 0x200) evNozState kPort p.1 1
      (le 2 i ++ [BitVec.ofNat 8 old, BitVec.ofNat 8 new, BitVec.ofNat 8 verdict, BitVec.ofNat 8 bad, BitVec.ofNat 8 merged, 0] ++
        le 8 (uns 64 k))

/-- Clear a nozzle's history at a happening that is no verdict, with the event when the state changes (R237, R243, R254). -/
def monReset (s : State) (p : Fin 32) (i : Nat) (k : Int) : State :=
  let x := s.port p
  let old := (x.monOf i).state
  let new := x.startState i
  let bad := ((x.monOf i).hist.filter badState).length
  monChanged (s.modPort p fun y => y.clearMon i) p i old new (x.monOf i).lastVerdict bad k

/-- The nozzles whose host LOCK a swap clears (R237). -/
def unlockedBy (before after : Bank) : List Nat :=
  (List.range after.host.length).filter fun i => bit (nth before.host i 0) 4 && !(bit (nth after.host i 0) 4)

/-! ### The planned listen window (R230) -/

/-- 1 ÷ MAX_RATE + min(offset) − max(offset + W_c), in phases. -/
def Port.plannedWindow (p : Port) (rate : Nat) : Int :=
  match p.banks with
  | none => 0
  | some b =>
    let os := b.live.frac.toList
    let lo := os.foldl min (os.headD 0)
    let hi := fun (c : Chan) => (b.live.offsets c).foldl (fun m o => max m (o + ((p.chan c).longest (b.live.chan c) : Int))) lo
    (4000000000 / max rate 1 : Nat) + lo - max (hi .a) (hi .b)

/-- The port has the sense capability and RVS_CONFIG has enabled it (R229). -/
def Port.senses (p : Port) : Bool := p.rvs.cfg.enable && p.canSense

/-- Compute the planned window of a sensing port and raise RVS_NO_WINDOW when it is too short (R230). -/
def planWindow (s : State) (p : Fin 32) (bound : Int) : State :=
  let x := s.port p
  if !x.senses then s
  else match s.rateOf p with
    | none => s
    | some r =>
      let w := x.plannedWindow r
      let short := decide (w < 6000)
      let s1 := s.modPort p fun y => { y with rvs := { y.rvs with planned := w, noWindow := short } }
      if short then
        raise (setPwEvent s1 p 0x400) evNoWindow kPort p.1 2
          (le 4 (uns 32 (Int.fdiv w 4)) ++ le 4 (1000000000 / max r 1) ++ le 8 (uns 64 bound))
      else s1

/-! ### Swap and copy (R15 to R17, R123) -/

/-- Put decoded lines back in front of the screening queue, for image lines from `j0` on that are already screened (R123). -/
def DataPath.rescreen (d : DataPath) (j0 : Int) : DataPath :=
  let back := d.kept.filter fun l => decide (j0 ≤ l.j) && !(d.queue.any fun q => q.j == l.j)
  { d with store := d.store.filter fun l => decide ((l.j : Int) < j0), queue := back ++ d.queue }

/-- Every image line that the old bank governs has been screened or discarded, and no fire line before the swap is still to come;
or the fire line d_max lines after the boundary has come (R17). -/
def copyReady (s : State) (p : Fin 32) (g : Int) : Bool :=
  match s.quireOf p with
  | none => true
  | some qi =>
    let q := s.quire qi
    let x := s.port p
    if !q.st.runs || !(q.active.getLsbD p.1) then true
    else
      let jb := q.imageFrom x g
      let at_ := q.lineG x.nextK
      let screened := (!(x.dat.queue.any fun l => decide ((l.j : Int) < jb))) &&
        (decide (jb ≤ max x.dat.nextJ x.dat.dropped) || (match x.dat.total with
          | some n => decide (n ≤ max x.dat.nextJ x.dat.dropped)
          | none => false))
      (decide (g ≤ at_) && screened) || decide (g + x.dmax ≤ at_)

/-- The held writes land in order, and the commands that made them complete (R17). -/
def landHeld (s : State) (p : Fin 32) : List HeldWrite → State
  | [] => s
  | .reg off v :: t => landHeld (applyReg s p off v) p t
  | .cmd id :: t =>
    match s.execs.find? fun e => e.id == id with
    | none => landHeld s p t
    | some e => landHeld (endExec (measureLoad (applyShadow s p e.op e.p e.data) e.op e.p e.data) e stOk 0) p t

/-- The held write is a LEVEL_MAP_LOAD, which waits for a pending swap too (R206). -/
def State.mapLoad (s : State) : HeldWrite → Bool
  | .reg _ _ => false
  | .cmd id => s.execs.any fun e => e.id == id && e.op == 0x0502

/-- The held writes that nothing holds any more land: none before the copy of R17, no level map before a pending swap (R17, R206). -/
def landAll (s : State) (p : Fin 32) : State :=
  match (s.port p).banks with
  | none => s
  | some b =>
    if b.old.isSome then s
    else
      let stays := fun (w : HeldWrite) => b.pend && s.mapLoad w
      landHeld (s.modBanks p fun x => { x with heldW := b.heldW.filter stays }) p (b.heldW.filter fun w => !(stays w))

/-- The copy of R17: the shadow bank becomes equal to the live bank, late lines of the old bank are discarded, held writes land. -/
def copyShadow (s : State) (p : Fin 32) : State :=
  match (s.port p).banks with
  | none => s
  | some b =>
    let jb := match b.old, s.quireOf p with
      | some o, some qi => (s.quire qi).imageFrom (s.port p) o.from_
      | _, _ => (0 : Int)
    let s1 := s.modPort p fun x =>
      { x with banks := some { b with shadow := b.live, old := none },
               dat := { x.dat with queue := x.dat.queue.filter fun l => decide (jb ≤ (l.j : Int)) } }
    landAll s1 p

/-- The channel's entry in use, chosen afresh when its temperature table was written since the last swap (R185). -/
def freshEntry (p : Port) (c : Chan) (written : Bool) (b : Bank) : Port :=
  if written then
    match p.tempFor (b.chan c).sensor with
    | some t => p.modChan c fun z => { z with entry := pickEntry (b.chan c).tcomp t, lastT := some t }
    | none => p.modChan c fun z => { z with entry := match z.lastT with
        | some t => pickEntry (b.chan c).tcomp t
        | none => 0 }
  else p

/-- Swap a port's banks at line number `g` of the job, boundary `bound` (R15, R17, R123, R206, R230, R237). Log entry 29: DEDUCED. -/
def swapBanks (s : State) (p : Fin 32) (g bound : Int) : State :=
  match (s.port p).banks with
  | none => s
  | some b =>
    let jb := match s.quireOf p with
      | some qi => (s.quire qi).imageFrom (s.port p) g
      | none => (0 : Int)
    let needMap := decide (((s.port p).chA.headMap (s.port p).link.mapBank) ≠ b.shadow.chA.rows) ||
      decide (((s.port p).chB.headMap (s.port p).link.mapBank) ≠ b.shadow.chB.rows)
    let s0 := if needMap then
        (sendMap (sendMap s p .a) p .b).modPort p fun x => { x with link := { x.link with mapBank := !x.link.mapBank } }
      else s
    let s1 := s0.modPort p fun x =>
      let x1 := { x with banks := some { b with
                           live := b.shadow, shadow := b.live, written := [], pend := false, tcompA := false, tcompB := false,
                           hurt := b.hurt.filter fun e => !(b.written.contains e),
                           old := some { bank := b.live, from_ := g, mapBank := (s.port p).link.mapBank, entryA := x.chA.entry, entryB := x.chB.entry } },
                         dat := x.dat.rescreen jb }
      freshEntry (freshEntry x1 .a b.tcompA b.shadow) .b b.tcompB b.shadow
    let s2 := planWindow (forgetDamage ((unlockedBy b.live b.shadow).foldl (fun t i => monReset t p i bound) s1) p.1) p bound
    if copyReady s2 p g then copyShadow s2 p else s2

/-- Swap a port's banks; a copy that still waits comes first (R17). -/
def swapPort (s : State) (p : Fin 32) (g bound : Int) : State :=
  swapBanks (match (s.port p).banks with
    | some b => if b.old.isSome then copyShadow s p else s
    | none => s) p g bound

/-- Some port breaks R86 with its shadow bank. -/
def commitRange (s : State) (ps : List (Fin 32)) : Bool := ps.any fun p => !((s.port p).fits86 (s.rateOf p))

/-- Some port's shadow bank is poisoned (R144). -/
def commitPoison (s : State) (ps : List (Fin 32)) : Bool := ps.any fun p => (s.port p).poisoned

/-- What a swap finds wrong with its ports: 0, else RANGE under R86 before PORT_FAULT for a poisoned bank (R143, R371). -/
def commitBad (s : State) (ps : List (Fin 32)) : Nat :=
  if commitRange s ps then stRange else if commitPoison s ps then stPortFault else 0

/-- The ports of a mask. -/
def portsIn (m : Nat) : List (Fin 32) := (idx 32).filter fun p => m.testBit p.1

/-- TABLE_COMMITs that wait for a swap of these ports count them as swapped; one that has no port left completes (R143, R173). -/
def commitDone (s : State) (m : Nat) (bound : Int) : State :=
  let upd1 := fun (e : Exec) => match e.wait with
    | .swap todo done b low =>
      let hit := todo &&& BitVec.ofNat 32 m
      { e with wait := .swap (todo &&& ~~~hit) (done ||| hit) (if hit.getLsbD low then some bound else b) low }
    | _ => e
  let s1 := { s with execs := s.execs.map upd1 }
  (s1.execs.filter fun e => match e.wait with
    | .swap todo _ _ _ => todo == 0
    | _ => false).foldl (fun t e => match e.wait with
      | .swap _ _ b _ => endExec t e stOk (uns 64 (b.getD (-1)))
      | _ => t) s1

/-- A failure at a quire's boundary: the named ports still to swap do not, and the commands complete (R143). -/
def commitFail (s : State) (m : Nat) (st : Nat) : State :=
  let hit := fun (e : Exec) => e.wait.todo &&& BitVec.ofNat 32 m != 0
  let all := (s.execs.filter hit).foldl (fun a e => a ||| e.wait.todo) (BitVec.ofNat 32 m)
  let kept := (s.execs.filter fun e => !(hit e)).foldl (fun a e => a ||| e.wait.todo) 0#32
  let s1 := forAll s fun (t : State) (p : Fin 32) =>
    if all.getLsbD p.1 && !(kept.getLsbD p.1) then landAll (t.modBanks p fun b => { b with pend := false }) p else t
  (s1.execs.filter hit).foldl (fun t e => match e.wait with
    | .swap _ done _ _ => endExec t e st done.toNat
    | _ => t) s1

/-- Add a set of ports to disjoint sets, joining those it overlaps. -/
def joinSet (m : U32) (gs : List U32) : List U32 :=
  ((gs.filter fun g => g &&& m != 0).foldl (· ||| ·) m) :: gs.filter fun g => g &&& m == 0

/-- The pending swaps of a quire: the ports that each command still has to swap there, commands that share a port taken together, since
the later one joins the swap of the earlier (R143). Log entry 29: DEDUCED. -/
def State.swapSets (s : State) (qi : Fin 8) : List U32 :=
  ((s.execs.map fun e => e.wait.todo &&& (s.quire qi).ports).filter (· != 0)).foldl (fun gs m => joinSet m gs) []

/-- The port still waits for the copy of its last swap (R17). -/
def Port.copyWaits (x : Port) : Bool :=
  match x.banks with
  | some b => b.old.isSome
  | none => false

/-- One pending swap at boundary `bound`: all of its ports or none (R143). While the copy of an earlier swap waits on one of them and the
quire runs on, it is kept back to the next boundary (R17). Log entry 29: DEDUCED. -/
def swapSet (s : State) (qi : Fin 8) (bound : Int) (stops : Bool) (m : U32) : State :=
  let ps := portsIn m.toNat
  if !stops && ps.any fun p => (s.port p).copyWaits then s
  else if commitBad s ps ≠ 0 then commitFail s m.toNat (commitBad s ps)
  else commitDone (ps.foldl (fun t p => swapPort t p ((s.quire qi).lineG bound) bound) s) m.toNat bound

/-- The pending swaps of a quire happen at boundary `bound` (R16, R143); `stops` says that the quire stops there, so that no swap can wait
for a later boundary. Log entry 29: DEDUCED. -/
def swapQuire (s : State) (qi : Fin 8) (bound : Int) (stops : Bool) : State :=
  (s.swapSets qi).foldl (fun t m => swapSet t qi bound stops m) s

/-- What governs fire line number `g` of the job when that line lies before the last swap (R17). -/
def Banks.oldAt (b : Banks) (g : Int) : Option OldBank :=
  match b.old with
  | some o => if g < o.from_ then some o else none
  | none => none

/-- The bank that governs fire line number `g` of the job (R17). -/
def Banks.at_ (b : Banks) (g : Int) : Bank :=
  match b.oldAt g with
  | some o => o.bank
  | none => b.live

end Sys2Proof.Machine
end

