-- ==== Sys2Proof/Machine/Bands.lean ====
section
/-! DEFINITION. Band descriptors and image lines of a port: what a descriptor covers, how lines are settled, how descriptors retire,
what a job's end leaves behind (04_data_path.md R110, R115, R122, R126, R127). -/

namespace Sys2Proof.Machine

/-- Image lines that a descriptor covers; none for a MARK. Kind 0 stands for a descriptor that only waits to retire. -/
def Desc.count (d : Desc) : Nat := if d.kind = 3 then 0 else d.lines * d.reps

/-- One image line beyond the descriptor's last. -/
def Desc.endJ (d : Desc) : Int := d.startJ + (d.count : Int)

/-- Every line of the descriptor has fired, passed or been discarded. -/
def Desc.settledAt (d : Desc) (n : Nat) : Bool := decide (d.endJ ≤ n)

/-- The completion status of a descriptor that retires with its lines settled (R110). -/
def Desc.status (d : Desc) : Nat :=
  if d.lostN ≠ 0 then stAborted else if d.firedN < d.count then stOkPartial else stOk

/-- Every line has been decoded too, so that its data is no longer needed. -/
def Desc.over (d : Desc) (n : Nat) : Bool := d.settledAt n && (d.kind == 0 || d.decoded == d.count)

/-- The first byte of a band that a line neither settled nor yet decoded needs. -/
def Desc.needFrom (d : Desc) (settled : Nat) : Nat :=
  let i := ((settled : Int) - d.startJ).toNat
  if i < d.decoded then nth d.starts.reverse i 0 else d.byteOfs

/-- Blocks of 2 MiB that the staged bytes of a band hold: a block is free once every line in it is settled (R115, R120).
Log entry 43: DEDUCED. -/
def Desc.blocks (d : Desc) (settled : Nat) : Nat :=
  if d.kind = 1 && !(d.over settled) then ceilDiv d.data.length 0x200000 - d.needFrom settled / 0x200000 else 0

/-- Staged blocks of a port, those of data that a test-pattern job has set aside among them. Log entry 43: DEDUCED. -/
def DataPath.staged (d : DataPath) : Nat :=
  d.descs.foldl (fun n x => n + x.blocks d.settled) 0 +
  (match d.stash with
    | some x => x.descs.foldl (fun n y => n + y.blocks 0) 0
    | none => 0)

/-- Bytes of a line of an input form for `n` nozzles (R111). -/
def lineBytes (form depth n : Nat) : Nat :=
  if form = 0 then n
  else if form = 1 then (n + 1) / 2
  else if depth = 3 then 4 * ((n + 9) / 10)
  else (n + 3) / 4

/-- L of a port. -/
def Port.lineLen (p : Port) : Nat := lineBytes p.form p.depth p.nozzles

/-- NRL is on. -/
def Port.nrl (p : Port) : Bool :=
  match p.cfg with
  | some c => c.nrl
  | none => false

/-- The controller retires the first unretired descriptor: its completion where NOTIFY asks for one, and the ring's head moves on
(R110). -/
def retireOne (s : State) (p : Fin 32) (d : Desc) (st res : Nat) : State :=
  let r := ringNo p.1
  if d.ringless then s else
  let s1 := if d.notify then writeCpl s r d.tag.toNat st s.sp.nodeId res false else s
  if (s1.ring r).st = .absent then s1
  else s1.modRing r fun g => { g with head := (g.head + 1) % max g.size.toNat 1 }

/-- Retire every descriptor that can, in ring order; those that are retired and settled leave the list. A BAND in BUFFERED feed retires
once it is staged (R115); a NOTIFY descriptor waits for a completion slot (R343). -/
def retireList (s : State) (p : Fin 32) (settled : Nat) : List Desc → State × List Desc
  | [] => (s, [])
  | d :: ds =>
    if d.retired then
      let r := retireList s p settled ds
      (r.1, if d.over settled && d.kind != 3 then r.2 else d :: r.2)
    else if d.notify && !(cplRoom s (ringNo p.1) 1) then (s, d :: ds)
    else if d.kind = 1 ∧ d.staged then
      let r := retireList (retireOne s p d stOk d.lines) p settled ds
      (r.1, if d.over settled then r.2 else { d with retired := true } :: r.2)
    else if d.over settled then
      let r := retireList (retireOne s p d d.status d.firedN) p settled ds
      (r.1, if d.kind = 3 then { d with retired := true } :: r.2 else r.2)
    else (s, d :: ds)

/-- Retire the purged descriptors of a port, ABORTED and in ring order; a NOTIFY descriptor waits for a completion slot (R127, R343). -/
def retireOwed (s : State) (p : Fin 32) : List (Desc × Nat) → State × List (Desc × Nat)
  | [] => (s, [])
  | d :: ds =>
    if d.1.notify && !d.1.ringless && !(cplRoom s (ringNo p.1) 1) then (s, d :: ds)
    else retireOwed (retireOne s p d.1 stAborted d.2) p ds

/-- Retire what can be retired on a port, purged descriptors first. -/
def retireReady (s : State) (p : Fin 32) : State :=
  let o := retireOwed s p (s.port p).dat.owed
  let t := o.1.modPort p fun x => { x with dat := { x.dat with owed := o.2 } }
  if !o.2.isEmpty then t
  else
    let d := (t.port p).dat
    let r := retireList t p d.settled d.descs
    r.1.modPort p fun x => { x with dat := { x.dat with descs := r.2 } }

/-- Count image line `j` in its descriptor: fired at its nominal line, or discarded. -/
def DataPath.mark (d : DataPath) (j : Nat) (fired lost : Bool) : DataPath :=
  { d with descs := d.descs.map fun x =>
      if x.startJ ≤ (j : Int) && (j : Int) < x.endJ then
        { x with firedN := x.firedN + (if fired then 1 else 0), lostN := x.lostN + (if lost then 1 else 0) }
      else x }

/-- Image lines before `j` are settled: retained data goes, and the line store holds on to the `past` image lines before `j` (R121, R123;
a commit that increases a delay fires their codes a second time, R124). Log entry 31: DEDUCED. -/
def DataPath.settleTo (d : DataPath) (j past : Nat) : DataPath :=
  let n := max d.settled j
  { d with settled := n, kept := d.kept.filter fun l => decide (n ≤ l.j),
           store := d.store.filter fun l => decide (n ≤ l.j + past) }

/-- A screened line takes its place in the line store (R121). -/
def DataPath.storeLine (d : DataPath) (l : StoreLine) : List StoreLine := d.store ++ [l]

/-- Image lines up to `j` that have not settled are discarded (R88, R96). -/
def DataPath.discardTo (d : DataPath) (j : Nat) : DataPath :=
  let lost := fun (x : Desc) => (min x.endJ (j : Int) - max x.startJ (d.settled : Int)).toNat
  let d1 : DataPath := { d with descs := d.descs.map fun (x : Desc) => { x with lostN := x.lostN + lost x } }
  let d2 := d1.settleTo j 0
  { d2 with queue := d2.queue.filter (fun l => decide (j ≤ l.j)), dropped := max d2.dropped j }

/-- The test pattern's job is over: what it set aside is back (R390). -/
def DataPath.restore (d : DataPath) : DataPath :=
  match d.stash with
  | none => { d with patOn := false, pattern := none }
  | some x =>
    { d with descs := x.descs, nextJ := x.nextJ, endJ := x.endJ, total := x.total, prevLine := x.prevLine, queue := x.queue, kept := [], store := [], settled := 0, dropped := 0, base := 0, miss := none,
             under := none, consumed := false, pattern := none, patOn := false, stash := none }

/-- R126: the first image line that did not fire becomes image line 0 of the next job; the line store is emptied. -/
def DataPath.carryOver (d : DataPath) : DataPath :=
  if d.patOn then d.restore
  else
    let n := d.settled
    let lines := (d.kept.filter fun l => decide (n ≤ l.j)) ++
      (d.queue.filter fun l => decide (n ≤ l.j) && !(d.kept.any fun k => k.j == l.j))
    let next := d.nextJ - n
    let gone := fun (x : Desc) => decide (x.endJ ≤ n) && decide (x.decoded < x.count)
    { d with descs := d.descs.map (fun x => { x with startJ := x.startJ - n, decoded := if gone x then x.count else x.decoded }),
             nextJ := next, endJ := d.endJ - n,
             total := d.total.map (fun t => t - n), queue := lines.map (fun l => { l with j := l.j - n }),
             kept := [], store := [], settled := 0, dropped := 0, base := 0, miss := none, under := none, consumed := false,
             prevLine := if (next ≤ 0 && !(d.descs.any fun x => decide (0 < x.run))) || d.descs.any gone then none else d.prevLine }

/-- The port has consumed its MARK, or its test pattern: nothing of the job stays (R126) but descriptors that wait for a completion
slot (R343). -/
def DataPath.finish (d : DataPath) : DataPath :=
  if d.patOn then { d.restore with spent := true }
  else
    { d with spent := true, descs := (d.descs.filter fun x => !x.retired).map (fun (x : Desc) => { x with kind := 0, startJ := -(x.count : Int) }),
             nextJ := 0, endJ := 0, total := none, prevLine := none, queue := [], kept := [], store := [], settled := 0, dropped := 0, base := 0, miss := none,
             under := none, consumed := false }

/-- The lines that a purged descriptor reports: none for a BAND whose staging is not complete (R110). -/
def Desc.purged (d : Desc) : Nat := if d.kind = 1 && !d.staged && !d.data.isEmpty then 0 else d.firedN

/-- Purge a port (R127): fetched descriptors retire ABORTED, and posted ones up to the first MARK are marked to go. A port with nothing of
the job left is left as it is. Log entry 41: DEDUCED. -/
def purgePort (s : State) (p : Fin 32) : State :=
  if (s.port p).dat.spent then s
  else if (s.port p).dat.consumed then s.modPort p fun x => { x with dat := x.dat.finish }
  else
    let d := if (s.port p).dat.patOn then (s.port p).dat.restore else (s.port p).dat
    let owed := (s.port p).dat.owed ++ (d.descs.filter fun x => !x.retired).map fun x => (x, x.purged)
    let g := s.ring (ringNo p.1)
    let posted := if g.st = .absent then 0 else (g.tail + g.size.toNat - g.fetch) % max g.size.toNat 1
    let marked := d.descs.any fun x => x.kind == 3
    retireReady (s.modPort p fun x => { x with dat := { d with
      owed := owed, descs := [], nextJ := 0, endJ := 0, total := none, prevLine := none, queue := [], kept := [], store := [], settled := 0, dropped := 0, base := 0,
      miss := none, under := none, consumed := false, spent := true, purge := if marked then 0 else posted } }) p

/-- The image line that fire line number `i` of the job or swath carries, before the delays (R121); none in the flyleaf, among
the last d_max boundaries of a swath, or beyond the MARK. -/
def imageAt (q : Quire) (x : Port) (i : Int) : Option Nat :=
  let o := i - q.fly
  if o < 0 then none
  else if q.scan && decide ((q.per x : Int) ≤ o) then none
  else
    let j := o.toNat + (if q.scan then x.dat.base else 0)
    match x.dat.total with
    | some n => if j < n then some j else none
    | none => some j

/-- The last line number of the job's end on a port with `n` image lines before the MARK (R122): N + d_max lines from image line 0, in a
SCAN quire d_max lines after the last image line. -/
def lastLineG (q : Quire) (x : Port) (n : Nat) : Int :=
  if q.scan then (if n ≤ x.dat.base then (q.swathOrd * q.span : Nat) - 1 else q.imageG x (n - 1) + x.dmax)
  else (q.fly + n + x.dmax : Nat) - 1

end Sys2Proof.Machine
end

