-- ==== Sys2Proof/Machine/Arbiter.lean ====
section
/-! DEFINITION. The stop arbiter and the states of quires and ports: requests and their withdrawal, the decision of a line, STOP for a
quire or a port, port faults, reversals, swaths, and the end of a job (01_architecture.md R19 to R23; 03_fire_timing.md R84, R94 to
R99; 07_head_ports.md R215, R216). -/

namespace Sys2Proof.Machine

/-! ### Requests in force (R19, R21) -/

/-- A request's scope covers a port. -/
def State.covers (s : State) (sc : ReqScope) (p : Fin 32) : Bool :=
  match sc with
  | .port r => r = p
  | .quire q => s.quireOf p = some q

/-- An INHIBIT is in force for the port. -/
def State.inhibited (s : State) (p : Fin 32) : Bool :=
  s.reqs.any fun r => s.covers r.sc p && (match r.kind with
    | .inhibit => true
    | .stop _ | .cap _ => false)

/-- The lowest CAP in force for the port; none without one. -/
def State.capOf (s : State) (p : Fin 32) : Option Nat :=
  s.reqs.foldl (fun m r => match r.kind with
    | .cap n => if s.covers r.sc p then some (min (m.getD 7) n.toNat) else m
    | .stop _ | .inhibit => m) none

/-- The effective cap under a CAP: the lower of the arbiter's and the committed one `cap` (R19). -/
def State.capUnder (s : State) (p : Fin 32) (cap : Nat) : Nat :=
  match s.capOf p with
  | none => 7
  | some n => min n cap

/-- The effective cap of a port as its live bank has it. -/
def State.effCap (s : State) (p : Fin 32) : Nat := s.capUnder p (match (s.port p).banks with
  | some b => b.live.cap
  | none => 7)

/-- ARB_REQ of a quire: 3 STOP, 2 INHIBIT, 1 CAP, 0 none, for the ports in its job. -/
def State.arbReq (s : State) (qi : Fin 8) : Nat :=
  let ps := s.activeOf qi
  if (s.quire qi).st = .stopping then 3
  else if ps.any s.inhibited then 2
  else if ps.any fun p => (s.capOf p).isSome then 1
  else 0

/-- ARB_CAP: the lowest effective cap, 0 unless ARB_REQ is CAP. -/
def State.arbCap (s : State) (qi : Fin 8) : Nat :=
  if s.arbReq qi = 1 then (s.activeOf qi).foldl (fun m p => min m (s.effCap p)) 7 else 0

/-- Requests that every source has withdrawn are lifted at a line boundary of the port (R21). Log entry 44: DEDUCED. -/
def liftGone (s : State) (p : Fin 32) : State :=
  { s with reqs := s.reqs.filter fun r => !(r.gone && s.covers r.sc p) }

/-- An INHIBIT or CAP enters: one for each source and scope. -/
def addReq (s : State) (src : ReqSource) (sc : ReqScope) (k : ReqKind) : State :=
  { s with reqs := { src := src, sc := sc, kind := k, gone := false } :: s.reqs.filter fun r => !(r.src = src ∧ r.sc = sc) }

/-- The scope has a quire that draws lines, so a line boundary is to come. Log entry 44: DEDUCED. -/
def State.scopeRuns (s : State) : ReqScope → Bool
  | .quire q => (s.quire q).st.runs
  | .port p => match s.quireOf p with
    | some q => (s.quire q).st.runs
    | none => false

/-- A source withdraws: the request is lifted at the next line boundary, or at once where none is to come. Log entry 44: DEDUCED. -/
def withdraw (s : State) (src : ReqSource) (sc : ReqScope) : State :=
  if s.scopeRuns sc then
    { s with reqs := s.reqs.map fun r => if r.src = src ∧ r.sc = sc then { r with gone := true } else r }
  else { s with reqs := s.reqs.filter fun r => !(r.src = src ∧ r.sc = sc) }

/-! ### Words to the head (R201 to R204) -/

/-- The lane of a word: the channel's own timing lane; on HIF-C all control sets share the data lanes. -/
def Port.laneOf (p : Port) (c : Chan) : Chan := if p.gen = 3 then .a else c

/-- Phases from a word's begin to its effect, at the end of its last payload bit or of its symbol time (R201, R202). -/
def Port.wordPh (p : Port) (type : Nat) : Nat := if p.gen = 3 then p.bitsPh 1 else p.bitsPh (if type = 1 then 12 else 8)

/-- Phases that a word keeps its lane busy: the stop bit follows the payload. -/
def Port.wordSpan (p : Port) (type : Nat) : Nat := if p.gen = 3 then p.bitsPh 1 else p.bitsPh (if type = 1 then 13 else 9)

/-- A delay of `n` phases is more than half an event step (R198). -/
def Port.outside (p : Port) (n : Nat) : Bool :=
  match p.cfg with
  | some c => decide ((if p.gen = 3 then 40000 else 4000) < 2 * n * c.laneRate)
  | none => false

/-- Until when a lane is busy. -/
def Link.busy (l : Link) (c : Chan) : Nat := if c = .a then l.laneA else l.laneB

/-- One word goes out, beginning at `at_` (R201, R202); a late one sets PW_EVENT.SEG_LATE and is counted (R204). -/
def sendWord (s : State) (p : Fin 32) (w : LinkWord) (at_ : Nat) : State :=
  let x := s.port p
  let c := x.laneOf w.ch
  let s1 := s.emit (if x.gen = 3 then
      .control p.1 false (128 * chanNo w.ch + 16 * w.type + w.payload % 16) (if w.type = 1 then w.more % 16 else if w.type = 7 then w.more % 256 else 0)
        (if w.type = 7 then w.more / 256 % 32 else 0) at_
    else .laneWord p.1 c w.type (if w.type = 1 then 16 * w.more + w.payload else w.payload) at_)
  let late := x.outside (at_ - w.begin_)
  let till := at_ + x.wordSpan w.type
  let s2 := s1.modPort p fun y =>
    { y with link := { y.link with laneA := if c = .a then till else y.link.laneA, laneB := if c = .b then till else y.link.laneB,
                                   segLate := if late then sat32 y.link.segLate 1 else y.link.segLate } }
  if late then setPwEvent s2 p 8 else s2

/-- A word comes before another in the order of R204: by its begin, then LATCH, channel A, channel B. -/
def LinkWord.before (a b : LinkWord) : Bool :=
  let rank := fun (w : LinkWord) => if w.type = 0 then 0 else 1 + chanNo w.ch
  decide (a.begin_ < b.begin_) || (a.begin_ == b.begin_ && decide (rank a < rank b))

/-- Put a word into the waiting words, behind those that do not come after it. -/
def insertWord (w : LinkWord) : List LinkWord → List LinkWord
  | [] => [w]
  | a :: t => if w.before a then w :: a :: t else a :: insertWord w t

/-- Words that wait go out in order, each as soon as its lane is free: those that are to begin by `till`, and before a LATCH that begins at
`latch` only what ends by then, on the LATCH's lane (R204). -/
def sendWords (till : Nat) (latch : Option Nat) (p : Fin 32) : State → List LinkWord → State
  | s, [] => s
  | s, w :: t =>
    let x := s.port p
    let c := x.laneOf w.ch
    let at_ := max w.begin_ (x.link.busy c)
    let fits := match latch with
      | some l => c != .a || decide (at_ + x.wordSpan w.type ≤ l)
      | none => true
    let kept := x.link.words.any fun v => x.laneOf v.ch == c
    if decide (w.begin_ ≤ till) && fits && !kept then sendWords till latch p (sendWord s p w at_) t
    else sendWords till latch p (s.modPort p fun y => { y with link := { y.link with words := y.link.words ++ [w] } }) t

/-- Waiting words of a port go out up to an instant. -/
def flushWords (s : State) (p : Fin 32) (till : Nat) (latch : Option Nat) : State :=
  sendWords till latch p (s.modPort p fun y => { y with link := { y.link with words := [] } }) (s.port p).link.words

/-- An event word of a channel is to take effect at an instant, and every word that is due goes out. -/
def headWord (s : State) (p : Fin 32) (c : Chan) (type payload more at_ : Nat) : State :=
  let w : LinkWord := { begin_ := at_ - (s.port p).wordPh type, ch := c, type := type, payload := payload, more := more }
  flushWords (s.modPort p fun y => { y with link := { y.link with words := insertWord w y.link.words } }) p s.clk none

/-- The LATCH begins at `at_` and is never moved; words that would reach into it wait (R204). -/
def latchWord (s : State) (p : Fin 32) (bank : Bool) (at_ : Nat) : State :=
  let s1 := flushWords s p at_ (some at_)
  flushWords (sendWord s1 p { begin_ := at_, ch := .a, type := 0, payload := bitAt bank 0, more := 0 } at_) p s.clk none

/-! ### The codes of a line and their stream (R121, R125, R132, R200, R486) -/

/-- The image line that nozzle `i` takes on line number `ix` of the job or swath. -/
def imageFor (q : Quire) (x : Port) (b : Bank) (ix : Int) (i : Nat) : Option Nat := imageAt q x (ix - nth b.delays i 0)

/-- The image lines that line number `ix` needs and that are not screened and complete; discarded lines are never missing. -/
def missing (q : Quire) (x : Port) (b : Bank) (ix : Int) : List Nat :=
  ((List.range x.nozzles).filterMap fun i =>
    match imageFor q x b ix i with
    | none => none
    | some j => if decide (j < x.dat.dropped) || x.dat.store.any fun l => l.j == j then none else some j).eraseDups

/-- The level codes of line number `ix` (R121, R133); the nozzles of the 64-nozzle words `bad` read as level 0 (R125). -/
def gather (q : Quire) (x : Port) (b : Bank) (ix : Int) (miss bad : List Nat) : List Nat :=
  (List.range x.nozzles).map fun i =>
    match imageFor q x b ix i with
    | none => 0
    | some j =>
      if miss.contains j || bad.contains (i / 64) then 0
      else match x.dat.store.find? fun l => l.j == j with
        | some l => if l.badW.any fun w => w ≤ i && i < w + 64 then 0 else nth l.codes i 0
        | none => 0

/-- Phases that a line's code stream lasts, rounded up (R486). -/
def Port.streamPh (x : Port) : Nat :=
  match x.cfg with
  | none => 0
  | some c =>
    let nb := c.nozzles * c.depth
    let r := max c.laneRate 1
    if x.gen = 3 then ceilDiv (((nb + 7) / 8 * 8 + 3072) * 1250) r
    else if x.gen = 2 then ceilDiv ((64 * ceilDiv (ceilDiv nb 4) 16 + 192) * 1000) r
    else ceilDiv ((4 * ceilDiv nb 4 + 4) * 1000) r

/-- The bits of a code stream: each code most significant bit first, zero bits up to `len`. -/
def streamBits (depth len : Nat) (codes : List Nat) : List Bool :=
  let b := codes.flatMap (bitsMsb depth)
  b ++ List.replicate (len - b.length) false

/-- Every fourth entry of a list from number `l` on. -/
def everyFourth {α : Type} (l : Nat) (xs : List α) : List α := (List.range (ceilDiv xs.length 4)).filterMap fun i => xs[4 * i + l]?

/-- Bits packed to bytes, most significant first. -/
def packBits : Nat → List Bool → Bytes
  | 0, _ => []
  | n + 1, bs => BitVec.ofNat 8 ((bs.take 8).foldl (fun v b => 2 * v + b.toNat) 0) :: packBits n (bs.drop 8)

/-- What the data lanes send for a line (R200): bits on HIF-A; sync word, share and CRC-16 on HIF-B; on HIF-C the bytes of the line frame
after its SOF, with a byte of the CRC-32 last on each lane. K28.5, and 0 on HIF-A, fill the lanes between. -/
def Port.laneData (x : Port) (codes : List Nat) : List (List Nat) :=
  let nb := x.nozzles * x.depth
  if x.gen = 3 then
    let d := packBits (ceilDiv nb 8) (streamBits x.depth (ceilDiv nb 8 * 8) codes)
    (List.range 4).map fun l => ((everyFourth l d) ++ ((bytesOf 4 (crc32 d)).drop l).take 1).map BitVec.toNat
  else if x.gen = 2 then
    let share := ceilDiv (ceilDiv nb 4) 16 * 16
    (List.range 4).map fun l =>
      let b := everyFourth l (streamBits x.depth (4 * share) codes)
      (bitsMsb 16 0xB5E3 ++ b ++ bitsMsb 16 (crc16 b).toNat).map Bool.toNat
  else (List.range 4).map fun l => (everyFourth l (streamBits x.depth (4 * ceilDiv nb 4) codes)).map Bool.toNat

/-- The code stream of a line begins: on HIF-C its SOF of kind 0 first. -/
def sendCodes (s : State) (p : Fin 32) (codes : List Nat) (from_ : Nat) : State :=
  let x := s.port p
  (if x.gen = 3 then s.emit (.control p.1 true 0 0 0 from_) else s).emit (.codeStream p.1 (x.laneData codes) from_ (from_ + x.streamPh))

/-- The controller gathers boundary k's codes and their stream begins at `from_`; words of the line store found uncorrectable blank their
nozzles (R125, R486). A line that is due keeps the codes; else the link holds them until it is. -/
def streamLine (s : State) (qi : Fin 8) (p : Fin 32) (k : Int) (bad : List Nat) (from_ : Nat) : State :=
  let q := s.quire qi
  let x := s.port p
  match x.banks with
  | none => s
  | some b =>
    let fly := decide (q.idx k < q.fly)
    let ws := if fly then [] else bad.filter fun w => 64 * w < x.nozzles
    let line := x.lines.find? fun l => l.k == k
    let miss := match line, x.dat.miss with
      | some l, _ => l.miss
      | none, some (m, js) => if m = k then js else []
      | none, none => []
    let codes := if fly then List.replicate x.nozzles 0 else gather q x (b.at_ (q.lineG k)) (q.idx k) miss ws
    let s1 := ws.foldl (fun t w => raise (setPwEvent t p 0x80) evLineEcc kPort p.1 2 (le 8 (uns 64 k) ++ le 2 (64 * w))) s
    let s2 := s1.modPort p fun y => match line with
      | some _ => { y with lines := y.lines.map fun m => if m.k = k then { m with codes := some codes } else m }
      | none => { y with link := { y.link with next := some (k, codes) } }
    sendCodes s2 p codes from_

/-- The stream of a job's or swath's first line, which has no LATCH before it, begins now (R486). -/
def streamFirst (s : State) (qi : Fin 8) (p : Fin 32) (k : Int) : State :=
  streamLine (s.modPort p fun x => { x with link := { x.link with streamEnd := s.clk + x.streamPh } }) qi p k [] s.clk

/-- The streams of a swath's first lines that are flyleaf lines begin at once (R486). -/
def streamFlyleaf (s : State) (qi : Fin 8) : State :=
  if (s.quire qi).fly = 0 then s else (s.activeOf qi).foldl (fun t p => streamFirst t qi p (t.quire qi).anchor) s

/-! ### The decision of a line (R20, R84, R97) -/

/-- A port of the job has still to decide the line at boundary k. -/
def State.openAt (s : State) (qi : Fin 8) (k : Int) : Bool :=
  (s.activeOf qi).any fun p =>
    decide (0 ≤ (s.quire qi).dir * (k - (s.port p).nextK)) || (s.port p).lines.any fun l => l.k == k && l.dec.isNone

/-- Note boundary k as counted; boundaries that every port has decided need no note. -/
def State.tally (s : State) (qi : Fin 8) (l : List Int) (k : Int) : List Int :=
  (if l.contains k then l else k :: l).filter fun e => s.openAt qi e

/-- The line's playbacks are over and its codes are in the head. -/
def Line.over (l : Line) : Bool := l.latched && l.dec.isSome && (l.plays.all fun p => p.phase == 2) && l.probe.isNone

/-- Lines that are over leave the list. -/
def Port.dropOver (p : Port) : Port := { p with lines := p.lines.filter fun l => !l.over }

/-- An image line that fires, or passes under INHIBIT, is settled (R97, R110, R128). -/
def settleLine (s : State) (p : Fin 32) (l : Line) : State :=
  match l.img with
  | none => s
  | some (j, ok) =>
    let s1 := s.modPort p fun x =>
      { x with dat := { ((x.dat.mark j ok false).settleTo (j + 1) (s.lineDepth x.depth - 64)) with
                          firedAt := s.clk :: x.dat.firedAt.filter fun t => decide (s.clk < t + 250 * msPh) } }
    retireReady s1 p

/-- One more actuation on a 32-bit counter; what it reads past its end is open (R246). Log entry 42: DESIGN CHOICE. -/
def Wear.bump (w : Wear) (i n : Nat) : Nat := if n + 1 < 2 ^ 32 then n + 1 else (Config.actuationsPast i w.img).toNat

/-- The nozzles that a line fires at a level of 1 or more count an actuation (R246). -/
def Wear.fire (w : Wear) (codes : List Nat) (cap : Nat) : Wear :=
  { w with cnt := (List.range codes.length).foldl (fun c i =>
      if 1 ≤ min (nth codes i 0) cap then assocSet i (w.bump i ((assoc i c).getD 0)) c else c) w.cnt }

/-- Decide one line of a port. QUIRE_FIRED, QUIRE_LATE and QUIRE_INHIBITED count a boundary once, however many ports fire it.
Log entry 86: DEDUCED. -/
def decideOne (s : State) (p : Fin 32) (l : Line) : State :=
  let x := s.port p
  let stopped := x.st != .printing
  let dec : Decision := if stopped || s.inhibited p then .suppress else .fire (s.capUnder p l.cap)
  let l1 : Line := { l with
    dec := some dec, plays := if dec = .suppress then l.plays.map fun q => { q with phase := 2 } else l.plays,
    probe := if dec = .suppress then none else l.probe }
  let s1 := s.modPort p fun y => { y with
    lines := y.lines.map fun m => if m.k = l.k ∧ m.dec.isNone then l1 else m,
    playEnd := if dec = .suppress ∧ (y.lines.getLast?.map (·.k)) = some l.k then l.prevEnd else y.playEnd }
  let s2 := if dec = .suppress then l.plays.foldl (fun t q => headWord t p q.ch 1 15 q.groups q.start) s1 else s1
  let s3 := if stopped then s2 else
    match s2.quireOf p with
    | none => s2
    | some qi =>
      let fires := dec != .suppress
      let t := s2.modQuire qi fun q =>
        if fires then
          { q with cnt := { q.cnt with fired := if q.tallyF.contains l.k then q.cnt.fired else sat32 q.cnt.fired 1,
                                       late := if l.late && !(q.tallyL.contains l.k) then sat32 q.cnt.late 1 else q.cnt.late },
                   tallyF := s2.tally qi q.tallyF l.k, tallyL := if l.late then s2.tally qi q.tallyL l.k else q.tallyL, started := true,
                   event := q.event ||| (if q.started then 0 else 1) ||| (if l.late then 8 else 0) }
        else
          { q with cnt := { q.cnt with inhibited := if q.tallyI.contains l.k then q.cnt.inhibited else sat32 q.cnt.inhibited 1 },
                   tallyI := s2.tally qi q.tallyI l.k }
      let t1 := if fires then t.modPort p fun y => { y with
          firedAll := y.firedAll + 1, lateAll := if l.late then y.lateAll + 1 else y.lateAll,
          wear := if l.flyleaf then { y.wear with fly := y.wear.fly + 1 }
            else { (y.wear.fire (l.codes.getD []) (s.capUnder p l.cap)) with img := y.wear.img + 1 } } else t
      let t2 := if fires && l.late then setPwEvent t1 p 0x10 else t1
      settleLine t2 p l
  s3.modPort p Port.dropOver

/-- Decide the port's lines whose decision instant has passed. -/
def decidePast (s : State) (p : Fin 32) : State :=
  ((s.port p).lines.filter fun l => l.dec.isNone && decide (l.decideAt < s.clk)).foldl (fun t l => decideOne t p l) s

/-! ### STOP (R97 to R99) -/

/-- An underrun episode of the port ends: the lines since the last report are reported (R133). Log entry 33: DEDUCED. -/
def endEpisode (s : State) (p : Fin 32) : State :=
  match (s.port p).dat.under with
  | none => s
  | some (first, n) =>
    let s1 := s.modPort p fun x => { x with dat := { x.dat with under := none } }
    if n = 0 then s1
    else raise (setPwEvent s1 p 0x40) evLineBlanked kPort p.1 2 (le 8 (uns 64 first) ++ le 4 n ++ [0])

/-- Raise PORT_STATE_CHANGE (R217). Log entry 34: DEDUCED. -/
def stateChanged (s : State) (p : Fin 32) (old new : PState) (cause : Nat) : State :=
  let q := match s.quireOf p with
    | some qi => qi.1
    | none => 0xFF
  raise (setPwEvent s p 1) evStateChange kPort p.1 (if new = .fault then 3 else 0)
    [BitVec.ofNat 8 old.code, BitVec.ofNat 8 new.code, BitVec.ofNat 8 cause, BitVec.ofNat 8 q]

/-- The port takes another state of R215; PORT_STATE_CHANGE reports every change (18_bring_up.md). Log entry 34: DEDUCED. -/
def portTo (s : State) (p : Fin 32) (new : PState) (cause : Nat) : State :=
  let old := (s.port p).st
  if old = new then s else stateChanged (s.modPort p fun x => { x with st := new }) p old new cause

/-- Ports of a quire that are in its job start to drain. -/
def drainPorts (s : State) (qi : Fin 8) : State :=
  (s.activeOf qi).foldl (fun t p =>
    if (t.port p).st.inJob then portTo (endEpisode t p) p .draining 0 else endEpisode t p) s

/-- STOPs for a quire at one boundary: STOP_CAUSE records the highest of their causes and of those that waited for that boundary. In STOPPING
further STOPs at the same boundary count too (R97). Log entry 28: DEDUCED. -/
def stopWith (s : State) (qi : Fin 8) (causes : List Nat) : State :=
  let q0 := s.quire qi
  if q0.st.stoppable then
    let s1 := (s.activeOf qi).foldl decidePast s
    let s2 := swapQuire s1 qi (s1.quireNext qi) true
    let nx := s2.quireNext qi
    let all := causes ++ (q0.stopAt.filter fun e => e.1 == nx).map (·.2)
    (drainPorts s2 qi).modQuire qi fun q =>
      { q with st := .stopping, cause := all.foldl max 0, causes := all, next := nx, stopAt := [], event := q.event ||| 2 }
  else if q0.st = .stopping && !(reached q0 (s.source q0.source) (s.trackedNow q0.source) (s.quireLead qi) q0.next) then
    s.modQuire qi fun q => { q with cause := causes.foldl max q.cause, causes := q.causes ++ causes }
  else s

/-- A STOP for a quire. -/
def stopQuire (s : State) (qi : Fin 8) (cause : Nat) : State := stopWith s qi [cause]

/-- A STOP for a port: it leaves the job; the quire stops when its last port has left. A port that enters FAULT (`faulting`) reports
that one change of state alone (R215: IDLE to DRAINING become FAULT). -/
def stopPortFor (s : State) (p : Fin 32) (cause : Nat) (faulting : Bool) : State :=
  match s.quireOf p with
  | none => s
  | some qi =>
    if (s.quire qi).active.getLsbD p.1 && (s.port p).st.inJob then
      let s1 := endEpisode (decidePast s p) p
      let left := (s1.quire qi).active &&& ~~~(BitVec.ofNat 32 (2 ^ p.1))
      let s2 := if faulting then s1.modPort p fun x => { x with st := .draining } else portTo s1 p .draining 0
      if left = 0 then (stopQuire s2 qi cause).modQuire qi fun q => { q with active := 0 }
      else s2.modQuire qi fun q => { q with active := left }
    else s

/-- A STOP for a port (R97, R98). -/
def stopPort (s : State) (p : Fin 32) (cause : Nat) : State := stopPortFor s p cause false

/-- A STOP for every quire that has something to stop. -/
def stopAll (s : State) (cause : Nat) : State := forAll s fun (t : State) (q : Fin 8) => stopQuire t q cause

/-- A request reaches the arbiter (R19). -/
def request (s : State) (src : ReqSource) (sc : ReqScope) (k : ReqKind) : State :=
  match k, sc with
  | .stop c, .quire q => stopQuire s q c.toNat
  | .stop c, .port p => stopPort s p c.toNat
  | .inhibit, _ | .cap _, _ => addReq (forAll s fun (t : State) (p : Fin 32) => if t.covers sc p then decidePast t p else t) src sc k

/-! ### Port states and faults (R215 to R217) -/

/-- What a port leaves behind when it leaves its job: R127 after an abort, nothing after its MARK, else R126. -/
def leaveJob (s : State) (p : Fin 32) (purge : Bool) : State :=
  if purge then purgePort s p
  else retireReady (s.modPort p fun x => { x with dat := if x.dat.consumed then x.dat.finish else x.dat.carryOver }) p

/-- The heater goes low and its integral restarts from 0 (R214). -/
def heaterOff (s : State) (p : Fin 32) : State :=
  let s1 := s.modPort p fun x => { x with heater := { x.heater with out := 0, integ := 0 } }
  if (s.port p).heater.out = 0 then s1 else s1.emit (.heater p.1 0)

/-- PW_CTRL as written takes effect (R18, R219). -/
def liveControl (s : State) (p : Fin 32) : State :=
  match (s.port p).win.ctrlDue with
  | none => s
  | some (clear, off) =>
    let s1 := s.modPort p fun x => { x with win := { x.win with armClear := clear, htrOff := off, ctrlDue := none } }
    if off then heaterOff s1 p else s1

/-- A learning run of the port, or a COMMIT that waits for a boundary, ends with ABORTED and the staging set is emptied (R253). -/
def abortLearn (s : State) (p : Fin 32) : State :=
  let s1 := match (s.port p).rvs.learn with
    | none => s
    | some l => endAll s (fun e => e.id == l.id) stAborted 0
  let s2 := if (s1.port p).rvs.swapDue then endAll s1 (fun e => e.wait == .learnSwap && fld e.p 8 1 == p.1) stAborted 0 else s1
  s2.modPort p fun x => { x with rvs := { x.rvs with learn := none, staging := none, stagedLoad := false, swapDue := false } }

/-- The port enters FAULT (R216): STOP for the port, heater off, sense open, events. Log entry 34: DEDUCED. -/
def portFault (s : State) (p : Fin 32) (cause : Nat) : State :=
  let old := (s.port p).st
  match old with
  | .closed | .opening | .fault => s
  | .idle | .armed | .printing | .draining =>
    let s1 := stopPortFor s p 15 true
    let s2 := leaveJob (abortLearn (heaterOff (liveControl s1 p) p) p) p false
    let s3 := (flushWords s2 p s2.clk none).modPort p fun x => { x with
      st := .fault, cause := cause, link := { x.link with sense := none, next := none, words := [] } }
    stateChanged (faultEdge s3) p old .fault cause

/-! ### Swaths (R92 to R96) -/

/-- POS_LATE_START (R100). -/
def lateStartEvent (s : State) (qi : Fin 8) (st kind : Nat) (n : Int) (cmp : Int) : State :=
  let s1 := s.modQuire qi fun q => { q with event := q.event ||| 4, lateStart := q.lateStart || st == stOkLate }
  raise s1 evLateStart kQuire qi.1 2 (le 2 st ++ [BitVec.ofNat 8 kind, 0] ++ le 4 (uns 32 n) ++ le 8 (uns 64 cmp))

/-- Skip the first `n` lines of the job or swath: the flyleaf first, then image lines, whose data is discarded (R88). -/
def skipLines (s : State) (qi : Fin 8) (n : Nat) : State :=
  let q := s.quire qi
  let s1 := s.modQuire qi fun x => { x with cnt := { x.cnt with skipped := sat32 x.cnt.skipped n } }
  (s.activeOf qi).foldl (fun t p =>
    retireReady (t.modPort p fun x => { x with
      nextK := q.anchor + q.dir * n, link := { x.link with next := none },
      dat := let d := { x.dat with ahead := false, miss := none }
        if q.fly < n then d.discardTo (if q.scan then d.base + min (n - q.fly) (q.per x) else n - q.fly) else d }) p) s1

/-- The job or swath starts at once, `n` lines late (R88, R99). -/
def startLate (s : State) (qi : Fin 8) (n : Nat) : State :=
  (skipLines s qi n).modQuire qi fun q => { q with st := if n < q.fly then .flyleaf else .printing, lateStart := true }

/-- The boundary before the port's first line is still to be crossed (R132). -/
def aimFirst (s : State) (qi : Fin 8) : State :=
  let q := s.quire qi
  let ahead := decide (s.behindBy qi q.anchor < 0)
  (s.activeOf qi).foldl (fun t p => t.modPort p fun x => { x with dat := { x.dat with ahead := ahead } }) s

/-- A swath's gate opens: its first boundary acts as a start compare (R88, R94). -/
def openGate (s : State) (qi : Fin 8) : State :=
  let q := s.quire qi
  let n := s.behindBy qi q.anchor
  let s1 := s.modQuire qi fun x => { x with gate := true }
  if n ≤ 0 then aimFirst s1 qi
  else if n ≤ q.lateWin then lateStartEvent (startLate s1 qi n.toNat) qi stOkLate 1 n q.anchor
  else stopQuire (lateStartEvent s1 qi stCompareBehind 1 n q.anchor) qi 7

/-- The SOS input that gates swaths of the present direction; none when the job names none. -/
def Quire.sosIn (q : Quire) : Option Nat :=
  match q.job with
  | some j => let i := if q.down then j.sosRev else j.sosFwd
    if i < 4 then some i else none
  | none => none

/-- The gate opens without an SOS input when the source moves in the swath's direction (R93). -/
def openFree (s : State) (qi : Fin 8) : State :=
  let q := s.quire qi
  if q.scan && (q.st = .armed || q.st = .suspended) && !q.gate && q.sosIn.isNone && (s.source q.source).trackDir = q.down then openGate s qi
  else s

/-- A swath is over: count it, stop when the job has all its swaths or every MARK is consumed, else wait for the next (R95). -/
def swathOver (s : State) (qi : Fin 8) : State :=
  let nx := s.quireNext qi
  let s1 := s.modQuire qi fun q => { q with cnt := { q.cnt with completed := satAdd 16 q.cnt.completed 1 } }
  let q := s1.quire qi
  let all := match q.job with
    | some j => decide (j.swaths ≠ 0 ∧ j.swaths ≤ q.cnt.completed)
    | none => false
  let ends := all || (s1.activeOf qi).all fun p => (s1.port p).dat.consumed
  let causes := (if ends then [1] else []) ++ (if q.stopSwath then [3] else [])
  if !causes.isEmpty then stopWith s1 qi causes
  else
    let down := if q.bidir then !q.down else false
    let s2 := s1.modQuire qi fun x => { x with
      st := .suspended, resumeTo := if 0 < x.fly then .flyleaf else .printing, swathOrd := x.swathOrd + 1, down := down, gate := false,
      running := false, next := nx, anchor := x.firstOf down, tallyF := [], tallyL := [], tallyI := [] }
    streamFlyleaf ((s2.activeOf qi).foldl (fun t p => t.modPort p fun x => { x with
      nextK := (s2.quire qi).anchor, link := { x.link with next := none }, rvs := { x.rvs with passes := 0, passAt := 0 },
      dat := { x.dat with miss := none, ahead := false, base := x.dat.base + q.per x } }) s2) qi

/-- A reversal cuts a swath whose gate has opened (R96). -/
def truncate (s : State) (qi : Fin 8) : State :=
  let q := s.quire qi
  match q.job with
  | none => s
  | some j =>
    let s1 := s.modQuire qi fun x => { x with event := x.event ||| 16 }
    if j.truncStop then stopQuire s1 qi 6
    else
      let s2 := s1.modQuire qi fun x => { x with cnt := { x.cnt with truncated := satAdd 8 x.cnt.truncated 1 } }
      let s3 := (s2.activeOf qi).foldl (fun t p =>
        retireReady (t.modPort p fun x => { x with dat := x.dat.discardTo (x.dat.base + q.per x) }) p) s2
      swathOver s3 qi

/-- A quire's response to a reversal of its source (R55, R96, R99). -/
def quireReversed (s : State) (qi : Fin 8) : State :=
  let q := s.quire qi
  if !q.scan then
    if q.st.fires then s.modQuire qi fun x => { x with resumeTo := x.st, st := .suspended } else s
  else
    let s1 := if q.gate && q.st.stoppable then truncate s qi else s
    openFree s1 qi

/-- A CLOCKED quire resumes in register (R55). -/
def quireResumes (s : State) (qi : Fin 8) : State :=
  s.modQuire qi fun q => if !q.scan && q.st = .suspended then { q with st := q.resumeTo } else q

/-! ### After a line's decision -/

/-- No line of the quire's ports at or before boundary k is still to come or undecided. -/
def allPast (s : State) (qi : Fin 8) (k : Int) : Bool :=
  let q := s.quire qi
  (s.activeOf qi).all fun p =>
    decide (0 < q.dir * ((s.port p).nextK - k)) && (s.port p).lines.all fun l => l.dec.isSome || decide (0 < q.dir * (l.k - k))

/-- A port whose part of the job has ended has consumed its MARK (R122). -/
def consumeMark (s : State) (qi : Fin 8) (p : Fin 32) (g : Int) : State :=
  let x := s.port p
  match x.dat.total with
  | none => s
  | some n =>
    if decide (lastLineG (s.quire qi) x n ≤ g) && !x.dat.consumed then
      s.modPort p fun y => { y with dat := { y.dat with consumed := true } }
    else s

/-- What follows when a line that no STOP suppressed has been decided: the flyleaf ends, MARKs are consumed, a stop compare or the end
of the swath or job is reached (R89, R95, R99, R134). -/
def afterLine (s : State) (p : Fin 32) (l : Line) : State :=
  match s.quireOf p with
  | none => s
  | some qi =>
    let q := s.quire qi
    if !(q.st.fires || (q.st = .suspended && !q.scan)) then s
    else
      let s1 := if l.flyleaf && l.idx + 1 = q.fly then s.modQuire qi fun x => { x with
          st := if x.st = .flyleaf then .printing else x.st, resumeTo := .printing } else s
      let g := (l.idx : Int) + (if q.scan then (q.swathOrd * (q.fly + q.swath) : Nat) else 0)
      let s2 := consumeMark s1 qi p g
      let hits := q.stopAt.filter fun e =>
        (!q.scan || (decide (0 ≤ q.idx e.1) && decide (q.idx e.1 < (q.span : Nat)))) && allPast s2 qi (e.1 - q.dir)
      if q.scan && l.idx + 1 = q.span && allPast s2 qi l.k then swathOver s2 qi
      else
        let ends := (s2.activeOf qi).all fun r => (s2.port r).dat.consumed
        let causes := hits.map (·.2) ++ (if ends then [1] else [])
        if causes.isEmpty then s2 else stopWith s2 qi causes

/-- Decide the port's first undecided line and act on what follows. -/
def decideNext (s : State) (p : Fin 32) : State :=
  match (s.port p).lines.find? fun l => l.dec.isNone with
  | none => s
  | some l => afterLine (decideOne s p l) p l

/-! ### The end of a job (R98, R99, R103, R104) -/

/-- When the port's last playback is over and its head link is idle (R99, R215). -/
def drainAt (s : State) (p : Fin 32) : Nat := max (s.port p).playEnd (s.port p).link.streamEnd

/-- No playback of the port is to come or running. -/
def drained (s : State) (p : Fin 32) : Bool :=
  let x := s.port p
  (x.lines.all fun l => l.latched && l.dec.isSome && l.plays.all fun q => q.phase == 2)

/-- A new block of link errors begins (R216). -/
def Link.newBlock (l : Link) (t : Nat) : Link := { l with errs := 0, blockStart := t, blockLines := 0, raised := false }

/-- Captures that the end of the job cuts short are invalid probes (R231). -/
def Port.cutProbes (x : Port) : Port :=
  { x with rvs := x.lines.foldl (fun r l => match l.probe with
      | some (i, _) => { r with invalid := sat32 r.invalid 1, mon := modAt r.mon i fun m => { m with lastVerdict := 8 } }
      | none => r) x.rvs }

/-- A DRAINING port returns to IDLE; what it leaves behind follows R126 or R127. -/
def portIdle (s : State) (p : Fin 32) (purge : Bool) : State :=
  if (s.port p).st = .draining then
    let s1 := liveControl (flushWords s p s.clk none) p
    portTo ((leaveJob s1 p purge).modPort p fun x => { x.cutProbes with
      link := { (x.link.newBlock s.clk) with sense := none, next := none, words := [] }, lines := [] }) p .idle 0
  else s

/-- Commands that wait for the quire to leave STOPPING complete (R103, R104): a JOB_STOP with OK when its own stop alone ended the job. -/
def jobCommandsDone (s : State) (qi : Fin 8) : State :=
  let q := s.quire qi
  let mine := fun (e : Exec) => (e.op == 0x0403 || e.op == 0x0404) && e.wait = .drain && fld e.p 8 1 == qi.1
  (s.execs.filter mine).foldl (fun t e =>
    let own := if fld e.p 9 1 = 1 then (q.causes.all (· == 2)) && q.cmpStop == sfld e.p 16 8 else q.causes.all (· == 3)
    endExec t e (if e.op = 0x0404 || own then stOk else stStopped) q.cnt.fired) s

/-- The quire leaves STOPPING (R98, R99, R104): its ports leave the job; a cause of 14 or 15 leads to FAULT unless a JOB_ABORT is
outstanding or an abort on PERST_N runs. An abort purges every port of the quire, those that left the job before among them (R127).
In FAULT the definition of the job stays, though no job is in progress (DEDUCED, log entry 101). -/
def quireLeaves (s : State) (qi : Fin 8) : State :=
  let q := s.quire qi
  let s0 := (s.portsOf qi).foldl (fun t p => portIdle t p q.purge) s
  let s1 := if q.purge then (s.portsOf qi).foldl purgePort s0 else s0
  let bad := decide (q.cause = 14 ∨ q.cause = 15) && !q.abort
  let s2 := s1.modQuire qi fun x => { x with
    st := if bad then .fault else .bound, active := 0, running := false, gate := false, stopAt := [], stopSwath := false, purge := false,
    abort := false }
  jobCommandsDone (faultEdge s2) qi

end Sys2Proof.Machine
end

