-- ==== Sys2Proof/Machine/Monitor.lean ====
section
/-! DEFINITION. The nozzle health monitor: choosing the nozzle to probe, features and verdicts, monitor states, learning
(08_nozzle_health.md R229 to R245). -/

namespace Sys2Proof.Machine

/-! ### The deckle, channels and groups -/

/-- The deckle's effective end (R150). -/
def Bank.lastEff (b : Bank) (n : Nat) : Nat := if b.deckLast < n then b.deckLast else n - 1

/-- Nozzle `i` lies within the deckle of a bank. -/
def Bank.inDeckle (b : Bank) (n i : Nat) : Bool := b.deckFirst ≤ i && i ≤ b.lastEff n

/-- The channel of a nozzle in the head profile. -/
def Port.nozChan (p : Port) (i : Nat) : Chan :=
  match p.profile with
  | some f => if bit (nth f.noz i 0) 2 then .b else .a
  | none => .a

/-- The fire group of a nozzle in the head profile. -/
def Port.nozGroup (p : Port) (i : Nat) : Nat :=
  match p.profile with
  | some f => nth f.noz i 0 % 4
  | none => 0

/-- The reference-slot index of a class and channel: P on A, P on B, K on A, K on B. -/
def refIdx (k : Bool) (c : Chan) : Fin 4 := finOf 4 (by decide) ((if k then 2 else 0) + chanNo c)

/-- The signature of a nozzle in a class. -/
def SigSet.sig (g : SigSet) (k : Bool) (i : Nat) : Option Sig := nth (if k then g.k else g.p) i none

/-! ### Choosing the nozzle (R232, R233) -/

/-- The first nozzle in cyclic order from `start` within `lo` to `hi` that passes a test. -/
def firstCyclic (lo hi start : Nat) (f : Nat → Bool) : Option Nat :=
  let n := hi + 1 - lo
  let st := if start < lo ∨ hi < start then lo else start
  ((List.range n).map fun i => if st + i ≤ hi then st + i else st + i - n).find? f

/-- Learning of a class is running. -/
def Rvs.learning (r : Rvs) (k : Bool) : Bool :=
  match r.learn with
  | some l => if k then l.wantK else l.wantP
  | none => false

/-- A nozzle waits for recovery (R233). -/
def Port.inRecovery (p : Port) (i : Nat) : Bool := badState (p.monOf i).state && (p.rvs.live.sig true i).isSome

/-- The nozzle that the line probes, with its class (true is K), and the monitor's pass state after it. -/
def chooseNozzle (x : Port) (b : Bank) (l : Line) (cap : Nat) : Option (Nat × Bool) × Rvs :=
  let n := x.nozzles
  let lo := b.deckFirst
  let hi := b.lastEff n
  let r := x.rvs
  let rotate := fun (k : Bool) (r : Rvs) =>
    let ok := fun (i : Nat) =>
      ((r.live.sig k i).isSome || r.learning k) && (k || bit r.cfg.levels (min (nth (l.codes.getD []) i 0) cap))
    match firstCyclic lo hi r.pointer ok with
    | none => (none, r)
    | some i =>
      let wraps := hi ≤ i || i < (if r.pointer < lo ∨ hi < r.pointer then lo else r.pointer)
      (some (i, k), { r with pointer := if hi ≤ i then lo else i + 1, rounds := if wraps then sat32 r.rounds 1 else r.rounds })
  if !l.flyleaf then rotate false r
  else
    let queue := (List.range n).filter x.inRecovery
    if queue.isEmpty || r.cfg.recover ≤ r.passes then rotate true r
    else match queue.find? fun i => r.passAt ≤ i with
      | some i => (some (i, true), { r with passAt := i + 1 })
      | none =>
        if r.passes + 1 < r.cfg.recover then
          (queue.head?.map fun i => (i, true), { r with passes := r.passes + 1, passAt := queue.headD 0 + 1 })
        else rotate true { r with passes := r.passes + 1 }

/-- Give a fired line its probe and name its nozzle (R207, R229 to R233). -/
def chooseProbe (s : State) (p : Fin 32) (k : Int) : State :=
  let x := s.port p
  match x.banks, x.lines.find? fun l => l.k == k with
  | some b, some l =>
    match l.dec with
    | some (.fire cap) =>
      if x.senses && !x.rvs.noWindow then
        let c := chooseNozzle x b.live l cap
        let s1 := s.modPort p fun y => { y with rvs := c.2 }
        match c.1 with
        | none => s1
        | some pr =>
          headWord (s1.modPort p fun y =>
            { y with lines := y.lines.map (fun m => if m.k = k then { m with probe := some pr } else m),
                     wear := { y.wear with probes := y.wear.probes + 1 } }) p (x.nozChan pr.1) 7 0 pr.1 (s.clk + x.wordPh 7)
      else s
    | some .suppress | none => s
  | _, _ => s

/-! ### Features and verdicts (R234, R235) -/

def maxI (l : List Int) : Int := l.foldl max (l.headD 0)
def minI (l : List Int) : Int := l.foldl min (l.headD 0)

/-- Maximum less minimum. -/
def pp (l : List Int) : Nat := (maxI l - minI l).toNat

/-- The positions of the sign changes, each as a sample number and the fraction a / (a + b) beyond it. -/
def signChanges : Nat → List Int → List (Nat × Nat × Nat)
  | i, a :: b :: t =>
    if decide (a < 0) != decide (b < 0) then (i, a.natAbs, a.natAbs + b.natAbs) :: signChanges (i + 1) (b :: t)
    else signChanges (i + 1) (b :: t)
  | _, _ => []

structure Features where
  raw : Nat
  amp : Nat
  decay : Nat
  per : Nat
  deriving DecidableEq, Repr

/-- The four features of 100 samples (R234). Log entry 42: DESIGN CHOICE. -/
def features (l : List Int) (gain rank floor : Nat) : Features :=
  let early := pp (l.take 50)
  let late := pp (l.drop 50)
  let raw := pp l
  let per :=
    if raw < floor then 0
    else match signChanges 0 l with
      | a :: b :: _ =>
        let num : Int := (b.1 : Int) * (a.2.2 * b.2.2 : Nat) + (b.2.1 * a.2.2 : Nat) - (a.1 : Int) * (a.2.2 * b.2.2 : Nat) -
          (a.2.1 * b.2.2 : Nat)
        let v := (Int.fdiv (512 * num) (max (a.2.2 * b.2.2) 1 : Nat)).toNat
        if 0xFFFE < v then 0xFFFF else v
      | _ => 0xFFFF
  { raw := raw, amp := min 65535 (early * 2 ^ 28 / max (gain * rank) 1),
    decay := if early = 0 then 0 else min 255 (256 * late / early), per := per }

/-- The verdict of a probe against a signature (R235): 0 OK, 2 WEAK, 3 AIR, 4 CLOGGED. Log entry 42: DESIGN CHOICE. -/
def verdictOf (c : RvsCfg) (f : Features) (g : Sig) : Nat :=
  if 256 * f.amp < c.clogAmp * g.amp then 4
  else if 256 * f.decay < c.clogDecay * g.decay then 4
  else if f.per ≠ 0 ∧ c.airPer * g.per < 256 * ((f.per : Int) - g.per).natAbs then 3
  else if 256 * f.amp < c.weakAmp * g.amp then 2
  else 0

/-- The bad verdict that appears most often; a tie goes to CLOGGED, then AIR, then WEAK (R236). -/
def confirmed (h : List Nat) : Nat :=
  let n := fun (v : Nat) => (h.filter fun x => x == v).length
  if n 3 ≤ n 4 ∧ n 2 ≤ n 4 then 4 else if n 2 ≤ n 3 then 3 else 2

/-- A nozzle's record after a verdict (R236, R243). -/
def Mon.after (m : Mon) (c : RvsCfg) (v : Nat) (locked : Bool) : Mon :=
  let h := (v :: m.hist).take c.n
  let bad := (h.filter badState).length
  let m1 := { m with hist := h, lastVerdict := v }
  if locked then m1
  else if m.state = 0 ∨ m.state = 1 then
    if c.k ≤ bad then { m1 with state := confirmed h, hist := [], good := 0 }
    else { m1 with state := if bad = 0 then 0 else 1 }
  else if badState m.state then
    if v = 0 then
      if c.recover ≤ m.good + 1 then { m1 with state := 0, hist := [], good := m.good + 1 } else { m1 with good := m.good + 1 }
    else { m1 with good := 0, state := if c.k ≤ bad then confirmed h else m.state }
  else m1

/-! ### Learning (R244) -/

/-- A nozzle may be learned: in the deckle, merged OK or UNKNOWN, not locked. -/
def Port.eligible (p : Port) (i : Nat) : Bool :=
  match p.banks with
  | none => false
  | some b =>
    b.live.inDeckle p.nozzles i && (p.merged b.live i == 0 || p.merged b.live i == 7) && !(bit (nth b.live.host i 0) 4)

def Collect.none_ : Collect := { probes := [], scattered := 0, learned := false }

/-- Rounded mean. Log entry 42: DESIGN CHOICE. -/
def mean (l : List Nat) : Nat := (2 * l.sum + l.length) / (2 * max l.length 1)

/-- Every value lies within 1/8 of the mean. -/
def tight (l : List Nat) : Bool := l.all fun x => 8 * ((l.length * x : Nat) - (l.sum : Int)).natAbs ≤ l.sum

/-- Add a probe (AMP, PER, DECAY, RAW) to a nozzle's collection; a signature once COUNT probes fit together. -/
def Collect.add (c : Collect) (count floor : Nat) (f : Features) : Collect × Option Sig :=
  if c.learned || 3 < c.scattered then (c, none)
  else
    let ps := (f.amp, f.per, f.decay, f.raw) :: c.probes
    if ps.length < count then ({ c with probes := ps }, none)
    else
      let amps := ps.map (·.1)
      let pers := ps.map (·.2.1)
      let raws := ps.map (·.2.2.2)
      if tight amps && tight pers && floor * raws.length ≤ raws.sum then
        ({ c with probes := ps, learned := true }, some { amp := mean amps, per := mean pers, decay := mean (ps.map (·.2.2.1)) })
      else ({ c with probes := [], scattered := c.scattered + 1 }, none)

/-- An empty signature set for `n` nozzles. -/
def SigSet.empty (n levels : Nat) : SigSet :=
  { p := List.replicate n none, k := List.replicate n none, slots := .replicate 4 none, levels := levels }

/-- The nozzles that a learning run wants have all been learned. -/
def learnedAll (x : Port) (l : Learn) : Bool :=
  let has := fun (t : List (Nat × Collect)) (i : Nat) => match assoc i t with
    | some c => c.learned
    | none => false
  (List.range x.nozzles).all fun i => !(x.eligible i) || ((!l.wantP || has l.colP i) && (!l.wantK || has l.colK i))

/-- RESULT of START: nozzles learned, left scattered, never with COUNT probes (R253). -/
def learnResult (x : Port) (l : Learn) : Nat :=
  let col := fun (t : List (Nat × Collect)) (i : Nat) => (assoc i t).getD Collect.none_
  let want := fun (i : Nat) (f : Collect → Bool) => (l.wantP && f (col l.colP i)) || (l.wantK && f (col l.colK i))
  let done := fun (i : Nat) => (!l.wantP || (col l.colP i).learned) && (!l.wantK || (col l.colK i).learned)
  let all := List.range x.nozzles
  let learned := (all.filter done).length
  let scat := (all.filter fun i => !(done i) && want i fun c => c.scattered != 0 && !c.learned).length
  let never := (all.filter fun i => x.eligible i && !(done i) && !(want i fun c => c.scattered != 0 && !c.learned)).length
  learned % 65536 + 65536 * (scat % 65536) + 2 ^ 32 * (never % 65536)

/-- The run ends: START completes and the staging set stays to be committed. -/
def endLearn (s : State) (p : Fin 32) (l : Learn) (st : Nat) : State :=
  endAll (s.modPort p fun x => { x with rvs := { x.rvs with learn := none } }) (fun e => e.id == l.id) st (learnResult (s.port p) l)

/-- A valid probe of class `k` feeds the learning run. -/
def learnProbe (s : State) (p : Fin 32) (i : Nat) (k : Bool) (slot : Nat) (f : Features) : State :=
  let x := s.port p
  match x.rvs.learn with
  | none => s
  | some l =>
    if !(x.rvs.learning k) || !(x.eligible i) then s
    else
      let c := x.nozChan i
      let st := x.rvs.staging.getD (SigSet.empty x.nozzles x.rvs.cfg.levels)
      let ref := look st.slots (refIdx k c)
      if ref.isSome ∧ ref ≠ some slot then s
      else
        let st1 := { st with slots := upd st.slots (refIdx k c) fun _ => some slot }
        let tab := if k then l.colK else l.colP
        let r := ((assoc i tab).getD Collect.none_).add l.count x.rvs.cfg.noiseFloor f
        let l1 := if k then { l with colK := assocSet i r.1 l.colK } else { l with colP := assocSet i r.1 l.colP }
        let st2 := match r.2 with
          | none => st1
          | some g => if k then { st1 with k := modAt st1.k i fun _ => some g } else { st1 with p := modAt st1.p i fun _ => some g }
        let s1 := s.modPort p fun y => { y with rvs := { y.rvs with learn := some l1, staging := some st2, stagedLoad := false } }
        if learnedAll (s1.port p) l1 then endLearn s1 p l1 stOk else s1

/-! ### The end of a capture (R231, R234 to R238) -/

/-- The end of a line's last playback. -/
def Line.playsEnd (l : Line) : Nat := l.plays.foldl (fun m q => max m (q.start + (q.samples + 8) * 20)) 0

/-- A capture has ended: valid probes are classified and learned from, invalid ones are counted. -/
def captureEnd (s0 : State) (p : Fin 32) (l : Line) (nozzle : Nat) (k : Bool) (samples : List Int) : State :=
  let s := s0.advanceTo (l.playsEnd + 6000)
  let x := s.port p
  let s1 := s.modPort p fun y => { y with
    lines := y.lines.map (fun m => if m.k = l.k then { m with probe := none } else m) }
  let c := x.nozChan nozzle
  let play := l.plays.find? fun q => q.ch = c
  let short := x.lines.any fun m => decide (l.idx < m.idx ∧ m.first < l.playsEnd + 6000)
  let sat := samples.any fun v => v == -2048 || v == 2047
  let slot := (play.map (·.slot)).getD 16
  let ref := look x.rvs.live.slots (refIdx k c)
  let fits := fun (r : Option Nat) => decide (r = none ∨ r = some slot)
  let staged := match x.rvs.staging with
    | some g => look g.slots (refIdx k c)
    | none => none
  let wrongSlot := if x.rvs.learning k then decide (ref ≠ some slot) && !(fits staged) else !(fits ref)
  let bad := short || sat || wrongSlot || x.st != .printing || samples.length != 100 || play.isNone
  if bad then
    s1.modPort p fun y => (fun (z : Port) => { z with lines := z.lines.filter fun m => !m.over })
      { y with rvs := { y.rvs with invalid := sat32 y.rvs.invalid 1, short := if short then sat32 y.rvs.short 1 else y.rvs.short,
                                   mon := modAt y.rvs.mon nozzle fun m => { m with lastVerdict := 8 } } }
  else
    let gain := (play.map (·.gain)).getD 0x4000
    let rank := (play.map (·.rank)).getD 0x4000
    let f := features samples gain rank x.rvs.cfg.noiseFloor
    let s2 := learnProbe (s1.modPort p fun y => { y with rvs := { y.rvs with
      valid := sat32 y.rvs.valid 1, mon := modAt y.rvs.mon nozzle fun m => { m with lastAmp := f.amp, lastPer := f.per } } })
      p nozzle k slot f
    let s3 := match x.rvs.live.sig k nozzle with
      | none => s2
      | some g =>
        if decide (ref.isSome ∧ ref ≠ some slot) then s2
        else
          let v := verdictOf x.rvs.cfg f g
          let m0 := (s2.port p).monOf nozzle
          let locked := match x.banks with
            | some b => bit (nth b.live.host nozzle 0) 4
            | none => false
          let m1 := m0.after x.rvs.cfg v locked
          let nbad := (((v :: m0.hist).take x.rvs.cfg.n).filter badState).length
          monChanged (s2.modPort p fun y => { y with rvs := { y.rvs with mon := modAt y.rvs.mon nozzle fun _ => m1 } })
            p nozzle m0.state m1.state v nbad l.k
    s3.modPort p Port.dropOver

/-! ### What waits for the port's next line boundary (R245, R252, R254) -/

/-- A signature entry of class P becomes invalid or is replaced: the nozzle restarts, unless it is locked (R237, R243, R245).
Log entry 53: DEDUCED. -/
def restartNozzle (s : State) (p : Fin 32) (i : Nat) (k : Int) : State :=
  let locked := match (s.port p).banks with
    | some b => bit (nth b.live.host i 0) 4
    | none => false
  if locked then s.modPort p fun x => { x with rvs := { x.rvs with mon := modAt x.rvs.mon i fun m => { m with hist := [], good := 0 } } }
  else monReset s p i k

/-- RVS_CONFIG takes effect (R230, R252). -/
def applyRvsCfg (s : State) (p : Fin 32) (c : RvsCfg) (k : Int) : State :=
  let r := (s.port p).rvs
  let s1 := s.modPort p fun x => { x with rvs := { x.rvs with
    cfg := c, cfgDue := none,
    mon := if c.k ≠ r.cfg.k ∨ c.n ≠ r.cfg.n then x.rvs.mon.map fun m => { m with hist := [] } else x.rvs.mon,
    valid := if c.enable then 0 else x.rvs.valid, invalid := if c.enable then 0 else x.rvs.invalid,
    short := if c.enable then 0 else x.rvs.short, rounds := if c.enable then 0 else x.rvs.rounds } }
  let s2 :=
    if c.levels ≠ r.cfg.levels ∧ c.levels ≠ r.live.levels then
      let hit := (List.range r.live.p.length).filter fun i => (nth r.live.p i none).isSome
      let t := s1.modPort p fun x => { x with rvs := { x.rvs with live := { x.rvs.live with p := x.rvs.live.p.map fun _ => none } } }
      hit.foldl (fun t i => restartNozzle t p i k) t
    else s1
  if c.enable then planWindow s2 p (-1) else s2

/-- Staged signatures are there to be committed. -/
def Rvs.staged (r : Rvs) : Bool :=
  match r.staging with
  | some g => r.stagedLoad || (g.p.any fun x => x.isSome) || g.k.any fun x => x.isSome
  | none => false

/-- The staged entries become live (R245); a COMMIT completes with the entries replaced. Log entry 53: DEDUCED. -/
def swapSignatures (s : State) (p : Fin 32) (k : Int) : State :=
  let r := (s.port p).rvs
  match r.staging with
  | none => s
  | some g =>
    let all := r.stagedLoad
    let mix := fun (new old : List (Option Sig)) => List.zipWith (fun a b => if all || a.isSome then a else b) new old
    let hit := (List.range g.p.length).filter fun i => all || (nth g.p i none).isSome
    let n := hit.length + (g.k.filter fun x => all || x.isSome).length
    let live : SigSet := { p := mix g.p r.live.p, k := mix g.k r.live.k, levels := g.levels,
                           slots := updAll r.live.slots fun i o => if all || (look g.slots i).isSome then look g.slots i else o }
    let s1 := s.modPort p fun x => { x with rvs := { x.rvs with live := live, staging := none, stagedLoad := false, swapDue := false } }
    let s2 := hit.foldl (fun t i => (restartNozzle t p i k).modPort p fun x => { x with rvs := { x.rvs with
        mon := modAt x.rvs.mon i fun m => { m with lastVerdict := 0xFF, lastAmp := 0, lastPer := 0 } } }) s1
    endAll s2 (fun e => e.wait == .learnSwap && fld e.p 8 1 == p.1) stOk n

/-- RESET_MONITOR acts on the nozzles it named (R243, R254). Log entry 53: DEDUCED. -/
def resetMonitor (s : State) (p : Fin 32) (k : Int) : State :=
  let ns := (s.port p).rvs.monReset.flatMap fun r => (List.range r.2).map (r.1 + ·)
  let s1 := s.modPort p fun x => { x with rvs := { x.rvs with monReset := [] } }
  ns.foldl (fun t i =>
    let locked := match (t.port p).banks with
      | some b => bit (nth b.live.host i 0) 4
      | none => false
    if locked then t else monReset t p i k) s1

/-- A line boundary of the port comes: what waited for it takes effect between two probes. -/
def boundaryMonitor (s : State) (p : Fin 32) (k : Int) : State :=
  let s1 := match (s.port p).rvs.cfgDue with
    | some c => applyRvsCfg s p c k
    | none => s
  let s2 := if (s1.port p).rvs.swapDue then swapSignatures s1 p k else s1
  if (s2.port p).rvs.monReset.isEmpty then s2 else resetMonitor s2 p k

end Sys2Proof.Machine
end

