-- ==== Sys2Proof/Machine/Screen.lean ====
section
/-! DEFINITION. The screening and compensation engine: the stages that turn a decoded image line into level codes (05_screening.md R141
to R163). -/

namespace Sys2Proof.Machine

/-! ### Stage 1: unpacking (R111) -/

/-- The contone values of a SCREEN8 or SCREEN4 line. -/
def contoneOf (form n : Nat) (bs : Bytes) : List Nat :=
  if form = 0 then (bs.take n).map BitVec.toNat
  else (bs.flatMap fun b => [17 * (b.toNat % 16), 17 * (b.toNat / 16)]).take n

/-- The level codes of one 32-bit word or one byte of a LEVELS line, `m` codes of `w` bits. -/
def codesIn (m w v : Nat) : List Nat := (List.range m).map fun i => v / 2 ^ (w * i) % 2 ^ w

/-- The words of a 3-bit LEVELS line. -/
def words32 : Nat → Bytes → List Nat
  | 0, _ => []
  | n + 1, bs => rdLE (bs.take 4) :: words32 n (bs.drop 4)

/-- The level codes of a LEVELS line. -/
def levelsOf (depth n : Nat) (bs : Bytes) : List Nat :=
  if depth = 3 then ((words32 ((n + 9) / 10) bs).flatMap (codesIn 10 3)).take n
  else (bs.flatMap fun b => codesIn 4 2 b.toNat).take n

/-! ### What a line's screening depends on -/

/-- The settings one image line is screened under. -/
structure ScreenCtx where
  bank : Bank
  nozzles : Nat
  depth : Nat
  /-- the nominal line (R121) -/
  nominal : Int
  /-- the pass mask applies, and the swath ordinal (R147, R153) -/
  pass : Bool
  swath : Nat
  /-- which nozzles are out (R157) -/
  outs : List Bool
  tile : Option Tile
  masks : List (Nat × Tile)
  deriving DecidableEq, Repr

/-- A nozzle in a merged state is out under a policy (R157). -/
def Comp.isOut (c : Comp) (merged : Nat) : Bool :=
  merged == 4 || merged == 5 || merged == 6 || (merged == 3 && c.airOut) || (merged == 2 && c.weakOut)

/-- Nozzle `i` can take ink from an out nozzle (R157). -/
def ScreenCtx.eligible (x : ScreenCtx) (i : Nat) : Bool :=
  decide (i < x.nozzles) && x.bank.inDeckle x.nozzles i && !(nth x.outs i true)

/-- The neighbour at distance `k` below (or above) a nozzle, when it is eligible. -/
def ScreenCtx.side (x : ScreenCtx) (o k : Nat) (below : Bool) : Option Nat :=
  if below then (if k ≤ o ∧ x.eligible (o - k) then some (o - k) else none)
  else if x.eligible (o + k) then some (o + k) else none

/-- The substrate column of a nozzle (R147). -/
def ScreenCtx.column (x : ScreenCtx) (i : Nat) : Int := if x.pass then i + x.bank.stitch.advance * x.swath else i

/-- Stage 2 (R150). -/
def deckleStage (x : ScreenCtx) (l : List Nat) : List Nat := l.mapIdx fun i v => if x.bank.inDeckle x.nozzles i then v else 0

/-! ### Stages 3 and 4: contone (R145, R159) -/

/-- Stage 3. -/
def uniformStage (x : ScreenCtx) (l : List Nat) : List Nat :=
  l.mapIdx fun i c =>
    let e := nth x.bank.ents i (0x80, 0)
    min 255 ((nth (nth x.bank.curves e.2 []) c 0 * e.1 + 64) / 128)

/-- W_k. -/
def Comp.weight (c : Comp) (k : Nat) : Nat := if k = 1 then c.w1 else c.w2

/-- The distances that a policy reaches. -/
def Comp.reach (c : Comp) : List Nat := (List.range c.radius).map (· + 1)

/-- What nozzle `o` passes to its neighbour at distance `k` on the side `below` (R159). -/
def passed (x : ScreenCtx) (l : List Nat) (o k : Nat) (below : Bool) : Nat :=
  let w := x.bank.comp.weight k
  nth l o 0 * (if (x.side o k !below).isSome then w else 2 * w) / 256

/-- What nozzle `j` receives from out nozzle `o` at distance `k`. -/
def receivedFrom (x : ScreenCtx) (l : List Nat) (j k : Nat) : Nat :=
  (if k ≤ j ∧ nth x.outs (j - k) false then passed x l (j - k) k false else 0) +
  (if nth x.outs (j + k) false then passed x l (j + k) k true else 0)

/-- What nozzle `j` receives in all. -/
def received (x : ScreenCtx) (l : List Nat) (j : Nat) : Nat := (x.bank.comp.reach.map (receivedFrom x l j)).sum

/-- Stage 4. -/
def contoneStage (x : ScreenCtx) (l : List Nat) : List Nat :=
  l.mapIdx fun j c => if x.eligible j then min 255 (c + received x l j) else c

/-- Stage 4 lost a share: no neighbour at its distance, or the clamp cut it (R163). -/
def contoneLost (x : ScreenCtx) (l : List Nat) : Bool :=
  ((List.range l.length).any fun o => nth x.outs o false && x.bank.comp.reach.any fun k =>
    nth l o 0 * x.bank.comp.weight k / 256 != 0 && (x.side o k true).isNone && (x.side o k false).isNone) ||
  (List.range l.length).any fun j => x.eligible j && decide (255 < nth l j 0 + received x l j)

/-! ### Stage 5: threshold screening (R146, R148, R149) -/

/-- The thresholds of tile 0. -/
def builtIn (depth : Nat) : List Nat := (List.range (topLevel depth)).map fun k => 255 * (k + 1) / (topLevel depth + 1)

/-- The thresholds of a cell. -/
def Tile.cell (t : Tile) (x y : Nat) : List Nat :=
  let size := if t.depth = 3 then 8 else 4
  (t.data.drop ((y * t.w + x) * size)).take (size - 1)

/-- An integer reduced modulo a natural number, from 0 up. -/
def modN (v : Int) (n : Nat) : Nat := (v % (max n 1 : Nat)).toNat

/-- The thresholds for a nozzle. Log entry 48: DEDUCED. -/
def ScreenCtx.thresholds (x : ScreenCtx) (i : Nat) : List Nat :=
  match x.tile with
  | none => builtIn x.depth
  | some t => t.cell (modN (x.column i + x.bank.xOfs) t.w) (modN (x.nominal + x.bank.yOfs) t.h)

/-- Stage 5. -/
def thresholdStage (x : ScreenCtx) (l : List Nat) : List Nat :=
  l.mapIdx fun i c => ((x.thresholds i).filter fun t => t < c).length

/-! ### Stages 6 to 8 (R151, R153, R155) -/

/-- An entry of a mask tile; none when the handle is unloaded. Log entry 48: DEDUCED. -/
def ScreenCtx.mask (x : ScreenCtx) (h : Nat) (col row : Int) : Option Nat :=
  (assoc h x.masks).map fun t => nth t.data (modN row t.h * t.w + modN col t.w) 0

/-- The ramp of a zone. -/
def ramp (o x : Nat) : Nat := 256 * (o - x) / (o + 1)

/-- A zone keeps nozzle `i`: outside it, or as its mask says (R151). -/
def zoneKeeps (x : ScreenCtx) (width tile first : Nat) (right : Bool) (i : Nat) : Bool :=
  if width = 0 ∨ i < first ∨ first + width ≤ i then true
  else match x.mask tile (i - first) (x.nominal + x.bank.stitch.yOfs) with
    | none => true
    | some m => if right then decide (m < ramp width (i - first)) else decide (ramp width (i - first) ≤ m)

/-- Stage 6. A zone wider than the deckle begins at or below the deckle's first nozzle; nozzle numbers are shifted by 1,024 to hold it. -/
def stitchStage (x : ScreenCtx) (l : List Nat) : List Nat :=
  let st := x.bank.stitch
  let last := x.bank.lastEff x.nozzles
  l.mapIdx fun i v =>
    if zoneKeeps x st.leftWidth st.leftTile (x.bank.deckFirst + 1024) false (i + 1024) &&
        zoneKeeps x st.rightWidth st.rightTile (last + 1025 - st.rightWidth) true (i + 1024) then v else 0

/-- Stage 7. -/
def passStage (x : ScreenCtx) (l : List Nat) : List Nat :=
  let st := x.bank.stitch
  if !x.pass then l
  else l.mapIdx fun i v =>
    match x.mask st.passTile (x.column i + st.passX) (x.nominal + st.passY) with
    | none => v
    | some m => if m * st.passes / 256 = x.swath % max st.passes 1 then v else 0

/-- Stage 8. -/
def capStage (x : ScreenCtx) (l : List Nat) : List Nat := l.map fun v => min v x.bank.cap

/-! ### Stages 9 and 10 (R160, R162) -/

/-- The relative drop volume of a level. -/
def volAt (vol : List Nat) (i : Nat) : Int := (nth vol i 0 : Nat)

/-- The level from `lo` up to `hi` whose volume is nearest a target, the lower on a tie. -/
def nearest (vol : List Nat) (lo hi : Nat) (target : Int) : Nat :=
  (List.range (hi + 1 - lo)).foldl (fun b i =>
    if (volAt vol (lo + i) - target).natAbs < (volAt vol b - target).natAbs then lo + i else b) lo

/-- Offer the remaining volume to candidates in turn; the levels and what is left. -/
def offer (x : ScreenCtx) : List (Option Nat) → List Nat → Int → List Nat × Int
  | [], l, v => (l, v)
  | none :: t, l, v => offer x t l v
  | some j :: t, l, v =>
    if v ≤ 0 then (l, v)
    else
      let vol := x.bank.comp.vol
      let cur := nth l j 0
      let new := nearest vol cur (min x.bank.cap (topLevel x.depth)) (volAt vol cur + v)
      offer x t (l.set j new) (v - (volAt vol new - volAt vol cur))

/-- The candidates of an out nozzle in order. -/
def candidates (x : ScreenCtx) (o : Nat) : List (Option Nat) :=
  let even := x.nominal % 2 == 0
  x.bank.comp.reach.flatMap fun k => [x.side o k even, x.side o k !even]

/-- Stage 9 over a list of out nozzles; whether volume was lost. -/
def levelRun (x : ScreenCtx) : List Nat → List Nat → Bool → List Nat × Bool
  | [], l, lost => (l, lost)
  | o :: t, l, lost =>
    let r := offer x (candidates x o) l (volAt x.bank.comp.vol (nth l o 0))
    levelRun x t r.1 (lost || decide (0 < r.2))

/-- Stage 9. -/
def levelStage (x : ScreenCtx) (l : List Nat) : List Nat × Bool :=
  let os := (List.range l.length).filter fun i => nth x.outs i false
  levelRun x (if x.nominal % 2 = 0 then os else os.reverse) l false

/-- Stage 10. -/
def outStage (x : ScreenCtx) (l : List Nat) : List Nat := l.mapIdx fun i v => if nth x.outs i false then 0 else v

/-! ### All stages (R141) -/

/-- Stages 3 to 5, with whether a share was lost. -/
def contonePart (x : ScreenCtx) (l : List Nat) : List Nat × Bool :=
  let c := uniformStage x l
  if x.bank.comp.mode = 1 then (thresholdStage x (contoneStage x c), contoneLost x c) else (thresholdStage x c, false)

/-- Stages 6 to 10 of levels; `level` says whether stage 9 acts. -/
def levelPart (x : ScreenCtx) (level : Bool) (l : List Nat) : List Nat × Bool :=
  let c := capStage x (passStage x (stitchStage x l))
  let r := if level then levelStage x c else (c, false)
  (if x.bank.comp.mode = 0 then r.1 else outStage x r.1, r.2)

/-- The level codes of a line and whether redistribution lost anything. `form` 2 stands for LEVELS input. -/
def screenLine (x : ScreenCtx) (form : Nat) (l : List Nat) : List Nat × Bool :=
  let d := deckleStage x l
  let c := if form = 2 then (d, false) else contonePart x d
  let r := levelPart x (x.bank.comp.mode = 2 || (form == 2 && x.bank.comp.mode != 0)) c.1
  (r.1, c.2 || r.2)

/-- The port is in a job and may decode (R118). -/
def mayDecode (s : State) (p : Fin 32) : Bool :=
  match s.quireOf p with
  | some qi => ((s.quire qi).st = .armed || (s.quire qi).st.runs) && (s.quire qi).active.getLsbD p.1
  | none => false

/-! ### Screening (R123, R141, R163) -/

/-- What an image line of a port is screened under, given the bank that governs it. -/
def screenCtx (s : State) (q : Quire) (x : Port) (b : Bank) (j : Nat) : ScreenCtx :=
  { bank := b, nozzles := x.nozzles, depth := x.depth, nominal := q.nominal x j, pass := q.scan && b.stitch.passEn, swath := q.swathOrd + q.swathOf x j,
    outs := (List.range x.nozzles).map fun i => b.comp.isOut (x.merged b i), tile := if b.tile = 0 then none else assoc b.tile s.tiles,
    masks := s.masks }

/-- The line as the engine unpacks it (stage 1), and its form. -/
def unpack (x : Port) (l : ImgLine) : List Nat × Nat :=
  match l.levels with
  | some v => (v, 2)
  | none => if x.form = 2 then (levelsOf x.depth x.nozzles l.bytes, 2) else (contoneOf x.form x.nozzles l.bytes, x.form)

/-- A host BAND in THROUGH feed delivers this line when it is screened (R128). -/
def DataPath.throughLine (d : DataPath) (j : Nat) : Bool :=
  (d.descs.any fun x => x.kind == 1 && !x.staged && decide (x.startJ ≤ j) && decide ((j : Int) < x.endJ)) && !(d.kept.any fun l => l.j == j)

/-- Retain a decoded line until its nominal line has fired (R123). -/
def DataPath.keep (d : DataPath) (l : ImgLine) : List ImgLine :=
  if d.settled ≤ l.j then (if d.kept.any fun k => k.j == l.j then d.kept.map fun k => if k.j = l.j then l else k else d.kept ++ [l])
  else d.kept

/-- The next line of the queue is screened and enters the line store. A loss in redistribution counts in SAT_LINES once for each image line,
however often it is screened (R123, R163). -/
def lineScreen (p : Fin 32) (s : State) : State :=
  let x := s.port p
  match s.quireOf p, x.banks, x.dat.queue with
  | some qi, some bs, l :: rest =>
    let q := s.quire qi
    let b := bs.at_ (q.imageG x l.j)
    let c := screenCtx s q x b l.j
    let u := unpack x l
    let r := screenLine c u.2 u.1
    let out := ((List.range x.nozzles).filter fun i => b.inDeckle x.nozzles i && nth c.outs i false).length
    if !(mayDecode s p) then s
    else s.modPort p fun y => { y with
      win := { y.win with satLines := if r.2 && !l.sat then satAdd 16 y.win.satLines 1 else y.win.satLines },
      dat := { y.dat with
        queue := rest, kept := y.dat.keep { l with sat := l.sat || r.2 }, nozOut := out,
        store := y.dat.storeLine { j := l.j, nominal := c.nominal, codes := r.1, badW := [] },
        delivered := if y.dat.throughLine l.j then (s.clk, 1) :: y.dat.delivered.filter (fun e => decide (s.clk < e.1 + 10 * msPh))
          else y.dat.delivered } }
  | _, _, _ => s

/-- Screen again at once the lines `js` that a swap has just discarded, as far as they stand first in the queue. -/
def rescreenAt (s : State) (p : Fin 32) (js : List Nat) : State :=
  js.foldl (fun t j => match (t.port p).dat.queue with
    | l :: _ => if l.j = j then lineScreen p t else t
    | [] => t) s

/-- A swap at boundary `k` of a quire that prints. The discarded image lines that line `k` and the line after it need have deadlines
that pass no later than the swap (R132); they are screened again from their retained data at the swap itself (R15, R123).
Log entry 29: DEDUCED. -/
def swapPrinting (s : State) (qi : Fin 8) (k : Int) : State :=
  let near := fun (p : Fin 32) => ((s.port p).dat.store.filter fun l => l.nominal == k || l.nominal == k + (s.quire qi).dir).map (·.j)
  (s.activeOf qi).foldl (fun t p => rescreenAt t p (near p)) (swapQuire s qi k false)

end Sys2Proof.Machine
end

