-- ==== Sys2Proof/Machine/Taps.lean ====
section
/-! DEFINITION. The tap joint: fill levels, time-to-underrun and the other one-way copies of a port (01_architecture.md R25;
04_data_path.md R128, R129). -/

namespace Sys2Proof.Machine

/-- PW_FILL.LINES: screened image lines whose nominal line has not fired. -/
def DataPath.fillLines (d : DataPath) : Nat := (d.store.filter fun l => decide (d.settled ≤ l.j)).length

/-- Image lines that come out of the NRL bytes `bs`, as far as whole lines are at hand (R112). -/
def nrlLines : Nat → Bytes → Nat
  | 0, _ => 0
  | fuel + 1, bs =>
    let w := rdLE (bs.take 4)
    let count := bits w 23 0
    if bs.length < 4 then 0
    else if bits w 27 24 = 0 then
      let n := 4 + (count + 3) / 4 * 4
      if bs.length < 4 + count then 0 else 1 + nrlLines fuel (bs.drop n)
    else count + nrlLines fuel (bs.drop 4)

/-- Image lines of a band that are decoded or lie whole in its staged bytes; `len` is the bytes of a line (R115, R128). -/
def Desc.linesStaged (d : Desc) (nrl : Bool) (len : Nat) : Nat :=
  if d.staged || d.kind = 2 || d.broken then d.count
  else
    let rest := d.data.drop d.byteOfs
    min d.count (d.decoded + d.run + (if nrl then nrlLines d.lines rest else rest.length / max (up64 len) 1))

/-- Lines of a descriptor that wait in the page store. -/
def Desc.waiting (d : Desc) (nrl : Bool) (len : Nat) : Nat :=
  if d.kind = 1 ∨ d.kind = 2 then d.linesStaged nrl len - d.decoded else 0

/-- PW_PS_FILL: lines staged and not yet decoded, and the lines remaining in fetched FILLs; data that a test-pattern job has set aside
stays staged. -/
def Port.psLines (x : Port) : Nat :=
  (x.dat.descs ++ (match x.dat.stash with
    | some y => y.descs
    | none => [])).foldl (fun n d => n + d.waiting x.nrl x.lineLen) 0

/-- The fill U (R128). -/
def Port.fillU (x : Port) : Nat := (x.dat.fillLines - 64) + x.psLines

/-- Image lines fired in the last 250 ms. -/
def State.firedLately (s : State) (p : Fin 32) : Nat :=
  ((s.port p).dat.firedAt.filter fun t => decide (s.clk < t + 250 * msPh)).length

/-- The supply V in lines/s: lines delivered in the last 10 ms (R128). -/
def State.supplyV (s : State) (p : Fin 32) : Nat :=
  100 * (s.port p).dat.delivered.foldl (fun n e => if s.clk < e.1 + 10 * msPh then n + e.2 else n) 0

/-- TTU as a fraction in µs (R128, R129); none where PW_TTU reads 0xFFFF_FFFF by rule. -/
def State.ttu (s : State) (p : Fin 32) : Option (Nat × Nat) :=
  let d := (s.port p).dat
  match s.quireOf p with
  | none => none
  | some qi =>
    let q := s.quire qi
    if !q.st.runs || d.total.isSome || d.patOn then none
    else
      let speed := if q.st.fires then (s.source q.source).speed else 0
      let c : Nat := max speed (4 * s.firedLately p * q.pitch)
      some ((s.port p).fillU * 1000000 * q.pitch, max (c - s.supplyV p * q.pitch) (max q.pitch 1))

/-- TTU in whole µs, saturating. -/
def ttuUs : Option (Nat × Nat) → Nat
  | none => 0xFFFFFFFF
  | some (n, d) => min (n / d) 0xFFFFFFFF

/-- The value of a head sensor as PW_TEMP shows it. -/
def Sensor.shown (x : Sensor) : Int := x.value.getD noTemp

/-- Refresh a port's tap copies, as of one instant (R25). -/
def tapPort (s : State) (p : Fin 32) : State :=
  let t := ttuUs (s.ttu p)
  s.modPort p fun x => { x with nozTap := some (x.rvs, x.banks), win := { x.win with
    fill := min x.dat.fillLines 4095, psFill := min x.psLines 0xFFFFFFFF, ttu := t, demand := x.dat.demand, nozOut := x.dat.nozOut,
    tempT0 := x.therm.s0.shown, tempT1 := x.therm.s1.shown,
    line := match x.win.lastDue with
      | some k => BitVec.ofInt 32 k
      | none => x.win.line } }

end Sys2Proof.Machine
end

