-- ==== Sys2Proof/Machine/Fire.lean ====
section
/-! DEFINITION. Lines from due to drained: LINE_DUE, LINE_DECISION, HEAD_LATCH, PLAYBACK_START, PLAYBACK_END, SOS_EDGE, the arbiter's
rows, swaps and copies, and the ends of drains (03_fire_timing.md, 06_waveforms.md R176 to R190, 07_head_ports.md R200 to R206, R486). -/

namespace Sys2Proof.Machine

/-! ### Deadlines (R132, R133) -/

/-- The bank whose delays line `k` will go by at its deadline: with a swap pending for the next boundary, the shadow bank (R15, R124). -/
def Banks.ahead (b : Banks) (g : Int) : Bank := if b.pend && b.old.isNone then b.shadow else b.at_ g

/-- The deadline of line `k` passes on a port: an underrun starts, goes on or ends an episode (R132, R133), or sends the quire's STOP
for that line (R134); on a port whose image ring a host reset took away, a STOP with END_OF_DATA (R356). Log entry 33: DEDUCED.
Log entry 28: DEDUCED. -/
def deadline (s : State) (qi : Fin 8) (p : Fin 32) (k : Int) : State :=
  let q := s.quire qi
  let x := s.port p
  match x.banks, q.job with
  | some b, some j =>
    let miss := missing q x (b.ahead (q.lineG k)) (q.idx k)
    let s1 := s.modPort p fun y => { y with dat := { y.dat with miss := some (k, miss), ahead := false } }
    if miss.isEmpty then endEpisode s1 p
    else
      let s2 := if x.dat.under.isNone then
          raise (setPwEvent s1 p 0x20) evUnderrun kPort p.1 3 (le 8 (uns 64 k) ++ [if j.halt then 1 else 0])
        else s1
      if j.halt || x.dat.orphan then
        let cause := if x.dat.orphan then 1 else 8
        s2.modQuire qi fun y => { y with stopAt := if y.stopAt.contains (k, cause) then y.stopAt else (k, cause) :: y.stopAt }
      else
        let u := match x.dat.under with
          | none => (k, 1)
          | some (f, n) => if n = 0 then (k, 1) else (f, n + 1)
        let s3 := s2.modPort p fun y => { y with dat := { y.dat with under := some u } }
        if u.2 = 4096 then (endEpisode s3 p).modPort p fun y => { y with dat := { y.dat with under := some (k, 0) } } else s3
  | _, _ => s

/-- A swap at line `k` changes which image lines it needs: the list is drawn up again under the new delays, and an underrun that it
shows is reported as at the deadline (R124, R132). Log entry 33: DEDUCED. -/
def rejudge (s : State) (qi : Fin 8) (p : Fin 32) (k : Int) : State :=
  let q := s.quire qi
  let x := s.port p
  match x.banks, x.dat.miss with
  | some b, some (m, js) =>
    if m ≠ k then s
    else
      let now := missing q x (b.at_ (q.lineG k)) (q.idx k)
      if js.isEmpty && !now.isEmpty then deadline s qi p k
      else s.modPort p fun y => { y with dat := { y.dat with miss := some (k, now) } }
  | _, _ => s

/-- The first line of a port's job or swath has its deadline at the crossing of the boundary before it, and its stream begins then (R132,
R486); for a line that starts late, or whose boundary before was crossed when it was aimed, that is the moment it becomes due.
Log entry 33: DEDUCED. -/
def firstDeadline (s : State) (qi : Fin 8) (p : Fin 32) : State :=
  let x := s.port p
  let k := x.nextK
  let judged := match x.dat.miss with
    | some (m, _) => m == k
    | none => false
  if judged then s
  else
    let t := deadline s qi p k
    if x.link.next.isNone && (x.lines.all fun l => l.latched) then streamFirst t qi p k else t

/-! ### Link timing (R198, R200, R203, R486) -/

/-- Phases from the LATCH's first bit to its effect: start, type and payload bits, or one symbol (R201 to R203). -/
def Port.latchPh (x : Port) : Nat := x.wordPh 0

/-- E_p in phases, rounded up. -/
def Port.leadPh (x : Port) : Nat := ceilDiv x.eventLead 250

/-! ### A line becomes due (R79 to R83, R185, R186) -/

/-- What a line before the last swap still goes by (R17). -/
def Port.oldAt (x : Port) (g : Int) : Option OldBank :=
  match x.banks with
  | some b => b.oldAt g
  | none => none

/-- The temperature entry in use on a channel for line number `g` (R185). -/
def Port.entryAt (x : Port) (g : Int) (c : Chan) : Nat :=
  match x.oldAt g with
  | some o => if c = .a then o.entryA else o.entryB
  | none => (x.chan c).entry

/-- The head map bank for line number `g` (R206). -/
def Port.mapAt (x : Port) (g : Int) : Bool :=
  match x.oldAt g with
  | some o => o.mapBank
  | none => x.link.mapBank

/-- Set the temperature entry in use on a channel for line number `g`. -/
def Port.setEntry (x : Port) (g : Int) (c : Chan) (n : Nat) : Port :=
  if (x.oldAt g).isSome then
    { x with banks := x.banks.map fun b => { b with old := b.old.map fun (o : OldBank) =>
        if c = .a then { o with entryA := n } else { o with entryB := n } } }
  else x.modChan c fun z => { z with entry := n }

/-- A channel's temperature entry for line number `g` under its bank: T is read, the entry in use moves (R185). Log entry 35: DEDUCED. -/
def Port.readTemp (x : Port) (b : Bank) (g : Int) (c : Chan) : Port :=
  match x.tempFor (b.chan c).sensor with
  | some t => (x.setEntry g c (stepEntry (b.chan c) (x.entryAt g c) t)).modChan c fun z => { z with lastT := some t }
  | none => match (x.chan c).lastT with
    | some t => x.setEntry g c (stepEntry (b.chan c) (x.entryAt g c) t)
    | none => x.setEntry g c 0

/-- The gain of the entry in use; before any valid T, G0 of entry 0 (R184, R185). Log entry 35: DEDUCED. -/
def Port.gainFor (x : Port) (b : Bank) (g : Int) (c : Chan) : Nat :=
  match (x.chan c).lastT with
  | some t => gainOf (b.chan c).tcomp (x.entryAt g c) t
  | none => match (b.chan c).tcomp[0]? with
    | some e => e.g0
    | none => 0x4000

/-- The slot a channel plays for a line; none plays nothing (R174, R182). -/
def Port.slotFor (x : Port) (b : Bank) (g : Int) (c : Chan) (flyleaf : Bool) : Option Nat :=
  if flyleaf then (b.chan c).keepwet else ((b.chan c).tcomp[x.entryAt g c]?).map (·.slot)

/-- The groups of a channel that share an offset, as a mask. -/
def Bank.groupsAt (b : Bank) (c : Chan) (o : Int) : Nat :=
  (List.range 4).foldl (fun m g => m + bitAt (nth (b.offsets c) g 0 == o) g) 0

/-- The playbacks of a line on one channel, one for each distinct offset (R86, R176, R182). -/
def playsOf (x : Port) (b : Bank) (g : Int) (c : Chan) (flyleaf : Bool) (base : Int) : List Play :=
  match x.slotFor b g c flyleaf with
  | none => []
  | some slot =>
    match assoc slot (x.chan c).slots with
    | none => []
    | some w => (b.distinct c).map fun o =>
      { ch := c, groups := b.groupsAt c o, start := (base + o).toNat, slot := slot, segs := w.segs, samples := w.samples,
        gain := x.gainFor b g c, rank := (b.chan c).rankGain, phase := 0 }

/-- The line's own instants, given the instant it becomes due (R81 to R83, R20). Without a reference instant, while S is 0, it starts at
the earliest deliverable instant (R82). -/
def lineOf (s : State) (q : Quire) (x : Port) (b : Bank) (k : Int) (due : Nat) (streamEnd : Nat) : Line :=
  let ix := (q.idx k).toNat
  let g := q.lineG k
  let fly := decide (ix < q.fly)
  let ref := s.reference q k
  let base0 : Int := ref.getD due
  let os := b.frac.toList
  let first0 := base0 + os.foldl min (os.headD 0)
  let e := x.leadPh
  let earliest : Int := max (max ((due + 416 + e : Nat) : Int) (x.playEnd : Int)) ((streamEnd + 384 + e : Nat) : Int)
  let shift := if ref.isNone then earliest - first0 else max 0 (earliest - first0)
  let first := (first0 + shift).toNat
  let bits4 := if x.gen = 3 then 0 else x.bitsPh 4
  let miss := match x.dat.miss with
    | some (m, l) => if m = k then l else []
    | none => []
  { k := k, idx := ix, prevEnd := x.playEnd, mapBank := x.mapAt g, flyleaf := fly, down := q.down, cap := b.cap, first := first,
    latchAt := first - 384 - e, decideAt := first - max 160 bits4, late := decide (0 < shift) || ref.isNone, dec := none, latched := false,
    miss := miss, codes := match x.link.next with
      | some (m, cs) => if m = k then some cs else none
      | none => none,
    plays := playsOf x b g .a fly (base0 + shift) ++ playsOf x b g .b fly (base0 + shift), probe := none,
    img := (imageAt q x ix).map fun j => (j, decide (x.dat.dropped ≤ j) && !(miss.contains j)), windowAt := none }

/-- The line is committed on the port (R80). Its codes are at hand when its stream has begun; they come with the LATCH of the line before
otherwise, or now when a swap held that stream back (R486). -/
def commitLine (s : State) (qi : Fin 8) (p : Fin 32) (k : Int) (due : Nat) : State :=
  let q := s.quire qi
  let x0 := s.port p
  match x0.banks with
  | none => s
  | some bs =>
    let b := bs.at_ (q.lineG k)
    let x := (x0.readTemp b (q.lineG k) .a).readTemp b (q.lineG k) .b
    let l := lineOf s q x b k due x.link.streamEnd
    let next := l.latchAt + x.latchPh
    let s1 := s.modPort p fun _ => { x with
      lines := x.lines ++ [l], nextK := k + q.dir, playEnd := max x.playEnd l.playsEnd,
      link := { x.link with streamEnd := next + x.streamPh, blockLines := x.link.blockLines + 1, next := none },
      win := { x.win with lastDue := some k } }
    if l.codes.isNone && (x.lines.all fun m => m.latched) then streamLine s1 qi p k [] (x.link.streamEnd - x.streamPh) else s1

/-- The first line of a job or swath takes the quire and its ports to printing (R99, R215). -/
def startPrinting (s : State) (qi : Fin 8) (k : Int) : State :=
  let q := s.quire qi
  let st : QState := if q.idx k < q.fly then .flyleaf else .printing
  let s1 := s.modQuire qi fun y => { y with running := true, st := if q.st.fires then y.st else st }
  if q.running then s1
  else (s1.activeOf qi).foldl (fun t r => if (t.port r).st = .armed then portTo t r .printing 0 else t) s1

/-- The furthest next boundary among the ports of a job: the first that has become due on none of them. -/
def State.furthest (s : State) (qi : Fin 8) : Int :=
  let q := s.quire qi
  match s.activeOf qi with
  | [] => s.quireNext qi
  | p :: ps => ps.foldl (fun m r => if q.down then min m (s.port r).nextK else max m (s.port r).nextK) (s.port p).nextK

/-- The quire may draw its next line on the port. -/
def mayFire (q : Quire) (x : Port) (src : Source) (p : Fin 32) : Bool :=
  (q.st.fires || q.st = .armed || (q.st = .suspended && q.scan)) && q.active.getLsbD p.1 && x.st.inJob && src.trackDir = q.down &&
  (!q.scan || (q.gate && decide (q.idx x.nextK < (q.fly + q.swath : Nat))))

/-- The earliest instant at which the engine detects a crossing that an edge has brought about at once: 56 ns after the edge, 316 ns
under FILTERED (the pin-to-fire table of 03_fire_timing.md). Log entry 32: DEDUCED. -/
def State.detectAt (s : State) (n : Fin 16) : Nat :=
  if n.1 < 4 then
    match (s.source n).edges.head? with
    | some e => e.1 + (if (s.source n).cfg.filtered then 1264 else 224)
    | none => 0
  else 0

/-- The instant at which a line whose fire point is crossed at `t` becomes due. A crossing that the last edge itself brings about (its
count reaches the tracked position 40 ns after the edge, 300 ns under FILTERED) is detected at `detectAt`; one that the interpolation
reaches later is due at the crossing. Log entry 32: DEDUCED. -/
def State.dueInstant (s : State) (n : Fin 16) (t : Nat) : Nat :=
  if n.1 < 4 then
    match (s.source n).edges.head? with
    | some e => if t ≤ e.1 + (if (s.source n).cfg.filtered then 1200 else 160) then max t (s.detectAt n) else t
    | none => t
  else t

/-- What happens when the next line of a port becomes due, at the present instant. At the boundary of a STOP no line comes, and the STOP
acts once every line before it has been decided on every port (R89). Live registers that waited for the boundary change here (R18).
Log entry 33: DEDUCED. -/
def lineComes (s : State) (qi : Fin 8) (p : Fin 32) (k : Int) : State :=
  let s1 := if s.furthest qi = k then (s.activeOf qi).foldl (fun t r => rejudge t qi r k) (swapPrinting s qi k) else s
  let s2 := boundaryMonitor (liveControl (liftGone s1 p) p) p k
  let s3 := firstDeadline s2 qi p
  let q := s3.quire qi
  let stops := (q.stopAt.filter fun e => e.1 == k).map (·.2)
  if !stops.isEmpty then tapPort (if allPast s3 qi (k - q.dir) then stopWith s3 qi stops else s3) p
  else tapPort (deadline (startPrinting (commitLine s3 qi p k s3.clk) qi k) qi p (k + q.dir)) p

/-- The tracked position has crossed, or now crosses, the boundary before the port's first line: that line's deadline passes (R132).
Log entry 33: DEDUCED. -/
def crossFirst (s : State) (p : Fin 32) : State :=
  match s.quireOf p with
  | none => s
  | some qi =>
    let q := s.quire qi
    let x := s.port p
    if !x.dat.ahead || !(mayFire q x (s.source q.source) p) then s
    else match s.crossing q (s.leadPs q p) (x.nextK - q.dir) with
      | some t => if t ≤ s.clk then firstDeadline s qi p else s
      | none => s

/-- The next line of a port becomes due (R80): the tracked position reaches its fire point, now or as the interpolation runs on. -/
def lineDue (p : Fin 32) (s : State) : State :=
  match s.quireOf p with
  | none => s
  | some qi =>
    let q := s.quire qi
    let x := s.port p
    if !(mayFire q x (s.source q.source) p) then s
    else match s.crossing q (s.leadPs q p) x.nextK with
      | none => crossFirst s p
      | some t =>
        let s1 := if x.dat.ahead then (match s.crossing q (s.leadPs q p) (x.nextK - q.dir) with
          | some t0 => firstDeadline (s.advanceTo (s.dueInstant q.source t0)) qi p
          | none => s) else s
        lineComes (s1.advanceTo (s.dueInstant q.source t)) qi p x.nextK

/-! ### Decision, latch, playbacks -/

/-- The decision instant of the port's first undecided line (R20, R84). -/
def lineDecision (p : Fin 32) (s : State) : State :=
  match (s.port p).lines.find? fun l => l.dec.isNone with
  | none => s
  | some l =>
    let s1 := decideOne (s.advanceTo l.decideAt) p l
    afterLine (chooseProbe s1 p l.k) p l

/-- The line after boundary k lies in the job or in the swath, and no swap is to change it first. -/
def streams (q : Quire) (x : Port) (k : Int) : Bool :=
  (!q.scan || decide (q.idx (k + q.dir) < (q.span : Nat))) && (match x.banks with
    | some b => !b.pend
    | none => false)

/-- The LATCH of the port's first unlatched line moves its codes into the head (R203, R205). The codes of the next line are gathered as it
takes effect, and their stream begins; line-store words found uncorrectable then read as level 0 (R125, R486). -/
def headLatch (p : Fin 32) (badWords : List Nat) (s : State) : State :=
  match (s.port p).lines.find? fun l => !l.latched with
  | none => s
  | some l =>
    let s1 := latchWord (s.advanceTo l.latchAt) p l.mapBank l.latchAt
    let s2 := match s1.quireOf p with
      | none => s1
      | some qi =>
        if streams (s1.quire qi) (s1.port p) l.k then
          streamLine s1 qi p (l.k + (s1.quire qi).dir) badWords (l.latchAt + (s1.port p).latchPh)
        else s1
    s2.modPort p fun x => Port.dropOver { x with
      lines := x.lines.map (fun m => if m.k = l.k then { m with latched := true } else m),
      link := { x.link with headPend := l.codes.getD (List.replicate x.nozzles 0), latchK := some l.k } }

/-- A scaled sample (R185). -/
def scale (x : Int) (gain rank : Nat) : Int := clampI (-32768) 32767 (Int.fdiv (x * gain * rank + 2 ^ 27) (2 ^ 28))

/-- The stored samples of a slot. -/
def Channel.samplesOf (c : Channel) (slot : Nat) : List Int :=
  match assoc slot c.slots with
  | some w => (List.range w.samples).map fun i => (assoc (w.start + i) c.mem).getD 0
  | none => []

/-- The filtered output of a playback: the interpolator at its phase over eight neighbouring samples (R177). -/
def filteredOut (phase : Fin 20) (ys : List Int) : List Int :=
  (List.range (ys.length + 8)).map fun i =>
    Config.fracFilter phase ((List.range 8).map fun t => if t ≤ i then nth ys (i - t) 0 else 0)

/-- The segment words of a playback (R203). -/
def segWords (s : State) (p : Fin 32) (c : Chan) (start : Nat) : List (Nat × Nat) → State
  | [] => s
  | (_, to_) :: (f2, t2) :: t =>
    if to_ = f2 then segWords (headWord s p c 4 0 0 (start + 20 * to_)) p c start ((f2, t2) :: t)
    else segWords (headWord (headWord s p c 3 0 0 (start + 20 * to_)) p c 2 0 0 (start + 20 * f2)) p c start ((f2, t2) :: t)
  | [(_, to_)] => headWord s p c 3 0 0 (start + 20 * to_)

/-- Set the phase of one playback of a line. -/
def setPlay (s : State) (p : Fin 32) (k : Int) (c : Chan) (start phase : Nat) : State :=
  s.modPort p fun x => Port.dropOver { x with lines := x.lines.map fun l =>
    if l.k = k then { l with plays := l.plays.map fun q => if q.ch = c ∧ q.start = start then { q with phase := phase } else q } else l }

/-- The waiting or running playback of a channel with the earliest start. -/
def firstPlay (x : Port) (c : Chan) (phase : Nat) : Option (Line × Play) :=
  x.lines.foldl (fun m l => l.plays.foldl (fun m q =>
    if q.ch = c ∧ q.phase = phase then
      match m with
      | some (l0, q0) => if q.start < q0.start then some (l, q) else some (l0, q0)
      | none => some (l, q)
    else m) m) none

/-- Playbacks that have not started never will. -/
def dropPlays (s : State) (p : Fin 32) : State :=
  s.modPort p fun x => Port.dropOver { x with lines := x.lines.map fun l =>
    { l with plays := l.plays.map fun q => if q.phase = 0 then { q with phase := 2 } else q } }

/-- The sense switch after an event on a channel: closed on the probed nozzle from the end of the line's last playback on the nozzle's
channel until the next PLAY there (R207). -/
def senseSwitch (s : State) (p : Fin 32) (c : Chan) (l : Option Line) : State :=
  s.modPort p fun x => { x with link := { x.link with sense := match l with
    | none => match x.link.sense with
      | some i => if x.nozChan i = c then none else some i
      | none => none
    | some l => match l.probe with
      | some (i, _) => if x.nozChan i = c && (l.plays.all fun q => q.ch != c || q.phase == 2) then some i else x.link.sense
      | none => x.link.sense } }

/-- An uncorrectable word in a playback: the channel is cut, the port faults, the other channel ends its playback (R189, R190). -/
def waveFault (s : State) (p : Fin 32) (c : Chan) : State :=
  let s1 := (dropPlays s p).emit (.cut p.1 c)
  let s2 := s1.modPort p fun x => Port.dropOver { x with lines := x.lines.map fun l =>
    { l with plays := l.plays.map fun q => if q.ch = c then { q with phase := 2 } else q } }
  portFault s2 p 4

/-- A sample of channel memory is known to be uncorrectable (R190). -/
def Channel.damage (z : Channel) (i : Nat) : Channel := { z with hurt := i :: z.hurt.filter (· != i) }

/-- The first uncorrectable sample of a slot, counted from its first sample: its first one where the playback has just found that, or one
known from before (R190). -/
def Channel.firstHurt (z : Channel) (slot : Nat) (now : Bool) : Option Nat :=
  match assoc slot z.slots with
  | none => none
  | some w => if now then some 0
    else ((z.hurt.filter fun i => decide (w.start ≤ i ∧ i < w.start + w.samples)).map (· - w.start)).min?

/-- The PLAY of a fired line reaches the head, and the channel plays (R177 to R182, R203). A playback that meets an uncorrectable sample ends
before it with a cut; one known from before stops every playback until the slot is reloaded (R189, R190). Log entry 12: DESIGN CHOICE.
Log entry 76: DEDUCED. -/
def startPlay (s : State) (p : Fin 32) (c : Chan) (l : Line) (q : Play) (cap : Nat) (eccBad : Bool) : State :=
    let x := s.port p
    let z := x.chan c
    let bad := z.firstHurt q.slot eccBad
    let code := if l.flyleaf then 8 else cap
    let s1 := headWord (senseSwitch s p c none) p c 1 code q.groups q.start
    let s2 := match q.segs with
      | [] => s1
      | (f, t) :: rest => segWords (headWord s1 p c 2 0 0 (q.start + 20 * f)) p c q.start ((f, t) :: rest)
    let ys := (match bad with
      | some i => (z.samplesOf q.slot).take i
      | none => z.samplesOf q.slot).map fun y => scale y q.gain q.rank
    let ph := finOf 20 (by decide) q.start
    let s3 := (setPlay s2 p l.k c q.start 1).modPort p fun y =>
      (fun (z : Port) => { z with link := { z.link with headActive := z.link.headPend } })
        (y.modChan c fun z => { z with lastGain := q.gain })
    let s4 := s3.emit (.play p.1 c q.groups q.slot q.start (filteredOut ph ys) ph)
    match bad with
    | none => s4
    | some i => waveFault (s4.modPort p fun y => y.modChan c fun z => match assoc q.slot z.slots with
      | some w => z.damage (w.start + i)
      | none => z) p c

/-- A start instant of the channel comes (R177). -/
def playbackStart (p : Fin 32) (c : Chan) (eccBad : Bool) (s : State) : State :=
  match firstPlay (s.port p) c 0 with
  | none => s
  | some (l, q) =>
    let s1 := s.advanceTo q.start
    match l.dec with
    | some (.fire cap) => startPlay s1 p c l q cap eccBad
    | some .suppress => s1
    | none =>
      let s2 := lineDecision p s1
      match (s2.port p).lines.find? fun m => m.k == l.k with
      | some m => match m.dec with
        | some (.fire cap) => startPlay s2 p c m q cap eccBad
        | some .suppress | none => s2
      | none => s2

/-- The channel's running playback ends (R178). -/
def playbackEnd (p : Fin 32) (c : Chan) (s : State) : State :=
  match firstPlay (s.port p) c 1 with
  | none => s
  | some (l, q) =>
    let s1 := s.advanceTo (q.start + (q.samples + 8) * 20)
    let s2 := setPlay (flushWords s1 p s1.clk none) p l.k c q.start 2
    senseSwitch s2 p c ((s2.port p).lines.find? fun m => m.k == l.k)

/-- A capture ends on the port (R231, R234). -/
def probeCaptureEnd (p : Fin 32) (samples : List Int) (s : State) : State :=
  match (s.port p).lines.find? fun l => l.probe.isSome && l.dec.isSome && l.plays.all fun q => q.phase == 2 with
  | none => s
  | some l => match l.probe with
    | none => s
    | some (i, k) => captureEnd s p l i k samples

/-! ### Start of scan (R93) -/

/-- A quire waits for swaths gated by this input. -/
def Quire.gatedBy (q : Quire) (i : Fin 4) : Bool :=
  q.scan && q.st.stoppable && (match q.job with
    | some j => j.sosFwd == i.1 || j.sosRev == i.1
    | none => false)

/-- Whether an edge meets R93 for a quire. -/
def sosFits (s : State) (q : Quire) (i : Fin 4) (rising : Bool) (held : Nat) : Bool :=
  let o := look s.sos i
  let pos := s.trackedNow q.source
  o.enable && (rising != o.falling) && decide (o.filter * 4 ≤ held) &&
  (match o.last with
    | some t => decide (t + o.holdoff * 4 ≤ s.clk)
    | none => true) &&
  decide (0 ≤ posDiff pos (o.winLo.setWidth 56)) && decide (0 ≤ posDiff (o.winHi.setWidth 56) pos) &&
  (s.source q.source).trackDir = q.down && q.sosIn = some i.1

/-- One quire's answer to an edge of an SOS input; accepted, refused, or none of its business. -/
def sosQuire (s : State) (qi : Fin 8) (i : Fin 4) (rising : Bool) (held : Nat) : State :=
  let q := s.quire qi
  if !(q.gatedBy i) then s
  else if sosFits s q i rising held then
    let pos := s.trackedNow q.source
    let s1 := s.modQuire qi fun x => { x with sosPos := pos.signExtend 64, sosTb := BitVec.ofNat 64 s.ns }
    if !q.gate && (q.st = .armed || q.st = .suspended) then openGate s1 qi else s1
  else s.modQuire qi fun x => { x with cnt := { x.cnt with sosRejected := satAdd 8 x.cnt.sosRejected 1 } }

/-- An edge of an SOS input that held for `held` phases. -/
def sosEdge (i : Fin 4) (rising : Bool) (held : Nat) (s : State) : State :=
  let hit := (idx 8).any fun q => (s.quire q).gatedBy i && sosFits s (s.quire q) i rising held
  let s1 := forAll s fun (t : State) (q : Fin 8) => if (s.quire q).gatedBy i then sosQuire t q i rising held else t
  if hit then { s1 with sos := upd s1.sos i fun o => { o with last := some s.clk } } else s1

/-! ### Meanings of the rows -/

/-- LINE_DUE (R80). -/
def execLineDue (p : Fin 32) (s : State) : Host.Outcome State Fault Refusal := .next (lineDue p s)

/-- LINE_DECISION (R20). -/
def execLineDecision (p : Fin 32) (s : State) : Host.Outcome State Fault Refusal := .next (lineDecision p s)

/-- HEAD_LATCH (R203). -/
def execHeadLatch (p : Fin 32) (badWords : List Nat) (s : State) : Host.Outcome State Fault Refusal := .next (headLatch p badWords s)

/-- PLAYBACK_START (R177). -/
def execPlaybackStart (p : Fin 32) (c : Chan) (eccBad : Bool) (s : State) : Host.Outcome State Fault Refusal :=
  .next (playbackStart p c eccBad s)

/-- PLAYBACK_END (R178). -/
def execPlaybackEnd (p : Fin 32) (c : Chan) (s : State) : Host.Outcome State Fault Refusal := .next (playbackEnd p c s)

/-- PROBE_CAPTURE_END (R234). -/
def execProbeCaptureEnd (p : Fin 32) (samples : List Int) (s : State) : Host.Outcome State Fault Refusal :=
  .next (probeCaptureEnd p samples s)

/-- SOS_EDGE (R93). -/
def execSosEdge (i : Fin 4) (rising : Bool) (held : Nat) (s : State) : Host.Outcome State Fault Refusal := .next (sosEdge i rising held s)

/-- ARBITER_REQUEST (R19). -/
def execArbiterRequest (src : ReqSource) (sc : ReqScope) (k : ReqKind) (s : State) : Host.Outcome State Fault Refusal :=
  .next (request s src sc k)

/-- ARBITER_WITHDRAW (R21). -/
def execArbiterWithdraw (src : ReqSource) (sc : ReqScope) (s : State) : Host.Outcome State Fault Refusal := .next (withdraw s src sc)

/-- BANK_SWAP (R15): at the quire's next boundary, which is the first that is due on none of its ports. In SUSPENDED the boundary is the
one on which the quire resumes. -/
def execBankSwap (q : Fin 8) (s : State) : Host.Outcome State Fault Refusal :=
  .next (if (s.quire q).st = .suspended then s else swapPrinting s q (s.furthest q))

/-- SHADOW_COPY (R17): once every image line of the old bank is screened or discarded. -/
def execShadowCopy (p : Fin 32) (s : State) : Host.Outcome State Fault Refusal :=
  .next (match (s.port p).banks with
    | some b => match b.old with
      | some o => if copyReady s p o.from_ then copyShadow s p else s
      | none => s
    | none => s)

/-- QUIRE_DRAIN_END (R99): every port's last playback has ended and the links are idle. -/
def execQuireDrainEnd (q : Fin 8) (s : State) : Host.Outcome State Fault Refusal :=
  let busy := (s.portsOf q).filter fun p => (s.port p).st.busy
  .next (if (s.quire q).st = .stopping && busy.all fun p => drained s p then
      quireLeaves (s.advanceTo (busy.foldl (fun m p => max m (drainAt s p)) 0)) q
    else s)

/-- PORT_DRAIN_END (R215). -/
def execPortDrainEnd (p : Fin 32) (s : State) : Host.Outcome State Fault Refusal :=
  .next (if drained s p then portIdle (s.advanceTo (drainAt s p)) p (match s.quireOf p with
    | some q => (s.quire q).purge
    | none => false) else s)

end Sys2Proof.Machine
end

