-- ==== Sys2Proof/Machine/Records.lean ====
section
/-! DEFINITION. What result records have in common: the checks of their address (R350, R441), positions and speeds as record fields
(R5), and the snapshot of a position source (R74, R76). -/

namespace Sys2Proof.Machine

/-- The checks of the address of a record or read-out of `len` bytes, in the order of R371. -/
def addrChecks (s : State) (h : CmdHdr) (addr len : Nat) : List (Bool × Nat) :=
  [(beyond s h addr len, stRange), (misaddr h addr, stAlign)]

/-- A position in its 64-bit field: signed Q48.8 (R5, R52). -/
def posQ (v : Pos) : Bytes := bytesOf 8 (v.signExtend 64)

/-- A signed number in `n` bytes. -/
def leI (n : Nat) (v : Int) : Bytes := le n (uns (8 * n) v)

/-- Bytes of a record from `n`-byte numbers. -/
def recBytes (l : List (Nat × Nat)) : Bytes := l.flatMap fun e => le e.1 e.2

/-- A command with a result record: it writes the record before the completion (R348); a dry run writes nothing (R367). -/
def reportCmd (op : Nat) (h : CmdHdr) (p : Params) (s : State) (fields : List (Nat × Nat)) (checks : List (Bool × Nat)) (addr : Nat)
    (data : State → Bytes) (res : State → Nat) : State :=
  command op h p s fields checks (fun t => complete t h stOk (res t))
    (fun t => complete (writeOut t h addr (data t)) h (outSt t h) (res t))

/-- A class I command that acts at once and returns nothing. -/
def plainCmd (op : Nat) (h : CmdHdr) (p : Params) (s : State) (fields : List (Nat × Nat)) (checks : List (Bool × Nat))
    (act : State → State) : State :=
  command op h p s fields checks (fun t => complete t h stOk 0) (fun t => complete (act t) h stOk 0)

/-- A class T command that first reads `len` bytes of host data; a dry run reads and checks them too (R367, R372). -/
def readCmd (op : Nat) (h : CmdHdr) (p : Params) (s : State) (fields : List (Nat × Nat)) (checks : List (Bool × Nat)) (addr len : Nat)
    (ns : Bool) : State :=
  command op h p s fields checks (fun t => beginRead t op h p addr len ns) (fun t => beginRead t op h p addr len ns)

/-- The host data of a command has arrived: the first failing check ends it, a dry run ends it with OK, else it acts. -/
def dataDone (s : State) (e : Exec) (checks : List (Bool × Nat)) (dryRes : Nat) (act : State → State) : State :=
  match firstBad checks with
  | 0 => if isDry e.h then endExec s e stOk dryRes else act s
  | st + 1 => endExec s e (st + 1) 0

/-- An executing command changes. -/
def State.modExec (s : State) (id : Nat) (f : Exec → Exec) : State :=
  { s with execs := s.execs.map fun x => if x.id = id then f x else x }

/-- An executing command writes its output and completes with OK; output above 256 bytes is a transfer of its own, during which the
command keeps its RESULT (R372). -/
def finishWrite (s : State) (e : Exec) (addr : Nat) (data : Bytes) (res : Nat) : State :=
  let s1 := writeOut s e.h addr data
  if data.length ≤ 256 || noHost s1 e.h then endExec s1 e (outSt s e.h) res
  else s1.modExec e.id fun x => { x with wait := .dma, data := le 8 res, need := 0, acks := pieceCount data.length }

/-- A read-out of `len` bytes: at once as a record, or as a transfer (R348, R372). -/
def readOut (op : Nat) (h : CmdHdr) (p : Params) (s : State) (addr : Nat) (data : Bytes) : State :=
  if data.length ≤ 256 || noHost s h then complete (writeOut s h addr data) h (outSt s h) 0 else beginWrite s op h p addr data

/-- The same with a RESULT. -/
def reportOut (op : Nat) (h : CmdHdr) (p : Params) (s : State) (addr : Nat) (data : Bytes) (res : Nat) : State :=
  if data.length ≤ 256 || noHost s h then complete (writeOut s h addr data) h (outSt s h) res
  else (beginWrite s op h p addr data).modExec s.nextId fun x => { x with data := le 8 res }

/-- The values of a source, all of one instant (R74, R76). Log entry 27: DESIGN CHOICE. -/
def State.snap (s : State) (n : Fin 16) : Snapshot :=
  let x := s.source n
  { raw := x.raw.signExtend 64, mark := x.mark.signExtend 64, tracked := (s.trackedNow n).signExtend 64,
    speed := BitVec.ofNat 64 x.speed, tb := BitVec.ofNat 64 s.ns }

/-- The interpolated position of a source sits at its clamp. -/
def State.clampedNow (s : State) (n : Fin 16) : Bool := (s.source n).clamped (s.srcTime n)

/-- A quire bound to the source is beyond BOUND (R75, R77, R314). -/
def State.srcBusy (s : State) (n : Fin 16) : Bool := (s.boundTo n).any fun q => (s.quire q).st.beyond

/-- The port lies outside the part or the layout (R220). -/
def portBad (s : State) (p : Nat) : Bool := !(s.portIn p)

/-- A port of the mask lies outside the part or the layout, or above 7 in a SCAN quire. -/
def badPorts (s : State) (mask : Nat) (scan : Bool) : Bool :=
  (List.range 32).any fun i => mask.testBit i && (!(s.portIn i) || (scan && decide (7 < i)))

end Sys2Proof.Machine
end

