-- ==== Sys2Proof/Machine/Jobs.lean ====
section
/-! DEFINITION. Jobs: JOB_DEFINE, JOB_ARM, JOB_STOP, JOB_ABORT, JOB_QUERY, SOS_CONFIG, DEMAND_CONFIG, TABLE_COMMIT, FIRE_OFFSET_SET and
the compare, late-window, offset and cap registers of the port windows (03_fire_timing.md R87 to R90, R101 to R107; 04_data_path.md
R136; 05_screening.md R143, R155, R173). -/

namespace Sys2Proof.Machine

/-! ### Compares (R88, R89) -/

/-- Boundary e lies within the swath in progress or the next swath. -/
def Quire.inSwath (q : Quire) (e : Int) : Bool := decide (0 ≤ q.idx e) && decide (q.idx e < (q.fly + q.swath : Nat))

/-- A stop compare is set in place of an earlier one (R89): reached already, it stops the quire at its next boundary; else it waits. A HALT
that waits for a line stays. Log entry 28: DEDUCED. -/
def evalStop (s : State) (qi : Fin 8) (e : Int) : State :=
  let q := s.quire qi
  let s1 := s.modQuire qi fun x => { x with cmpStop := e, stopAt := x.stopAt.filter fun w => w.2 != 2 }
  let waits := s1.modQuire qi fun x => { x with stopAt := (e, 2) :: x.stopAt }
  if e = noCompare then s1
  else if q.scan then
    if q.inSwath e && decide (q.dir * (e - s.quireNext qi) ≤ 0) then stopQuire s1 qi 2 else waits
  else if e ≤ s.quireNext qi then stopQuire s1 qi 2
  else waits

/-- The job's line 0 is moved to boundary b: ports, image lines and the compare follow (R88). -/
def aimAt (s : State) (qi : Fin 8) (b : Int) : State :=
  let s1 := s.modQuire qi fun q => { q with cmpStart := b, anchor := b }
  aimFirst ((s1.activeOf qi).foldl (fun t p => t.modPort p fun x => { x with
    nextK := b, link := { x.link with next := x.link.next.map fun c => (b, c.2) },
    dat := { x.dat with miss := none, store := x.dat.store.map fun l => { l with nominal := (s1.quire qi).nominal x l.j } } }) s1) qi

/-- A register write re-aims the start compare of an ARMED quire (R88, R90). -/
def reaim (s : State) (qi : Fin 8) (b : Int) : State :=
  let q := s.quire qi
  let n := s.behindBy qi b
  if n ≤ 0 then aimAt s qi b
  else if n ≤ q.lateWin then lateStartEvent (startLate (aimAt s qi b) qi n.toNat) qi stOkLate 0 n b
  else lateStartEvent s qi stCompareBehind 0 n b

/-! ### JOB_DEFINE (R101) -/

/-- An SOS input field outside 0 to 3 and 0xFF. -/
def badSos (v : Nat) : Bool := decide (3 < v) && v != 0xFF

/-- The stored job. -/
def jobOf (p : Params) : Job :=
  let f := fld p 9 1
  { through := bit f 0, halt := bit f 1, stopPort := bit f 2, bidir := bit f 3, truncStop := bit f 4, flyleaf := fld p 10 2,
    maxRate := fld p 12 4, flight := fld p 16 4, policy := fld p 20 1, sosFwd := fld p 21 1, sosRev := fld p 22 1,
    swathLines := fld p 24 4, swaths := fld p 28 4, firstFwd := sfld p 32 8, firstRev := sfld p 40 8,
    jobId := BitVec.ofNat 32 (fld p 48 4) }

/-- JOB_DEFINE. -/
def jobDefine (h : CmdHdr) (p : Params) (s : State) : State :=
  let n := quireNo (fld p 8 1)
  let st := (s.quire n).st
  plainCmd 0x0401 h p s
    [(8, 1), (9, 1), (10, 2), (12, 4), (16, 4), (20, 1), (21, 1), (22, 1), (24, 4), (28, 4), (32, 8), (40, 8), (48, 4)]
    [(rsv (fld p 9 1) 0x1F || decide (2 < fld p 20 1), stBadParam),
     (decide (7 < fld p 8 1) || out (fld p 12 4) 1 250000 || decide (1000000000 < fld p 16 4) || badSos (fld p 21 1) || badSos (fld p 22 1) ||
       decide (16777215 < fld p 24 4), stRange),
     (decide (st ≠ .unbound ∧ st ≠ .bound), stBadState)]
    (fun t => t.modQuire n fun q => { q with job := some (jobOf p) })

/-! ### JOB_ARM (R102) -/

/-- The job's fields fit the quire's pacing (R101). -/
def paceFits (q : Quire) (j : Job) : Bool :=
  if q.scan then j.swathLines != 0 && (j.bidir || (j.firstRev == 0 && j.sosRev == 0xFF))
  else !j.bidir && !j.truncStop && j.swathLines == 0 && j.swaths == 0 && j.firstFwd == 0 && j.firstRev == 0 && j.sosFwd == 0xFF &&
    j.sosRev == 0xFF

/-- The job names an SOS input that is not enabled. -/
def sosOff (s : State) (j : Job) : Bool :=
  [j.sosFwd, j.sosRev].any fun i => match toFin? 4 i with
    | some k => !(look s.sos k).enable
    | none => false

/-- A stop compare that R89 refuses. -/
def stopRefused (q : Quire) (j : Job) (start e : Int) : Bool :=
  if q.scan then
    let n : Int := (j.flyleaf + j.swathLines : Nat)
    !((decide (0 ≤ e - j.firstFwd) && decide (e - j.firstFwd < n)) ||
      (j.bidir && decide (0 ≤ j.firstRev - e) && decide (j.firstRev - e < n)))
  else decide (e ≤ start)

/-- A faulty sensor without a substitute in effect (R270, R273). -/
def Sensor.lost (x : Sensor) : Bool := x.faulty && x.value.isNone

/-- The highest value of a head's sensors (R261). -/
def Port.highest (x : Port) : Option Int :=
  match x.therm.s0.value, x.therm.s1.value with
  | some a, some b => some (max a b)
  | some a, none => some a
  | none, b => b

/-- The port's head counts as at or above `T_LIMIT` (R264). -/
def headHot (s : State) (p : Fin 32) : Bool :=
  let x := s.port p
  s.th.limitStop || x.therm.s0.lost || x.therm.s1.lost ||
  (match x.profile, x.highest with
    | some f, some t => decide (f.tLimit ≤ t)
    | _, _ => false)

/-- Nozzle-lines per second admitted over every port in ARMED or PRINTING (R38). -/
def State.admitted (s : State) : Nat :=
  (idx 32).foldl (fun n p => if (s.port p).st.inJob then n + (s.port p).nozzles * (s.rateOf p).getD 0 else n) 0

/-- Framing bits per line (R198). -/
def framing (gen : Nat) : Nat := if gen = 1 then 4 else if gen = 2 then 192 else 3072

/-- The payload rate of a port's four lanes in bit/s (R198). -/
def Port.payload (x : Port) : Nat :=
  match x.cfg with
  | some c => if x.gen = 3 then 4 * c.laneRate * 800000 else 4 * c.laneRate * 1000000
  | none => 0

/-- R38 for the ports of a quire at a line rate. -/
def overCapacity (s : State) (ps : List (Fin 32)) (rate : Nat) : Bool :=
  (ps.any fun p => let x := s.port p
    decide (s.portCap < x.nozzles * rate) || decide ((if x.depth = 3 then 160000 else 250000) < rate)) ||
  decide (s.aggregateCap s.postureEff < s.admitted + ps.foldl (fun n p => n + (s.port p).nozzles * rate) 0)

/-- The head interface limit (R199). -/
def overLink (s : State) (ps : List (Fin 32)) (rate : Nat) : Bool :=
  ps.any fun p => let x := s.port p
    decide (x.payload < x.nozzles * x.depth * rate + framing x.gen * rate)

/-- The requests that stand when a quire reaches ARMED: STOP_N held low, the interlock, the press-state timeout (R320, R321, R325).
Log entry 63: DEDUCED. -/
def standing (s : State) (qi : Fin 8) : State :=
  let policy := match (s.quire qi).job with
    | some j => j.policy
    | none => 0
  let press := fun (t : State) (on : Bool) (src : ReqSource) =>
    if !on || !(t.quire qi).st.beyond then t
    else if policy = 1 then request t src (.quire qi) .inhibit
    else if policy = 2 then stopQuire t qi 9
    else t
  let s1 := press (press s s.press.interlock .interlock) s.press.timeout .pressTimeout
  if s.press.stopLow then stopQuire s1 qi 11 else s1

/-- A job with a test pattern sets the port's own image data aside (R390). -/
def DataPath.armed (d : DataPath) : DataPath :=
  match d.pattern with
  | none => d
  | some x => { d with base := 0, patOn := true, stash := some { descs := d.descs, nextJ := d.nextJ, endJ := d.endJ, total := d.total, prevLine := d.prevLine, queue := d.queue }, descs := [], nextJ := 0, endJ := 0,
                       total := some x.lines, prevLine := none, queue := [] }

/-- The registers of a port that a successful JOB_ARM sets (R118, R126, R163, R216, R219). -/
def armPort (s : State) (p : Fin 32) (anchor : Int) : State :=
  portTo (s.modPort p fun x => { x with
    nextK := anchor, playEnd := s.clk,
    link := { (x.link.newBlock s.clk) with streamEnd := s.clk, latchK := none, next := none },
    win := { x.win with lastDue := none, satLines := 0,
                        event := if x.win.armClear then x.win.event &&& BitVec.ofNat 12 0xE07 else x.win.event },
    rvs := { x.rvs with passes := 0, passAt := 0 },
    dat := { x.dat.armed with miss := none, ahead := false, spent := false } }) p .armed 0

/-- Ports whose live tables hold an uncorrectable word, or select a damaged tile, stop at the first boundary (R144). Log entry 20: DEDUCED. -/
def damagedPorts (s : State) (qi : Fin 8) : State :=
  (s.activeOf qi).foldl (fun t p => match (t.port p).banks with
    | some b => if b.hurt.isEmpty && (t.hurtTiles b.live).isEmpty then t else stopPort t p 15
    | none => t) s

/-- JOB_ARM acts: the job starts on boundary `b`, `n` lines late, with stop compare `e`. -/
def armQuire (s : State) (qi : Fin 8) (b : Int) (n : Nat) (e : Int) : State :=
  let q := s.quire qi
  let down := q.scan && q.bidir && (s.source q.source).trackDir
  let anchor := if q.scan then q.firstOf down else b
  let nx := s.quireNext qi
  let s1 := s.modQuire qi fun x => { x with
    st := .armed, cause := 0, active := x.ports, down := down, anchor := anchor, cmpStart := b, cmpStop := e, next := nx, cnt := .reset,
    running := false, gate := false, started := false, swathOrd := 0, tallyF := [], tallyL := [], tallyI := [],
    stopAt := [], causes := [], stopSwath := false, purge := false, abort := false, lateStart := false }
  let s2 := (s1.portsOf qi).foldl (fun t p => armPort (swapPort t p 0 anchor) p anchor) s1
  let s3 := aimFirst (streamFlyleaf s2 qi) qi
  let s4 := evalStop (if n = 0 then s3 else startLate s3 qi n) qi e
  damagedPorts (standing (openFree s4 qi) qi) qi

/-- JOB_ARM. -/
def jobArm (h : CmdHdr) (p : Params) (s : State) : State :=
  let f := fld p 9 1
  let qi := quireNo (fld p 8 1)
  let q := s.quire qi
  let ps := s.portsOf qi
  let j := q.job.getD (jobOf 0)
  let valid := bit f 0
  let atNext := bit f 1
  let start := if atNext then s.quireNext qi else sfld p 16 8
  let e := sfld p 24 8
  let x := s.source q.source
  let n := if q.scan then 0 else s.behindBy qi start
  let late := decide (0 < n)
  let res := if late then n.toNat else 0
  command 0x0402 h p s [(8, 1), (9, 1), (16, 8), (24, 8)]
    [(rsv f 0x03 || (atNext && fld p 16 8 != 0) || (!valid && fld p 24 8 != 0), stBadParam),
     (decide (7 < fld p 8 1), stRange),
     (decide (q.st ≠ .bound) || q.job.isNone || (ps.any fun r => (s.port r).st != .idle) || (!j.through && s.page.st != .ready), stBadState),
     (!(paceFits q j) || (q.scan && (atNext || fld p 16 8 != 0)) || (valid && stopRefused q j start e) || sosOff s j, stBadParam),
     (decide (x.st = .disabled ∨ x.st = .acquiring ∨ x.st = .fault) || s.srcBi q.source != q.scan, stPosFault),
     (ps.any (headHot s), stTempInhibit),
     (overCapacity s ps j.maxRate, stCapacity), (overLink s ps j.maxRate, stLinkLimit),
     (ps.any fun r => !((s.port r).fits86 (some j.maxRate)), stRange), (ps.any fun r => (s.port r).poisoned, stPortFault),
     (decide ((q.lateWin : Int) < n), stCompareBehind)]
    (fun t => complete t h (if late then stOkLate else stOk) res)
    (fun t => complete (armQuire t qi start n.toNat (if valid then e else noCompare)) h (if late then stOkLate else stOk) res)

/-! ### JOB_STOP, JOB_ABORT, JOB_QUERY (R103 to R105) -/

/-- JOB_STOP acts. -/
def stopJob (s : State) (qi : Fin 8) (mode : Nat) (line : Int) : State :=
  if mode = 0 then stopQuire (s.modQuire qi fun q => { q with cmpStop := noCompare }) qi 3
  else if mode = 1 then evalStop s qi line
  else (evalStop s qi noCompare).modQuire qi fun q => { q with stopSwath := true }

/-- JOB_STOP: it completes when the quire leaves STOPPING. -/
def jobStop (h : CmdHdr) (p : Params) (s : State) : State :=
  let qi := quireNo (fld p 8 1)
  let mode := fld p 9 1
  let q := s.quire qi
  command 0x0403 h p s [(8, 1), (9, 1), (16, 8)]
    [(decide (2 < mode) || (mode != 1 && fld p 16 8 != 0), stBadParam), (decide (7 < fld p 8 1), stRange),
     (!q.st.stoppable, stBadState), (mode == 2 && !q.scan, stBadParam)]
    (fun t => complete t h stOk 0)
    (fun t => stopJob (beginExec t 0x0403 h p .drain 0) qi mode (sfld p 16 8))

/-- JOB_ABORT, or an abort on PERST_N, acts while a job exists: a STOP with cause `cause`, and the image data goes (R104, R127). In
STOPPING the quire will go on to BOUND whatever its cause. -/
def abortJob (s : State) (qi : Fin 8) (cause : Nat) : State :=
  if (s.quire qi).st.stoppable then stopQuire (s.modQuire qi fun q => { q with purge := true, abort := true }) qi cause
  else if (s.quire qi).st = .stopping then s.modQuire qi fun q => { q with abort := true }
  else s

/-- JOB_ABORT. -/
def jobAbort (h : CmdHdr) (p : Params) (s : State) : State :=
  let qi := quireNo (fld p 8 1)
  let q := s.quire qi
  command 0x0404 h p s [(8, 1)] [(decide (7 < fld p 8 1), stRange), (decide (q.st = .unbound), stBadState)]
    (fun t => complete t h stOk (if q.st = .bound ∨ q.st = .fault then q.cnt.fired else 0))
    (fun t =>
      if q.st = .bound ∨ q.st = .fault then complete (faultEdge (t.modQuire qi fun x => { x with st := .bound })) h stOk q.cnt.fired
      else abortJob (beginExec t 0x0404 h p .drain 0) qi 4)

/-- The record of JOB_QUERY. -/
def jobRecord (s : State) (qi : Fin 8) : Bytes :=
  let q := s.quire qi
  let feed := match q.job with
    | some j => j.through
    | none => false
  let id := match q.job with
    | some j => j.jobId.toNat
    | none => 0
  recBytes [(1, q.st.code), (1, q.cause), (1, bitAt q.scan 0 + bitAt q.down 1 + bitAt feed 2 + bitAt q.lateStart 3),
    (1, s.arbReq qi + 16 * s.arbCap qi), (4, id), (8, uns 64 (s.quireNext qi)), (8, uns 64 q.cmpStart), (8, uns 64 q.cmpStop),
    (8, q.cnt.fired), (4, q.cnt.late), (4, q.cnt.skipped), (4, q.cnt.inhibited), (2, q.cnt.completed), (2, q.cnt.truncated),
    (4, q.active.toNat), (4, 0)]

/-- JOB_QUERY. -/
def jobQuery (h : CmdHdr) (p : Params) (s : State) : State :=
  let qi := quireNo (fld p 8 1)
  let addr := fld p 16 8
  reportCmd 0x0405 h p s [(8, 1), (16, 8)] ((decide (7 < fld p 8 1), stRange) :: addrChecks s h addr 64) addr
    (fun t => jobRecord t qi) (fun t => (t.quire qi).st.code + 256 * (t.quire qi).cause)

/-! ### SOS_CONFIG, DEMAND_CONFIG (R106, R136) -/

/-- A SCAN quire beyond BOUND whose job names the input. -/
def sosInUse (s : State) (i : Nat) : Bool :=
  (idx 8).any fun q => (s.quire q).scan && (s.quire q).st.beyond && (match (s.quire q).job with
    | some j => j.sosFwd == i || j.sosRev == i
    | none => false)

/-- SOS_CONFIG. -/
def sosConfig (h : CmdHdr) (p : Params) (s : State) : State :=
  let i := fld p 8 1
  let lo := BitVec.ofNat 64 (fld p 16 8)
  let hi := BitVec.ofNat 64 (fld p 24 8)
  plainCmd 0x0305 h p s [(8, 1), (9, 1), (10, 2), (12, 4), (16, 8), (24, 8)]
    [(rsv (fld p 9 1) 0x03, stBadParam),
     (decide (3 < i) || out (fld p 10 2) 10 10000 || decide (4000000000 < fld p 12 4) ||
       decide (posDiff (hi.setWidth 56) (lo.setWidth 56) < 0), stRange),
     (sosInUse s i, stBadState)]
    (fun t => { t with sos := upd t.sos (finOf 4 (by decide) i) fun o =>
      { o with enable := bit (fld p 9 1) 0, falling := bit (fld p 9 1) 1, filter := fld p 10 2, holdoff := fld p 12 4, winLo := lo, winHi := hi } })

/-- DEMAND_CONFIG. -/
def demandConfig (h : CmdHdr) (p : Params) (s : State) : State :=
  let qi := quireNo (fld p 8 1)
  plainCmd 0x0406 h p s [(8, 1), (9, 1), (10, 2), (12, 4), (16, 4), (20, 4), (24, 8)]
    [(rsv (fld p 9 1) 0x01, stBadParam),
     (decide (7 < fld p 8 1) || out (fld p 12 4) 1000 60000000 || decide (fld p 12 4 ≤ fld p 16 4) || decide (2 ^ 48 ≤ fld p 24 8), stRange),
     (decide ((s.quire qi).st = .unbound), stBadState)]
    (fun t => t.modQuire qi fun q => { q with dem :=
      { exclude := bit (fld p 9 1) 0, floor := fld p 10 2, warn := fld p 12 4, crit := fld p 16 4, quota := fld p 20 4, fullSpeed := fld p 24 8 } })

/-! ### TABLE_COMMIT (R15, R16, R143, R173) -/

/-- The port's quire is FLYLEAF, PRINTING or SUSPENDED. -/
def State.portRuns (s : State) (p : Fin 32) : Bool :=
  match s.quireOf p with
  | some q => (s.quire q).st.runs
  | none => false

/-- The commit of a mask of ports: those whose quire does not run swap at once, the others at their quire's next boundary. -/
def commitPorts (s : State) (mask : Nat) : State :=
  let ps := portsIn mask
  let now := ps.filter fun p => !(s.portRuns p)
  let later := ps.filter s.portRuns
  let s1 := now.foldl (fun t p => swapPort t p 0 (match t.quireOf p with
    | some q => (t.quire q).cmpStart
    | none => 0)) s
  let s2 := later.foldl (fun t p => t.modBanks p fun b => { b with pend := true }) s1
  commitDone s2 (now.foldl (fun m p => m + 2 ^ p.1) 0) (-1)

/-- TABLE_COMMIT. -/
def tableCommit (h : CmdHdr) (p : Params) (s : State) : State :=
  let mask := fld p 8 4
  let ps := portsIn mask
  let low := match ps.find? s.portRuns with
    | some r => r.1
    | none => 32
  command 0x0407 h p s [(8, 4)]
    [(badPorts s mask false || commitRange s ps, stRange), (ps.any fun r => (s.port r).st == .closed, stBadState), (mask == 0, stBadParam),
     (commitPoison s ps, stPortFault)]
    (fun t => complete t h stOk (if ps.any t.portRuns then 0 else 2 ^ 64 - 1))
    (fun t => commitPorts (beginExec t 0x0407 h p (.swap (BitVec.ofNat 32 mask) 0 none low) 0) mask)

/-! ### FIRE_OFFSET_SET (R107) -/

/-- FIRE_OFFSET_SET. -/
def fireOffsetSet (h : CmdHdr) (p : Params) (s : State) : State :=
  let r := portNo (fld p 8 1)
  command 0x0504 h p s [(8, 1), (9, 1), (12, 16)]
    [((List.range 8).any fun i => !(bit (fld p 9 1) i) && fld p (12 + 2 * i) 2 != 0, stBadParam), (portBad s (fld p 8 1), stRange),
     (decide ((s.port r).st = .closed), stBadState)]
    (fun t => complete t h stOk 0) (fun t => shadowNow t r 0x0504 h p)

/-! ### Port-window registers of TIME (R85, R90, R155, R218, R219) -/

/-- The port number a window selects. -/
def State.psel (s : State) (w : Win) : Nat :=
  match w with
  | .a => s.glb.pselA.toNat
  | .b => s.glb.pselB.toNat

def State.bcastOn (s : State) (w : Win) : Bool :=
  match w with
  | .a => s.glb.bcastA
  | .b => s.glb.bcastB

/-- The port a window shows; none for a fused-off port (R218). -/
def State.winPort (s : State) (w : Win) : Option (Fin 32) := if s.psel w < s.partPorts then toFin? 32 (s.psel w) else none

/-- The ports that a window's write reaches (R218). -/
def State.winTargets (s : State) (w : Win) : List (Fin 32) :=
  match s.winPort w with
  | none => []
  | some p => if s.bcastOn w then (idx 32).filter fun r => (s.port r).st != .closed else [p]

/-- The quire that a compare or late-window write through the window reaches: none without a quire, and none with BCAST (R90). -/
def State.winQuire (s : State) (w : Win) : Option (Fin 8) :=
  if s.bcastOn w then none
  else match s.winPort w with
    | some p => s.quireOf p
    | none => none

/-- A compare write in a state that does not allow it (R90). -/
def cmpIgnored (s : State) (qi : Fin 8) : State := s.modQuire qi fun q => { q with event := q.event ||| 32 }

/-- The low half of a compare is staged in its window. -/
def pwCmpLow (w : Win) (c : CmpSel) (v : U32) (s : State) : State :=
  if (s.winQuire w).isNone then s
  else { s with glb := match w, c with
    | .a, .start => { s.glb with stageAStart := v }
    | .a, .stop => { s.glb with stageAStop := v }
    | .b, .start => { s.glb with stageBStart := v }
    | .b, .stop => { s.glb with stageBStop := v } }

/-- The compare that a high half completes. -/
def State.staged (s : State) (w : Win) (c : CmpSel) (v : U32) : Int :=
  let lo := match w, c with
    | .a, .start => s.glb.stageAStart
    | .a, .stop => s.glb.stageAStop
    | .b, .start => s.glb.stageBStart
    | .b, .stop => s.glb.stageBStop
  sgn 64 (v.toNat * 2 ^ 32 + lo.toNat)

/-- The high half of the start compare. The re-aim of R90 is a CLOCKED quire's; an ARMED SCAN quire ignores the write with CMP_IGNORED. Log entry
96: DEDUCED. -/
def pwCmpStartHigh (w : Win) (v : U32) (s : State) : State :=
  match s.winQuire w with
  | none => s
  | some qi =>
    let q := s.quire qi
    if q.st = .armed && !q.scan then reaim s qi (s.staged w .start v) else cmpIgnored s qi

/-- The high half of the stop compare. -/
def pwCmpStopHigh (w : Win) (v : U32) (s : State) : State :=
  match s.winQuire w with
  | none => s
  | some qi => if (s.quire qi).st.stoppable then evalStop s qi (s.staged w .stop v) else cmpIgnored s qi

/-- The late-start window. -/
def pwLateWin (w : Win) (v : U32) (s : State) : State :=
  match s.winQuire w with
  | none => s
  | some qi => s.modQuire qi fun q => { q with lateWin := v.toNat % 65536 }

/-- A shadowed register is written through a window; a write that R17 holds lands at the copy. -/
def pwShadow (w : Win) (off : Nat) (v : U32) (s : State) : State :=
  (s.winTargets w).foldl (fun t p =>
    if (t.port p).st = .closed then t
    else if shadowHeld t p 0 then t.modBanks p fun b => { b with heldW := b.heldW ++ [.reg off v] }
    else applyReg t p off v) s

/-! ### Meanings of the rows -/

/-- JOB_DEFINE (R101). -/
def execJobDefine (h : CmdHdr) (p : Params) (s : State) : Host.Outcome State Fault Refusal := .next (jobDefine h p s)

/-- JOB_ARM (R102). -/
def execJobArm (h : CmdHdr) (p : Params) (s : State) : Host.Outcome State Fault Refusal := .next (jobArm h p s)

/-- JOB_STOP (R103). -/
def execJobStop (h : CmdHdr) (p : Params) (s : State) : Host.Outcome State Fault Refusal := .next (jobStop h p s)

/-- JOB_ABORT (R104). -/
def execJobAbort (h : CmdHdr) (p : Params) (s : State) : Host.Outcome State Fault Refusal := .next (jobAbort h p s)

/-- JOB_QUERY (R105). -/
def execJobQuery (h : CmdHdr) (p : Params) (s : State) : Host.Outcome State Fault Refusal := .next (jobQuery h p s)

/-- SOS_CONFIG (R106). -/
def execSosConfig (h : CmdHdr) (p : Params) (s : State) : Host.Outcome State Fault Refusal := .next (sosConfig h p s)

/-- DEMAND_CONFIG (R136). -/
def execDemandConfig (h : CmdHdr) (p : Params) (s : State) : Host.Outcome State Fault Refusal := .next (demandConfig h p s)

/-- TABLE_COMMIT (R173). -/
def execTableCommit (h : CmdHdr) (p : Params) (s : State) : Host.Outcome State Fault Refusal := .next (tableCommit h p s)

/-- FIRE_OFFSET_SET (R107). -/
def execFireOffsetSet (h : CmdHdr) (p : Params) (s : State) : Host.Outcome State Fault Refusal := .next (fireOffsetSet h p s)

/-- PW_CMP_LOW_WRITE (R90). -/
def execPwCmpLowWrite (w : Win) (c : CmpSel) (v : U32) (s : State) : Host.Outcome State Fault Refusal := .next (pwCmpLow w c v s)

/-- PW_CMP_START_HIGH_WRITE (R90). -/
def execPwCmpStartHighWrite (w : Win) (v : U32) (s : State) : Host.Outcome State Fault Refusal := .next (pwCmpStartHigh w v s)

/-- PW_CMP_STOP_HIGH_WRITE (R90). -/
def execPwCmpStopHighWrite (w : Win) (v : U32) (s : State) : Host.Outcome State Fault Refusal := .next (pwCmpStopHigh w v s)

/-- PW_LATE_WIN_WRITE (R90). -/
def execPwLateWinWrite (w : Win) (v : U32) (s : State) : Host.Outcome State Fault Refusal := .next (pwLateWin w v s)

/-- PW_FRAC_OFS_WRITE (R85). -/
def execPwFracOfsWrite (w : Win) (i : Fin 8) (v : U32) (s : State) : Host.Outcome State Fault Refusal :=
  .next (pwShadow w (0x60 + 4 * i.1) v s)

/-- PW_LEVEL_CAP_WRITE (R155). -/
def execPwLevelCapWrite (w : Win) (v : U32) (s : State) : Host.Outcome State Fault Refusal := .next (pwShadow w 0x44 v s)

end Sys2Proof.Machine
end

