-- ==== Sys2Proof/Machine/Nrl.lean ====
section
/-! DEFINITION. The band decoder: NRL line headers and tokens, and lines without NRL (04_data_path.md R111 to R114). -/

namespace Sys2Proof.Machine

/-- Expand the tokens of a payload to exactly `left` bytes; none where they do not fit or run past the payload (R113, R114). -/
def tokens : Nat → Nat → Bytes → Option Bytes
  | _, left, [] => if left = 0 then some [] else none
  | 0, _, _ :: _ => none
  | fuel + 1, left, t :: rest =>
    if t.toNat < 0x80 then
      let n := t.toNat + 1
      if left < n ∨ rest.length < n then none else (tokens fuel (left - n) (rest.drop n)).map (rest.take n ++ ·)
    else
      let n := t.toNat - 0x80 + 3
      match rest with
      | [] => none
      | b :: more => if left < n then none else (tokens fuel (left - n) more).map (List.replicate n b ++ ·)

/-- What the decoder makes of the next line of a band. -/
inductive Decoded where
  /-- more of the band's bytes are needed -/
  | more
  /-- a decode error -/
  | bad
  /-- a line, the bytes it used, the lines its header still produces, and whether those repeat it -/
  | line (bytes : Bytes) (used run : Nat) (repeats : Bool)
  deriving DecidableEq, Repr

/-- Decode the next line of a band: `src` holds its bytes from here on, of which `left` bytes lie before LENGTH; `lines` image lines are
still to come in the band or repeat. -/
def decodeNext (nrl : Bool) (len : Nat) (src : Bytes) (left lines : Nat) (prev : Option Bytes) : Decoded :=
  if !nrl then
    if left < up64 len then .bad else if src.length < up64 len then .more else .line (src.take len) (up64 len) 0 false
  else if left < 4 then .bad
  else if src.length < 4 then .more
  else
    let w := rdLE (src.take 4)
    let count := bits w 23 0
    if bits w 31 28 ≠ 0 ∨ 2 < bits w 27 24 ∨ count = 0 then .bad
    else if bits w 27 24 = 0 then
      if left < 4 + count then .bad
      else if src.length < 4 + count then .more
      else match tokens count len ((src.drop 4).take count) with
        | some l => .line l (4 + (count + 3) / 4 * 4) 0 false
        | none => .bad
    else if lines < count then .bad
    else if bits w 27 24 = 1 then .line (zeros len) 4 (count - 1) false
    else match prev with
      | some l => .line l 4 (count - 1) true
      | none => .bad

end Sys2Proof.Machine
end

