-- ==== Sys2Proof/Machine/Data.lean ====
section
/-! DEFINITION. The image data path: descriptors fetched and checked, bands staged, lines decoded and screened, descriptors retired, tap
copies refreshed (04_data_path.md R108 to R118, R121, R123, R126, R127; 05_screening.md R141, R163). -/

namespace Sys2Proof.Machine

/-! ### The page store's blocks (R120) -/

/-- Usable blocks of 2 MiB. -/
def PageStore.usable (g : PageStore) : Nat := g.gib * 480

/-- Blocks in regions. -/
def PageStore.inRegions (g : PageStore) : Nat := g.regions.foldl (fun n r => n + r.2.blocks) 0

/-- Staged blocks of every port. -/
def State.stagedBlocks (s : State) : Nat := (idx 32).foldl (fun n p => n + (s.port p).dat.staged) 0

/-- Free blocks of the staging pool. -/
def State.freeBlocks (s : State) : Nat := s.page.usable - s.page.inRegions - s.stagedBlocks

/-- Bytes of a region. -/
def Region.size (r : Region) : Nat := r.blocks * 0x200000

/-! ### Uncorrectable words (R378, R455) -/

/-- An uncorrectable word is counted. -/
def countUncorr (s : State) : State := { s with bg := { s.bg with uncorr := sat32 s.bg.uncorr 1 } }

/-- SYS_SCRUB_UNCORR (R378). -/
def scrubEvent (s : State) (mem : Nat) (p : Option (Fin 32)) (ch slot : Nat) (addr : Nat) : State :=
  let who := match p with
    | some r => r.1
    | none => 0xFF
  raise (countUncorr s) evScrubUncorr (if p.isSome then kPort else kDevice) (if p.isSome then who else 0) 3
    ([BitVec.ofNat 8 mem, BitVec.ofNat 8 who, BitVec.ofNat 8 ch, BitVec.ofNat 8 slot, 0, 0, 0, 0] ++ le 8 addr)

/-- Damage that has not been reported yet is noted and acted on. Log entry 76: DEDUCED. -/
def reportOnce (s : State) (key : Nat × Nat × Nat) (act : State → State) : State :=
  if s.bg.reported.contains key then s else act { s with bg := { s.bg with reported := key :: s.bg.reported } }

/-- An uncorrectable page-store word is counted in PAGE_QUERY too. -/
def pageDamage (s : State) (addr : Nat) : State :=
  scrubEvent { s with page := { s.page with uncorr := satAdd 64 s.page.uncorr 1 } } 2 none 0xFF 0xFF addr

/-- An uncorrectable word of a region stays as it is. -/
def regionDamage (s : State) (handle ofs addr : Nat) : State :=
  match assoc handle s.page.regions with
  | none => s
  | some r =>
    if r.bad.contains ofs then s
    else
      let new : Region := { r with bad := ofs :: r.bad }
      pageDamage { s with page := { s.page with regions := assocSet handle new s.page.regions } } addr

/-! ### Descriptors (R108, R109) -/

/-- The bits of an entry that are neither CATCHWORD nor a field of the type. -/
def descReserved (typ : Nat) (e : BitVec 256) : Bool :=
  let field := fun (o n : Nat) => (2 ^ (8 * n) - 1) * 2 ^ (8 * o)
  let base := field 0 1 + field 3 1 + field 4 2 + (if typ = 1 then 3 else 2) * 256
  let more := if typ = 1 then field 8 4 + field 12 4 + field 16 8
    else if typ = 2 then field 8 4 + field 12 4 + field 16 2 + field 20 4 + field 24 4
    else 0
  rsv e.toNat (base + more)

/-- The descriptor an entry spells, beginning at image line `j`. -/
def descOf (e : BitVec 256) (j : Int) : Desc :=
  let f := fun (o n : Nat) => e.toNat / 2 ^ (8 * o) % 2 ^ (8 * n)
  let typ := f 0 1
  { kind := typ, ns := bit (f 1 1) 0, notify := bit (f 1 1) 1, tag := BitVec.ofNat 16 (f 4 2), lines := f 8 4, len := f 12 4,
    addr := if typ = 1 then f 16 8 else 0, region := if typ = 2 then f 16 2 else 0, ofs := if typ = 2 then f 20 4 else 0,
    reps := if typ = 2 then f 24 4 else 1, startJ := j, decoded := 0, byteOfs := 0, run := 0, runRep := false, broken := false,
    staged := false, retired := false, ringless := false, starts := [], firedN := 0, lostN := 0, data := [] }

/-- What is wrong with a descriptor: 0 nothing, else the status that halts the ring (R109). Log entry 46: DEDUCED. -/
def descBad (s : State) (x : Port) (e : BitVec 256) : Nat :=
  let d := descOf e 0
  let typed := d.kind == 1 || d.kind == 2
  firstBad
    [(d.kind == 0 || decide (3 < d.kind) || descReserved d.kind e, stBadParam),
     (typed && (d.addr % 64 != 0 || d.ofs % 64 != 0 || d.len % 64 != 0), stAlign),
     (typed && (out d.lines 1 16777215 || out d.len 64 0x4000000 || out d.reps 1 0xFFFFFFFF ||
       (!x.nrl && d.len != d.lines * up64 x.lineLen)), stBadParam),
     (d.kind == 2 && (match assoc d.region s.page.regions with
       | some r => decide (r.size < d.ofs + d.len)
       | none => true), stBadParam)]

/-- The ring engine fetches the port's ring in this state (R118). -/
def mayFetch (s : State) (p : Fin 32) : Bool :=
  let x := s.port p
  x.st != .closed && x.dat.total.isNone && !x.dat.patOn && decide ((x.dat.descs.filter fun d => !d.retired).length < 8) &&
  (match s.quireOf p with
    | none => false
    | some qi =>
      let q := s.quire qi
      ((q.st = .armed || q.st.runs) && q.active.getLsbD p.1) ||
      (q.st = .bound && (match q.job with
        | some j => !j.through
        | none => false)))

/-- A descriptor that fails its check: a completion whatever NOTIFY says, and the ring halts; the entry is consumed in ring order
(R109, R351). -/
def descFails (s : State) (p : Fin 32) (e : BitVec 256) (st : Nat) : State :=
  let r := ringNo p.1
  let d := descOf e 0
  let s1 := writeCpl s r d.tag.toNat st s.sp.nodeId 0 false
  let s2 := haltRing s1 r st
  retireReady (s2.modPort p fun x => { x with dat := { x.dat with
    descs := x.dat.descs ++ [{ d with kind := 0, notify := false, lines := 0, reps := 1, startJ := x.dat.settled }] } }) p

/-- A MARK is known: lines beyond it do not exist, and a port whose last line has fired has consumed it (R122). -/
def markKnown (s : State) (p : Fin 32) : State :=
  match s.quireOf p with
  | none => s
  | some qi =>
    let q := s.quire qi
    let x := s.port p
    if !q.st.runs then s
    else
      let next := match x.lines.find? fun l => l.dec.isNone with
        | some l => l.k
        | none => x.nextK
      let s1 := consumeMark s qi p (q.lineG next - 1)
      let all := (s1.activeOf qi).all fun r => (s1.port r).dat.consumed
      if all && (!q.scan || q.st = .suspended) then stopQuire s1 qi 1 else s1

/-- A fetched descriptor joins the port's list. -/
def descTaken (s : State) (p : Fin 32) (e : BitVec 256) : State :=
  let x := s.port p
  let d0 := descOf e x.dat.endJ
  let d : Desc := { d0 with lostN := (min d0.endJ (x.dat.dropped : Int) - d0.startJ).toNat }
  let s1 := s.modPort p fun x => { x with dat := { x.dat with
    descs := x.dat.descs ++ [d], endJ := d.endJ, orphan := false, total := if d.kind = 3 then some d.startJ.toNat else x.dat.total } }
  retireReady (if d.kind = 3 then markKnown s1 p else s1) p

/-- A purged descriptor: it retires ABORTED; a MARK ends the purge (R127). Log entry 41: DEDUCED. -/
def descPurged (s : State) (p : Fin 32) (e : BitVec 256) : State :=
  let d := descOf e 0
  retireOne (s.modPort p fun x => { x with dat := { x.dat with purge := if d.kind = 3 then 0 else x.dat.purge - 1 } }) p d stAborted 0

/-- What follows an accepted descriptor. -/
def descGot (s : State) (p : Fin 32) (e : BitVec 256) : State :=
  if (s.port p).dat.purge ≠ 0 then descPurged s p e
  else
    let st := descBad s (s.port p) e
    if st ≠ 0 then descFails s p e st else descTaken s p e

/-- An accepted entry gets a completion at once: a descriptor that fails, or a purged one with NOTIFY. -/
def answersNow (s : State) (p : Fin 32) (e : BitVec 256) : Bool :=
  if (s.port p).dat.purge ≠ 0 then (descOf e 0).notify else descBad s (s.port p) e != 0

/-- The engine takes the posted descriptors that a purge covers (R127), from a halted ring too: the halt consumed the entry that caused
it (R351). A STALE ring's next entry is not visible (R345). Log entry 41: DEDUCED. -/
def mayPurge (s : State) (p : Fin 32) : Bool :=
  let g := s.ring (ringNo p.1)
  (s.port p).dat.purge != 0 && (s.port p).dat.owed.isEmpty && g.posted != 0 && !s.link.d3hot && (g.st == .active || (g.st == .halted && g.haltCode != stStale))

/-- Read the next image descriptor, whose entry is `e`. An entry that is answered at once waits for a completion slot (R343). -/
def descRead (s : State) (p : Fin 32) (e : BitVec 256) : State :=
  let r := ringNo p.1
  if ((mayRead s r && mayFetch s p) || mayPurge s p) && (!(answersNow s p e) || cplRoom s r 1) then
    match readEntry s r (entryCw e) with
    | .wait t => t
    | .got t => descGot t p e
  else s

/-- A descriptor is fetched; while further reads of an entry are outstanding, those come first (R345). -/
def imageDescFetch (p : Fin 32) (e : BitVec 256) (s : State) : State :=
  if (s.ring (ringNo p.1)).rereads = 0 then descRead s p e else s

/-! ### Staging (R115) -/

/-- The quire of a port feeds through the page store. -/
def State.buffered (s : State) (p : Fin 32) : Bool :=
  match s.quireOf p with
  | none => false
  | some qi => match (s.quire qi).job with
    | some j => !j.through
    | none => false

/-- Blocks that the port may still stage: what the pool has free, within the port's quota (R115). Log entry 43: DEDUCED. -/
def stageRoom (s : State) (p : Fin 32) : Nat :=
  let quota := match s.quireOf p with
    | some qi => (s.quire qi).dem.quota
    | none => 0
  if quota = 0 then s.freeBlocks else min s.freeBlocks (quota - (s.port p).dat.staged)

/-- Data of the first BAND not staged yet is copied into the page store, as far as there are blocks; the band is staged when all of it is
(R115). In D3hot nothing is read (R337). Log entry 43: DEDUCED. -/
def bandStaged (p : Fin 32) (data : Bytes) (s : State) : State :=
  let x := s.port p
  match x.dat.descs.find? fun d => d.kind == 1 && !d.staged with
  | none => s
  | some b =>
    let got := b.data.length
    let n := min (b.len - got) (stageRoom s p * 0x200000)
    if s.buffered p && s.page.st = .ready && !s.link.d3hot && n != 0 then
      let b1 : Desc := { b with staged := decide (b.len ≤ got + n), data := b.data ++ (padTo n data).take n }
      let lines := b1.linesStaged x.nrl x.lineLen - b.linesStaged x.nrl x.lineLen
      let descs := x.dat.descs.map fun d => if d.kind = 1 ∧ d.startJ = b.startJ then b1 else d
      retireReady (((forgetDamage s (64 + p.1)).bandRead p.1 (b.addr + got) n b.ns).modPort p fun y => { y with dat := { y.dat with
        descs := descs, delivered := (s.clk, lines) :: y.dat.delivered.filter fun e => decide (s.clk < e.1 + 10 * msPh) } }) p
    else s

/-! ### Decoding (R112 to R118, R390) -/

/-- Nozzle levels of line `j` of a test pattern. -/
def Pattern.line (x : Pattern) (n depth j : Nat) : List Nat :=
  (List.range n).map fun i =>
    if x.kind = 0 then x.level
    else if x.kind = 1 then (if i % max x.step 1 = j % max x.step 1 then x.level else 0)
    else (i + j) % (topLevel depth + 1)

/-- The line store has room for another line (R35): a line that neither bank's delays can use any more gives up its place.
Log entry 31: DEDUCED. -/
def State.lineRoom (s : State) (p : Fin 32) : Bool :=
  let x := s.port p
  let shadow := match x.banks with
    | some b => b.shadow.delays.foldl max 0
    | none => 0
  let needed := x.dat.store.filter fun l => decide (x.dat.settled ≤ l.j + max x.dmax shadow)
  decide (x.dat.queue.length + needed.length < s.lineDepth x.depth)

/-- No fire line still to come can use image line `j`: it was discarded, or its nominal line and every delayed one have passed. -/
def tooLate (s : State) (p : Fin 32) (j : Nat) : Bool :=
  let x := s.port p
  decide (j < x.dat.dropped) || decide (j + x.dmax < x.dat.settled) ||
  (match s.quireOf p with
    | some qi => (s.quire qi).scan && decide (j < x.dat.base)
    | none => false)

/-- A decoded line enters the screening queue, unless nothing can use it. -/
def queueLine (s : State) (p : Fin 32) (j : Int) (bytes : Bytes) (levels : Option (List Nat)) : State :=
  let drop := decide (j < 0) || tooLate s p j.toNat
  s.modPort p fun x => { x with dat := { x.dat with
    nextJ := j + 1, prevLine := some bytes,
    queue := if drop then x.dat.queue else x.dat.queue ++ [{ j := j.toNat, bytes := bytes, levels := levels, sat := false }] } }

/-- The descriptor whose lines are decoded next: the first that has lines left. -/
def DataPath.current (d : DataPath) : Option Desc := d.descs.find? fun x => (x.kind == 1 || x.kind == 2) && decide (x.decoded < x.count)

/-- One more line of a descriptor has been decoded; a FILL's next repeat begins at OFFSET again (R117). -/
def Desc.step (d : Desc) (used run : Nat) (rep broken : Bool) : Desc :=
  let n := d.decoded + 1
  let d := { d with starts := if d.kind = 1 then d.byteOfs :: d.starts else [] }
  if n % max d.lines 1 = 0 then { d with decoded := n, byteOfs := 0, run := 0, runRep := false, broken := false }
  else { d with decoded := n, byteOfs := d.byteOfs + used, run := run, runRep := rep, broken := broken }

/-- Put a changed descriptor back. -/
def DataPath.put (d : DataPath) (x : Desc) : DataPath :=
  { d with descs := d.descs.map fun y => if y.kind = x.kind ∧ y.startJ = x.startJ then x else y }

/-- A line of the present descriptor comes out of the decoder; `d` is the descriptor after it. -/
def lineOut (s : State) (p : Fin 32) (d : Desc) (bytes : Bytes) : State :=
  let s1 := queueLine (s.modPort p fun x => { x with dat := x.dat.put d }) p (d.startJ + (d.decoded : Int) - 1) bytes none
  if d.decoded = d.count then retireReady s1 p else s1

/-- A decode error: the line and the rest of the band or repeat are zeros, and the range is reported (R114, R135). -/
def decodeError (s : State) (p : Fin 32) (d : Desc) (reason : Nat) : State :=
  let x := s.port p
  let left := max d.lines 1 - d.decoded % max d.lines 1
  let first := match s.quireOf p with
    | some qi => (s.quire qi).nominal x (d.startJ + (d.decoded : Int)).toNat
    | none => d.startJ
  let s1 := raise (setPwEvent s p 0x40) evLineBlanked kPort p.1 2 (le 8 (uns 64 first) ++ le 4 left ++ [BitVec.ofNat 8 reason])
  lineOut s1 p (d.step 0 0 false true) (zeros x.lineLen)

/-- The band's data comes from the page store. -/
def Desc.fromStore (d : Desc) : Bool := d.staged || !d.data.isEmpty

/-- The bytes of the present descriptor from its next line on, as far as they are at hand, and whether one of the `n` first is damaged. -/
def bandSource (s : State) (d : Desc) (data : Bytes) : Bytes :=
  if d.kind = 2 then match assoc d.region s.page.regions with
    | some r => r.mem.bytes (d.ofs + d.byteOfs) (d.len - d.byteOfs)
    | none => []
  else if d.fromStore then d.data.drop d.byteOfs
  else data.take (d.len - d.byteOfs)

/-- A byte that the line uses lies in damaged page-store data (R114, R120). -/
def damaged (s : State) (d : Desc) (used : Nat) (read : PageRead) : Bool :=
  (d.kind = 2 || d.fromStore) && (readBad read || (d.kind = 2 && (match assoc d.region s.page.regions with
    | some r => r.bad.any fun a => decide (d.ofs + d.byteOfs ≤ a) && decide (a < d.ofs + d.byteOfs + max used 4)
    | none => false)))

/-- What a read of page-store data shows is counted, and an uncorrectable word reported once (R120, R455). Log entry 76: DEDUCED. -/
def pageRead (s : State) (p : Fin 32) (d : Desc) (read : PageRead) : State :=
  if !(d.kind = 2 || d.fromStore) then s
  else match read with
    | .clean => s
    | .corrected => { s with page := { s.page with corrected := satAdd 64 s.page.corrected 1 } }
    | .uncorrectable addr =>
      if d.kind = 2 then regionDamage s d.region (d.ofs + d.byteOfs) addr else reportOnce s (64 + p.1, 0, addr) fun t => pageDamage t addr

/-- Decode the next line of a descriptor: from a header's run, or from the band's bytes. -/
def decodeDesc (s0 : State) (p : Fin 32) (d : Desc) (data : Bytes) (read : PageRead) : State :=
  let s := if d.broken || decide (0 < d.run) then s0 else pageRead s0 p d read
  let x := s.port p
  let len := x.lineLen
  if d.broken then lineOut s p (d.step 0 0 false true) (zeros len)
  else if 0 < d.run then lineOut s p (d.step 0 (d.run - 1) d.runRep false) (if d.runRep then x.dat.prevLine.getD (zeros len) else zeros len)
  else
    match decodeNext x.nrl len (bandSource s d data) (d.len - d.byteOfs) (max d.lines 1 - d.decoded % max d.lines 1) x.dat.prevLine with
    | .more => s0
    | .bad => decodeError s p d (if damaged s d 4 read then 2 else 1)
    | .line bytes used run rep =>
      if damaged s d used read then decodeError s p d 2
      else lineOut (if d.kind = 1 && !d.fromStore then s.bandRead p.1 (d.addr + d.byteOfs) used d.ns else s) p (d.step used run rep false) bytes

/-- The next image line of a port is decoded. In D3hot nothing is read from the host (R337). -/
def lineDecode (p : Fin 32) (data : Bytes) (read : PageRead) (s : State) : State :=
  let x := s.port p
  if !(mayDecode s p) || !(s.lineRoom p) then s
  else if x.dat.patOn then
    match x.dat.pattern with
    | none => s
    | some g => if x.dat.nextJ < g.lines then queueLine s p x.dat.nextJ [] (some (g.line x.nozzles x.depth x.dat.nextJ.toNat)) else s
  else match x.dat.current with
    | none => s
    | some d => if d.kind = 1 && !d.fromStore && (s.buffered p || (s.link.d3hot && !d.broken && d.run == 0)) then s else decodeDesc s p d data read

/-! ### Meanings of the rows -/

/-- IMAGE_DESC_FETCH (R109). -/
def execImageDescFetch (p : Fin 32) (entry : BitVec 256) (s : State) : Host.Outcome State Fault Refusal := .next (imageDescFetch p entry s)

/-- BAND_STAGED (R115). -/
def execBandStaged (p : Fin 32) (data : Bytes) (s : State) : Host.Outcome State Fault Refusal := .next (bandStaged p data s)

/-- DESC_RETIRE (R110). -/
def execDescRetire (p : Fin 32) (s : State) : Host.Outcome State Fault Refusal := .next (retireReady s p)

/-- LINE_DECODE (R112). -/
def execLineDecode (p : Fin 32) (data : Bytes) (read : PageRead) (s : State) : Host.Outcome State Fault Refusal :=
  .next (lineDecode p data read s)

/-- LINE_SCREEN (R141). A deadline that has passed is judged before the line counts as complete (R132). -/
def execLineScreen (p : Fin 32) (s : State) : Host.Outcome State Fault Refusal := .next (lineScreen p (crossFirst s p))

/-- TAP_REFRESH (R25). -/
def execTapRefresh (p : Fin 32) (s : State) : Host.Outcome State Fault Refusal := .next (tapPort s p)

end Sys2Proof.Machine
end

