-- ==== Sys2Proof/Machine/Demand.lean ====
section
/-! DEFINITION. Speed demand: each port's data demand, the posture demand, the node demand and the demand of the node's subtree
(01_architecture.md R37; 04_data_path.md R130, R131; 09_thermal_supply.md R262; 10_spine.md R303). -/

namespace Sys2Proof.Machine

/-- FULL_SPEED of a quire in Q32.16 counts/s: as configured, or MAX_RATE × LINE_PITCH of the stored job (R136). -/
def Quire.fullSpeed (q : Quire) : Nat :=
  if q.dem.fullSpeed ≠ 0 then q.dem.fullSpeed
  else match q.job with
    | some j => j.maxRate * q.pitch
    | none => 0

/-- v = min(S ÷ FULL_SPEED, 1) of a quire as a fraction (R130). -/
def State.vOf (s : State) (qi : Fin 8) : Nat × Nat :=
  let q := s.quire qi
  let f := q.fullSpeed
  if f = 0 then (1, 1) else (min (s.source q.source).speed f, f)

/-- R as the table of R130 gives it, before the limit on a rise. -/
def State.demandTarget (s : State) (p : Fin 32) : Nat :=
  match s.quireOf p, s.ttu p with
  | some qi, some (n, d) =>
    let m := (s.quire qi).dem
    if m.warn * d ≤ n then 65535
    else if n < m.crit * d then 0
    else
      let v := s.vOf qi
      max m.floor (65535 * v.1 * n / (v.2 * d * m.warn))
  | _, _ => 65535

/-- A fall takes effect at once, a rise by 2,048 at most (R130). Log entry 47: DEDUCED. -/
def riseLimit (old new : Nat) : Nat := min new (old + 2048)

/-- Re-evaluate R of a port. -/
def evalPort (s : State) (p : Fin 32) : State :=
  s.modPort p fun x => { x with dat := { x.dat with demand := riseLimit x.dat.demand (s.demandTarget p) } }

/-- Sum of two fractions. -/
def fracAdd (a b : Nat × Nat) : Nat × Nat := (a.1 * b.2 + b.1 * a.2, a.2 * b.2)

/-- Nozzle-lines per second that the quires in FLYLEAF and PRINTING fire now, as a fraction (R37). Log entry 47: DEDUCED. -/
def State.actualRate (s : State) : Nat × Nat :=
  (idx 8).foldl (fun a q =>
    let x := s.quire q
    if x.st.fires then
      fracAdd a ((s.activeOf q).foldl (fun n p => n + (s.port p).nozzles) 0 * (s.source x.source).speed, max x.pitch 1)
    else a) (0, 1)

/-- The posture demand of the node (R37): the lowest over the running quires while POSTURE_FORCED and the rate exceeds the CAPPED cap. -/
def State.postureDemand (s : State) : Nat :=
  let a := s.actualRate
  let cap := s.aggregateCap true
  if !s.glb.forced || decide (a.1 ≤ cap * a.2) then 65535
  else (idx 8).foldl (fun m q =>
    if (s.quire q).st.runs then
      let v := s.vOf q
      min m (65535 * v.1 * cap * a.2 / (v.2 * a.1))
    else m) 65535

/-- The lowest R over the ports whose quire does not exclude them (R131). -/
def State.dataDemand (s : State) : Nat :=
  (idx 32).foldl (fun m p => match s.quireOf p with
    | some q => if (s.quire q).dem.exclude then m else min m (s.port p).dat.demand
    | none => m) 65535

/-- A member child is lost: silent for 1 ms, or its link is not UP (R303). -/
def Yobor.lost (y : Yobor) : Bool := y.childLost || y.link != .up

/-- A member child's part in the subtree's demand: demand, limiter, reason. -/
def childDemand (s : State) (y : Yobor) : Nat × Nat × Nat :=
  if y.lo = 0 then (65535, s.sp.nodeId, 0)
  else if y.lost then (if s.sp.lostDemand then (65535, s.sp.nodeId, 0) else (0, y.lo, 3))
  else match y.dmd with
    | some d => (d.1, d.2.1, d.2.2.1)
    | none => (65535, s.sp.nodeId, 0)

/-- The lower of two demands, the first on a tie. -/
def lower (a b : Nat × Nat × Nat) : Nat × Nat × Nat := if b.1 < a.1 then b else a

/-- The node demand with its reason: data before thermal before posture where they tie (R131). -/
def ownDemand (s : State) : Nat × Nat × Nat :=
  lower (lower (s.dataDemand, s.sp.nodeId, 0) (s.th.demand, s.sp.nodeId, 1)) (s.postureDemand, s.sp.nodeId, 2)

/-- Recompute the node demand and the demand of the subtree (R131, R303). -/
def updateDemand (s : State) : State :=
  let o := ownDemand s
  let t := lower (lower o (childDemand s s.sp.a)) (childDemand s s.sp.b)
  { s with spr := { s.spr with own := o.1, subtree := t.1, limiter := t.2.1, reason := t.2.2, postureDem := s.postureDemand } }

/-- TTU of the port is below TTU_CRIT. -/
def State.critical (s : State) (p : Fin 32) : Bool :=
  match s.quireOf p, s.ttu p with
  | some qi, some (n, d) => decide (n < (s.quire qi).dem.crit * d)
  | _, _ => false

/-- DATA_SPEED_DEMAND when a port's TTU falls below TTU_CRIT; armed again once it has returned (R130, R135). -/
def demandEvent (s : State) (p : Fin 32) : State :=
  let x := s.port p
  let crit := s.critical p
  let s1 := s.modPort p fun y => { y with dat := { y.dat with critArmed := !crit } }
  if crit && x.dat.critArmed then
    raise s1 evSpeedDemand kPort p.1 2
      (le 4 (ttuUs (s.ttu p)) ++ le 2 x.dat.demand ++ le 2 s.spr.own ++ le 4 (min x.fillU 0xFFFFFFFF) ++ le 4 (s.supplyV p))
  else s1

/-- Every 100 µs the demands are evaluated (R130); the thermal demand rises as far as R262 lets it. -/
def demandEval (s0 : State) : State :=
  let s := s0.advanceTo (s0.th.demandAt + 100 * usPh)
  let s1 := forAll s evalPort
  let s2 := { s1 with th := { s1.th with demand := riseLimit s1.th.demand s1.th.demandTo, demandAt := s1.clk } }
  forAll (updateDemand s2) demandEvent

/-- DEMAND_EVAL (R130). -/
def execDemandEval (s : State) : Host.Outcome State Fault Refusal := .next (demandEval s)

end Sys2Proof.Machine
end

