-- ==== Sys2Proof/Machine/ThermEv.lean ====
section
/-! DEFINITION. Thermal events, the detection of T_ABS, and the end of a head's thermal states when its port closes
(09_thermal_supply.md R261, R272, R277, R487). -/

namespace Sys2Proof.Machine

/-- Sensor 1 of the port is in use (R260). -/
def Port.useS1 (x : Port) : Bool :=
  match x.profile with
  | some f => f.th1
  | none => false

/-- A head sensor by number. -/
def Port.sensor (x : Port) (i : Nat) : Sensor := if i = 0 then x.therm.s0 else x.therm.s1

/-- Change a head sensor. -/
def Port.modSensor (x : Port) (i : Nat) (f : Sensor → Sensor) : Port :=
  if i = 0 then { x with therm := { x.therm with s0 := f x.therm.s0 } } else { x with therm := { x.therm with s1 := f x.therm.s1 } }

/-- The sensors in use. -/
def Port.sensorsUsed (x : Port) : List Nat := if x.useS1 then [0, 1] else [0]

/-- A thermal event (R277): its sticky bits in THM_EVENT and PW_EVENT, and its DATA. `port` is none for the die. Log entry 56: DEDUCED. -/
def thermEvent (s : State) (code sev : Nat) (port : Option (Fin 32)) (sensor : Nat) (t thr : Int) (phase kind : Nat) (line : Int) : State :=
  let s1 := { s with th := { s.th with event := s.th.event ||| BitVec.ofNat 7 (2 ^ (code - 0x3001)) } }
  let d := [BitVec.ofNat 8 (if port.isSome then 0 else 1), BitVec.ofNat 8 sensor] ++ le16s t ++ le16s thr ++
    [BitVec.ofNat 8 phase, BitVec.ofNat 8 kind] ++ le 8 (uns 64 line)
  match port with
  | some p => raise (setPwEvent s1 p 0x800) code kPort p.1 sev d
  | none => raise s1 code kDevice 0 sev d

/-- Severity of an event that is milder when it ends (R377). -/
def endedSev (sev phase : Nat) : Nat := if phase = 1 then 0 else sev

/-- The first line of a port that a request arriving now acts on (R20, R277): −1 when its quire draws no lines, or the port has left the job.
Log entry 54: DEDUCED. -/
def firstActed (s : State) (p : Fin 32) : Int :=
  match s.quireOf p with
  | none => -1
  | some qi =>
    if (s.quire qi).st.runs && (s.quire qi).active.getLsbD p.1 then
      match (s.port p).lines.find? fun l => l.dec.isNone && decide (s.clk ≤ l.decideAt) with
      | some l => l.k
      | none => (s.port p).nextK
    else -1

/-- STOP with cause HEAD_T_LIMIT for the quire, or for the port where the job's TEMP_SCOPE says so; for a port that is in no job there is
nothing to act on (R261). -/
def headStop (s : State) (p : Fin 32) : State :=
  match s.quireOf p with
  | none => s
  | some qi =>
    if !((s.quire qi).active.getLsbD p.1) then s else
    match (s.quire qi).job with
    | some j => if j.stopPort then stopPort s p 12 else stopQuire s qi 12
    | none => stopQuire s qi 12

/-- Both channels fall to code 0 at once, and no playback of a committed line is left (R22, R189). -/
def cutBoth (s : State) (p : Fin 32) : State :=
  ((s.modPort p fun x => Port.dropOver { x with lines := x.lines.map fun l => { l with plays := l.plays.map fun q => { q with phase := 2 } } }).emit
    (.cut p.1 .a)).emit (.cut p.1 .b)

/-- T_ABS is detected at temperature `t` of a sensor (R261). -/
def absDetected (s : State) (p : Fin 32) (sensor : Nat) (t thr : Int) : State :=
  let line := firstActed s p
  let s1 := heaterOff (cutBoth s p) p
  let s2 := s1.modPort p fun x => { x with therm := { x.therm with absSeen := true, absHold := true } }
  thermEvent (headStop s2 p) evLimitStop 4 (some p) sensor t thr 0 1 line

/-- Compare the highest value of a head with T_ABS: a new detection, or the threshold is armed again (R487). -/
def checkAbs (s : State) (p : Fin 32) (high : Option (Nat × Int)) : State :=
  match (s.port p).profile, high with
  | some f, some (i, t) =>
    if (s.port p).therm.absSeen then
      if t < f.tAbs - f.tHyst then s.modPort p fun x => { x with therm := { x.therm with absSeen := false } } else s
    else if f.tAbs ≤ t then absDetected s p i t f.tAbs else s
  | _, _ => s

/-- The highest of sensor values; the lowest-numbered sensor that holds it (R277). -/
def highestOf : List (Nat × Int) → Option (Nat × Int)
  | [] => none
  | (i, t) :: l =>
    match highestOf l with
    | some (j, u) => if t < u then some (j, u) else some (i, t)
    | none => some (i, t)

/-- The lowest of sensor values. -/
def lowestOf : List (Nat × Int) → Option (Nat × Int)
  | [] => none
  | (i, t) :: l =>
    match lowestOf l with
    | some (j, u) => if u < t then some (j, u) else some (i, t)
    | none => some (i, t)

/-- The time at or above T_WARN stops running (R246). -/
def Wear.cool (w : Wear) (now : Nat) : Wear :=
  match w.warmFrom with
  | some t => { w with warmPh := w.warmPh + (now - t), warmFrom := none }
  | none => w

/-- A faulty sensor becomes good again (R272). -/
def sensorCleared (s : State) (p : Fin 32) (i : Nat) : State :=
  if ((s.port p).sensor i).faulty then
    thermEvent (s.modPort p fun x => x.modSensor i fun y => { y with faulty := false, cause := 0, run := 0, subst := none })
      evSensorFault 1 (some p) i noTemp 0 1 8 (-1)
  else s

/-- A head's throttle episode ends, with its enforcement (R262, R263). -/
def endHeadEpisode (s : State) (p : Fin 32) (sensor : Nat) (t thr : Int) : State :=
  let h := (s.port p).therm
  if h.epi.isNone then s
  else
    let s1 := if h.enforce then
        thermEvent (withdraw s (.headEnforce p) (.port p)) evEnforce 0 (some p) sensor t thr 1 0 (-1) else s
    thermEvent (s1.modPort p fun x => { x with therm := { x.therm with epi := none, enforce := false } })
      evThrottle 0 (some p) sensor t thr 1 0 (-1)

/-- A head's T_MINJET inhibit ends. -/
def endMinjet (s : State) (p : Fin 32) (sensor : Nat) (t thr : Int) : State :=
  if (s.port p).therm.minjet then
    thermEvent ((withdraw s (.headMinJet p) (.port p)).modPort p fun x => { x with therm := { x.therm with minjet := false } })
      evColdInhibit 0 (some p) sensor t thr 1 1 (-1)
  else s

/-- A head's T_COLD_WARN state ends. Log entry 37: DEDUCED. -/
def endColdWarn (s : State) (p : Fin 32) (sensor : Nat) (t thr : Int) : State :=
  if (s.port p).therm.cold then
    thermEvent (s.modPort p fun x => { x with therm := { x.therm with cold := false } })
      evColdInhibit 0 (some p) sensor t thr 1 0 (-1)
  else s

/-- At PORT_CLOSE every thermal state of the head ends (R272, R273, R487). -/
def closeTherm (s : State) (p : Fin 32) : State :=
  match (s.port p).profile with
  | none => s.modPort p fun x => { x with therm := .reset }
  | some f =>
    let s1 := endHeadEpisode s p 0xFF noTemp f.tWarn
    let s2 := endColdWarn (endMinjet s1 p 0xFF noTemp f.tMinjet) p 0xFF noTemp f.tColdWarn
    (sensorCleared (sensorCleared s2 p 0) p 1).modPort p fun x => { x with therm := .reset }

end Sys2Proof.Machine
end

