-- ==== Sys2Proof/Machine/HeadMem.lean ====
section
/-! DEFINITION. Head memory: accesses page by page over I²C or HIF-C request frames (R208, R210, R226, R227), wear records (R246 to
R249), the checks of the identity record (R211), link errors (R216), and the ends of PORT_OPEN and PORT_CLOSE (R212, R224). -/

namespace Sys2Proof.Machine

/-! ### Link errors (R216, R217) -/

/-- A link error of kind 0 (line frame), 1 (back-channel) or 2 (HIF-B count), at line `k`. Log entry 51: DEDUCED. -/
def linkError (s : State) (p : Fin 32) (kind : Nat) (k : Int) : State :=
  let x := s.port p
  let n := satAdd 8 x.link.errs 1
  let s1 := s.modPort p fun y => { y with link := { y.link with errs := n, total := sat32 y.link.total 1, raised := true } }
  let s2 := if x.link.raised then s1
    else raise (setPwEvent s1 p 4) evLinkErr kPort p.1 2
      ([BitVec.ofNat 8 kind, BitVec.ofNat 8 (15 - x.link.lanes % 16)] ++ le 2 n ++ zeros 4 ++ le 8 (uns 64 k))
  let limit := match x.cfg with
    | some c => c.errLimit
    | none => 0
  if limit ≠ 0 ∧ limit ≤ n then portFault s2 p 2 else s2

/-- A HIF-B status block has been read (R210, R216). Log entry 51: DEDUCED. -/
def statusBlock (s : State) (p : Fin 32) (d : Bytes) : State :=
  let x := s.port p
  if x.gen ≠ 2 ∨ x.st = .closed then s
  else if x.st = .opening then s.modPort p fun y => { y with link := { y.link with lanes := rdAt d 0 1 % 16 } }
  else
    let cnt := rdAt d 1 2
    let s1 := s.modPort p fun y => { y with link := { y.link with lanes := rdAt d 0 1 % 16, hifbBase := some cnt } }
    let s2 := match x.link.hifbBase with
      | some b => if b ≠ cnt then linkError s1 p 2 (-1) else s1
      | none => s1
    if rdAt d 3 1 ≠ 0 then portFault s2 p 5 else s2

/-! ### Wear records (R246 to R248) -/

/-- The count bytes of an array. -/
def Wear.bytes (w : Wear) (n : Nat) : Bytes := (List.range n).map fun i => BitVec.ofNat 8 ((assoc i w.stored).getD 0)

/-- Seconds outside CLOSED, and at or above T_WARN. -/
def Wear.secsNow (w : Wear) (now : Nat) : Nat := w.secs + (now - w.openedAt) / (1000 * msPh)
def Wear.warmNow (w : Wear) (now : Nat) : Nat := (w.cool now).warmPh / (1000 * msPh)

/-- A header of R247; bytes 40 to 43 are zero but in a WEAR_QUERY record (R256). -/
def Wear.header (w : Wear) (n seq array now since : Nat) : Bytes :=
  let m32 := 2 ^ 32 - 1
  let b := le 4 seq ++ [BitVec.ofNat 8 array, 1] ++ le 2 n ++ le 8 w.img ++ le 4 (min m32 w.fly) ++ le 4 (min m32 w.probes) ++
    le 2 (min 0xFFFF w.failures) ++ le 2 (min 0xFFFF w.recoveries) ++ le 4 (w.secsNow now) ++ le 4 (w.warmNow now) ++
    bytesOf 4 (crc32 (w.bytes n)) ++ le 4 since ++ zeros 16
  b ++ bytesOf 4 (crc32 b)

/-- The on-die amounts go into the record: total = residue + counter, in units of 2^27 (R248). -/
def Wear.fold (w : Wear) : Wear :=
  w.cnt.foldl (fun v c =>
    let total := (assoc c.1 v.residue).getD 0 + c.2
    { v with residue := assocSet c.1 (total % 2 ^ 27) v.residue,
             stored := assocSet c.1 (min 255 ((assoc c.1 v.stored).getD 0 + total / 2 ^ 27)) v.stored }) { w with cnt := [] }

/-- The address of a count array and of a header slot. -/
def arrayAddr (a : Nat) : Nat := 0x0400 + 0x2000 * a
def slotAddr (i : Nat) : Nat := 0x0100 + 64 * i

/-- Header `i` of a wear area that starts at 0x0100 is valid: its CRC and its array's CRC match. -/
def headerOk (area : Bytes) (i : Nat) : Bool :=
  let h := (area.drop (64 * i)).take 64
  let n := rdAt h 6 2
  let a := rdAt h 4 1
  decide (n ≤ 8192 ∧ a ≤ 1) && (crc32 (h.take 60)).toNat == rdAt h 60 4 &&
  (crc32 ((area.drop (arrayAddr a - 0x0100)).take n)).toNat == rdAt h 36 4

/-- The slot of the newest record: the valid header with the highest SEQ. -/
def newestSlot (area : Bytes) : Option Nat :=
  (List.range 8).foldl (fun m i =>
    if headerOk area i then
      match m with
      | some j => if rdAt area (64 * j) 4 < rdAt area (64 * i) 4 then some i else m
      | none => some i
    else m) none

/-- The wear counts go on from the newest record, or from zero without one (R248). -/
def Wear.load (w : Wear) (area : Bytes) : Wear :=
  match newestSlot area with
  | none => { w with loaded := true }
  | some i =>
    let h := (area.drop (64 * i)).take 64
    let a := rdAt h 4 1
    let counts := (area.drop (arrayAddr a - 0x0100)).take (rdAt h 6 2)
    { w with loaded := true, seq := rdAt h 0 4, slot := i, array := a, stored := counts.mapIdx fun j b => (j, b.toNat),
             img := w.img + rdAt h 8 8, fly := w.fly + rdAt h 16 4, probes := w.probes + rdAt h 20 4,
             failures := w.failures + rdAt h 24 2, recoveries := w.recoveries + rdAt h 26 2, secs := w.secs + rdAt h 28 4,
             warmPh := w.warmPh + rdAt h 32 4 * (1000 * msPh) }

/-! ### Head-memory accesses: what is queued -/

def HeadJob.reading (why : HeadWhy) (addr len : Nat) : HeadJob :=
  { why := why, write := false, addr := addr, left := len, data := [], more := [], done := 0, sent := none }

def HeadJob.writing (why : HeadWhy) (addr : Nat) (data : Bytes) : HeadJob :=
  { why := why, write := true, addr := addr, left := 0, data := data, more := [], done := 0, sent := none }

/-- Put an access at the end of the port's list. -/
def addJob (s : State) (p : Fin 32) (j : HeadJob) : State := s.modPort p fun x => { x with hm := x.hm ++ [j] }

/-- Replace the access under way. -/
def setJob (s : State) (p : Fin 32) (j : HeadJob) : State := s.modPort p fun x => { x with hm := j :: x.hm.drop 1 }

/-- Bytes of the next page: pages end at multiples of 64. -/
def HeadJob.page (j : HeadJob) : Nat := min (64 - j.addr % 64) (if j.write then j.data.length else j.left)

/-- A wear commit; the newest record is read first where that has not been done. Log entry 49: DEDUCED. -/
def addCommit (s : State) (p : Fin 32) (id : Option Nat) : State :=
  let x := s.port p
  let s1 := if x.wear.loaded || (x.hm.any fun j => j.why == .wearLoad) then s else addJob s p (.reading .wearLoad 0x0100 0x4300)
  let s2 := { s1 with bg := { s1.bg with passStart := upd s1.bg.passStart 10 fun _ => s1.clk } }
  addJob s2 p (.writing (.wearCommit id) 0 [])

/-! ### PORT_OPEN and PORT_CLOSE end (R211, R212, R223, R224) -/

/-- RESULT of PORT_OPEN (R223). -/
def openRes (x : Port) (reason : Nat) : Nat :=
  let rate := match x.cfg with
    | some c => c.laneRate
    | none => 0
  let model := match x.profile with
    | some f => f.model
    | none => 0
  x.gen + 256 * reason + 65536 * rate + 2 ^ 32 * model

/-- The PORT_OPEN in execution on a port. -/
def openExec (s : State) (p : Fin 32) : Option Exec :=
  s.execs.find? fun e => e.op == 0x0201 && fld e.p 8 1 == p.1 && (match e.wait with
    | .bringup _ => true
    | _ => false)

/-- A port that was opening is CLOSED or FAULT again, with its outputs as in R197. -/
def backFromOpening (s : State) (p : Fin 32) : State :=
  let x0 := s.port p
  let back := if x0.fromFault then PState.fault else .closed
  faultEdge <| portTo ((s.emit (.outputs p.1 false 0)).modPort p fun x => { x with
    ident := if x.fromFault then x.ident else [], link := { x.link with up := false, train := 0 },
    therm := if x.fromFault then x.therm else .reset }) p back (if x0.fromFault then x0.cause else 0)

/-- Bring-up fails: PORT_OPEN completes (R212). -/
def openFails (s : State) (p : Fin 32) (st reason : Nat) : State :=
  match openExec s p with
  | none => s
  | some e => endExec (backFromOpening (closeThermIf s p) p) e st (openRes (s.port p) reason)
where
  /-- what R487 ends at a close ends here too when the port goes back to CLOSED -/
  closeThermIf (s : State) (p : Fin 32) : State := if (s.port p).fromFault then s else closeTherm s p

/-- Lane rates of a generation in Mbit/s or Mbaud (R198). -/
def laneRange (gen : Nat) : Nat × Nat := if gen = 1 then (10, 100) else if gen = 2 then (100, 800) else (1250, 3125)

/-- The first failing check of R211: 0 when all pass. -/
def identReason (x : Port) (d : Bytes) : Nat :=
  match x.profile, x.cfg with
  | some f, some c =>
    let lr := laneRange f.gen
    firstBad [((crc32 (d.take 60)).toNat != rdAt d 60 4, 1), (rdAt d 0 1 != 1, 2), (rdAt d 1 1 != f.gen, 3), (rdAt d 2 2 != f.model, 4),
      (rdAt d 4 2 != f.nozzles || rdAt d 4 2 != c.nozzles, 5),
      (!(bit (rdAt d 6 1) (c.depth - 2)) || !(bit f.depths (c.depth - 2)), 6),
      (out c.laneRate lr.1 lr.2 || decide (f.laneMax < c.laneRate) || decide (rdAt d 10 2 < c.laneRate) ||
        (f.sense && !(bit (rdAt d 7 1) 0)), 7)]
  | _, _ => 0

/-- The rate of CK in kHz: the lane rate on HIF-A, half of it on HIF-B, held at logic 0 on HIF-C (R196, R198). -/
def Port.ckKhz (x : Port) : Nat :=
  let rate := match x.cfg with
    | some c => c.laneRate
    | none => 0
  if x.gen = 1 then 1000 * rate else if x.gen = 2 then 500 * rate else 0

/-- The link steps of R212 begin: the outputs drive, with CK as the generation has it; HIF-A sends a zero line and a LATCH; HIF-B sends sync
words and then reads its status block; HIF-C sends K28.5 until status frames report four locked lanes. -/
def startTraining (s : State) (p : Fin 32) : State :=
  let x := s.port p
  let s1 := (s.emit (.outputs p.1 true x.ckKhz)).modPort p fun y => { y with link := { y.link with up := false, train := 1, lanes := 0 } }
  if x.gen = 1 then latchWord (sendCodes s1 p (List.replicate x.nozzles 0) s.clk) p false (s.clk + x.streamPh)
  else if x.gen = 2 then addJob s1 p (.reading .lock 0x0080 4)
  else s1

/-- A status block read while a HIF-B link comes up: up to 8 attempts, until all four lanes report lock (R212). -/
def lockRead (s : State) (p : Fin 32) (lanes : Nat) (again : Bool) : State :=
  let s1 := s.modPort p fun x => { x with link := { x.link with lanes := lanes } }
  let n := (s.port p).link.train
  if lanes = 15 ∨ !again ∨ n = 0 ∨ 8 ≤ n then s1
  else addJob (s1.modPort p fun x => { x with link := { x.link with train := n + 1 } }) p (.reading .lock 0x0080 4)

/-- The identity record has been read for PORT_OPEN. -/
def identRead (s : State) (p : Fin 32) (d : Bytes) : State :=
  match openExec s p with
  | none => s
  | some e =>
    let r := identReason (s.port p) d
    if r ≠ 0 then openFails s p stHeadMismatch r
    else startTraining ((s.modExec e.id fun x => { x with wait := .bringup true }).modPort p fun x =>
      { x with ident := d, therm := { x.therm with checkDue := true } }) p

/-- The port becomes CLOSED: banks, slots, signatures, wear counts and thermal states go (R215, R224, R242, R487). -/
def closePort (s : State) (p : Fin 32) : State :=
  let s1 := if (s.port p).st.inJob then stopPort s p 15 else s
  let s2 := closeTherm (heaterOff (abortLearn s1 p) p) p
  faultEdge <| portTo ((s2.emit (.outputs p.1 false 0)).modPort p fun x => { x with
    cause := 0, fromFault := false, ident := [], banks := none, chA := .reset, chB := .reset, lines := [], playEnd := 0,
    rvs := .reset, wear := .reset, heater := .reset,
    link := { Link.reset with total := x.link.total, segLate := x.link.segLate } }) p .closed 0

/-- The commit that a command waited for has ended (R224, R256). Log entry 50: DEDUCED. -/
def commitReply (s : State) (p : Fin 32) (id : Option Nat) (st : Nat) : State :=
  match id with
  | none => s
  | some i =>
    match s.execs.find? fun e => e.id == i with
    | none => s
    | some e =>
      if e.op = 0x0202 then endExec (closePort s p) e (if st = stOk then stOk else stOkPartial) (if st = stOk then 0 else st % 256)
      else endExec s e st 0

/-! ### Pages -/

/-- An access has ended with a status. Log entry 49: DEDUCED. -/
def jobOver (s : State) (p : Fin 32) (j : HeadJob) (st : Nat) : State :=
  match j.why with
  | .nobody => s
  | .ident => if st = stOk then identRead s p j.data else openFails s p st (if st = stPortFault then 8 else 0)
  | .lock => lockRead s p (if st = stOk then rdAt j.data 0 1 % 16 else 0) (st != stHeadAbsent && st != stAborted)
  | .status => if st = stOk then statusBlock s p j.data else s
  | .host id =>
    match s.execs.find? fun e => e.id == id with
    | none => s
    | some e =>
      if j.write then endExec s e st j.done
      else if st = stOk then finishWrite s e (fld e.p 16 8) (pad64 j.data) 0
      else endExec s e st 0
  | .wearLoad => if st = stOk then s.modPort p fun x => { x with wear := x.wear.load j.data } else s
  | .wearCommit id =>
    let s0 := { s with bg := { s.bg with durations := upd s.bg.durations 10 fun _ => (s.clk - look s.bg.passStart 10) / msPh } }
    let s1 := if st = stOk then s0.modPort p fun x => { x with wear := { x.wear with
        seq := x.wear.seq + 1, slot := (x.wear.slot + 1) % 8, array := 1 - x.wear.array, lastCommit := s.clk } } else s0
    commitReply s1 p id st

/-- A wear commit takes up its data when its turn comes (R248). Log entry 49: DEDUCED. -/
def prepareCommit (s : State) (p : Fin 32) (j : HeadJob) : State :=
  let s1 := s.modPort p fun x => { x with wear := x.wear.fold }
  let x := s1.port p
  let w := x.wear
  let n := x.nozzles
  setJob s1 p { j with addr := arrayAddr (1 - w.array), data := w.bytes n,
                       more := [(slotAddr ((w.slot + 1) % 8), w.header n (w.seq + 1) (1 - w.array) s.clk 0)] }

/-- The access travels in request frames: HIF-C, beyond the identity area, the port not CLOSED (R208, R226). -/
def framed (x : Port) (j : HeadJob) : Bool := x.gen == 3 && decide (0x40 ≤ j.addr) && x.st != .closed

/-- Why the next page cannot be started: 0 when it can. -/
def pageBad (s : State) (x : Port) (j : HeadJob) : Nat :=
  firstBad [(x.prsHigh, stHeadAbsent), (j.write && !s.writeSafe, stSupplyLow),
    ((match j.why with
      | .wearCommit _ => !x.wear.loaded
      | _ => false), stPortFault),
    (framed x j && !x.link.up, stPortFault)]

/-- The bytes of a request frame: operation, address, length, write data, CRC-32 (R208). -/
def requestFrame (j : HeadJob) : Bytes :=
  let b := [if j.write then 1 else 0] ++ le 2 j.addr ++ [BitVec.ofNat 8 j.page] ++ (if j.write then j.data.take j.page else [])
  b ++ bytesOf 4 (crc32 b)

/-- Send the next page of an access. -/
def sendPage (s : State) (p : Fin 32) (j : HeadJob) : State :=
  let f := framed (s.port p) j
  let s1 := setJob s p { j with sent := some f }
  if f then (s1.emit (.control p.1 true 2 0 0 s.clk)).emit (.frame p.1 (requestFrame j))
  else if j.write then s1.emit (.i2cWrite p.1 j.addr (j.data.take j.page))
  else s1.emit (.i2cRead p.1 j.addr j.page)

/-- A periodic wear commit, and one that a command waits for. -/
def HeadJob.periodic (j : HeadJob) : Bool := j.why == .wearCommit none
def HeadJob.asked (j : HeadJob) : Bool :=
  match j.why with
  | .wearCommit (some _) => true
  | .wearCommit none | .ident | .lock | .status | .host _ | .wearLoad | .nobody => false

/-- Start what can start: the oldest access's next page; accesses that cannot go on end. A periodic wear commit rests between pages while die
enforcement suspends background work, and lets other accesses pass; a commit that a command asks for takes its place (R31, R459).
Log entry 49: DEDUCED. -/
def pump : Nat → State → Fin 32 → State
  | 0, s, _ => s
  | n + 1, s, p =>
    let x := s.port p
    match x.hm with
    | [] => s
    | j :: rest =>
      if j.sent.isSome then s
      else if s.th.enforce && j.periodic then
        if rest.any HeadJob.asked then pump n (s.modPort p fun y => { y with hm := rest }) p
        else if rest.all HeadJob.periodic then s
        else pump n (s.modPort p fun y => { y with hm := rest ++ [j] }) p
      else
        match pageBad s x j with
        | 0 =>
          let s1 := match j.why with
            | .wearCommit _ => if j.data.isEmpty && j.more.isEmpty then prepareCommit s p j else s
            | _ => s
          match (s1.port p).hm with
          | k :: _ => sendPage s1 p k
          | [] => s1
        | st + 1 => pump n (jobOver (s.modPort p fun y => { y with hm := rest }) p j (st + 1)) p

/-- Start what can start on a port's head memory. -/
def pumpHead (s : State) (p : Fin 32) : State := pump ((s.port p).hm.length + 1) s p

/-- The page under way has ended: the access goes on, or ends. -/
def pageDone (s : State) (p : Fin 32) (st : Nat) (data : Bytes) : State :=
  let x := s.port p
  match x.hm with
  | [] => s
  | j :: rest =>
    let n := j.page
    let fin := fun (k : HeadJob) (c : Nat) => pumpHead (jobOver (s.modPort p fun y => { y with hm := rest }) p k c) p
    if j.sent.isNone then s
    else if st ≠ stOk ∨ j.why = .nobody then fin j st
    else if j.write then
      let k := { j with data := j.data.drop n, addr := j.addr + n, done := j.done + n, sent := none }
      if k.data.isEmpty then
        match k.more with
        | [] => fin k stOk
        | (a, d) :: t => pumpHead (setJob s p { k with addr := a, data := d, more := t }) p
      else pumpHead (setJob s p k) p
    else
      let k := { j with data := j.data ++ (padTo n data).take n, addr := j.addr + n, left := j.left - n, sent := none }
      if k.left = 0 then fin k stOk else pumpHead (setJob s p k) p

/-- Accesses end before their time; a page under way over I²C is still waited for. -/
def dropJobs (s : State) (p : Fin 32) (f : HeadJob → Bool) (st : Nat) : State :=
  let hit := (s.port p).hm.filter f
  let stay := fun (j : HeadJob) => if f j then (if j.sent = some false then some { j with why := .nobody } else none) else some j
  let s1 := s.modPort p fun x => { x with hm := x.hm.filterMap stay }
  pumpHead (hit.foldl (fun t j => jobOver t p j st) s1) p

/-! ### Rows -/

/-- An I²C transaction ends (R210). -/
def i2cDone (p : Fin 32) (ack : Bool) (data : Bytes) (s : State) : State :=
  match (s.port p).hm with
  | j :: _ => if j.sent = some false then pageDone s p (if ack then stOk else stPortFault) data else s
  | [] => s

/-- A reply frame arrives: K28.4, 0x02, a status byte, any read data, a CRC-32 over what comes before it. A bad CRC is a link error and ends
the access (R208, R216); a frame of another kind answers nothing. Log entry 50: DEDUCED. -/
def headReply (p : Fin 32) (frame : Bytes) (s : State) : State :=
  let n := frame.length - 4
  let ok := (crc32 (frame.take n)).toNat == rdAt frame n 4
  match (s.port p).hm with
  | j :: _ =>
    if j.sent = some true ∧ rdAt frame 0 1 = 0x9C ∧ rdAt frame 1 1 = 2 then
      let s1 := if ok then s else linkError s p 1 (-1)
      pageDone s1 p (if ok && rdAt frame 2 1 == 0 then stOk else stPortFault) ((frame.take n).drop 3)
    else s
  | [] => s

/-- The periodic wear commit falls due on a port that is not CLOSED (R249); die enforcement suspends it (R31). -/
def wearPeriodic (p : Fin 32) (s : State) : State :=
  let x := s.port p
  if x.st = .closed ∨ s.th.enforce then s
  else
    let t := s.advanceTo x.wear.dueAt
    let s1 := t.modPort p fun y => { y with wear := { y.wear with dueAt := y.wear.dueAt + 600000 * msPh } }
    pumpHead (addCommit s1 p none) p

/-- HEAD_I2C_TRANSFER_DONE (R210). -/
def execHeadI2cTransferDone (p : Fin 32) (ack : Bool) (data : Bytes) (s : State) : Host.Outcome State Fault Refusal :=
  .next (i2cDone p ack data s)

/-- HEADMEM_REPLY (R208). -/
def execHeadmemReply (p : Fin 32) (head data : Bytes) (crc : U32) (s : State) : Host.Outcome State Fault Refusal :=
  .next (headReply p (head ++ data ++ bytesOf 4 crc) s)

/-- WEAR_COMMIT_PERIODIC (R249). -/
def execWearCommitPeriodic (p : Fin 32) (s : State) : Host.Outcome State Fault Refusal := .next (wearPeriodic p s)

end Sys2Proof.Machine
end

