-- ==== Sys2Proof/Machine/HeadPorts.lean ====
section
/-! DEFINITION. Head ports: PORT_OPEN, PORT_CLOSE, PORT_CONFIG, PORT_QUERY, HEADMEM_READ, HEADMEM_WRITE, HEATER_SET, HEAD_PROFILE_LOAD,
bring-up, retraining, presence, status frames, lost links and blocks of link errors (07_head_ports.md). -/

namespace Sys2Proof.Machine

/-! ### HEAD_PROFILE_LOAD (R221) -/

/-- The profile in host data. -/
def profileOf (d : Bytes) : Profile :=
  let f := rdAt d 7 1
  let t := fun (i : Nat) => sgn 16 (rdAt d (10 + 2 * i) 2)
  { gen := rdAt d 1 1, model := rdAt d 2 2, nozzles := rdAt d 4 2, depths := rdAt d 6 1, sense := bit f 0, th1 := bit f 1,
    laneMax := rdAt d 8 2, tMinjet := t 0, tColdWarn := t 1, tWarn := t 2, tLimit := t 3, tAbs := t 4, tHyst := sgn 16 (rdAt d 20 2),
    capLevel := rdAt d 22 1, htrKp := rdAt d 24 2, htrKi := rdAt d 26 2, htrMax := rdAt d 28 2,
    thCurve := (List.range 8).map fun i => (rdAt d (32 + 4 * i) 2, sgn 16 (rdAt d (34 + 4 * i) 2)),
    noz := (List.range (rdAt d 4 2)).map fun i => rdAt d (64 + i) 1 }

/-- Codes strictly increase. -/
def rising : List Nat → Bool
  | a :: b :: t => decide (a < b) && rising (b :: t)
  | _ => true

/-- A field of the profile breaks its table. -/
def profileBad (d : Bytes) : Bool :=
  let f := profileOf d
  rdAt d 0 1 != 1 || out f.gen 1 3 || out f.nozzles 1 8192 || out f.depths 1 3 || rsv (rdAt d 7 1) 0x03 || (f.sense && f.gen != 3) ||
  decide ((laneRange f.gen).2 < f.laneMax) ||
  !(decide (f.tMinjet < f.tColdWarn ∧ f.tColdWarn < f.tWarn ∧ f.tWarn < f.tLimit ∧ f.tLimit < f.tAbs)) ||
  out (rdAt d 20 2) 1 320 || decide (7 < f.capLevel) || rdAt d 23 1 != 0 || decide (1023 < f.htrMax) || rdAt d 30 2 != 0 ||
  (if f.gen = 3 then rdAt d 32 32 != 0 else !(rising (f.thCurve.map (·.1)))) || f.noz.any fun v => decide (7 < v)

/-- HEAD_PROFILE_LOAD. -/
def headProfileLoad (h : CmdHdr) (p : Params) (s : State) : State :=
  let addr := fld p 16 8
  let len := fld p 24 4
  readCmd 0x0208 h p s [(8, 1), (9, 1), (16, 8), (24, 4)]
    [(rsv (fld p 9 1) 0x01, stBadParam), (portBad s (fld p 8 1) || outLen h len 128 (64 + 8192) || beyond s h addr len, stRange),
     (misaddr h addr || mislen h len, stAlign), (decide ((s.port (portNo (fld p 8 1))).st ≠ .closed), stBadState)]
    addr len (bit (fld p 9 1) 0)

/-- The profile has arrived. -/
def profileDone (s : State) (e : Exec) (data : Bytes) : State :=
  let r := portNo (fld e.p 8 1)
  dataDone s e [(fld e.p 24 4 != 64 + up64 (rdAt data 4 2) || profileBad data, stBadParam), (decide ((s.port r).st ≠ .closed), stBadState)] 0
    fun t => endExec (measureData (t.modPort r fun x => { x with profile := some (profileOf data) }) 6 [fld e.p 8 1] data) e stOk 0

/-! ### PORT_OPEN and bring-up (R212, R223) -/

/-- PORT_OPEN acts: the port is OPENING and the identity record is read. -/
def startOpening (s : State) (h : CmdHdr) (p : Params) (r : Fin 32) : State :=
  let s1 := heaterOff (beginExec s 0x0201 h p (.bringup false) 0) r
  let s2 := faultEdge <| portTo (s1.modPort r fun x => { x with
    fromFault := decide (x.st = .fault), link := { x.link with up := false },
    wear := if x.st = .closed then { Wear.reset with openedAt := s.clk, lastCommit := s.clk, dueAt := s.clk + 600000 * msPh } else x.wear }) r .opening 0
  pumpHead (addJob s2 r (.reading .ident 0 64)) r

/-- PORT_OPEN. -/
def portOpen (h : CmdHdr) (p : Params) (s : State) : State :=
  let r := portNo (fld p 8 1)
  let x := s.port r
  command 0x0201 h p s [(8, 1)]
    [(portBad s (fld p 8 1), stRange),
     (!(decide (x.st = .closed) && x.profile.isSome && x.cfg.isSome) && decide (x.st ≠ .fault), stBadState)]
    (fun t => complete t h (if x.prsHigh then stHeadAbsent else stOk) (openRes x 0))
    (fun t => if x.prsHigh then complete t h stHeadAbsent (openRes x 0) else startOpening t h p r)

/-- The maps of the live rows go into both banks of the head; shadow rows that differ are due (R206, R212). -/
def sendBothMaps (s : State) (p : Fin 32) : State :=
  match (s.port p).banks with
  | none => s
  | some b =>
    let one := fun (t : State) (c : Chan) =>
      let rows := (b.live.chan c).rows
      let u := t.modPort p fun x => x.modChan c fun z =>
        { z with map0 := rows, map1 := rows, mapDue := decide ((b.shadow.chan c).rows ≠ rows) }
      mapTransfer (mapTransfer u p c false rows) p c true rows
    one (one s .a) .b

/-- The link has trained: the live rows go into both map banks, and the head holds a zero line (R206, R212). Log entry 52:
DESIGN CHOICE. -/
def linkTrained (s : State) (p : Fin 32) : State :=
  let zero := List.replicate (s.port p).nozzles 0
  sendBothMaps (s.modPort p fun x => { x with link := { x.link with
    up := true, train := 0, lastStatus := s.clk, lanes := 15, unlockedAt := none, hifbBase := none, mapBank := false, headPend := zero,
    headActive := zero, next := none } }) p

/-- The settings of a port that comes to IDLE from CLOSED (R142, R174, R183, R228, R232, R242, R252). -/
def freshPort (x : Port) : Port :=
  let n := x.nozzles
  { x with banks := some (Banks.fresh n x.depth), chA := .reset, chB := .reset, heater := .reset,
           rvs := { Rvs.reset with cfg := { RvsCfg.reset with levels := 2 ^ (topLevel x.depth + 1) - 2 },
                                   mon := List.replicate n Mon.unknown, live := SigSet.empty n 0 } }

/-- Bring-up succeeds (R212, R215, R458). -/
def openSucceeds (s : State) (p : Fin 32) (e : Exec) : State :=
  let fromFault := (s.port p).fromFault
  let s1 := s.modPort p fun x => if fromFault then x else freshPort x
  let s2 := linkTrained s1 p
  let s3 := s2.modPort p fun x => { x with
    st := .idle, cause := 0, fromFault := false, chA := { x.chA with lastCal := s.clk },
    chB := { x.chB with lastCal := s.clk }, senseCal := if x.gen = 3 then s.clk else x.senseCal, link := x.link.newBlock s.clk }
  let s4 := if fromFault then s3 else pumpHead (addJob s3 p (.reading .wearLoad 0x0100 0x4300)) p
  endExec (stateChanged s4 p .opening .idle 0) e stOk (openRes (s.port p) 0)

/-- A PORT_CONFIG that waits for a retrained link. -/
def retrainExec (s : State) (p : Fin 32) : Option Exec :=
  s.execs.find? fun e => e.op == 0x0203 && fld e.p 8 1 == p.1 && e.wait == .retrain

/-- How the link steps under way have ended, if they have (R212): HIF-A has no lock to wait for; on HIF-B and HIF-C four locked lanes are a
success, and lanes short of that a failure once the attempts are used up, with no status block read under way. -/
def Port.linkOutcome (x : Port) : Option Bool :=
  if x.gen = 1 ∨ x.link.lanes = 15 then some true
  else if x.gen = 2 then (if x.hm.any fun j => j.why == .lock then none else some false)
  else if x.link.train < 2 then none else some false

/-- The time of a link attempt has passed, at phase `till` of the clock. On HIF-C the first attempt without lock is followed by a retry (R212). Ports that PORT_OPEN,
PORT_CONFIG or PW_CTRL.RETRAIN brought here go on as each says. Log entry 52: DESIGN CHOICE. -/
def bringupDone (p : Fin 32) (till : Nat) (s0 : State) : State :=
  let x := s0.port p
  let s := s0.advanceTo till
  if x.link.train = 0 then s0
  else match x.linkOutcome, openExec s p, retrainExec s p with
    | none, _, _ =>
      if x.gen = 3 then s.modPort p fun y => { y with link := { y.link with train := y.link.train + 1 } } else s
    | some ok, some e, _ => if ok then openSucceeds s p e else openFails s p stPortFault 9
    | some ok, none, some e =>
      if ok && decide (x.st = .idle) then endExec (linkTrained s p) e stOk 0 else endExec (linkFails s p) e stPortFault 0
    | some ok, none, none => if x.st = .idle then (if ok then linkTrained s p else linkFails s p) else s
where
  /-- a port in IDLE whose link does not come up again faults with LINK_LOST (R219, R222) -/
  linkFails (s : State) (p : Fin 32) : State :=
    portFault (s.modPort p fun y => { y with link := { y.link with train := 0 } }) p 3

/-! ### PORT_CLOSE (R224) -/

/-- PORT_CLOSE acts: a bring-up is abandoned, and wear is committed. -/
def startClosing (s : State) (h : CmdHdr) (p : Params) (r : Fin 32) : State :=
  let s1 := match openExec s r with
    | some e => dropJobs (endExec s e stAborted (openRes (s.port r) 0)) r (fun j => j.why == .ident || j.why == .lock) stAborted
    | none => s
  pumpHead (addCommit (beginExec s1 0x0202 h p .wear 0) r (some s1.nextId)) r

/-- PORT_CLOSE. -/
def portClose (h : CmdHdr) (p : Params) (s : State) : State :=
  let r := portNo (fld p 8 1)
  let st := (s.port r).st
  command 0x0202 h p s [(8, 1)]
    [(portBad s (fld p 8 1), stRange), (decide (st ≠ .opening ∧ st ≠ .idle ∧ st ≠ .fault), stBadState)]
    (fun t => complete t h stOk 0) (fun t => startClosing t h p r)

/-! ### PORT_CONFIG (R142, R183, R222, R242) -/

/-- The settings of PORT_CONFIG. -/
def portCfgOf (p : Params) : PortCfg :=
  { form := fld p 9 1, nrl := bit (fld p 10 1) 0, depth := fld p 11 1, nozzles := fld p 12 2, errLimit := fld p 14 1, laneRate := fld p 16 2 }

/-- NOZZLES, FORM or DEPTH change. -/
def cfgChanges (x : Port) (c : PortCfg) : Bool :=
  match x.cfg with
  | some o => o.nozzles != c.nozzles || o.form != c.form || o.depth != c.depth
  | none => true

/-- The tables of an IDLE port whose NOZZLES, FORM or DEPTH changes go back to their defaults; signatures and the monitor layer go. -/
def resetTables (s : State) (p : Fin 32) (c : PortCfg) (newDepth : Bool) : State :=
  let fix := fun (b : Bank) =>
    let b1 := b.defaults c.nozzles c.depth
    if newDepth then { b1 with chA := ChanBank.default_, chB := ChanBank.default_ } else b1
  let s1 := (abortLearn s p).modPort p fun x => { x with
    banks := x.banks.map fun b => { b with live := fix b.live, shadow := fix b.shadow, old := none, written := [], poison := [] },
    chA := if newDepth then { x.chA with entry := 0 } else x.chA, chB := if newDepth then { x.chB with entry := 0 } else x.chB,
    rvs := { x.rvs with mon := List.replicate c.nozzles Mon.unknown, live := SigSet.empty c.nozzles 0, pointer := 0, swapDue := false,
                        monReset := [] } }
  if newDepth then sendBothMaps s1 p else s1

/-- PORT_CONFIG acts. -/
def configure (s : State) (h : CmdHdr) (p : Params) (r : Fin 32) : State :=
  let x := s.port r
  let c := portCfgOf p
  let rate := match x.cfg with
    | some o => o.laneRate
    | none => c.laneRate
  let s1 := s.modPort r fun y => { y with cfg := some c }
  if x.st = .closed then complete s1 h stOk 0
  else
    let s2 := if cfgChanges x c then resetTables s1 r c (decide (x.depth ≠ c.depth)) else s1
    if rate = c.laneRate then complete s2 h stOk 0
    else pumpHead (startTraining (beginExec s2 0x0203 h p .retrain 0) r) r

/-- PORT_CONFIG. -/
def portConfig (h : CmdHdr) (p : Params) (s : State) : State :=
  let r := portNo (fld p 8 1)
  let x := s.port r
  let c := portCfgOf p
  let lr := match x.profile with
    | some f => ((laneRange f.gen).1, min (laneRange f.gen).2 f.laneMax)
    | none => (10, 3125)
  let depths := match x.profile with
    | some f => f.depths &&& rdAt x.ident 6 1
    | none => 0
  command 0x0203 h p s [(8, 1), (9, 1), (10, 1), (11, 1), (12, 2), (14, 1), (16, 2)]
    [(decide (2 < c.form) || rsv (fld p 10 1) 0x01 || (c.depth != 2 && c.depth != 3), stBadParam),
     (portBad s (fld p 8 1) || out c.nozzles 1 8192 || out c.laneRate lr.1 lr.2, stRange),
     (decide (x.st ≠ .closed ∧ x.st ≠ .idle), stBadState),
     (decide (x.st = .idle) && (c.nozzles != rdAt x.ident 4 2 || !(bit depths (c.depth - 2))), stBadParam)]
    (fun t => complete t h stOk 0) (fun t => configure t h p r)

/-! ### PORT_QUERY (R225) -/

/-- The record of PORT_QUERY, as its table lays it out: the table has no place for the compensation MODE that R172 says PORT_QUERY reports.
Log entry 98: DEDUCED. -/
def portRecord (s : State) (p : Fin 32) : Bytes :=
  let x := s.port p
  let q := match s.quireOf p with
    | some qi => qi.1
    | none => 0xFF
  let c := x.cfg.getD { form := 0, nrl := false, depth := 0, nozzles := 0, errLimit := 0, laneRate := 0 }
  recBytes [(1, x.st.code), (1, if x.st = .fault then x.cause else 0), (1, x.gen), (1, q), (2, c.laneRate), (2, c.nozzles), (1, c.depth),
    (1, c.form + bitAt c.nrl 7), (2, x.heater.out)] ++ le16s x.therm.s0.shown ++ le16s x.therm.s1.shown ++
  (padTo 28 (if x.st = .closed then [] else x.ident)).take 28 ++ le 4 x.link.total ++ le 4 x.link.segLate ++ zeros 12

/-- PORT_QUERY. -/
def portQuery (h : CmdHdr) (p : Params) (s : State) : State :=
  let addr := fld p 16 8
  reportCmd 0x0204 h p s [(8, 1), (16, 8)]
    [(portBad s (fld p 8 1) || beyond s h addr 64, stRange), (misaddr h addr, stAlign)] addr
    (fun t => portRecord t (portNo (fld p 8 1))) (fun _ => 0)

/-! ### HEADMEM_READ and HEADMEM_WRITE (R226, R227) -/

/-- The checks that both share before a state is tested. -/
def headMemChecks (s : State) (h : CmdHdr) (p : Params) : List (Bool × Nat) :=
  let len := fld p 12 2
  let addr := fld p 16 8
  [(rsv (fld p 9 1) 0x01, stBadParam),
   (portBad s (fld p 8 1) || out len 1 4096 || decide (65536 < fld p 10 2 + len) || beyond s h addr (up64 len), stRange),
   (misaddr h addr, stAlign)]

/-- HEADMEM_READ. -/
def headmemRead (h : CmdHdr) (p : Params) (s : State) : State :=
  let r := portNo (fld p 8 1)
  let x := s.port r
  command 0x0205 h p s [(8, 1), (9, 1), (10, 2), (12, 2), (16, 8)]
    (headMemChecks s h p ++ [(decide (x.st = .opening), stBusy), (x.prsHigh, stHeadAbsent)])
    (fun t => complete t h stOk 0)
    (fun t => pumpHead (addJob (beginExec t 0x0205 h p .headMem 0) r (.reading (.host t.nextId) (fld p 10 2) (fld p 12 2))) r)

/-- HEADMEM_WRITE. -/
def headmemWrite (h : CmdHdr) (p : Params) (s : State) : State :=
  let r := portNo (fld p 8 1)
  let x := s.port r
  readCmd 0x0206 h p s [(8, 1), (9, 1), (10, 2), (12, 2), (16, 8)]
    (headMemChecks s h p ++ [(decide (x.st = .closed ∨ x.st = .opening), stBadState), (decide (fld p 10 2 < 0x0100), stLocked),
      (!s.writeSafe, stSupplyLow), (x.prsHigh, stHeadAbsent)])
    (fld p 16 8) (up64 (fld p 12 2)) (bit (fld p 9 1) 0)

/-- The host data of a HEADMEM_WRITE has arrived. -/
def headmemWriteDone (s : State) (e : Exec) (data : Bytes) : State :=
  let r := portNo (fld e.p 8 1)
  let n := fld e.p 12 2
  dataDone s e [] 0 fun t =>
    pumpHead (addJob (t.modExec e.id fun x => { x with wait := .headMem }) r (.writing (.host e.id) (fld e.p 10 2) ((padTo n data).take n))) r

/-! ### HEATER_SET (R228) -/

/-- HEATER_SET. Without a profile, only what no profile could allow is out of range. -/
def heaterSet (h : CmdHdr) (p : Params) (s : State) : State :=
  let r := portNo (fld p 8 1)
  let x := s.port r
  let mode := fld p 9 1
  let sp := sfld p 12 2
  let lim := match x.profile with
    | some f => (f.tWarn, f.htrMax)
    | none => (32768, 1023)
  plainCmd 0x0207 h p s [(8, 1), (9, 1), (10, 1), (12, 2), (14, 2)]
    [(decide (2 < mode ∨ 2 < fld p 10 1) || (mode != 1 && fld p 12 2 != 0) || (mode != 2 && fld p 14 2 != 0), stBadParam),
     (portBad s (fld p 8 1) || (mode == 1 && decide (sp < -640 ∨ lim.1 ≤ sp)) || (mode == 2 && decide (lim.2 < fld p 14 2)), stRange),
     (decide (x.st = .closed), stBadState)]
    (fun t => t.modPort r fun y => { y with heater := { y.heater with mode := mode, sensor := fld p 10 1, setpoint := sp, duty := fld p 14 2 } })

/-! ### The link in service (R208, R209, R212, R216) -/

/-- A write of PW_CTRL: ARM_CLEAR and HTR_FORCE_OFF are live, so they take effect at the port's next line boundary, or at once on a port
with no line to come (R18). -/
def pwCtrlWrite (s : State) (w : Win) (v : U32) : State :=
  (s.winTargets w).foldl (fun t p =>
    let t1 := t.modPort p fun x => { x with win := { x.win with ctrlDue := some (v.getLsbD 2, v.getLsbD 1) } }
    if (t.port p).st.inJob then t1 else liveControl t1 p) s

/-- A write of PW_CTRL with RETRAIN set: ports in IDLE repeat the link steps (R219), which end as `bringupDone` says.
Log entry 52: DESIGN CHOICE. -/
def retrain (w : Win) (v : U32) (s : State) : State :=
  let s1 := pwCtrlWrite s w v
  if v.getLsbD 0 then
    (s1.winTargets w).foldl (fun t p => if (t.port p).st = .idle then pumpHead (startTraining t p) p else t) s1
  else s1

/-- PW_CTRL with RETRAIN set. -/
def retrainWord (htrOff armClear : Bool) : U32 := BitVec.ofNat 32 (1 + bitAt htrOff 1 + bitAt armClear 2)

/-- A level of HPnn_PRS_N, accepted once it has held for 1 ms (R209). -/
def presence (p : Fin 32) (high : Bool) (held : Nat) (s : State) : State :=
  let x := s.port p
  if held < msPh then s else
  let s1 := s.modPort p fun y => { y with prsHigh := high }
  if !high || decide (x.st = .closed) || x.prsHigh then (if high then dropJobs s1 p (fun _ => true) stHeadAbsent else s1)
  else
    let k := (x.win.lastDue).getD (-1)
    let s2 := raise (setPwEvent s1 p 2) evHeadLost kPort p.1 3 ([BitVec.ofNat 8 x.st.code] ++ zeros 7 ++ le 8 (uns 64 k))
    let s3 := dropJobs s2 p (fun _ => true) stHeadAbsent
    if x.st = .opening then openFails s3 p stHeadAbsent 0 else portFault s3 p 1

/-- T of a status frame: none for 0x8000. -/
def frameT (v : Nat) : Option Int := if v = 0x8000 then none else some (sgn 16 v)

/-- The sensors of a frame that T_ABS is compared with: those in use that are neither faulty nor substituted. Log entry 40: DEDUCED. -/
def frameTemps (x : Port) (t0 t1 : Option Int) : List (Nat × Int) :=
  x.sensorsUsed.filterMap fun i =>
    if (x.sensor i).faulty then none else (if i = 0 then t0 else t1).map fun t => (i, t)

/-- A status frame: K28.4, SEQ, FLAGS, T0, T1, CRC-8, first byte lowest (R208, R216, R259, R261). Log entry 51: DEDUCED. -/
def statusFrame (p : Fin 32) (frame : BitVec 64) (s : State) : State :=
  let d := bytesOf 8 frame
  let x := s.port p
  if x.gen ≠ 3 ∨ x.st = .closed then s
  else if rdAt d 0 1 ≠ 0x9C ∨ (crc8 (d.take 7)).toNat ≠ rdAt d 7 1 then
    (if x.link.up then linkError s p 1 (-1) else s)
  else
    let f := rdAt d 2 1
    let t0 := frameT (rdAt d 3 2)
    let t1 := frameT (rdAt d 5 2)
    let lanes := bits f 4 1
    let s1 := s.modPort p fun y => { y with link := { y.link with
      lastStatus := s.clk, lanes := lanes, bcT0 := some t0, bcT1 := some t1,
      unlockedAt := if lanes = 15 then none else some (y.link.unlockedAt.getD s.clk) } }
    let zero := List.replicate x.nozzles 0
    let s2 := if bit f 0 && x.link.up then
        linkError (s1.modPort p fun y => { y with link := { y.link with
          headPend := zero, headActive := if y.link.headActive = y.link.headPend then zero else y.link.headActive } }) p 0
          (x.link.latchK.getD (-1))
      else s1
    let s3 := if bit f 5 then portFault s2 p 5 else s2
    checkAbs s3 p (highestOf (frameTemps (s3.port p) t0 t1))

/-- No lane lock, or no valid status frame, for 16 µs (R216). -/
def linkLost (p : Fin 32) (s : State) : State :=
  let x := s.port p
  if x.gen ≠ 3 ∨ x.st = .closed ∨ x.st = .opening ∨ x.link.up = false then s
  else
    let since := match x.link.unlockedAt with
      | some t => min t x.link.lastStatus
      | none => x.link.lastStatus
    let t := s.advanceTo (since + 16 * usPh)
    let s1 := portFault (t.modPort p fun y => { y with link := { y.link with up := false } }) p 3
    dropJobs s1 p (fun j => j.sent == some true) stPortFault

/-- A block of link errors ends: after 1,024 lines of a job, or after 10 ms without one (R216). -/
def blockEnd (p : Fin 32) (s : State) : State :=
  let x := s.port p
  if x.st = .closed then s
  else if x.st.busy then
    (if 1024 ≤ x.link.blockLines then s.modPort p fun y => { y with link := y.link.newBlock s.clk } else s)
  else
    let t := s.advanceTo (x.link.blockStart + 10 * msPh)
    t.modPort p fun y => { y with link := y.link.newBlock t.clk }

/-! ### Meanings of the rows -/

/-- PORT_OPEN (R223). -/
def execPortOpen (h : CmdHdr) (p : Params) (s : State) : Host.Outcome State Fault Refusal := .next (portOpen h p s)

/-- PORT_CLOSE (R224). -/
def execPortClose (h : CmdHdr) (p : Params) (s : State) : Host.Outcome State Fault Refusal := .next (portClose h p s)

/-- PORT_CONFIG (R222). -/
def execPortConfig (h : CmdHdr) (p : Params) (s : State) : Host.Outcome State Fault Refusal := .next (portConfig h p s)

/-- PORT_QUERY (R225). -/
def execPortQuery (h : CmdHdr) (p : Params) (s : State) : Host.Outcome State Fault Refusal := .next (portQuery h p s)

/-- HEADMEM_READ (R226). -/
def execHeadmemRead (h : CmdHdr) (p : Params) (s : State) : Host.Outcome State Fault Refusal := .next (headmemRead h p s)

/-- HEADMEM_WRITE (R227). -/
def execHeadmemWrite (h : CmdHdr) (p : Params) (s : State) : Host.Outcome State Fault Refusal := .next (headmemWrite h p s)

/-- HEATER_SET (R228). -/
def execHeaterSet (h : CmdHdr) (p : Params) (s : State) : Host.Outcome State Fault Refusal := .next (heaterSet h p s)

/-- HEAD_PROFILE_LOAD (R221). -/
def execHeadProfileLoad (h : CmdHdr) (p : Params) (s : State) : Host.Outcome State Fault Refusal := .next (headProfileLoad h p s)

/-- PW_CTRL_RETRAIN (R212). -/
def execPwCtrlRetrain (w : Win) (htrOff armClear : Bool) (s : State) : Host.Outcome State Fault Refusal :=
  .next (retrain w (retrainWord htrOff armClear) s)

/-- HEAD_PRESENCE_CHANGE (R209). -/
def execHeadPresenceChange (p : Fin 32) (x : HeldLevel) (s : State) : Host.Outcome State Fault Refusal :=
  .next (presence p x.high x.held s)

/-- PORT_BRINGUP_DONE (R212). -/
def execPortBringupDone (p : Fin 32) (till : Nat) (s : State) : Host.Outcome State Fault Refusal := .next (bringupDone p till s)

/-- BACK_CHANNEL_STATUS (R208). -/
def execBackChannelStatus (p : Fin 32) (frame : BitVec 64) (s : State) : Host.Outcome State Fault Refusal := .next (statusFrame p frame s)

/-- LINK_LOST (R216). -/
def execLinkLost (p : Fin 32) (s : State) : Host.Outcome State Fault Refusal := .next (linkLost p s)

/-- LINK_BLOCK_END (R216). -/
def execLinkBlockEnd (p : Fin 32) (s : State) : Host.Outcome State Fault Refusal := .next (blockEnd p s)

end Sys2Proof.Machine
end

