-- ==== Sys2Proof/Machine/Thermal.lean ====
section
/-! DEFINITION. The housekeeping round: conversions, sensor faults, cross-checks, substitutes, head and die limits, supplies, heaters,
the thermal demand, and the commands THERM_LIMITS, THERM_QUERY, SENSOR_SUBSTITUTE and SUPPLY_QUERY (09_thermal_supply.md). -/

namespace Sys2Proof.Machine

/-! ### Conversions (R257, R258) -/

/-- The average of 16 conversions. -/
def averaged (sum : Nat) : Nat := (sum + 8) / 16

/-- The temperature of a code on a curve of pairs; none outside the curve. -/
def onCurve : List (Nat × Int) → Nat → Option Int
  | a :: b :: t, c =>
    if c < a.1 then none
    else if c ≤ b.1 then some (a.2 + roundDiv (((c - a.1 : Nat) : Int) * (b.2 - a.2)) (b.1 - a.1 : Nat))
    else onCurve (b :: t) c
  | _, _ => none

/-- What a round reads of a head sensor. -/
inductive Reading where
  | val (t : Int)
  /-- a value fault: 1 OPEN, 2 SHORT, 3 RANGE, 4 HEAD_REPORTED -/
  | bad (kind : Nat)
  /-- no status frame has come yet -/
  | nothing
  deriving DecidableEq, Repr

/-- The reading of a sensor of a port (R258, R259). -/
def readingOf (x : Port) (i sum : Nat) : Reading :=
  match x.profile with
  | none => .nothing
  | some f =>
    if f.gen = 3 then
      match if i = 0 then x.link.bcT0 else x.link.bcT1 with
      | none => .nothing
      | some none => .bad 4
      | some (some t) => .val t
    else
      let c := averaged sum
      if c < 64 then .bad 2
      else if 4031 < c then .bad 1
      else match onCurve f.thCurve c with
        | some t => .val t
        | none => .bad 3

/-! ### Sensors (R270 to R273) -/

/-- A sensor becomes faulty. -/
def sensorFails (s : State) (p : Fin 32) (i cause : Nat) (t : Int) : State :=
  thermEvent (s.modPort p fun x => x.modSensor i fun y => { y with faulty := true, cause := cause, run := 0, value := none })
    evSensorFault 3 (some p) i t 0 0 cause (-1)

/-- One round's reading of a sensor in use. -/
def takeReading (s : State) (p : Fin 32) (i : Nat) (r : Reading) : State :=
  let y := (s.port p).sensor i
  let set := fun (f : Sensor → Sensor) => s.modPort p fun x => x.modSensor i f
  match r with
  | .nothing => set fun z => { z with value := none }
  | .val t => set fun z => { z with last := some t, run := 0, value := if y.faulty then none else some t }
  | .bad k =>
    if y.faulty then set fun z => { z with value := none }
    else if 1 ≤ y.run then sensorFails s p i k noTemp
    else set fun z => { z with run := z.run + 1, value := z.last }

/-- A sensor's substitute gives a value: another head sensor that is in use and not faulty, or the ambient input (R273). -/
def substValue (s : State) (u : Subst) : Option Int :=
  if u.ambient then s.th.ambT.map (· + u.ofs)
  else
    let y := s.port (portNo u.port)
    if y.st = .closed ∨ (y.sensor u.sensor).faulty then none else (y.sensor u.sensor).value.map (· + u.ofs)

/-- Substitutes take effect at the round end. -/
def substitute (before s : State) (p : Fin 32) : State :=
  (s.port p).sensorsUsed.foldl (fun t i =>
    let y := (before.port p).sensor i
    match y.faulty, y.subst with
    | true, some u => t.modPort p fun x => x.modSensor i fun z => { z with value := substValue before u }
    | _, _ => t) s

/-- Insert into a rising list. -/
def insertSorted (x : Int) : List Int → List Int
  | [] => [x]
  | y :: t => if x ≤ y then x :: y :: t else y :: insertSorted x t

/-- The median; the middle two's mean, rounded down, for an even count (R271). -/
def median (l : List Int) : Int :=
  let v := l.foldr insertSorted []
  let n := v.length
  if n % 2 = 1 then nth v (n / 2) 0 else Int.fdiv (nth v (n / 2 - 1) 0 + nth v (n / 2) 0) 2

/-- The values of a sensor's neighbours (R271). Log entry 55: DEDUCED. -/
def neighbours (s : State) (p : Fin 32) (i : Nat) : List Int :=
  let x := s.port p
  let own := (x.sensorsUsed.filter fun j => j != i).filterMap fun j => (x.sensor j).value
  let near := fun (q : Nat) =>
    match toFin? 32 q with
    | none => []
    | some r =>
      let y := s.port r
      if y.st = .closed then [] else y.sensorsUsed.filterMap fun j => if (y.sensor j).faulty then none else (y.sensor j).value
  own ++ (if p.1 = 0 then [] else near (p.1 - 1)) ++ near (p.1 + 1) ++ s.th.ambT.toList

/-- Cross-check one sensor against the values of state `v` (R271, R272). Log entry 55: DEDUCED. -/
def crossCheck (v s : State) (p : Fin 32) (i : Nat) (r : Reading) : State :=
  let ns := neighbours v p i
  if ns.length < 2 then s.modPort p fun x => { x with therm := { x.therm with unchecked := true } }
  else
    let faulty := (s.port p).sensor i |>.faulty
    match r with
    | .nothing => s.modPort p fun x => { x with therm := { x.therm with unchecked := true } }
    | .bad _ => if faulty then s else sensorFails s p i 5 noTemp
    | .val t =>
      let ok := decide ((t - median ns).natAbs ≤ 128)
      if ok && faulty then (sensorCleared s p i).modPort p fun x => x.modSensor i fun z => { z with value := some t }
      else if !ok && !faulty then sensorFails s p i 5 t
      else s

/-- The ports whose sensors this round cross-checks: after an identity read, at the first round after a reset, and for SELFTEST.
Log entry 55: DEDUCED. -/
def checkedPorts (s : State) : List (Fin 32) :=
  let all := s.th.firstRound || s.execs.any fun e => e.wait == .round
  (idx 32).filter fun p => (s.port p).st != .closed && (all || (s.port p).therm.checkDue)

/-! ### Head limits (R260 to R264, R487) -/

/-- The values of the sensors in use, and whether one of them counts as at or above T_LIMIT. Log entry 40: DEDUCED. -/
def headValues (x : Port) : List (Nat × Int) := x.sensorsUsed.filterMap fun i => (x.sensor i).value.map fun t => (i, t)
def headLost (x : Port) : Bool := x.sensorsUsed.any fun i => (x.sensor i).lost

/-- The thermal manager holds the heater off (R261, R263, R270). -/
def HeadTherm.holds (h : HeadTherm) : Bool := h.absHold || h.limHold || h.enforce

/-- T_LIMIT (R261, R487). Log entry 40: DEDUCED. -/
def checkLimit (s : State) (p : Fin 32) (f : Profile) (high : Option (Nat × Int)) (lost : Bool) : State :=
  let h := (s.port p).therm
  let hot := match high with
    | some (_, t) => decide (f.tLimit ≤ t)
    | none => false
  let below := fun (thr : Int) => !lost && (match high with
    | some (_, t) => decide (t < thr - f.tHyst)
    | none => false)
  if (hot || lost) && !h.limSeen then
    let line := firstActed s p
    let s1 := heaterOff (s.modPort p fun x => { x with therm := { x.therm with limSeen := true, limHold := true } }) p
    let who := match high, hot with
      | some w, true => w
      | _, _ => (0xFF, noTemp)
    thermEvent (headStop s1 p) evLimitStop 3 (some p) who.1 who.2 f.tLimit 0 0 line
  else
    s.modPort p fun x => { x with therm := { x.therm with
      limSeen := h.limSeen && !(below f.tLimit), limHold := h.limHold && !(below f.tLimit), absHold := h.absHold && !(below f.tWarn) } }

/-- v_q of the port's quire, when that draws lines (R262). Log entry 54: DEDUCED. -/
def latchV (s : State) (p : Fin 32) : Option (Nat × Nat) :=
  match s.quireOf p with
  | some q => if (s.quire q).st.runs then some (s.vOf q) else none
  | none => none

/-- The throttle episode and its enforcement (R262, R263); where a faulty sensor alone makes the head count as hot, no sensor value has
decided (R270, R277). -/
def checkWarn (s : State) (p : Fin 32) (f : Profile) (high : Option (Nat × Int)) (lost : Bool) : State :=
  let decided := match high with
    | some (_, t) => decide (f.tWarn ≤ t)
    | none => false
  let who := if lost && !decided then (0xFF, noTemp) else high.getD (0xFF, noTemp)
  let warm := lost || (match high with
    | some (_, t) => decide (f.tWarn ≤ t)
    | none => false)
  let cool := !lost && (match high with
    | some (_, t) => decide (t < f.tWarn - f.tHyst)
    | none => false)
  let s1 := match (s.port p).therm.epi with
    | none =>
      if warm then
        thermEvent (s.modPort p fun x => { x with therm := { x.therm with epi := some (s.clk, s.th.graceMs, latchV s p) } })
          evThrottle 2 (some p) who.1 who.2 f.tWarn 0 0 (-1)
      else s
    | some (t, g, v) =>
      if cool then endHeadEpisode s p who.1 who.2 f.tWarn
      else s.modPort p fun x => { x with therm := { x.therm with epi := some (t, g, match v with
        | some w => some w
        | none => latchV s p) } }
  match (s1.port p).therm.epi with
  | some (t, g, _) =>
    if !(s1.port p).therm.enforce && warm && decide (t + g * msPh ≤ s1.clk) then
      let line := firstActed s1 p
      let s2 := request s1 (.headEnforce p) (.port p) (.cap (BitVec.ofNat 3 f.capLevel))
      thermEvent (heaterOff (s2.modPort p fun x => { x with therm := { x.therm with enforce := true } }) p)
        evEnforce 2 (some p) who.1 who.2 f.tWarn 0 0 line
    else s1
  | none => s1

/-- The cold limits; without a value nothing changes (R260, R261). Log entry 37: DEDUCED. -/
def checkCold (s : State) (p : Fin 32) (f : Profile) (low : Option (Nat × Int)) : State :=
  match low with
  | none => s
  | some (i, t) =>
    let s1 :=
      if (s.port p).therm.cold then (if f.tColdWarn + f.tHyst ≤ t then endColdWarn s p i t f.tColdWarn else s)
      else if t < f.tColdWarn then
        thermEvent (s.modPort p fun x => { x with therm := { x.therm with cold := true } }) evColdInhibit 2 (some p) i t f.tColdWarn 0 0 (-1)
      else s
    if (s1.port p).therm.minjet then (if f.tMinjet + f.tHyst ≤ t then endMinjet s1 p i t f.tMinjet else s1)
    else if t < f.tMinjet then
      let line := firstActed s1 p
      let s2 := request s1 (.headMinJet p) (.port p) .inhibit
      thermEvent (s2.modPort p fun x => { x with therm := { x.therm with minjet := true } }) evColdInhibit 2 (some p) i t f.tMinjet 0 1 line
    else s1

/-- The time at or above T_WARN runs or stops (R246). -/
def warmTime (s : State) (p : Fin 32) (f : Profile) (high : Option (Nat × Int)) : State :=
  match high with
  | some (_, t) =>
    s.modPort p fun x => { x with wear :=
      if f.tWarn ≤ t then { x.wear with warmFrom := some (x.wear.warmFrom.getD s.clk) } else x.wear.cool s.clk }
  | none => s.modPort p fun x => { x with wear := x.wear.cool s.clk }

/-- Every limit of one head. -/
def headLimits (s : State) (p : Fin 32) : State :=
  let x := s.port p
  match x.profile with
  | none => s
  | some f =>
    if x.st = .closed then s
    else
      let vs := headValues x
      let high := highestOf vs
      let lost := headLost x
      warmTime (checkCold (checkWarn (checkLimit (checkAbs s p high) p f high lost) p f high lost) p f (lowestOf vs)) p f high

/-! ### Heaters (R213, R214) -/

/-- Units of the heater's integral: one duty count is 64,000,000 of them (KI × e × Δt is then a whole number). -/
def heatUnit : Int := 64000000

/-- The heater at a round end. Log entry 54: DEDUCED. -/
def heaterRound (s : State) (p : Fin 32) : State :=
  let x := s.port p
  let off := x.st == .closed || x.st == .opening || x.st == .fault || x.win.htrOff || x.therm.holds || x.heater.mode == 0
  match x.profile, x.tempFor x.heater.sensor with
  | some f, some t =>
    if off then heaterOff s p
    else
      let e := x.heater.setpoint - t
      let top : Int := f.htrMax
      let i := if x.heater.mode = 1 then clampI 0 (top * heatUnit) (x.heater.integ + f.htrKi * e * s.th.round) else 0
      let duty := if x.heater.mode = 2 then x.heater.duty else (clampI 0 top (Int.fdiv (f.htrKp * e * 15625 + i) heatUnit)).toNat
      let s1 := s.modPort p fun y => { y with heater := { y.heater with integ := i, out := duty } }
      if duty = x.heater.out then s1 else s1.emit (.heater p.1 duty)
  | _, _ => heaterOff s p

/-! ### The die (R265 to R269) -/

/-- The die temperature: the highest sensor, by number on a tie. -/
def State.dieHigh (s : State) : Option (Nat × Int) :=
  highestOf ((idx 8).filterMap fun i => (look s.th.die i).map fun t => (i.1, t))

/-- The first line of the lowest-numbered quire that draws lines on which a request arriving now acts: the first of its ports' lines (R277);
−1 without one. -/
def firstRunning (s : State) : Int :=
  match (idx 8).find? fun q => (s.quire q).st.runs with
  | none => -1
  | some q =>
    match (s.activeOf q).map (firstActed s) with
    | [] => s.quireNext q
    | k :: ks => ks.foldl (if (s.quire q).dir < 0 then max else min) k

/-- The die throttle episode (R266). -/
def dieWarnCheck (s : State) (i : Nat) (t : Int) : State :=
  match s.th.epi with
  | none =>
    if s.th.dieWarn ≤ t then
      let v := Vector.ofFn fun q : Fin 8 => if (s.quire q).st.runs then some (s.vOf q) else none
      thermEvent { s with th := { s.th with epi := some (s.clk, s.th.graceMs), epiV := v } } evThrottle 2 none i t s.th.dieWarn 0 0 (-1)
    else s
  | some _ =>
    if t < s.th.dieWarn - 80 then
      let s1 := if s.th.enforce then thermEvent s evEnforce 0 none i t s.th.dieWarn 1 0 (-1) else s
      thermEvent { s1 with th := { s1.th with epi := none, epiV := .replicate 8 none, enforce := false },
                           glb := { s1.glb with forced := false } } evThrottle 0 none i t s.th.dieWarn 1 0 (-1)
    else s

/-- Die enforcement forces CAPPED once the grace time has passed (R266). -/
def dieEnforceCheck (s : State) (i : Nat) (t : Int) : State :=
  match s.th.epi with
  | some (t0, g) =>
    if !s.th.enforce && decide (s.th.dieWarn ≤ t ∧ t0 + g * msPh ≤ s.clk) then
      thermEvent { s with th := { s.th with enforce := true }, glb := { s.glb with forced := true } } evEnforce 2 none i t s.th.dieWarn 0 0 (-1)
    else s
  | none => s

/-- The die limit stop: every quire stops, wear is committed, FAULT_N is asserted (R267). -/
def dieLimitCheck (s : State) (i : Nat) (t : Int) : State :=
  if s.th.limitStop then
    (if t < s.th.dieWarn then faultEdge { s with th := { s.th with limitStop := false, faultReq := false } } else s)
  else if s.th.dieLimit ≤ t then
    let line := firstRunning s
    let s1 := evtStop (faultEdge (stopAll { s with th := { s.th with limitStop := true, faultReq := true } } 13)) 1 13
    let s2 := forAll s1 fun (u : State) (p : Fin 32) =>
      if (u.port p).st = .closed then u else pumpHead (addCommit u p none) p
    thermEvent s2 evLimitStop 4 none i t s.th.dieLimit 0 0 line
  else s

/-- The cold limit of the die, and the page store's training that waits for it (R120, R269): the event comes at entry alone.
Log entry 37: DEDUCED. -/
def dieColdCheck (s : State) (i : Nat) (t : Int) : State :=
  if s.th.cold then
    if -608 ≤ t then
      let s1 := { s with th := { s.th with cold := false } }
      if s1.page.st = .untrained ∧ s1.rst.seq = .ready then { s1 with page := { s1.page with st := .training } } else s1
    else s
  else if t < -640 then thermEvent { s with th := { s.th with cold := true } } evColdInhibit 2 none i t (-640) 0 2 (-1)
  else s

/-- Every limit of the die. -/
def dieLimits (s : State) : State :=
  match s.dieHigh with
  | none => s
  | some (i, t) => dieColdCheck (dieLimitCheck (dieEnforceCheck (dieWarnCheck s i t) i t) i t) i t

/-! ### The thermal demand (R262, R266) -/

/-- One quire's contribution for a latched v. -/
def contribution (s : State) (q : Fin 8) (v : Nat × Nat) : Nat :=
  max (s.quire q).dem.floor (65535 * v.1 * s.th.throttle / (256 * max v.2 1))

/-- The lowest contribution of every episode whose quire draws lines. -/
def State.thermalDemand (s : State) : Nat :=
  let heads := (idx 32).foldl (fun m p => match (s.port p).therm.epi, s.quireOf p with
    | some (_, _, some v), some q => if (s.quire q).st.runs then min m (contribution s q v) else m
    | _, _ => m) 65535
  (idx 8).foldl (fun m q => match look s.th.epiV q with
    | some v => if (s.quire q).st.runs then min m (contribution s q v) else m
    | none => m) heads

/-- A fall of the thermal demand acts at once; DEMAND_EVAL raises it. Log entry 47: DEDUCED. -/
def demandRound (s : State) : State :=
  let d := s.thermalDemand
  updateDemand { s with th := { s.th with demandTo := d, demand := min s.th.demand d } }

/-! ### Supplies (R274) -/

/-- The window of a supply channel in 0.1 mV. -/
def supplyWindow (c : Nat) : Nat × Nat :=
  nth ([(7275, 7725), (7275, 7725), (7275, 7725), (7275, 7725), (7600, 8400), (7600, 8400), (8075, 8925), (8075, 8925), (9975, 11025),
    (9975, 11025)] ++ [(4750, 5250), (4750, 5250), (17100, 18900), (17100, 18900), (17100, 18900), (17100, 18900), (31350, 34650),
    (16000, 36000), (17100, 18900), (11760, 12240)]) c (0, 0xFFFFFFFF)

/-- SYS_SUPPLY_LOW (R277). -/
def supplyEvent (s : State) (kind who mv phase cut : Nat) : State :=
  raise s evSupplyLow kDevice 0 (endedSev 2 phase)
    ([BitVec.ofNat 8 kind, BitVec.ofNat 8 who] ++ le 2 mv ++ [BitVec.ofNat 8 phase, BitVec.ofNat 8 cut, 0, 0] ++ le 8 s.ns)

/-- One supply channel at a round end. Log entry 56: DEDUCED. -/
def supplyCheck (s : State) (c : Fin 20) : State :=
  let mv := look s.th.supply c
  let w := supplyWindow c.1
  let high := decide (w.2 < 10 * mv)
  let outside := (decide (10 * mv < w.1) || high) && (c.1 != 18 || s.th.vppPresent)
  let flag : BitVec 20 := BitVec.ofNat 20 (2 ^ c.1)
  let run := if outside then look s.th.outRun c + 1 else 0
  let s1 := { s with th := { s.th with outRun := upd s.th.outRun c fun _ => run } }
  if outside && decide (2 ≤ run) && !(s.th.window.getLsbD c.1) then
    supplyEvent { s1 with th := { s1.th with window := s1.th.window ||| flag,
                                             windowHi := if high then s1.th.windowHi ||| flag else s1.th.windowHi &&& ~~~flag,
                                             event := s1.th.event ||| 0x40 } } (if high then 2 else 1) c.1 mv 0 0
  else if !outside && s.th.window.getLsbD c.1 then
    supplyEvent { s1 with th := { s1.th with window := s1.th.window &&& ~~~flag } } (if s.th.windowHi.getLsbD c.1 then 2 else 1) c.1 mv 1 0
  else s1

/-! ### Registers and records -/

/-- The head counts as at or above T_LIMIT: by its highest value, or by a sensor in use that is faulty and takes no value from a substitute
(R264, R270, R273). Log entry 40: DEDUCED. -/
def Port.limitNow (p : Port) : Bool :=
  p.st != .closed && ((match p.profile, highestOf (headValues p) with
    | some f, some (_, t) => decide (f.tLimit ≤ t)
    | _, _ => false) || headLost p)

/-- THM_HEAD_WARN, _ENF, _LIMIT, _COLD, THM_FAULT_S0, _S1, THM_SUBST_S0, _S1. -/
def State.thmMasks (s : State) : List Nat :=
  [s.portMask fun x => x.therm.epi.isSome, s.portMask fun x => x.therm.enforce, s.portMask Port.limitNow,
   s.portMask fun x => x.therm.minjet, s.portMask fun x => x.therm.s0.faulty, s.portMask fun x => x.therm.s1.faulty,
   s.portMask fun x => x.therm.s0.subst.isSome, s.portMask fun x => x.therm.s1.subst.isSome]

/-- THM_STATE bits 4:0. -/
def State.thmState (s : State) : Nat :=
  bitAt s.th.epi.isSome 0 + bitAt s.th.enforce 1 + bitAt s.th.limitStop 2 + bitAt s.th.cold 3 + bitAt s.th.faultReq 4

/-- THM_SUPPLY. -/
def State.thmSupply (s : State) : Nat :=
  256 * s.th.window.toNat + bitAt s.writeSafe 4 + bitAt s.th.vppPresent 3 + bitAt s.th.wsVpp 2 + bitAt s.th.wsVddio 1 + bitAt s.th.wsVdd 0

/-- The record of THERM_QUERY. -/
def thermRecord (s : State) : Bytes :=
  let m := s.thmMasks
  ((idx 32).flatMap fun p => le16s (s.port p).therm.s0.shown ++ le16s (s.port p).therm.s1.shown) ++
  ((idx 8).flatMap fun i => le16s ((look s.th.die i).getD noTemp)) ++ ((idx 8).flatMap fun i => le 2 (look s.th.aux i)) ++
  ([4, 5, 6, 7, 0, 1, 2, 3].flatMap fun i => le 4 (nth m i 0)) ++ le 4 (s.portMask fun x => x.therm.unchecked) ++ le 2 s.th.demand ++
  [BitVec.ofNat 8 s.thmState, 0] ++ bytesOf 4 s.th.roundCount ++ zeros 52

/-! ### The round (R257, R271) -/

/-- The readings of a round, for every sensor in use of every port that is not CLOSED. -/
def roundReading (x : Port) (p : Fin 32) (i : Nat) (rd : HkRound) : Reading := readingOf x i (nth rd.th (2 * p.1 + i) 0)

/-- Sensors of every port: readings, substitutes, cross-checks. -/
def sensorRound (s : State) (rd : HkRound) : State :=
  let checked := checkedPorts s
  let open_ := (idx 32).filter fun p => (s.port p).st != .closed
  let s1 := open_.foldl (fun t p => (s.port p).sensorsUsed.foldl (fun u i => takeReading u p i (roundReading (s.port p) p i rd)) t) s
  let s2 := open_.foldl (fun t p => substitute s1 t p) s1
  checked.foldl (fun t p =>
    let t1 := t.modPort p fun x => { x with therm := { x.therm with unchecked := false, checkDue := false } }
    (s.port p).sensorsUsed.foldl (fun u i => crossCheck s2 u p i (roundReading (s.port p) p i rd)) t1) s2

/-- The HIF-B status blocks are read every round (R210). -/
def statusReads (s : State) : State :=
  forAll s fun (t : State) (p : Fin 32) =>
    let x := t.port p
    if x.gen = 2 && x.st != .closed && !(x.hm.any fun j => j.why == .status) then
      pumpHead (addJob t p (.reading .status 0x80 4)) p
    else t

/-- SELFTESTs complete with the record of the round (R279); in D3hot, where nothing can be written, with that of a later one (R337). -/
def selfTests (before s : State) : State :=
  let new := maskOf fun p : Fin 32 => [0, 1].any fun i => ((s.port p).sensor i).faulty && !((before.port p).sensor i).faulty
  (s.execs.filter fun e => e.wait == .round && !(linkRests s e.h)).foldl (fun t e =>
    endExec (if isDry e.h then t else writeOut t e.h (fld e.p 16 8) (thermRecord s)) e (if isDry e.h then stOk else outSt t e.h)
      (s.thmState + 2 ^ 32 * new)) s

/-! ### Background work that rounds drive (R452, R457, R459) -/

/-- The period of a scrub, patrol or calibration in ms, under the present share. -/
def State.bgPeriod (s : State) (a : Nat) : Nat :=
  let share := s.glb.bgShare.toNat
  if a = 0 ∨ a = 4 then nth [16000, 4000, 1000] share 1000
  else if a ≤ 3 then nth [4000, 1000, 250] share 250
  else if a = 5 then nth [240000, 60000, 15000] share 15000
  else nth [1800000, 600000, 120000] share 120000

/-- Calibration times move on with the time that work was suspended. -/
def Port.calLater (x : Port) (d : Nat) : Port :=
  { x with chA := { x.chA with lastCal := x.chA.lastCal + d }, chB := { x.chB with lastCal := x.chB.lastCal + d }, senseCal := x.senseCal + d }

/-- Die enforcement suspends background work and ends its suspension; the time between counts towards no period, and wear commits that
rested go on (R31, R459). -/
def suspendEdge (s : State) : State :=
  match s.th.enforce, s.bg.suspAt with
  | true, none => { s with bg := { s.bg with suspAt := some s.clk } }
  | false, some t =>
    let d := s.clk - t
    forAll { s with ports := updAll s.ports fun _ x => x.calLater d,
                    bg := { s.bg with suspAt := none, passStart := updAll s.bg.passStart fun i v => if i.1 < 9 then v + d else v } } pumpHead
  | true, some _ | false, none => s

/-- The housekeeping ADCs are calibrated in the idle part of the last round of their period (log entry 19). DEDUCED. -/
def hkCalibrate (s : State) : State :=
  let from_ := look s.bg.passStart 8
  if s.commandReady && !s.th.enforce && decide (s.bgPeriod 8 * msPh < s.clk - from_ + s.th.round * 64 * usPh) then
    { s with bg := { s.bg with durations := upd s.bg.durations 8 fun _ => (s.clk - from_) / msPh,
                               passStart := upd s.bg.passStart 8 fun _ => s.clk } }
  else s

/-- The round publishes the head temperature record, and the temperature-table entry of both channels follows its values, in the old bank of
R17 too where one is kept (R24, R184, R185). Log entry 35: DEDUCED. -/
def entriesFollow (s : State) (p : Fin 32) : State :=
  let s1 := s.modPort p fun x => { x with therm := { x.therm with rec0 := x.therm.s0.value, rec1 := x.therm.s1.value } }
  match (s.port p).banks with
  | none => s1
  | some b => match b.old with
    | none => s1.modPort p fun x => (x.readTemp b.live 0 .a).readTemp b.live 0 .b
    | some o => s1.modPort p fun x =>
      (((x.readTemp b.live o.from_ .a).readTemp b.live o.from_ .b).readTemp o.bank (o.from_ - 1) .a).readTemp o.bank (o.from_ - 1) .b

/-- A housekeeping round ends: every value is published at once, and every limit is evaluated. -/
def hkRound (rd : HkRound) (s0 : State) : State :=
  if !s0.rst.pllLocked then s0
  else
    let t := s0.advanceTo s0.th.roundAt
    let aux : Vector Nat 8 := Vector.ofFn fun i : Fin 8 => averaged (nth rd.aux i.1 0)
    let vdd := (rd.supply.take 4).foldl min ((rd.supply.head?).getD 0)
    let s := { t with th := { t.th with
      roundAt := t.clk + t.th.round * 64 * usPh, roundCount := t.th.roundCount + 1, die := Vector.ofFn fun i : Fin 8 => rd.die[i.1]?,
      aux := aux, ambT := t.th.ambient.bind fun i => onCurve t.th.ambCurve (look aux i),
      supply := Vector.ofFn fun i : Fin 20 => nth rd.supply i.1 0, lowVdd := some (min (t.th.lowVdd.getD vdd) vdd) } }
    let s1 := forAll (sensorRound s rd) entriesFollow
    let s2 := dieLimits (forAll { s1 with th := { s1.th with firstRound := false } } headLimits)
    let s3 := forAll (demandRound s2) heaterRound
    hkCalibrate (suspendEdge (selfTests t (statusReads (forAll s3 supplyCheck))))

/-! ### Commands (R278 to R281) -/

/-- AMB_CURVE. -/
def ambCurveOf (p : Params) : List (Nat × Int) := (List.range 8).map fun i => (fld p (24 + 4 * i) 2, sfld p (26 + 4 * i) 2)

/-- THERM_LIMITS. -/
def thermLimits (h : CmdHdr) (p : Params) (s : State) : State :=
  let warn := sfld p 12 2
  let lim := sfld p 14 2
  let amb := fld p 17 1
  plainCmd 0x0801 h p s [(8, 2), (10, 2), (12, 2), (14, 2), (16, 1), (17, 1), (24, 32)]
    [(amb == 0xFF && fld p 24 32 != 0, stBadParam),
     (out (fld p 8 2) 16 1000 || decide (60000 < fld p 10 2) || decide (warn < -640 ∨ 2160 < warn ∨ lim < warn + 16 ∨ 2320 < lim) ||
        fld p 16 1 == 0 || (amb != 0xFF && decide (7 < amb)), stRange),
     (amb != 0xFF && !(rising ((ambCurveOf p).map (·.1))), stBadParam)]
    (fun t => { t with th := { t.th with
      round := fld p 8 2, graceMs := fld p 10 2, dieWarn := warn, dieLimit := lim, throttle := fld p 16 1,
      ambient := if amb = 0xFF then none else toFin? 8 amb, ambCurve := if amb = 0xFF then [] else ambCurveOf p } })

/-- THERM_QUERY. -/
def thermQuery (h : CmdHdr) (p : Params) (s : State) : State :=
  let op := fld p 8 1
  let addr := fld p 16 8
  command 0x0802 h p s [(8, 1), (16, 8)]
    [(decide (1 < op), stBadParam), (beyond s h addr 256, stRange), (misaddr h addr, stAlign),
     (op == 1 && (idx 32).any fun r => (s.port r).st.busy, stBadState)]
    (fun t => complete t h stOk t.thmState)
    (fun t =>
      if op = 1 then beginExec t 0x0802 h p .round 0
      else complete (writeOut t h addr (thermRecord t)) h (outSt t h) t.thmState)

/-- The substitute that BIND names. -/
def substOf (p : Params) : Subst := { ambient := fld p 11 1 == 1, port := fld p 12 1, sensor := fld p 13 1, ofs := sfld p 14 2 }

/-- The substitute is the sensor itself, faulty, not in use, or an ambient input that is not named (R280). -/
def substBad (s : State) (p : Params) : Bool :=
  let u := substOf p
  if u.ambient then s.th.ambient.isNone
  else
    let y := s.port (portNo u.port)
    (u.port == fld p 8 1 && u.sensor == fld p 9 1) || (y.sensor u.sensor).faulty || !(y.sensorsUsed.contains u.sensor)

/-- SENSOR_SUBSTITUTE. -/
def sensorSubstitute (h : CmdHdr) (p : Params) (s : State) : State :=
  let r := portNo (fld p 8 1)
  let i := fld p 9 1
  let clear := fld p 10 1 == 1
  let x := s.port r
  let y := x.sensor i
  let u := substOf p
  plainCmd 0x0803 h p s [(8, 1), (9, 1), (10, 1), (11, 1), (12, 1), (13, 1), (14, 2)]
    [(decide (1 < i ∨ 1 < fld p 10 1 ∨ 1 < fld p 11 1 ∨ 1 < u.sensor) || (clear && (fld p 11 1 != 0 || fld p 14 2 != 0)) ||
        ((clear || u.ambient) && fld p 12 2 != 0), stBadParam),
     (portBad s (fld p 8 1) || portBad s u.port || decide (u.ofs < -320 ∨ 320 < u.ofs), stRange),
     (decide (x.st = .closed) || (if clear then y.subst.isNone else !y.faulty || !(x.sensorsUsed.contains i)), stBadState),
     (!clear && substBad s p, stBadParam)]
    (fun t =>
      let set := fun (o : Option Subst) => t.modPort r fun z => z.modSensor i fun w =>
        { w with subst := o, value := if o.isNone then none else w.value }
      if clear then thermEvent (set none) evSensorFault 1 (some r) i noTemp 0 1 7 (-1)
      else thermEvent (set (some u)) evSensorFault 1 (some r) i noTemp 0 0 6 (-1))

/-- The record of SUPPLY_QUERY. -/
def supplyRecord (s : State) : Bytes :=
  ((idx 20).flatMap fun c => le 2 (look s.th.supply c)) ++ le 4 s.thmSupply ++ le 4 s.th.wsLowCount ++ le 4 (s.th.lowVdd.getD 0) ++ zeros 12

/-- SUPPLY_QUERY. -/
def supplyQuery (h : CmdHdr) (p : Params) (s : State) : State :=
  let addr := fld p 16 8
  reportCmd 0x0804 h p s [(16, 8)] (addrChecks s h addr 64) addr supplyRecord (fun t => t.thmSupply % 32)

/-! ### Meanings of the rows -/

/-- HK_ROUND_END (R257). -/
def execHkRoundEnd (rd : HkRound) (s : State) : Host.Outcome State Fault Refusal := .next (hkRound rd s)

/-- THERM_LIMITS (R278). -/
def execThermLimits (h : CmdHdr) (p : Params) (s : State) : Host.Outcome State Fault Refusal := .next (thermLimits h p s)

/-- THERM_QUERY (R279). -/
def execThermQuery (h : CmdHdr) (p : Params) (s : State) : Host.Outcome State Fault Refusal := .next (thermQuery h p s)

/-- SENSOR_SUBSTITUTE (R280). -/
def execSensorSubstitute (h : CmdHdr) (p : Params) (s : State) : Host.Outcome State Fault Refusal := .next (sensorSubstitute h p s)

/-- SUPPLY_QUERY (R281). -/
def execSupplyQuery (h : CmdHdr) (p : Params) (s : State) : Host.Outcome State Fault Refusal := .next (supplyQuery h p s)

end Sys2Proof.Machine
end

