-- ==== Sys2Proof/Machine/OtpRead.lean ====
section
/-! DEFINITION. The OTP array as it reads: words, margins, regions, seals, locks, the anti-rollback count, the fuse load and the margin
checks (15_otp_trust.md R413 to R424, R432 to R434). -/

namespace Sys2Proof.Machine

/-! ### Words (R413, R414, R417) -/

/-- The 73 bits of a word: data, check bits, seal bit. -/
def otpBits (data : U64) (sealed : Bool) : BitVec 73 :=
  BitVec.ofNat 73 (data.toNat + (Config.eccCheck data).toNat * 2 ^ 64 + bitAt sealed 72)

def wordData (w : BitVec 73) : U64 := w.setWidth 64
def wordCheck (w : BitVec 73) : Byte := (w >>> 64).setWidth 8
def wordSealed (w : BitVec 73) : Bool := w.getLsbD 72

/-- What a word reads as. -/
inductive OtpReading where
  | clean (d : U64)
  | corrected (d : U64)
  | uncorrectable
  | unprogrammed
  | marginal
  deriving DecidableEq, Repr

/-- The bits of one margin resolved (R414). -/
def resolveBits (w : BitVec 73) : OtpReading :=
  if !(wordSealed w) then .unprogrammed
  else if wordCheck w = Config.eccCheck (wordData w) then .clean (wordData w)
  else match Config.eccFix (wordData w) (wordCheck w) with
    | some d => .corrected d
    | none => .uncorrectable

/-- A word read at both margins (R417). -/
def OtpWord.read (w : OtpWord) : OtpReading := if w.m0 ≠ w.m1 then .marginal else resolveBits w.m0

/-- Marginal or UNCORRECTABLE. -/
def OtpReading.bad : OtpReading → Bool
  | .marginal | .uncorrectable => true
  | .clean _ | .corrected _ | .unprogrammed => false

/-- The data a word reads as; 0 without any. -/
def OtpReading.data : OtpReading → U64
  | .clean d | .corrected d => d
  | .marginal | .uncorrectable | .unprogrammed => 0

/-- Sealed and readable. -/
def OtpReading.good : OtpReading → Bool
  | .clean _ | .corrected _ => true
  | .marginal | .uncorrectable | .unprogrammed => false

/-- STATUS of OTP_READ (R445). -/
def OtpReading.code : OtpReading → Nat
  | .clean _ => 0 | .corrected _ => 1 | .uncorrectable => 2 | .unprogrammed => 3 | .marginal => 4

/-! ### Regions and special words (R415, R416) -/

/-- The first word and the number of words of a region. -/
def otpBase (r : Nat) : Nat := nth [0, 128, 160, 224, 240, 256, 320, 576] r 0
def otpSize (r : Nat) : Nat := nth [128, 32, 64, 16, 16, 64, 256, 256] r 0

/-- The region has a map word and a seal word. -/
def sealable (r : Nat) : Bool := r ≤ 3 || r == 6 || r == 7

/-- The region that a word lies in; 8 for the reserved words. -/
def regionOf (n : Nat) : Nat :=
  ((List.range 8).find? fun r => decide (otpBase r ≤ n ∧ n < otpBase r + otpSize r)).getD 8

def mapData (r used : Nat) : U64 := BitVec.ofNat 64 (used + r * 2 ^ 16 + 0x4D * 2 ^ 24)
def sealWordData (r crc : Nat) : U64 := BitVec.ofNat 64 (crc + r * 2 ^ 32 + 0x53 * 2 ^ 40)
def lockData (r : Nat) (readLock : Bool) : U64 := BitVec.ofNat 64 (1 + bitAt readLock 1 + r * 2 ^ 8)
def arData (k : Nat) : U64 := BitVec.ofNat 64 (k + 1 + 0xAB * 2 ^ 56)

/-- The CRC of a seal over the data of words 0 to USED − 1 and the map word. -/
def sealCrc (data : List U64) (map : U64) : Nat := (crc32 ((data ++ [map]).flatMap fun d => bytesOf 8 d)).toNat

/-! ### The array as shipped (R415; log entry 5) -/

/-- The data of a word that Nohaid programs before shipment; none for a word left unprogrammed. -/
def shippedPlain (n : Nat) : Option U64 :=
  if n = 0 then some 0x0F0FC33C5AA5A55A
  else if n < 126 then some (Config.factoryWord n)
  else if 128 ≤ n ∧ n ≤ 130 then some 32
  else if 131 ≤ n ∧ n < 158 then some (Config.factoryWord n)
  else if 160 ≤ n ∧ n < 166 then some (Config.factoryWord n)
  else none

/-- USED of the shipped regions VT, ID and SEC. -/
def shippedUsed (r : Nat) : Nat := nth [126, 30, 6] r 0

/-- The same with map, seal and lock words. -/
def shippedData (n : Nat) : Option U64 :=
  let r := regionOf n
  if r ≤ 2 ∧ n = otpBase r + otpSize r - 2 then some (mapData r (shippedUsed r))
  else if r ≤ 2 ∧ n = otpBase r + otpSize r - 1 then
    some (sealWordData r (sealCrc ((List.range (shippedUsed r)).map fun i => (shippedPlain (otpBase r + i)).getD 0) (mapData r (shippedUsed r))))
  else if r = 4 ∧ (n - 240) % 8 ≤ 2 then some (lockData ((n - 240) % 8) false)
  else shippedPlain n

/-- A word as shipped. -/
def shippedWord (n : Nat) : OtpWord :=
  match shippedData n with
  | some d => { m0 := otpBits d true, m1 := otpBits d true }
  | none => { m0 := 0, m1 := 0 }

/-- A word of the array. Log entry 5: PRESUMED. -/
def Otp.word (o : Otp) (n : Nat) : OtpWord := (assoc n o.words).getD (shippedWord n)

/-- Change a word of the array. -/
def Otp.setWord (o : Otp) (n : Nat) (w : OtpWord) : Otp := { o with words := assocSet n w o.words }

def Otp.read (o : Otp) (n : Nat) : OtpReading := (o.word n).read

/-! ### Locks, policy, values (R417 to R419) -/

/-- The restrictive reading of a lock or restriction word. Log entry 64: DEDUCED. -/
def Otp.restrictive (o : Otp) (n : Nat) : U64 :=
  let w := o.word n
  if w.read.bad then wordData w.m0 ||| wordData w.m1 else w.read.data

/-- The OR of the two lock words of a region. -/
def Otp.lockBits (o : Otp) (r : Nat) : U64 := o.restrictive (240 + r) ||| o.restrictive (248 + r)
def Otp.locked (o : Otp) (r : Nat) : Bool := (o.lockBits r).getLsbD 0

/-- The seal of a region is valid (R416). -/
def Otp.sealValid (o : Otp) (r : Nat) : Bool :=
  let map := o.read (otpBase r + otpSize r - 2)
  let sl := o.read (otpBase r + otpSize r - 1)
  let used := map.data.toNat % 65536
  sealable r && map.good && sl.good && map.data == mapData r used && decide (used ≤ otpSize r - 2) &&
  sl.data == sealWordData r (sealCrc ((List.range used).map fun i => (o.read (otpBase r + i)).data) map.data)

/-- A locked region without a valid seal (R419). -/
def Otp.incomplete (o : Otp) (r : Nat) : Bool := sealable r && o.locked r && !(o.sealValid r)

/-- The usable copies of a triplicated value word at `n`. -/
def Otp.copies (o : Otp) (n : Nat) : List U64 :=
  ((List.range 3).map fun i => o.read (n + i)).filterMap fun x => if x.bad then none else some x.data

/-- The value that more than half of the usable copies hold (R418). -/
def Otp.vote (o : Otp) (n : Nat) : Option U64 :=
  let cs := o.copies n
  cs.find? fun v => decide (cs.length < 2 * (cs.filter (· == v)).length)

/-- The triplicated value word of a region; none for the others. -/
def votedWord (r : Nat) : Option Nat := if r = 1 then some 128 else if r = 3 then some 227 else none

/-- The copies of a region's value word disagree without a majority; none of them is usable. -/
def Otp.disagrees (o : Otp) (r : Nat) : Bool :=
  match votedWord r with
  | some n => (o.vote n).isNone && !(o.copies n).isEmpty
  | none => false

/-- The state code of a region (R421). -/
def Otp.stateOf (o : Otp) (r : Nat) : Nat :=
  let rs := (List.range (otpSize r)).map fun i => o.read (otpBase r + i)
  if o.incomplete r then 3
  else if o.disagrees r then 4
  else if rs.any OtpReading.bad then 5
  else if o.sealValid r then 2
  else if rs.any OtpReading.good then 1
  else 0

/-- OTP_REGION_STATE.LOCKED. -/
def Otp.lockedMask (o : Otp) : Nat := maskOf fun r : Fin 8 => o.locked r.1

/-- POLICY: the OR of its copies; a SEALED_INCOMPLETE BP reads ENFORCE_SIG and DEBUG_LOCK. Log entry 64: DEDUCED. -/
def Otp.policy (o : Otp) : U64 :=
  if o.incomplete 3 then 3 else o.restrictive 224 ||| o.restrictive 225 ||| o.restrictive 226

/-- The SKU port count is 32. Log entry 64: DEDUCED. -/
def Otp.sku32 (o : Otp) : Bool := !(o.incomplete 1) && ((o.vote 128).getD 0).toNat % 256 == 32

/-- The SMBus address. -/
def Otp.smb (o : Otp) : BitVec 7 :=
  let a : BitVec 7 := if o.incomplete 3 then 0 else ((o.vote 227).getD 0).setWidth 7
  if a = 0 then 0x48 else a

/-- The region whose FW_KEY counts (R420). -/
def Otp.keyOf (o : Otp) : Option Nat := if o.stateOf 6 = 2 then some 6 else if o.stateOf 7 = 2 then some 7 else none

/-- The data that a region's word supplies: 0 in a SEALED_INCOMPLETE region. -/
def Otp.value (o : Otp) (n : Nat) : U64 := if o.incomplete (regionOf n) then 0 else (o.read n).data

/-- The 96 bits of the device UID. -/
def State.uid (s : State) : Bytes := bytesOf 8 (s.otp.value 131) ++ bytesOf 4 (s.otp.value 132)

/-- FW_KEY of a region: x then y. -/
def Otp.fwKey (o : Otp) (r : Nat) : Bytes := (List.range 12).flatMap fun i => bytesOf 8 (o.value (otpBase r + i))

/-- The AR word is set (R432). -/
def Otp.arSet (o : Otp) (k : Nat) : Bool :=
  let w := o.word (256 + k)
  let has := fun (b : BitVec 73) => match resolveBits b with
    | .clean d | .corrected d => d == arData k
    | .marginal | .uncorrectable | .unprogrammed => false
  if w.m0 ≠ w.m1 then has w.m0 || has w.m1 else has w.m0

/-- The anti-rollback count: k + 1 for the highest k whose AR word is set. -/
def Otp.arCount (o : Otp) : Nat := (List.range 64).foldl (fun m k => if o.arSet k then k + 1 else m) 0

/-- The self-check of R422. -/
def Otp.selfCheck (o : Otp) (refOk : Bool) : Bool := refOk && decide (o.read 0 = .clean 0x0F0FC33C5AA5A55A)

/-- OTP_REGION_STATE and OTP_AR follow (R423); the count never falls before the next fuse load (R434). -/
def Otp.refresh (o : Otp) : Otp := { o with regState := Vector.ofFn fun r : Fin 8 => o.stateOf r.1, ar := max o.ar o.arCount }

/-! ### Marginal words (R417, R433, R434) -/

/-- Lock words, POLICY copies and AR words; SKU and SETTINGS copies. -/
def restrictiveWord (n : Nat) : Bool := regionOf n == 4 || regionOf n == 5 || (224 ≤ n && n ≤ 226)
def copyWord (n : Nat) : Bool := (128 ≤ n && n ≤ 130) || (227 ≤ n && n ≤ 229)

/-- Which value is used in place of a bad word: 0 restrictive reading, 1 majority of copies, 2 default (R378). -/
def valueUsed (o : Otp) (n : Nat) : Nat :=
  if restrictiveWord n then 0
  else if copyWord n && (o.vote (if n < 200 then 128 else 227)).isSome then 1
  else 2

/-- The die temperature, 0x8000 before any. -/
def State.dieTemp (s : State) : Int :=
  match s.dieHigh with
  | some (_, t) => t
  | none => noTemp

/-- SYS_OTP_MARGINAL (R378, R433). -/
def marginalEvent (s : State) (n foundBy : Nat) : State :=
  let w := s.otp.word n
  raise s evOtpMarginal kDevice 0 2
    ([BitVec.ofNat 8 (regionOf n), 0] ++ le 2 n ++ [BitVec.ofNat 8 foundBy, BitVec.ofNat 8 (valueUsed s.otp n)] ++ le16s s.dieTemp ++
      bytesOf 8 (wordData w.m0 ^^^ wordData w.m1))

/-- Locks of the LK region, and READ_LOCK of SEC while it is SEALED or locked, go into OTP_LOCK (R424, R434). -/
def Otp.addLocks (o : Otp) : Otp :=
  let prog := maskOf fun r : Fin 8 => o.locked r.1
  let rd := maskOf fun r : Fin 8 => (o.lockBits r.1).getLsbD 1 || (r.1 == 2 && (o.locked 2 || o.stateOf 2 == 2))
  { o with progLock := o.progLock ||| BitVec.ofNat 8 prog, readLock := o.readLock ||| BitVec.ofNat 8 rd }

/-- The words of a region, or of the whole array (0xFF). -/
def otpWordsOf (r : Nat) : List Nat := if r = 0xFF then List.range 1024 else (List.range (otpSize r)).map (· + otpBase r)

/-- The words of a list that read CORRECTED; those that are marginal or UNCORRECTABLE. -/
def Otp.correctedIn (o : Otp) (ws : List Nat) : Nat :=
  (ws.filter fun n => match o.read n with
    | .corrected _ => true
    | .clean _ | .marginal | .uncorrectable | .unprogrammed => false).length
def Otp.badIn (o : Otp) (ws : List Nat) : List Nat := ws.filter fun n => (o.read n).bad

/-- A margin check over words: events for the newly found ones, region states, added locks and AR words (R433, R434). -/
def marginCheck (s : State) (ws : List Nat) (foundBy : Nat) : State :=
  let bad := s.otp.badIn ws
  let fresh := bad.filter fun n => !(s.otp.known.contains n)
  let s1 := fresh.foldl (fun t n => marginalEvent t n foundBy) s
  let o := s1.otp
  let known := o.known ++ fresh
  { s1 with otp := ({ o with known := known, corrected := min (o.correctedIn ws) 65535, marginal := min known.length 255,
                             checkT := s1.dieTemp, checkAt := s1.clk, ar := max o.ar o.arCount,
                             regState := Vector.ofFn fun r : Fin 8 => o.stateOf r.1 }).addLocks }

/-! ### The fuse load (R397, R417 to R424) -/

/-- The fuse load ends: critical wires, register copies, locks, keys. A failed self-check leaves every critical wire at its restrictive
default. -/
def fuseLoad (s : State) (refOk : Bool) : State :=
  let o := s.otp
  let ok := o.selfCheck refOk
  let bad := o.badIn (List.range 1024)
  let pol := o.policy
  let ports := ok && o.sku32
  let dflt := (idx 8).any (fun r => o.incomplete r.1) || (bad.any fun n => valueUsed o n == 2) ||
    (o.vote 128).isNone || (o.vote 227).isNone
  let o1 : Otp := { o with
    selfOk := ok, ports32 := ports, enforceSig := !ok || pol.getLsbD 0, debugLock := !ok || pol.getLsbD 1,
    bootDeny := if ok then (pol >>> 4).setWidth 4 else 0, smbAddr := o.smb, keyRegion := o.keyOf, known := bad,
    marginal := min bad.length 255, corrected := min (o.correctedIn (List.range 1024)) 65535 }
  let s1 := { s with
    otp := o1.refresh.addLocks, glb := { s.glb with part3232 := ports },
    rst := { s.rst with loadDone := true, integFail := !ok, defaults := dflt },
    mgt := { s.mgt with keyReady := ok && o1.refresh.stateOf 2 == 2 } }
  bad.foldl (fun t n => marginalEvent t n 0) s1

end Sys2Proof.Machine
end

