-- ==== Sys2Proof/Machine/Position.lean ====
section
/-! DEFINITION. Position sources: edges, index edges, serial frames, stalls and lost remotes; ENC_CONFIG, ENC_QUERY, ENC_PRESET and
QUIRE_BIND (02_position.md). -/

namespace Sys2Proof.Machine

/-! ### Holding, faults, reversals (R54 to R56, R70, R71) -/

/-- The tracked position stops where it is. -/
def holdTracked (s : State) (n : Fin 16) : State :=
  let t := s.trackedNow n
  s.modSrc n fun x => { x with tracked := t }

/-- Set sticky bits of ENC_EVENT. -/
def encEvent (s : State) (n : Fin 16) (m : Nat) : State :=
  s.modSrc n fun x => { x with cnt := { x.cnt with event := x.cnt.event ||| BitVec.ofNat 6 m } }

/-- POS_ENC_FAULT (R72, R73). -/
def encFaultEvent (s : State) (n : Fin 16) (sev cause : Nat) : State :=
  let x := s.source n
  raise s evEncFault kSource n.1 sev ([BitVec.ofNat 8 cause, BitVec.ofNat 8 x.st.code] ++ zeros 6 ++ posQ x.raw)

/-- The source enters FAULT, and every quire bound to it gets a STOP (R70, R71). -/
def sourceFault (s : State) (n : Fin 16) (cause : Nat) : State :=
  let s1 := (holdTracked s n).modSrc n fun x => { x with st := .fault, cause := cause }
  let s2 := encFaultEvent (encEvent s1 n 4) n 3 cause
  (s2.boundTo n).foldl (fun t q => stopQuire t q 14) s2

/-- A fault of a source: nothing in DISABLED and FAULT (R71). -/
def faultNow (s : State) (n : Fin 16) (cause : Nat) : State :=
  match (s.source n).st with
  | .disabled | .fault => s
  | .acquiring | .tracking | .held | .reversed | .stalled => sourceFault s n cause

/-- An advancing edge at measured time `t` (R53, R54, R57, R58, R59): clocked quires of a source that was REVERSED resume (R55). -/
def advanceSrc (s : State) (n : Fin 16) (t adv : Nat) : State :=
  let was := (s.source n).st
  let s1 := (holdTracked s n).modSrc n fun x =>
    let y := x.advanceEdge t x.raw
    { y with st := .tracking, adv := adv, pubEdge := true, tracked := if 0 < x.sign * posDiff x.raw x.tracked then x.raw else x.tracked }
  if was = .reversed then (s1.boundTo n).foldl quireResumes s1 else s1

/-- A reversal (R55, R56). -/
def reverseSrc (s : State) (n : Fin 16) (t : Nat) : State :=
  let s0 := holdTracked s n
  let x := s0.source n
  let s1 := raise (encEvent s0 n 1) evReversal kSource n.1 1 (posQ x.mark ++ posQ x.raw)
  let s2 :=
    if x.cfg.bi then
      ((s1.boundTo n).foldl holdNext s1).modSrc n fun y =>
        { y with st := .tracking, trackDir := !y.trackDir, mark := y.raw, tracked := y.raw, edges := [(t, t, y.raw)], speed := 0,
                 base := some (y.raw, t), adv := 0 }
    else s1.modSrc n fun y => { y with st := .reversed }
  (s2.boundTo n).foldl quireReversed s2

/-- The raw position has changed at measured time `t`: the table of R71. -/
def srcMoved (s : State) (n : Fin 16) (t : Nat) : State :=
  let x := s.source n
  match x.st with
  | .disabled | .acquiring | .fault => s
  | .tracking | .held | .reversed | .stalled =>
    let ahead := x.sign * posDiff x.raw x.mark
    let serial := x.cfg.mode = .ssi ∨ x.cfg.mode = .bissC
    if 0 < ahead then advanceSrc s n t (if serial then ahead.toNat / 256 else 0)
    else if ahead = 0 then
      (holdTracked s n).modSrc n fun y =>
        if y.st = .held then { y with st := .tracking, base := none } else if serial then { y with adv := 0 } else y
    else if -ahead ≤ 256 * x.cfg.hyst then
      if x.st = .reversed then s else (holdTracked s n).modSrc n fun y => { y with st := .held }
    else if x.st = .reversed then s
    else reverseSrc s n t

/-! ### Incremental inputs (R43 to R45, R60) -/

/-- How long after its stamp an accepted change acts, in phases: 40 ns, and 260 ns more under FILTERED (R60). Log entry 24: DEDUCED. -/
def SrcCfg.actsAfter (c : SrcCfg) : Nat := if c.filtered then 1200 else 160

/-- The glitch time in phases: 2, 4, 6 or 8 ns (R43). -/
def SrcCfg.glitchPh (c : SrcCfg) : Nat := 8 * (c.glitch + 1)

/-- A pulse shorter than the glitch time is counted, if a sample showed it (R43). -/
def countGlitch (s : State) (n : Fin 16) (held : Nat) : State :=
  if held = 0 then s else s.modSrc n fun x => { x with cnt := { x.cnt with glitch := satAdd 8 x.cnt.glitch 1 } }

/-- A count: the raw position, the movement direction and the index residue (R44, R61). -/
def Source.count (x : Source) (down : Bool) : Source :=
  let d : Int := if down then -1 else 1
  { x with
    raw := posAdd x.raw (256 * d), moveDir := down,
    residue := if x.cfg.indexPeriod = 0 then 0 else (((x.residue : Int) + d) % x.cfg.indexPeriod).toNat,
    undo := some { raw := x.raw, mark := x.mark, tracked := x.tracked, residue := x.residue, edges := x.edges, speed := x.speed,
                   base := x.base, adv := x.adv, st := x.st, trackDir := x.trackDir, moveDir := x.moveDir } }

/-- The last count is taken back (R44). Log entry 25: DEDUCED. -/
def Source.takeBack (x : Source) : Source :=
  match x.undo with
  | none => x
  | some u => { x with raw := u.raw, mark := u.mark, tracked := u.tracked, residue := u.residue, edges := u.edges, speed := u.speed,
                       base := u.base, adv := u.adv, st := u.st, trackDir := u.trackDir, moveDir := u.moveDir, undo := none }

/-- The new level decreases the position: A leading B increases it, INVERT swaps the directions (R44). -/
def Source.downBy (x : Source) (ch : Chan) (level : Bool) : Bool :=
  let up := match ch with
    | .a => level != x.levelB
    | .b => level == x.levelA
  up == x.cfg.invert

/-- The stamps lie less than 2 ns apart (R44). -/
def closeBy (stamp : Nat) : Option Nat → Bool
  | some t => decide (stamp < t + 8) && decide (t < stamp + 8)
  | none => false

/-- An accepted change of A or B; one that clashes with a change of the other input is not counted (R44). Log entry 24: DEDUCED.
Log entry 25: DEDUCED. -/
def acceptEdge (s : State) (n : Fin 16) (ch : Chan) (level : Bool) (stamp : Nat) (clash : Bool) : State :=
  let x := s.source n
  let other := match ch with
    | .a => x.lastB
    | .b => x.lastA
  let setLevel := fun (y : Source) => match ch with
    | .a => { y with levelA := level, lastA := some stamp }
    | .b => { y with levelB := level, lastB := some stamp }
  let at_ := s.advanceTo (stamp + x.cfg.actsAfter)
  if clash then faultNow (at_.modSrc n setLevel) n 5
  else if closeBy stamp other then faultNow (at_.modSrc n fun y => setLevel y.takeBack) n 5
  else
    -- interpolation up to now is kept before the count changes what it runs from
    let h := holdTracked at_ n
    srcMoved (h.modSrc n fun y => setLevel (y.count (x.downBy ch level))) n stamp

/-- A change of A or B that showed at `stamp` and held for `held` phases. Log entry 24: DEDUCED. -/
def encoderEdge (n : Fin 4) (ch : Chan) (level : Bool) (stamp held : Nat) (clash : Bool) (s : State) : State :=
  let i : Fin 16 := finOf 16 (by decide) n.1
  let x := s.source i
  let cur := match ch with
    | .a => x.levelA
    | .b => x.levelB
  if cur = level then s
  else if x.cfg.mode ≠ .incremental then
    s.modSrc i fun y => match ch with
      | .a => { y with levelA := level }
      | .b => { y with levelB := level }
  else if held < x.cfg.glitchPh then countGlitch s i held
  else acceptEdge s i ch level stamp clash

/-! ### Index (R45, R61 to R63) -/

/-- The residue counter of a position (R61). -/
def residueOf (c : SrcCfg) (raw : Pos) : Nat :=
  if c.indexPeriod = 0 then 0 else ((raw.toInt / 256 - c.indexPhase) % c.indexPeriod).toNat

/-- The effect of ENC_PRESET on a source (R77, R71). Log entry 25: DEDUCED. Log entry 26: DEDUCED. -/
def Source.preset (x : Source) (pos : Pos) : Source :=
  let y := x.shift (posDiff pos x.mark)
  let serial := x.cfg.mode = .ssi ∨ x.cfg.mode = .bissC
  { y with
    raw := pos, mark := pos, tracked := pos, misplaceRun := 0, cnt := { y.cnt with corrSum := 0 }, residue := residueOf x.cfg pos,
    presetPend := none, undo := none, presetNext := if serial then some pos else none,
    st := if x.st = .fault then (if serial then .acquiring else .tracking) else if x.st = .held then .tracking else x.st,
    cause := if x.st = .fault then 0 else x.cause,
    base := if x.st = .fault ∨ x.st = .held then none else y.base }

/-- A preset is applied. -/
def applyPreset (s : State) (n : Fin 16) (pos : Pos) : State := s.modSrc n fun x => x.preset pos

/-- d of an index edge: the residue mapped around 0 (R61). -/
def Source.indexError (x : Source) : Int :=
  if x.residue ≤ x.cfg.indexPeriod / 2 then (x.residue : Int) else (x.residue : Int) - x.cfg.indexPeriod

/-- The index check (R61 to R63). -/
def indexCheck (s : State) (n : Fin 16) : State :=
  let x := s.source n
  let d := x.indexError
  let s1 := s.modSrc n fun y => { y with cnt := { y.cnt with indexLast := d } }
  if d.natAbs ≤ x.cfg.indexTol then
    let s2 := s1.modSrc n fun y => { y with misplaceRun := 0 }
    if d = 0 then s2
    else
      (encEvent (holdTracked s2 n) n 16).modSrc n fun y =>
        let z := y.shift (-(256 * d))
        { z with raw := posAdd y.raw (-(256 * d)), mark := posAdd y.mark (-(256 * d)), residue := 0, undo := none,
                 tracked := if y.st ≠ .fault ∧ d < 0 then posAdd y.tracked (-(256 * d)) else y.tracked,
                 cnt := { y.cnt with corrected := satAdd 16 y.cnt.corrected 1,
                                     corrSum := clampI (-2147483648) 2147483647 (y.cnt.corrSum - d) } }
  else
    let s2 := (encEvent s1 n 2).modSrc n fun y =>
      { y with misplaceRun := min (y.misplaceRun + 1) 3, cnt := { y.cnt with misplaced := satAdd 16 y.cnt.misplaced 1 } }
    let y := s2.source n
    let s3 := raise s2 evIndexMisplaced kSource n.1 2 (leI 4 d ++ [BitVec.ofNat 8 y.misplaceRun] ++ zeros 3 ++ posQ y.raw)
    if 3 ≤ y.misplaceRun then faultNow s3 n 7 else s3

/-- A change of Z that showed at `stamp` and held for `held` phases (R43, R45). It acts when its sample does (R60); a count of the same
sample stands before it in the queue (R61). Log entry 24: DEDUCED. -/
def indexEdge (n : Fin 4) (level : Bool) (stamp held : Nat) (s : State) : State :=
  let i : Fin 16 := finOf 16 (by decide) n.1
  let x := s.source i
  if x.levelZ = level then s
  else if x.cfg.mode ≠ .incremental ∨ x.cfg.indexPeriod = 0 then s.modSrc i fun y => { y with levelZ := level }
  else if held < x.cfg.glitchPh then countGlitch s i held
  else
    let at_ := (s.advanceTo (stamp + x.cfg.actsAfter)).modSrc i fun y => { y with levelZ := level }
    if !level || x.moveDir then at_
    else match x.presetPend with
      | some pos => applyPreset at_ i pos
      | none => indexCheck at_ i

/-! ### Serial inputs (R46 to R51) -/

/-- A frame of a serial source starts (R48). -/
def serialFrameStart (n : Fin 4) (idle : Bool) (s : State) : State :=
  let i : Fin 16 := finOf 16 (by decide) n.1
  let x := s.source i
  if (x.cfg.mode = .ssi ∨ x.cfg.mode = .bissC) ∧ x.st ≠ .disabled ∧ x.frameAt.isNone then
    let s1 := s.advanceTo x.nextFrame
    (s1.modSrc i fun y => { y with frameAt := some s1.clk, lineIdle := idle, nextFrame := s1.clk + 4 * y.cfg.serPeriod }).emit
      (.encClock n.1)
  else s

/-- Bits that a frame clocks, beside the acknowledge time (R48). -/
def SrcCfg.frameBits (c : SrcCfg) : Nat :=
  if c.mode = .bissC then c.serBits + c.crcWidth + 4 else c.serBits + (if c.errBit then 1 else 0) + 1

/-- The frame time in phases, rounded up (R48). -/
def SrcCfg.framePh (c : SrcCfg) : Nat :=
  (if c.mode = .bissC then 4 * c.ackLimit else 0) + ceilDiv (c.frameBits * 4000000) c.clkKhz

/-- Gray code to binary, of `n` bits. -/
def ungray : Nat → Nat → Nat
  | 0, _ => 0
  | n + 1, v =>
    let hi := ungray n (v / 2)
    2 * hi + (hi + v) % 2

/-- The CRC of a BiSS C frame matches (R47). -/
def crcMatches (c : SrcCfg) (f : SerialFrame) : Bool :=
  let w := c.crcWidth
  let l := bitsMsb c.serBits f.bits.toNat ++ [f.nE, f.nW]
  let v := (crcBits (BitVec.ofNat w c.crcPoly) 0 l).toNat
  let want := if c.crcInv then 2 ^ w - 1 - v else v
  f.crc.toNat % 2 ^ w = want

/-- A bad frame: counted; the third in a row is a fault (R50). Log entry 26: DEDUCED. -/
def badFrame (s : State) (n : Fin 16) (cause : Nat) : State :=
  let s1 := s.modSrc n fun x => { x with
    badRun := x.badRun + 1,
    cnt := if cause = 1 then { x.cnt with crc := satAdd 8 x.cnt.crc 1 } else { x.cnt with timeout := satAdd 8 x.cnt.timeout 1 } }
  if 3 ≤ (s1.source n).badRun then faultNow s1 n cause else s1

/-- The first good reading after a reset of the marks: raw position, mark and tracked position take it, or the preset that waits for
it (R52, R71, R77). -/
def Source.firstReading (x : Source) (v : Nat) : Source :=
  let raw := x.presetNext.getD (BitVec.ofNat 56 (256 * v))
  { x with
    st := if x.st = .acquiring ∨ x.st = .held then .tracking else x.st, raw := raw, mark := raw, tracked := raw, reading := some v,
    presetNext := none, speed := 0, edges := [], base := none, adv := 0, misplaceRun := 0 }

/-- A good reading of `v` counts that belongs to the instant `t` (R49, R52, R71, R77). INVERT swaps the direction of A/B counts only, and does not
turn the readings of a serial source. Log entry 26: DEDUCED. -/
def goodReading (s : State) (n : Fin 16) (v t : Nat) : State :=
  let x := s.source n
  let first : Pos := BitVec.ofNat 56 (256 * v)
  if x.st = .acquiring ∨ (x.reading = none ∧ x.st ≠ .fault) then s.modSrc n fun y => y.firstReading v
  else
    let d : Int := match x.reading with
      | some r => sgn x.cfg.serBits (uns x.cfg.serBits ((v : Int) - r))
      | none => 0
    let raw := match x.presetNext, x.reading with
      | some pos, _ => pos
      | none, some _ => posAdd x.raw (256 * d)
      | none, none => first
    let h := holdTracked s n
    srcMoved (h.modSrc n fun y => { y with raw := raw, reading := some v, presetNext := none, moveDir := if d = 0 then y.moveDir else decide (d < 0) }) n t

/-- A frame that is not bad: nE or the error bit, then nW, then the reading (R51). -/
def soundFrame (s : State) (n : Fin 16) (f : SerialFrame) (t : Nat) : State :=
  let c := (s.source n).cfg
  let s0 := s.modSrc n fun x => { x with badRun := 0 }
  let biss := c.mode = .bissC
  if (biss ∧ f.nE = false) ∨ (¬biss ∧ c.errBit = true ∧ f.errBit = true) then faultNow s0 n 2
  else
    let warn := decide biss && !f.nW
    let first := warn && !(s0.source n).warn
    let s1 := s0.modSrc n fun x => { x with
      warn := warn, cnt := if warn then { x.cnt with warning := satAdd 8 x.cnt.warning 1 } else x.cnt }
    let v := f.bits.toNat % 2 ^ c.serBits
    let s2 := goodReading s1 n (if c.gray then ungray c.serBits v else v) t
    if first then encFaultEvent (encEvent s2 n 32) n 2 6 else s2

/-- The frame in progress ends (R49 to R51). -/
def serialFrameEnd (n : Fin 4) (f : SerialFrame) (s : State) : State :=
  let i : Fin 16 := finOf 16 (by decide) n.1
  let x := s.source i
  match x.frameAt with
  | none => s
  | some t0 =>
    let s1 := (s.advanceTo (t0 + x.cfg.framePh)).modSrc i fun y => { y with frameAt := none }
    if x.st = .disabled then s1
    else if x.cfg.mode = .bissC && !f.started then badFrame s1 i 3
    else if x.cfg.mode = .ssi && !x.lineIdle then badFrame s1 i 3
    else if x.cfg.mode = .bissC && !(crcMatches x.cfg f) then badFrame s1 i 1
    else soundFrame s1 i f (t0 - 4 * x.cfg.serLatency)

/-! ### Stalls and lost remotes (R59, R66) -/

/-- Four expected edge intervals in phases, rounded up (R59). -/
def Source.stallAfter (x : Source) : Nat :=
  let four := ceilDiv 1048576000000000 x.speed
  if x.cfg.mode = .ssi ∨ x.cfg.mode = .bissC then max four (16 * x.cfg.serPeriod) else four

/-- Four expected intervals have passed without an advancing edge. The edges before count in no later window. Log entry 25: DEDUCED. -/
def encStall (n : Fin 16) (s : State) : State :=
  let x := s.source n
  match x.edges with
  | [] => s
  | e :: _ =>
    if n.1 < 4 ∧ x.st = .tracking ∧ x.speed ≠ 0 then
      let s1 := holdTracked (s.advanceTo (e.1 + x.stallAfter)) n
      let s2 := (encEvent s1 n 8).modSrc n fun y => { y with st := .stalled, speed := 0, edges := [], base := none, undo := none }
      encFaultEvent s2 n 2 4
    else s

/-- No position cell for 16 µs (R66). -/
def remoteLost (n : Fin 16) (s : State) : State :=
  let x := s.source n
  if 4 ≤ n.1 ∧ x.bound.isSome ∧ x.st ≠ .fault then sourceFault (s.advanceTo (x.cellAt + 16 * usPh)) n 8 else s

/-! ### ENC_CONFIG (R43, R48, R52, R60, R64, R71, R75) -/

/-- The configuration that the command's fields give; with MODE OFF only ENC_MODE counts. -/
def cfgOf (p : Params) (old : SrcCfg) : SrcCfg :=
  let m := fld p 9 1
  let c := { old with mode := encModeOf (bits m 2 0), invert := bit m 4, bi := bit m 5, gray := bit m 6 }
  if bits m 2 0 = 0 then c
  else { c with
    filtered := fld p 10 1 = 1, hyst := fld p 11 1, winUs := fld p 12 2, indexTol := fld p 14 1, glitch := fld p 15 1,
    indexPeriod := fld p 16 4, indexPhase := fld p 20 4, serBits := fld p 24 1, errBit := bit (fld p 25 1) 0, crcInv := bit (fld p 25 1) 1,
    crcWidth := fld p 26 1, crcPoly := fld p 28 2, clkKhz := fld p 30 2, serPeriod := fld p 32 4, serGap := fld p 36 4,
    ackLimit := fld p 40 4, serLatency := fld p 44 4 }

/-- Fields that the mode requires to be zero, unlisted encodings and reserved bits. -/
def cfgBadParam (p : Params) : Bool :=
  let m := fld p 9 1
  let mode := bits m 2 0
  rsv m 0x77 || decide (3 < mode) || (bit m 6 && mode != 2) || rsv (fld p 25 1) 0x03 ||
  (mode != 0 &&
    (decide (1 < fld p 10 1) || (fld p 10 1 == 1 && mode != 1) || (bit (fld p 25 1) 0 && mode != 2) || (bit (fld p 25 1) 1 && mode != 3) ||
     (mode == 1 && (fld p 24 1 + fld p 26 1 + fld p 28 2 + fld p 30 2 + fld p 32 4 + fld p 36 4 + fld p 40 4 + fld p 44 4 != 0)) ||
     (mode == 2 && (fld p 26 1 + fld p 28 2 + fld p 40 4 != 0)) || (mode != 1 && fld p 16 4 != 0)))

/-- Values outside their ranges. GLITCH is taken as a range, so a value above 3 is RANGE (R75, R371). Log entry 85: DEDUCED. -/
def cfgRange (p : Params) : Bool :=
  let mode := bits (fld p 9 1) 2 0
  let per := fld p 16 4
  let clk := fld p 30 2
  let c := cfgOf p SrcCfg.reset
  decide (3 < fld p 8 1) ||
  (mode != 0 &&
    (decide (15 < fld p 11 1) || out (fld p 12 2) 1 1024 || decide (3 < fld p 15 1) || (per != 0 && out per 8 0x7FFFFFFF) ||
     decide (max per 1 ≤ fld p 20 4) || (per != 0 && decide (per ≤ 2 * fld p 14 1)) ||
     (mode != 1 &&
       (out (fld p 24 1) 8 32 || decide (16 < fld p 26 1) || out clk 100 (if mode = 2 then 2000 else 10000) ||
        out (fld p 32 4) 2000 1048576 || out (fld p 36 4) 500 100000 || (mode == 3 && out (fld p 40 4) 100 20000) ||
        decide (100000 < fld p 44 4) ||
        decide (fld p 32 4 * clk < c.frameBits * 1000000 + ((if mode = 3 then fld p 40 4 else 0) + fld p 36 4) * clk)))))

/-- Marks reset: raw position, mark and tracked position 0, S 0, MISPLACE_RUN 0; a serial source takes its first good reading. TRACK_DIR stays
as it is while TRACK stays BI. Log entry 25: DEDUCED. -/
def Source.resetMarks (x : Source) : Source :=
  { x with raw := 0, mark := 0, tracked := 0, speed := 0, edges := [], base := none, adv := 0, misplaceRun := 0, undo := none,
           trackDir := x.trackDir && x.cfg.bi, residue := residueOf x.cfg 0, reading := none, presetNext := none, badRun := 0 }

/-- ENC_CONFIG acts on a source (R75). The state moves from DISABLED and FAULT, and to DISABLED; from other states the table of R71 has no
row for a command with MODE not OFF, and only HELD ends where the marks are reset, since the raw position is then at the mark again.
Log entry 25: DEDUCED. -/
def configSrc (x : Source) (p : Params) (now : Nat) : Source :=
  let c := cfgOf p x.cfg
  let changed := x.cfg.mode ≠ c.mode ∨ x.cfg.invert ≠ c.invert ∨ x.cfg.bi ≠ c.bi
  let serial := c.mode = .ssi ∨ c.mode = .bissC
  let y := { x with
    cfg := c, presetPend := none,
    cnt := { x.cnt with misplaced := 0, corrected := 0, corrSum := 0, glitch := 0, timeout := 0, crc := 0, warning := 0 },
    residue := if x.cfg.indexPeriod = c.indexPeriod ∧ x.cfg.indexPhase = c.indexPhase then x.residue else residueOf c x.raw }
  if c.mode = .off then
    let z := if changed then y.resetMarks else y
    { z with st := .disabled, cause := 0, frameAt := none }
  else if changed ∨ x.st = .disabled ∨ x.st = .fault then
    let z := y.resetMarks
    { z with
      st := if x.st = .disabled ∨ x.st = .fault then (if serial then .acquiring else .tracking) else if x.st = .held then .tracking else x.st,
      cause := 0, frameAt := if serial then z.frameAt else none, nextFrame := if serial then now else z.nextFrame }
  else y

/-- ENC_CONFIG (R75). -/
def encConfig (h : CmdHdr) (p : Params) (s : State) : State :=
  let n := srcNo (fld p 8 1)
  plainCmd 0x0301 h p s
    [(8, 1), (9, 1), (10, 1), (11, 1), (12, 2), (14, 1), (15, 1), (16, 4), (20, 4), (24, 1), (25, 1), (26, 1), (28, 2), (30, 2), (32, 4), (36, 4), (40, 4), (44, 4)]
    [(cfgBadParam p, stBadParam), (cfgRange p, stRange), (s.srcBusy n, stBadState)]
    (fun t => (holdTracked t n).modSrc n fun x => configSrc x p t.clk)

/-! ### ENC_QUERY (R76) -/

/-- The flags byte of the record. -/
def encFlags (s : State) (n : Fin 16) : Nat :=
  let x := s.source n
  bitAt x.moveDir 0 + bitAt x.trackDir 1 + bitAt x.warn 2 + bitAt x.presetPend.isSome 3 + bitAt (s.clampedNow n) 4 + bitAt (s.srcBi n) 5

/-- The record of ENC_QUERY. -/
def encRecord (s : State) (n : Fin 16) : Bytes :=
  let x := s.source n
  let q := s.snap n
  let c := if n.1 < 4 then x.cnt else SrcCount.reset
  recBytes [(1, x.st.code), (1, encFlags s n), (1, x.cause), (1, x.misplaceRun), (4, 0), (8, q.raw.toNat), (8, q.mark.toNat), (8, q.tracked.toNat),
    (8, q.speed.toNat), (8, q.tb.toNat), (4, uns 32 c.indexLast), (2, c.corrected), (2, c.misplaced), (4, uns 32 c.corrSum), (1, c.glitch),
    (1, c.timeout), (1, c.crc), (1, c.warning)]

/-- ENC_QUERY. -/
def encQuery (h : CmdHdr) (p : Params) (s : State) : State :=
  let n := srcNo (fld p 8 1)
  let addr := fld p 16 8
  reportCmd 0x0302 h p s [(8, 1), (16, 8)] ((decide (15 < fld p 8 1), stRange) :: addrChecks s h addr 64) addr
    (fun t => encRecord t n) (fun t => (t.source n).st.code + 256 * encFlags t n)

/-! ### ENC_PRESET (R77) -/

/-- ENC_PRESET. A position has 56 bits, so bits 63:56 of POSITION are not looked at. Log entry 94: DESIGN CHOICE. -/
def encPreset (h : CmdHdr) (p : Params) (s : State) : State :=
  let n := srcNo (fld p 8 1)
  let x := s.source n
  let pos : Pos := BitVec.ofNat 56 (fld p 16 8)
  plainCmd 0x0303 h p s [(8, 1), (9, 1), (16, 8)]
    [(decide (1 < fld p 9 1), stBadParam), (decide (3 < fld p 8 1), stRange), (fld p 16 1 != 0, stRange),
     (decide (x.st = .disabled) || s.srcBusy n, stBadState),
     (fld p 9 1 == 1 && (decide (x.cfg.mode ≠ .incremental) || x.cfg.indexPeriod == 0), stBadParam)]
    (fun t => if fld p 9 1 = 1 then t.modSrc n fun y => { y with presetPend := some pos } else applyPreset t n pos)

/-! ### QUIRE_BIND (R67 to R69, R78, R99, R136) -/

/-- The pacing does not match the source's tracking; unknown for a remote source that is DISABLED or ACQUIRING (R69). -/
def trackMismatch (s : State) (n : Fin 16) (scan : Bool) : Bool :=
  let st := (s.source n).st
  if 4 ≤ n.1 ∧ (st = .disabled ∨ st = .acquiring) then false else s.srcBi n != scan

/-- QUIRE_BIND acts on the quire. Log entry 39: DEDUCED. -/
def Quire.bind (q : Quire) (p : Params) : Quire :=
  if bit (fld p 9 1) 0 then { q with st := .unbound, scan := false, source := 0, ports := 0, active := 0, pitch := 0, origin := 0, lateWin := 0 }
  else { q with
    st := .bound, scan := bit (fld p 9 1) 1, source := srcNo (fld p 10 1), ports := BitVec.ofNat 32 (fld p 12 4), active := 0,
    pitch := fld p 16 4, origin := BitVec.ofNat 64 (fld p 24 8), down := false, next := 0, running := false, gate := false,
    dem := if q.st = .unbound then DemandCfg.reset else q.dem, lateWin := 0 }

/-- QUIRE_BIND. -/
def quireBind (h : CmdHdr) (p : Params) (s : State) : State :=
  let f := fld p 9 1
  let n := quireNo (fld p 8 1)
  let mask := fld p 12 4
  let scan := bit f 1
  let st := (s.quire n).st
  let unbind := bit f 0
  let taken := (idx 32).any fun r => mask.testBit r.1 && (match s.quireOf r with
    | some q => q != n
    | none => false)
  plainCmd 0x0304 h p s [(8, 1), (9, 1), (10, 1), (12, 4), (16, 4), (24, 8)]
    [(rsv f 0x03 || (unbind && (scan || fld p 10 1 + mask + fld p 16 4 + fld p 24 8 != 0)), stBadParam),
     (decide (7 < fld p 8 1), stRange),
     (!unbind && (decide (15 < fld p 10 1) || decide (fld p 16 4 < 0x10000) || badPorts s mask scan), stRange),
     (decide (st ≠ .unbound ∧ st ≠ .bound) || (!unbind && taken), stBadState),
     (!unbind && (mask == 0 || trackMismatch s (srcNo (fld p 10 1)) scan), stBadParam)]
    (fun t => t.modQuire n fun q => q.bind p)

/-! ### Meanings of the rows -/

/-- ENCODER_EDGE (R44). -/
def execEncoderEdge (n : Fin 4) (ch : Chan) (level : Bool) (x : Pulse) (clash : Bool) (s : State) : Host.Outcome State Fault Refusal :=
  .next (encoderEdge n ch level x.stamp x.held clash s)

/-- INDEX_EDGE (R61). -/
def execIndexEdge (n : Fin 4) (level : Bool) (x : Pulse) (s : State) : Host.Outcome State Fault Refusal :=
  .next (indexEdge n level x.stamp x.held s)

/-- SERIAL_FRAME_START (R48). -/
def execSerialFrameStart (n : Fin 4) (idle : Bool) (s : State) : Host.Outcome State Fault Refusal := .next (serialFrameStart n idle s)

/-- SERIAL_FRAME_END (R49). -/
def execSerialFrameEnd (n : Fin 4) (f : SerialFrame) (s : State) : Host.Outcome State Fault Refusal := .next (serialFrameEnd n f s)

/-- ENC_STALL (R59). -/
def execEncStall (n : Fin 16) (s : State) : Host.Outcome State Fault Refusal := .next (encStall n s)

/-- REMOTE_LOST (R66). -/
def execRemoteLost (n : Fin 16) (s : State) : Host.Outcome State Fault Refusal := .next (remoteLost n s)

/-- ENC_CONFIG (R75). -/
def execEncConfig (h : CmdHdr) (p : Params) (s : State) : Host.Outcome State Fault Refusal := .next (encConfig h p s)

/-- ENC_QUERY (R76). -/
def execEncQuery (h : CmdHdr) (p : Params) (s : State) : Host.Outcome State Fault Refusal := .next (encQuery h p s)

/-- ENC_PRESET (R77). -/
def execEncPreset (h : CmdHdr) (p : Params) (s : State) : Host.Outcome State Fault Refusal := .next (encPreset h p s)

/-- QUIRE_BIND (R78). -/
def execQuireBind (h : CmdHdr) (p : Params) (s : State) : Host.Outcome State Fault Refusal := .next (quireBind h p s)

end Sys2Proof.Machine
end

