-- ==== Sys2Proof/Machine/Tables.lean ====
section
/-! DEFINITION. Loads of the screening tables and tiles: SCREEN_LOAD, NUC_LOAD, DELAY_LOAD, MASK_LOAD, STITCH_CONFIG, DECKLE_SET and
COMP_CONFIG (05_screening.md R148, R154, R165 to R172). -/

namespace Sys2Proof.Machine

/-! ### Tiles and their pools (R148, R154, R166, R169) -/

/-- The banks of every port: live, shadow, and an old one that R17 still keeps. -/
def State.allBanks (s : State) : List Bank :=
  (idx 32).flatMap fun p => match (s.port p).banks with
    | some b => b.live :: b.shadow :: (match b.old with
      | some o => [o.bank]
      | none => [])
    | none => []

/-- A threshold tile is selected by some bank. Log entry 48: DEDUCED. -/
def tileUsed (s : State) (t : Nat) : Bool := s.allBanks.any fun b => b.tile == t

/-- Some bank's stitch or pass settings name a mask tile. -/
def maskUsed (s : State) (t : Nat) : Bool :=
  s.allBanks.any fun b => b.stitch.leftTile == t || b.stitch.rightTile == t || b.stitch.passTile == t

/-- Bytes of a cell. -/
def cellSize (depth : Nat) : Nat := if depth = 3 then 8 else 4

/-- Bytes of a tile's data. -/
def tileBytes (mask : Bool) (depth w h : Nat) : Nat := w * h * (if mask then 1 else cellSize depth)

/-- Bytes rounded up to the pool's units. -/
def poolUnits (mask : Bool) (n : Nat) : Nat := if mask then ceilDiv n 1024 * 1024 else ceilDiv n 4096 * 4096

/-- Bytes of a pool. -/
def poolSize (mask : Bool) : Nat := if mask then 0x100000 else 0x700000

/-- Pool space that tiles hold, and that loads in execution have taken. -/
def poolTaken (s : State) (mask : Bool) : Nat :=
  ((if mask then s.masks else s.tiles).foldl (fun n t => n + poolUnits mask (tileBytes mask t.2.depth t.2.w t.2.h)) 0) +
  (s.execs.filter fun e => e.op == (if mask then 0x0604 else 0x0601) && fld e.p 8 1 == 0 && !(isDry e.h)).foldl (fun n e =>
    n + poolUnits mask (tileBytes mask (fld e.p 10 1) (fld e.p 12 2) (fld e.p 14 2))) 0

/-- The tile of a handle. -/
def State.tileOf (s : State) (mask : Bool) (t : Nat) : Option Tile := assoc t (if mask then s.masks else s.tiles)

/-- The tile is loaded and damaged. -/
def tileDamaged (s : State) (mask : Bool) (t : Nat) : Bool :=
  match s.tileOf mask t with
  | some x => x.damaged
  | none => false

/-- A cell's thresholds decrease, or its pad byte is not zero. -/
def cellBad : List Nat → Bool
  | a :: b :: t => if t.isEmpty then b != 0 else decide (b < a) || cellBad (b :: t)
  | _ => false

/-- Some cell of a tile breaks R148. -/
def cellsBad (size : Nat) : Nat → List Nat → Bool
  | 0, _ => false
  | n + 1, l => cellBad (l.take size) || cellsBad size n (l.drop size)

/-- A tile that has been loaded anew poisons no bank (R144). -/
def healTile (s : State) (mask : Bool) (handle : Nat) : State :=
  forAll s fun (t : State) (p : Fin 32) => t.modBanks p fun b =>
    { b with poison := b.poison.filter fun e => e != (if mask then 4 else 3, handle) }

/-- The data of a tile load has arrived: the tile takes its handle. -/
def tileDone (s : State) (e : Exec) (mask : Bool) (data : Bytes) : State :=
  let depth := if mask then 0 else fld e.p 10 1
  let w := fld e.p 12 2
  let h := fld e.p 14 2
  let n := tileBytes mask depth w h
  let d := ((padTo n data).take n).map BitVec.toNat
  let t : Tile := { depth := depth, w := w, h := h, data := d, damaged := false }
  dataDone s e [(!mask && cellsBad (cellSize depth) (w * h) d, stBadParam)] 0 fun s1 =>
    endExec (healTile (if mask then { s1 with masks := assocSet (fld e.p 9 1) t s1.masks } else { s1 with tiles := assocSet (fld e.p 9 1) t s1.tiles }) mask (fld e.p 9 1))
      e stOk 0

/-- SCREEN_LOAD LOAD. -/
def screenLoadLoad (h : CmdHdr) (p : Params) (s : State) : State :=
  let t := fld p 9 1
  let n := tileBytes false (fld p 10 1) (fld p 12 2) (fld p 14 2)
  let addr := fld p 16 8
  let len := fld p 24 4
  readCmd 0x0601 h p s [(8, 1), (9, 1), (10, 1), (11, 1), (12, 2), (14, 2), (16, 8), (24, 4), (28, 2), (30, 2), (32, 1)]
    [((fld p 10 1 != 2 && fld p 10 1 != 3) || fld p 11 1 != 0 || fld p 28 4 != 0 || rsv (fld p 32 1) 0x01, stBadParam),
     (out t 1 63 || out (fld p 12 2) 1 4096 || out (fld p 14 2) 1 4096 || decide (0x100000 < n) || wrongLen h len (up64 n) ||
       beyond s h addr len, stRange),
     (misaddr h addr || mislen h len, stAlign), (tileUsed s t && !(tileDamaged s false t), stBusy),
     (decide (poolSize false < poolTaken s false + poolUnits false n), stCapacity)] addr len (bit (fld p 32 1) 0)

/-- SCREEN_LOAD SELECT. FLAGS.NS belongs to LOAD and must be zero here. Log entry 46: DEDUCED. -/
def screenLoadSelect (h : CmdHdr) (p : Params) (s : State) : State :=
  let t := fld p 9 1
  let r := portNo (fld p 11 1)
  command 0x0601 h p s [(8, 1), (9, 1), (10, 1), (11, 1), (12, 2), (14, 2), (16, 8), (24, 4), (28, 2), (30, 2), (32, 1)]
    [(fld p 10 1 != 0 || fld p 12 4 != 0 || fld p 16 8 != 0 || fld p 24 4 != 0 || fld p 32 1 != 0, stBadParam),
     (decide (63 < t) || portBad s (fld p 11 1) || (t != 0 && (s.tileOf false t).isNone), stRange),
     (decide ((s.port r).st = .closed), stBadState),
     (match s.tileOf false t with
       | some x => t != 0 && x.depth != (s.port r).depth
       | none => false, stBadParam)]
    (fun s1 => complete s1 h stOk 0) (fun s1 => shadowNow s1 r 0x0601 h p)

/-- SCREEN_LOAD FREE. FLAGS.NS belongs to LOAD and must be zero here. Log entry 46: DEDUCED. -/
def screenLoadFree (h : CmdHdr) (p : Params) (s : State) : State :=
  let t := fld p 9 1
  plainCmd 0x0601 h p s [(8, 1), (9, 1), (10, 1), (11, 1), (12, 2), (14, 2), (16, 8), (24, 4), (28, 2), (30, 2), (32, 1)]
    [(fld p 10 1 != 0 || fld p 11 1 != 0 || fld p 12 4 != 0 || fld p 16 8 != 0 || fld p 24 8 != 0 || fld p 32 1 != 0, stBadParam),
     (out t 1 63 || (s.tileOf false t).isNone, stRange), (tileUsed s t, stBusy)]
    (fun s1 => { s1 with tiles := assocDel t s1.tiles })

/-- SCREEN_LOAD. -/
def screenLoad (h : CmdHdr) (p : Params) (s : State) : State :=
  if fld p 8 1 = 0 then screenLoadLoad h p s
  else if fld p 8 1 = 1 then screenLoadSelect h p s
  else if fld p 8 1 = 2 then screenLoadFree h p s
  else plainCmd 0x0601 h p s [] [(true, stBadParam)] id

/-- MASK_LOAD LOAD. -/
def maskLoadLoad (h : CmdHdr) (p : Params) (s : State) : State :=
  let t := fld p 9 1
  let n := tileBytes true 0 (fld p 12 2) (fld p 14 2)
  let addr := fld p 16 8
  let len := fld p 24 4
  readCmd 0x0604 h p s [(8, 1), (9, 1), (10, 1), (12, 2), (14, 2), (16, 8), (24, 4)]
    [(rsv (fld p 10 1) 0x01, stBadParam),
     (out t 1 63 || out (fld p 12 2) 1 4096 || out (fld p 14 2) 1 4096 || decide (0x100000 < n) || wrongLen h len (up64 n) ||
       beyond s h addr len, stRange),
     (misaddr h addr || mislen h len, stAlign), (maskUsed s t && !(tileDamaged s true t), stBusy),
     (decide (poolSize true < poolTaken s true + poolUnits true n), stCapacity)] addr len (bit (fld p 10 1) 0)

/-- MASK_LOAD FREE. The table gives W, H, HOST_ADDR and LENGTH a value for LOAD only; for FREE they must be zero. NS is defined for both.
Log entry 46: DEDUCED. -/
def maskLoadFree (h : CmdHdr) (p : Params) (s : State) : State :=
  let t := fld p 9 1
  plainCmd 0x0604 h p s [(8, 1), (9, 1), (10, 1)]
    [(rsv (fld p 10 1) 0x01, stBadParam), (out t 1 63 || (s.tileOf true t).isNone, stRange), (maskUsed s t, stBusy)]
    (fun s1 => { s1 with masks := assocDel t s1.masks })

/-- MASK_LOAD. -/
def maskLoad (h : CmdHdr) (p : Params) (s : State) : State :=
  if fld p 8 1 = 0 then maskLoadLoad h p s
  else if fld p 8 1 = 1 then maskLoadFree h p s
  else plainCmd 0x0604 h p s [] [(true, stBadParam)] id

/-! ### Per-nozzle tables (R167, R168) -/

/-- NUC_LOAD. -/
def nucLoad (h : CmdHdr) (p : Params) (s : State) : State :=
  let r := portNo (fld p 8 1)
  let curves := fld p 9 1 = 1
  let first := fld p 10 2
  let n := fld p 12 2
  let addr := fld p 16 8
  let len := fld p 24 4
  readCmd 0x0602 h p s [(8, 1), (9, 1), (10, 2), (12, 2), (14, 1), (16, 8), (24, 4)]
    [(decide (1 < fld p 9 1) || rsv (fld p 14 1) 0x01, stBadParam),
     (portBad s (fld p 8 1) || n == 0 || decide ((if curves then 16 else (s.port r).nozzles) < first + n) ||
       wrongLen h len (up64 (if curves then n * 256 else n * 2)) || beyond s h addr len, stRange),
     (misaddr h addr || mislen h len, stAlign), (decide ((s.port r).st = .closed), stBadState)] addr len (bit (fld p 14 1) 0)

/-- The data of a NUC_LOAD breaks R167. -/
def nucBad (p : Params) (data : Bytes) : Bool :=
  if fld p 9 1 = 0 then (u16s (fld p 12 2) data).any fun v => v % 16 != 0
  else (List.range (fld p 12 2)).any fun k => rdAt data (256 * k) 1 != 0

/-- The data of a load into a port's shadow bank has arrived; a port that closed meanwhile refuses it. -/
def loadDone (s : State) (e : Exec) (data : Bytes) (checks : List (Bool × Nat)) : State :=
  let r := portNo (fld e.p 8 1)
  dataDone s e ((decide ((s.port r).st = .closed), stBadState) :: checks) 0 fun t => shadowLoad t r e data

/-- The data of a NUC_LOAD has arrived. -/
def nucDone (s : State) (e : Exec) (data : Bytes) : State := loadDone s e data [(nucBad e.p data, stBadParam)]

/-- DELAY_LOAD. -/
def delayLoad (h : CmdHdr) (p : Params) (s : State) : State :=
  let r := portNo (fld p 8 1)
  let n := fld p 12 2
  let addr := fld p 16 8
  let len := fld p 24 4
  readCmd 0x0603 h p s [(8, 1), (9, 1), (10, 2), (12, 2), (16, 8), (24, 4)]
    [(rsv (fld p 9 1) 0x01, stBadParam),
     (portBad s (fld p 8 1) || n == 0 || decide ((s.port r).nozzles < fld p 10 2 + n) || wrongLen h len (up64 (n * 2)) || beyond s h addr len,
       stRange),
     (misaddr h addr || mislen h len, stAlign), (decide ((s.port r).st = .closed), stBadState)] addr len (bit (fld p 9 1) 0)

/-- The data of a DELAY_LOAD has arrived: every delay must fit the line store (R35, R168). -/
def delayDone (s : State) (e : Exec) (data : Bytes) : State :=
  let most := s.lineDepth (s.port (portNo (fld e.p 8 1))).depth - 64
  loadDone s e data [((u16s (fld e.p 12 2) data).any fun d => decide (most < d), stRange)]

/-! ### Settings (R170 to R172) -/

/-- STITCH_CONFIG. -/
def stitchConfig (h : CmdHdr) (p : Params) (s : State) : State :=
  let r := portNo (fld p 8 1)
  let x := stitchOf p
  let missing := fun (t : Nat) => t != 0 && (s.tileOf true t).isNone
  command 0x0605 h p s [(8, 1), (9, 1), (10, 1), (11, 1), (12, 2), (14, 2), (16, 2), (18, 1), (19, 1), (20, 2), (22, 2), (24, 2)]
    [(rsv (fld p 9 1) 0x01 || (x.leftWidth == 0 && x.leftTile != 0) || (x.rightWidth == 0 && x.rightTile != 0) ||
       (!x.passEn && (x.passTile != 0 || x.passes != 0 || fld p 20 2 != 0 || x.passX != 0 || x.passY != 0)), stBadParam),
     (portBad s (fld p 8 1) || decide (1024 < x.leftWidth) || decide (1024 < x.rightWidth) || (x.passEn && out x.passes 1 16) ||
       decide (x.advance < -8192) || decide (8192 < x.advance) || missing x.leftTile || missing x.rightTile || missing x.passTile, stRange),
     (decide ((s.port r).st = .closed), stBadState),
     ((x.leftWidth != 0 && x.leftTile == 0) || (x.rightWidth != 0 && x.rightTile == 0) || (x.passEn && x.passTile == 0), stBadParam)]
    (fun t => complete t h stOk 0) (fun t => shadowNow t r 0x0605 h p)

/-- DECKLE_SET. -/
def deckleSet (h : CmdHdr) (p : Params) (s : State) : State :=
  let r := portNo (fld p 8 1)
  command 0x0606 h p s [(8, 1), (12, 2), (14, 2)]
    [(portBad s (fld p 8 1) || decide (8191 < fld p 12 2) || decide (8191 < fld p 14 2) || decide (fld p 14 2 < fld p 12 2), stRange),
     (decide ((s.port r).st = .closed), stBadState)]
    (fun t => complete t h stOk 0) (fun t => shadowNow t r 0x0606 h p)

/-- VOL breaks R161 at a top level. -/
def volBad (vol : List Nat) (top : Nat) : Bool :=
  nth vol 0 0 != 0 || ((List.range top).any fun l => decide (nth vol (l + 1) 0 ≤ nth vol l 0)) ||
  ((List.range 8).any fun l => decide (top < l) && nth vol l 0 != 0)

/-- COMP_CONFIG. -/
def compConfig (h : CmdHdr) (p : Params) (s : State) : State :=
  let r := portNo (fld p 8 1)
  let c := compOf p
  command 0x0705 h p s [(8, 1), (9, 1), (10, 1), (11, 1), (12, 1), (13, 1), (16, 8)]
    [(decide (2 < c.mode) || rsv (fld p 10 1) 0x03 || (c.radius == 1 && c.w2 != 0), stBadParam),
     (portBad s (fld p 8 1) || out c.radius 1 2, stRange), (decide ((s.port r).st = .closed), stBadState),
     (volBad c.vol (topLevel (s.port r).depth), stBadParam)]
    (fun t => complete t h stOk 0) (fun t => shadowNow t r 0x0705 h p)

/-! ### Meanings of the rows -/

/-- SCREEN_LOAD (R166). -/
def execScreenLoad (h : CmdHdr) (p : Params) (s : State) : Host.Outcome State Fault Refusal := .next (screenLoad h p s)

/-- NUC_LOAD (R167). -/
def execNucLoad (h : CmdHdr) (p : Params) (s : State) : Host.Outcome State Fault Refusal := .next (nucLoad h p s)

/-- DELAY_LOAD (R168). -/
def execDelayLoad (h : CmdHdr) (p : Params) (s : State) : Host.Outcome State Fault Refusal := .next (delayLoad h p s)

/-- MASK_LOAD (R169). -/
def execMaskLoad (h : CmdHdr) (p : Params) (s : State) : Host.Outcome State Fault Refusal := .next (maskLoad h p s)

/-- STITCH_CONFIG (R170). -/
def execStitchConfig (h : CmdHdr) (p : Params) (s : State) : Host.Outcome State Fault Refusal := .next (stitchConfig h p s)

/-- DECKLE_SET (R171). -/
def execDeckleSet (h : CmdHdr) (p : Params) (s : State) : Host.Outcome State Fault Refusal := .next (deckleSet h p s)

/-- COMP_CONFIG (R172). -/
def execCompConfig (h : CmdHdr) (p : Params) (s : State) : Host.Outcome State Fault Refusal := .next (compConfig h p s)

end Sys2Proof.Machine
end

