-- ==== Sys2Proof/Machine/Background.lean ====
section
/-! DEFINITION. Background work: scrubbers and the patrol, calibrations, overdue activities, BACKGROUND_CONFIG and telemetry
(16_background.md R452 to R462; 05_screening.md R144; 06_waveforms.md R190; 13_commands_events.md R378, R382). -/

namespace Sys2Proof.Machine

/-! ### Periods and overruns (R452, R453, R461) -/

/-- Background activities run: main firmware is up, and die enforcement does not suspend them (R459). -/
def State.bgRuns (s : State) : Bool := s.commandReady && !s.th.enforce

/-- Time since an instant, in phases; suspended time does not count. Log entry 75: DEDUCED. -/
def State.bgSince (s : State) (t : Nat) : Nat := (s.bg.suspAt.getD s.clk) - t

/-- A converter of the port has gone longer than its period without calibration: DAC (6) or sense ADC (7). -/
def calOverdue (s : State) (a : Nat) (x : Port) : Bool :=
  let late := fun (t : Nat) => decide (s.bgPeriod a * msPh < s.bgSince t)
  x.st != .closed && x.st != .opening &&
  (if a = 6 then late x.chA.lastCal || late x.chB.lastCal else x.gen == 3 && late x.senseCal)

/-- The activity has exceeded its period. Log entry 75: DEDUCED. -/
def activityOverdue (s : State) (a : Fin 12) : Bool :=
  if a.1 < 6 then
    s.bg.overdue.getLsbD a.1 ||
    ((a.1 != 5 || s.page.st == .ready) && decide (s.bgPeriod a.1 * msPh < s.bgSince (look s.bg.passStart a)))
  else if a.1 < 8 then (idx 32).any fun p => calOverdue s a.1 (s.port p)
  else if a.1 = 8 then decide (s.bgPeriod 8 * msPh < s.bgSince (look s.bg.passStart a))
  else if a.1 = 9 then decide (86400000 * msPh < s.clk - max s.otp.checkAt (look s.bg.passStart a))
  else if a.1 = 10 then (idx 32).any fun p =>
    (s.port p).st != .closed && (s.port p).st != .opening && decide ((s.port p).wear.dueAt < s.bg.suspAt.getD s.clk)
  else decide (s.bg.telAt + s.bg.telPeriod * msPh < s.clk)

/-- The OVERDUE mask; nothing is overdue before READY. -/
def State.overdueMask (s : State) : Nat := if s.commandReady then maskOf (activityOverdue s) else 0

/-- A pass or calibration round of an activity completes, and the next begins. -/
def activityDone (s : State) (a : Fin 12) : State :=
  let d := s.clk - look s.bg.passStart a
  let flag : BitVec 12 := BitVec.ofNat 12 (2 ^ a.1)
  { s with bg := { s.bg with
    durations := upd s.bg.durations a fun _ => min (d / msPh) 0xFFFFFFFF, passStart := upd s.bg.passStart a fun _ => s.clk,
    overdue := if s.bgPeriod a.1 * msPh < d then s.bg.overdue ||| flag else s.bg.overdue &&& ~~~flag } }

/-! ### Scrubbing (R454, R455) -/

/-- A correction is counted. -/
def countCorrection (s : State) : State := { s with bg := { s.bg with corrections := sat32 s.bg.corrections 1 } }

/-- SYS_TABLE_ECC, with the sticky bit of the port; byte 2 says whether the port's shadow bank is now poisoned (R164). -/
def tableEvent (s : State) (p : Fin 32) (table : Nat) (shadow : Bool) (handle index : Nat) (stopsAt : Option Int) : State :=
  raise (setPwEvent (countUncorr s) p 0x100) evTableEcc kPort p.1 3
    ([BitVec.ofNat 8 table, BitVec.ofNat 8 (bitAt shadow 0), BitVec.ofNat 8 (bitAt (s.port p).poisoned 0), BitVec.ofNat 8 handle] ++ le 4 index ++
      le 8 (match stopsAt with
        | some k => uns 64 k
        | none => 0xFFFFFFFFFFFFFFFF))

/-- The boundary at which a STOP for the port acts now; none where it is in no job. -/
def stopsAt (s : State) (p : Fin 32) : Option Int :=
  let x := (decidePast s p).port p
  if x.st.inJob then some ((match x.lines.find? fun l => l.dec.isNone with
    | some l => l.k
    | none => x.nextK)) else none

/-- An uncorrectable word of a live bank, or of a tile that one selects: the port stops at its next boundary (R144).
Log entry 20: DEDUCED. -/
def liveDamage (s : State) (p : Fin 32) (table handle index : Nat) : State :=
  tableEvent (stopPort s p 15) p table false handle index (stopsAt s p)

/-- An uncorrectable word of the shadow bank only: copied back from the live bank, or the bank is poisoned (R144). Log entry 20: DEDUCED. -/
def shadowDamage (s : State) (p : Fin 32) (table handle index : Nat) (key : Nat × Nat) (written : Bool) : State :=
  match (s.port p).banks with
  | none => s
  | some b =>
    if b.poison.contains key then s
    else
      let s1 := if written then s.modBanks p fun x => { x with poison := key :: x.poison } else s
      tableEvent s1 p table true handle index none

/-- An uncorrectable word of a port's table. -/
def bankDamage (s : State) (p : Fin 32) (shadowOnly : Bool) (table : Fin 9) (index : Nat) : State :=
  match (s.port p).banks with
  | none => s
  | some b =>
    if shadowOnly then shadowDamage s p table.1 0 index (table.1, index) (b.written.contains (table.1, index))
    else reportOnce s (p.1, table.1, index) fun t =>
      liveDamage (t.modBanks p fun x => { x with hurt := (table.1, index) :: x.hurt.filter (· != (table.1, index)) }) p table.1 0 index

/-- A bank selects a tile. -/
def selects (mask : Bool) (h : Nat) (b : Bank) : Bool :=
  if mask then b.stitch.leftTile == h || b.stitch.rightTile == h || b.stitch.passTile == h else b.tile == h

/-- An uncorrectable word of a tile: it is marked damaged, and every port whose banks select it is told (R144, log entry 20). DEDUCED. -/
def tileDamage (s : State) (mask : Bool) (h : Fin 64) (word : Nat) : State :=
  match s.tileOf mask h.1 with
  | none => s
  | some t =>
    if t.damaged then s
    else
      let bad : Tile := { t with damaged := true }
      let s1 := if mask then { s with masks := assocSet h.1 bad s.masks } else { s with tiles := assocSet h.1 bad s.tiles }
      let table := if mask then 4 else 3
      let users := (idx 32).filter fun p => match (s.port p).banks with
        | some b => selects mask h.1 b.live || selects mask h.1 b.shadow
        | none => false
      if users.isEmpty then scrubEvent s1 4 none 0xFF 0xFF (8 * word)
      else users.foldl (fun u p => match (u.port p).banks with
        | none => u
        | some b =>
          if selects mask h.1 b.live then liveDamage u p table h.1 word
          else shadowDamage u p table h.1 word (table, h.1) true) s1

/-- An uncorrectable word of waveform memory, found by the scrubber or by a playback under way (R190). Log entry 76: DEDUCED. -/
def waveDamage (s : State) (p : Fin 32) (c : Chan) (sample addr : Nat) : State :=
  let x := s.port p
  let ch := x.chan c
  let slot := (ch.slots.find? fun e => decide (e.2.start ≤ sample ∧ sample < e.2.start + e.2.samples)).map (·.1)
  let live := match x.banks with
    | some b => (b.live.chan c).slots
    | none => []
  let hurt := s.modPort p fun y => y.modChan c fun z => z.damage sample
  if ch.hurt.contains sample then s
  else match slot with
  | none => scrubEvent (s.modPort p fun y => y.modChan c fun z => { z with mem := assocDel sample z.mem }) 1 (some p) (chanNo c) 0xFF addr
  | some n =>
    if live.contains n then
      if (firstPlay x c 1).isSome then waveFault (countUncorr hurt) p c else portFault (dropPlays (countUncorr hurt) p) p 4
    else scrubEvent (hurt.modPort p fun y => y.modChan c fun z => { z with slots := assocDel n z.slots }) 1 (some p) (chanNo c) n addr

/-- An uncorrectable word of a line that has not fired yet is left for the gather; any other is zeroed (R125). -/
def lineDamage (s : State) (p : Fin 32) (nominal : Int) (word addr : Nat) : State :=
  match (s.port p).dat.store.find? fun l => l.nominal == nominal with
  | none => scrubEvent s 0 none 0xFF 0xFF addr
  | some l =>
    if l.badW.contains (64 * word) then s
    else
      scrubEvent (s.modPort p fun x => { x with dat := { x.dat with
        store := x.dat.store.map fun m => if m.j = l.j then { m with badW := 64 * word :: m.badW } else m } }) 0 (some p) 0xFF 0xFF addr

/-- What a scrubber does about an uncorrectable word. -/
def uncorrectable (loc : ScrubLoc) (s : State) : State :=
  match loc with
  | .clean _ _ => s
  | .lineWord p nominal word addr => lineDamage s p nominal word addr
  | .lineOther addr => scrubEvent s 0 none 0xFF 0xFF addr
  | .bankWord p shadowOnly table index => bankDamage s p shadowOnly table index
  | .tile mask h word => tileDamage s mask h word
  | .tileFree addr => scrubEvent s 4 none 0xFF 0xFF addr
  | .wave p c sample addr => waveDamage s p c sample addr
  | .pageRegion h ofs addr => regionDamage s h ofs addr
  | .pageStaged p addr => reportOnce s (64 + p.1, 0, addr) fun t => pageDamage t addr
  | .pageFree addr => scrubEvent s 2 none 0xFF 0xFF addr
  | .sram allocated addr =>
    if allocated then reportOnce s (128, 0, addr) fun t => scrubEvent t 3 none 0xFF 0xFF addr else scrubEvent s 3 none 0xFF 0xFF addr

/-- The word belongs to the page store. -/
def inPage : ScrubLoc → Bool
  | .pageRegion _ _ _ | .pageStaged _ _ | .pageFree _ => true
  | .clean a _ => a == 5
  | .lineWord _ _ _ _ | .lineOther _ | .bankWord _ _ _ _ | .tile _ _ _ | .tileFree _ | .wave _ _ _ _ | .sram _ _ => false

/-- SCRUB_STEP: a clean word, a corrected one, or an uncorrectable one. Only the scrubbers' own progress is background work; a word with an
error acts in the same way when a load, a swap, the screening engine or a playback is what reads it (R120, R144, R190, R455), which die
enforcement does not suspend. Log entry 76: DEDUCED. -/
def scrubStep (loc : ScrubLoc) (bad : Bool) (s : State) : State :=
  if !s.commandReady || (inPage loc && s.page.st != .ready) then s
  else match loc with
    | .clean a last => if last && s.bgRuns then activityDone s ⟨a.1, Nat.lt_trans a.2 (by decide)⟩ else s
    | .lineWord _ _ _ _ | .lineOther _ | .bankWord _ _ _ _ | .tile _ _ _ | .tileFree _ | .wave _ _ _ _ | .pageRegion _ _ _ | .pageStaged _ _
    | .pageFree _ | .sram _ _ =>
      if bad then uncorrectable loc s
      else if inPage loc then countCorrection { s with page := { s.page with corrected := satAdd 64 s.page.corrected 1 } }
      else countCorrection s

/-! ### Calibration (R456, R457) -/

/-- The channel is quiet for `n` phases and 40 ns: no playback runs, and none is due or expected before. Log entry 75: DEDUCED. -/
def quietSpan (s : State) (x : Port) (c : Chan) (n : Nat) : Bool :=
  let later := fun (t : Nat) => decide (s.clk + n + 160 ≤ t)
  x.lines.all fun l => (l.dec.isSome || later l.first) && l.plays.all fun q => q.ch != c || q.phase == 2 || (q.phase == 0 && later q.start)

/-- The port's converters take part: it is neither CLOSED nor OPENING. -/
def Port.opened (x : Port) : Bool := x.st != .closed && x.st != .opening

/-- Every converter of an activity has been calibrated since its round began. -/
def roundOver (s : State) (a : Fin 12) : Bool :=
  let t := look s.bg.passStart a
  (idx 32).all fun p =>
    let x := s.port p
    !x.opened || (if a.1 = 6 then decide (t < x.chA.lastCal ∧ t < x.chB.lastCal) else x.gen != 3 || decide (t < x.senseCal))

/-- DAC_CALIBRATION: it begins, and takes 1,200 ns of a quiet span of 1,600 ns at least, beside everything else the block does (R30). -/
def dacCalibration (p : Fin 32) (c : Chan) (s : State) : State :=
  let x := s.port p
  if !s.bgRuns || !x.opened || !(quietSpan s x c 6400) then s
  else
    let u := s.modPort p fun y => y.modChan c fun z => { z with lastCal := s.clk }
    if roundOver u 6 then activityDone u 6 else u

/-- The sense ADC is free: no window with a probe is open, and the sense switch is open. -/
def senseFree (x : Port) : Bool := x.link.sense.isNone && !(x.st.inJob && x.lines.any fun l => l.probe.isSome)

/-- SENSE_ADC_CALIBRATION: it begins, and takes 500 ns with the sense switch open, beside everything else (R30); GEN 3 only (R458). -/
def senseAdcCalibration (p : Fin 32) (s : State) : State :=
  let x := s.port p
  if !s.bgRuns || !x.opened || x.gen != 3 || !(senseFree x) then s
  else
    let u := s.modPort p fun y => { y with senseCal := s.clk }
    if roundOver u 7 then activityDone u 7 else u

/-! ### BACKGROUND_CONFIG (R460, R461) -/

/-- Ports of the part as a mask, and ports of part and layout. -/
def State.partMask (s : State) : Nat := 2 ^ s.partPorts - 1
def State.layoutMask (s : State) : Nat := 2 ^ min s.partPorts s.layoutPorts - 1

/-- TEL_PORT_MASK: by default every port of the part. -/
def State.telPorts (s : State) : Nat := s.bg.telMask.toNat &&& s.partMask

/-- BACKGROUND_CONFIG acts. -/
def setBackground (s : State) (p : Params) : State :=
  let sh := fld p 8 1
  let per := fld p 10 2
  { s with
    glb := { s.glb with bgShare := if sh = 0xFF then s.glb.bgShare else BitVec.ofNat 2 sh },
    bg := { s.bg with telPeriod := if per = 0 then s.bg.telPeriod else per,
                      telMask := if bit (fld p 9 1) 0 then BitVec.ofNat 32 (fld p 12 4 &&& s.layoutMask) else s.bg.telMask } }

/-- RESULT of BACKGROUND_CONFIG. -/
def bgResult (s : State) : Nat := s.glb.bgShare.toNat + 2 ^ 16 * s.bg.telPeriod + 2 ^ 32 * s.telPorts

/-- The status record. -/
def bgRecord (s : State) : Bytes :=
  [BitVec.ofNat 8 s.glb.bgShare.toNat, BitVec.ofNat 8 (bitAt s.th.enforce 0 + bitAt (!s.commandReady) 1), 0, 0] ++ le 4 s.overdueMask ++
  ((idx 12).flatMap fun a => le 4 (look s.bg.durations a)) ++ le 4 s.bg.corrections ++ le 4 s.bg.uncorr

/-- BACKGROUND_CONFIG. -/
def backgroundConfig (h : CmdHdr) (p : Params) (s : State) : State :=
  let sh := fld p 8 1
  let f := fld p 9 1
  let addr := fld p 16 8
  command 0x0E04 h p s [(8, 1), (9, 1), (10, 2), (12, 4), (16, 8)]
    [((decide (2 < sh) && sh != 0xFF) || rsv f 0x01 || (!(bit f 0) && fld p 12 4 != 0), stBadParam),
     ((fld p 10 2 != 0 && out (fld p 10 2) 10 10000) || (addr != 0 && beyond s h addr 64), stRange), (misaddr h addr, stAlign)]
    (fun t => complete t h stOk (bgResult (setBackground t p)))
    (fun t =>
      let u := setBackground t p
      complete (if addr = 0 then u else writeOut u h addr (bgRecord u)) h (if addr = 0 then stOk else outSt u h) (bgResult u))

/-! ### Telemetry (R382, R462) -/

/-- The ports of a snapshot. -/
def State.telList (s : State) : List (Fin 32) := (idx 32).filter fun p => (s.telPorts &&& s.layoutMask).testBit p.1

/-- Nozzle-lines fired since the last snapshot. -/
def State.nozzleLines (s : State) : Nat := (idx 32).foldl (fun n p => n + ((s.port p).firedAll - (s.port p).telFired) * (s.port p).nozzles) 0

/-- The header of a snapshot. -/
def telHeader (s : State) (n : Nat) : Bytes :=
  let dropped := ((List.range 8).map fun i => (s.ring (ringNo (48 + i))).dropped).sum
  [1, BitVec.ofNat 8 n, BitVec.ofNat 8 (s.glb.layout.toNat + bitAt s.postureEff 2 + 16 * s.glb.bgShare.toNat), BitVec.ofNat 8 s.thmState] ++
  le 2 s.sp.nodeId ++ le 2 s.spr.own ++ le 2 s.spr.subtree ++ le16s s.dieTemp ++
  [BitVec.ofNat 8 (s.quireMask fun q => q.st.runs), BitVec.ofNat 8 (s.quireMask fun q => q.st == .fault)] ++ le 2 (look s.th.supply 0) ++
  le 4 (s.admitted / 1000000) ++ le 4 (s.nozzleLines / (1000 * s.bg.telPeriod)) ++ le 4 s.overdueMask ++
  le 4 (min dropped 0xFFFFFFFF) ++ le 4 s.bg.corrections ++ le 4 s.bg.uncorr ++ zeros 8

/-- A port's part of a snapshot. -/
def telPort (s : State) (p : Fin 32) : Bytes :=
  let x := s.port p
  let w := x.win
  let q := s.quireOf p
  let arb := match q with
    | some qi => s.arbReq qi + 16 * s.arbCap qi
    | none => 0
  [BitVec.ofNat 8 p.1, BitVec.ofNat 8 x.st.code, BitVec.ofNat 8 (match q with
    | some qi => qi.1
    | none => 0xFF), BitVec.ofNat 8 arb] ++
  le 4 w.ttu ++ le 2 w.fill ++ le 2 w.demand ++ le 4 w.psFill ++ le16s w.tempT0 ++ le16s w.tempT1 ++ le 2 w.nozOut ++ le 2 w.satLines ++
  le 4 (x.firedAll - x.telFired) ++ le 2 (min (x.lateAll - x.telLate) 65535) ++ [BitVec.ofNat 8 x.link.errs, BitVec.ofNat 8 (x.heater.out / 4)]

/-- Free slots of an event ring, less the entries that wait for D0 (R337). -/
def roomFor (s : State) (r : Fin 64) : Nat := (s.ring r).free - (s.parked.filter fun e => match e with
  | .entry n _ _ => n == r.1
  | .request _ => false).length

/-- Write a snapshot of `n` segments, or drop it whole. Log entry 74: DEDUCED. -/
def telWrite (s : State) (r : Fin 64) (bytes : Bytes) (n : Nat) : State :=
  if roomFor s r < n then
    { s with cnt := { s.cnt with telDropped := sat32 s.cnt.telDropped 1 } }.modRing r fun g => { g with dropped := sat32 g.dropped 1 }
  else
    (List.range n).foldl (fun t i => pushEntry t r (eventEntry 0xF000 n i 0 t.sp.nodeId s.ns ((bytes.drop (16 * i)).take 16)) false)
      { s with cnt := { s.cnt with telWritten := sat32 s.cnt.telWritten 1 } }

/-- TELEMETRY_SNAPSHOT: every TEL_PERIOD. -/
def telemetrySnapshot (s0 : State) : State :=
  if !s0.commandReady then s0
  else
    let s := s0.advanceTo (s0.bg.telAt + s0.bg.telPeriod * msPh)
    let ps := s.telList
    let bytes := telHeader s ps.length ++ ps.flatMap (telPort s)
    let s1 := if s.telRoute = 0 then s
      else match routeRing s s.telRoute with
        | some r => telWrite s r bytes (3 + 2 * ps.length)
        | none => s
    { s1 with bg := { s1.bg with telAt := s.clk },
              ports := updAll s1.ports fun _ x => { x with telFired := x.firedAll, telLate := x.lateAll } }

/-! ### Meanings of the rows -/

/-- BACKGROUND_CONFIG (R460). -/
def execBackgroundConfig (h : CmdHdr) (p : Params) (s : State) : Host.Outcome State Fault Refusal := .next (backgroundConfig h p s)

/-- SCRUB_STEP (R454). -/
def execScrubStep (loc : ScrubLoc) (bad : Bool) (s : State) : Host.Outcome State Fault Refusal := .next (scrubStep loc bad s)

/-- DAC_CALIBRATION (R456). -/
def execDacCalibration (p : Fin 32) (c : Chan) (s : State) : Host.Outcome State Fault Refusal := .next (dacCalibration p c s)

/-- SENSE_ADC_CALIBRATION (R457). -/
def execSenseAdcCalibration (p : Fin 32) (s : State) : Host.Outcome State Fault Refusal := .next (senseAdcCalibration p s)

/-- TELEMETRY_SNAPSHOT (R462). -/
def execTelemetrySnapshot (s : State) : Host.Outcome State Fault Refusal := .next (telemetrySnapshot s)

end Sys2Proof.Machine
end

