-- ==== Sys2Proof/Machine/Otp.lean ====
section
/-! DEFINITION. OTP commands and programming: OTP_READ, OTP_PROGRAM, OTP_SEAL, OTP_MARGIN_CHECK, OTP_LOCK, the pulses, and the background
margin re-check (15_otp_trust.md R425 to R434, R444 to R449). -/

namespace Sys2Proof.Machine

/-! ### Programming words (R426 to R429) -/

/-- The first bit of a target that does not read blown at M0: data ascending, then check bits, then the seal bit. -/
def nextBit (w : OtpWord) (bits : BitVec 73) : Option Nat := (List.range 73).find? fun i => bits.getLsbD i && !(w.m0.getLsbD i)

/-- A word with blown data or check bits and no seal bit. -/
def OtpWord.torn (w : OtpWord) : Bool := !(wordSealed w.m1) && w.m1 != 0

/-- The blown bits of an unsealed word are among those of the target (R427). -/
def OtpWord.within (w : OtpWord) (bits : BitVec 73) : Bool := (w.m0 ||| w.m1) &&& ~~~bits == 0

/-- An OTP operation ends: region states and AR follow, a lock that was programmed takes effect (R423 to R425). -/
def otpEnd (s : State) (j : OtpJob) (st res : Nat) : State :=
  let o := ({ s.otp with job := none }).refresh
  let s1 := { s with otp := o }
  match s1.execs.find? fun e => e.id == j.id with
  | some e => endExec s1 e st (if e.op = 0x0B03 then res + o.stateOf j.region * 2 ^ 32 + j.steps * 2 ^ 40 else res)
  | none => s1

/-- RESULT of an operation that ends: the bits blown, the most pulses and torn for OTP_PROGRAM; the CRC for OTP_SEAL. -/
def OtpJob.res (s : State) (j : OtpJob) : Nat :=
  match s.execs.find? fun e => e.id == j.id with
  | some e => if e.op = 0x0B02 then j.blown + j.most * 2 ^ 16 + bitAt j.torn 24 else if e.op = 0x0B03 then j.crc else 0
  | none => 0

/-- A pulse starts: 12 µs with VPP, else 20 µs from the pump. -/
def otpPulse (s : State) (j : OtpJob) (word bit : Nat) : State :=
  let vpp := s.th.vppPresent
  { s with otp := { s.otp with
      vppUsed := vpp, job := some { j with bit := bit, pulses := j.pulses + 1, most := max j.most (j.pulses + 1),
                                           due := s.clk + (if vpp then 12 else 20) * usPh } } }.emit (.otpPulse word bit vpp)

/-- Step 2 of OTP_SEAL: every word below USED sealed and clean, every word from there to the map word raw 0. The first failing offset with
its status. Log entry 65: DEDUCED. -/
def sealCheck (o : Otp) (r used : Nat) : Option (Nat × Nat) :=
  (List.range (otpSize r - 2)).findSome? fun i =>
    let w := o.word (otpBase r + i)
    if i < used then
      match w.read with
      | .clean _ => none
      | .marginal => some (i, stOtpMarginal)
      | .corrected _ | .uncorrectable | .unprogrammed => some (i, stBadState)
    else if w.m0 = 0 ∧ w.m1 = 0 then none
    else if w.m0 ≠ w.m1 then some (i, stOtpMarginal) else some (i, stBadState)

/-- A word to program, with the step of OTP_SEAL that it is; none when it holds the target already. -/
def otpTarget (o : Otp) (word : Nat) (data : U64) (step : Nat) : List OtpTarget :=
  if (o.read word).good && (o.read word).data == data then [] else [{ word := word, bits := otpBits data true, step := step }]

/-- The words that follow the check of OTP_SEAL: the seal word, then the lock copies (R431). -/
def sealTargets (o : Otp) (j : OtpJob) (crc : Nat) : List OtpTarget :=
  otpTarget o (otpBase j.region + otpSize j.region - 1) (sealWordData j.region crc) 1 ++
  (match j.lock with
    | none => []
    | some rd => otpTarget o (240 + j.region) (lockData j.region rd) 2 ++ otpTarget o (248 + j.region) (lockData j.region rd) 3)

/-- Go on with an OTP operation: the next pulse, the next word, the check of OTP_SEAL, or its end. -/
def otpNext : Nat → State → State
  | 0, s => s
  | n + 1, s =>
    match s.otp.job with
    | none => s
    | some j =>
      match j.targets with
      | [] =>
        if j.checked then
          let s1 := match j.lock with
            | none => s
            | some rd => { s with otp := { s.otp with
                progLock := s.otp.progLock ||| BitVec.ofNat 8 (2 ^ j.region),
                readLock := if rd then s.otp.readLock ||| BitVec.ofNat 8 (2 ^ j.region) else s.otp.readLock } }
          otpEnd s1 j stOk (j.res s1)
        else
          match sealCheck s.otp j.region j.used with
          | some (i, st) => otpEnd s j st (i * 2 ^ 48)
          | none =>
            let crc := sealCrc ((List.range j.used).map fun i => (s.otp.read (otpBase j.region + i)).data) (mapData j.region j.used)
            let j1 := { j with crc := crc, checked := true, targets := sealTargets s.otp j crc }
            if wordSealed (s.otp.word (otpBase j.region + otpSize j.region - 1)).m0 && !(s.otp.sealValid j.region) then
              otpEnd s j1 stBadState (j1.res s)
            else otpNext n { s with otp := { s.otp with job := some j1 } }
      | t :: rest =>
        let w := s.otp.word t.word
        if !(w.within t.bits) then otpEnd s j stOtpConflict (j.res s)
        else match nextBit w t.bits with
          | none =>
            otpNext n { s with otp := { s.otp with job := some { j with targets := rest, pulses := 0, steps := j.steps ||| bitAt (t.step < 4) t.step } } }
          | some i => if i = 72 ∧ w.m0 ≠ w.m1 then otpEnd s j stOtpVerifyFail (j.res s) else otpPulse s j t.word i

/-- Fuel for the words of one operation. -/
def otpFuel : Nat := 80

/-- An OTP operation starts over a list of words. -/
def otpStart (s : State) (j : OtpJob) : State := otpNext otpFuel { s with otp := { s.otp with job := some j } }

/-- A fresh operation of a command. -/
def otpJob (id region : Nat) (targets : List OtpTarget) : OtpJob :=
  { id := id, targets := targets, bit := 0, pulses := 0, blown := 0, most := 0, torn := false, steps := 0, crc := 0, region := region,
    used := 0, checked := true, lock := none, due := 0 }

/-- The bit that the pulse in progress works on, as it now senses. -/
def otpSense (s : State) (j : OtpJob) (m0 m1 : Bool) : State :=
  match j.targets with
  | [] => s
  | t :: _ =>
    let w := s.otp.word t.word
    let b : BitVec 73 := BitVec.ofNat 73 (2 ^ j.bit)
    { s with otp := s.otp.setWord t.word { m0 := if m0 then w.m0 ||| b else w.m0, m1 := if m1 then w.m1 ||| b else w.m1 } }

/-- OTP_PULSE_END: the pulse ends and the bit is read at M0 (R426, R428). Log entry 65: DEDUCED. -/
def otpPulseEnd (blown weak : Bool) (s0 : State) : State :=
  match s0.otp.job with
  | none => s0
  | some j =>
    let s := otpSense (s0.advanceTo j.due) j blown (blown || weak)
    if blown then otpNext otpFuel { s with otp := { s.otp with job := some { j with blown := j.blown + 1, pulses := 0 } } }
    else if 4 ≤ j.pulses then otpEnd s j stOtpVerifyFail (j.res s)
    else otpPulse s j ((j.targets.map (·.word)).headD 0) j.bit

/-- A pulse is cut short: the bit may be left unblown, weak or blown (R276, R429; log entry 8). -/
def otpCut (s : State) : State :=
  match s.otp.job with
  | none => s
  | some j =>
    let v := (Config.freeValue s.draws).toNat
    otpSense s.draw j (v.testBit 0) (v.testBit 0 || v.testBit 1)

/-- WRITE_SAFE has fallen: the operation in progress ends with SUPPLY_LOW (R429). -/
def otpSupplyLow (s : State) : State :=
  match s.otp.job with
  | none => s
  | some j =>
    let s1 := otpCut s
    otpEnd s1 j stSupplyLow (j.res s1)

/-! ### Commands (R444 to R449) -/

/-- OTP_READ entries. -/
def otpEntry (mode : Nat) (w : OtpWord) : Bytes :=
  let b := if mode = 1 then w.m0 else w.m1
  if mode = 0 then bytesOf 8 w.read.data ++ [0, 0, BitVec.ofNat 8 w.read.code] ++ zeros 5
  else bytesOf 8 (wordData b) ++ [wordCheck b, BitVec.ofNat 8 (bitAt (wordSealed b) 0), BitVec.ofNat 8 w.read.code] ++ zeros 5

/-- OTP_READ. -/
def otpRead (h : CmdHdr) (p : Params) (s : State) : State :=
  let r := fld p 8 1
  let n := fld p 12 2
  let addr := fld p 16 8
  reportCmd 0x0B01 h p s [(8, 1), (9, 1), (10, 2), (12, 2), (16, 8)]
    [(decide (2 < fld p 9 1), stBadParam),
     (decide (7 < r) || out n 1 16 || decide (otpSize r < fld p 10 2 + n) || beyond s h addr (up64 (16 * n)), stRange),
     (misaddr h addr, stAlign), (s.otp.readLock.getLsbD r, stLocked)] addr
    (fun t => pad64 ((List.range n).flatMap fun i => otpEntry (fld p 9 1) (t.otp.word (otpBase r + fld p 10 2 + i)))) (fun _ => 0)

/-- Words that OTP_PROGRAM never writes (R430). -/
def programBad (r i : Nat) (data : U64) : Bool :=
  (sealable r && decide (otpSize r - 2 ≤ i ∧ i < otpSize r)) || r == 4 || (r == 5 && data != arData i) || (r == 2 && decide (5 < i))

/-- What OTP_PROGRAM meets at its word (R427, R446). -/
def programStatus (o : Otp) (r i : Nat) (data : U64) : Nat :=
  let w := o.word (otpBase r + i)
  let have_ := if w.read.good then w.read.data else wordData w.m0
  if sealable r && wordSealed (o.word (otpBase r + otpSize r - 1)).m0 then stOtpSealed
  else if wordSealed w.m0 then (if have_ = data then 0 else if have_ &&& ~~~data ≠ 0 then stOtpConflict else stOtpSealed)
  else if w.within (otpBits data true) then 0 else stOtpConflict

/-- OTP_PROGRAM; its rule sets the order of its statuses. -/
def otpProgram (h : CmdHdr) (p : Params) (s : State) : State :=
  let r := fld p 8 1
  let i := fld p 10 2
  let data := BitVec.ofNat 64 (fld p 16 8)
  let inside := decide (r ≤ 7) && decide (i < otpSize r)
  let w := s.otp.word (otpBase r + i)
  let there := wordSealed w.m0
  let st := if inside then programStatus s.otp r i data else 0
  command 0x0B02 h p s [(8, 56)]
    [(decide (r ≤ 7) && s.otp.progLock.getLsbD r, stLocked),
     (undefSet p [(8, 1), (10, 2), (16, 8)] || (inside && programBad r i data), stBadParam),
     (st == stOtpSealed, stOtpSealed), (st == stOtpConflict, stOtpConflict), (!s.writeSafe, stSupplyLow), (!inside, stRange)]
    (fun t => complete t h stOk (if w.torn then 2 ^ 24 else 0))
    (fun t =>
      if there then complete t h stOk 0
      else
        let t1 := beginExec t 0x0B02 h p .otp 0
        otpStart t1 { otpJob t.nextId r [{ word := otpBase r + i, bits := otpBits data true, step := 4 }] with torn := w.torn })

/-- OTP_SEAL. Log entry 65: DEDUCED. -/
def otpSeal (h : CmdHdr) (p : Params) (s : State) : State :=
  let r := fld p 8 1
  let f := fld p 9 1
  let used := fld p 10 2
  let noLock := bit f 0
  let rd := bit f 1
  let o := s.otp
  let mapW := otpBase r + otpSize r - 2
  let locked := o.locked r
  let hasRd := (o.lockBits r).getLsbD 1
  let done := decide (o.stateOf r = 2) && !noLock && locked && (!rd || hasRd)
  let sealCode := (o.read (otpBase r + otpSize r - 1)).data.toNat % 2 ^ 32
  let doneRes := sealCode + o.stateOf r * 2 ^ 32
  command 0x0B03 h p s [(8, 1), (9, 1), (10, 2)]
    [(rsv f 0x03 || (noLock && rd) || r == 4 || r == 5, stBadParam), (decide (7 < r) || out used 1 (otpSize r - 2), stRange),
     (o.incomplete r, stBadState), (locked && !noLock && rd && !hasRd, stOtpSealed), (!done && o.progLock.getLsbD r, stLocked),
     (!s.writeSafe, stSupplyLow),
     (!done && wordSealed (o.word mapW).m0 && decide ((o.read mapW).data ≠ mapData r used), stOtpConflict)]
    (fun t => complete t h stOk doneRes)
    (fun t =>
      if done then complete t h stOk doneRes
      else
        let t1 := beginExec t 0x0B03 h p .otp 0
        otpStart t1 { otpJob t.nextId r (otpTarget o mapW (mapData r used) 0) with
                        used := used, checked := false, lock := if noLock then none else some rd })

/-- OTP_MARGIN_CHECK. -/
def otpMarginCheck (h : CmdHdr) (p : Params) (s : State) : State :=
  let r := fld p 8 1
  let ws := otpWordsOf r
  let bad := s.otp.badIn ws
  let fresh := bad.filter fun n => !(s.otp.known.contains n)
  let res := bad.length + fresh.length * 2 ^ 16 + uns 16 s.dieTemp * 2 ^ 32
  let st := if bad.isEmpty then stOk else stOtpMarginal
  command 0x0B04 h p s [(8, 1)] [(decide (7 < r) && r != 0xFF, stRange)]
    (fun t => complete t h st res) (fun t => complete (marginCheck t ws 2) h st res)

/-- Bits of OTP_LOCK are set (R424, R449). -/
def lockSet (s : State) (prog rd : Byte) : State :=
  { s with otp := { s.otp with progLock := s.otp.progLock ||| prog, readLock := s.otp.readLock ||| rd } }

/-- OTP_LOCK. -/
def otpLock (h : CmdHdr) (p : Params) (s : State) : State :=
  let prog := BitVec.ofNat 8 (fld p 8 1)
  let rd := BitVec.ofNat 8 (fld p 9 1)
  let res := fun (t : State) => t.otp.progLock.toNat + 256 * t.otp.readLock.toNat
  command 0x0B05 h p s [(8, 1), (9, 1)] []
    (fun t => complete t h stOk (res (lockSet t prog rd)))
    (fun t => complete (lockSet t prog rd) h stOk (res (lockSet t prog rd)))

/-! ### Background re-check (R433) -/

/-- A re-check is due because the die temperature has moved more than 30.0 °C. -/
def State.otpSwing (s : State) : Bool :=
  s.dieHigh.isSome && (decide (480 < s.dieTemp - s.otp.checkT) || decide (480 < s.otp.checkT - s.dieTemp))

/-- OTP_MARGIN_RECHECK, with the words that have aged since. -/
def otpMarginRecheck (aged : List OtpAged) (s0 : State) : State :=
  if s0.rst.seq != .ready then s0
  else
    let s := if s0.otpSwing then s0 else s0.advanceTo (s0.otp.checkAt + 86400000 * msPh)
    let s1 := { s with otp := aged.foldl (fun o a => o.setWord a.word.1 { m0 := a.m0, m1 := a.m1 }) s.otp }
    marginCheck s1 (List.range 1024) 1

/-! ### Meanings of the rows -/

/-- OTP_READ (R445). -/
def execOtpRead (h : CmdHdr) (p : Params) (s : State) : Host.Outcome State Fault Refusal := .next (otpRead h p s)

/-- OTP_PROGRAM (R446). -/
def execOtpProgram (h : CmdHdr) (p : Params) (s : State) : Host.Outcome State Fault Refusal := .next (otpProgram h p s)

/-- OTP_SEAL (R447). -/
def execOtpSeal (h : CmdHdr) (p : Params) (s : State) : Host.Outcome State Fault Refusal := .next (otpSeal h p s)

/-- OTP_MARGIN_CHECK (R448). -/
def execOtpMarginCheck (h : CmdHdr) (p : Params) (s : State) : Host.Outcome State Fault Refusal := .next (otpMarginCheck h p s)

/-- OTP_LOCK (R449). -/
def execOtpLock (h : CmdHdr) (p : Params) (s : State) : Host.Outcome State Fault Refusal := .next (otpLock h p s)

/-- OTP_PULSE_END (R426). -/
def execOtpPulseEnd (blown weak : Bool) (s : State) : Host.Outcome State Fault Refusal := .next (otpPulseEnd blown weak s)

/-- OTP_MARGIN_RECHECK (R433). -/
def execOtpMarginRecheck (aged : List OtpAged) (s : State) : Host.Outcome State Fault Refusal := .next (otpMarginRecheck aged s)

end Sys2Proof.Machine
end

