-- ==== Sys2Proof/Machine/Page.lean ====
section
/-! DEFINITION. The page store: training, PAGE_ALLOC, PAGE_FREE, PAGE_FILL, PAGE_QUERY and LOOPBACK (04_data_path.md R119, R120, R137
to R140; 13_commands_events.md R389). -/

namespace Sys2Proof.Machine

/-- Fetched, unretired FILLs that name a region. PAGE_QUERY counts these alone, since a posted entry still lies in host memory. Log entry 97:
DEDUCED. -/
def State.fillsOf (s : State) (handle : Nat) : Nat :=
  (idx 32).foldl (fun n p => n + ((s.port p).dat.descs.filter fun d => d.kind == 2 && !d.retired && d.region == handle).length +
    (match (s.port p).dat.stash with
      | some x => (x.descs.filter fun d => d.kind == 2 && !d.retired && d.region == handle).length
      | none => 0)) 0

/-- A span lies outside its region, or the handle is unknown. Before the page store is READY no handle is known or unknown: BAD_STATE is
what such a command or descriptor gets (R120, R139, R353). Log entry 90: DEDUCED. -/
def badSpan (s : State) (handle ofs len : Nat) : Bool :=
  decide (s.page.st = .ready) && (match s.region handle with
    | some r => decide (r.size < ofs + len)
    | none => true)

/-- Handle number `n` (from 0) of those not in use, counted from 1 up. -/
def unusedHandle (n : Nat) (used : List (Nat × Region)) : Nat := used.foldl (fun c u => if u.1 ≤ c then c + 1 else c) (n + 1)

/-- The handle a new region gets: one not in use, which one is open (log entry 8). -/
def State.newHandle (s : State) : Nat :=
  unusedHandle ((Config.freeValue s.draws).toNat % (65535 - s.page.regions.length)) s.page.regions

/-- PAGE_ALLOC. While the page store is not READY its usable blocks are not known, and BLOCKS may be as many as the largest store holds:
15,360. Log entry 91: DESIGN CHOICE. -/
def pageAlloc (h : CmdHdr) (p : Params) (s : State) : State :=
  let n := fld p 8 4
  let res := fun (t : State) => t.newHandle + 2 ^ 32 * n
  command 0x0F01 h p s [(8, 4)]
    [(out n 1 (if s.page.st = .ready then s.page.usable else 15360), stRange),
     (decide (s.page.st ≠ .ready), stBadState),
     (decide (s.freeBlocks < n) || decide (65535 ≤ s.page.regions.length), stCapacity)]
    (fun t => complete t h stOk 0)
    (fun t => complete ({ t with page := { t.page with
        regions := assocSet t.newHandle { blocks := n, mem := .empty, bad := [] } t.page.regions } }).draw h stOk (res t))

/-- A FILL that names the region is among the posted entries of an image ring that the controller has not fetched. The entries lie in host
memory. Log entry 8: DESIGN CHOICE. -/
def State.postedFill (s : State) (handle : Nat) : Bool :=
  (idx 32).any fun p =>
    let g := s.ring (ringNo p.1)
    g.exists_ && (List.range g.posted).any fun i =>
      let d := descOf (Config.hostEntry (g.base.toNat + 32 * ((g.fetch + i) % g.size.toNat)) s.clk) 0
      d.kind == 2 && d.region == handle

/-- A FILL that names the region is unretired: fetched, or posted (R138). -/
def State.fillPending (s : State) (handle : Nat) : Bool := s.fillsOf handle != 0 || s.postedFill handle

/-- PAGE_FREE. -/
def pageFree (h : CmdHdr) (p : Params) (s : State) : State :=
  let n := fld p 8 2
  command 0x0F02 h p s [(8, 2)] [((s.region n).isNone, stRange), (s.fillPending n, stBusy)]
    (fun t => complete t h stOk 0)
    (fun t => complete { t with page := { t.page with regions := assocDel n t.page.regions } } h stOk 0)

/-- PAGE_FILL. -/
def pageFill (h : CmdHdr) (p : Params) (s : State) : State :=
  let n := fld p 8 2
  let len := fld p 24 4
  let addr := fld p 16 8
  readCmd 0x0F03 h p s [(8, 2), (10, 1), (12, 4), (16, 8), (24, 4)]
    [(rsv (fld p 10 1) 0x01, stBadParam), (badSpan s n (fld p 12 4) (if mislen h len then 0 else len) || beyond s h addr len, stRange),
     (misaddr h addr || mislen h len || fld p 12 4 % 64 != 0, stAlign), (decide (s.page.st ≠ .ready), stBadState),
     (s.fillsOf n != 0, stBusy)] addr len (bit (fld p 10 1) 0)

/-- The data of a PAGE_FILL has arrived. -/
def pageFillDone (s : State) (e : Exec) (data : Bytes) : State :=
  dataDone s e [] 0 fun t => endExec (fillRegion t (fld e.p 8 2) (fld e.p 12 4) (data.take (fld e.p 24 4))) e stOk 0

/-- The record of PAGE_QUERY. -/
def pageRecord (s : State) (n : Nat) : Bytes :=
  let g := s.page
  let own := match s.region n with
    | some r => r.blocks
    | none => 0
  recBytes [(1, g.st.code), (3, 0), (4, g.rate), (4, g.usable), (4, s.freeBlocks), (4, s.stagedBlocks), (4, g.inRegions),
    (4, g.regions.length), (4, 0), (8, g.corrected), (8, g.uncorr), (4, own), (4, if own = 0 then 0 else s.fillsOf n), (8, 0)]

/-- PAGE_QUERY. -/
def pageQuery (h : CmdHdr) (p : Params) (s : State) : State :=
  let n := fld p 8 2
  let addr := fld p 16 8
  reportCmd 0x0F04 h p s [(8, 2), (16, 8)] ((n != 0 && (s.region n).isNone, stRange) :: addrChecks s h addr 64) addr
    (fun t => pageRecord t n) (fun t => t.page.st.code)

/-! ### LOOPBACK (R389) -/

/-- LOOPBACK. Log entry 77: DEDUCED. -/
def loopback (h : CmdHdr) (p : Params) (s : State) : State :=
  let reg := fld p 8 1 = 1
  let n := fld p 10 2
  let len := fld p 12 4
  readCmd 0x0E01 h p s [(8, 1), (9, 1), (10, 2), (12, 4), (16, 8), (24, 8), (32, 4)]
    [(decide (1 < fld p 8 1) || rsv (fld p 9 1) 0x01 || (!reg && (n != 0 || fld p 32 4 != 0)), stBadParam),
     (outLen h len 64 1048576 || (reg && badSpan s n (fld p 32 4) (if mislen h len then 0 else len)) || beyond s h (fld p 16 8) len || beyond s h (fld p 24 8) len, stRange),
     (misaddr h (fld p 16 8) || misaddr h (fld p 24 8) || mislen h len || (reg && fld p 32 4 % 64 != 0), stAlign),
     (reg && decide (s.page.st ≠ .ready), stBadState), (reg && s.fillsOf n != 0, stBusy)]
    (fld p 16 8) len (bit (fld p 9 1) 0)

/-- The data of a LOOPBACK has arrived: through SRAM or the region and back to the host. Log entry 77: DEDUCED. -/
def loopbackDone (s : State) (e : Exec) (data : Bytes) : State :=
  let p := e.p
  let len := fld p 12 4
  let bytes := (padTo len data).take len
  let res := (crc32 bytes).toNat
  dataDone s e [] 0 fun t =>
    let t1 := if fld p 8 1 = 1 then fillRegion t (fld p 10 2) (fld p 32 4) bytes else t
    let back := if fld p 8 1 = 1 then match t1.region (fld p 10 2) with
        | some r => r.mem.bytes (fld p 32 4) len
        | none => bytes
      else bytes
    endExec (writeOut t1 e.h (fld p 24 8) back) e (outSt t1 e.h) (res + 2 ^ 32 * (crc32 back).toNat)

/-! ### Training (R119, R120) -/

/-- Training ends: the page store is READY with its capacity and rate, or FAILED. -/
def pageTrainingDone (ok : Bool) (rate gib : Nat) (s : State) : State :=
  if s.page.st = .training then
    if ok then { s with page := { s.page with st := .ready, rate := rate, gib := gib },
                        bg := { s.bg with passStart := upd s.bg.passStart 5 fun _ => s.clk } }
    else { s with page := { s.page with st := .failed } }
  else s

/-! ### Meanings of the rows -/

/-- PAGE_ALLOC (R137). -/
def execPageAlloc (h : CmdHdr) (p : Params) (s : State) : Host.Outcome State Fault Refusal := .next (pageAlloc h p s)

/-- PAGE_FREE (R138). -/
def execPageFree (h : CmdHdr) (p : Params) (s : State) : Host.Outcome State Fault Refusal := .next (pageFree h p s)

/-- PAGE_FILL (R139). -/
def execPageFill (h : CmdHdr) (p : Params) (s : State) : Host.Outcome State Fault Refusal := .next (pageFill h p s)

/-- PAGE_QUERY (R140). -/
def execPageQuery (h : CmdHdr) (p : Params) (s : State) : Host.Outcome State Fault Refusal := .next (pageQuery h p s)

/-- LOOPBACK (R389). -/
def execLoopback (h : CmdHdr) (p : Params) (s : State) : Host.Outcome State Fault Refusal := .next (loopback h p s)

/-- PAGE_TRAINING_DONE (R120). -/
def execPageTrainingDone (ok : Bool) (rate : Nat) (gib : Nat) (s : State) : Host.Outcome State Fault Refusal :=
  .next (pageTrainingDone ok rate gib s)

end Sys2Proof.Machine
end

