-- ==== Sys2Proof/Machine/SpineLink.lean ====
section
/-! DEFINITION. The spine: cells and forwarding, link states, HELLO, flow control, time, position relay, stop and fault events, speed
demand (10_spine.md R282 to R303). -/

namespace Sys2Proof.Machine

/-! ### Cells (R286 to R288) -/

/-- The field of `n` bytes at byte `i` of a cell. -/
def cellAt (c : Cell) (i n : Nat) : Nat := c.toNat / 2 ^ (8 * i) % 2 ^ (8 * n)

/-- The CRC of a cell is right. -/
def cellGood (c : Cell) : Bool := cellAt c 28 4 == (crc32 (le 28 c.toNat)).toNat

/-- The SPV of a cell, and whether this node speaks it (R307). -/
def cellSpv (c : Cell) : Nat := cellAt c 1 1 / 16
def spoken (c : Cell) : Bool := cellSpv c == 2 || cellSpv c == 3

def cellSrc (c : Cell) : Nat := cellAt c 2 2 % 4096
def cellDst (c : Cell) : Nat := cellAt c 4 2 % 4096

/-- A cell as this node forwards it on a port: HOPS, DIR, and a new CRC, complemented when the received one was wrong (R288). -/
def forwarded (c : Cell) (sp : SpPort) : Cell :=
  let b := le 28 c.toNat
  let dir := if sp = .u then 0 else 1
  let b1 := b.take 1 ++ [BitVec.ofNat 8 (cellAt c 1 1 / 2 * 2 + dir)] ++ (b.drop 2).take 4 ++ [BitVec.ofNat 8 (min (cellAt c 6 1 + 1) 255)] ++ b.drop 7
  let crc := if cellGood c then crc32 b1 else ~~~(crc32 b1)
  BitVec.ofNat 256 (rdLE (b1 ++ bytesOf 4 crc))

/-- A flooded cell leaves on every UP port except the one it came in on; not from an ALONE node (R287). -/
def floodOn (s : State) (sp : SpPort) (c : Cell) : State :=
  if s.sp.st = .alone then s
  else [SpPort.u, .a, .b].foldl (fun t o => if o ≠ sp ∧ (t.yobor o).link = .up then t.emit (.cell o (forwarded c o)) else t) s

/-- A cell of a type that may act: its CRC is good (a bad one is counted) and this node speaks its SPV. -/
def cellActs (s : State) (sp : SpPort) (c : Cell) (typ : Nat) (act : State → State) : State :=
  if !(cellGood c) then s.modYobor sp fun y => { y with crcErrs := sat32 y.crcErrs 1 }
  else if cellAt c 0 1 ≠ 0xA0 + typ || !(spoken c) then s
  else act s

/-- A cell on an UP port. -/
def cellIn (s : State) (sp : SpPort) (c : Cell) (typ : Nat) (act : State → State) : State :=
  if (s.yobor sp).link = .up then cellActs s sp c typ act else s

/-- Originate a cell on one link, whatever its state. -/
def sendLink (s : State) (sp : SpPort) (typ : Fin 6) (payload : Bytes) : State :=
  let (s1, q) := takeSeq s typ
  s1.emit (.cell sp (mkCell typ.1 s1.spv sp s1.sp.nodeId 0xFFF 0 q payload))

/-- Set sticky bits of SPN_EVENT. -/
def spnEvent (s : State) (m : Nat) : State := { s with spr := { s.spr with event := s.spr.event ||| BitVec.ofNat 5 m } }

/-! ### Flow control of MGT cells (R285) -/

/-- A cell leaves the buffer of the port it came in on; XON when 16 are left. -/
def mgtRelease (s : State) (from_ : Option SpPort) : State :=
  match from_ with
  | none => s
  | some sp =>
    let s1 := s.modYobor sp fun y => { y with mgtHeld := y.mgtHeld - 1 }
    if (s1.yobor sp).xoff && decide ((s1.yobor sp).mgtHeld ≤ 16) then
      (s1.modYobor sp fun y => { y with xoff := false }).emit (.flow sp false)
    else s1

/-- A cell for another node waits for the peer's XON; XOFF goes back when 48 are held. -/
def mgtHold (s : State) (from_ out_ : SpPort) (c : Cell) : State :=
  let s1 := (s.modYobor out_ fun y => { y with mgtOut := y.mgtOut ++ [(some from_, c)] }).modYobor from_ fun y => { y with mgtHeld := y.mgtHeld + 1 }
  if !(s1.yobor from_).xoff && decide (48 ≤ (s1.yobor from_).mgtHeld) then
    (s1.modYobor from_ fun y => { y with xoff := true }).emit (.flow from_ true)
  else s1

/-- The cells that wait on a port go nowhere: its link is no longer UP, or the node carries no MGT cells any more. -/
def mgtDrop (s : State) (sp : SpPort) : State :=
  (s.yobor sp).mgtOut.foldl (fun t e => mgtRelease t e.1) (s.modYobor sp fun y => { y with mgtOut := [] })

/-- FLOW_XOFF_RX. -/
def flowXoffRx (sp : SpPort) (s : State) : State := if (s.yobor sp).link = .up then s.modYobor sp fun y => { y with paused := true } else s

/-- FLOW_XON_RX: the waiting cells leave. -/
def flowXonRx (sp : SpPort) (s : State) : State :=
  (s.yobor sp).mgtOut.foldl (fun t e => mgtRelease (t.emit (.cell sp e.2)) e.1) (s.modYobor sp fun y => { y with paused := false, mgtOut := [] })

/-! ### Node state (R295) -/

/-- The subtree behind a down port is no part of the tree: its range and its demand go, and its nodes leave the fault set (R302, R303). -/
def noMember (s : State) (sp : SpPort) : State :=
  let y := s.yobor sp
  { s with spr := { s.spr with faultSet := s.spr.faultSet.filter fun i => !(decide (y.lo ≤ i ∧ i ≤ y.hi)) } }.modYobor sp fun z =>
    { z with lo := 0, hi := 0, dmd := none, childLost := false }

/-- The node gives up its ID; it carries no MGT cells (R282). -/
def toAlone (s : State) : State :=
  let clear := fun (y : Yobor) => { y with lo := 0, hi := 0, dmd := none, childLost := false }
  let t := mgtDrop (mgtDrop (mgtDrop s .u) .a) .b
  updateDemand { t with sp := { t.sp with
    st := .alone, nodeId := 0, depth := 0, last := 0, nodes := 0, enum := none, a := clear t.sp.a, b := clear t.sp.b } }

/-- SPV_OP as the root sets it. Under SPV 2 no transfer message exists: a command of another node that waits for one ends (R308).
Log entry 17: DEDUCED. -/
def setSpvOp (s : State) (v : Nat) : State :=
  let t := { s with sp := { s.sp with spvOp := v } }
  if v < 3 then
    (t.execs.filter fun e => e.wait == .dma && (match e.h.src with
      | .tunnel _ _ => true
      | .ring _ | .mctp _ | .lost => false)).foldl cutExec t
  else t

/-- Every remote source binding goes back to ACQUIRING. -/
def releaseRemotes (s : State) : State :=
  forAll s fun (t : State) (n : Fin 16) =>
    if 4 ≤ n.1 ∧ (t.source n).bound.isSome then
      (holdTracked t n).modSrc n fun x => { x with st := .acquiring, cause := 0, copy := none, base := none, cellAt := t.clk }
    else t

/-- SPNU has left UP: JOINING ends ALONE, MEMBER and SYNCED are LOST. -/
def upLost (s : State) : State :=
  match s.sp.st with
  | .joining => if s.isRoot then s else toAlone s
  | .member | .synced => if s.isRoot then s else { s with sp := { s.sp with st := .lost } }
  | .alone | .lost => s

/-- A down port has left UP: its child counts as lost and its subtree's nodes leave the fault set (R302, R303). -/
def downLost (s : State) (sp : SpPort) : State :=
  let y := s.yobor sp
  let s1 := s.modYobor sp fun z => { z with childLost := true }
  faultEdge (updateDemand { s1 with spr := { s1.spr with faultSet := s1.spr.faultSet.filter fun i => !(decide (y.lo ≤ i ∧ i ≤ y.hi)) } })

/-- SPINE_LINK_DOWN, and what follows when a port leaves UP (R284, R310). -/
def leaveUp (s : State) (sp : SpPort) (new : SpLink) (cause : Nat) : State :=
  let was := (s.yobor sp).link
  let s1 := s.modYobor sp fun y => { y with link := new }
  if was ≠ .up then s1
  else
    let s2 := raise (spnEvent (mgtDrop s1 sp) 1) evSpineLinkDown kDevice 0 3
      ([BitVec.ofNat 8 (spIndex sp), BitVec.ofNat 8 new.code, BitVec.ofNat 8 cause, 0] ++ le 2 (s.yobor sp).peer ++ [0, 0] ++ le 8 s.ns)
    if sp = .u then upLost s2 else downLost s2 sp

/-! ### Link states (R284, R291) -/

/-- The islands run: the spine interface works (R400). -/
def State.islands (s : State) : Bool := !s.inReset && s.rst.pllLocked

/-- TRAINING begins: eight delay requests are due (R296). -/
def Yobor.train (y : Yobor) : Yobor := { y with link := .training, locked := true, delays := [], reqs := 0, reqAt := none }

/-- BLOCK_LOCK_ACQUIRED. -/
def blockLockAcquired (sp : SpPort) (s : State) : State :=
  if !s.islands || (s.yobor sp).locked then s
  else if sp = .u && s.isRoot then s.modYobor sp fun y => { y with link := .disabled, locked := true }
  else s.modYobor sp Yobor.train

/-- BLOCK_LOCK_LOST. -/
def blockLockLost (sp : SpPort) (errors : Bool) (s : State) : State :=
  if !(s.yobor sp).locked then s
  else
    let low := if sp = .u && s.isRoot then SpLink.disabled else .down
    (leaveUp s sp low (if errors then 1 else 0)).modYobor sp fun y => { y with locked := false, paused := false, xoff := false }

/-- PEER_SILENT: no HELLO for 1 ms; the lock is kept. -/
def peerSilent (sp : SpPort) (s : State) : State :=
  if (s.yobor sp).link ≠ .up then s
  else
    let t := s.advanceTo ((s.yobor sp).lastHello + msPh)
    (leaveUp t sp .training 4).modYobor sp Yobor.train

/-- HELLO_TX: in every link state but DOWN; the root's SPNU is DISABLED with or without block lock (R282, R291). -/
def helloTx (sp : SpPort) (s0 : State) : State :=
  if (s0.yobor sp).link = .down then s0
  else
    let s := s0.advanceTo ((s0.yobor sp).lastHelloTx + 100 * usPh)
    let s1 := s.modYobor sp fun y => { y with lastHelloTx := s.clk }
    sendLink s1 sp 5 ([0, BitVec.ofNat 8 (spIndex sp), 0x32, BitVec.ofNat 8 (bitAt s.isRoot 0)] ++ le 2 s.sp.nodeId ++
      le 2 s.partPorts ++ s.uid)

/-- The roles of a HELLO fit the port: SPNU faces a down port, a down port faces an SPNU. -/
def rolesFit (sp : SpPort) (c : Cell) : Bool :=
  match sp with
  | .u => cellAt c 9 1 == 1 || cellAt c 9 1 == 2
  | .a | .b => cellAt c 9 1 == 0

/-- HELLO_RX. In TRAINING the port waits for 1,024 consecutive blocks without an error beside the HELLO (R284); where they have not all come,
it goes on at a later HELLO. Log entry 92: DEDUCED. -/
def helloRx (sp : SpPort) (c : Cell) (blocks : Nat) (s : State) : State :=
  if !(s.yobor sp).locked then s
  else cellActs s sp c 5 fun t =>
    if cellAt c 8 1 ≠ 0 then t
    else
      let t1 := t.modYobor sp fun y =>
        { y with lastHello := t.clk, peer := cellAt c 12 2 % 4096, peerUid := BitVec.ofNat 96 (cellAt c 16 12) }
      match (t.yobor sp).link with
      | .training =>
        if blocks < 1024 then t1
        else if rolesFit sp c then t1.modYobor sp fun y => { y with link := .up }
        else t1.modYobor sp fun y => { y with link := .disabled }
      | .up => if rolesFit sp c then t1 else leaveUp t1 sp .disabled 2
      | .down | .disabled | .refused => t1

/-- CELL_FRAMING_ERROR. -/
def cellFramingError (sp : SpPort) (s : State) : State :=
  if !(s.yobor sp).locked then s else s.modYobor sp fun y => { y with frameErrs := sat32 y.frameErrs 1 }

/-! ### Stop and fault events (R300 to R302) -/

/-- EVT_CELL_RX. -/
def evtCellRx (sp : SpPort) (c : Cell) (s : State) : State :=
  if (s.yobor sp).link ≠ .up then s
  else cellActs (floodOn s sp c) sp c 0 fun t =>
    let kind := cellAt c 8 1
    let mine := cellDst c == 0xFFF || (cellDst c == t.sp.nodeId && t.sp.nodeId != 0)
    if t.sp.st = .alone || !mine then t
    else if kind = 1 then
      let mask := cellAt c 10 1 &&& t.sp.evtIn.toNat
      let hit := t.quireMask fun q => q.st.stoppable
      let t1 := forAll t fun (u : State) (q : Fin 8) => if mask.testBit q.1 then stopQuire u q 10 else u
      raise (spnEvent t1 4) evSpineStopRx kDevice 0 2 (le 2 (cellSrc c) ++ [1, BitVec.ofNat 8 (cellAt c 9 1), BitVec.ofNat 8 (cellAt c 10 1),
        BitVec.ofNat 8 (mask &&& hit), 0, 0] ++ le 8 (cellAt c 12 8))
    else if cellSpv c ≠ 3 || !t.isRoot then t
    else if kind = 2 then
      let src := cellSrc c
      faultEdge { t with spr := { t.spr with faultSet := if t.spr.faultSet.contains src then t.spr.faultSet else src :: t.spr.faultSet } }
    else if kind = 3 then faultEdge { t with spr := { t.spr with faultSet := t.spr.faultSet.filter (· != cellSrc c) } }
    else t

/-! ### Time (R296, R297) -/

/-- The link delay of a port in ps: the mean over the last eight exchanges. -/
def Yobor.delayPs (y : Yobor) : Nat := if y.delays.isEmpty then 0 else y.delays.sum / y.delays.length

/-- SYNC goes out on each UP down port. -/
def sendSync (s : State) : State :=
  let body := [0, BitVec.ofNat 8 s.sp.epoch, BitVec.ofNat 8 s.sp.spvOp, BitVec.ofNat 8 (min s.sp.depth 255)] ++ le 8 s.ns ++ le 2 (s.tb % 4 * 16384)
  let one := fun (t : State) (sp : SpPort) => if (t.yobor sp).link = .up then sendLink t sp 1 body else t
  let s1 := one (one s .a) .b
  { s1 with spr := { s1.spr with syncTxAt := s.clk } }

/-- The node sends SYNC: the root, and a node that is MEMBER, SYNCED or JOINING. -/
def State.syncs (s : State) : Bool := s.isRoot || s.sp.st == .member || s.sp.st == .synced || s.sp.st == .joining

/-- SYNC_TX. -/
def syncTx (s : State) : State :=
  if !s.islands || !s.syncs then s else sendSync (s.advanceTo (s.spr.syncTxAt + 125 * usPh))

/-- The value before an epoch in the cyclic order. -/
def epochBefore (e : Nat) : Nat := if e ≤ 1 then 255 else e - 1
def epochAfter (e : Nat) : Nat := if 255 ≤ e then 1 else e + 1

/-- A quire bound to a remote source is beyond BOUND. -/
def State.remoteBusy (s : State) : Bool := (idx 8).any fun q => (s.quire q).st.beyond && decide (4 ≤ (s.quire q).source.1)

/-- The timebase moves by a signed number of phases. Log entry 36: DEDUCED. -/
def moveTb (s : State) (d : Int) : State := { s with tb := ((s.tb : Int) + d).toNat }

/-- An accepted SYNC corrects the timebase: a step, or a slew of at most 100 ppm of the time since the last SYNC (R297).
Log entry 66: DEDUCED. -/
def syncCorrect (s : State) (ofsPs : Int) : State :=
  let d := roundDiv ofsPs 250
  if s.spr.firstSync || (decide (1000000 < ofsPs.natAbs) && !s.remoteBusy) then
    spnEvent (moveTb { s with spr := { s.spr with firstSync := false } } d) 16
  else
    let lim : Int := ((s.clk - s.spr.syncAt) / 10000 : Nat)
    moveTb s (clampI (-lim) lim d)

/-- SYNC_RX. Log entry 66: DEDUCED. -/
def syncRx (sp : SpPort) (c : Cell) (s : State) : State :=
  if sp ≠ .u || s.sp.st == .alone || s.isRoot then s
  else cellIn s sp c 1 fun t =>
    if cellAt c 8 1 ≠ 0 then t
    else
      let e := cellAt c 9 1
      if e ≠ t.sp.epoch ∧ e ≠ epochBefore t.sp.epoch then
        (if t.sp.st = .joining then t else toAlone (releaseRemotes t))
      else
        let ofs : Int := (cellAt c 12 8 * 1000 + cellAt c 20 2 * 1000 / 65536 + t.sp.u.delayPs : Nat) - (t.tb * 250 : Nat)
        let t1 := syncCorrect t ofs
        let run := if ofs.natAbs ≤ 2000 then t.spr.syncRun + 1 else 0
        let st := match t.sp.st with
          | .member => if 8 ≤ run then SpState.synced else .member
          | .synced => if 4000 < ofs.natAbs then .member else .synced
          | .lost => .member
          | .joining => .joining
          | .alone => .alone
        setSpvOp { t1 with sp := { t1.sp with st := st },
                           spr := { t1.spr with syncAt := t1.clk, syncOfsPs := ofs, syncRun := if st = .member then (if t.sp.st = .member then run else 0) else 0 } }
          (cellAt c 10 1 % 16)

/-- SYNC_LOSS: no accepted SYNC for 1 ms. -/
def syncLoss (s : State) : State :=
  if !s.isRoot && (s.sp.st == .member || s.sp.st == .synced) then
    let t := s.advanceTo (s.spr.syncAt + msPh)
    { t with sp := { t.sp with st := .lost } }
  else s

/-- DELAY_REQ_TX: eight requests 10 µs apart, then one every 1 ms. -/
def delayReqTx (s0 : State) : State :=
  let y := s0.sp.u
  if y.link = .down then s0
  else
    let s := match y.reqAt with
      | none => s0
      | some t => s0.advanceTo (t + (if y.reqs < 8 then 10 * usPh else msPh))
    let seq := (y.tseq + 1) % 256
    let s1 := s.modYobor .u fun z => { z with tseq := seq, reqAt := some s.clk, reqs := min (z.reqs + 1) 8 }
    sendLink s1 .u 1 [1, BitVec.ofNat 8 seq]

/-- DELAY_REQ_RX: answered with the turn-around time. -/
def delayReqRx (sp : SpPort) (c : Cell) (turn : U32) (s : State) : State :=
  if (s.yobor sp).link = .down then s
  else cellActs s sp c 1 fun t =>
    if cellAt c 8 1 = 1 then sendLink t sp 1 ([2, BitVec.ofNat 8 (cellAt c 9 1), 0, 0] ++ bytesOf 4 turn) else t

/-- DELAY_RESP_RX: t4 − t1 in ps is `rtt`. Log entry 66: DEDUCED. -/
def delayRespRx (sp : SpPort) (c : Cell) (rtt : Nat) (s : State) : State :=
  if sp ≠ .u || (s.yobor sp).link == .down then s
  else cellActs s sp c 1 fun t =>
    if cellAt c 8 1 = 2 ∧ cellAt c 9 1 = t.sp.u.tseq then
      let d := (256 * rtt - 1000 * cellAt c 12 4) / 512
      t.modYobor sp fun y => { y with delays := (d :: y.delays).take 8 }
    else t

/-! ### Position relay (R298, R299) -/

/-- What a change of is sent at the first opportunity: state, directions, cause. -/
def Source.key (x : Source) : Nat := x.st.code + 8 * bitAt x.trackDir 0 + 16 * bitAt x.moveDir 0 + 32 * x.cause

/-- CLAMP_A of the origin, from S whatever the state of the source (R299). -/
def State.clampA (s : State) (x : Source) : Nat :=
  min 255 (ceilDiv (x.speed * (s.sp.posPeriod + s.sp.latBudget)) 65536000000000 + 1)

/-- The payload of a POS cell (R294). Log entry 67: DEDUCED. -/
def posPayload (s : State) (n : Fin 16) : Bytes :=
  let x := s.source n
  let t := s.trackedNow n
  let floor_ : Pos := t &&& ~~~(0xFF : Pos)
  [BitVec.ofNat 8 (n.1 + 16 * x.st.code + 128 * bitAt x.trackDir 0),
   BitVec.ofNat 8 (x.cause + 16 * bitAt x.moveDir 0 + 32 * bitAt x.cfg.bi 0 + 64 * bitAt x.cfg.filtered 0)] ++ le 6 t.toNat ++
  leI 2 (clampI (-32768) 32767 (posDiff x.mark floor_ / 256)) ++ leI 1 (clampI (-128) 127 (posDiff x.raw x.mark / 256)) ++
  [BitVec.ofNat 8 (s.clampA x)] ++ le 4 (min (x.speed / 4096) 0xFFFFFFFF) ++ le 4 s.ns

/-- POS_PUBLISH: an edge, a change, or 4 µs since the last cell. -/
def posPublish (n : Fin 4) (s0 : State) : State :=
  let i : Fin 16 := finOf 16 (by decide) n.1
  let x := s0.source i
  if s0.sp.nodeId = 0 || !(s0.sp.posOut.getLsbD n.1) then s0
  else
    let s := if x.key ≠ x.pubKey then s0
      else if x.pubEdge then s0.advanceTo (x.pubAt + 4 * s0.sp.posPeriod)
      else s0.advanceTo (x.pubAt + 4 * usPh)
    flood (s.modSrc i fun y => { y with pubAt := s.clk, pubKey := x.key, pubEdge := false }) 2 (posPayload s i)

/-- The value nearest an earlier one whose low `w` bits are `v`. -/
def nearestTo (w : Nat) (old v : Int) : Int := old + sgn w (uns w (v - old))

/-- A remote source takes a good cell (R65, R299). The extrapolated position never goes back while the origin goes on: a cell that lies behind
it, but not behind the cell before, leaves it where it is; one behind the cell before tells of a preset or a marks reset at the origin, or of
a turn, and is taken. Log entry 67: DEDUCED. -/
def takePos (s : State) (n : Fin 16) (c : Cell) : State :=
  let old := s.source n
  let b0 := cellAt c 8 1
  let b1 := cellAt c 9 1
  let st := srcStateOf (b0 / 16 % 8)
  let trackDir := bit b0 7
  let bi := bit b1 5
  let pos : Pos := BitVec.ofInt 56 (nearestTo 48 old.tracked.toInt (cellAt c 10 6))
  let mark : Pos := posAdd (pos &&& ~~~(0xFF : Pos)) (256 * sgn 16 (cellAt c 16 2))
  let raw : Pos := posAdd mark (256 * sgn 8 (cellAt c 18 1))
  let prevTs : Int := match old.copy with
    | some k => (k.ts / 4 : Nat)
    | none => (s.tb / 4 : Nat)
  let ts := 4 * (nearestTo 32 prevTs (cellAt c 24 4)).toNat
  let turned := bi && old.copy.isSome && trackDir != old.trackDir
  let held := holdTracked s n
  let s1 := if turned then (held.boundTo n).foldl holdNext held else held
  let was := (s1.source n).tracked
  let sign : Int := if trackDir then -1 else 1
  let back := match old.base with
    | some b => decide (sign * posDiff pos b.1 < 0)
    | none => true
  let tracked := if turned || old.copy.isNone || back || decide (0 ≤ sign * posDiff pos was) then pos else was
  let s2 := s1.modSrc n fun x => { x with
    st := st, cause := b1 % 16, raw := raw, mark := mark, tracked := tracked, speed := cellAt c 20 4 * 4096, base := some (pos, ts),
    adv := cellAt c 19 1, trackDir := trackDir, moveDir := bit b1 4, cellAt := s.clk,
    copy := some { st := st, cause := b1 % 16, trackDir := trackDir, moveDir := bit b1 4, bi := bi, filtered := bit b1 6,
                   clampA := cellAt c 19 1, ts := ts } }
  if st = .fault then (if old.st = .fault then s2 else (s2.boundTo n).foldl (fun t q => stopQuire t q 14) s2)
  else if turned || (st == .reversed && old.st != .reversed) then (s2.boundTo n).foldl quireReversed s2
  else if old.st = .reversed && st == .tracking then (s2.boundTo n).foldl quireResumes s2
  else s2

/-- POS_CELL_RX. Log entry 67: DEDUCED. -/
def posCellRx (sp : SpPort) (c : Cell) (s : State) : State :=
  if (s.yobor sp).link ≠ .up then s
  else cellActs (floodOn s sp c) sp c 2 fun t =>
    if t.sp.st = .alone then t
    else forAll t fun (u : State) (n : Fin 16) =>
      if (u.source n).bound = some (cellSrc c, cellAt c 8 1 % 16) then takePos u n c else u

/-! ### Speed demand (R303) -/

/-- Nodes that report through this one. -/
def State.reporting (s : State) : Nat :=
  let n := fun (y : Yobor) => match y.dmd with
    | some d => if y.lost then 0 else d.2.2.2
    | none => 0
  1 + n s.sp.a + n s.sp.b

/-- What a change of is sent within 1 µs. -/
def State.dmdKey (s : State) : Nat := s.spr.subtree + 65536 * s.spr.limiter + 2 ^ 28 * s.spr.reason

/-- DMD_TX: every 100 µs or on a change; LIMITER and REASON are zero under SPV 2 (R308). -/
def dmdTx (s0 : State) : State :=
  if s0.sp.nodeId = 0 || s0.isRoot || s0.sp.u.link != .up then s0
  else
    let s := if s0.dmdKey ≠ s0.spr.dmdSent then s0 else s0.advanceTo (s0.spr.dmdTxAt + 100 * usPh)
    let three := decide (3 ≤ s.sp.spvOp)
    let s1 := { s with spr := { s.spr with dmdTxAt := s.clk, dmdSent := s.dmdKey } }
    sendLink s1 .u 3 (le 2 s.spr.subtree ++ le 2 (if three then s.spr.limiter else 0) ++
      [BitVec.ofNat 8 (if three then s.spr.reason else 0), 0] ++ le 2 s.reporting)

/-- DMD_RX. -/
def dmdRx (sp : SpPort) (c : Cell) (s : State) : State :=
  if sp = .u || (s.yobor sp).lo == 0 then s
  else cellIn s sp c 3 fun t =>
    updateDemand (t.modYobor sp fun y => { y with
      dmd := some (cellAt c 8 2, cellAt c 10 2 % 4096, cellAt c 12 1, cellAt c 14 2), dmdAt := t.clk, childLost := false })

/-- CHILD_LOST: no DMD for 1 ms. -/
def childLost (sp : SpPort) (s : State) : State :=
  if sp = .u || (s.yobor sp).lo == 0 || (s.yobor sp).childLost then s
  else updateDemand ((s.advanceTo ((s.yobor sp).dmdAt + msPh)).modYobor sp fun y => { y with childLost := true })

/-! ### Meanings of the rows -/

/-- CELL_FRAMING_ERROR (R285). -/
def execCellFramingError (sp : SpPort) (s : State) : Host.Outcome State Fault Refusal := .next (cellFramingError sp s)

/-- BLOCK_LOCK_ACQUIRED (R284). -/
def execBlockLockAcquired (sp : SpPort) (s : State) : Host.Outcome State Fault Refusal := .next (blockLockAcquired sp s)

/-- HELLO_TX (R291). -/
def execHelloTx (sp : SpPort) (s : State) : Host.Outcome State Fault Refusal := .next (helloTx sp s)

/-- FLOW_XOFF_RX (R285). -/
def execFlowXoffRx (sp : SpPort) (s : State) : Host.Outcome State Fault Refusal := .next (flowXoffRx sp s)

/-- FLOW_XON_RX (R285). -/
def execFlowXonRx (sp : SpPort) (s : State) : Host.Outcome State Fault Refusal := .next (flowXonRx sp s)

/-- EVT_CELL_RX (R301). -/
def execEvtCellRx (sp : SpPort) (cell : Cell) (s : State) : Host.Outcome State Fault Refusal := .next (evtCellRx sp cell s)

/-- SYNC_TX (R297). -/
def execSyncTx (s : State) : Host.Outcome State Fault Refusal := .next (syncTx s)

/-- SYNC_RX (R297). -/
def execSyncRx (sp : SpPort) (cell : Cell) (s : State) : Host.Outcome State Fault Refusal := .next (syncRx sp cell s)

/-- SYNC_LOSS (R295). -/
def execSyncLoss (s : State) : Host.Outcome State Fault Refusal := .next (syncLoss s)

/-- DELAY_REQ_TX (R296). -/
def execDelayReqTx (s : State) : Host.Outcome State Fault Refusal := .next (delayReqTx s)

/-- DELAY_REQ_RX (R296). -/
def execDelayReqRx (sp : SpPort) (cell : Cell) (turn : U32) (s : State) : Host.Outcome State Fault Refusal := .next (delayReqRx sp cell turn s)

/-- DELAY_RESP_RX (R296). -/
def execDelayRespRx (sp : SpPort) (cell : Cell) (rtt : Nat) (s : State) : Host.Outcome State Fault Refusal := .next (delayRespRx sp cell rtt s)

/-- POS_PUBLISH (R298). -/
def execPosPublish (n : Fin 4) (s : State) : Host.Outcome State Fault Refusal := .next (posPublish n s)

/-- POS_CELL_RX (R299). -/
def execPosCellRx (sp : SpPort) (cell : Cell) (s : State) : Host.Outcome State Fault Refusal := .next (posCellRx sp cell s)

/-- DMD_TX (R303). -/
def execDmdTx (s : State) : Host.Outcome State Fault Refusal := .next (dmdTx s)

/-- DMD_RX (R303). -/
def execDmdRx (sp : SpPort) (cell : Cell) (s : State) : Host.Outcome State Fault Refusal := .next (dmdRx sp cell s)

/-- CHILD_LOST (R303). -/
def execChildLost (sp : SpPort) (s : State) : Host.Outcome State Fault Refusal := .next (childLost sp s)

end Sys2Proof.Machine
end

