-- ==== Sys2Proof/Machine/Tunnel.lean ====
section
/-! DEFINITION. The management tunnel: commands for other nodes, broadcasts, MGT messages and host transfers on behalf of targets
(10_spine.md R304 to R306; 13_commands_events.md R373, R374). -/

namespace Sys2Proof.Machine

/-! ### Commands that leave for another node -/

/-- The Yobor port toward a target, none when it lies in no known range (R292, R306). -/
def tunnelRoute (s : State) (dst : Nat) : Option SpPort :=
  if s.sp.a.lo ≠ 0 ∧ s.sp.a.lo ≤ dst ∧ dst ≤ s.sp.a.hi then some .a
  else if s.sp.b.lo ≠ 0 ∧ s.sp.b.lo ≤ dst ∧ dst ≤ s.sp.b.hi then some .b
  else if s.isRoot ∨ (s.sp.nodeId ≤ dst ∧ dst ≤ s.sp.last) then none
  else some .u

/-- The status with which the entry node itself completes a tunnelled command, 0 for none (R306). -/
def tunnelBad (s : State) (w : Waiting) : Nat :=
  let r := tunnelRoute s w.target
  let linkDown := match r with
    | some sp => decide ((s.yobor sp).link ≠ .up)
    | none => false
  firstBad [(w.bad || flagsBad w.h, stBadParam), (decide (s.sp.st = .alone) || linkDown, stSpineDown), (r.isNone, stNodeUnknown),
    (hostOps.contains w.op && s.sp.spvOp == 2, stNotSupported)]

/-- A TTAG that no waiting command carries. -/
def freshTtag (used : List Nat) : Nat → Nat → Nat
  | 0, t => t
  | n + 1, t => if used.contains t then freshTtag used n ((t + 1) % 65536) else t

/-- The 64 bytes of a command entry (R362). -/
def cmdEntry (w : Waiting) : Bytes :=
  le 2 w.op ++ [w.h.flags, BitVec.ofNat 8 w.cw] ++ bytesOf 2 w.h.tag ++ le 2 (if w.h.bcast then 0xFFF else w.target) ++ bytesOf 56 w.p

/-- The entry leaves as a CMD message; its CPL is due within TUNNEL_TIMEOUT. -/
def tunnelSend (s : State) (w : Waiting) : State :=
  let t := freshTtag (s.spr.tunnel.map (·.ttag)) s.spr.tunnel.length s.spr.nextTtag
  let new : Tunnelled := { ttag := t, node := w.target, h := w.h, deadline := s.clk + s.sp.tunnelMs * msPh, bcast := w.h.bcast }
  sendMgt { s with
    cnt := { s.cnt with tunnelSent := sat32 s.cnt.tunnelSent 1 },
    spr := { s.spr with tunnel := s.spr.tunnel ++ [new], nextTtag := (t + 1) % 65536 } } w.target 0 t (cmdEntry w)

/-- Commands outstanding at a target. -/
def outstanding (s : State) (node : Nat) : Nat := (s.spr.tunnel.filter fun t => t.node == node).length

/-- Send a command to its target, or hold it back while 8 are outstanding there. -/
def tunnelOut (s : State) (w : Waiting) : State :=
  if 8 ≤ outstanding s w.target then { s with spr := { s.spr with heldBack := s.spr.heldBack ++ [w] } } else tunnelSend s w

/-- A tunnelled command that has left the waiting list: the entry node's own checks, or the tunnel. -/
def startRemote (w : Waiting) (s : State) : State :=
  match tunnelBad s w with
  | 0 => tunnelOut s w
  | st + 1 => refuse s w.h (st + 1)

/-! ### Broadcasts (R374) -/

/-- The status with which a broadcast is refused before it executes anywhere, 0 for none. CAPACITY: the completion ring could never
hold its completions. -/
def bcastBad (s : State) (w : Waiting) : Nat :=
  let tight := match w.h.src with
    | .ring r => (s.ring r).exists_ && decide ((s.ring (ringNo (s.ring r).pair.toNat)).size.toNat - 1 < s.sp.last + 1)
    | .tunnel _ _ | .mctp _ | .lost => false
  firstBad [(w.bad || flagsBad w.h, stBadParam), ((Sys2Proof.commandOf w.op w.h w.p).isNone, stBadOpcode),
    (!(bcastOps.contains w.op), stNotSupported), (!s.isRoot && s.sp.st != .alone, stBadState), (s.rootOfTree && tight, stCapacity)]

/-- The root sends a broadcast to every member; its own execution follows. Log entry 70: DEDUCED. -/
def bcastOut (s : State) (w : Waiting) : State :=
  let m := s.sp.last - 1
  let s1 := { s with spr := { s.spr with
    bcasts := s.spr.bcasts ++ [{ h := w.h, left := m + 1, answered := 0, total := m + 1, failed := false }] } }
  (List.range m).foldl (fun t i => tunnelOut t { w with target := i + 2 }) s1

/-! ### Entries that arrive (R343, R369) -/

/-- A command entry has arrived and waits for its turn. -/
def acceptEntry (s : State) (src : CmdSrc) (e : BitVec 512) : State :=
  let f := fun (o n : Nat) => e.toNat / 2 ^ (8 * o) % 2 ^ (8 * n)
  let node := f 6 2 % 4096
  let here := decide (node = 0) || (decide (node = s.sp.nodeId) && s.sp.st != .alone)
  let h : CmdHdr := { src := src, tag := BitVec.ofNat 16 (f 4 2), flags := BitVec.ofNat 8 (f 2 1), bcast := node == 0xFFF }
  let w : Waiting := { target := if here then 0 else node, op := f 0 2, h := h, p := BitVec.ofNat 448 (e.toNat / 2 ^ 64), cw := f 3 1,
                       bad := decide (4095 < f 6 2) }
  { s with waiting := s.waiting ++ [w] }

/-! ### MGT cells (R287, R288, R294) -/

/-- An MGT cell for another node is stored and sent on, once its CRC is good; it waits while the next link's peer has sent XOFF. -/
def mgtForward (s : State) (sp : SpPort) (c : Cell) : State :=
  match mgtRoute s (cellDst c) with
  | none => s
  | some o =>
    if (s.yobor o).link ≠ .up then s
    else if (s.yobor o).paused then mgtHold s sp o (forwarded c o)
    else s.emit (.cell o (forwarded c o))

/-- An MGT cell arrives: it goes on whatever its SPV, or it acts here if it has this kind and an SPV this node speaks (R288). Kinds 3 to 7
belong to SPV 3 (R308). Log entry 69: DEDUCED. -/
def mgtIn (sp : SpPort) (c : Cell) (kind : Nat) (s : State) (act : State → State) : State :=
  if (s.yobor sp).link ≠ .up then s
  else if cellGood c && cellAt c 0 1 == 0xA4 && s.sp.st != .alone && cellDst c != 0xFFF && cellDst c != s.sp.nodeId then mgtForward s sp c
  else cellActs s sp c 4 fun t =>
    if t.sp.st = .alone ∨ cellDst c = 0xFFF ∨ cellAt c 8 1 ≠ kind ∨ (3 ≤ kind ∧ cellSpv c ≠ 3) then t else act t

/-- The message a cell belongs to. -/
def isPart (c : Cell) (kind : Nat) (m : MgtPart) : Bool := m.src == cellSrc c && m.kind == kind && m.ttag == cellAt c 10 2

/-- The message bytes of a segment. -/
def segBytes (c : Cell) : Bytes := le 16 (cellAt c 12 16)

/-- Take a message out of those partly received. -/
def dropPart (s : State) (f : MgtPart → Bool) : State := { s with spr := { s.spr with parts := s.spr.parts.filter fun m => !(f m) } }

/-- One more segment of a message of `segs` segments. The segments come in order; the last one hands the message over.
Log entry 69: DEDUCED. -/
def assemble (s : State) (c : Cell) (kind segs : Nat) (act : State → Bytes → State) : State :=
  let seg := cellAt c 9 1
  let old := s.spr.parts.find? (isPart c kind)
  let have_ := match old with
    | some m => if m.nextSeg = seg then some m.data else none
    | none => none
  let s1 := dropPart s (isPart c kind)
  match if seg = 0 then some [] else have_ with
  | none => s1
  | some d =>
    let data := d ++ segBytes c
    if seg + 1 = segs then act s1 data
    else
      let m : MgtPart := { src := cellSrc c, kind := kind, ttag := cellAt c 10 2, data := data, nextSeg := seg + 1, addr := 0, len := 0 }
      { s1 with spr := { s1.spr with parts := s1.spr.parts ++ [m] } }

/-- MGT_CMD_RX: the target takes the command as if from its own submission ring. Log entry 69: DEDUCED. -/
def mgtCmdRx (sp : SpPort) (c : Cell) (s : State) : State :=
  mgtIn sp c 0 s fun t => assemble t c 0 4 fun u d =>
    if !u.cores then u
    else
      let h : CmdHdr := { src := .tunnel (BitVec.ofNat 12 (cellSrc c)) (BitVec.ofNat 16 (cellAt c 10 2)), tag := BitVec.ofNat 16 (rdAt d 4 2),
                          flags := BitVec.ofNat 8 (rdAt d 2 1), bcast := false }
      let w : Waiting := { target := 0, op := rdAt d 0 2, h := h, p := BitVec.ofNat 448 (rdAt d 8 56), cw := rdAt d 3 1, bad := false }
      { u with cnt := { u.cnt with tunnelRun := sat32 u.cnt.tunnelRun 1 }, waiting := u.waiting ++ [w] }

/-- A tunnelled command ends at its entry node: its completion, with NODE set to the target (R304, R374). An ALIGN halts the ring that
carried it (R305, R350). -/
def tunnelEnds (s : State) (t : Tunnelled) (st res : Nat) (timedOut : Bool) : State :=
  let s1 := { s with spr := { s.spr with tunnel := s.spr.tunnel.filter fun x => x.ttag != t.ttag } }
  let s2 := match t.h.src with
    | .ring r =>
      if t.bcast then bcastAnswer s1 t.h t.node st res timedOut
      else
        let u := writeCpl s1 r t.h.tag.toNat st t.node res (isNotify t.h)
        if st = stAlign then haltRing u r stAlign else u
    | .mctp v => s1.emit (.mctpReply v (vendorMsg 2 (cplEntry t.h.tag.toNat st 0xFF t.node res)))
    | .tunnel _ _ | .lost => s1
  match s2.spr.heldBack.find? fun w => w.target == t.node with
  | none => s2
  | some w => tunnelSend { s2 with spr := { s2.spr with heldBack := s2.spr.heldBack.erase w } } w

/-- MGT_CPL_RX; a CPL for which nothing waits is discarded. -/
def mgtCplRx (sp : SpPort) (c : Cell) (s : State) : State :=
  mgtIn sp c 1 s fun t =>
    match t.spr.tunnel.find? fun x => x.ttag == cellAt c 10 2 && x.node == cellSrc c with
    | none => t
    | some x => let d := segBytes c; tunnelEnds t x (rdAt d 2 2) (rdAt d 8 8) false

/-- MGT_EVT_RX: the sink writes the event under its own routing, with NODE set to the origin. -/
def mgtEvtRx (sp : SpPort) (c : Cell) (s : State) : State :=
  mgtIn sp c 2 s fun t => assemble t c 2 2 fun u d =>
    if out (rdAt d 0 2 / 4096) 1 8 then u
    else writeEvent u (rdAt d 0 2) (rdAt d 5 1) (d.take 6 ++ le 2 (cellSrc c) ++ d.drop 8)

/-! ### Host transfers for a target (R305) -/

/-- Where the host data of a target's tunnelled command lies: this node's host (true) or the staging window; none once the command has
timed out or a host reset has closed its ring (R306, R355). -/
def tunnelHost (s : State) (node ttag : Nat) : Option Bool :=
  match s.spr.tunnel.find? fun x => x.ttag == ttag && x.node == node with
  | none => none
  | some x => match x.h.src with
    | .ring _ => some true
    | .mctp _ => some false
    | .tunnel _ _ | .lost => none

/-- A transfer for a target that does not come about: the status goes back as a WR_ACK (log entry 17). DEDUCED. -/
def transferFails (s : State) (node ttag : Nat) : State := sendMgt s node 7 ttag (le 2 stAborted)

/-- MGT_RD_REQ_RX: the entry node reads its host's memory. -/
def mgtRdReqRx (sp : SpPort) (c : Cell) (s : State) : State :=
  mgtIn sp c 3 s fun t =>
    let addr := cellAt c 12 8
    let len := min 4096 (cellAt c 20 4)
    let ttag := cellAt c 10 2
    let m : MgtPart := { src := cellSrc c, kind := 3, ttag := ttag, data := [], nextSeg := t.nextId, addr := addr, len := len }
    match tunnelHost t (cellSrc c) ttag with
    | none => transferFails t (cellSrc c) ttag
    | some true => { t with nextId := t.nextId + 1, spr := { t.spr with parts := t.spr.parts ++ [m] } }.dmaRead t.nextId addr len false
    | some false => sendMgt t (cellSrc c) 4 ttag (t.mgt.sram.bytes addr len)

/-- The data that the entry node read for a target goes back to it, in the order of its requests. -/
def relayRead (s : State) (m : MgtPart) (data : Bytes) : State :=
  if ((s.spr.parts.find? fun x => x.kind == 3 && x.src == m.src && x.ttag == m.ttag).map (·.nextSeg)) = some m.nextSeg then
    sendMgt (dropPart s fun x => x.kind == 3 && x.nextSeg == m.nextSeg) m.src 4 m.ttag (padTo m.len (data.take m.len))
  else s

/-- MGT_WR_REQ_RX: data for this address follows. -/
def mgtWrReqRx (sp : SpPort) (c : Cell) (s : State) : State :=
  mgtIn sp c 5 s fun t =>
    let m : MgtPart := { src := cellSrc c, kind := 5, ttag := cellAt c 10 2, data := [], nextSeg := 0, addr := cellAt c 12 8,
                         len := min 4096 (cellAt c 20 4) }
    let t1 := dropPart t (isPart c 5)
    if (tunnelHost t (cellSrc c) m.ttag).isNone then transferFails t1 (cellSrc c) m.ttag
    else { t1 with spr := { t1.spr with parts := t1.spr.parts ++ [m] } }

/-- The data of a target's write is complete: it goes to the host or the staging window, and is acknowledged. Log entry 17: DEDUCED. -/
def relayWrite (s : State) (m : MgtPart) (data : Bytes) : State :=
  match tunnelHost s m.src m.ttag with
  | none => transferFails s m.src m.ttag
  | some true => sendMgt (s.hostWrite m.addr data) m.src 7 m.ttag (le 2 stOk)
  | some false => sendMgt { s with mgt := { s.mgt with sram := s.mgt.sram.write m.addr data } } m.src 7 m.ttag (le 2 stOk)

/-- MGT_WR_DATA_RX: the last segment lets the entry node write its host's memory and acknowledge. -/
def mgtWrDataRx (sp : SpPort) (c : Cell) (s : State) : State :=
  mgtIn sp c 6 s fun t =>
    match t.spr.parts.find? (isPart c 5) with
    | none => t
    | some m =>
      if m.nextSeg ≠ cellAt c 9 1 then dropPart t (isPart c 5)
      else
        let data := m.data ++ segBytes c
        if m.len ≤ data.length then relayWrite (dropPart t (isPart c 5)) m (data.take m.len)
        else
          let next : MgtPart := { m with data := data, nextSeg := m.nextSeg + 1 }
          { t with spr := { t.spr with parts := t.spr.parts.map fun x => if isPart c 5 x then next else x } }

/-- TUNNEL_TIMEOUT: no CPL within TUNNEL_TIMEOUT. -/
def tunnelTimeout (ttag : BitVec 16) (s : State) : State :=
  match s.spr.tunnel.find? fun x => x.ttag == ttag.toNat with
  | none => s
  | some x =>
    let t := s.advanceTo x.deadline
    let t1 := if x.h.src = .lost then t else { t with cnt := { t.cnt with tunnelTimeouts := sat32 t.cnt.tunnelTimeouts 1 } }
    tunnelEnds t1 x stTimeout 0 true

/-! ### Meanings of the rows -/

/-- MGT_CMD_RX (R304). -/
def execMgtCmdRx (sp : SpPort) (cell : Cell) (s : State) : Host.Outcome State Fault Refusal := .next (mgtCmdRx sp cell s)

/-- MGT_CPL_RX (R304). -/
def execMgtCplRx (sp : SpPort) (cell : Cell) (s : State) : Host.Outcome State Fault Refusal := .next (mgtCplRx sp cell s)

/-- MGT_EVT_RX (R305). -/
def execMgtEvtRx (sp : SpPort) (cell : Cell) (s : State) : Host.Outcome State Fault Refusal := .next (mgtEvtRx sp cell s)

/-- MGT_RD_REQ_RX (R305). -/
def execMgtRdReqRx (sp : SpPort) (cell : Cell) (s : State) : Host.Outcome State Fault Refusal := .next (mgtRdReqRx sp cell s)

/-- MGT_WR_REQ_RX (R305). -/
def execMgtWrReqRx (sp : SpPort) (cell : Cell) (s : State) : Host.Outcome State Fault Refusal := .next (mgtWrReqRx sp cell s)

/-- MGT_WR_DATA_RX (R305). -/
def execMgtWrDataRx (sp : SpPort) (cell : Cell) (s : State) : Host.Outcome State Fault Refusal := .next (mgtWrDataRx sp cell s)

/-- TUNNEL_TIMEOUT (R306). -/
def execTunnelTimeout (ttag : BitVec 16) (s : State) : Host.Outcome State Fault Refusal := .next (tunnelTimeout ttag s)

end Sys2Proof.Machine
end

