-- ==== Sys2Proof/Machine/Rings.lean ====
section
/-! DEFINITION. Rings: creation and states, doorbells, command and general DMA entries, re-reads, interrupts after a holdoff
(12_host_rings.md R338 to R354, R358 to R361). -/

namespace Sys2Proof.Machine

/-- Sticky bits of GLB_ERR: 0 PSEL_ABSENT, 1 DOORBELL, 2 RING_REG, 3 ACCESS, 4 DMA_FAULT. -/
def glbErr (s : State) (bit : Nat) : State := { s with glb := { s.glb with err := s.glb.err ||| BitVec.ofNat 5 (2 ^ bit) } }

/-! ### Creation (R341, R359) -/

/-- What a new ring is to be. -/
structure RingPlan where
  ring : Nat
  irqEn : Bool
  vector : Nat
  pair : Nat
  size : Nat
  base : Nat
  holdoff : Nat
  deriving DecidableEq, Repr

/-- The controller writes the ring: completion and event rings. -/
def produced (r : Nat) : Bool := decide (40 ≤ r) && decide (r < 56)

/-- A ring size: a power of two from 16 to 65,536. -/
def sizeOk (n : Nat) : Bool := (List.range 13).any fun i => n == 16 * 2 ^ i

/-- What keeps a ring from being created, in the order of R371. -/
def planChecks (s : State) (g : RingPlan) : List (Bool × Nat) :=
  [(if produced g.ring then g.pair != 0 || (!g.irqEn && (g.vector != 0 || g.holdoff != 0))
    else decide (g.ring < 64) && (g.irqEn || g.vector != 0 || g.holdoff != 0), stBadParam),
   (decide (63 < g.ring) || decide (63 < g.vector) || (decide (g.ring < 32) && portBad s g.ring) || !(sizeOk g.size) ||
     (!(produced g.ring) && (out g.pair 40 47 || !(s.ring (ringNo g.pair)).exists_)), stRange),
   (g.base % 4096 != 0, stAlign)]

/-- The ring exists: head and tail 0, catchword 1, RING_DROPPED 0. An image ring continues its port's image (R356). -/
def createRing (s : State) (g : RingPlan) : State :=
  let r := ringNo g.ring
  let s1 := s.modRing r fun _ => { Ring.reset with
    base := BitVec.ofNat 64 g.base, size := BitVec.ofNat 17 g.size, holdoff := BitVec.ofNat 8 g.holdoff, pair := BitVec.ofNat 6 g.pair,
    vector := BitVec.ofNat 6 g.vector, irqEn := g.irqEn, st := .active }
  if g.ring < 32 then s1.modPort (portNo g.ring) fun x => { x with dat := { x.dat with orphan := false } } else s1

/-- The plan in a RING_CREATE. -/
def planOf (p : Params) : RingPlan :=
  { ring := fld p 8 1, irqEn := bit (fld p 9 1) 0, vector := fld p 10 1, pair := fld p 11 1, size := fld p 12 4, base := fld p 16 8,
    holdoff := fld p 24 1 }

/-- RING_CREATE. -/
def ringCreate (h : CmdHdr) (p : Params) (s : State) : State :=
  plainCmd 0x0101 h p s [(8, 1), (9, 1), (10, 1), (11, 1), (12, 4), (16, 8), (24, 1)]
    ((rsv (fld p 9 1) 0x01, stBadParam) :: planChecks s (planOf p) ++ [((s.ring (ringNo (fld p 8 1))).exists_, stBadState)])
    (fun t => createRing t (planOf p))

/-! ### RING_CTRL (R341, R354) -/

/-- A HALTED ring continues (R345, R351). -/
def resumeRing (s : State) (r : Fin 64) : State :=
  s.modRing r fun g => if g.st = .halted then { g with st := .active, haltCode := 0, rereads := 0 } else g

/-- Creation by registers: a failing check leaves the ring ABSENT with the status in HALT_CODE. -/
def enableRing (s : State) (r : Fin 64) : State :=
  let g := s.ring r
  let plan : RingPlan := { ring := r.1, irqEn := g.irqEn, vector := g.vector.toNat, pair := g.pair.toNat, size := g.size.toNat,
                           base := g.base.toNat, holdoff := g.holdoff.toNat }
  match firstBad (planChecks s plan) with
  | 0 => createRing s plan
  | st + 1 => s.modRing r fun x => { x with haltCode := st + 1 }

/-- A write of RING_CTRL. -/
def ringCtrlWrite (r : Fin 64) (v : U32) (s : State) : State :=
  let g := s.ring r
  let holdoff := v.extractLsb' 24 8
  let pair := v.extractLsb' 16 6
  let vector := v.extractLsb' 8 6
  let irq := v.getLsbD 2
  if g.st = .absent then
    let s1 := s.modRing r fun x => { x with holdoff := holdoff, pair := pair, vector := vector, irqEn := irq }
    if v.getLsbD 0 then enableRing s1 r else s1
  else
    let same := holdoff == g.holdoff && pair == g.pair && vector == g.vector && irq == g.irqEn
    let s1 := if same then s else glbErr s 2
    if v.getLsbD 1 then resumeRing s1 r else s1

/-- A write of RING_BASE_LO, RING_BASE_HI or RING_SIZE: stored while the ring is ABSENT. -/
def ringCfgWrite (s : State) (r : Fin 64) (f : Ring → Ring) : State :=
  let g := s.ring r
  if g.st = .absent then s.modRing r f else if f g = g then s else glbErr s 2

/-! ### Doorbells (R342) -/

/-- RING_TAIL written: the doorbell of a host-produced ring. -/
def ringTailWrite (r : Fin 64) (v : U32) (s : State) : State :=
  let g := s.ring r
  let n := (v.extractLsb' 0 16).toNat
  if produced r.1 || !g.exists_ || decide (g.size.toNat ≤ n) then glbErr s 1 else s.modRing r fun x => { x with tail := n }

/-- RING_HEAD written: slots of a controller-produced ring come back. -/
def ringHeadWrite (r : Fin 64) (v : U32) (s : State) : State :=
  let g := s.ring r
  let n := (v.extractLsb' 0 16).toNat
  let back := (n + g.size.toNat - g.head) % max g.size.toNat 1
  if !(produced r.1) || !g.exists_ || decide (g.size.toNat ≤ n) || decide (g.used < back) then glbErr s 1
  else s.modRing r fun x => { x with head := n }

/-- RING_TAIL read: every entry it counts has been written. -/
def ringTailRead (r : Fin 64) (s : State) : State :=
  s.emit (.readData (0x10010 + 0x40 * r.1) (BitVec.ofNat 32 (s.ring r).tail))

/-! ### Command entries (R343, R362, R369) -/

/-- A RING_DESTROY of the ring itself has been fetched: nothing is fetched after it (R360). -/
def ownDestroy (s : State) (r : Fin 64) : Bool :=
  s.waiting.any fun w => w.op == 0x0102 && w.h.src == .ring r && !w.remote && fld w.p 8 1 == r.1 && !(isDry w.h)

/-- Completion slots that must be free before a command entry is fetched: one, or on the root of a tree one for each node of a broadcast
and the closing one, unless the ring could never hold them (R343, R374). Log entry 45: DEDUCED. -/
def slotsFor (s : State) (r : Fin 64) (e : BitVec 512) : Nat :=
  let m := s.sp.last + 1
  if e.toNat / 2 ^ 48 % 4096 = 0xFFF ∧ s.rootOfTree ∧ m ≤ (s.ring (ringNo (s.ring r).pair.toNat)).size.toNat - 1 then m else 1

/-- The next command entry of a submission ring, `e`, is read; head moves past it when it is accepted. -/
def cmdRead (s : State) (c : Fin 8) (e : BitVec 512) : State :=
  let r := ringNo (32 + c.1)
  if s.cores && mayRead s r && decide (s.execs.length < 32) && !(ownDestroy s r) && cplRoom s r (slotsFor s r e) then
    match readEntry s r (entryCw e) with
    | .wait t => t
    | .got t => acceptEntry (t.modRing r fun g => { g with head := g.fetch }) (.ring r) e
  else s

/-- CMD_FETCH; while further reads of an entry are outstanding, those come first (R345). Log entry 45: DEDUCED. -/
def cmdFetch (c : Fin 8) (e : BitVec 512) (s : State) : State :=
  if (s.ring (ringNo (32 + c.1))).rereads = 0 then cmdRead s c e else s

/-! ### General DMA (R352, R353) -/

/-- The field of `n` bytes at byte `o` of a descriptor. -/
def gdmaField (e : BitVec 256) (o n : Nat) : Nat := e.toNat / 2 ^ (8 * o) % 2 ^ (8 * n)

/-- The status with which a general DMA descriptor is turned away, 0 for none. Log entry 46: DEDUCED. -/
def gdmaBad (s : State) (e : BitVec 256) : Nat :=
  let f := gdmaField e
  let typ := f 0 1
  firstBad
    [(out typ 1 2 || rsv (f 1 1) (if typ = 1 then 3 else 2) || f 2 1 != 0 || f 24 8 != 0, stBadParam),
     ((f 12 4 % 64 == 0 && out (f 12 4) 64 0x4000000) || badSpan s (f 6 2) (f 8 4) (if f 12 4 % 64 = 0 then f 12 4 else 0), stRange),
     (f 16 8 % 64 != 0 || f 8 4 % 64 != 0 || f 12 4 % 64 != 0, stAlign), (decide (s.page.st ≠ .ready), stBadState),
     (typ == 1 && s.fillsOf (f 6 2) != 0, stBusy)]

/-- A general DMA descriptor is over: its completion where one is due, and head moves past it. -/
def gdmaOver (s : State) (r : Fin 64) (e : BitVec 256) (st res : Nat) : State :=
  let s1 := if st = stOk && !(bit (gdmaField e 1 1) 1) then s else writeCpl s r (gdmaField e 4 2) st s.sp.nodeId res false
  let s2 := s1.modRing r fun g => if g.st = .absent then g else { g with head := (g.head + 1) % max g.size.toNat 1 }
  { s2 with gdma := s2.gdma.filter fun x => x.1 != r.1 }

/-- A general DMA descriptor starts: its data moves, one descriptor of a ring at a time. -/
def gdmaStart (s : State) (r : Fin 64) (e : BitVec 256) : State :=
  let f := gdmaField e
  match gdmaBad s e with
  | st + 1 =>
    let s1 := gdmaOver s r e (st + 1) 0
    if st + 1 = stAlign then haltRing s1 r stAlign else s1
  | 0 =>
    let s1 := { s with gdma := s.gdma ++ [(r.1, e, s.nextId)], nextId := s.nextId + 1 }
    if f 0 1 = 1 then s1.gdmaRead r.1 s.nextId (f 16 8) (f 12 4) (bit (f 1 1) 0)
    else s1.hostWrite (f 16 8) (match s.region (f 6 2) with
      | some g => g.mem.bytes (f 8 4) (f 12 4)
      | none => [])

/-- The next general DMA descriptor, `e`, is read and started. One that gets a completion waits for a slot (R343). -/
def gdmaDescRead (s : State) (c : Fin 8) (e : BitVec 256) : State :=
  let r := ringNo (56 + c.1)
  let answers := gdmaBad s e != 0 || bit (gdmaField e 1 1) 1
  if mayRead s r && !(s.gdma.any fun x => x.1 == r.1) && (!answers || cplRoom s r 1) then
    match readEntry s r (entryCw e) with
    | .wait t => t
    | .got t => gdmaStart t r e
  else s

/-- GDMA_DESC_FETCH. -/
def gdmaDescFetch (c : Fin 8) (e : BitVec 256) (s : State) : State :=
  if (s.ring (ringNo (56 + c.1))).rereads = 0 then gdmaDescRead s c e else s

/-- The transfer of a general DMA descriptor is done. -/
def gdmaDone (s : State) (r : Fin 64) (e : BitVec 256) (data : Bytes) : State :=
  let f := gdmaField e
  let n := f 12 4
  gdmaOver (if f 0 1 = 1 then fillRegion s (f 6 2) (f 8 4) ((padTo n data).take n) else s) r e stOk n

/-! ### Re-reads (R345) -/

/-- CATCHWORD_REREAD: 1 µs after a mismatch the entry is read again. -/
def catchwordReread (r : Fin 64) (e : BitVec 512) (s : State) : State :=
  if (s.ring r).rereads = 0 || !(mayRead s r || (decide (r.1 < 32) && mayPurge s (portNo r.1))) then s
  else
    let t := rereadNow s r
    if r.1 < 32 then descRead t (portNo r.1) (e.extractLsb' 0 256)
    else if r.1 < 40 then cmdRead t (finOf 8 (by decide) (r.1 - 32)) e
    else if r.1 < 56 then s
    else gdmaDescRead t (finOf 8 (by decide) (r.1 - 56)) (e.extractLsb' 0 256)

/-! ### RING_DESTROY, RING_RESUME (R360, R361) -/

/-- Another ring names this completion ring as its pair. -/
def paired (s : State) (c : Nat) : Bool :=
  (idx 64).any fun r => (s.ring r).exists_ && !(produced r.1) && (s.ring r).pair.toNat == c

/-- A quire beyond BOUND prints from this image ring's port. -/
def imageBusy (s : State) (r : Nat) : Bool :=
  decide (r < 32) && (match s.quireOf (portNo r) with
    | some q => (s.quire q).st.beyond
    | none => false)

/-- A number that names no ring, or the image ring of a port outside the part or the layout (R2, R34, R371). Log entry 38: DEDUCED. -/
def noRing (s : State) (r : Nat) : Bool := decide (63 < r) || (decide (r < 32) && portBad s r)

/-- RING_DESTROY: it completes once the ring is ABSENT. Log entry 38: DEDUCED. -/
def ringDestroy (h : CmdHdr) (p : Params) (s : State) : State :=
  let r := ringNo (fld p 8 1)
  let st := (s.ring r).st
  command 0x0102 h p s [(8, 1)]
    [(noRing s (fld p 8 1), stRange), (decide (st ≠ .active) && decide (st ≠ .halted), stBadState), (imageBusy s r.1, stBadState),
     (decide (40 ≤ r.1) && decide (r.1 < 48) && paired s r.1, stBusy)]
    (fun t => complete t h stOk 0)
    (fun t => (beginExec t 0x0102 h p .ringClose 0).modRing r fun g => { g with st := .closing, haltCode := 0, rereads := 0 })

/-- RING_RESUME. -/
def ringResume (h : CmdHdr) (p : Params) (s : State) : State :=
  let r := ringNo (fld p 8 1)
  plainCmd 0x0103 h p s [(8, 1)] [(noRing s (fld p 8 1), stRange), (decide ((s.ring r).st ≠ .halted), stBadState)] (fun t => resumeRing t r)

/-- A command that this ring carried has not completed, but for the RING_DESTROY of the ring itself. Log entry 38: DEDUCED. -/
def ringHolds (s : State) (r : Fin 64) : Bool :=
  let own := fun (h : CmdHdr) => h.src == .ring r
  (s.execs.any fun e => own e.h && !(e.wait == .ringClose && fld e.p 8 1 == r.1)) || (s.waiting.any fun w => own w.h) ||
  (s.spr.tunnel.any fun t => own t.h) || (s.spr.heldBack.any fun w => own w.h) || (s.spr.bcasts.any fun b => own b.h) ||
  (s.gdma.any fun x => x.1 == r.1) ||
  (decide (r.1 < 32) && (
    let d := (s.port (portNo r.1)).dat
    let open_ := fun (l : List Desc) => l.any fun x => !x.retired && !x.ringless
    !d.owed.isEmpty ||
    open_ d.descs || (match d.stash with
      | some x => open_ x.descs
      | none => false)))

/-- RING_CLOSE_DONE: every fetched entry has completed or retired; the RING_DESTROY completes, and the ring is ABSENT. -/
def ringCloseDone (r : Fin 64) (s : State) : State :=
  if (s.ring r).st ≠ .closing || ringHolds s r then s
  else
    let s1 := endAll s (fun e => e.wait == .ringClose && fld e.p 8 1 == r.1) stOk 0
    let s2 := s1.modRing r fun g => { g with st := .absent, arrived := false }
    if r.1 < 32 then s2.modPort (portNo r.1) fun x => { x with dat := { x.dat with purge := 0 } } else s2

/-! ### Interrupts (R339) -/

/-- MSIX_HOLDOFF_END: one message for the entries that arrived during the holdoff. -/
def msixHoldoffEnd (r : Fin 64) (s : State) : State :=
  let g := s.ring r
  if !g.arrived || !g.exists_ then s
  else
    let t := s.advanceTo g.holdUntil
    sendMsix (t.modRing r fun x => { x with arrived := false, holdUntil := t.clk + x.holdoff.toNat * usPh }) g.vector.toNat

/-! ### Meanings of the rows -/

/-- RING_CREATE (R359). -/
def execRingCreate (h : CmdHdr) (p : Params) (s : State) : Host.Outcome State Fault Refusal := .next (ringCreate h p s)

/-- RING_DESTROY (R360). -/
def execRingDestroy (h : CmdHdr) (p : Params) (s : State) : Host.Outcome State Fault Refusal := .next (ringDestroy h p s)

/-- RING_RESUME (R361). -/
def execRingResume (h : CmdHdr) (p : Params) (s : State) : Host.Outcome State Fault Refusal := .next (ringResume h p s)

/-- RING_CTRL_ENABLE (R341). -/
def execRingCtrlEnable (r : Fin 64) (v : U32) (s : State) : Host.Outcome State Fault Refusal := .next (ringCtrlWrite r v s)

/-- RING_CTRL_RESUME (R354). -/
def execRingCtrlResume (r : Fin 64) (v : U32) (s : State) : Host.Outcome State Fault Refusal := .next (ringCtrlWrite r v s)

/-- RING_TAIL_DOORBELL (R342). -/
def execRingTailDoorbell (r : Fin 64) (v : U32) (s : State) : Host.Outcome State Fault Refusal := .next (ringTailWrite r v s)

/-- RING_HEAD_RETURN (R342). -/
def execRingHeadReturn (r : Fin 64) (v : U32) (s : State) : Host.Outcome State Fault Refusal := .next (ringHeadWrite r v s)

/-- RING_TAIL_READ (R346). -/
def execRingTailRead (r : Fin 64) (s : State) : Host.Outcome State Fault Refusal := .next (ringTailRead r s)

/-- GDMA_DESC_FETCH (R353). -/
def execGdmaDescFetch (c : Fin 8) (entry : BitVec 256) (s : State) : Host.Outcome State Fault Refusal := .next (gdmaDescFetch c entry s)

/-- CMD_FETCH (R343). -/
def execCmdFetch (c : Fin 8) (entry : BitVec 512) (s : State) : Host.Outcome State Fault Refusal := .next (cmdFetch c entry s)

/-- CATCHWORD_REREAD (R345). -/
def execCatchwordReread (r : Fin 64) (entry : BitVec 512) (s : State) : Host.Outcome State Fault Refusal := .next (catchwordReread r entry s)

/-- RING_CLOSE_DONE (R354). -/
def execRingCloseDone (r : Fin 64) (s : State) : Host.Outcome State Fault Refusal := .next (ringCloseDone r s)

/-- MSIX_HOLDOFF_END (R339). -/
def execMsixHoldoffEnd (r : Fin 64) (s : State) : Host.Outcome State Fault Refusal := .next (msixHoldoffEnd r s)

end Sys2Proof.Machine
end

