-- ==== Sys2Proof/Machine/Sys.lean ====
section
/-! DEFINITION. The SYS and DIAG commands: NOP, GET_INFO, SET_PROFILE, SELF_RESET, SET_TIME, GET_COUNTERS, TEST_PATTERN, EVENT_CONFIG
(13_commands_events.md R383 to R391). -/

namespace Sys2Proof.Machine

/-- NOP. -/
def nop (h : CmdHdr) (p : Params) (s : State) : State :=
  let end_ := fun (t : State) => complete t h stOk t.ns
  command 0x0001 h p s [] [] end_ end_

/-! ### GET_INFO (R384) -/

/-- GLB_ID.PART. Log entry 82: DEDUCED. -/
def State.part (s : State) : Nat := if s.glb.part3232 then 0x3232 else 0x3216

/-- VERSION of an image (bytes 8 to 11 of its header). -/
def imageVersion (img : Bytes) : Nat := rdAt img 8 4

/-- VERSION of the running image, 0 for none. -/
def State.fwVersion (s : State) : Nat := imageVersion (s.flash.running.getD [])

/-- The record of GET_INFO. -/
def infoRecord (s : State) : Bytes :=
  let straps := s.rst.straps.toNat
  recBytes [(2, s.part), (1, 0xA1), (1, s.partPorts), (1, s.glb.layout.toNat), (1, bitAt s.postureEff 0), (1, bits straps 1 0),
    (1, bits straps 3 2 + 128 * bits straps 4 4), (2, s.sp.nodeId), (1, s.sp.st.code), (1, 16 * s.sp.spvOp + 3), (4, s.fwVersion),
    (1, if s.rst.slot.toNat < 2 then s.rst.slot.toNat else 0xFF), (1, s.page.st.code), (2, s.page.gib), (1, s.link.rate),
    (1, s.link.width), (2, s.link.mps)] ++ s.uid ++
  recBytes [(4, Config.romVersion.toNat), (8, s.ns), (4, s.seconds), (4, s.rst.count), (8, 0)]

/-- GET_INFO. -/
def getInfo (h : CmdHdr) (p : Params) (s : State) : State :=
  let addr := fld p 16 8
  reportCmd 0x0002 h p s [(16, 8)] (addrChecks s h addr 64) addr infoRecord
    (fun t => t.part + 0xA10000 + t.partPorts * 2 ^ 24 + t.fwVersion * 2 ^ 32)

/-! ### SET_PROFILE (R33, R34, R36, R37, R385) -/

/-- Ports of a layout. -/
def layoutSize (l : Nat) : Nat := if l = 0 then 32 else if l = 1 then 16 else 8

/-- What stands in the way of a layout. -/
def layoutHeld (s : State) (l : Nat) : Bool :=
  ((idx 32).any fun p => (s.port p).st != .closed) ||
  ((idx 8).any fun q => (s.quire q).st != .unbound && decide (2 ^ layoutSize l ≤ (s.quire q).ports.toNat)) ||
  ((idx 32).any fun p => decide (layoutSize l ≤ p.1) && (s.ring (ringNo p.1)).exists_)

/-- SET_PROFILE: all of the named fields change, or none. -/
def setProfile (h : CmdHdr) (p : Params) (s : State) : State :=
  let f := fld p 8 1
  let lay := fld p 9 1
  let cap := fld p 10 1 = 1
  let off := fun (b o : Nat) => !(bit f b) && fld p o 1 != 0
  plainCmd 0x0003 h p s [(8, 1), (9, 1), (10, 1), (11, 1)]
    [(rsv f 0x07 || f == 0 || off 0 9 || off 1 10 || off 2 11 || decide (2 < lay) || decide (1 < fld p 10 1) || decide (1 < fld p 11 1), stBadParam),
     (bit f 0 && decide (lay ≠ s.glb.layout.toNat) && layoutHeld s lay, stBadState),
     (bit f 1 && decide cap && decide (s.aggregateCap true < s.admitted), stCapacity)]
    (fun t => { t with glb := { t.glb with
      layout := if bit f 0 then BitVec.ofNat 2 lay else t.glb.layout, capped := if bit f 1 then cap else t.glb.capped,
      abortOnPerst := if bit f 2 then fld p 11 1 == 1 else t.glb.abortOnPerst } })

/-! ### SELF_RESET, SET_TIME, GET_COUNTERS (R386 to R388) -/

/-- A quire of the node is beyond BOUND. -/
def State.anyBeyond (s : State) : Bool := (idx 8).any fun q => (s.quire q).st.beyond

/-- SELF_RESET: its completion, then no further command; the drive of RST_N is due after DELAY_US. -/
def selfReset (h : CmdHdr) (p : Params) (s : State) : State :=
  command 0x0004 h p s [(8, 1), (9, 1), (12, 4)]
    [(fld p 8 1 != 0xA5 || rsv (fld p 9 1) 0x01, stBadParam), (decide (1000000 < fld p 12 4), stRange),
     (!(bit (fld p 9 1) 0) && s.anyBeyond, stBadState)]
    (fun t => complete t h stOk 0)
    (fun t =>
      let u := complete t h stOk 0
      { u with rst := { u.rst with noFetch := true, selfAt := some (u.clk + fld p 12 4 * usPh) } })

/-- SET_TIME: one step of the timebase. Log entry 36: DEDUCED. -/
def setTime (h : CmdHdr) (p : Params) (s : State) : State :=
  let adj := fld p 8 1 = 1
  let new : Int := (s.tb : Int) + 4 * sfld p 16 8
  command 0x0005 h p s [(8, 1), (16, 8)]
    [(decide (1 < fld p 8 1), stBadParam), (decide adj && decide (new < 0), stRange),
     ((!s.isRoot && s.sp.st != .alone) || s.anyBeyond, stBadState)]
    (fun t => complete t h stOk t.ns)
    (fun t => complete { t with tb := if adj then new.toNat else 4 * fld p 16 8,
                                 spr := { t.spr with event := t.spr.event ||| 16 } } h stOk t.ns)

/-- The record of GET_COUNTERS. -/
def counterRecord (s : State) : Bytes :=
  let c := s.cnt
  recBytes [(8, c.cmds), (4, c.refused), (4, c.events), (4, c.unwritten), (4, c.dropped), (4, c.telWritten), (4, c.telDropped),
    (4, c.rereads), (4, c.dmaFaults), (4, c.tunnelSent), (4, c.tunnelRun), (4, c.tunnelTimeouts), (4, c.msix), (8, 0)]

/-- GET_COUNTERS: CLEAR sets every counter to 0 once the record is taken. -/
def getCounters (h : CmdHdr) (p : Params) (s : State) : State :=
  let addr := fld p 16 8
  command 0x0006 h p s [(8, 1), (16, 8)] ((rsv (fld p 8 1) 0x01, stBadParam) :: addrChecks s h addr 64)
    (fun t => complete t h stOk 0)
    (fun t =>
      let u := writeOut t h addr (counterRecord t)
      complete (if bit (fld p 8 1) 0 then { u with cnt := .reset } else u) h (outSt t h) 0)

/-! ### TEST_PATTERN (R390) -/

/-- The port's quire is UNBOUND or BOUND. -/
def quireIdle (s : State) (p : Fin 32) : Bool :=
  match s.quireOf p with
  | some q => (s.quire q).st == .bound
  | none => true

/-- TEST_PATTERN. Log entry 46: DEDUCED. -/
def testPattern (h : CmdHdr) (p : Params) (s : State) : State :=
  let r := portNo (fld p 8 1)
  let x := s.port r
  let set := fld p 9 1 = 1
  let kind := fld p 10 1
  let level := fld p 11 1
  let step := fld p 12 2
  plainCmd 0x0E02 h p s [(8, 1), (9, 1), (10, 1), (11, 1), (12, 2), (16, 4)]
    [(decide (1 < fld p 9 1) || decide (2 < kind) || (!(decide set) && (kind != 0 || level != 0 || step != 0 || fld p 16 4 != 0)) ||
      (kind == 2 && level != 0) || (kind != 1 && step != 0), stBadParam),
     (portBad s (fld p 8 1) || (decide set && out (fld p 16 4) 1 16777215), stRange), (decide (x.st ≠ .idle) || !(quireIdle s r), stBadState),
     (decide set && ((kind != 2 && out level 1 (topLevel x.depth)) || (kind == 1 && out step 2 8192)), stBadParam)]
    (fun t => t.modPort r fun y => { y with dat := { y.dat with
      pattern := if set then some { kind := kind, level := level, step := step, lines := fld p 16 4 } else none } })

/-! ### EVENT_CONFIG (R379, R391) -/

/-- The settings of a group as RESULT; 0x0F is telemetry, and group 0 stands for all, whose settings are now one. -/
def routeResult (s : State) (g : Nat) : Nat :=
  if g = 15 then s.telRoute.toNat
  else
    let r := look s.routes (finOf 8 (by decide) (g + 7))
    r.ring.toNat + 256 * r.minSev + 65536 * r.disable.toNat

/-- EVENT_CONFIG acts. -/
def setRoutes (s : State) (p : Params) : State :=
  let g := fld p 8 1
  let ring := BitVec.ofNat 8 (fld p 10 1)
  let new : Route := { ring := ring, minSev := fld p 11 1, disable := BitVec.ofNat 16 (fld p 12 2) }
  if bit (fld p 9 1) 0 then s
  else if g = 15 then { s with telRoute := ring }
  else { s with routes := updAll s.routes fun i r => if g = 0 ∨ g = i.1 + 1 then new else r }

/-- EVENT_CONFIG. -/
def eventConfig (h : CmdHdr) (p : Params) (s : State) : State :=
  let g := fld p 8 1
  let read := bit (fld p 9 1) 0
  let ring := fld p 10 1
  let sev := fld p 11 1
  let dis := fld p 12 2
  let end_ := fun (t : State) => complete t h stOk (routeResult (setRoutes t p) g)
  command 0x0E03 h p s [(8, 1), (9, 1), (10, 1), (11, 1), (12, 2)]
    [(rsv (fld p 9 1) 0x01 || (read && (ring != 0 || sev != 0 || dis != 0)) || (g == 15 && (sev != 0 || dis != 0)), stBadParam),
     ((out g 0 8 && g != 15) || (out ring 48 55 && ring != 0xFF && ring != 0) || decide (4 < sev), stRange), (read && g == 0, stBadParam)]
    end_ (fun t => complete (setRoutes t p) h stOk (routeResult (setRoutes t p) g))

/-! ### Meanings of the rows -/

/-- NOP (R383). -/
def execNop (h : CmdHdr) (p : Params) (s : State) : Host.Outcome State Fault Refusal := .next (nop h p s)

/-- GET_INFO (R384). -/
def execGetInfo (h : CmdHdr) (p : Params) (s : State) : Host.Outcome State Fault Refusal := .next (getInfo h p s)

/-- SET_PROFILE (R385). -/
def execSetProfile (h : CmdHdr) (p : Params) (s : State) : Host.Outcome State Fault Refusal := .next (setProfile h p s)

/-- SELF_RESET (R386). -/
def execSelfReset (h : CmdHdr) (p : Params) (s : State) : Host.Outcome State Fault Refusal := .next (selfReset h p s)

/-- SET_TIME (R387). -/
def execSetTime (h : CmdHdr) (p : Params) (s : State) : Host.Outcome State Fault Refusal := .next (setTime h p s)

/-- GET_COUNTERS (R388). -/
def execGetCounters (h : CmdHdr) (p : Params) (s : State) : Host.Outcome State Fault Refusal := .next (getCounters h p s)

/-- TEST_PATTERN (R390). -/
def execTestPattern (h : CmdHdr) (p : Params) (s : State) : Host.Outcome State Fault Refusal := .next (testPattern h p s)

/-- EVENT_CONFIG (R391). -/
def execEventConfig (h : CmdHdr) (p : Params) (s : State) : Host.Outcome State Fault Refusal := .next (eventConfig h p s)

end Sys2Proof.Machine
end

