-- ==== Sys2Proof/Machine/Firmware.lean ====
section
/-! DEFINITION. Firmware slots, boot records and the FW commands (14_reset_boot.md R403 to R405, R409 to R412). -/

namespace Sys2Proof.Machine

/-! ### Images (R403, R404) -/

/-- ARV of an image. -/
def imageArv (img : Bytes) : Nat := rdAt img 12 1

/-- The stage-1 and main parts of an image. -/
def stage1Of (img : Bytes) : Bytes := (img.drop (rdAt img 16 4)).take (rdAt img 20 4)
def mainOf (img : Bytes) : Bytes := (img.drop (rdAt img 24 4)).take (rdAt img 28 4)

/-- Every byte of a stretch is 0. -/
def allZero (img : Bytes) (o n : Nat) : Bool := ((img.drop o).take n).all (· == 0)

/-- The header's extent: the end of the last part, in units of 64 bytes. Log entry 71: DEDUCED. -/
def imageExtent (img : Bytes) : Nat := up64 (max 512 (max (rdAt img 16 4 + rdAt img 20 4) (rdAt img 24 4 + rdAt img 28 4)))

/-- The header is well-formed, names this part, and fits the image's length. -/
def headerFits (s : State) (img : Bytes) : Bool :=
  rdAt img 0 4 == 0x57464B53 && rdAt img 4 1 == 1 && bit (rdAt img 5 1) (if s.glb.part3232 then 0 else 1) && !(rsv (rdAt img 5 1) 0x03) &&
  decide (imageArv img ≤ 64) && allZero img 6 2 && allZero img 13 3 && allZero img 128 128 && allZero img 352 160 &&
  decide (512 ≤ rdAt img 16 4) && decide (512 ≤ rdAt img 24 4) && decide (imageExtent img = img.length)

/-- The digests of both stages match. -/
def digestsFit (img : Bytes) : Bool := sha384 (stage1Of img) == (img.drop 32).take 48 && sha384 (mainOf img) == (img.drop 80).take 48

/-- The signature verifies under the signing key, if there is one (R420). -/
def signatureFits (s : State) (img : Bytes) : Bool :=
  match s.otp.keyRegion with
  | some r => Config.ecdsaVerify (s.otp.fwKey r) (img.take 256) ((img.drop 256).take 96)
  | none => false

/-- A slot that holds an image. -/
def FwSlot.filled (f : FwSlot) : Bool := f.st != .empty && f.st != .staging

/-- The status with which the ROM or FW_VERIFY rejects a slot, 0 for none (R404, R410). Log entry 71: DEDUCED. -/
def fwStatus (s : State) (f : FwSlot) : Nat :=
  firstBad [(!f.filled || !(headerFits s f.image) || !(digestsFit f.image), stFwSlotInvalid),
    (decide (imageArv f.image < s.otp.ar), stFwRollback), (s.otp.enforceSig && !(signatureFits s f.image), stFwSig)]

/-! ### Slots and records -/

/-- The flash addresses of a slot, of its trailer, and of a boot record copy. -/
def slotBase (n : Nat) : Nat := if n = 0 then 0x200000 else 0x600000
def trailerAddr (n : Nat) : Nat := slotBase n + 0x3F0000
def recordAddr (copy : Bool) : Nat := if copy then 0x10000 else 0

/-- The trailer of an image. -/
def trailerOf (img : Bytes) : Bytes :=
  let b := le 4 0x4C52544B ++ le 4 img.length ++ sha384 img ++ zeros 4
  b ++ bytesOf 4 (crc32 b)

/-- The 64 bytes of a boot record copy. -/
def recordBytes (r : BootRec) : Bytes :=
  let b := le 4 0x44435242 ++ le 4 r.seq ++ [BitVec.ofNat 8 r.active, BitVec.ofNat 8 r.previous, BitVec.ofNat 8 (bitAt r.trial 0),
    BitVec.ofNat 8 r.limit] ++ zeros 48
  b ++ bytesOf 4 (crc32 b)

/-- The governing copy: the newest valid one, and whether it is copy 1 (R403). -/
def Flash.governing (f : Flash) : Option (Bool × BootRec) :=
  match f.rec0, f.rec1 with
  | some a, some b => if a.seq < b.seq then some (true, b) else some (false, a)
  | some a, none => some (false, a)
  | none, some b => some (true, b)
  | none, none => none

/-- The governing record. -/
def State.bootRec (s : State) : Option BootRec := s.flash.governing.map (·.2)

/-- RST_BOOT. -/
def State.rstBoot (s : State) : Nat :=
  let r := s.rst
  r.stage.toNat + 16 * r.source.toNat + 256 * r.slot.toNat + bitAt r.fallback 12 + bitAt r.trial 13 + 65536 * r.reject

/-! ### Flash writes (R276, R405) -/

/-- A flash write begins; with WRITE_SAFE at 0 it is paused at once. -/
def flashStart (s : State) (j : FlashJob) : State :=
  let s1 := { s with flash := { s.flash with job := some j, pausedAt := if s.writeSafe then none else some s.clk } }
  match j with
  | .stage _ n img => (s1.emit (.flashErase (slotBase n))).emit (.flashProgram (slotBase n) img)
  | .record _ copy r _ _ =>
    let s2 := { s1 with flash := { s1.flash with rec0 := if copy then s1.flash.rec0 else none, rec1 := if copy then none else s1.flash.rec1 } }
    (s2.emit (.flashErase (recordAddr copy))).emit (.flashProgram (recordAddr copy) (recordBytes r))

/-- An executing command by its id. -/
def State.execOf (s : State) (id : Nat) : Option Exec := s.execs.find? fun e => e.id == id

/-- An executing command ends, if it is still there. -/
def endById (s : State) (id st res : Nat) : State :=
  match s.execOf id with
  | some e => endExec s e st res
  | none => s

/-- VERSION, ARV and the signature result as RESULT. -/
def fwResult (s : State) (img : Bytes) (sig : Bool) : Nat :=
  imageVersion img + imageArv img * 2 ^ 32 + bitAt (sig && !(signatureFits s img)) 40

/-- The AR words that CONFIRM with ADVANCE_AR programs (R432). -/
def arTargets (s : State) : List OtpTarget :=
  let arv := imageArv (s.flash.running.getD [])
  (List.range arv).flatMap fun k => if s.otp.ar ≤ k then otpTarget s.otp (256 + k) (arData k) 4 else []

/-- The AR words are programmed, or the command ends. -/
def advanceAr (s : State) (id : Nat) : State :=
  if (arTargets s).isEmpty then endById s id stOk 0
  else if !s.writeSafe then endById s id stSupplyLow 0
  else otpStart (s.modExec id fun x => { x with wait := .otp }) (otpJob id 5 (arTargets s))

/-- FLASH_WRITE_DONE. -/
def flashWriteDone (ok : Bool) (s : State) : State :=
  if s.flash.pausedAt.isSome then s
  else match s.flash.job with
    | none => s
    | some (.stage id n img) =>
      let s1 := { s with flash := { s.flash with job := none } }
      if ok then endById ((s1.setFwSlot n { st := .valid, image := img }).emit (.flashProgram (trailerAddr n) (trailerOf img))) id stOk (fwResult s img false)
      else endById (s1.setFwSlot n .none_) id stFwSlotInvalid 0
    | some (.record id copy r clear advance) =>
      let s1 := { s with flash := { s.flash with job := none } }
      if !ok then endById s1 id stFwSlotInvalid 0
      else
        let s2 := { s1 with flash := { s1.flash with rec0 := if copy then s1.flash.rec0 else some r, rec1 := if copy then some r else s1.flash.rec1 } }
        if clear then
          let s3 := { s2 with rst := { s2.rst with trialBoots := 0 } }
          if advance then advanceAr s3 id else endById s3 id stOk 0
        else endById s2 id stOk r.seq

/-- FLASH_PAUSE_TIMEOUT: 10 s paused end FW_STAGE. -/
def flashPauseTimeout (s : State) : State :=
  match s.flash.job, s.flash.pausedAt with
  | some (.stage id n _), some t =>
    let s1 := s.advanceTo (t + 10000 * msPh)
    endById ({ s1 with flash := { s1.flash with job := none, pausedAt := none } }.setFwSlot n .none_) id stSupplyLow 0
  | _, _ => s

/-! ### Commands (R409 to R412) -/

/-- FW_STAGE. Log entry 71: DEDUCED. -/
def fwStage (h : CmdHdr) (p : Params) (s : State) : State :=
  let n := fld p 8 1
  let len := fld p 12 4
  let addr := fld p 16 8
  let ns := bit (fld p 9 1) 0
  command 0x0C01 h p s [(8, 1), (9, 1), (12, 4), (16, 8)]
    [(rsv (fld p 9 1) 0x01, stBadParam), (decide (2 < n) || outLen h len 512 0x300000 || beyond s h addr len, stRange),
     (misaddr h addr || mislen h len, stAlign),
     (if n = 2 then !s.romOnly else (s.fwSlot n).st == .running, stBadState), (!s.writeSafe, stSupplyLow)]
    (fun t => beginRead t 0x0C01 h p addr len ns)
    (fun t =>
      let t1 := if n = 2 then t else t.emit (.flashErase (trailerAddr n))
      beginRead (t1.setFwSlot n { st := if noHost t1 h then .empty else .staging, image := [] }) 0x0C01 h p addr len ns)

/-- The image has arrived: a bad header leaves the slot EMPTY. -/
def fwStaged (s : State) (e : Exec) (data : Bytes) : State :=
  let n := fld e.p 8 1
  let img := (padTo (fld e.p 12 4) data).take (fld e.p 12 4)
  let good := headerFits s img
  if isDry e.h then endExec s e (if good then stOk else stFwSlotInvalid) (if good then fwResult s img false else 0)
  else if !good then endExec (s.setFwSlot n .none_) e stFwSlotInvalid 0
  else if n = 2 then endExec (s.setFwSlot 2 { st := .valid, image := img }) e stOk (fwResult s img false)
  else flashStart (s.modExec e.id fun x => { x with wait := .flash, data := [], need := 0 }) (.stage e.id n img)

/-- A slot that passes FW_VERIFY is VERIFIED. -/
def markVerified (s : State) (n : Nat) : State :=
  let f := s.fwSlot n
  if f.st = .valid then s.setFwSlot n { f with st := .verified } else s

/-- The RESULT of a slot's checks; none where the slot holds no image. -/
def verifyResult (s : State) (f : FwSlot) (st : Nat) : Nat := if st = stFwSlotInvalid then 0 else fwResult s f.image true

/-- FW_VERIFY. -/
def fwVerify (h : CmdHdr) (p : Params) (s : State) : State :=
  let n := fld p 8 1
  let f := s.fwSlot n
  let st := fwStatus s f
  let end_ := fun (t : State) => complete t h st (verifyResult t f st)
  command 0x0C02 h p s [(8, 1)] [(decide (2 < n), stRange)] end_ (fun t => end_ (if st = stOk then markVerified t n else t))

/-- The ROM starts an image: it measures the header and stage-1 first (R404, R436). -/
def bootImage (s : State) (n : Nat) (img : Bytes) : State :=
  let s1 := s.setFwSlot n { st := .running, image := img }
  let s2 := measure (measure s1 0 2 (sha384 (img.take 512))) 1 3 (sha384 (stage1Of img))
  { s2 with flash := { s2.flash with running := some img }, rst := { s2.rst with slot := BitVec.ofNat 2 n, stage := 3, seq := .boot } }

/-- SELECT: a record with SEQ + 1 is written to the other copy. -/
def selectSlot (s : State) (h : CmdHdr) (p : Params) (slot : Nat) : State :=
  let g := s.flash.governing
  let r : BootRec := { seq := (g.map fun x => x.2.seq).getD 0 + 1, active := slot,
                       previous := if s.flash.running.isSome && decide (s.rst.slot.toNat < 2) then s.rst.slot.toNat else 0xFF,
                       trial := bit (fld p 10 1) 0, limit := fld p 11 1 }
  flashStart (beginExec (markVerified s slot) 0x0C03 h p .flash 0) (.record s.nextId (!((g.map (·.1)).getD true)) r false false)

/-- CONFIRM: the record again with TRIAL 0. -/
def confirmTrial (s : State) (h : CmdHdr) (p : Params) (g : Bool × BootRec) : State :=
  let r := { g.2 with seq := g.2.seq + 1, trial := false, limit := 0 }
  flashStart (beginExec s 0x0C03 h p .flash 0) (.record s.nextId (!g.1) r true (bit (fld p 10 1) 1))

/-- CONFIRM is legal: the governing record is a trial of the running slot. -/
def State.onTrial (s : State) : Bool :=
  match s.bootRec with
  | some r => r.trial && s.flash.running.isSome && s.rst.slot.toNat == r.active
  | none => false

/-- FW_ACTIVATE. A FLAGS bit that belongs to another OP must be zero. Log entry 46: DEDUCED. -/
def fwActivate (h : CmdHdr) (p : Params) (s : State) : State :=
  let op := fld p 8 1
  let n := fld p 9 1
  let f := fld p 10 1
  let lim := fld p 11 1
  let slot := if op = 2 then 2 else n
  let st := if op = 1 then 0 else fwStatus s (s.fwSlot slot)
  let ar := decide (op = 1) && bit f 1
  let seq := (s.bootRec.map (·.seq)).getD 0 + 1
  command 0x0C03 h p s [(8, 1), (9, 1), (10, 1), (11, 1)]
    [(decide (2 < op) || (op != 0 && n != 0) || rsv f (if op = 0 then 1 else if op = 1 then 2 else 0) || (!(op == 0 && bit f 0) && lim != 0), stBadParam),
     (decide (1 < n) || (op == 0 && bit f 0 && out lim 1 15), stRange),
     ((op == 1 && !s.onTrial) || (op == 2 && !s.romOnly), stBadState), (st != 0, st), (op != 2 && !s.writeSafe, stSupplyLow),
     (ar && s.otp.progLock.getLsbD 5, stLocked)]
    (fun t => complete t h stOk (if op = 0 then seq else 0))
    (fun t =>
      if op = 0 then selectSlot t h p n
      else if op = 1 then match t.flash.governing with
        | some g => confirmTrial t h p g
        | none => t
      else bootImage (complete t h stOk 0) 2 t.flash.ram.image)

/-- The record of FW_QUERY; what stands for ACTIVE to TRIAL_LIMIT without a valid record is open (log entry 8). -/
def fwRecord (s : State) : Bytes :=
  let a := s.flash.slotA
  let b := s.flash.slotB
  let arv := fun (f : FwSlot) => if f.st = .empty then 0xFF else imageArv f.image
  let rec_ := match s.bootRec with
    | some r => [(4, r.seq), (1, r.active), (1, r.previous), (1, bitAt r.trial 0), (1, r.limit)]
    | none => [(4, 0), (4, (Config.freeValue s.draws).toNat)]
  recBytes ([(4, s.rstBoot), (4, s.fwVersion), (1, a.st.code), (1, b.st.code), (1, arv a), (1, arv b), (4, imageVersion a.image),
    (4, imageVersion b.image)] ++ rec_ ++ [(1, s.rst.trialBoots), (1, s.otp.ar)]) ++ zeros 34

/-- FW_QUERY. -/
def fwQuery (h : CmdHdr) (p : Params) (s : State) : State :=
  let addr := fld p 16 8
  command 0x0C04 h p s [(16, 8)] (addrChecks s h addr 64) (fun t => complete t h stOk t.rstBoot)
    (fun t => complete (writeOut t h addr (fwRecord t)).draw h (outSt t h) t.rstBoot)

/-! ### Meanings of the rows -/

/-- FW_STAGE (R409). -/
def execFwStage (h : CmdHdr) (p : Params) (s : State) : Host.Outcome State Fault Refusal := .next (fwStage h p s)

/-- FW_VERIFY (R410). -/
def execFwVerify (h : CmdHdr) (p : Params) (s : State) : Host.Outcome State Fault Refusal := .next (fwVerify h p s)

/-- FW_ACTIVATE (R411). -/
def execFwActivate (h : CmdHdr) (p : Params) (s : State) : Host.Outcome State Fault Refusal := .next (fwActivate h p s)

/-- FW_QUERY (R412). -/
def execFwQuery (h : CmdHdr) (p : Params) (s : State) : Host.Outcome State Fault Refusal := .next (fwQuery h p s)

/-- FLASH_WRITE_DONE (R405). -/
def execFlashWriteDone (ok : Bool) (s : State) : Host.Outcome State Fault Refusal := .next (flashWriteDone ok s)

/-- FLASH_PAUSE_TIMEOUT (R409). -/
def execFlashPauseTimeout (s : State) : Host.Outcome State Fault Refusal := .next (flashPauseTimeout s)

end Sys2Proof.Machine
end

