-- ==== Sys2Proof/Machine/Boot.lean ====
section
/-! DEFINITION. Reset sources and their reach, the reset sequencer, straps, release and boot (14_reset_boot.md R392 to R401, R404, R408;
09_thermal_supply.md R268). -/

namespace Sys2Proof.Machine

/-! ### What a reset clears (R392) -/

/-- Bits of RST_CAUSE. -/
def causeCore : Nat := 0x01
def causeExt : Nat := 0x02
def causeSelf : Nat := 0x04
def causePerst : Nat := 0x08
def causeWdog : Nat := 0x10
def causeCmd : Nat := 0x20

/-- A flash slot after a reset (R405). -/
def FwSlot.afterReset (f : FwSlot) : FwSlot :=
  match f.st with
  | .empty | .staging => .none_
  | .valid | .verified | .running => { f with st := .valid }

/-- Flash keeps its slots and records; the RAM slot and the running image are lost (R405, R407). -/
def Flash.afterReset (f : Flash) : Flash :=
  { Flash.reset with slotA := f.slotA.afterReset, slotB := f.slotB.afterReset, rec0 := f.rec0, rec1 := f.rec1 }

/-- The thermal state: the live comparators stay, and THM_SHUT and the two SUPPLY_QUERY counters unless it is a core POR.
Log entry 15: DEDUCED. -/
def Thermal.afterReset (t : Thermal) (core : Bool) : Thermal :=
  let live : Thermal := { Thermal.reset with wsVdd := t.wsVdd, wsVddio := t.wsVddio, wsVpp := t.wsVpp, vppPresent := t.vppPresent }
  if core then live
  else { live with shutCount := t.shutCount, shutPeak := t.shutPeak, wsLowCount := t.wsLowCount, lowVdd := t.lowVdd }

/-- The RST block: the backup domain, the straps as last sampled, the sources and causes stay; the sequencer is HELD.
Log entry 15: DEDUCED. -/
def Rst.afterReset (r : Rst) : Rst :=
  { Rst.reset with cause := r.cause, count := r.count, straps := r.straps, pins := r.pins, testEn := r.testEn, retries := r.retries,
                   scratch := r.scratch, trialBoots := r.trialBoots, vbatPor := r.vbatPor, asserted := r.asserted,
                   driveEnd := r.driveEnd, t1 := r.t1, shut := r.shut }

/-- Everything that a core POR (`core`) or a pin reset clears is at its reset value. What stays: the backup domain, the sticky registers
(pin reset), flash and OTP, pin levels, and the model's own fields (log entry 15). DEDUCED. -/
def cleared (s : State) (core : Bool) : State :=
  { State.reset with
    pending := s.pending, clk := s.clk, out := s.out, nextId := s.nextId, draws := s.draws,
    link := { HostLink.reset with perstLow := s.link.perstLow },
    src := updAll s.src fun _ x => { Source.reset with levelA := x.levelA, levelB := x.levelB, levelZ := x.levelZ },
    ports := updAll s.ports fun _ x => { Port.reset with prsHigh := x.prsHigh },
    press := { Press.reset with stopLow := s.press.stopLow },
    th := s.th.afterReset core, flash := s.flash.afterReset, otp := { Otp.reset with words := s.otp.words },
    rst := s.rst.afterReset }

/-- The outputs in the state of R197: DACs at code 0, heaters low, SPD_DEM low. -/
def outputsOff (s : State) : State :=
  if s.inReset then s
  else (forAll s fun (t : State) (p : Fin 32) =>
    if (t.port p).st = .closed then t
    else ((t.emit (.cut p.1 .a)).emit (.cut p.1 .b)).emit (.heater p.1 0)).emit .pwmOff

/-! ### Sources (R394, R395, R408) -/

/-- Note a source and its RST_CAUSE bits. -/
def noteSource (s : State) (src : ResetSource) (cause : Nat) : State :=
  { s with rst := { s.rst with cause := s.rst.cause ||| BitVec.ofNat 6 cause,
                               asserted := if s.rst.asserted.contains src then s.rst.asserted else src :: s.rst.asserted } }

/-- The sequencer goes to HELD: an OTP pulse is cut, outputs go off, state is cleared; out of STRETCH a load is discarded (R397).
Log entry 72: DEDUCED. -/
def enterHeld (s : State) (core : Bool) : State :=
  let t := cleared (otpCut (outputsOff s)) core
  { t with rst := { t.rst with retries := if s.rst.seq = .stretch then min (s.rst.retries + 1) 15 else s.rst.retries } }

/-- A source that reaches the whole die asserts. -/
def assertReset (s : State) (src : ResetSource) (cause : Nat) : State := enterHeld (noteSource s src cause) false

/-- A self-driven source drives RST_N for 4 µs. -/
def selfDrive (s : State) (src : ResetSource) (cause : Nat) : State :=
  let t := assertReset s src (causeSelf + cause)
  ({ t with rst := { t.rst with driveEnd := some (t.clk + 4 * usPh) } }).emit (.pinRstN true)

/-- The controller drives RST_N low. -/
def State.drivesRst (s : State) : Bool := s.rst.seq == .stretch || s.rst.driveEnd.isSome || s.rst.asserted.contains .thermal

/-- The stretch and the fuse load begin (R396, R397). -/
def startStretch (s : State) : State :=
  ({ s with rst := { s.rst with seq := .stretch, stretchAt := s.clk, loadDone := false } }).emit (.pinRstN true)

/-- Sources release; when none is left in HELD, the stretch begins. -/
def releaseSources (s : State) (gone : ResetSource → Bool) : State :=
  let left := s.rst.asserted.filter fun x => !(gone x)
  let t := { s with rst := { s.rst with asserted := left } }
  if s.rst.seq = .held ∧ left.isEmpty then startStretch t else t

/-! ### Happenings -/

/-- VBAT_POWER_ON: the backup domain is cleared. -/
def vbatPowerOn (s : State) : State :=
  { s with rst := { s.rst with count := 0, retries := 0, scratch := 0, trialBoots := 0, vbatPor := true } }

/-- The RST_CAUSE bits of a source that is still asserted when a core POR clears the register (log entry 15). -/
def causeOf : ResetSource → Nat
  | .corePor => causeCore
  | .pinExt => causeExt
  | .thermal | .watchdog | .selfReset => causeSelf
  | .perst => causePerst

/-- CORE_POR: RST_CAUSE is cleared, and shows CORE_POR and whatever else still asserts. A drive of the watchdog or of SELF_RESET ends. -/
def corePor (s : State) : State :=
  let left := s.rst.asserted.filter fun x => x != .watchdog && x != .selfReset && x != .corePor
  enterHeld { s with rst := { s.rst with
    asserted := .corePor :: left, driveEnd := none,
    cause := BitVec.ofNat 6 (left.foldl (fun m x => m ||| causeOf x) causeCore) } } true

/-- PIN_RESET: RST_N accepted low while the controller does not drive it. -/
def pinReset (s : State) : State := if s.drivesRst then s else assertReset s .pinExt causeExt

/-- WATCHDOG_EXPIRY: main firmware has not serviced it. -/
def watchdogExpiry (s : State) : State := if s.rst.seq = .ready then selfDrive s .watchdog causeWdog else s

/-- SELF_RESET_DRIVE: DELAY_US after the command. -/
def selfResetDrive (s : State) : State :=
  match s.rst.selfAt with
  | some t => selfDrive (s.advanceTo t) .selfReset causeCmd
  | none => s

/-- SELF_DRIVE_END: the 4 µs drive ends. -/
def selfDriveEnd (s : State) : State :=
  match s.rst.driveEnd with
  | some t =>
    let u := s.advanceTo t
    releaseSources ({ u with rst := { u.rst with driveEnd := none } }.emit (.pinRstN (u.rst.asserted.contains .thermal)))
      fun x => x == .watchdog || x == .selfReset
  | none => s

/-- RESET_SOURCE_RELEASE. The drives of the watchdog and of SELF_RESET release by themselves. -/
def resetSourceRelease (src : ResetSource) (s : State) : State :=
  if !(s.rst.asserted.contains src) then s
  else match src with
    | .watchdog | .selfReset => s
    | .perst => releaseSources { s with link := { s.link with perstLow := false } } (· == .perst)
    | .thermal => releaseSources (if s.rst.driveEnd.isSome then s else s.emit (.pinRstN false)) (· == .thermal)
    | .corePor | .pinExt => releaseSources s (· == src)

/-- FUSE_LOAD_DONE: within 350 µs of the stretch's start (log entry 11). DESIGN CHOICE. -/
def fuseLoadDone (refOk : Bool) (s : State) : State :=
  if s.rst.seq = .stretch ∧ !s.rst.loadDone then
    fuseLoad (s.draw.advanceTo (s.rst.stretchAt + Config.freeDelay s.draws % (350 * usPh + 1))) refOk
  else s

/-- STRETCH_END: the drive is released and the pin checked 1 µs later: t1, or HELD again. Log entry 11: DESIGN CHOICE. -/
def stretchEnd (pinHigh : Bool) (straps : BitVec 5) (testEn : Bool) (s : State) : State :=
  if s.rst.seq = .stretch ∧ s.rst.loadDone then
    let t := ((s.advanceTo (s.rst.stretchAt + 200 * usPh)).emit (.pinRstN false)).advance usPh
    if pinHigh then
      { t with rst := { t.rst with
        seq := .boot, count := sat32 t.rst.count 1, straps := straps, pins := straps, testEn := testEn, t1 := t.clk, bootAt := t.clk,
        stage := if bits straps.toNat 3 2 = 2 then 1 else 0, source := straps.setWidth 2, shut := false } }
    else cleared (noteSource t .pinExt causeExt) false
  else s

/-- The reference comes from SPNU. -/
def State.clkFromSpine (s : State) : Bool := bits s.rst.straps.toNat 3 2 == 2

/-- SPNU_CLOCK_LOCK: later times count from here; a root never leaves WAIT_CLOCK (R399). -/
def spnuClockLock (s : State) : State :=
  if s.rst.seq = .boot ∧ s.clkFromSpine ∧ !s.isRoot ∧ !s.rst.spnuLocked then
    { s with rst := { s.rst with spnuLocked := true, bootAt := s.clk } }
  else s

/-! ### The boot ROM (R401, R404, R436) -/

/-- OTP_REGION_STATE. -/
def State.regionState (s : State) : Nat :=
  ((idx 8).map fun r => look s.otp.regState r * 2 ^ (3 * r.1)).sum + s.otp.lockedMask * 2 ^ 24

/-- RST_STRAPS: the straps as sampled, and the present pin levels. Log entry 93: DESIGN CHOICE. -/
def State.rstStraps (s : State) : Nat := s.rst.straps.toNat + 65536 * (Config.strapPins s.rst.pins s.clk).toNat

/-- The critical bits of the ROM record: SKU, DEBUG_LOCK, ENFORCE_SIG, self-check, BOOT_DENY (log entry 16). DESIGN CHOICE. -/
def State.criticalBits (s : State) : Nat :=
  bitAt s.otp.ports32 0 + bitAt s.otp.debugLock 1 + bitAt s.otp.enforceSig 2 + bitAt s.otp.selfOk 3 + 16 * s.otp.bootDeny.toNat

/-- The record that the ROM measures first (log entry 16). DESIGN CHOICE. -/
def romRecord (s : State) : Bytes :=
  bytesOf 4 Config.romVersion ++ le 4 s.rstStraps ++ le 4 s.regionState ++ le 4 s.criticalBits

/-- The ROM enters RECOVERY. Log entry 83: DESIGN CHOICE. -/
def enterRecovery (s : State) : State := { s with rst := { s.rst with seq := .recovery, stage := 6 } }

/-- The slots to try, in order: the slot, and whether it is tried as ACTIVE (R404). Log entry 72: DEDUCED. -/
def bootOrder (r : Option BootRec) (trialBoots : Nat) : List (Nat × Bool) :=
  match r with
  | none => [(0, false), (1, false)]
  | some b =>
    let first := if b.trial && decide (b.limit < trialBoots) then [] else [(b.active, true)]
    let second := if b.previous < 2 then [(b.previous, false)] else []
    first ++ second ++ (([0, 1].filter fun n => n != b.active && n != b.previous).map fun n => (n, false))

/-- Try slots in order; the status of the first rejection is kept. Log entry 72: DEDUCED. -/
def tryBoot (s : State) (r : Option BootRec) : List (Nat × Bool) → State
  | [] => enterRecovery s
  | (n, asActive) :: rest =>
    let f := s.fwSlot n
    let st := fwStatus s f
    if st = stOk then
      let t := bootImage s n f.image
      { t with rst := { t.rst with trial := asActive && (r.map (·.trial)).getD false,
                                   fallback := (r.map fun b => b.active != n).getD false } }
    else tryBoot { s with rst := { s.rst with reject := if s.rst.reject = 0 then st else s.rst.reject } } r rest

/-- Boot from flash (BOOT_S 0). Log entry 83: DESIGN CHOICE. -/
def bootFlash (s : State) : State :=
  let r := s.bootRec
  let t := if (r.map (·.trial)).getD false then { s with rst := { s.rst with trialBoots := min (s.rst.trialBoots + 1) 31 } } else s
  tryBoot t r (bootOrder r t.rst.trialBoots)

/-- The ROM goes by BOOT_S, unless the fuses forbid the source. -/
def bootBySource (s : State) : State :=
  let b := bits s.rst.straps.toNat 1 0
  if s.otp.bootDeny.getLsbD b then enterRecovery s
  else if b = 0 then bootFlash s
  else if b = 2 && s.isRoot then enterRecovery s
  else { s with rst := { s.rst with stage := 2 } }

/-- PLL_LOCK: 100 µs after t1, or after the SPNU lock. Every island leaves reset, the rounds and pins start, the ROM starts. With TEST_EN
high at t1 the production-test sequencer runs in place of the boot (R468). Log entry 84: DESIGN CHOICE. -/
def pllLock (s : State) : State :=
  if s.rst.seq = .boot ∧ !s.rst.pllLocked ∧ (s.rst.spnuLocked ∨ !s.clkFromSpine) then
    let t := s.advanceTo (s.rst.bootAt + 100 * usPh)
    let u := { t with
      rst := { t.rst with pllLocked := true, stage := 0 },
      th := { t.th with roundAt := t.clk + t.th.round * 64 * usPh, demandAt := t.clk },
      press := { t.press with spdAt := t.clk, psAt := t.clk, psLast := none },
      sp := { t.sp with u := { t.sp.u with link := if t.isRoot then .disabled else t.sp.u.link } } }
    if u.rst.testEn then u else bootBySource (measure u 0 1 (sha384 (romRecord u)))
  else s

/-! ### Main firmware (R400, R436) -/

/-- The digest that MEAS3 takes: the region that supplied the key, or 0xFF (log entry 16). DESIGN CHOICE. -/
def keyDigest (s : State) : Bytes :=
  match s.otp.keyRegion with
  | some r => sha384 (BitVec.ofNat 8 r :: (List.range 256).flatMap fun i => bytesOf 8 (s.otp.read (otpBase r + i)).data)
  | none => sha384 [0xFF]

/-- The digest that MEAS5 takes: GLB_CAPS bits 15:14 and the attach count (log entry 16). -/
def debugDigest (s : State) : Bytes :=
  sha384 ([BitVec.ofNat 8 (bitAt s.otp.enforceSig 0 + bitAt s.otp.debugLock 1)] ++ le 4 s.mgt.attaches)

/-- MAIN_FIRMWARE_READY: the later stages are measured, page-store training starts unless the die is cold, background work begins. It never
comes with TEST_EN high at t1 (R468). -/
def mainFirmwareReady (s : State) : State :=
  if s.rst.seq = .boot ∧ s.rst.stage = 3 ∧ !s.rst.testEn then
    let m := measure (measure (measure s 2 4 (sha384 (mainOf (s.flash.running.getD [])))) 3 5 (keyDigest s)) 5 10 (debugDigest s)
    faultEdge { m with
      rst := { m.rst with seq := .ready, stage := 5 },
      page := if m.th.cold then m.page else { m.page with st := .training },
      bg := { m.bg with telAt := m.clk, passStart := .replicate 12 m.clk } }
  else s

/-! ### Thermal shutdown (R268) -/

/-- The hottest die sensor of a comparator trip. Log entry 58: DEDUCED. -/
def hottest (die : List Int) : Int := die.foldl max (die.headD noTemp)

/-- THERMAL_SHUTDOWN: a die sensor at 155.0 °C, or above T_LIMIT and rising too fast. Log entry 58: DEDUCED. -/
def thermalShutdown (die : List Int) (s : State) : State :=
  let t := hottest die
  if s.rst.asserted.contains .thermal then s
  else if 2480 ≤ t ∨ s.th.dieLimit < t then
    let c := { s with th := { s.th with shutCount := min (s.th.shutCount + 1) 255, shutPeak := t } }
    let u := assertReset c .thermal causeSelf
    ({ u with rst := { u.rst with shut := true } }).emit (.pinRstN true)
  else s

/-! ### Meanings of the rows -/

/-- VBAT_POWER_ON (R392). -/
def execVbatPowerOn (s : State) : Host.Outcome State Fault Refusal := .next (vbatPowerOn s)

/-- CORE_POR (R392). -/
def execCorePor (s : State) : Host.Outcome State Fault Refusal := .next (corePor s)

/-- PIN_RESET (R393). -/
def execPinReset (s : State) : Host.Outcome State Fault Refusal := .next (pinReset s)

/-- WATCHDOG_EXPIRY (R394). -/
def execWatchdogExpiry (s : State) : Host.Outcome State Fault Refusal := .next (watchdogExpiry s)

/-- SELF_RESET_DRIVE (R386). -/
def execSelfResetDrive (s : State) : Host.Outcome State Fault Refusal := .next (selfResetDrive s)

/-- SELF_DRIVE_END (R394). -/
def execSelfDriveEnd (s : State) : Host.Outcome State Fault Refusal := .next (selfDriveEnd s)

/-- RESET_SOURCE_RELEASE (R395). -/
def execResetSourceRelease (src : ResetSource) (s : State) : Host.Outcome State Fault Refusal := .next (resetSourceRelease src s)

/-- FUSE_LOAD_DONE (R397). -/
def execFuseLoadDone (refOk : Bool) (s : State) : Host.Outcome State Fault Refusal := .next (fuseLoadDone refOk s)

/-- STRETCH_END (R396). -/
def execStretchEnd (pinHigh : Bool) (straps : BitVec 5) (testEn : Bool) (s : State) : Host.Outcome State Fault Refusal :=
  .next (stretchEnd pinHigh straps testEn s)

/-- PLL_LOCK (R400). -/
def execPllLock (s : State) : Host.Outcome State Fault Refusal := .next (pllLock s)

/-- SPNU_CLOCK_LOCK (R399). -/
def execSpnuClockLock (s : State) : Host.Outcome State Fault Refusal := .next (spnuClockLock s)

/-- MAIN_FIRMWARE_READY (R400). -/
def execMainFirmwareReady (s : State) : Host.Outcome State Fault Refusal := .next (mainFirmwareReady s)

/-- THERMAL_SHUTDOWN (R268). -/
def execThermalShutdown (die : List Int) (s : State) : Host.Outcome State Fault Refusal := .next (thermalShutdown die s)

end Sys2Proof.Machine
end

