-- ==== Sys2Proof/Machine/HostLink.lean ====
section
/-! DEFINITION. The host link's own happenings: host resets, D3hot, link-up (12_host_rings.md R337, R355 to R357; 14_reset_boot.md R395,
R400, R406). -/

namespace Sys2Proof.Machine

/-! ### What a host reset takes from a port (R356) -/

/-- What a port keeps of its fetched descriptors: FILLs, MARKs, staged bands, and of a band that still needs the host the lines that have
been decoded or whose nominal lines have passed. Each follows the one before it in the image. Log entry 73: DEDUCED. -/
def keepDescs (settled : Nat) (j : Int) : List Desc → List Desc
  | [] => []
  | d :: ds =>
    if d.kind = 1 ∧ !d.staged ∧ d.decoded < d.count then
      let n := min d.count (max d.decoded ((settled : Int) - j).toNat)
      if n = 0 then keepDescs settled j ds
      else
        let k : Desc := { d with kind := 0, lines := n, reps := 1, decoded := n, startJ := j, ringless := true, notify := false }
        k :: keepDescs settled (j + n) ds
    else
      let k : Desc := { d with startJ := j, ringless := true, notify := false }
      k :: keepDescs settled (j + d.count) ds

/-- The first image line of a list of descriptors. -/
def firstJ (ds : List Desc) (dflt : Int) : Int := (ds.head?.map (·.startJ)).getD dflt

/-- One image line beyond them. -/
def lastJ (ds : List Desc) (dflt : Int) : Int := (ds.getLast?.map Desc.endJ).getD dflt

/-- The next image line to be decoded. -/
def decodeJ (ds : List Desc) (dflt : Int) : Int :=
  match ds.find? fun d => (d.kind == 1 || d.kind == 2) && decide (d.decoded < d.count) with
  | some d => d.startJ + (d.decoded : Int)
  | none => lastJ ds dflt

/-- Image lines before the MARK, as the kept descriptors have it. -/
def markJ (ds : List Desc) (old : Option Nat) : Option Nat :=
  match ds.find? fun d => d.kind == 3 with
  | some d => some d.startJ.toNat
  | none => old

/-- The data path of a port after a host reset. Log entry 73: DEDUCED. -/
def DataPath.hostReset (d : DataPath) (had : Bool) : DataPath :=
  let start := firstJ d.descs d.endJ
  let ds := keepDescs d.settled start d.descs
  let stash := d.stash.map fun x =>
    let from_ := firstJ x.descs x.endJ
    let es := keepDescs 0 from_ x.descs
    { x with descs := es, nextJ := decodeJ es from_, endJ := lastJ es from_, total := markJ es x.total }
  { d with descs := ds, nextJ := if d.patOn then d.nextJ else decodeJ ds start, endJ := lastJ ds start, total := markJ ds d.total,
           stash := stash, delivered := [], purge := 0, owed := [], orphan := d.orphan || had }

/-! ### Commands and transfers (R355, R406) -/

/-- A command that came over a ring of this node completes nowhere any more. -/
def loseSrc (h : CmdHdr) : CmdHdr :=
  match h.src with
  | .ring _ => { h with src := .lost }
  | .tunnel _ _ | .mctp _ | .lost => h

/-- A general DMA descriptor is cut. -/
def cutGdma (s : State) (g : Nat × BitVec 256 × Nat) : State :=
  let f := gdmaField g.2.1
  if f 0 1 = 1 then undefSpan s (f 6 2) (f 8 4) (f 12 4) else s

def Exec.lose (e : Exec) : Exec := { e with h := loseSrc e.h }
def Waiting.lose (w : Waiting) : Waiting := { w with h := loseSrc w.h }
def Tunnelled.lose (t : Tunnelled) : Tunnelled := { t with h := loseSrc t.h, bcast := false }

/-- Every command of this node's rings loses its completion; those that wait for a host transfer end, and a
RING_DESTROY is done: its ring is ABSENT (R357, R360). Log entry 73: DEDUCED. -/
def loseCommands (s : State) : State :=
  let s1 := { s with
    execs := s.execs.map Exec.lose, waiting := s.waiting.map Waiting.lose,
    spr := { s.spr with tunnel := s.spr.tunnel.map Tunnelled.lose, heldBack := s.spr.heldBack.map Waiting.lose, bcasts := [] } }
  endAll ((s1.execs.filter fun e => e.wait == .dma && e.h.src == .lost).foldl cutExec s1) (fun e => e.wait == .ringClose) stOk 0

/-- Transfers that this node makes for other nodes' commands come to nothing. -/
def losePart (s : State) (m : MgtPart) : State :=
  if m.kind = 3 ∨ m.kind = 5 then transferFails (dropPart s fun x => x == m) m.src m.ttag else s

/-! ### HOST_RESET -/

/-- The host link and the rings are as after reset (R355). A Function Level Reset leaves the link up, and resets what the host has set in
configuration space. Log entry 18: DESIGN CHOICE. -/
def linkReset (s : State) (c : HostResetCause) : State :=
  let l := s.link
  let fresh : HostLink := { HostLink.reset with perstLow := l.perstLow || c == .perst }
  { s with
    link := if c = .flr then { fresh with up := l.up, rate := l.rate, width := l.width } else fresh,
    rings := .replicate 64 .reset, parked := [], gdma := [],
    glb := { s.glb with irqMask := 0, irqSeen := 0, err := 0, pselA := 0, bcastA := false, pselB := 0, bcastB := false },
    ports := updAll s.ports fun p x => { x with dat := x.dat.hostReset (s.ring (ringNo p.1)).exists_ } }

/-- Every quire beyond BOUND is aborted, where ABORT_ON_PERST asks for it (R356). -/
def perstAbort (s : State) : State :=
  if s.glb.abortOnPerst then forAll s fun (t : State) (q : Fin 8) => if (t.quire q).st.beyond then abortJob t q 5 else t else s

/-- PERST_N low is a source of the device's reset too: it delays a release, and restarts a stretch (R395). -/
def perstSource (s : State) (c : HostResetCause) : State :=
  if c ≠ .perst then s
  else
    let t := noteSource s .perst causePerst
    if t.rst.seq = .stretch then enterHeld t false else t

/-- HOST_RESET. -/
def hostReset (c : HostResetCause) (s : State) : State :=
  let s1 := s.gdma.foldl cutGdma (loseCommands (linkReset s c))
  perstSource (perstAbort (s1.spr.parts.foldl losePart s1)) c

/-! ### D3hot and D0 (R337) -/

/-- D3HOT_ENTRY. -/
def d3hotEntry (s : State) : State := if s.link.up then { s with link := { s.link with d3hot := true } } else s

/-- The pending MSI-X messages that nothing masks any more go out. -/
def deliverMsix (s : State) : State :=
  forAll s fun (t : State) (v : Fin 64) =>
    let l := t.link
    if l.msixPend.getLsbD v.1 && l.msixEn && !l.d3hot && !l.msixMask && !(look l.msixVMask v) then
      sendMsix { t with link := { l with msixPend := l.msixPend &&& ~~~(BitVec.ofNat 64 (2 ^ v.1)) } } v.1
    else t

/-- What has waited for D0 is done. -/
def unpark (s : State) : Parked → State
  | .entry r e notify => pushEntry s (ringNo r) e notify
  | .request o => s.emit o

/-- D0_RETURN: the entries and requests that waited go out in order, then the messages that waited. -/
def d0Return (s : State) : State :=
  if s.link.d3hot then deliverMsix (s.parked.foldl unpark { s with link := { s.link with d3hot := false }, parked := [] })
  else s

/-- Configuration space is served as soon as the link is up (R335): revision 0xA1, class code 0x11_8000, one BAR of 16 MiB. -/
def serveConfig (s : State) : State :=
  if s.link.up then s else s.emit (.identity Config.vendorId.toNat s.part 0xA1 0x118000 0x1000000)

/-- PCIE_LINK_UP: training has completed, and the host has set the payload and read request sizes and MSI-X; on a link that is up already
the host sets them anew. Messages that nothing masks any more go out (R340). Log entry 18: DESIGN CHOICE. -/
def pcieLinkUp (gen width mps mrrs : Nat) (msixEn msixMask : Bool) (s : State) : State :=
  if s.islands && !s.link.perstLow then
    let t := serveConfig s
    deliverMsix { t with link := { t.link with
      up := true, rate := gen, width := width, mps := mps, mrrs := mrrs, msixEn := msixEn, msixMask := msixMask } }
  else s

/-! ### Meanings of the rows -/

/-- HOST_RESET (R355). -/
def execHostReset (c : HostResetCause) (s : State) : Host.Outcome State Fault Refusal := .next (hostReset c s)

/-- D3HOT_ENTRY (R337). -/
def execD3hotEntry (s : State) : Host.Outcome State Fault Refusal := .next (d3hotEntry s)

/-- D0_RETURN (R337). -/
def execD0Return (s : State) : Host.Outcome State Fault Refusal := .next (d0Return s)

/-- PCIE_LINK_UP (R400). -/
def execPcieLinkUp (gen width : Nat) (x : HostSettings) (s : State) : Host.Outcome State Fault Refusal :=
  .next (pcieLinkUp gen width x.mps x.mrrs x.msixEn x.msixMask s)

end Sys2Proof.Machine
end

