-- ==== Sys2Proof/Machine/Mgt.lean ====
section
/-! DEFINITION. The colophon, MCTP, SPDM and the debug attach (15_otp_trust.md R438 to R443, R450, R451). Message layouts are those of the
DMTF standards the manual names: DSP0236 for MCTP control, DSP0274 1.2 for SPDM (log entry 21). -/

namespace Sys2Proof.Machine

/-! ### The device key and the colophon (R438, R439) -/

/-- The bytes of an ASCII text. -/
def ascii (t : String) : Bytes := t.toList.map fun c => BitVec.ofNat 8 c.toNat

/-- The device key: derived from the device secret of SEC. -/
def State.devKey (s : State) : Bytes := kdf384 ((List.range 6).flatMap fun i => bytesOf 8 (s.otp.value (160 + i))) (ascii "SKP-DEVKEY")

/-- A signature by the device key over a digest, 96 bytes (log entry 7). -/
def State.sign (s : State) (digest : Bytes) : Bytes := (padTo 96 (Config.ecdsaSign s.devKey digest s.draws)).take 96

/-- Bytes 0 to 503 of the colophon. -/
def colophonBody (s : State) (nonce : Bytes) : Bytes :=
  le 4 0x4E4F4843 ++ [1, BitVec.ofNat 8 (bitAt s.mgt.overflow 0 + bitAt s.otp.enforceSig 1 + bitAt s.otp.debugLock 2 + bitAt s.mgt.debugAtt 3)] ++
  le 2 s.sp.nodeId ++ s.uid ++ le 4 s.fwVersion ++ le 8 s.ns ++ le 4 s.mgt.extends_ ++ le 4 s.rst.count ++ nonce ++
  ((idx 8).flatMap fun n => look s.mgt.meas n) ++ sha384 (s.mgt.log.flatMap id)

/-- The signed colophon. -/
def colophon (s : State) (nonce : Bytes) : Bytes :=
  let b := colophonBody s nonce
  b ++ s.sign (sha384 b) ++ zeros 40

/-- COLOPHON_READ. -/
def colophonRead (h : CmdHdr) (p : Params) (s : State) : State :=
  let addr := fld p 40 8
  let len := fld p 48 4
  command 0x0D01 h p s [(8, 32), (40, 8), (48, 4)]
    [(wrongLen h len 640 || beyond s h addr len, stRange), (misaddr h addr || mislen h len, stAlign), (!s.mgt.keyReady, stNotSupported)]
    (fun t => complete t h stOk t.mgt.extends_)
    (fun t => reportOut 0x0D01 h p t.draw addr (colophon t (fldBytes p 8 32)) t.mgt.extends_)

/-- COLOPHON_LOG. -/
def colophonLog (h : CmdHdr) (p : Params) (s : State) : State :=
  let first := fld p 8 4
  let n := fld p 12 2
  let addr := fld p 16 8
  let len := fld p 24 4
  let held := s.mgt.log.length
  let wrote := min n (held - first)
  command 0x0D02 h p s [(8, 4), (12, 2), (16, 8), (24, 4)]
    [(decide (4095 < first) || out n 1 64 || wrongLen h len (64 * n) || beyond s h addr len, stRange), (misaddr h addr || mislen h len, stAlign),
     (decide (held ≤ first), stRange)]
    (fun t => complete t h stOk (held + 2 ^ 32 * wrote))
    (fun t => reportOut 0x0D02 h p t addr (((t.mgt.log.drop first).take wrote).flatMap id) (held + 2 ^ 32 * wrote))

/-! ### JTAG (R443) -/

/-- JTAG_DEBUG_ATTACH: possible only without DEBUG_LOCK. -/
def jtagDebugAttach (s : State) : State :=
  if s.otp.debugLock || !s.islands then s
  else
    let t := { s with mgt := { s.mgt with debugAtt := true, attaches := sat32 s.mgt.attaches 1 } }
    measure t 5 10 (debugDigest t)

/-! ### MCTP control (R440) -/

def isVdm : MctpBinding → Bool
  | .vdm => true
  | .smbus => false

/-- The binding works: the islands run, and for PCIe VDM the link is up and in D0. -/
def mctpUp (s : State) (b : MctpBinding) : Bool := s.islands && (!(isVdm b) || (s.link.up && !s.link.d3hot))

/-- The EID of a binding, 0 for none. -/
def eidOf (s : State) (b : MctpBinding) : Byte := ((if isVdm b then s.mgt.vdmEid else s.mgt.smbEid)).getD 0

/-- Answer an MCTP control request. Log entry 21: PRESUMED. -/
def controlReply (s : State) (b : MctpBinding) (cmd : Byte) (body : Bytes) : State := s.emit (.mctpReply (isVdm b) ([0, 0, cmd] ++ body))

/-- SET_ENDPOINT_ID: Set and Force assign an EID other than 0 and 0xFF; Set Discovered exists on PCIe VDM only and changes no EID; there is no
static EID to reset to. -/
def setEndpointId (b : MctpBinding) (op : BitVec 2) (eid : Byte) (s : State) : State :=
  if !(mctpUp s b) then s
  else if op = 3 ∧ isVdm b then controlReply s b 1 [0, 0, eidOf s b, 0]
  else if 2 ≤ op.toNat ∨ eid = 0 ∨ eid = 0xFF then controlReply s b 1 [2]
  else
    let t := if isVdm b then { s with mgt := { s.mgt with vdmEid := some eid } } else { s with mgt := { s.mgt with smbEid := some eid } }
    controlReply t b 1 [0, 0, eid, 0]

/-- GET_ENDPOINT_ID: a simple endpoint with a dynamic EID. -/
def getEndpointId (b : MctpBinding) (s : State) : State := if mctpUp s b then controlReply s b 2 [0, eidOf s b, 0, 0] else s

/-- GET_MCTP_VERSION_SUPPORT: one version entry for a supported type, whose number is open (log entry 8). -/
def getMctpVersionSupport (b : MctpBinding) (msgType : Byte) (s : State) : State :=
  if !(mctpUp s b) then s
  else if [0, 5, 0x7E, 0xFF].contains msgType then controlReply s.draw b 4 ([0, 1] ++ le 4 (Config.freeValue s.draws).toNat)
  else controlReply s b 4 [0x80]

/-- GET_MESSAGE_TYPE_SUPPORT: the types beside control. -/
def getMessageTypeSupport (b : MctpBinding) (s : State) : State := if mctpUp s b then controlReply s b 5 [0, 2, 5, 0x7E] else s

/-! ### Vendor messages (R441) -/

/-- MCTP_CMD: a command entry, taken as others are. -/
def mctpCmd (b : MctpBinding) (e : BitVec 512) (s : State) : State := if mctpUp s b && s.cores then acceptEntry s (.mctp (isVdm b)) e else s

/-- MCTP_DATA_WR: 1 to 48 bytes into the staging window. -/
def mctpDataWr (b : MctpBinding) (ofs : U32) (data : Bytes) (s : State) : State :=
  if !(mctpUp s b) || out data.length 1 48 || decide (s.window < ofs.toNat + data.length) then s
  else { s with mgt := { s.mgt with sram := s.mgt.sram.write ofs.toNat data } }

/-- MCTP_DATA_RD: 1 to 48 bytes out of the staging window. -/
def mctpDataRd (b : MctpBinding) (ofs : U32) (len : Byte) (s : State) : State :=
  if !(mctpUp s b) || out len.toNat 1 48 || decide (s.window < ofs.toNat + len.toNat) then s
  else s.emit (.mctpReply (isVdm b) (vendorMsg 4 (s.mgt.sram.bytes ofs.toNat len.toNat)))

/-! ### SPDM 1.2 (R442) -/

/-- Send an SPDM message. -/
def spdmSend (s : State) (b : MctpBinding) (msg : Bytes) : State := s.emit (.mctpReply (isVdm b) (5 :: msg))

/-- ERROR with a code. -/
def spdmError (s : State) (b : MctpBinding) (code : Byte) (data : Byte) : State := spdmSend s b [0x12, 0x7F, code, data]

/-- The responder takes a request: Busy before main firmware runs, then the first check that fails names the error. -/
def spdm (b : MctpBinding) (s : State) (checks : List (Bool × Nat)) (act : State → State) : State :=
  if !(mctpUp s b) then s
  else if s.rst.seq ≠ .ready then spdmError s b 3 0
  else match firstBad checks with
    | 0 => act s
    | n + 1 => spdmError s b (BitVec.ofNat 8 (n + 1)) 0

/-- VersionMismatch, InvalidRequest for a short message, UnexpectedRequest before its turn. Log entry 21: PRESUMED. -/
def spdmChecks (req : Bytes) (len : Nat) (turn : Bool) : List (Bool × Nat) :=
  [(decide (req.length < len), 1), (rdAt req 0 1 != 0x12, 0x41), (!turn, 4)]

/-- GET_VERSION: it starts the connection anew. -/
def getVersion (b : MctpBinding) (req : Bytes) (s : State) : State :=
  let resp : Bytes := [0x10, 0x04, 0, 0, 0, 1, 0x00, 0x12]
  spdm b s [(decide (req.length < 4), 1), (rdAt req 0 1 != 0x10, 0x41)] fun t =>
    spdmSend { t with mgt := { t.mgt with spdmVersion := true, spdmCaps := false, spdmAlgs := false, msgA := req ++ resp, msgB := [], msgL := [] } }
      b resp

/-- GET_CAPABILITIES: CERT_CAP, CHAL_CAP, MEAS_CAP with signatures; the timing exponent and the message sizes are open (log entry 8). -/
def getCapabilities (b : MctpBinding) (req : Bytes) (s : State) : State :=
  let v := Config.freeValue s.draws
  let resp : Bytes := [0x12, 0x61, 0, 0, 0, v.setWidth 8, 0, 0] ++ le 4 0x16 ++ bytesOf 8 (Config.freeValue (s.draws + 1))
  spdm b s (spdmChecks req 4 s.mgt.spdmVersion) fun t =>
    spdmSend { t with draws := t.draws + 2, mgt := { t.mgt with spdmCaps := true, msgA := t.mgt.msgA ++ req ++ resp } } b resp

/-- NEGOTIATE_ALGORITHMS: what the requester offers of the only ones there are. -/
def negotiateAlgorithms (b : MctpBinding) (req : Bytes) (s : State) : State :=
  let spec := rdAt req 6 1 &&& 1
  let resp : Bytes := [0x12, 0x63, 0, 0] ++ le 2 36 ++ [BitVec.ofNat 8 spec, 0] ++ le 4 (if spec = 1 then 4 else 0) ++
    le 4 (rdAt req 8 4 &&& 0x80) ++ le 4 (rdAt req 12 4 &&& 2) ++ zeros 16
  spdm b s (spdmChecks req 32 s.mgt.spdmCaps) fun t =>
    spdmSend { t with mgt := { t.mgt with spdmAlgs := true, msgA := t.mgt.msgA ++ req ++ resp } } b resp

/-- The certificate chain of slot 0: length, root hash and intermediate from the ROM, the device certificate of VT. -/
def State.certChain (s : State) : Bytes :=
  let body := Config.romChain ++ (List.range 94).flatMap fun i => bytesOf 8 (s.otp.value (32 + i))
  le 2 (body.length + 4) ++ [0, 0] ++ body

/-- GET_DIGESTS. -/
def getDigests (b : MctpBinding) (req : Bytes) (s : State) : State :=
  let resp : Bytes := [0x12, 0x01, 0, 1] ++ sha384 s.certChain
  spdm b s (spdmChecks req 4 s.mgt.spdmAlgs) fun t => spdmSend { t with mgt := { t.mgt with msgB := t.mgt.msgB ++ req ++ resp } } b resp

/-- GET_CERTIFICATE: a portion of the chain of slot 0. -/
def getCertificate (b : MctpBinding) (req : Bytes) (s : State) : State :=
  let chain := s.certChain
  let ofs := rdAt req 4 2
  let n := min (rdAt req 6 2) (chain.length - ofs)
  let resp : Bytes := [0x12, 0x02, 0, 0] ++ le 2 n ++ le 2 (chain.length - ofs - n) ++ (chain.drop ofs).take n
  spdm b s (spdmChecks req 8 s.mgt.spdmAlgs ++ [(rdAt req 2 1 != 0 || decide (chain.length ≤ ofs), 1)]) fun t =>
    spdmSend { t with mgt := { t.mgt with msgB := t.mgt.msgB ++ req ++ resp } } b resp

/-- The text that a 1.2 signature covers beside the transcript's digest. -/
def spdmPrefix (context : String) : Bytes :=
  let c := ascii context
  let v := ascii "dmtf-spdm-v1.2.*"
  v ++ v ++ v ++ v ++ zeros (36 - c.length) ++ c

/-- Sign a transcript. Log entry 21: PRESUMED. -/
def spdmSign (s : State) (context : String) (transcript : Bytes) : Bytes := s.sign (sha384 (spdmPrefix context ++ sha384 transcript))

/-- Measurement block n + 1: MEASn as a raw value, with its type. -/
def measBlock (s : State) (n : Fin 8) : Bytes :=
  [BitVec.ofNat 8 (n.1 + 1), 1] ++ le 2 51 ++ [BitVec.ofNat 8 (0x80 + nth [0, 1, 1, 2, 3, 3, 3, 3] n.1 3)] ++ le 2 48 ++ look s.mgt.meas n

/-- Random bytes (log entry 9). DESIGN CHOICE. -/
def randomBytes (s : State) (n : Nat) : Bytes := (List.range n).map (Config.randomByte s.draws)

/-- The measurement summary of a CHALLENGE: none, of the trusted base (which blocks it holds is open, log entry 8), or of all blocks. -/
def summaryHash (s : State) (kind : Nat) : Bytes :=
  if kind = 0 then []
  else if kind = 1 then (List.range 48).map (Config.undefByte s.draws)
  else sha384 ((idx 8).flatMap (measBlock s))

/-- CHALLENGE: the response is signed by the device key. -/
def challenge (b : MctpBinding) (req : Bytes) (s : State) : State :=
  let kind := rdAt req 3 1
  let m := s.mgt
  let body : Bytes := [0x12, 0x03, 0, 1] ++ sha384 s.certChain ++ randomBytes s 32 ++ summaryHash s kind ++ [0, 0]
  let resp := body ++ spdmSign s "responder-challenge_auth signing" (m.msgA ++ m.msgB ++ req ++ body)
  spdm b s (spdmChecks req 36 m.spdmAlgs ++ [(rdAt req 2 1 != 0 || (kind != 0 && kind != 1 && kind != 0xFF), 1), (!m.keyReady, 5)]) fun t =>
    spdmSend { t.draw with mgt := { t.mgt with msgB := [], msgL := [] } } b resp

/-- GET_MEASUREMENTS: the number of blocks, one block, or all eight; signed where asked. -/
def getMeasurements (b : MctpBinding) (req : Bytes) (s : State) : State :=
  let signed := bit (rdAt req 2 1) 0
  let op := rdAt req 3 1
  let m := s.mgt
  let blocks := if op = 0 then [] else if op = 0xFF then idx 8 else (toFin? 8 (op - 1)).toList
  let data := blocks.flatMap (measBlock s)
  let body : Bytes := [0x12, 0x60, if op = 0 then 8 else 0, 0, BitVec.ofNat 8 blocks.length] ++ le 3 data.length ++ data ++ randomBytes s 32 ++ [0, 0]
  let l := m.msgL ++ req ++ body
  let resp := if signed then body ++ spdmSign s "responder-measurements signing" (m.msgA ++ l) else body
  spdm b s (spdmChecks req (if signed then 37 else 4) m.spdmAlgs ++
      [((out op 0 8 && op != 0xFF) || (signed && rdAt req 36 1 != 0), 1), (signed && !m.keyReady, 5)]) fun t =>
    spdmSend { t.draw with mgt := { t.mgt with msgL := if signed then [] else l } } b resp

/-- SPDM_UNSUPPORTED_REQUEST: ERROR UnsupportedRequest with the request's code. -/
def spdmUnsupportedRequest (b : MctpBinding) (req : Bytes) (s : State) : State :=
  spdm b s [] fun t => spdmError t b 7 (BitVec.ofNat 8 (rdAt req 1 1))

/-! ### Meanings of the rows -/

/-- COLOPHON_READ (R450). -/
def execColophonRead (h : CmdHdr) (p : Params) (s : State) : Host.Outcome State Fault Refusal := .next (colophonRead h p s)

/-- COLOPHON_LOG (R451). -/
def execColophonLog (h : CmdHdr) (p : Params) (s : State) : Host.Outcome State Fault Refusal := .next (colophonLog h p s)

/-- JTAG_DEBUG_ATTACH (R443). -/
def execJtagDebugAttach (s : State) : Host.Outcome State Fault Refusal := .next (jtagDebugAttach s)

/-- SET_ENDPOINT_ID (R440). -/
def execSetEndpointId (b : MctpBinding) (op : BitVec 2) (eid : BitVec 8) (s : State) : Host.Outcome State Fault Refusal :=
  .next (setEndpointId b op eid s)

/-- GET_ENDPOINT_ID (R440). -/
def execGetEndpointId (b : MctpBinding) (s : State) : Host.Outcome State Fault Refusal := .next (getEndpointId b s)

/-- GET_MCTP_VERSION_SUPPORT (R440). -/
def execGetMctpVersionSupport (b : MctpBinding) (msgType : BitVec 8) (s : State) : Host.Outcome State Fault Refusal :=
  .next (getMctpVersionSupport b msgType s)

/-- GET_MESSAGE_TYPE_SUPPORT (R440). -/
def execGetMessageTypeSupport (b : MctpBinding) (s : State) : Host.Outcome State Fault Refusal := .next (getMessageTypeSupport b s)

/-- MCTP_CMD (R441). -/
def execMctpCmd (b : MctpBinding) (entry : BitVec 512) (s : State) : Host.Outcome State Fault Refusal := .next (mctpCmd b entry s)

/-- MCTP_DATA_WR (R441). -/
def execMctpDataWr (b : MctpBinding) (ofs : U32) (data : Bytes) (s : State) : Host.Outcome State Fault Refusal := .next (mctpDataWr b ofs data s)

/-- MCTP_DATA_RD (R441). -/
def execMctpDataRd (b : MctpBinding) (ofs : U32) (len : BitVec 8) (s : State) : Host.Outcome State Fault Refusal := .next (mctpDataRd b ofs len s)

/-- GET_VERSION (R442). -/
def execGetVersion (b : MctpBinding) (req : Bytes) (s : State) : Host.Outcome State Fault Refusal := .next (getVersion b req s)

/-- GET_CAPABILITIES (R442). -/
def execGetCapabilities (b : MctpBinding) (req : Bytes) (s : State) : Host.Outcome State Fault Refusal := .next (getCapabilities b req s)

/-- NEGOTIATE_ALGORITHMS (R442). -/
def execNegotiateAlgorithms (b : MctpBinding) (req : Bytes) (s : State) : Host.Outcome State Fault Refusal := .next (negotiateAlgorithms b req s)

/-- GET_DIGESTS (R442). -/
def execGetDigests (b : MctpBinding) (req : Bytes) (s : State) : Host.Outcome State Fault Refusal := .next (getDigests b req s)

/-- GET_CERTIFICATE (R442). -/
def execGetCertificate (b : MctpBinding) (req : Bytes) (s : State) : Host.Outcome State Fault Refusal := .next (getCertificate b req s)

/-- CHALLENGE (R442). -/
def execChallenge (b : MctpBinding) (req : Bytes) (s : State) : Host.Outcome State Fault Refusal := .next (challenge b req s)

/-- GET_MEASUREMENTS (R442). -/
def execGetMeasurements (b : MctpBinding) (req : Bytes) (s : State) : Host.Outcome State Fault Refusal := .next (getMeasurements b req s)

/-- SPDM_UNSUPPORTED_REQUEST (R442). -/
def execSpdmUnsupportedRequest (b : MctpBinding) (req : Bytes) (s : State) : Host.Outcome State Fault Refusal :=
  .next (spdmUnsupportedRequest b req s)

end Sys2Proof.Machine
end

