-- ==== Sys2Proof/Machine/Nozzle.lean ====
section
/-! DEFINITION. Nozzle health commands: RVS_CONFIG, RVS_LEARN, NOZ_MAP_SET, NOZ_MAP_GET, WEAR_QUERY, and what falls due for the monitor
(08_nozzle_health.md R244 to R256). -/

namespace Sys2Proof.Machine

/-- Do what waits for the port's next line boundary at once where no line is to come. -/
def atBoundary (s : State) (p : Fin 32) : State := if s.portRuns p then s else boundaryMonitor s p (-1)

/-! ### RVS_CONFIG (R252) -/

/-- The settings of RVS_CONFIG. -/
def rvsOf (p : Params) : RvsCfg :=
  { enable := bit (fld p 9 1) 0, k := fld p 10 1, n := fld p 11 1, recover := fld p 12 1, levels := fld p 13 1, noiseFloor := fld p 14 2,
    clogAmp := fld p 16 1, clogDecay := fld p 17 1, airPer := fld p 18 1, weakAmp := fld p 19 1 }

/-- RVS_CONFIG. -/
def rvsConfig (h : CmdHdr) (p : Params) (s : State) : State :=
  let r := portNo (fld p 8 1)
  let x := s.port r
  let c := rvsOf p
  plainCmd 0x0703 h p s [(8, 1), (9, 1), (10, 1), (11, 1), (12, 1), (13, 1), (14, 2), (16, 1), (17, 1), (18, 1), (19, 1)]
    [(rsv (fld p 9 1) 0x01, stBadParam),
     (portBad s (fld p 8 1) || out c.k 1 8 || out c.n c.k 8 || out c.recover 1 32 || decide (2047 < c.noiseFloor), stRange),
     (decide (x.st = .closed), stBadState),
     (c.enable && !x.canSense, stNotSupported),
     (decide (c.weakAmp ≤ c.clogAmp) || bit c.levels 0 || decide (2 ^ (topLevel x.depth + 1) ≤ c.levels), stBadParam)]
    (fun t => atBoundary (t.modPort r fun y => { y with rvs := { y.rvs with cfgDue := some c } }) r)

/-! ### RVS_LEARN (R244, R245, R253) -/

/-- A signature entry of 8 bytes. -/
def sigOf (d : Bytes) (o : Nat) : Option Sig :=
  if bit (rdAt d (o + 5) 1) 0 then some { amp := rdAt d o 2, per := rdAt d (o + 2) 2, decay := rdAt d (o + 4) 1 } else none

def sigBytes : Option Sig → Bytes
  | some g => le 2 g.amp ++ le 2 g.per ++ [BitVec.ofNat 8 g.decay, 1, 0, 0]
  | none => zeros 8

/-- The signature set in host data. -/
def sigSetOf (d : Bytes) (n : Nat) : SigSet :=
  { p := (List.range n).map fun i => sigOf d (64 + 16 * i), k := (List.range n).map fun i => sigOf d (72 + 16 * i),
    slots := Vector.ofFn fun i : Fin 4 => if rdAt d (8 + i.1) 1 = 0xFF then none else some (rdAt d (8 + i.1) 1), levels := rdAt d 6 1 }

/-- SERIAL of the head. -/
def Port.serial (x : Port) : Bytes := ((padTo 28 x.ident).drop 12).take 16

/-- The live signature set as SAVE writes it. -/
def sigRecord (x : Port) : Bytes :=
  let g := x.rvs.live
  let n := x.nozzles
  let entries := (List.range n).flatMap fun i => sigBytes (nth g.p i none) ++ sigBytes (nth g.k i none)
  let hd : Bytes := [1, 0] ++ le 2 n ++ le 2 (rdAt x.ident 2 2) ++ [BitVec.ofNat 8 g.levels, 0] ++
    (g.slots.toList.map fun (o : Option Nat) => BitVec.ofNat 8 (o.getD 0xFF)) ++ x.serial
  let hd60 := padTo 60 hd
  hd60 ++ bytesOf 4 (crc32 (hd60 ++ entries)) ++ entries

/-- What the data of a LOAD fails on. -/
def sigChecks (x : Port) (d : Bytes) : List (Bool × Nat) :=
  let n := x.nozzles
  [((crc32 (d.take 60 ++ (d.drop 64).take (16 * n))).toNat != rdAt d 60 4 || rdAt d 0 1 != 1 || rdAt d 2 2 != n ||
      rdAt d 6 1 != x.rvs.cfg.levels, stBadParam),
   (rdAt d 4 2 != rdAt x.ident 2 2 || (d.drop 12).take 16 != x.serial, stHeadMismatch)]

/-- START acts. -/
def startLearn (s : State) (h : CmdHdr) (p : Params) (r : Fin 32) : State :=
  let l : Learn := { id := s.nextId, wantP := bit (fld p 10 1) 0, wantK := bit (fld p 10 1) 1, count := fld p 11 1,
                     until_ := s.clk + fld p 12 4 * (1000 * msPh), colP := [], colK := [] }
  let s1 := (beginExec s 0x0704 h p .learn 0).modPort r fun x =>
    { x with rvs := { x.rvs with learn := some l, staging := none, stagedLoad := false } }
  if learnedAll (s1.port r) l then endLearn s1 r l stOk else s1

/-- COMMIT acts. -/
def commitLearn (s : State) (h : CmdHdr) (p : Params) (r : Fin 32) : State :=
  atBoundary ((beginExec s 0x0704 h p .learnSwap 0).modPort r fun x => { x with rvs := { x.rvs with swapDue := true } }) r

/-- RVS_LEARN. -/
def rvsLearn (h : CmdHdr) (p : Params) (s : State) : State :=
  let r := portNo (fld p 8 1)
  let x := s.port r
  let op := fld p 9 1
  let addr := fld p 16 8
  let len := fld p 24 4
  let start := op == 0
  let data := op == 3 || op == 4
  let busy := x.rvs.learn.isSome || x.rvs.staged
  let fields := [(8, 1), (9, 1), (10, 1), (11, 1), (12, 4), (16, 8), (24, 4), (28, 1)]
  let checks :=
    [(decide (4 < op) || rsv (fld p 28 1) 0x01 || rsv (fld p 10 1) 0x03 || (!start && fld p 10 6 != 0) ||
        (!data && (addr != 0 || len != 0)), stBadParam),
     (portBad s (fld p 8 1) || (start && (out (fld p 11 1) 4 64 || out (fld p 12 4) 1 3600)) ||
        (data && (wrongLen h len (up64 (64 + 16 * x.nozzles)) || beyond s h addr len)), stRange),
     (data && (misaddr h addr || mislen h len), stAlign), (decide (x.st = .closed), stBadState),
     (op == 1 && (!x.rvs.staged || x.rvs.learn.isSome), stBadState), ((start || op == 3) && busy, stBusy),
     (start && fld p 10 1 == 0, stBadParam)]
  if op = 3 then readCmd 0x0704 h p s fields checks addr len (bit (fld p 28 1) 0)
  else command 0x0704 h p s fields checks (fun t => complete t h stOk 0) fun t =>
    if start then startLearn t h p r
    else if op = 1 then commitLearn t h p r
    else if op = 2 then complete (abortLearn t r) h stOk 0
    else readOut 0x0704 h p t addr (padTo len (sigRecord (t.port r)))

/-- The data of a LOAD has arrived: it fills the staging set. -/
def learnLoaded (s : State) (e : Exec) (data : Bytes) : State :=
  let r := portNo (fld e.p 8 1)
  dataDone s e ((decide ((s.port r).st = .closed), stBadState) :: sigChecks (s.port r) data) 0 fun t =>
    endExec (t.modPort r fun x => { x with rvs := { x.rvs with staging := some (sigSetOf data x.nozzles), stagedLoad := true } }) e stOk 0

/-! ### NOZ_MAP_SET (R240, R254) -/

/-- A host entry breaks R240. -/
def hostBad (v : Nat) : Bool :=
  let st := v % 16
  decide (31 < v) || !(if bit v 4 then st == 0 || badState st || st == 5 || st == 6 else st == 0 || st == 5 || st == 6)

/-- NOZ_MAP_SET. -/
def nozMapSet (h : CmdHdr) (p : Params) (s : State) : State :=
  let r := portNo (fld p 8 1)
  let x := s.port r
  let op := fld p 9 1
  let n := fld p 12 2
  let addr := fld p 16 8
  let len := fld p 24 4
  let fields := [(8, 1), (9, 1), (10, 2), (12, 2), (14, 1), (15, 1), (16, 8), (24, 4)]
  let checks :=
    [(decide (2 < op) || rsv (fld p 15 1) 0x01 || (op != 1 && fld p 14 1 != 0) || (op != 0 && (addr != 0 || len != 0)), stBadParam),
     (portBad s (fld p 8 1) || out n 1 8192 || decide (x.nozzles < fld p 10 2 + n) ||
        (op == 0 && (wrongLen h len (up64 n) || beyond s h addr len)), stRange),
     (op == 0 && (misaddr h addr || mislen h len), stAlign), (decide (x.st = .closed), stBadState),
     (op == 1 && hostBad (fld p 14 1), stBadParam)]
  if op = 0 then readCmd 0x0701 h p s fields checks addr len (bit (fld p 15 1) 0)
  else command 0x0701 h p s fields checks (fun t => complete t h stOk 0) fun t =>
    if op = 1 then shadowNow t r 0x0701 h p
    else complete (atBoundary (t.modPort r fun y => { y with rvs := { y.rvs with monReset := y.rvs.monReset ++ [(fld p 10 2, n)] } }) r) h stOk 0

/-- The entries of a WRITE have arrived. -/
def nozMapDone (s : State) (e : Exec) (data : Bytes) : State :=
  loadDone s e data [((List.range (fld e.p 12 2)).any fun i => hostBad (rdAt data i 1), stBadParam)]

/-! ### NOZ_MAP_GET (R255) -/

/-- A detail entry. -/
def nozDetail (x : Port) (i : Nat) : Bytes :=
  let m := x.monOf i
  recBytes [(1, m.state), (1, m.lastVerdict), (1, (m.hist.filter badState).length), (1, m.good), (2, m.lastAmp), (2, m.lastPer)]

/-- The summary. -/
def nozSummary (x : Port) : Bytes :=
  let r := x.rvs
  let n := fun (v : Nat) => (r.mon.filter fun m => m.state == v).length
  let outs := match x.banks with
    | some b => ((List.range x.nozzles).filter fun i => b.live.comp.isOut (x.merged b.live i)).length
    | none => 0
  recBytes [(4, r.valid), (4, r.invalid), (4, r.short), (4, r.rounds), (2, n 0), (2, n 1), (2, n 2), (2, n 3), (2, n 4), (2, n 7), (2, outs),
    (1, if r.learn.isSome then 1 else if r.staged then 2 else 0), (1, 0), (4, uns 32 (Int.fdiv r.planned 4))]

/-- The port as the tap joint shows its nozzle states: in a job as of the last refresh, which a line boundary brings; without lines to come, as
they are. Log entry 87: DEDUCED. -/
def Port.tapped (x : Port) : Port :=
  match x.st.busy, x.nozTap with
  | true, some (r, b) => { x with rvs := r, banks := b }
  | true, none | false, _ => x

/-- The data of NOZ_MAP_GET. -/
def nozMap (x : Port) (what first n : Nat) : Bytes :=
  let each := fun (f : Nat → Nat) => (List.range n).map fun i => BitVec.ofNat 8 (f (first + i))
  match x.banks with
  | none => []
  | some b =>
    match what with
    | 0 => each (x.merged b.live)
    | 1 => each fun i => (x.monOf i).state
    | 2 => each fun i => nth b.live.host i 0
    | 3 => each fun i => nth b.shadow.host i 0
    | 4 => (List.range n).flatMap fun i => nozDetail x (first + i)
    | _ => nozSummary x

/-- NOZ_MAP_GET. -/
def nozMapGet (h : CmdHdr) (p : Params) (s : State) : State :=
  let r := portNo (fld p 8 1)
  let x := s.port r
  let what := fld p 9 1
  let n := fld p 12 2
  let addr := fld p 16 8
  let len := fld p 24 4
  let need := if what = 5 then 64 else if what = 4 then up64 (8 * n) else up64 n
  command 0x0702 h p s [(8, 1), (9, 1), (10, 2), (12, 2), (14, 1), (16, 8), (24, 4)]
    [(decide (5 < what) || rsv (fld p 14 1) 0x01 || (what == 5 && fld p 10 4 != 0), stBadParam),
     (portBad s (fld p 8 1) || (what != 5 && (out n 1 8192 || decide (x.nozzles < fld p 10 2 + n))) || wrongLen h len need ||
        beyond s h addr len, stRange),
     (misaddr h addr || mislen h len, stAlign), (decide (x.st = .closed), stBadState)]
    (fun t => complete t h stOk 0)
    (fun t => readOut 0x0702 h p t addr (padTo need (nozMap (t.port r).tapped what (fld p 10 2) n)))

/-! ### WEAR_QUERY (R256) -/

/-- NOZZLES entries. -/
def wearEntries (x : Port) (first n : Nat) : Bytes :=
  (List.range n).flatMap fun i =>
    let j := first + i
    let w := x.wear
    recBytes [(4, (assoc j w.residue).getD 0 + (assoc j w.cnt).getD 0), (1, (assoc j w.stored).getD 0), (3, 0)]

/-- WEAR_QUERY. -/
def wearQuery (h : CmdHdr) (p : Params) (s : State) : State :=
  let r := portNo (fld p 8 1)
  let x := s.port r
  let op := fld p 9 1
  let n := fld p 12 2
  let addr := fld p 16 8
  let len := fld p 24 4
  let need := if op = 0 then 64 else if op = 1 then up64 (8 * n) else 0
  command 0x0706 h p s [(8, 1), (9, 1), (10, 2), (12, 2), (14, 1), (16, 8), (24, 4)]
    [(decide (2 < op) || rsv (fld p 14 1) 0x01 || (op != 1 && fld p 10 4 != 0) || (op == 2 && (addr != 0 || len != 0)), stBadParam),
     (portBad s (fld p 8 1) || (op == 1 && (out n 1 8192 || decide (x.nozzles < fld p 10 2 + n))) || wrongLen h len need ||
        beyond s h addr len, stRange),
     (misaddr h addr || mislen h len, stAlign), (decide (x.st = .closed), stBadState),
     (op == 2 && !s.writeSafe, stSupplyLow), (op == 2 && x.prsHigh, stHeadAbsent)]
    (fun t => complete t h stOk 0)
    (fun t =>
      let w := (t.port r).wear
      if op = 0 then
        complete (writeOut t h addr (w.header x.nozzles w.seq w.array t.clk ((t.clk - w.lastCommit) / (1000 * msPh)))) h (outSt t h) 0
      else if op = 1 then readOut 0x0706 h p t addr (padTo need (wearEntries (t.port r) (fld p 10 2) n))
      else pumpHead (addCommit (beginExec t 0x0706 h p .wear 0) r (some t.nextId)) r)

/-! ### Meanings of the rows -/

/-- RVS_CONFIG (R252). -/
def execRvsConfig (h : CmdHdr) (p : Params) (s : State) : Host.Outcome State Fault Refusal := .next (rvsConfig h p s)

/-- RVS_LEARN (R253). -/
def execRvsLearn (h : CmdHdr) (p : Params) (s : State) : Host.Outcome State Fault Refusal := .next (rvsLearn h p s)

/-- NOZ_MAP_SET (R254). -/
def execNozMapSet (h : CmdHdr) (p : Params) (s : State) : Host.Outcome State Fault Refusal := .next (nozMapSet h p s)

/-- NOZ_MAP_GET (R255). -/
def execNozMapGet (h : CmdHdr) (p : Params) (s : State) : Host.Outcome State Fault Refusal := .next (nozMapGet h p s)

/-- WEAR_QUERY (R256). -/
def execWearQuery (h : CmdHdr) (p : Params) (s : State) : Host.Outcome State Fault Refusal := .next (wearQuery h p s)

/-- LEARN_TIME_LIMIT (R253): the run's TIME_LIMIT expires. -/
def execLearnTimeLimit (p : Fin 32) (s : State) : Host.Outcome State Fault Refusal :=
  .next (match (s.port p).rvs.learn with
    | some l => endLearn (s.advanceTo l.until_) p l stOkPartial
    | none => s)

/-- LEARN_SWAP (R245): the port's next line boundary comes for staged entries. -/
def execLearnSwap (p : Fin 32) (s : State) : Host.Outcome State Fault Refusal :=
  .next (if (s.port p).rvs.swapDue then swapSignatures s p (s.port p).nextK else s)

/-- MONITOR_RESET (R254): the port's next line boundary comes for RESET_MONITOR. -/
def execMonitorReset (p : Fin 32) (s : State) : Host.Outcome State Fault Refusal :=
  .next (if (s.port p).rvs.monReset.isEmpty then s else resetMonitor s p (s.port p).nextK)

end Sys2Proof.Machine
end

