-- ==== Sys2Proof/Machine/PressBus.lean ====
section
/-! DEFINITION. Press bus and press signals: the two CAN controllers, the press messages, interlock and press-state timeout, STOP_N
and SPD_DEM (11_press_bus.md R315 to R334). -/

namespace Sys2Proof.Machine

/-! ### Requests by PRESS_POLICY (R320, R321) -/

/-- The quires ARMED or beyond whose job names a policy. -/
def State.policyMask (s : State) (pol : Nat) : Nat :=
  s.quireMask fun q => q.st.beyond && (match q.job with
    | some j => j.policy == pol
    | none => false)

/-- Each quire ARMED or beyond gets the request its PRESS_POLICY names. -/
def policyRequests (s : State) (src : ReqSource) : State :=
  let inh := s.policyMask 1
  let stp := s.policyMask 2
  forAll s fun (t : State) (q : Fin 8) =>
    if inh.testBit q.1 then request t src (.quire q) .inhibit
    else if stp.testBit q.1 then request t src (.quire q) (.stop 9)
    else t

/-- The INHIBITs of a source are withdrawn. -/
def policyWithdraw (s : State) (src : ReqSource) : State := forAll s fun (t : State) (q : Fin 8) => withdraw t src (.quire q)

/-- Set sticky bits of CAN_EVENT. -/
def canEvent (s : State) (m : Nat) : State :=
  { s with press := { s.press with event := s.press.event ||| BitVec.ofNat 6 m } }

/-- The interlock state follows a frame (R320). -/
def setInterlock (s : State) (on : Bool) : State :=
  if on = s.press.interlock then s
  else
    let s1 := { s with press := { s.press with interlock := on } }
    if on then evtStop (policyRequests (canEvent s1 8) .interlock) 2 9 else policyWithdraw s1 .interlock

/-- ms since the last PRESS_STATE, saturating at 16 bits; 65,535 before the first. Log entry 62: DEDUCED. -/
def State.pressMs (s : State) : Nat :=
  match s.press.psLast with
  | some t => min ((s.clk - t) / msPh) 65535
  | none => 65535

/-- BUS_PRESS_TIMEOUT (R329). -/
def pressTimeoutEvent (s : State) (phase inh stp : Nat) : State :=
  raise (canEvent s 4) evPressTimeout kDevice 0 (if phase = 0 then 3 else 1)
    ([BitVec.ofNat 8 phase, BitVec.ofNat 8 s.press.pressState] ++ le 2 s.pressMs ++ [BitVec.ofNat 8 inh, BitVec.ofNat 8 stp, 0, 0] ++ le 8 s.ns)

/-- No PRESS_STATE for PS_TIMEOUT. -/
def pressStateTimeout (s : State) : State :=
  if s.press.psTimeout = 0 || s.press.timeout || s.inReset then s
  else
    let t := s.advanceTo (s.press.psAt + s.press.psTimeout * msPh)
    let t1 := policyRequests { t with press := { t.press with timeout := true } } .pressTimeout
    pressTimeoutEvent (faultEdge t1) 0 (t.policyMask 1) (t.policyMask 2)

/-- A PRESS_STATE arrives: it restarts the timer and ends a timeout in force. The last PRESS_STATE of the event with phase 1 is this one.
Log entry 62: DEDUCED. -/
def pressStateRx (s : State) (d : Bytes) : State :=
  let was := s.press.timeout
  let s1 := { s with press := { s.press with
    pressState := rdAt d 0 1, counter := rdAt d 1 1, speed := rdAt d 2 2, timeout := false, psAt := s.clk, psLast := some s.clk } }
  setInterlock (if was then pressTimeoutEvent (faultEdge (policyWithdraw s1 .pressTimeout)) 1 0 0 else s1) (bit (rdAt d 4 1) 0)

/-! ### Reception (R315, R317, R318, R322, R324) -/

/-- A frame is dropped and counted. -/
def canDrop (s : State) (c : Fin 2) : State := s.modCan c fun k => { k with dropped := sat32 k.dropped 1 }

/-- The identifier of a press bus message (R317). -/
def pressId (base typ station : Nat) : Nat := base * 65536 + typ * 4096 + station

/-- Bytes 28:16 of an extended identifier equal ID_BASE. -/
def State.isPress (s : State) (f : CanFrame) : Bool := f.ext && f.id.toNat / 65536 == s.press.idBase.toNat

/-- SD_TX makes this node a sender of SPEED_DEMAND (R319). -/
def State.sdSender (s : State) : Bool := s.press.sdTx == 1 || (s.press.sdTx == 0 && s.isRoot)

/-- A controller sends press bus messages. -/
def Can.sends (k : Can) : Bool := k.pressMsgs && (k.mode == .classic || k.mode == .fd)

/-- The message type of this node that an identifier from another sender carries (R324). -/
def State.clashType (s : State) (f : CanFrame) : Option Nat :=
  let typ := f.id.toNat / 4096 % 16
  let own := s.isPress f && f.id.toNat % 4096 == s.press.station.toNat && (s.press.canA.sends || s.press.canB.sends)
  if own && ((typ == 1 && s.sdSender) || ((typ == 3 || typ == 4) && s.press.station != 0)) then some typ else none

/-- BUS_ID_CLASH, at most once per 10 s and message type (R324, R329). Log entry 62: DEDUCED. -/
def clashCheck (s : State) (c : Fin 2) (f : CanFrame) : State :=
  match s.clashType f with
  | none => s
  | some typ =>
    let i := finOf 5 (by decide) typ
    let free := match look s.press.clashAt i with
      | some t0 => decide (t0 + 10000 * msPh ≤ s.clk)
      | none => true
    if !free then s
    else
      let s1 := { s with press := { s.press with clashAt := upd s.press.clashAt i fun _ => some s.clk } }
      raise (canEvent s1 2) evIdClash kDevice 0 2 ([BitVec.ofNat 8 c.1, BitVec.ofNat 8 typ, 0, 0] ++ le 4 f.id.toNat ++ le 8 s.ns)

/-- A press message with a DLC other than 8, a non-zero unlisted byte or an unlisted value is dropped (R318). Log entry 62: DEDUCED. -/
def pressFrameBad (typ : Nat) (f : CanFrame) : Bool :=
  let z := fun (i : Nat) => rdAt f.data i 1 != 0
  f.data.length != 8 ||
  (if typ = 0 then decide (1 < rdAt f.data 0 1) || z 1 || z 4 || z 5 || z 6 || z 7
   else decide (4 < rdAt f.data 0 1) || decide (1 < rdAt f.data 4 1) || z 5 || z 6 || z 7)

/-- The other controller. -/
def otherCan (c : Fin 2) : Fin 2 := if c = 0 then 1 else 0

/-- A press bus frame that both controllers see carries the same message on both, whatever its form. -/
def sameMessage (f g : CanFrame) : Bool := f.id == g.id && f.data == g.data

/-- An INTERLOCK or a PRESS_STATE acts (R320, R321). -/
def pressActs (s : State) (typ : Nat) (d : Bytes) : State :=
  if typ = 2 then pressStateRx s d
  else
    let target := rdAt d 2 2
    if target = 0xFFF ∨ (target = s.press.station.toNat ∧ s.press.station ≠ 0) then setInterlock s (rdAt d 0 1 == 1) else s

/-- A press bus frame (R322 item 1). A copy of one that has come over the other controller does nothing more, and neither will copies of
those before it (R317). Log entry 62: DEDUCED. -/
def pressFrame (s : State) (c : Fin 2) (f : CanFrame) : State :=
  let typ := f.id.toNat / 4096 % 16
  if (typ = 0 ∨ typ = 2) ∧ f.id.toNat % 4096 = s.press.pressStation.toNat ∧ !(pressFrameBad typ f) then
    let o := otherCan c
    if (s.can o).seen.any (sameMessage f) then s.modCan o fun x => { x with seen := x.seen.takeWhile fun g => !(sameMessage f g) }
    else pressActs (s.modCan c fun x => { x with seen := (f :: x.seen).take 64 }) typ f.data
  else canDrop s c

/-- The filter passes the frame. -/
def CanFilter.passes (x : CanFilter) (f : CanFrame) : Bool :=
  x.enable && x.ext == f.ext && (f.id &&& x.mask) == (x.id &&& x.mask)

/-- Any other frame goes through the host filters into the FIFO (R322 items 2 and 3). -/
def hostFrame (s : State) (c : Fin 2) (f : CanFrame) : State :=
  match (idx 16).find? fun i => (look (s.can c).filters i).passes f with
  | none => canDrop s c
  | some i =>
    if 64 ≤ (s.can c).fifo.length then canEvent (canDrop s c) 32
    else s.modCan c fun k => { k with fifo := k.fifo ++ [{ f := f, filter := i.1, tb := s.ns }] }

/-- Error-active up to an error count of 127, error-passive beyond (ISO 11898-1). Log entry 100: PRESUMED. -/
def Can.confine (k : Can) : Can :=
  match k.st with
  | .errorActive | .errorPassive => { k with st := if 127 < k.tec || 127 < k.recErr then .errorPassive else .errorActive }
  | .off | .busOff | .recovering => k

/-- Receive errors count 1 each; a frame received without one counts back by 1, from error-passive to 127 (ISO 11898-1). A LISTEN controller
does not count. Log entry 100: PRESUMED. -/
def Can.receives (k : Can) (errs : Nat) (good : Bool) : Can :=
  if k.mode = .listen then k
  else
    let n := min (k.recErr + errs) 255
    { k with recErr := if !good then n else if 127 < n then 127 else n - 1 }.confine

/-- CAN_FRAME_RX: `errs` receive errors since the frame before, then this frame. Nothing in OFF and in bus-off. A CLASSIC controller
error-flags an FD frame, and remote frames are dropped (R315). -/
def canFrameRx (c : Fin 2) (f : CanFrame) (errs : Nat) (s : State) : State :=
  let k := s.can c
  if k.mode = .off || k.isOff then s
  else if f.fd && k.mode == .classic then (s.modCan c fun x => x.receives (errs + 1) false).emit (.canError c (k.st == .errorActive))
  else
    let s1 := s.modCan c fun x => { x.receives errs true with received := sat32 x.received 1 }
    if f.rtr then canDrop s1 c
    else
      let s2 := clashCheck s1 c f
      if s2.isPress f then pressFrame s2 c f else hostFrame s2 c f

/-! ### Bus-off (R323) -/

/-- BUS_OFF (R329). -/
def busOffEvent (s : State) (c : Fin 2) (phase : Nat) : State :=
  let k := s.can c
  raise (canEvent s 1) evBusOff kDevice 0 (if phase = 0 then 3 else 1)
    ([BitVec.ofNat 8 c.1, BitVec.ofNat 8 phase, BitVec.ofNat 8 k.tec, BitVec.ofNat 8 k.recErr] ++ le 2 k.busOffs ++ [0, 0] ++ le 8 s.ns)

/-- A controller enters bus-off. A LISTEN controller never sends and so never does. -/
def busOffEntry (c : Fin 2) (tec recv : Nat) (s : State) : State :=
  let k := s.can c
  if k.mode = .off || k.mode = .listen || k.isOff then s
  else
    let s1 := s.modCan c fun x => { x with
      st := if x.autoRec then .recovering else .busOff, tec := min tec 255, recErr := min recv 255, busOffs := satAdd 16 x.busOffs 1 }
    busOffEvent (faultEdge s1) c 0

/-- A controller joins the bus with TEC and REC at 0; leaving bus-off raises BUS_OFF with phase 1. Log entry 61: DEDUCED. -/
def rejoin (s : State) (c : Fin 2) : State :=
  let was := (s.can c).isOff
  let s1 := if was then busOffEvent s c 1 else s
  faultEdge (s1.modCan c fun x => { x with st := if x.mode = .off then .off else .errorActive, tec := 0, recErr := 0 })

/-- After 128 occurrences of 11 recessive bits an AUTO_RECOVER controller rejoins. -/
def busOffRecovery (c : Fin 2) (s : State) : State := if (s.can c).st = .recovering then rejoin s c else s

/-! ### Sending (R317, R319, R323, R333) -/

/-- A press bus message waits on every controller that sends them; a newer one of its type replaces it (R319). Log entry 60: DEDUCED. -/
def pressSend (s : State) (typ : Nat) (data : Bytes) : State :=
  let one := fun (t : State) (c : Fin 2) =>
    if (t.can c).sends then
      t.modCan c fun k => { k with press := assocSet typ (padTo 8 data) k.press }
    else t
  one (one s 0) 1

/-- The order in which identifiers win arbitration. -/
def canRank (f : CanFrame) : Nat := if f.ext then 2 * f.id.toNat + 1 else 2 * (f.id.toNat * 262144)

/-- A press bus message as a controller sends it now: under the present ID_BASE and STATION, an FD frame with BRS in FD mode (R317). -/
def State.pressOut (s : State) (k : Can) (typ : Nat) (d : Bytes) : CanFrame :=
  let fd := k.mode == .fd
  { id := BitVec.ofNat 29 (pressId s.press.idBase.toNat typ s.press.station.toNat), ext := true, fd := fd, brs := fd, rtr := false, data := d }

/-- The frame that a controller sends next and, for a host frame, the id of its command (R323). Press bus messages go out only where
PRESS_MSGS is set, STATUS and HEARTBEAT only from a node with a STATION, FD frames only in FD mode. Log entry 60: DEDUCED. -/
def State.canFront (s : State) (c : Fin 2) : Option (Nat × Bool × CanFrame) :=
  let k := s.can c
  let press := if k.sends then (k.press.filter fun e => e.1 == 1 || s.press.station != 0).map fun e => (e.1, false, s.pressOut k e.1 e.2) else []
  let host := (k.host.filter fun e => !(e.2.fd && k.mode == .classic)).map fun e => (e.1, true, e.2)
  (press ++ host).foldl (fun m e =>
    match m with
    | none => some e
    | some b => if canRank e.2.2 < canRank b.2.2 then some e else m) none

/-- The controller takes part on the bus as a sender. -/
def Can.active (k : Can) : Bool := (k.mode == .classic || k.mode == .fd) && (k.st == .errorActive || k.st == .errorPassive)

/-- A frame is sent after `lost` lost arbitrations and `errs` transmit errors, which count 8 each; success counts back by 1 (ISO 11898-1).
Log entry 100: PRESUMED. -/
def Can.transmits (k : Can) (lost errs : Nat) : Can :=
  { k with sent := sat32 k.sent 1, arbLost := sat32 k.arbLost lost, tec := min (k.tec + 8 * errs) 255 - 1 }.confine

/-- CAN_TX_DONE: the front frame has been sent and acknowledged; a host frame completes its BUS_SEND with the timebase of its start of frame,
`ago` phases back (R323, R333). Log entry 60: DEDUCED. -/
def canTxDone (c : Fin 2) (ago lost errs : Nat) (s : State) : State :=
  let k := s.can c
  if !k.active then s
  else match s.canFront c with
    | none => s
    | some (i, host, f) =>
      let s1 := (s.modCan c fun x => { x.transmits lost errs with
        press := if host then x.press else assocDel i x.press, host := if host then x.host.filter fun e => e.1 != i else x.host }).emit (.canFrame c f)
      if host then
        match s1.execs.find? fun e => e.id == i with
        | some e => endExec s1 e stOk ((s.tb - ago) / 4)
        | none => s1
      else s1

/-- The time limit of a BUS_SEND. -/
def busSendTimeout (id : Nat) (s : State) : State :=
  match s.execs.find? fun e => e.id == id with
  | none => s
  | some e =>
    match e.wait with
    | .can deadline =>
      let c := finOf 2 (by decide) (fld e.p 8 1)
      endExec ((s.advanceTo deadline).modCan c fun x => { x with host := x.host.filter fun y => y.1 != id }) e stTimeout 0
    | .dma | .swap _ _ _ _ | .copy | .bringup _ | .retrain | .headMem | .wear | .drain | .ringClose | .otp | .flash | .learn | .learnSwap
    | .round | .enumerate | .posture => s

/-- SPEED_DEMAND is due at once after a change of 256 or more, or to or from 0. -/
def State.sdChanged (s : State) : Bool :=
  let d := s.spr.subtree
  let o := s.press.sdSent
  decide (o + 256 ≤ d) || decide (d + 256 ≤ o) || (decide (d ≠ o) && (d == 0 || o == 0))

/-- SPEED_DEMAND_TX (R319). -/
def speedDemandTx (s0 : State) : State :=
  if !s0.sdSender || s0.press.sdPeriod = 0 || !(s0.press.canA.sends || s0.press.canB.sends) then s0
  else
    let s := if s0.sdChanged then s0 else s0.advanceTo (s0.press.sdAt + s0.press.sdPeriod * msPh)
    let s1 := pressSend s 1 (le 2 s.spr.subtree ++ le 2 s.spr.limiter ++ [BitVec.ofNat 8 s.spr.reason, BitVec.ofNat 8 s.press.sdSeq])
    { s1 with press := { s1.press with sdSent := s.spr.subtree, sdAt := s.clk, sdSeq := (s.press.sdSeq + 1) % 256 } }

/-- The content of STATUS (R318). -/
def State.statusBytes (s : State) : Bytes :=
  [BitVec.ofNat 8 (bitAt s.rdy 0 + bitAt s.faultRequest 1 + bitAt s.press.stopLow 2), BitVec.ofNat 8 (s.quireMask fun q => q.st.runs),
   BitVec.ofNat 8 (s.quireMask fun q => q.st == .fault), 0] ++ le 2 s.spr.own ++ le 2 s.sp.nodeId

/-- STATUS_TX (R319). -/
def statusTx (s0 : State) : State :=
  if s0.press.station = 0 || !(s0.press.canA.sends || s0.press.canB.sends) then s0
  else
    let s := if s0.statusBytes != s0.press.statusSent then s0 else s0.advanceTo (s0.press.statusAt + 1000 * msPh)
    let s1 := pressSend s 3 s.statusBytes
    { s1 with press := { s1.press with statusSent := s.statusBytes, statusAt := s.clk } }

/-- HEARTBEAT_TX (R319). -/
def heartbeatTx (s0 : State) : State :=
  if s0.press.station = 0 || s0.press.hbPeriod = 0 || !(s0.press.canA.sends || s0.press.canB.sends) then s0
  else
    let s := s0.advanceTo (s0.press.hbAt + s0.press.hbPeriod * msPh)
    let s1 := pressSend s 4 ([BitVec.ofNat 8 s.sp.st.code, BitVec.ofNat 8 s.press.hbSeq, 0, 0] ++ le 4 s.seconds)
    { s1 with press := { s1.press with hbAt := s.clk, hbSeq := (s.press.hbSeq + 1) % 256 } }

/-! ### Press signals (R325, R328) -/

/-- STOP_N is accepted low: a STOP for every quire, and the spine STOP of R300. Log entry 63: DEDUCED. -/
def stopNAccepted (s : State) : State :=
  if s.press.stopLow || s.inReset then s
  else evtStop (stopAll (canEvent { s with press := { s.press with stopLow := true } } 16) 11) 0 11

/-- STOP_N is accepted high; nothing is lifted. -/
def stopNReleased (s : State) : State := if s.inReset then s else { s with press := { s.press with stopLow := false } }

/-- The SPD_DEM high time of a demand, in phases of 250 ps (R328). -/
def spdHighOf (d : Nat) : Nat := (2 * (d * 200000) + 65535) / (2 * 65535)

/-- A period of SPD_DEM begins. -/
def spdDemPeriod (s0 : State) : State :=
  if s0.inReset then s0
  else
    let s := s0.advanceTo (s0.press.spdAt + 50 * usPh)
    let v := spdHighOf s.spr.subtree
    { s with press := { s.press with spdHigh := v, spdAt := s.clk } }.emit (.pinSpdDem v)

/-! ### Commands (R330 to R334) -/

/-- MODE of BUS_CONFIG. -/
def canModeOf : Nat → CanMode
  | 1 => .classic | 2 => .fd | 3 => .listen | _ => .off

/-- Values of BUS_CONFIG outside their ranges. Log entry 61: DEDUCED. -/
def busRange (p : Params) : Bool :=
  let data := decide (fld p 9 1 = 2 ∨ fld p 9 1 = 3)
  decide (1 < fld p 8 1) || out (fld p 12 1) 1 32 || out (fld p 13 1) 2 255 || out (fld p 14 1) 1 128 || out (fld p 15 1) 1 (fld p 14 1) ||
  (data && (out (fld p 16 1) 1 32 || out (fld p 17 1) 1 32 || out (fld p 18 1) 1 16 || out (fld p 19 1) 1 (fld p 18 1))) ||
  decide (127 < fld p 20 1) || decide (0x1FFF < fld p 24 2) || decide (0xFFE < fld p 26 2) || out (fld p 28 2) 1 0xFFE || fld p 31 1 == 0 ||
  (fld p 32 2 != 0 && out (fld p 32 2) 10 10000) || out (fld p 34 2) 1 1000 || out (fld p 36 2) 10 10000

/-- The bit rates of R316 lie outside R315: clocks per bit of the nominal and of the data phase. -/
def busRate (p : Params) : Bool :=
  let data := decide (fld p 9 1 = 2 ∨ fld p 9 1 = 3)
  out (fld p 12 1 * (1 + fld p 13 1 + fld p 14 1)) 80 640 || (data && out (fld p 16 1 * (1 + fld p 17 1 + fld p 18 1)) 10 80)

/-- BUS_CONFIG acts. The press bus messages that waited on the controller go where it no longer sends them. Log entry 61: DEDUCED. -/
def setBus (s : State) (p : Params) : State :=
  let c := finOf 2 (by decide) (fld p 8 1)
  let f := fld p 10 1
  let s1 := { s with press := { s.press with
    idBase := BitVec.ofNat 13 (fld p 24 2), station := BitVec.ofNat 12 (fld p 26 2), pressStation := BitVec.ofNat 12 (fld p 28 2),
    sdTx := fld p 30 1, stopFilter := fld p 31 1, psTimeout := fld p 32 2, sdPeriod := fld p 34 2, hbPeriod := fld p 36 2,
    faultSrc := BitVec.ofNat 4 (fld p 38 1), psAt := s.clk } }
  let s2 := s1.modCan c fun k => { k with
    mode := canModeOf (fld p 9 1), autoRec := bit f 0, pressMsgs := bit f 1, tdc := bit f 2, timing := BitVec.ofNat 64 (fld p 12 8),
    tdcOfs := fld p 20 1, press := if bit f 1 && (fld p 9 1 == 1 || fld p 9 1 == 2) then k.press else [] }
  if fld p 9 1 = 0 then faultEdge (s2.modCan c fun k => { k with st := .off, tec := 0, recErr := 0 }) else rejoin s2 c

/-- BUS_CONFIG. -/
def busConfig (h : CmdHdr) (p : Params) (s : State) : State :=
  let f := fld p 10 1
  let mode := fld p 9 1
  plainCmd 0x0A01 h p s
    [(8, 1), (9, 1), (10, 1), (12, 4), (16, 4), (20, 1), (24, 2), (26, 2), (28, 2), (30, 1), (31, 1), (32, 2), (34, 2), (36, 2), (38, 1)]
    [(decide (3 < mode) || rsv f 0x07 || decide (2 < fld p 30 1) || rsv (fld p 38 1) 0x0F || (decide (mode < 2) && fld p 16 4 != 0) ||
        (!(bit f 2) && fld p 20 1 != 0), stBadParam),
     (busRange p, stRange), (fld p 26 2 == fld p 28 2 || (bit f 2 && mode != 2) || busRate p, stBadParam)]
    (fun t => setBus t p)

/-- BUS_FILTER. -/
def busFilter (h : CmdHdr) (p : Params) (s : State) : State :=
  let f := fld p 10 1
  let top := if bit f 1 then 2 ^ 29 else 2 ^ 11
  plainCmd 0x0A02 h p s [(8, 1), (9, 1), (10, 1), (12, 4), (16, 4)]
    [(rsv f 0x03 || decide (top ≤ fld p 12 4) || decide (top ≤ fld p 16 4), stBadParam), (decide (1 < fld p 8 1) || decide (15 < fld p 9 1), stRange)]
    (fun t => t.modCan (finOf 2 (by decide) (fld p 8 1)) fun k => { k with filters := upd k.filters (finOf 16 (by decide) (fld p 9 1)) fun _ =>
      { enable := bit f 0, ext := bit f 1, id := BitVec.ofNat 29 (fld p 12 4), mask := BitVec.ofNat 29 (fld p 16 4) } })

/-- LEN of BUS_SEND. -/
def canLen (fd : Bool) (n : Nat) : Bool := decide (n ≤ 8) || (fd && [12, 16, 20, 24, 32].contains n)

/-- BUS_SEND. -/
def busSend (h : CmdHdr) (p : Params) (s : State) : State :=
  let c := finOf 2 (by decide) (fld p 8 1)
  let f := fld p 9 1
  let k := s.can c
  let len := fld p 10 1
  let ext := bit f 0
  command 0x0A03 h p s [(8, 1), (9, 1), (10, 1), (12, 4), (16, 2), (24, 32)]
    [(rsv f 0x07 || (bit f 2 && !(bit f 1)) || !(canLen (bit f 1) len) || (len < 32 && fld p (24 + len) (32 - len) != 0), stBadParam),
     (decide (1 < fld p 8 1) || decide ((if ext then 2 ^ 29 else 2 ^ 11) ≤ fld p 12 4) || out (fld p 16 2) 1 10000, stRange),
     (decide (k.mode = .off) || decide (k.mode = .listen) || k.isOff, stBadState), (decide (8 ≤ k.host.length), stBusy),
     ((ext && fld p 12 4 / 65536 == s.press.idBase.toNat) || (bit f 1 && decide (k.mode = .classic)), stBadParam)]
    (fun t => complete t h stOk 0)
    (fun t =>
      let m : CanFrame := { id := BitVec.ofNat 29 (fld p 12 4), ext := ext, fd := bit f 1, brs := bit f 2, rtr := false, data := fldBytes p 24 len }
      (beginExec t 0x0A03 h p (.can (t.clk + fld p 16 2 * msPh)) 0).modCan c fun x => { x with host := x.host ++ [(t.nextId, m)] })

/-- The STATUS record of BUS_QUERY. -/
def canStatus (s : State) (k : Can) : Bytes :=
  padTo 64 (recBytes [(1, k.st.code), (1, k.tec), (1, k.recErr), (1, k.mode.code), (2, k.busOffs), (2, min k.arbLost 65535), (4, k.sent),
    (4, k.received), (4, k.dropped), (1, k.fifo.length), (1, s.press.pressState), (1, s.press.counter),
    (1, bitAt s.press.interlock 0 + bitAt s.press.timeout 1), (2, s.spr.subtree), (2, s.pressMs)])

/-- A RECEIVE frame record. -/
def canRecord (r : CanRx) : Bytes :=
  let n := r.f.data.length
  let w := r.f.id.toNat ||| (bitAt r.f.ext 31 + bitAt r.f.fd 30 + bitAt r.f.brs 29 + bitAt (decide (48 < n)) 28)
  le 4 w ++ [BitVec.ofNat 8 n, BitVec.ofNat 8 r.filter, 0, 0] ++ le 8 r.tb ++ padTo 48 (r.f.data.take 48)

/-- BUS_QUERY. -/
def busQuery (h : CmdHdr) (p : Params) (s : State) : State :=
  let c := finOf 2 (by decide) (fld p 8 1)
  let rx := fld p 9 1 == 1
  let max_ := fld p 10 1
  let addr := fld p 16 8
  let len := fld p 24 4
  let need := if rx then 64 * max_ else 64
  let k := s.can c
  let n := if rx then min max_ k.fifo.length else 0
  let res := k.st.code + 2 ^ 32 * n
  command 0x0A04 h p s [(8, 1), (9, 1), (10, 1), (16, 8), (24, 4)]
    [(decide (1 < fld p 9 1) || (!rx && max_ != 0), stBadParam),
     (decide (1 < fld p 8 1) || (rx && out max_ 1 64) || wrongLen h len need || beyond s h addr len, stRange),
     (misaddr h addr || mislen h len, stAlign)]
    (fun t => complete t h stOk res)
    (fun t =>
      if rx then reportOut 0x0A04 h p (t.modCan c fun x => { x with fifo := x.fifo.drop n }) addr ((k.fifo.take n).flatMap canRecord) res
      else complete (writeOut t h addr (canStatus t k)) h (outSt t h) res)

/-! ### Meanings of the rows -/

/-- BUS_CONFIG (R331). -/
def execBusConfig (h : CmdHdr) (p : Params) (s : State) : Host.Outcome State Fault Refusal := .next (busConfig h p s)

/-- BUS_FILTER (R332). -/
def execBusFilter (h : CmdHdr) (p : Params) (s : State) : Host.Outcome State Fault Refusal := .next (busFilter h p s)

/-- BUS_SEND (R333). -/
def execBusSend (h : CmdHdr) (p : Params) (s : State) : Host.Outcome State Fault Refusal := .next (busSend h p s)

/-- BUS_QUERY (R334). -/
def execBusQuery (h : CmdHdr) (p : Params) (s : State) : Host.Outcome State Fault Refusal := .next (busQuery h p s)

/-- CAN_FRAME_RX (R322). -/
def execCanFrameRx (c : Fin 2) (x : CanHeard) (s : State) : Host.Outcome State Fault Refusal := .next (canFrameRx c x.frame x.errs s)

/-- PRESS_STATE_TIMEOUT (R321). -/
def execPressStateTimeout (s : State) : Host.Outcome State Fault Refusal := .next (pressStateTimeout s)

/-- BUS_OFF_ENTRY (R323). -/
def execBusOffEntry (c : Fin 2) (tec recv : Nat) (s : State) : Host.Outcome State Fault Refusal := .next (busOffEntry c tec recv s)

/-- BUS_OFF_RECOVERY (R323). -/
def execBusOffRecovery (c : Fin 2) (s : State) : Host.Outcome State Fault Refusal := .next (busOffRecovery c s)

/-- SPEED_DEMAND_TX (R319). -/
def execSpeedDemandTx (s : State) : Host.Outcome State Fault Refusal := .next (speedDemandTx s)

/-- STATUS_TX (R319). -/
def execStatusTx (s : State) : Host.Outcome State Fault Refusal := .next (statusTx s)

/-- HEARTBEAT_TX (R319). -/
def execHeartbeatTx (s : State) : Host.Outcome State Fault Refusal := .next (heartbeatTx s)

/-- CAN_TX_DONE (R333). -/
def execCanTxDone (x : CanSent) (s : State) : Host.Outcome State Fault Refusal := .next (canTxDone x.c x.ago x.lost x.errs s)

/-- BUS_SEND_TIMEOUT (R333). -/
def execBusSendTimeout (id : Nat) (s : State) : Host.Outcome State Fault Refusal := .next (busSendTimeout id s)

/-- STOP_N_ACCEPTED (R325). -/
def execStopNAccepted (s : State) : Host.Outcome State Fault Refusal := .next (stopNAccepted s)

/-- STOP_N_RELEASED (R325). -/
def execStopNReleased (s : State) : Host.Outcome State Fault Refusal := .next (stopNReleased s)

/-- SPD_DEM_PERIOD (R328). -/
def execSpdDemPeriod (s : State) : Host.Outcome State Fault Refusal := .next (spdDemPeriod s)

end Sys2Proof.Machine
end

