-- ==== Sys2Proof/Machine/RegView.lean ====
section
/-! DEFINITION. What each register of BAR 0 reads as, block by block (12_host_rings.md R338 and the register tables of every chapter).
A reserved register reads 0 (R7). Side effects of reads are in Regs.lean. -/

namespace Sys2Proof.Machine

/-! ### The map of BAR 0 (R338) -/

/-- The blocks of BAR 0. -/
inductive Block where
  | glb | rst | otp | thm | enc | quire | spn | can | mgt | ring | pwa | pwb | msix | pba
  deriving DecidableEq, Repr

/-- The block of an offset; none where no block lies (log entry 22). DEDUCED. -/
def blockOf (off : Nat) : Option Block :=
  match off / 0x1000 with
  | 0x00 => some .glb
  | 0x01 => some .rst
  | 0x02 => some .otp
  | 0x03 => some .thm
  | 0x04 => some .enc
  | 0x05 => some .quire
  | 0x06 => some .spn
  | 0x07 => some .can
  | 0x08 => some .mgt
  | 0x10 => some .ring
  | 0x20 => some .pwa
  | 0x21 => some .pwb
  | 0x30 => if off < 0x30400 then some .msix else none
  | 0x31 => if off < 0x31008 then some .pba else none
  | _ => none

/-- Low and high half of a 64-bit value. -/
def half (hi : Bool) (v : Nat) : Nat := if hi then v / 2 ^ 32 % 2 ^ 32 else v % 2 ^ 32

/-- Two 16-bit fields. -/
def pair16 (hi lo : Nat) : Nat := hi % 65536 * 65536 + lo % 65536

/-! ### GLB, RST, OTP, MGT -/

/-- The GLB block (R33, R218, R340; 13_commands_events.md). -/
def glbReg (s : State) (o : Nat) : Nat :=
  let g := s.glb
  match o with
  | 0x000 => pair16 s.part 0xA101
  | 0x004 => s.partPorts + bits s.rst.straps.toNat 1 0 * 2 ^ 11 + bitAt s.isRoot 13 + bitAt s.otp.enforceSig 14 + bitAt s.otp.debugLock 15 +
      2 * 2 ^ 16 + 3 * 2 ^ 20
  | 0x008 => g.layout.toNat + bitAt g.capped 4 + bitAt s.postureEff 5 + bitAt g.forced 6 + bitAt g.abortOnPerst 8 + g.bgShare.toNat * 2 ^ 12
  | 0x010 => s.irqStatus
  | 0x014 => g.irqMask.toNat
  | 0x018 => half false s.ns
  | 0x01C => g.tbHi.toNat
  | 0x020 => g.err.toNat
  | 0x040 => g.pselA.toNat + bitAt g.bcastA 31
  | 0x044 => g.pselB.toNat + bitAt g.bcastB 31
  | _ => 0

/-- The RST block. -/
def rstReg (s : State) (o : Nat) : Nat :=
  let r := s.rst
  match o with
  | 0x000 => r.cause.toNat
  | 0x004 => r.count
  | 0x008 => s.rstStraps
  | 0x00C => bitAt r.loadDone 0 + bitAt r.integFail 1 + bitAt r.defaults 2 + r.retries * 256
  | 0x010 => bitAt r.vbatPor 0 + r.trialBoots * 256 + r.scratch.toNat * 65536
  | 0x014 => s.rstBoot
  | _ => 0

/-- The OTP block. -/
def otpReg (s : State) (o : Nat) : Nat :=
  let t := s.otp
  match o with
  | 0x000 => bitAt t.job.isSome 0 + bitAt t.vppUsed 1 + bitAt t.selfOk 2 + bitAt t.checking 3 + min t.marginal 255 * 256 + min t.corrected 65535 * 65536
  | 0x004 => t.progLock.toNat + t.readLock.toNat * 256
  | 0x008 => s.regionState
  | 0x00C => uns 16 t.checkT
  | 0x010 => if t.checkAt = 0 then 0 else (s.clk - t.checkAt) / (1000 * msPh)
  | 0x014 => t.ar
  | _ => 0

/-- Register `k` of a measurement window: W0 as it is, W1 to W11 and CNT as the last read of W0 latched them (R435). -/
def measReg (s : State) (n : Fin 8) (k : Nat) : Nat :=
  if k = 0 then rdAt (look s.mgt.meas n) 0 4
  else if k < 12 then rdAt (look s.mgt.latch n) (4 * k) 4
  else if k = 12 then look s.mgt.latchCnt n
  else 0

/-- The MGT block. -/
def mgtReg (s : State) (o : Nat) : Nat :=
  let m := s.mgt
  match o with
  | 0x000 => bitAt m.smbEid.isSome 0 + bitAt m.vdmEid.isSome 1 + bitAt s.commandReady 2 + bitAt m.keyReady 3 + bitAt m.debugAtt 4 + bitAt m.overflow 5
  | 0x004 => s.otp.smbAddr.toNat + (m.smbEid.getD 0).toNat * 2 ^ 16 + (m.vdmEid.getD 0).toNat * 2 ^ 24
  | 0x008 => m.extends_
  | _ => if 0x100 ≤ o ∧ o < 0x300 then measReg s (finOf 8 (by decide) ((o - 0x100) / 0x40)) (o % 0x40 / 4) else 0

/-! ### THM (09_thermal_supply.md) -/

/-- A die sensor as a register shows it. -/
def State.dieShown (s : State) (i : Nat) : Nat := uns 16 ((look s.th.die (finOf 8 (by decide) i)).getD noTemp)

/-- The lowest die sensor. -/
def State.dieLow (s : State) : Int :=
  match lowestOf ((idx 8).filterMap fun i => (look s.th.die i).map fun t => (i.1, t)) with
  | some (_, t) => t
  | none => noTemp

/-- The THM block. -/
def thmReg (s : State) (o : Nat) : Nat :=
  let t := s.th
  match o with
  | 0x000 => pair16 t.graceMs t.round
  | 0x004 => pair16 (uns 16 t.dieLimit) (uns 16 t.dieWarn)
  | 0x008 => pair16 t.demand s.thmState
  | 0x00C => pair16 (uns 16 s.dieLow) (uns 16 s.dieTemp)
  | 0x050 => pair16 (match t.ambient with
      | some i => i.1
      | none => 0xF) (uns 16 (t.ambT.getD noTemp))
  | 0x060 => s.thmSupply
  | 0x0A0 => pair16 (uns 16 t.shutPeak) t.shutCount
  | 0x0B0 => t.event.toNat
  | 0x0B4 => t.roundCount.toNat
  | _ =>
    let i := o % 0x10 / 4
    if 0x010 ≤ o ∧ o < 0x020 then pair16 (s.dieShown (2 * i + 1)) (s.dieShown (2 * i))
    else if 0x020 ≤ o ∧ o < 0x040 then nth s.thmMasks ((o - 0x020) / 4) 0
    else if 0x040 ≤ o ∧ o < 0x050 then pair16 (nth t.aux.toList (2 * i + 1) 0) (nth t.aux.toList (2 * i) 0)
    else if 0x070 ≤ o ∧ o < 0x098 then
      let j := (o - 0x070) / 4
      pair16 (nth t.supply.toList (2 * j + 1) 0) (nth t.supply.toList (2 * j) 0)
    else 0

/-! ### ENC, QUIRE (02_position.md, 03_fire_timing.md) -/

/-- ENC_STATE. -/
def encState (s : State) (n : Fin 16) : Nat :=
  let x := s.source n
  x.st.code + x.cause * 256 + bitAt (s.clampedNow n) 12 + bitAt x.moveDir 13 + bitAt x.trackDir 14 + bitAt x.warn 15 +
    bitAt x.presetPend.isSome 16 + x.misplaceRun * 2 ^ 24

/-- A window of the ENC block. -/
def encReg (s : State) (n : Fin 16) (o : Nat) : Nat :=
  let x := s.source n
  let c := x.cfg
  let l := x.latch.getD (s.snap n)
  match o with
  | 0x000 => c.mode.code + bitAt c.filtered 3 + bitAt c.invert 4 + bitAt c.bi 5 + bitAt c.gray 6 + c.hyst * 2 ^ 16 + c.indexTol * 2 ^ 20 + c.glitch * 2 ^ 28
  | 0x004 => c.winUs
  | 0x008 => c.indexPeriod
  | 0x00C => c.indexPhase
  | 0x010 => c.serBits + c.crcWidth * 256 + bitAt c.errBit 14 + bitAt c.crcInv 15 + c.clkKhz * 65536
  | 0x014 => c.crcPoly
  | 0x018 => c.serPeriod
  | 0x01C => c.serGap
  | 0x020 => c.ackLimit
  | 0x024 => c.serLatency
  | 0x030 => encState s n
  | 0x040 => half false (s.snap n).raw.toNat
  | 0x044 => half true l.raw.toNat
  | 0x048 => half false l.mark.toNat
  | 0x04C => half true l.mark.toNat
  | 0x050 => half false l.tracked.toNat
  | 0x054 => half true l.tracked.toNat
  | 0x058 => half false l.speed.toNat
  | 0x05C => half true l.speed.toNat
  | 0x060 => half false l.tb.toNat
  | 0x064 => half true l.tb.toNat
  | 0x070 => uns 32 x.cnt.indexLast
  | 0x074 => pair16 x.cnt.misplaced x.cnt.corrected
  | 0x078 => uns 32 x.cnt.corrSum
  | 0x07C => x.cnt.warning + x.cnt.crc * 2 ^ 8 + x.cnt.timeout * 2 ^ 16 + x.cnt.glitch * 2 ^ 24
  | 0x080 => x.cnt.event.toNat
  | _ => 0

/-- QUIRE_STATE. -/
def quireState (s : State) (qi : Fin 8) : Nat :=
  let q := s.quire qi
  q.st.code + bitAt q.scan 4 + bitAt q.down 5 + bitAt q.job.isSome 6 + q.source.1 * 2 ^ 8 + q.cause * 2 ^ 12 + s.arbReq qi * 2 ^ 18 + s.arbCap qi * 2 ^ 20

/-- The 64-bit value of a QUIRE pair now. -/
def quirePair (s : State) (qi : Fin 8) (pr : QuirePair) : Nat :=
  let q := s.quire qi
  match pr with
  | .origin => q.origin.toNat
  | .cmpStart => uns 64 q.cmpStart
  | .cmpStop => uns 64 q.cmpStop
  | .next => uns 64 (s.quireNext qi)
  | .sosPos => q.sosPos.toNat
  | .sosTb => q.sosTb.toNat

/-- The number of a pair's latch, and the offset of its low half. -/
def pairNo : QuirePair → Fin 6
  | .origin => 0
  | .cmpStart => 1
  | .cmpStop => 2
  | .next => 3
  | .sosPos => 4
  | .sosTb => 5

def pairOff : QuirePair → Nat
  | .origin => 0x10
  | .cmpStart => 0x18
  | .cmpStop => 0x20
  | .next => 0x30
  | .sosPos => 0x58
  | .sosTb => 0x60

/-- The pair whose low half, or whose high half, lies at an offset. -/
def pairAt (o : Nat) : Option QuirePair := [QuirePair.origin, .cmpStart, .cmpStop, .next, .sosPos, .sosTb].find? fun p => pairOff p == o

/-- A window of the QUIRE block. -/
def quireReg (s : State) (qi : Fin 8) (o : Nat) : Nat :=
  let q := s.quire qi
  match o with
  | 0x000 => quireState s qi
  | 0x004 => q.ports.toNat
  | 0x008 => q.active.toNat
  | 0x00C => q.pitch
  | 0x028 => q.lateWin
  | 0x038 => (q.job.map (·.flight)).getD 0
  | 0x03C => (q.job.map (·.maxRate)).getD 0
  | 0x040 => min q.cnt.fired 0xFFFFFFFF
  | 0x044 => min q.cnt.late 0xFFFFFFFF
  | 0x048 => min q.cnt.skipped 0xFFFFFFFF
  | 0x04C => min q.cnt.inhibited 0xFFFFFFFF
  | 0x050 => min q.cnt.completed 65535 + min q.cnt.truncated 255 * 2 ^ 16 + min q.cnt.sosRejected 255 * 2 ^ 24
  | 0x070 => q.event.toNat
  | _ =>
    match pairAt o, pairAt (o - 4) with
    | some pr, _ => half false (quirePair s qi pr)
    | none, some pr => (look q.latches (pairNo pr)).toNat
    | none, none => 0

/-! ### SPN, CAN (10_spine.md, 11_press_bus.md) -/

/-- SPN_PORT_x. -/
def yoborReg (y : Yobor) : Nat := y.peer + bitAt y.paused 12 + y.link.code * 2 ^ 13 + min y.frameErrs 255 * 2 ^ 16 + min y.crcErrs 255 * 2 ^ 24

/-- The fault set as the root reports it: its lowest node and its size. -/
def State.spnFault (s : State) : Nat :=
  if s.isRoot then s.spr.faultSet.length + (s.spr.faultSet.foldl min (s.spr.faultSet.headD 0)) * 2 ^ 16 else 0

/-- The SPN block. -/
def spnReg (s : State) (o : Nat) : Nat :=
  let x := s.sp
  let k := fun (v : Nat) => if x.st = .alone then 0 else v
  match o with
  | 0x000 => bitAt x.treeFault 0 + bitAt x.lostDemand 1 + x.evtOut.toNat * 2 ^ 4 + x.posOut.toNat * 2 ^ 8 + x.evtIn.toNat * 2 ^ 16 + x.evtQuires.toNat * 2 ^ 24
  | 0x004 => x.posPeriod
  | 0x008 => if s.isRoot then x.latCfg else x.latBudget
  | 0x00C => pair16 x.tunnelMs x.evtSink.toNat
  | 0x010 => k x.nodeId + x.st.code * 2 ^ 12 + bitAt s.isRoot 15 + min x.depth 255 * 2 ^ 16 + 3 * 2 ^ 24 + x.spvOp * 2 ^ 28
  | 0x014 => k x.parent + k x.last * 2 ^ 12 + x.epoch * 2 ^ 24
  | 0x020 => yoborReg x.u
  | 0x024 => yoborReg x.a
  | 0x028 => yoborReg x.b
  | 0x030 => x.u.delayPs
  | 0x034 => x.a.delayPs
  | 0x038 => x.b.delayPs
  | 0x040 => x.pathP
  | 0x044 => uns 32 s.spr.syncOfsPs
  | 0x048 => pair16 s.spr.subtree s.spr.own
  | 0x04C => s.spnFault
  | 0x060 => s.spr.event.toNat
  | _ => 0

/-- CAN_PINS. FAULT_IN is the level of the wired-OR line, which this node or another pulls low (R326). Log entry 99: DESIGN CHOICE. -/
def State.canPins (s : State) : Nat :=
  bitAt s.press.stopLow 0 + bitAt s.faultRequest 1 + bitAt (!(s.faultLow || Config.faultLine s.clk)) 2 + bitAt s.rdy 3 + bitAt s.press.rdyHold 4

/-- A controller's two registers. -/
def canReg (c : Can) (o : Nat) : Nat :=
  if o = 0 then c.st.code + min c.busOffs 255 * 2 ^ 8 + min c.tec 255 * 2 ^ 16 + min c.recErr 255 * 2 ^ 24
  else if o = 4 then c.fifo.length + min c.dropped 255 * 2 ^ 8 + min c.arbLost 65535 * 2 ^ 16
  else 0

/-- The CAN block. -/
def canBlock (s : State) (o : Nat) : Nat :=
  let x := s.press
  match o with
  | 0x000 => x.station.toNat + x.idBase.toNat * 2 ^ 16
  | 0x004 => x.stopFilter + x.faultSrc.toNat * 2 ^ 8 + x.sdTx * 2 ^ 16 + x.psTimeout * 2 ^ 18
  | 0x008 => s.canPins
  | 0x010 => x.pressState + bitAt x.interlock 6 + bitAt x.timeout 7 + x.counter * 2 ^ 8 + x.speed * 2 ^ 16
  | 0x020 => x.event.toNat
  | _ => if 0x40 ≤ o ∧ o < 0x80 then canReg x.canA (o - 0x40) else if 0x80 ≤ o ∧ o < 0xC0 then canReg x.canB (o - 0x80) else 0

/-! ### Rings, MSI-X (R341 to R344, R340) -/

/-- The catchword of a ring's current pass: the expected one, or the one being written. -/
def Ring.catchNow (g : Ring) (r : Nat) : Nat := if g.st = .absent then 0 else catchword (if produced r then g.pass else g.fetchPass)

/-- A ring window. -/
def ringReg (s : State) (r : Fin 64) (o : Nat) : Nat :=
  let g := s.ring r
  match o with
  | 0x000 => half false g.base.toNat
  | 0x004 => half true g.base.toNat
  | 0x008 => g.size.toNat
  | 0x00C => g.head
  | 0x010 => g.tail
  | 0x014 => bitAt g.exists_ 0 + bitAt g.irqEn 2 + g.vector.toNat * 2 ^ 8 + g.pair.toNat * 2 ^ 16 + g.holdoff.toNat * 2 ^ 24
  | 0x018 => g.st.code + bitAt (g.exists_ && g.full) 2 + g.catchNow r.1 * 2 ^ 8 + g.haltCode * 2 ^ 16
  | 0x01C => g.dropped
  | _ => 0

/-- The MSI-X table: address low and high, data, vector control. -/
def msixReg (s : State) (o : Nat) : Nat :=
  let v := finOf 64 (by decide) (o / 16)
  if o % 16 = 12 then bitAt (look s.link.msixVMask v) 0 else (look s.link.msixTab v).toNat / 2 ^ (8 * (o % 16)) % 2 ^ 32

/-! ### Port windows (R218, R219) -/

/-- PW_STATUS of a port. -/
def pwStatus (s : State) (p : Fin 32) : Nat :=
  let x := s.port p
  x.st.code + (match s.quireOf p with
    | some q => q.1 * 2 ^ 8 + 2 ^ 11
    | none => 0) + bitAt x.link.sense.isSome 12 + bitAt (x.heater.out != 0) 13 + bitAt x.link.up 14 + bitAt (!x.prsHigh) 15 +
    min x.link.errs 255 * 2 ^ 16 + (if x.st = .fault then x.cause else 0) * 2 ^ 24

/-- The quire's value in a window: the reset value without a quire. -/
def quireView (s : State) (p : Fin 32) (f : Quire → Nat) (dflt : Nat) : Nat :=
  match s.quireOf p with
  | some q => f (s.quire q)
  | none => dflt

/-- A shadowed value of a port: the shadow bank, or the reset value while the port is CLOSED. -/
def bankView (x : Port) (f : Bank → Nat) (dflt : Nat) : Nat :=
  if x.st = .closed then dflt
  else match x.banks with
    | some b => f b.shadow
    | none => dflt

/-- A port window that shows port `p`. -/
def pwReg (s : State) (p : Fin 32) (o : Nat) : Nat :=
  let x := s.port p
  let w := x.win
  match o with
  | 0x000 => p.1 + bitAt (!(s.portIn p.1)) 5 + x.gen * 2 ^ 8 + (if x.st = .closed then 0 else (x.profile.map (·.model)).getD 0) * 2 ^ 16
  | 0x004 =>
    let c := w.ctrlDue.getD (w.armClear, w.htrOff)
    bitAt c.2 1 + bitAt c.1 2
  | 0x008 => pwStatus s p
  | 0x010 => w.line.toNat
  | 0x018 => quireView s p (fun q => half false (uns 64 q.cmpStart)) 0
  | 0x01C => quireView s p (fun q => half true (uns 64 q.cmpStart)) 0
  | 0x020 => quireView s p (fun q => half false (uns 64 q.cmpStop)) 0
  | 0x024 => quireView s p (fun q => half true (uns 64 q.cmpStop)) 0x7FFFFFFF
  | 0x028 => quireView s p (fun q => q.lateWin) 0
  | 0x030 => pair16 w.demand w.fill
  | 0x034 => w.psFill
  | 0x038 => w.ttu
  | 0x040 => pair16 (uns 16 w.tempT1) (uns 16 w.tempT0)
  | 0x044 => bankView x (fun b => b.cap) 7
  | 0x048 => pair16 w.satLines w.nozOut
  | 0x050 => w.event.toNat
  | 0x054 => w.eventEn.toNat
  | _ => if 0x060 ≤ o ∧ o < 0x080 then bankView x (fun b => uns 16 (look b.frac (finOf 8 (by decide) ((o - 0x060) / 4)))) 0 else 0

/-- A port window: zeros when it selects a fused-off port (R218). -/
def winReg (s : State) (w : Win) (o : Nat) : Nat :=
  match s.winPort w with
  | some p => pwReg s p o
  | none => 0

/-! ### All of BAR 0 -/

/-- What a 4-byte read at an offset returns. Log entry 22: DEDUCED. Log entry 82: DEDUCED. -/
def readReg (s : State) (off : Nat) : Nat :=
  let o := off % 0x1000
  if off % 4 ≠ 0 then 0
  else match blockOf off with
  | none => 0
  | some .glb => glbReg s o
  | some .rst => rstReg s o
  | some .otp => otpReg s o
  | some .thm => thmReg s o
  | some .enc => encReg s (finOf 16 (by decide) (o / 0x400)) (o % 0x400)
  | some .quire => quireReg s (quireNo (o / 0x200)) (o % 0x200)
  | some .spn => spnReg s o
  | some .can => canBlock s o
  | some .mgt => mgtReg s o
  | some .ring => ringReg s (ringNo (o / 0x40)) (o % 0x40)
  | some .pwa => winReg s .a o
  | some .pwb => winReg s .b o
  | some .msix => msixReg s o
  | some .pba => half (o == 4) s.link.msixPend.toNat

end Sys2Proof.Machine
end

