-- ==== Sys2Proof/Machine/Regs.lean ====
section
/-! DEFINITION. Host accesses to BAR 0: writes by their access codes, reads with a side effect (00_scope.md R6, R7; 01_architecture.md R26,
R29; 02_position.md R74; 07_head_ports.md R218, R219; 12_host_rings.md R338, R340). -/

namespace Sys2Proof.Machine

/-- Bits written 1 are cleared (RW1C, R6). -/
def rw1c {n : Nat} (old : BitVec n) (v : U32) : BitVec n := old &&& ~~~(v.setWidth n)

/-! ### Writes block by block; a register that is read-only or reserved takes no write -/

/-- GLB_PSEL_A or _B: a fused-off port sets GLB_ERR.PSEL_ABSENT (R218). -/
def pselWrite (w : Win) (v : U32) (s : State) : State :=
  let port : BitVec 5 := v.setWidth 5
  let b := v.getLsbD 31
  let t := { s with glb := match w with
    | .a => { s.glb with pselA := port, bcastA := b }
    | .b => { s.glb with pselB := port, bcastB := b } }
  if s.partPorts ≤ port.toNat then glbErr t 0 else t

def glbWrite (o : Nat) (v : U32) (s : State) : State :=
  match o with
  | 0x014 => irqPorts { s with glb := { s.glb with irqMask := v } }
  | 0x020 => { s with glb := { s.glb with err := rw1c s.glb.err v } }
  | 0x040 => pselWrite .a v s
  | 0x044 => pselWrite .b v s
  | _ => s

def rstWrite (o : Nat) (v : U32) (s : State) : State :=
  match o with
  | 0x000 => { s with rst := { s.rst with cause := rw1c s.rst.cause v } }
  | 0x010 => { s with rst := { s.rst with scratch := v.extractLsb' 16 16, vbatPor := s.rst.vbatPor && !(v.getLsbD 0) } }
  | _ => s

def otpWrite (o : Nat) (v : U32) (s : State) : State := if o = 0x004 then lockSet s (v.extractLsb' 0 8) (v.extractLsb' 8 8) else s

def thmWrite (o : Nat) (v : U32) (s : State) : State :=
  if o = 0x0B0 then { s with th := { s.th with event := rw1c s.th.event v } } else s

def encWrite (n : Fin 16) (o : Nat) (v : U32) (s : State) : State :=
  if o = 0x080 then s.modSrc n fun x => { x with cnt := { x.cnt with event := rw1c x.cnt.event v } } else s

def quireWrite (q : Fin 8) (o : Nat) (v : U32) (s : State) : State :=
  if o = 0x070 then s.modQuire q fun x => { x with event := rw1c x.event v } else s

def spnWrite (o : Nat) (v : U32) (s : State) : State :=
  if o = 0x060 then { s with spr := { s.spr with event := rw1c s.spr.event v } } else s

def canWrite (o : Nat) (v : U32) (s : State) : State :=
  match o with
  | 0x008 => { s with press := { s.press with rdyHold := v.getLsbD 4 } }
  | 0x020 => { s with press := { s.press with event := rw1c s.press.event v } }
  | _ => s

/-- A ring window (R341, R342). -/
def ringWrite (r : Fin 64) (o : Nat) (v : U32) (s : State) : State :=
  match o with
  | 0x000 => ringCfgWrite s r fun g => { g with base := g.base.extractLsb' 32 32 ++ v }
  | 0x004 => ringCfgWrite s r fun g => { g with base := v ++ g.base.extractLsb' 0 32 }
  | 0x008 => ringCfgWrite s r fun g => { g with size := v.setWidth 17 }
  | 0x00C => ringHeadWrite r v s
  | 0x010 => ringTailWrite r v s
  | 0x014 => ringCtrlWrite r v s
  | _ => s

/-- PW_EVENT or PW_EVENT_EN of every port that the window's write reaches; the port interrupt follows (R340). -/
def winEventWrite (w : Win) (s : State) (f : Window → Window) : State :=
  irqPorts ((s.winTargets w).foldl (fun t p => t.modPort p fun x => { x with win := f x.win }) s)

/-- A port window. A PW_CTRL write with RETRAIN set trains links, as the row PW_CTRL_RETRAIN does. -/
def winWrite (w : Win) (o : Nat) (v : U32) (s : State) : State :=
  match o with
  | 0x004 => if v.getLsbD 0 then retrain w v s else pwCtrlWrite s w v
  | 0x018 => pwCmpLow w .start v s
  | 0x01C => pwCmpStartHigh w v s
  | 0x020 => pwCmpLow w .stop v s
  | 0x024 => pwCmpStopHigh w v s
  | 0x028 => pwLateWin w v s
  | 0x044 => pwShadow w 0x44 v s
  | 0x050 => winEventWrite w s fun x => { x with event := rw1c x.event v }
  | 0x054 => winEventWrite w s fun x => { x with eventEn := v.setWidth 12 }
  | _ => if 0x060 ≤ o ∧ o < 0x080 then pwShadow w o v s else s

/-- The MSI-X table; a pending message goes out when its vector is unmasked (R340). -/
def msixWrite (o : Nat) (v : U32) (s : State) : State :=
  let n := finOf 64 (by decide) (o / 16)
  let l := s.link
  if o % 16 = 12 then deliverMsix { s with link := { l with msixVMask := upd l.msixVMask n fun _ => v.getLsbD 0 } }
  else
    let sh := 8 * (o % 16)
    { s with link := { l with msixTab := upd l.msixTab n fun e => e &&& ~~~(0xFFFFFFFF#96 <<< sh) ||| (v.setWidth 96 <<< sh) } }

/-- REGISTER_WRITE; an offset that no block defines, or that is not aligned, sets GLB_ERR.ACCESS (R338). Log entry 80: DESIGN CHOICE. -/
def registerWrite (off : BitVec 24) (v : U32) (s : State) : State :=
  let o := off.toNat % 0x1000
  if off.toNat % 4 ≠ 0 then glbErr s 3
  else match blockOf off.toNat with
  | none => glbErr s 3
  | some .glb => glbWrite o v s
  | some .rst => rstWrite o v s
  | some .otp => otpWrite o v s
  | some .thm => thmWrite o v s
  | some .enc => encWrite (finOf 16 (by decide) (o / 0x400)) (o % 0x400) v s
  | some .quire => quireWrite (quireNo (o / 0x200)) (o % 0x200) v s
  | some .spn => spnWrite o v s
  | some .can => canWrite o v s
  | some .mgt => s
  | some .ring => ringWrite (ringNo (o / 0x40)) (o % 0x40) v s
  | some .pwa => winWrite .a o v s
  | some .pwb => winWrite .b o v s
  | some .msix => msixWrite o v s
  | some .pba => s

/-! ### Accesses that break R338 -/

/-- An access that BAR 0 accepts: four bytes, aligned, in a block; or eight, in the MSI-X structures. Log entry 22: DEDUCED.
Log entry 78: DESIGN CHOICE. -/
def accessOk (off size : Nat) : Bool :=
  (size == 4 && off % 4 == 0 && (blockOf off).isSome) ||
  (size == 8 && off % 8 == 0 && (blockOf off == some .msix || blockOf off == some .pba))

/-- An aligned 8-byte access to the MSI-X structures: both halves, the low one first. -/
def wideAccess (write : Bool) (off : Nat) (v : BitVec 64) (s : State) : State :=
  if write then
    if blockOf off = some .msix then msixWrite (off % 0x1000 + 4) (v.extractLsb' 32 32) (msixWrite (off % 0x1000) (v.extractLsb' 0 32) s) else s
  else (s.emit (.readData off (BitVec.ofNat 32 (readReg s off)))).emit (.readData (off + 4) (BitVec.ofNat 32 (readReg s (off + 4))))

/-- BAR_ACCESS_INVALID, an access other than of four aligned bytes: no effect but GLB_ERR.ACCESS, and a read returns 0; or an 8-byte access
that the MSI-X structures accept. Log entry 78: DESIGN CHOICE. -/
def barAccessInvalid (write : Bool) (off : BitVec 24) (size : Nat) (v : BitVec 64) (s : State) : State :=
  if accessOk off.toNat size then (if size = 8 then wideAccess write off.toNat v s else s)
  else
    let t := glbErr s 3
    if write then t else t.emit (.readData off.toNat 0)

/-! ### Reads with a side effect -/

/-- Answer a read. Log entry 82: DEDUCED. -/
def answer (s : State) (off v : Nat) : State := s.emit (.readData off (BitVec.ofNat 32 v))

/-- The offset of a port window. -/
def winBase : Win → Nat
  | .a => 0x20000
  | .b => 0x21000

/-- PW_STATUS_READ: earlier writes into TIME and PORT have taken effect, as every write of the model has when it returns.
Log entry 80: DESIGN CHOICE. -/
def pwStatusRead (w : Win) (s : State) : State := answer s (winBase w + 8) (winReg s w 8)

/-- ENC_RAW_LO_READ: one instant is latched into the other snapshot registers. -/
def encRawLoRead (n : Fin 4) (s : State) : State :=
  let m := srcNo n.1
  let x := s.snap m
  answer (s.modSrc m fun y => { y with latch := some x }) (0x4000 + 0x400 * n.1 + 0x40) (half false x.raw.toNat)

/-- QUIRE_LOW_HALF_READ: the high half is latched. -/
def quireLowHalfRead (q : Fin 8) (pr : QuirePair) (s : State) : State :=
  let v := quirePair s q pr
  answer (s.modQuire q fun x => { x with latches := upd x.latches (pairNo pr) fun _ => BitVec.ofNat 32 (half true v) })
    (0x5000 + 0x200 * q.1 + pairOff pr) (half false v)

/-- GLB_TB_LO_READ: the high half of the timebase is latched. -/
def glbTbLoRead (s : State) : State :=
  answer { s with glb := { s.glb with tbHi := BitVec.ofNat 32 (half true s.ns) } } 0x18 (half false s.ns)

/-! ### Meanings of the rows -/

/-- REGISTER_WRITE (R6). -/
def execRegisterWrite (off : BitVec 24) (v : U32) (s : State) : Host.Outcome State Fault Refusal := .next (registerWrite off v s)

/-- BAR_ACCESS_INVALID (R338). -/
def execBarAccessInvalid (write : Bool) (off : BitVec 24) (a : Access) (s : State) : Host.Outcome State Fault Refusal :=
  .next (barAccessInvalid write off a.size a.value s)

/-- PW_STATUS_READ (R29). -/
def execPwStatusRead (w : Win) (s : State) : Host.Outcome State Fault Refusal := .next (pwStatusRead w s)

/-- ENC_RAW_LO_READ (R74). -/
def execEncRawLoRead (n : Fin 4) (s : State) : Host.Outcome State Fault Refusal := .next (encRawLoRead n s)

/-- QUIRE_LOW_HALF_READ (R74). -/
def execQuireLowHalfRead (q : Fin 8) (pr : QuirePair) (s : State) : Host.Outcome State Fault Refusal := .next (quireLowHalfRead q pr s)

/-- GLB_TB_LO_READ (R74). -/
def execGlbTbLoRead (s : State) : Host.Outcome State Fault Refusal := .next (glbTbLoRead s)

end Sys2Proof.Machine
end

