-- ==== Sys2Proof/Machine/SpineEnum.lean ====
section
/-! DEFINITION. Enumeration of the spine tree, node states that follow from it, and the spine commands (10_spine.md R292 to R295, R307,
R311 to R314). -/

namespace Sys2Proof.Machine

/-! ### Enumeration (R292, R293) -/

/-- The enumeration on this node changes. -/
def State.modEnum (s : State) (f : Enum → Enum) : State := { s with sp := { s.sp with enum := s.sp.enum.map f } }

/-- Enumeration begins on a node that has just taken its ID. What the node knows of its subtrees stays until each is enumerated anew: printing,
time, stops and position relay continue throughout (R312), and so do routing, demand and the fault set. -/
def startEnum (s : State) (id depth epoch : Nat) : State :=
  { s with sp := { s.sp with
      st := .joining, nodeId := id, depth := depth, epoch := epoch, last := id,
      enum := some { sp := .a, next := id + 1, assigned := none, sentAt := 0, refused := 0, tooDeep := false, version := false, timedOut := 0,
                     nodes := 1, spvMin := 3, spvMinId := id, bigP := s.sp.pathP, wasSynced := s.sp.st == .synced } } }

/-- PROBE goes to the down port in progress. -/
def sendProbe (s : State) (sp : SpPort) : State :=
  sendLink (s.modEnum fun e => { e with sp := sp, assigned := none, sentAt := s.clk }) sp 5
    ([1, BitVec.ofNat 8 s.sp.epoch, BitVec.ofNat 8 s.sp.spvOp, 0] ++ le 2 s.sp.nodeId ++ [0, 0] ++ le 4 s.sp.latBudget ++ le 4 s.sp.pathP)

/-- RESULT of SPINE_ENUMERATE (R312). -/
def enumRes (s : State) (e : Enum) : Nat :=
  e.nodes + (e.next - 1) * 2 ^ 16 + s.sp.spvOp * 2 ^ 32 + s.sp.epoch * 2 ^ 40 + min e.refused 255 * 2 ^ 48 + min e.timedOut 255 * 2 ^ 56

/-- The status of SPINE_ENUMERATE (R312). -/
def enumStatus (e : Enum) : Nat :=
  if e.tooDeep then stSpineTooDeep else if e.version then stSpineVersion else if e.timedOut ≠ 0 then stOkPartial else stOk

/-- SPINE_VERSION_HOLD at the end of an enumeration (R307, R310). -/
def versionHold (s : State) (e : Enum) : State :=
  let hold := decide (s.sp.spvOp < 3)
  let ev := fun (t : State) (phase : Nat) =>
    raise (spnEvent t 2) evVersionHold kDevice 0 (if phase = 0 then 1 else 0)
      ([BitVec.ofNat 8 t.sp.spvOp, 3, BitVec.ofNat 8 phase, 0] ++ le 2 (if phase = 0 then e.spvMinId else 0))
  let s1 := { s with sp := { s.sp with held := hold } }
  if hold then ev s1 0 else if s.sp.held then ev s1 1 else s1

/-- The last down port is done (R295): the root completes the command and sends SYNC; another node sends DONE. -/
def enumEnd (s : State) (e : Enum) : State :=
  let last := e.next - 1
  let st := if s.isRoot || e.wasSynced then SpState.synced else .member
  let s1 := spnEvent { s with sp := { s.sp with st := st, last := last, nodes := e.nodes, enum := none },
                              spr := { s.spr with syncAt := s.clk, syncRun := 0 } } 8
  if s.isRoot then
    let s2 := versionHold (setSpvOp { s1 with spr := { s1.spr with faultSet := s1.spr.faultSet.filter fun i => decide (i ≤ last) } } e.spvMin) e
    let s3 := sendSync (updateDemand (faultEdge s2))
    endAll s3 (fun x => x.wait == .enumerate) (enumStatus e) (enumRes s3 e)
  else
    updateDemand (sendLink s1 .u 5 ([4, BitVec.ofNat 8 s.sp.epoch, BitVec.ofNat 8 e.spvMin, 0] ++ le 2 last ++ le 2 e.nodes ++ le 4 e.bigP ++
      [BitVec.ofNat 8 (min e.refused 255), BitVec.ofNat 8 (min e.timedOut 255)] ++ le 2 e.spvMinId))

/-- Enumerate SPNB, or end. A port that is not UP has no subtree in the tree. -/
def enumB (s : State) : State :=
  if s.sp.b.link = .up then sendProbe s .b
  else match s.sp.enum with
    | some e => enumEnd (noMember s .b) e
    | none => s

/-- Enumerate SPNA, or go on with SPNB. -/
def enumA (s : State) : State := if s.sp.a.link = .up then sendProbe s .a else enumB (noMember s .a)

/-- The port in progress is done: the next one. -/
def enumNext (s : State) : State :=
  match s.sp.enum with
  | none => s
  | some e =>
    match e.sp with
    | .a => enumB s
    | .u | .b => enumEnd s e

/-- The port in progress, if the enumeration waits for this one. -/
def State.enumOn (s : State) (sp : SpPort) : Option Enum :=
  match s.sp.enum with
  | some e => if e.sp = sp then some e else none
  | none => none

/-- The port counts as timed out; the ID it may have been given is free again. Log entry 68: DEDUCED. -/
def enumTimedOut (s : State) (sp : SpPort) : State :=
  match s.enumOn sp with
  | none => s
  | some _ => enumNext ((noMember s sp).modEnum fun x => { x with timedOut := x.timedOut + 1, next := x.assigned.getD x.next, assigned := none })

/-- A port that leaves UP during its own enumeration counts as timed out. Log entry 68: DEDUCED. -/
def afterLink (s0 s1 : State) (sp : SpPort) : State :=
  if (s0.yobor sp).link = .up ∧ (s1.yobor sp).link ≠ .up then enumTimedOut s1 sp else s1

/-- ENU_PROBE_RX: a node in any state answers on SPNU. -/
def enuProbeRx (sp : SpPort) (c : Cell) (s : State) : State :=
  if sp ≠ .u then s
  else cellIn s sp c 5 fun t =>
    if cellAt c 8 1 ≠ 1 then t
    else
      let p := cellAt c 20 4 + ceilDiv t.sp.u.delayPs 1000 + 64
      let op := cellAt c 10 1
      let ep := BitVec.ofNat 8 (cellAt c 9 1)
      let t1 := { t with sp := { t.sp with parent := cellAt c 12 2 % 4096, parentP := cellAt c 20 4, pathP := p, latBudget := cellAt c 16 4 } }
      let refuse_ := fun (reason : Nat) => sendLink t1 .u 5 ([5, ep, BitVec.ofNat 8 reason, 0] ++ le 4 p)
      if cellAt c 16 4 < p then refuse_ 1
      else if op < 2 ∨ 3 < op then refuse_ 2
      else sendLink t1 .u 5 [2, ep, 0x32]

/-- ENU_REPLY_RX: ASSIGN with the next free ID, or nothing when the ID space is used up. The SPV_MAX that counts for the tree is that of DONE,
which covers the child itself: a child that is lost before has no part in it (R307). -/
def enuReplyRx (sp : SpPort) (c : Cell) (s : State) : State :=
  cellIn s sp c 5 fun t =>
    match t.enumOn sp with
    | none => t
    | some e =>
      if cellAt c 8 1 ≠ 2 || e.assigned.isSome || cellAt c 9 1 != t.sp.epoch then t
      else if 0xFFF ≤ e.next then enumTimedOut t sp
      else
        let t1 := t.modEnum fun x => { x with assigned := some x.next }
        sendLink t1 sp 5 ([3, BitVec.ofNat 8 t.sp.epoch, BitVec.ofNat 8 t.sp.spvOp, BitVec.ofNat 8 (min (t.sp.depth + 1) 255)] ++ le 2 e.next)

/-- ENU_ASSIGN_RX: the node takes its ID and enumerates its down ports. -/
def enuAssignRx (sp : SpPort) (c : Cell) (s : State) : State :=
  if sp ≠ .u || s.isRoot || s.sp.st == .joining then s
  else cellIn s sp c 5 fun t =>
    if cellAt c 8 1 ≠ 3 then t
    else
      let t1 := setSpvOp { t with spr := { t.spr with firstSync := t.spr.firstSync || t.sp.st == .alone } } (cellAt c 10 1 % 16)
      enumA (startEnum t1 (cellAt c 12 2 % 4096) (cellAt c 11 1) (cellAt c 9 1))

/-- ENU_DONE_RX: the child's range is known, and enumeration goes on behind it. Its refused ports count as too deep: DONE carries no
reason. Log entry 68: DEDUCED. -/
def enuDoneRx (sp : SpPort) (c : Cell) (s : State) : State :=
  cellIn s sp c 5 fun t =>
    match t.enumOn sp with
    | none => t
    | some e =>
      match e.assigned with
      | none => t
      | some id =>
        if cellAt c 8 1 ≠ 4 || cellAt c 9 1 != t.sp.epoch then t
        else
          let last := cellAt c 12 2 % 4096
          let spv := cellAt c 10 1
          let t1 := t.modYobor sp fun y => { y with
            lo := id, hi := last, dmd := if y.childLost then none else y.dmd, dmdAt := t.clk, childLost := false }
          enumNext (t1.modEnum fun x => { x with
            next := last + 1, assigned := none, nodes := x.nodes + cellAt c 14 2, refused := x.refused + cellAt c 20 1,
            tooDeep := x.tooDeep || cellAt c 20 1 != 0, timedOut := x.timedOut + cellAt c 21 1, bigP := max x.bigP (cellAt c 16 4),
            spvMinId := if spv < x.spvMin then cellAt c 22 2 % 4096 else x.spvMinId, spvMin := min spv x.spvMin })

/-- ENU_REFUSE_RX: the port is REFUSED. -/
def enuRefuseRx (sp : SpPort) (c : Cell) (s : State) : State :=
  cellIn s sp c 5 fun t =>
    match t.enumOn sp with
    | none => t
    | some e =>
      if cellAt c 8 1 ≠ 5 || e.assigned.isSome then t
      else
        let t1 := noMember (leaveUp t sp .refused 3) sp
        enumNext (t1.modEnum fun x => { x with
          refused := x.refused + 1, tooDeep := x.tooDeep || cellAt c 10 1 == 1, version := x.version || cellAt c 10 1 == 2 })

/-- ENU_PROBE_TIMEOUT: no answer within 2 ms. -/
def enuProbeTimeout (sp : SpPort) (s : State) : State :=
  match s.enumOn sp with
  | none => s
  | some e => if e.assigned.isSome then s else enumTimedOut (s.advanceTo (e.sentAt + 2 * msPh)) sp

/-! ### Commands (R311 to R314) -/

/-- SPINE_CONFIG acts. -/
def setSpine (s : State) (p : Params) : State :=
  let f := fld p 8 1
  updateDemand (faultEdge { s with sp := { s.sp with
    treeFault := bit f 0, lostDemand := bit f 1, evtOut := BitVec.ofNat 3 (fld p 9 1), evtQuires := BitVec.ofNat 8 (fld p 10 1),
    evtIn := BitVec.ofNat 8 (fld p 11 1), posOut := BitVec.ofNat 4 (fld p 12 1), posPeriod := fld p 14 2,
    latCfg := if s.isRoot then fld p 16 4 else s.sp.latCfg, evtSink := BitVec.ofNat 12 (fld p 20 2), tunnelMs := fld p 24 4 } })

/-- SPINE_CONFIG. -/
def spineConfig (h : CmdHdr) (p : Params) (s : State) : State :=
  plainCmd 0x0901 h p s [(8, 1), (9, 1), (10, 1), (11, 1), (12, 1), (14, 2), (16, 4), (20, 2), (24, 4)]
    [(rsv (fld p 8 1) 0x03 || rsv (fld p 9 1) 0x07 || rsv (fld p 12 1) 0x0F || (!s.isRoot && fld p 16 4 != 0), stBadParam),
     (out (fld p 14 2) 128 4096 || (s.isRoot && out (fld p 16 4) 500 12000) || decide (0xFFE < fld p 20 2) || out (fld p 24 4) 1 60000, stRange)]
    (fun t => setSpine t p)

/-- SPINE_ENUMERATE acts: a new EPOCH, ID 1, depth 0, and LAT_BUDGET as configured. -/
def enumerateTree (s : State) (h : CmdHdr) (p : Params) : State :=
  let s1 := beginExec s 0x0902 h p .enumerate 0
  let s2 := { s1 with sp := { s1.sp with latBudget := s1.sp.latCfg, pathP := 0, parent := 0, parentP := 0 } }
  enumA (startEnum s2 1 0 (epochAfter s2.sp.epoch))

/-- SPINE_ENUMERATE. -/
def spineEnumerate (h : CmdHdr) (p : Params) (s : State) : State :=
  command 0x0902 h p s [] [(!s.isRoot, stBadState), (s.sp.st == .joining, stBusy)]
    (fun t => complete t h stOk 0) (fun t => enumerateTree t h p)

/-- The record of SPINE_QUERY. -/
def spineRecord (s : State) : Bytes :=
  let x := s.sp
  let k := fun (v : Nat) => if x.st = .alone then 0 else v
  recBytes [(1, x.st.code), (1, min x.depth 255), (1, 16 * x.spvOp + 3), (1, x.epoch), (2, k x.nodeId), (2, k x.last), (2, k x.nodes),
    (2, k x.parent), (1, x.u.link.code), (1, x.a.link.code), (1, x.b.link.code), (1, 0), (2, x.u.peer), (2, x.a.peer), (2, x.b.peer), (2, 0),
    (4, x.u.delayPs), (4, x.a.delayPs), (4, x.b.delayPs), (4, x.pathP), (4, uns 32 s.spr.syncOfsPs), (2, s.spr.own), (2, s.spr.subtree),
    (2, s.spr.limiter), (1, s.spr.reason), (1, 0), (4, x.u.crcErrs), (4, x.a.crcErrs), (4, x.b.crcErrs)]

/-- SPINE_QUERY. -/
def spineQuery (h : CmdHdr) (p : Params) (s : State) : State :=
  let addr := fld p 16 8
  reportCmd 0x0903 h p s [(16, 8)] (addrChecks s h addr 64) addr spineRecord (fun t => t.sp.st.code + 2 ^ 16 * t.sp.nodeId)

/-- REMOTE_ENC_BIND. -/
def remoteEncBind (h : CmdHdr) (p : Params) (s : State) : State :=
  let n := srcNo (fld p 8 1)
  let unbind := bit (fld p 9 1) 0
  plainCmd 0x0904 h p s [(8, 1), (9, 1), (10, 2), (12, 1)]
    [(rsv (fld p 9 1) 0x01 || (unbind && (fld p 10 2 != 0 || fld p 12 1 != 0)), stBadParam),
     (out (fld p 8 1) 4 15 || (!unbind && out (fld p 10 2) 1 0xFFE) || decide (3 < fld p 12 1), stRange), (s.srcBusy n, stBadState),
     (!unbind && s.sp.nodeId != 0 && fld p 10 2 == s.sp.nodeId, stBadParam)]
    (fun t => (holdTracked t n).modSrc n fun x =>
      if unbind then { x with st := .disabled, cause := 0, bound := none, copy := none, base := none, speed := 0 }
      else { x with st := .acquiring, cause := 0, bound := some (fld p 10 2, fld p 12 1), copy := none, base := none, speed := 0, cellAt := t.clk })

/-! ### Meanings of the rows -/

/-- BLOCK_LOCK_LOST (R284). -/
def execBlockLockLost (sp : SpPort) (errors : Bool) (s : State) : Host.Outcome State Fault Refusal :=
  .next (afterLink s (blockLockLost sp errors s) sp)

/-- PEER_SILENT (R284). -/
def execPeerSilent (sp : SpPort) (s : State) : Host.Outcome State Fault Refusal := .next (afterLink s (peerSilent sp s) sp)

/-- HELLO_RX (R291). -/
def execHelloRx (sp : SpPort) (x : HelloSeen) (s : State) : Host.Outcome State Fault Refusal :=
  .next (afterLink s (helloRx sp x.cell x.blocks s) sp)

/-- ENU_PROBE_RX (R293). -/
def execEnuProbeRx (sp : SpPort) (cell : Cell) (s : State) : Host.Outcome State Fault Refusal := .next (enuProbeRx sp cell s)

/-- ENU_REPLY_RX (R292). -/
def execEnuReplyRx (sp : SpPort) (cell : Cell) (s : State) : Host.Outcome State Fault Refusal := .next (enuReplyRx sp cell s)

/-- ENU_ASSIGN_RX (R295). -/
def execEnuAssignRx (sp : SpPort) (cell : Cell) (s : State) : Host.Outcome State Fault Refusal := .next (enuAssignRx sp cell s)

/-- ENU_DONE_RX (R292). -/
def execEnuDoneRx (sp : SpPort) (cell : Cell) (s : State) : Host.Outcome State Fault Refusal := .next (enuDoneRx sp cell s)

/-- ENU_REFUSE_RX (R293). -/
def execEnuRefuseRx (sp : SpPort) (cell : Cell) (s : State) : Host.Outcome State Fault Refusal := .next (enuRefuseRx sp cell s)

/-- ENU_PROBE_TIMEOUT (R292). -/
def execEnuProbeTimeout (sp : SpPort) (s : State) : Host.Outcome State Fault Refusal := .next (enuProbeTimeout sp s)

/-- SPINE_CONFIG (R311). -/
def execSpineConfig (h : CmdHdr) (p : Params) (s : State) : Host.Outcome State Fault Refusal := .next (spineConfig h p s)

/-- SPINE_ENUMERATE (R312). -/
def execSpineEnumerate (h : CmdHdr) (p : Params) (s : State) : Host.Outcome State Fault Refusal := .next (spineEnumerate h p s)

/-- SPINE_QUERY (R313). -/
def execSpineQuery (h : CmdHdr) (p : Params) (s : State) : Host.Outcome State Fault Refusal := .next (spineQuery h p s)

/-- REMOTE_ENC_BIND (R314). -/
def execRemoteEncBind (h : CmdHdr) (p : Params) (s : State) : Host.Outcome State Fault Refusal := .next (remoteEncBind h p s)

end Sys2Proof.Machine
end

