-- ==== Sys2Proof/Machine/Supply.lean ====
section
/-! DEFINITION. The write-safe comparators and the VPP pin (09_thermal_supply.md R275, R276, R277; 15_otp_trust.md R429). -/

namespace Sys2Proof.Machine

/-- A head-memory write has a page under way, or waits with data written. -/
def headWriting (s : State) : Bool := (idx 32).any fun p => (s.port p).hm.any fun j => j.write && j.sent.isSome

/-- Byte 5 of SYS_SUPPLY_LOW: 1 an OTP pulse, 2 a flash write, 3 a head-memory write, 0 none. Log entry 57: DEDUCED. -/
def operationCut (s : State) : Nat :=
  if s.otp.job.isSome then 1 else if s.flash.job.isSome then 2 else if headWriting s then 3 else 0

/-- The number of a comparator in SYS_SUPPLY_LOW. -/
def comparatorNo : Comparator → Nat
  | .vdd => 0
  | .vddio18 => 1
  | .vpp => 2

/-- WRITE_SAFE has fallen to 0: it is counted and reported, an OTP operation is cut short, a flash write pauses, and head-memory pages
not started are refused. Log entry 57: DEDUCED. -/
def writeSafeFall (s : State) (who mv : Nat) : State :=
  let cut := operationCut s
  let s1 := supplyEvent { s with th := { s.th with wsLowCount := sat32 s.th.wsLowCount 1, event := s.th.event ||| 0x20 } } 0 who mv 0 cut
  let s2 := otpSupplyLow s1
  let s3 := if s2.flash.job.isSome then { s2 with flash := { s2.flash with pausedAt := some s2.clk } } else s2
  forAll s3 pumpHead

/-- WRITE_SAFE is 1 again: a paused flash write goes on. -/
def writeSafeRise (s : State) (who mv : Nat) : State :=
  supplyEvent { s with flash := { s.flash with pausedAt := none } } 0 who mv 1 0

/-- What follows when WRITE_SAFE differs from what it was. During a reset only the live bits move. -/
def writeSafeEdge (before : Bool) (s : State) (who mv : Nat) : State :=
  if s.inReset || before == s.writeSafe then s else if before then writeSafeFall s who mv else writeSafeRise s who mv

/-- A comparator's output. -/
def setComparator (s : State) (c : Comparator) (high : Bool) : State :=
  match c with
  | .vdd => { s with th := { s.th with wsVdd := high } }
  | .vddio18 => { s with th := { s.th with wsVddio := high } }
  | .vpp => { s with th := { s.th with wsVpp := high } }

/-- WRITE_SAFE_CHANGE. Log entry 57: DEDUCED. -/
def writeSafeChange (c : Comparator) (high : Bool) (mv : Nat) (s : State) : State :=
  writeSafeEdge s.writeSafe (setComparator s c high) (comparatorNo c) mv

/-- VPP_PRESENCE_CHANGE: the comparator of VPP counts only while VPP is present. The row measures no voltage: bytes 2 and 3 hold the
last value of channel 18. Log entry 56: DEDUCED. -/
def vppPresenceChange (present : Bool) (s : State) : State :=
  writeSafeEdge s.writeSafe { s with th := { s.th with vppPresent := present } } 2 (look s.th.supply 18)

/-- WRITE_SAFE_CHANGE (R275). -/
def execWriteSafeChange (c : Comparator) (high : Bool) (mv : Nat) (s : State) : Host.Outcome State Fault Refusal :=
  .next (writeSafeChange c high mv s)

/-- VPP_PRESENCE_CHANGE (R275). -/
def execVppPresenceChange (present : Bool) (s : State) : Host.Outcome State Fault Refusal := .next (vppPresenceChange present s)

end Sys2Proof.Machine
end

