-- ==== Sys2Proof/Machine/Wave.lean ====
section
/-! DEFINITION. The waveform loads: WAVE_LOAD, LEVEL_MAP_LOAD, WAVE_TCOMP_LOAD, and LEVEL_MAP_TRANSFER (06_waveforms.md R174, R175, R183,
R188, R192 to R195; 07_head_ports.md R206). -/

namespace Sys2Proof.Machine

/-- The segments that WAVE_LOAD gives (R175). -/
def segsOf (p : Params) : List (Nat × Nat) := (List.range (fld p 28 1)).map fun i => (fld p (32 + 4 * i) 2, fld p (34 + 4 * i) 2)

/-- Segments break R175 for a slot of `n` samples: `from_` is the end of the segment before. -/
def segsBad (n : Nat) : Nat → List (Nat × Nat) → Bool
  | _, [] => false
  | from_, (a, b) :: t => decide (a < from_) || decide (b ≤ a) || decide (n < b) || segsBad n b t

/-- A pair from SEGS on is not zero. -/
def unusedSegs (p : Params) : Bool := (List.range 8).any fun i => decide (fld p 28 1 ≤ i) && fld p (32 + 4 * i) 4 != 0

/-- A span of samples overlaps a defined slot other than `slot` (R174). -/
def overlaps (c : Channel) (slot start n : Nat) : Bool :=
  c.slots.any fun w => w.1 != slot && decide (start < w.2.start + w.2.samples) && decide (w.2.start < start + n)

/-- A load must leave the slot alone: it is in the live set of a port that is ARMED, PRINTING or DRAINING (R188). -/
def slotHeld (x : Port) (c : Chan) (slot : Nat) : Bool :=
  x.st.busy && (match x.banks with
    | some b => (b.live.chan c).slots.contains slot
    | none => false)

/-- Samples by index in canonical form: rising, none equal to 0; `i` is the index of the first new one. -/
def putSamples (mem : List (Nat × Int)) : Nat → List Int → List (Nat × Int)
  | _, [] => mem
  | i, v :: t => putSamples (if v = 0 then assocDel i mem else assocSet i v mem) (i + 1) t

/-- The checks that WAVE_LOAD passes before its data is read. -/
def waveChecks (s : State) (h : CmdHdr) (p : Params) : List (Bool × Nat) :=
  let x := s.port (portNo (fld p 8 1))
  let c := chanOf (fld p 9 1)
  let free := bit (fld p 11 1) 1
  let n := fld p 14 2
  let addr := fld p 16 8
  let len := fld p 24 4
  [(rsv (fld p 11 1) 0x03 || (free && p.toNat / 2 ^ 32 != 0) || (!free && unusedSegs p), stBadParam),
   (portBad s (fld p 8 1) || decide (1 < fld p 9 1) || decide (15 < fld p 10 1) ||
     (!free && (decide (16368 < fld p 12 2) || out n 16 4096 || decide (16384 < fld p 12 2 + n) || out (fld p 28 1) 1 8 ||
       wrongLen h len (up64 (n * 2)) || beyond s h addr len || overlaps (x.chan c) (fld p 10 1) (fld p 12 2) n)), stRange),
   (!free && (misaddr h addr || mislen h len), stAlign), (decide (x.st = .closed), stBadState),
   (slotHeld x c (fld p 10 1), stBusy), (!free && segsBad n 0 (segsOf p), stBadParam)]

/-- WAVE_LOAD; FREE needs no host data. -/
def waveLoad (h : CmdHdr) (p : Params) (s : State) : State :=
  let fields := [(8, 1), (9, 1), (10, 1), (11, 1), (12, 2), (14, 2), (16, 8), (24, 4), (28, 1), (32, 32)]
  if bit (fld p 11 1) 1 then
    plainCmd 0x0501 h p s fields (waveChecks s h p) fun t =>
      measureData (t.modPort (portNo (fld p 8 1)) fun x => x.modChan (chanOf (fld p 9 1)) fun c =>
        { c with slots := assocDel (fld p 10 1) c.slots }) 7 [fld p 8 1, fld p 9 1, fld p 10 1] []
  else readCmd 0x0501 h p s fields (waveChecks s h p) (fld p 16 8) (fld p 24 4) (bit (fld p 11 1) 0)

/-- The samples of a load. -/
def samplesIn (n : Nat) (data : Bytes) : List Int := (u16s n data).map (sgn 16)

/-- The data of a WAVE_LOAD has arrived: the first and last sample must be 0, and the slot must still be free to change. -/
def waveDone (s : State) (e : Exec) (data : Bytes) : State :=
  let r := portNo (fld e.p 8 1)
  let c := chanOf (fld e.p 9 1)
  let n := fld e.p 14 2
  let ys := samplesIn n data
  let slot : Slot := { start := fld e.p 12 2, samples := n, segs := segsOf e.p }
  dataDone s e
    [(decide ((s.port r).st = .closed), stBadState), (slotHeld (s.port r) c (fld e.p 10 1), stBusy),
     (decide (ys.head? ≠ some 0) || decide (ys.getLast? ≠ some 0), stBadParam)] 0 fun t =>
    endExec (measureData (t.modPort r fun x => x.modChan c fun z =>
      { z with mem := putSamples z.mem slot.start ys,
               hurt := z.hurt.filter fun i => !(decide (slot.start ≤ i ∧ i < slot.start + n)), slots := assocSet (fld e.p 10 1) slot z.slots }) 7
      [fld e.p 8 1, fld e.p 9 1, fld e.p 10 1] data) e stOk 0

/-- LEVEL_MAP_LOAD. -/
def levelMapLoad (h : CmdHdr) (p : Params) (s : State) : State :=
  let r := portNo (fld p 8 1)
  let top := topLevel (s.port r).depth
  command 0x0502 h p s [(8, 1), (9, 1), (10, 1), (12, 8)]
    [(portBad s (fld p 8 1) || decide (1 < fld p 9 1) || (decide (15 < fld p 10 1) && fld p 10 1 != 0xFF), stRange),
     (decide ((s.port r).st = .closed), stBadState),
     ((List.range 8).any fun i => decide (top < i) && fld p (12 + i) 1 != 0, stBadParam)]
    (fun t => complete t h stOk 0) (fun t => shadowNow t r 0x0502 h p)

/-- WAVE_TCOMP_LOAD. -/
def waveTcompLoad (h : CmdHdr) (p : Params) (s : State) : State :=
  let r := portNo (fld p 8 1)
  let addr := fld p 16 8
  let len := fld p 24 4
  readCmd 0x0503 h p s [(8, 1), (9, 1), (10, 1), (11, 1), (12, 2), (14, 2), (16, 8), (24, 4), (28, 1)]
    [(decide (2 < fld p 11 1) || rsv (fld p 28 1) 0x01, stBadParam),
     (portBad s (fld p 8 1) || decide (1 < fld p 9 1) || out (fld p 10 1) 1 8 || decide (320 < fld p 12 2) || wrongLen h len 64 ||
       beyond s h addr len, stRange),
     (misaddr h addr || mislen h len, stAlign), (decide ((s.port r).st = .closed), stBadState)] addr len (bit (fld p 28 1) 0)

/-- T_START does not increase strictly. -/
def startsBad : List TEntry → Bool
  | a :: b :: t => decide (b.tStart ≤ a.tStart) || startsBad (b :: t)
  | _ => false

/-- The data of a WAVE_TCOMP_LOAD has arrived. -/
def tcompDone (s : State) (e : Exec) (data : Bytes) : State :=
  let n := fld e.p 10 1
  let es := (List.range n).map (tentryOf data)
  let lastBad := match es.getLast? with
    | some x => x.g0 != x.g1
    | none => false
  loadDone s e data
    [((List.range n).any fun i => rdAt data (8 * i + 3) 1 != 0, stBadParam),
     (es.any fun x => decide (x.tStart < -640) || decide (2400 < x.tStart) || decide (15 < x.slot), stRange),
     (startsBad es || lastBad, stBadParam)]

/-- New shadow rows go into the head's other map bank between the events of lines: not while a swap that would select it is pending, and
not while a line still uses that bank (R206). -/
def levelMapTransfer (p : Fin 32) (c : Chan) (s : State) : State :=
  let x := s.port p
  let swaps := match x.banks with
    | some b => b.pend
    | none => true
  if (x.chan c).mapDue && !swaps && (x.st = .idle || x.st.busy) && x.lines.all (fun l => l.mapBank == x.link.mapBank) then sendMap s p c
  else s

/-! ### Meanings of the rows -/

/-- WAVE_LOAD (R193). -/
def execWaveLoad (h : CmdHdr) (p : Params) (s : State) : Host.Outcome State Fault Refusal := .next (waveLoad h p s)

/-- LEVEL_MAP_LOAD (R194). -/
def execLevelMapLoad (h : CmdHdr) (p : Params) (s : State) : Host.Outcome State Fault Refusal := .next (levelMapLoad h p s)

/-- WAVE_TCOMP_LOAD (R195). -/
def execWaveTcompLoad (h : CmdHdr) (p : Params) (s : State) : Host.Outcome State Fault Refusal := .next (waveTcompLoad h p s)

/-- LEVEL_MAP_TRANSFER (R206). -/
def execLevelMapTransfer (p : Fin 32) (c : Chan) (s : State) : Host.Outcome State Fault Refusal := .next (levelMapTransfer p c s)

end Sys2Proof.Machine
end

