-- ==== Sys2Proof/Machine/Transfer.lean ====
section
/-! DEFINITION. Transfers from and to host memory come to an end: done, over the tunnel, or failed (10_spine.md R305; 12_host_rings.md R350,
R353; 13_commands_events.md R372). -/

namespace Sys2Proof.Machine

/-! ### A command's transfer (R372) -/

/-- The host data of an executing command is complete. -/
def finishRead (s : State) (e : Exec) (data : Bytes) : State :=
  match e.op with
  | 0x0206 => headmemWriteDone s e data
  | 0x0208 => profileDone s e data
  | 0x0501 => waveDone s e data
  | 0x0503 => tcompDone s e data
  | 0x0601 => tileDone s e false data
  | 0x0602 => nucDone s e data
  | 0x0603 => delayDone s e data
  | 0x0604 => tileDone s e true data
  | 0x0701 => nozMapDone s e data
  | 0x0704 => learnLoaded s e data
  | 0x0C01 => fwStaged s e data
  | 0x0E01 => loopbackDone s e data
  | 0x0F03 => pageFillDone s e data
  | _ => s

/-- The host data a command reads: what its transfer brings, or the staging window's bytes for a command over MCTP (R441). Every command
that reads host data has its address in bytes 16 to 23. -/
def hostData (s : State) (e : Exec) (data : Bytes) : Bytes :=
  match e.h.src with
  | .mctp _ => s.mgt.sram.bytes (fld e.p 16 8) e.need
  | .ring _ | .tunnel _ _ | .lost => data

/-- The transfer of an executing command is done: its data is at hand, or its output is written and it completes with the RESULT it keeps. -/
def execTransferred (s : State) (e : Exec) (data : Bytes) : State :=
  if e.need ≠ 0 then finishRead s e (hostData s e data) else endExec s e stOk (rdLE e.data)

/-- The executing command of an id whose transfer this node makes itself. -/
def ownTransfer (s : State) (id : Nat) : Option Exec :=
  s.execs.find? fun e => e.id == id && e.wait == .dma && (match e.h.src with
    | .tunnel _ _ => false
    | .ring _ | .mctp _ | .lost => true)

/-- A read that this node makes for another node's command, by the number of its transfer. -/
def relayOf (s : State) (id : Nat) : Option MgtPart := s.spr.parts.find? fun m => m.kind == 3 && m.nextSeg == id

/-- DMA_TRANSFER_DONE. Log entry 81: DESIGN CHOICE. -/
def dmaTransferDone (id : Nat) (data : Bytes) (s : State) : State :=
  match ownTransfer s id, s.gdma.find? fun g => g.2.2 == id, relayOf s id with
  | some e, _, _ => execTransferred s e data
  | none, some g, _ => gdmaDone s (ringNo g.1) g.2.1 data
  | none, none, some m => relayRead s m data
  | none, none, none => s

/-! ### Transfers of a tunnelled command (R305) -/

/-- The executing command that entry node `n` has sent under a TTAG, while it waits for a transfer. -/
def tunnelTransfer (s : State) (c : Cell) : Option Exec :=
  s.execs.find? fun e => e.wait == .dma && e.h.src == .tunnel (BitVec.ofNat 12 (cellSrc c)) (BitVec.ofNat 16 (cellAt c 10 2))

/-- MGT_RD_DATA_RX: segments come in order, in pieces of 4,096 bytes, until all that the command reads is there. -/
def mgtRdDataRx (sp : SpPort) (c : Cell) (s : State) : State :=
  mgtIn sp c 4 s fun t =>
    match tunnelTransfer t c with
    | none => t
    | some e =>
      let data := e.data ++ segBytes c
      if e.need = 0 ∨ cellAt c 9 1 ≠ e.data.length % 4096 / 16 then t
      else if e.need ≤ data.length then finishRead t e (data.take e.need)
      else t.modExec e.id fun x => { x with data := data }

/-- MGT_WR_ACK_RX: a failure ends the command; the last acknowledgement of its output completes it. Log entry 17: DEDUCED. -/
def mgtWrAckRx (sp : SpPort) (c : Cell) (s : State) : State :=
  mgtIn sp c 7 s fun t =>
    match tunnelTransfer t c with
    | none => t
    | some e =>
      if rdAt (segBytes c) 0 2 ≠ stOk then cutExec t e
      else if e.need ≠ 0 then t
      else if e.acks ≤ 1 then endExec t e stOk (rdLE e.data)
      else t.modExec e.id fun x => { x with acks := x.acks - 1 }

/-! ### DMA_FAULT (R350) -/

/-- A failed entry read halts the ring and consumes nothing. -/
def entryReadFails (s : State) (r : Fin 64) : State :=
  haltRing (s.modRing r fun g => { g with rereads := 0 }) r stAborted

/-- The BAND of a port whose data is being read from host memory. -/
def DataPath.reading (d : DataPath) : Option Desc :=
  d.descs.find? fun x => x.kind == 1 && !x.staged && !x.retired && !x.ringless && decide (x.decoded < x.count)

/-- A failed band read: the descriptor completes with ABORTED whatever NOTIFY says, its undelivered lines are missing data, and the ring
halts. Its entry is consumed in ring order (log entry 30). DEDUCED. -/
def bandReadFails (s : State) (p : Fin 32) : State :=
  match (s.port p).dat.reading with
  | none => s
  | some d =>
    let r := ringNo p.1
    let dead : Desc := { d with decoded := d.count, notify := false }
    let t := haltRing (writeCpl s r d.tag.toNat stAborted s.sp.nodeId d.firedN false) r stAborted
    retireReady (t.modPort p fun x => { x with dat := { x.dat.put dead with nextJ := max x.dat.nextJ d.endJ } }) p

/-- A failed general DMA transfer: ABORTED, and the ring halts. How much was moved is open; the span of a region is undefined
(log entry 8). -/
def gdmaFails (s : State) (r : Fin 64) : State :=
  match s.gdma.find? fun g => g.1 == r.1 with
  | none => s
  | some g =>
    let moved := (Config.freeValue s.draws).toNat % (gdmaField g.2.1 12 4 + 1)
    haltRing (gdmaOver (cutGdma s.draw g) r g.2.1 stAborted moved) r stAborted

/-- A completion or event entry is lost. Log entry 74: DEDUCED. -/
def entryWriteFails (s : State) (r : Fin 64) : State :=
  if produced r.1 && (s.ring r).exists_ then s.modRing r fun g => { g with dropped := sat32 g.dropped 1 } else s

/-- What a failed request does to whatever it was for. Log entry 30: DEDUCED. -/
def transferFault (s : State) (t : DmaTarget) : State :=
  match t with
  | .command id =>
    match ownTransfer s id, relayOf s id with
    | some e, _ => cutExec s e
    | none, some m => transferFails (dropPart s fun x => x.kind == 3 && x.nextSeg == id) m.src m.ttag
    | none, none => s
  | .entryRead r => entryReadFails s r
  | .imageData p => bandReadFails s p
  | .gdmaData c => gdmaFails s (ringNo (56 + c.1))
  | .entryWrite r => entryWriteFails s r

/-- DMA_FAULT. -/
def dmaFault (t : DmaTarget) (s : State) : State :=
  transferFault (glbErr { s with cnt := { s.cnt with dmaFaults := sat32 s.cnt.dmaFaults 1 } } 4) t

/-! ### Meanings of the rows -/

/-- DMA_TRANSFER_DONE (R372). -/
def execDmaTransferDone (id : Nat) (data : Bytes) (s : State) : Host.Outcome State Fault Refusal := .next (dmaTransferDone id data s)

/-- MGT_RD_DATA_RX (R305). -/
def execMgtRdDataRx (sp : SpPort) (cell : Cell) (s : State) : Host.Outcome State Fault Refusal := .next (mgtRdDataRx sp cell s)

/-- MGT_WR_ACK_RX (R305). -/
def execMgtWrAckRx (sp : SpPort) (cell : Cell) (s : State) : Host.Outcome State Fault Refusal := .next (mgtWrAckRx sp cell s)

/-- DMA_FAULT (R350). -/
def execDmaFault (t : DmaTarget) (s : State) : Host.Outcome State Fault Refusal := .next (dmaFault t s)

end Sys2Proof.Machine
end

