-- ==== Sys2Proof/Machine/Dispatch.lean ====
section
/-! DEFINITION. One arm per command or happening of the table, each one call of its meaning. -/

namespace Sys2Proof.Machine

/-- The effect of a command or happening on everything but the queue. Log entry 3: DESIGN CHOICE. -/
def exec (i : Instr) (s : State) : Host.Outcome State Fault Refusal :=
  match i with
  | .nop h p => Sys2Proof.Machine.execNop h p s
  | .getInfo h p => Sys2Proof.Machine.execGetInfo h p s
  | .setProfile h p => Sys2Proof.Machine.execSetProfile h p s
  | .selfReset h p => Sys2Proof.Machine.execSelfReset h p s
  | .setTime h p => Sys2Proof.Machine.execSetTime h p s
  | .getCounters h p => Sys2Proof.Machine.execGetCounters h p s
  | .ringCreate h p => Sys2Proof.Machine.execRingCreate h p s
  | .ringDestroy h p => Sys2Proof.Machine.execRingDestroy h p s
  | .ringResume h p => Sys2Proof.Machine.execRingResume h p s
  | .portOpen h p => Sys2Proof.Machine.execPortOpen h p s
  | .portClose h p => Sys2Proof.Machine.execPortClose h p s
  | .portConfig h p => Sys2Proof.Machine.execPortConfig h p s
  | .portQuery h p => Sys2Proof.Machine.execPortQuery h p s
  | .headmemRead h p => Sys2Proof.Machine.execHeadmemRead h p s
  | .headmemWrite h p => Sys2Proof.Machine.execHeadmemWrite h p s
  | .heaterSet h p => Sys2Proof.Machine.execHeaterSet h p s
  | .headProfileLoad h p => Sys2Proof.Machine.execHeadProfileLoad h p s
  | .encConfig h p => Sys2Proof.Machine.execEncConfig h p s
  | .encQuery h p => Sys2Proof.Machine.execEncQuery h p s
  | .encPreset h p => Sys2Proof.Machine.execEncPreset h p s
  | .quireBind h p => Sys2Proof.Machine.execQuireBind h p s
  | .sosConfig h p => Sys2Proof.Machine.execSosConfig h p s
  | .jobDefine h p => Sys2Proof.Machine.execJobDefine h p s
  | .jobArm h p => Sys2Proof.Machine.execJobArm h p s
  | .jobStop h p => Sys2Proof.Machine.execJobStop h p s
  | .jobAbort h p => Sys2Proof.Machine.execJobAbort h p s
  | .jobQuery h p => Sys2Proof.Machine.execJobQuery h p s
  | .demandConfig h p => Sys2Proof.Machine.execDemandConfig h p s
  | .tableCommit h p => Sys2Proof.Machine.execTableCommit h p s
  | .waveLoad h p => Sys2Proof.Machine.execWaveLoad h p s
  | .levelMapLoad h p => Sys2Proof.Machine.execLevelMapLoad h p s
  | .waveTcompLoad h p => Sys2Proof.Machine.execWaveTcompLoad h p s
  | .fireOffsetSet h p => Sys2Proof.Machine.execFireOffsetSet h p s
  | .screenLoad h p => Sys2Proof.Machine.execScreenLoad h p s
  | .nucLoad h p => Sys2Proof.Machine.execNucLoad h p s
  | .delayLoad h p => Sys2Proof.Machine.execDelayLoad h p s
  | .maskLoad h p => Sys2Proof.Machine.execMaskLoad h p s
  | .stitchConfig h p => Sys2Proof.Machine.execStitchConfig h p s
  | .deckleSet h p => Sys2Proof.Machine.execDeckleSet h p s
  | .nozMapSet h p => Sys2Proof.Machine.execNozMapSet h p s
  | .nozMapGet h p => Sys2Proof.Machine.execNozMapGet h p s
  | .rvsConfig h p => Sys2Proof.Machine.execRvsConfig h p s
  | .rvsLearn h p => Sys2Proof.Machine.execRvsLearn h p s
  | .compConfig h p => Sys2Proof.Machine.execCompConfig h p s
  | .wearQuery h p => Sys2Proof.Machine.execWearQuery h p s
  | .thermLimits h p => Sys2Proof.Machine.execThermLimits h p s
  | .thermQuery h p => Sys2Proof.Machine.execThermQuery h p s
  | .sensorSubstitute h p => Sys2Proof.Machine.execSensorSubstitute h p s
  | .supplyQuery h p => Sys2Proof.Machine.execSupplyQuery h p s
  | .spineConfig h p => Sys2Proof.Machine.execSpineConfig h p s
  | .spineEnumerate h p => Sys2Proof.Machine.execSpineEnumerate h p s
  | .spineQuery h p => Sys2Proof.Machine.execSpineQuery h p s
  | .remoteEncBind h p => Sys2Proof.Machine.execRemoteEncBind h p s
  | .busConfig h p => Sys2Proof.Machine.execBusConfig h p s
  | .busFilter h p => Sys2Proof.Machine.execBusFilter h p s
  | .busSend h p => Sys2Proof.Machine.execBusSend h p s
  | .busQuery h p => Sys2Proof.Machine.execBusQuery h p s
  | .otpRead h p => Sys2Proof.Machine.execOtpRead h p s
  | .otpProgram h p => Sys2Proof.Machine.execOtpProgram h p s
  | .otpSeal h p => Sys2Proof.Machine.execOtpSeal h p s
  | .otpMarginCheck h p => Sys2Proof.Machine.execOtpMarginCheck h p s
  | .otpLock h p => Sys2Proof.Machine.execOtpLock h p s
  | .fwStage h p => Sys2Proof.Machine.execFwStage h p s
  | .fwVerify h p => Sys2Proof.Machine.execFwVerify h p s
  | .fwActivate h p => Sys2Proof.Machine.execFwActivate h p s
  | .fwQuery h p => Sys2Proof.Machine.execFwQuery h p s
  | .colophonRead h p => Sys2Proof.Machine.execColophonRead h p s
  | .colophonLog h p => Sys2Proof.Machine.execColophonLog h p s
  | .loopback h p => Sys2Proof.Machine.execLoopback h p s
  | .testPattern h p => Sys2Proof.Machine.execTestPattern h p s
  | .eventConfig h p => Sys2Proof.Machine.execEventConfig h p s
  | .backgroundConfig h p => Sys2Proof.Machine.execBackgroundConfig h p s
  | .pageAlloc h p => Sys2Proof.Machine.execPageAlloc h p s
  | .pageFree h p => Sys2Proof.Machine.execPageFree h p s
  | .pageFill h p => Sys2Proof.Machine.execPageFill h p s
  | .pageQuery h p => Sys2Proof.Machine.execPageQuery h p s
  | .registerWrite off v => Sys2Proof.Machine.execRegisterWrite off v s
  | .barAccessInvalid write off a => Sys2Proof.Machine.execBarAccessInvalid write off a s
  | .ringCtrlEnable r v => Sys2Proof.Machine.execRingCtrlEnable r v s
  | .ringCtrlResume r v => Sys2Proof.Machine.execRingCtrlResume r v s
  | .ringTailDoorbell r v => Sys2Proof.Machine.execRingTailDoorbell r v s
  | .ringHeadReturn r v => Sys2Proof.Machine.execRingHeadReturn r v s
  | .ringTailRead r => Sys2Proof.Machine.execRingTailRead r s
  | .pwStatusRead w => Sys2Proof.Machine.execPwStatusRead w s
  | .pwCmpLowWrite w c v => Sys2Proof.Machine.execPwCmpLowWrite w c v s
  | .pwCmpStartHighWrite w v => Sys2Proof.Machine.execPwCmpStartHighWrite w v s
  | .pwCmpStopHighWrite w v => Sys2Proof.Machine.execPwCmpStopHighWrite w v s
  | .pwLateWinWrite w v => Sys2Proof.Machine.execPwLateWinWrite w v s
  | .pwFracOfsWrite w n v => Sys2Proof.Machine.execPwFracOfsWrite w n v s
  | .pwLevelCapWrite w v => Sys2Proof.Machine.execPwLevelCapWrite w v s
  | .pwCtrlRetrain w htrOff armClear => Sys2Proof.Machine.execPwCtrlRetrain w htrOff armClear s
  | .encRawLoRead n => Sys2Proof.Machine.execEncRawLoRead n s
  | .quireLowHalfRead q pr => Sys2Proof.Machine.execQuireLowHalfRead q pr s
  | .glbTbLoRead => Sys2Proof.Machine.execGlbTbLoRead s
  | .mgtMeasW0Read n => Sys2Proof.Machine.execMgtMeasW0Read n s
  | .encoderEdge n ch level x clash => Sys2Proof.Machine.execEncoderEdge n ch level x clash s
  | .indexEdge n level x => Sys2Proof.Machine.execIndexEdge n level x s
  | .serialFrameStart n idle => Sys2Proof.Machine.execSerialFrameStart n idle s
  | .serialFrameEnd n f => Sys2Proof.Machine.execSerialFrameEnd n f s
  | .encStall n => Sys2Proof.Machine.execEncStall n s
  | .remoteLost n => Sys2Proof.Machine.execRemoteLost n s
  | .lineDue p => Sys2Proof.Machine.execLineDue p s
  | .lineDecision p => Sys2Proof.Machine.execLineDecision p s
  | .headLatch p badWords => Sys2Proof.Machine.execHeadLatch p badWords s
  | .playbackStart p c eccBad => Sys2Proof.Machine.execPlaybackStart p c eccBad s
  | .playbackEnd p c => Sys2Proof.Machine.execPlaybackEnd p c s
  | .probeCaptureEnd p samples => Sys2Proof.Machine.execProbeCaptureEnd p samples s
  | .sosEdge n rising held => Sys2Proof.Machine.execSosEdge n rising held s
  | .arbiterRequest src sc k => Sys2Proof.Machine.execArbiterRequest src sc k s
  | .arbiterWithdraw src sc => Sys2Proof.Machine.execArbiterWithdraw src sc s
  | .bankSwap q => Sys2Proof.Machine.execBankSwap q s
  | .shadowCopy p => Sys2Proof.Machine.execShadowCopy p s
  | .quireDrainEnd q => Sys2Proof.Machine.execQuireDrainEnd q s
  | .portDrainEnd p => Sys2Proof.Machine.execPortDrainEnd p s
  | .imageDescFetch p entry => Sys2Proof.Machine.execImageDescFetch p entry s
  | .bandStaged p data => Sys2Proof.Machine.execBandStaged p data s
  | .descRetire p => Sys2Proof.Machine.execDescRetire p s
  | .lineDecode p data read => Sys2Proof.Machine.execLineDecode p data read s
  | .lineScreen p => Sys2Proof.Machine.execLineScreen p s
  | .tapRefresh p => Sys2Proof.Machine.execTapRefresh p s
  | .demandEval => Sys2Proof.Machine.execDemandEval s
  | .pageTrainingDone ok rate gib => Sys2Proof.Machine.execPageTrainingDone ok rate gib s
  | .gdmaDescFetch c entry => Sys2Proof.Machine.execGdmaDescFetch c entry s
  | .cmdFetch c entry => Sys2Proof.Machine.execCmdFetch c entry s
  | .catchwordReread r entry => Sys2Proof.Machine.execCatchwordReread r entry s
  | .dmaFault t => Sys2Proof.Machine.execDmaFault t s
  | .ringCloseDone r => Sys2Proof.Machine.execRingCloseDone r s
  | .msixHoldoffEnd r => Sys2Proof.Machine.execMsixHoldoffEnd r s
  | .telemetrySnapshot => Sys2Proof.Machine.execTelemetrySnapshot s
  | .hostReset c => Sys2Proof.Machine.execHostReset c s
  | .d3hotEntry => Sys2Proof.Machine.execD3hotEntry s
  | .d0Return => Sys2Proof.Machine.execD0Return s
  | .pcieLinkUp gen width x => Sys2Proof.Machine.execPcieLinkUp gen width x s
  | .headPresenceChange p x => Sys2Proof.Machine.execHeadPresenceChange p x s
  | .portBringupDone p till => Sys2Proof.Machine.execPortBringupDone p till s
  | .backChannelStatus p frame => Sys2Proof.Machine.execBackChannelStatus p frame s
  | .headmemReply p head data crc => Sys2Proof.Machine.execHeadmemReply p head data crc s
  | .linkLost p => Sys2Proof.Machine.execLinkLost p s
  | .linkBlockEnd p => Sys2Proof.Machine.execLinkBlockEnd p s
  | .levelMapTransfer p c => Sys2Proof.Machine.execLevelMapTransfer p c s
  | .learnTimeLimit p => Sys2Proof.Machine.execLearnTimeLimit p s
  | .learnSwap p => Sys2Proof.Machine.execLearnSwap p s
  | .monitorReset p => Sys2Proof.Machine.execMonitorReset p s
  | .wearCommitPeriodic p => Sys2Proof.Machine.execWearCommitPeriodic p s
  | .hkRoundEnd rd => Sys2Proof.Machine.execHkRoundEnd rd s
  | .thermalShutdown die => Sys2Proof.Machine.execThermalShutdown die s
  | .writeSafeChange c high mv => Sys2Proof.Machine.execWriteSafeChange c high mv s
  | .blockLockAcquired sp => Sys2Proof.Machine.execBlockLockAcquired sp s
  | .blockLockLost sp errors => Sys2Proof.Machine.execBlockLockLost sp errors s
  | .peerSilent sp => Sys2Proof.Machine.execPeerSilent sp s
  | .helloTx sp => Sys2Proof.Machine.execHelloTx sp s
  | .helloRx sp x => Sys2Proof.Machine.execHelloRx sp x s
  | .cellFramingError sp => Sys2Proof.Machine.execCellFramingError sp s
  | .flowXoffRx sp => Sys2Proof.Machine.execFlowXoffRx sp s
  | .flowXonRx sp => Sys2Proof.Machine.execFlowXonRx sp s
  | .evtCellRx sp cell => Sys2Proof.Machine.execEvtCellRx sp cell s
  | .syncTx => Sys2Proof.Machine.execSyncTx s
  | .syncRx sp cell => Sys2Proof.Machine.execSyncRx sp cell s
  | .syncLoss => Sys2Proof.Machine.execSyncLoss s
  | .delayReqTx => Sys2Proof.Machine.execDelayReqTx s
  | .delayReqRx sp cell turn => Sys2Proof.Machine.execDelayReqRx sp cell turn s
  | .delayRespRx sp cell rtt => Sys2Proof.Machine.execDelayRespRx sp cell rtt s
  | .posPublish n => Sys2Proof.Machine.execPosPublish n s
  | .posCellRx sp cell => Sys2Proof.Machine.execPosCellRx sp cell s
  | .dmdTx => Sys2Proof.Machine.execDmdTx s
  | .dmdRx sp cell => Sys2Proof.Machine.execDmdRx sp cell s
  | .childLost sp => Sys2Proof.Machine.execChildLost sp s
  | .mgtCmdRx sp cell => Sys2Proof.Machine.execMgtCmdRx sp cell s
  | .mgtCplRx sp cell => Sys2Proof.Machine.execMgtCplRx sp cell s
  | .mgtEvtRx sp cell => Sys2Proof.Machine.execMgtEvtRx sp cell s
  | .mgtRdReqRx sp cell => Sys2Proof.Machine.execMgtRdReqRx sp cell s
  | .mgtRdDataRx sp cell => Sys2Proof.Machine.execMgtRdDataRx sp cell s
  | .mgtWrReqRx sp cell => Sys2Proof.Machine.execMgtWrReqRx sp cell s
  | .mgtWrDataRx sp cell => Sys2Proof.Machine.execMgtWrDataRx sp cell s
  | .mgtWrAckRx sp cell => Sys2Proof.Machine.execMgtWrAckRx sp cell s
  | .tunnelTimeout ttag => Sys2Proof.Machine.execTunnelTimeout ttag s
  | .enuProbeRx sp cell => Sys2Proof.Machine.execEnuProbeRx sp cell s
  | .enuReplyRx sp cell => Sys2Proof.Machine.execEnuReplyRx sp cell s
  | .enuAssignRx sp cell => Sys2Proof.Machine.execEnuAssignRx sp cell s
  | .enuDoneRx sp cell => Sys2Proof.Machine.execEnuDoneRx sp cell s
  | .enuRefuseRx sp cell => Sys2Proof.Machine.execEnuRefuseRx sp cell s
  | .enuProbeTimeout sp => Sys2Proof.Machine.execEnuProbeTimeout sp s
  | .canFrameRx c x => Sys2Proof.Machine.execCanFrameRx c x s
  | .pressStateTimeout => Sys2Proof.Machine.execPressStateTimeout s
  | .busOffEntry c tec rec => Sys2Proof.Machine.execBusOffEntry c tec rec s
  | .busOffRecovery c => Sys2Proof.Machine.execBusOffRecovery c s
  | .speedDemandTx => Sys2Proof.Machine.execSpeedDemandTx s
  | .statusTx => Sys2Proof.Machine.execStatusTx s
  | .heartbeatTx => Sys2Proof.Machine.execHeartbeatTx s
  | .canTxDone x => Sys2Proof.Machine.execCanTxDone x s
  | .busSendTimeout id => Sys2Proof.Machine.execBusSendTimeout id s
  | .stopNAccepted => Sys2Proof.Machine.execStopNAccepted s
  | .stopNReleased => Sys2Proof.Machine.execStopNReleased s
  | .spdDemPeriod => Sys2Proof.Machine.execSpdDemPeriod s
  | .vbatPowerOn => Sys2Proof.Machine.execVbatPowerOn s
  | .corePor => Sys2Proof.Machine.execCorePor s
  | .pinReset => Sys2Proof.Machine.execPinReset s
  | .watchdogExpiry => Sys2Proof.Machine.execWatchdogExpiry s
  | .selfResetDrive => Sys2Proof.Machine.execSelfResetDrive s
  | .selfDriveEnd => Sys2Proof.Machine.execSelfDriveEnd s
  | .resetSourceRelease src => Sys2Proof.Machine.execResetSourceRelease src s
  | .fuseLoadDone refOk => Sys2Proof.Machine.execFuseLoadDone refOk s
  | .stretchEnd pinHigh straps testEn => Sys2Proof.Machine.execStretchEnd pinHigh straps testEn s
  | .pllLock => Sys2Proof.Machine.execPllLock s
  | .spnuClockLock => Sys2Proof.Machine.execSpnuClockLock s
  | .mainFirmwareReady => Sys2Proof.Machine.execMainFirmwareReady s
  | .otpMarginRecheck aged => Sys2Proof.Machine.execOtpMarginRecheck aged s
  | .scrubStep loc bad => Sys2Proof.Machine.execScrubStep loc bad s
  | .dacCalibration p c => Sys2Proof.Machine.execDacCalibration p c s
  | .senseAdcCalibration p => Sys2Proof.Machine.execSenseAdcCalibration p s
  | .jtagDebugAttach => Sys2Proof.Machine.execJtagDebugAttach s
  | .setEndpointId b op eid => Sys2Proof.Machine.execSetEndpointId b op eid s
  | .getEndpointId b => Sys2Proof.Machine.execGetEndpointId b s
  | .getMctpVersionSupport b msgType => Sys2Proof.Machine.execGetMctpVersionSupport b msgType s
  | .getMessageTypeSupport b => Sys2Proof.Machine.execGetMessageTypeSupport b s
  | .mctpCmd b entry => Sys2Proof.Machine.execMctpCmd b entry s
  | .mctpDataWr b ofs data => Sys2Proof.Machine.execMctpDataWr b ofs data s
  | .mctpDataRd b ofs len => Sys2Proof.Machine.execMctpDataRd b ofs len s
  | .getVersion b req => Sys2Proof.Machine.execGetVersion b req s
  | .getCapabilities b req => Sys2Proof.Machine.execGetCapabilities b req s
  | .negotiateAlgorithms b req => Sys2Proof.Machine.execNegotiateAlgorithms b req s
  | .getDigests b req => Sys2Proof.Machine.execGetDigests b req s
  | .getCertificate b req => Sys2Proof.Machine.execGetCertificate b req s
  | .challenge b req => Sys2Proof.Machine.execChallenge b req s
  | .getMeasurements b req => Sys2Proof.Machine.execGetMeasurements b req s
  | .spdmUnsupportedRequest b req => Sys2Proof.Machine.execSpdmUnsupportedRequest b req s
  | .dmaTransferDone id data => Sys2Proof.Machine.execDmaTransferDone id data s
  | .headI2cTransferDone p ack data => Sys2Proof.Machine.execHeadI2cTransferDone p ack data s
  | .otpPulseEnd blown weak => Sys2Proof.Machine.execOtpPulseEnd blown weak s
  | .flashWriteDone ok => Sys2Proof.Machine.execFlashWriteDone ok s
  | .flashPauseTimeout => Sys2Proof.Machine.execFlashPauseTimeout s
  | .vppPresenceChange present => Sys2Proof.Machine.execVppPresenceChange present s

end Sys2Proof.Machine
end

