-- ==== Sys2Proof/Machine/Idle.lean ====
section
/-! DEFINITION. What the block does when no command or happening is pending: it starts the first waiting command that may
start (R368), or lets one phase of 250 ps pass (log entries 1 and 14). -/

namespace Sys2Proof.Machine

/-- Run a waiting command of this node that has left the list. -/
def runWaiting (w : Waiting) (s : State) : Host.Outcome State Fault Refusal :=
  match Sys2Proof.commandOf w.op w.h w.p with
  | none => .next (refuse s w.h stBadOpcode)
  | some i =>
    if w.bad then .next (refuse s w.h stBadParam)
    else match exec i { s with resuming := true } with
      | .next t => .next { t with resuming := false }
      | .fault f => .fault f
      | .refused r => .refused r

/-- Start a waiting command that has left the list: here, through the tunnel, or on every node of the tree (R373, R374). -/
def startWaiting (w : Waiting) (s : State) : Host.Outcome State Fault Refusal :=
  if w.remote then .next (startRemote w s)
  else if w.target = 0xFFF then
    match bcastBad s w with
    | 0 => runWaiting w (if s.rootOfTree then bcastOut s w else s)
    | st + 1 => .next (refuse s w.h (st + 1))
  else runWaiting w s

/-- One step without a pending command. Log entry 14: DESIGN CHOICE. Log entry 1: DESIGN CHOICE. -/
def idle (s : State) : Host.Outcome State Fault Refusal :=
  if s.cores then
    match nextStart s [] s.waiting with
    | some (w, rest) => startWaiting w { s with waiting := rest }
    | none => .next (s.advance 1)
  else .next (s.advance 1)

end Sys2Proof.Machine
end

