-- ==== Sys2Proof/Safety.lean ====
section
/-! DEFINITION. What the statements about this block are made of: the canonical form of its memories, the commands by their opcode, when a
command starts at once, the part of the state that reporting leaves alone, and what is never taken back. -/

namespace Sys2Proof.Machine

/-- The control SRAM window and every page-store region are in canonical form. -/
def State.memoriesWf (s : State) : Bool :=
  s.mgt.sram.wf && s.page.regions.all fun r => r.2.mem.wf

/-- The opcode, header and parameters of a command entry that stands at the front of the queue (R362, R375); none for a register access or
a happening. -/
def opcodeOf : Instr → Option (Nat × CmdHdr × Params)
  | .nop h p => some (0x0001, h, p)
  | .getInfo h p => some (0x0002, h, p)
  | .setProfile h p => some (0x0003, h, p)
  | .selfReset h p => some (0x0004, h, p)
  | .setTime h p => some (0x0005, h, p)
  | .getCounters h p => some (0x0006, h, p)
  | .ringCreate h p => some (0x0101, h, p)
  | .ringDestroy h p => some (0x0102, h, p)
  | .ringResume h p => some (0x0103, h, p)
  | .portOpen h p => some (0x0201, h, p)
  | .portClose h p => some (0x0202, h, p)
  | .portConfig h p => some (0x0203, h, p)
  | .portQuery h p => some (0x0204, h, p)
  | .headmemRead h p => some (0x0205, h, p)
  | .headmemWrite h p => some (0x0206, h, p)
  | .heaterSet h p => some (0x0207, h, p)
  | .headProfileLoad h p => some (0x0208, h, p)
  | .encConfig h p => some (0x0301, h, p)
  | .encQuery h p => some (0x0302, h, p)
  | .encPreset h p => some (0x0303, h, p)
  | .quireBind h p => some (0x0304, h, p)
  | .sosConfig h p => some (0x0305, h, p)
  | .jobDefine h p => some (0x0401, h, p)
  | .jobArm h p => some (0x0402, h, p)
  | .jobStop h p => some (0x0403, h, p)
  | .jobAbort h p => some (0x0404, h, p)
  | .jobQuery h p => some (0x0405, h, p)
  | .demandConfig h p => some (0x0406, h, p)
  | .tableCommit h p => some (0x0407, h, p)
  | .waveLoad h p => some (0x0501, h, p)
  | .levelMapLoad h p => some (0x0502, h, p)
  | .waveTcompLoad h p => some (0x0503, h, p)
  | .fireOffsetSet h p => some (0x0504, h, p)
  | .screenLoad h p => some (0x0601, h, p)
  | .nucLoad h p => some (0x0602, h, p)
  | .delayLoad h p => some (0x0603, h, p)
  | .maskLoad h p => some (0x0604, h, p)
  | .stitchConfig h p => some (0x0605, h, p)
  | .deckleSet h p => some (0x0606, h, p)
  | .nozMapSet h p => some (0x0701, h, p)
  | .nozMapGet h p => some (0x0702, h, p)
  | .rvsConfig h p => some (0x0703, h, p)
  | .rvsLearn h p => some (0x0704, h, p)
  | .compConfig h p => some (0x0705, h, p)
  | .wearQuery h p => some (0x0706, h, p)
  | .thermLimits h p => some (0x0801, h, p)
  | .thermQuery h p => some (0x0802, h, p)
  | .sensorSubstitute h p => some (0x0803, h, p)
  | .supplyQuery h p => some (0x0804, h, p)
  | .spineConfig h p => some (0x0901, h, p)
  | .spineEnumerate h p => some (0x0902, h, p)
  | .spineQuery h p => some (0x0903, h, p)
  | .remoteEncBind h p => some (0x0904, h, p)
  | .busConfig h p => some (0x0A01, h, p)
  | .busFilter h p => some (0x0A02, h, p)
  | .busSend h p => some (0x0A03, h, p)
  | .busQuery h p => some (0x0A04, h, p)
  | .otpRead h p => some (0x0B01, h, p)
  | .otpProgram h p => some (0x0B02, h, p)
  | .otpSeal h p => some (0x0B03, h, p)
  | .otpMarginCheck h p => some (0x0B04, h, p)
  | .otpLock h p => some (0x0B05, h, p)
  | .fwStage h p => some (0x0C01, h, p)
  | .fwVerify h p => some (0x0C02, h, p)
  | .fwActivate h p => some (0x0C03, h, p)
  | .fwQuery h p => some (0x0C04, h, p)
  | .colophonRead h p => some (0x0D01, h, p)
  | .colophonLog h p => some (0x0D02, h, p)
  | .loopback h p => some (0x0E01, h, p)
  | .testPattern h p => some (0x0E02, h, p)
  | .eventConfig h p => some (0x0E03, h, p)
  | .backgroundConfig h p => some (0x0E04, h, p)
  | .pageAlloc h p => some (0x0F01, h, p)
  | .pageFree h p => some (0x0F02, h, p)
  | .pageFill h p => some (0x0F03, h, p)
  | .pageQuery h p => some (0x0F04, h, p)
  | _ => none

/-- The rules let a command with this opcode start now: the control cores take commands (R402), no command in execution, no earlier
waiting one, no missing completion slot and no D3hot hold it back (R343, R337, R365, R368, R369), and in the ROM it is one of the ROM's
commands (R402). -/
def mayStart (s : State) (op : Nat) (h : CmdHdr) (p : Params) : Bool :=
  s.cores && !(mustWait s op h p) && !(s.romOnly && !(romOps.contains op))

/-- A command of this opcode starts and means to act: it may start, no reserved bit of FLAGS and no parameter byte outside `fields` is set
(R9, R362), and it is no dry run (R367). -/
def starts (s : State) (op : Nat) (h : CmdHdr) (p : Params) (fields : List (Nat × Nat)) : Bool :=
  mayStart s op h p && !(flagsBad h) && !(undefSet p fields) && !(isDry h)

/-- A Yobor port without the MGT cells that wait for XON. -/
def Yobor.quiet (y : Yobor) : Yobor := { y with mgtOut := [] }

/-- The device without its rings, counters and other traces of reporting, and without the bookkeeping of commands: what completing,
refusing or trying out a command leaves alone. -/
def State.device (s : State) : State := { s with
  cnt := .reset, rings := .replicate 64 .reset, link := { s.link with msixPend := 0 }, parked := [], out := [],
  sp := { s.sp with u := s.sp.u.quiet, a := s.sp.a.quiet, b := s.sp.b.quiet }, spr := { s.spr with seqs := .replicate 6 0, bcasts := [] },
  execs := [], waiting := [], nextId := 0 }

/-- How a command answers: where it starts and none of its rule's refusals holds (`checks`, in the order of R371), its next state is `t`;
where one holds, it is refused with that status, and changes nothing else (`refuse`). -/
def answers (i : Instr) (s : State) (op : Nat) (h : CmdHdr) (p : Params) (fields : List (Nat × Nat)) (checks : List (Bool × Nat))
    (t : State) : Prop :=
  (starts s op h p fields = true → firstBad checks = 0 → exec i s = .next t) ∧
  (mayStart s op h p = true → ∀ st, firstBad ((flagsBad h || undefSet p fields, stBadParam) :: checks) = st + 1 →
    exec i s = .next (refuse s h (st + 1)))

end Sys2Proof.Machine
end

