-- ==== Sys2Proof/Certificates/Slice0/Obligations.lean ====
section
/-! DEFINITION. The statements about this block: the rules that hold for every command, the commands by their groups, what the happenings do
in the order of the rows of the table, and what they leave alone. -/

open Sys2Proof Sys2Proof.Machine

/-- The queue (this block's interface): a step with command `c` at the front of the queue is `c`'s meaning on the state with the queue's
rest. -/
def Obligations.StepRunsFrontCommand : Prop :=
  ∀ (s : State) (c : Instr) (rest : List Instr), step { s with pending := c :: rest } = exec c { s with pending := rest }

/-- Every command and happening answers a next state: no meaning stops. With an empty queue and nothing that waits, or with the cores down,
one phase of 250 ps passes (the model's choice, log entries 1 and 14). -/
def Obligations.StepNeverStops : Prop :=
  (∀ (c : Instr) (s : State), ∃ t, exec c s = .next t) ∧
  (∀ s : State, s.pending = [] → s.cores = false ∨ s.waiting = [] → step s = .next (s.advance 1))

/-- What core POR leaves (14_reset_boot.md R392, R408; 12_host_rings.md R338; 02_position.md R71; 04_image_data.md R140; 10_spine.md R295;
15_otp_trust.md R435; 16_background.md R453; 13_commands_events.md R381): the sequencer is HELD with RST_CAUSE.CORE_POR alone, nothing is
queued, every ring is ABSENT, every source DISABLED, every port CLOSED, every quire UNBOUND, the node ALONE without an ID, both CAN
controllers OFF, the measurements zero, every event group routed to 0xFF and telemetry to 0, no region allocated and no host link. -/
def Obligations.ResetState : Prop :=
  let s := State.reset
  s.rst.seq = .held ∧ s.rst.cause = 1 ∧ s.pending = [] ∧ s.execs = [] ∧ s.waiting = [] ∧ s.link.up = false ∧
  (∀ r : Fin 64, (s.ring r).st = .absent) ∧ (∀ n : Fin 16, (s.source n).st = .disabled) ∧ (∀ p : Fin 32, (s.port p).st = .closed) ∧
  (∀ q : Fin 8, (s.quire q).st = .unbound) ∧ s.sp.st = .alone ∧ s.sp.nodeId = 0 ∧ (∀ c : Fin 2, (s.can c).st = .off) ∧
  (∀ n : Fin 8, look s.mgt.meas n = zeros 48) ∧ s.page.regions = [] ∧ s.telRoute = 0 ∧ (∀ g : Fin 8, look s.routes g = ⟨0xFF, 0, 0⟩) ∧
  s.cores = false

/-- The memories of the machine after core POR are in canonical form. -/
def Obligations.ResetMemoriesCanonical : Prop := State.reset.memoriesWf = true

/-- How a command starts (13_commands_events.md R362, R365, R368, R371; 14_reset_boot.md R402), for every command of the table: without
control cores nothing happens; what something holds back waits at the end of the waiting list, and nothing else changes; a command that
may otherwise start, but is none of the ROM's, is refused in the ROM with BAD_STATE; and one with a reserved bit of FLAGS is refused
with BAD_PARAM, before any other check. -/
def Obligations.CommandsStartInOrder : Prop :=
  ∀ (i : Instr) (op : Nat) (h : CmdHdr) (p : Params) (s : State), opcodeOf i = some (op, h, p) →
  (s.cores = false → exec i s = .next s) ∧
  (s.cores = true → mustWait s op h p = true →
    exec i s = .next { s with waiting := s.waiting ++ [{ target := 0, op := op, h := h, p := p, cw := 0, bad := false }] }) ∧
  (s.cores = true → mustWait s op h p = false → s.romOnly = true → op ∉ romOps → exec i s = .next (refuse s h stBadState)) ∧
  (mayStart s op h p = true → flagsBad h = true → exec i s = .next (refuse s h stBadParam))

/-- A dry run changes nothing of the device (13_commands_events.md R367): whatever the command, its next state differs at most in rings,
counters, what leaves the block, and the bookkeeping of commands (`State.device` is the rest). -/
def Obligations.DryRunMovesNothing : Prop :=
  ∀ (i : Instr) (op : Nat) (h : CmdHdr) (p : Params) (s : State), opcodeOf i = some (op, h, p) → isDry h = true →
  ∃ t, exec i s = .next t ∧ t.device = s.device

/-- The entries that the controller writes (12_host_rings.md R337, R344 to R346, R360). On a ring that exists, is not CLOSING and has room, an
entry goes to the slot at the tail, whole, with the catchword of the ring's pass in byte 4, and the tail advances; after the last slot it
is 0 and the next pass begins. A full ring takes none and counts it; an ABSENT or CLOSING ring takes none; in D3hot the entry waits. When
the event ring that a group routes to is full, a new event is dropped and counted, and nothing else happens. -/
def Obligations.RingEntriesAreWritten : Prop :=
  ∀ (s : State) (r : Fin 64) (e : Bytes) (force : Bool),
  let g := s.ring r
  (g.st = .active ∨ g.st = .halted → s.link.d3hot = false → g.full = false → ∃ t, pushEntry s r e force = t ∧
    .ringWrite r.1 g.tail (g.base.toNat + entrySize r.1 * g.tail) (e.take 4 ++ [BitVec.ofNat 8 (g.pass % 255 + 1)] ++ e.drop 5) ∈ t.out ∧
    (t.ring r).tail = (if g.tail + 1 = g.size.toNat then 0 else g.tail + 1) ∧
    (t.ring r).pass = (if g.tail + 1 = g.size.toNat then g.pass + 1 else g.pass) ∧ (t.ring r).dropped = g.dropped ∧ (t.ring r).st = g.st ∧
    t.device = s.device ∧ ∀ m, m ≠ r → t.ring m = s.ring m) ∧
  (g.st = .active ∨ g.st = .halted → s.link.d3hot = false → g.full = true →
    pushEntry s r e force = s.modRing r fun x => { x with dropped := sat32 x.dropped 1 }) ∧
  (g.st = .absent ∨ g.st = .closing → pushEntry s r e force = s) ∧
  (g.st = .active ∨ g.st = .halted → s.link.d3hot = true → pushEntry s r e force = { s with parked := s.parked ++ [.entry r.1 e force] }) ∧
  (∀ (code sev : Nat), let route := look s.routes (finOf 8 (by decide) (code / 4096 + 7))
    route.disable.getLsbD (code % 4096 - 1) = false → route.minSev ≤ sev → routeRing s route.ring = some r → g.st ≠ .closing →
    s.link.d3hot = false → g.full = true →
    writeEvent s code sev e =
      { (s.modRing r fun x => { x with dropped := sat32 x.dropped 1 }) with cnt := { s.cnt with dropped := sat32 s.cnt.dropped 1 } })

/-- The opcodes name the commands of the table (13_commands_events.md R375): an entry with an opcode is the command that carries that opcode,
and no other. -/
def Obligations.OpcodesNameCommands : Prop :=
  (∀ (op : Nat) (h : CmdHdr) (p : Params) (i : Instr), Sys2Proof.commandOf op h p = some i → opcodeOf i = some (op, h, p)) ∧
  (∀ (op : Nat) (h : CmdHdr) (p : Params) (i : Instr), opcodeOf i = some (op, h, p) → Sys2Proof.commandOf op h p = some i)

/-- The staging window keeps what is written into it (15_otp_trust.md R441): data written by one message is what the next one reads from the
same place, over either binding, and every byte outside it reads as before (where the SRAM is in its canonical form, which every step
keeps). -/
def Obligations.StagingWindowKeepsData : Prop :=
  ∀ (s : State) (b c : MctpBinding) (ofs : U32) (data : Bytes) (len : BitVec 8),
  s.mgt.sram.wf = true → mctpUp s b = true → mctpUp s c = true → len.toNat = data.length → 1 ≤ data.length → data.length ≤ 48 →
  ofs.toNat + data.length ≤ s.window →
  ∃ t, exec (.mctpDataWr b ofs data) s = .next t ∧
    exec (.mctpDataRd c ofs len) t = .next (t.emit (.mctpReply (isVdm c) (vendorMsg 4 data))) ∧
    (∀ a, a < ofs.toNat ∨ ofs.toNat + data.length ≤ a → t.mgt.sram.read a = s.mgt.sram.read a) ∧
    { t with mgt := { t.mgt with sram := s.mgt.sram } } = s

/-- Every step keeps the block's memories in canonical form: the control SRAM and every page-store region list their addresses in strictly
rising order, without a byte that an unlisted address reads as. -/
def Obligations.MemoriesStayCanonical : Prop :=
  ∀ s t : State, s.memoriesWf = true → step s = .next t → t.memoriesWf = true

/-- No meaning turns time back or touches the queue: whatever the command or happening and the state, the clock does not fall, what has
left the block does not change, and the commands that wait in the queue stay. -/
def Obligations.TimeNeverRunsBack : Prop :=
  ∀ (c : Instr) (s t : State), exec c s = .next t → s.clk ≤ t.clk ∧ s.out <:+ t.out ∧ t.pending = s.pending

/-- Event routing over resets (13_commands_events.md R381). After a core POR, and after a pin reset that is accepted, every group routes to
RING 0xFF with MIN_SEVERITY 0 and DISABLE 0, and telemetry routes to 0; a host reset keeps the routing. -/
def Obligations.ResetsSetRouting : Prop :=
  (∀ s : State, ∃ t, exec .corePor s = .next t ∧ t.telRoute = 0 ∧ ∀ g : Fin 8, look t.routes g = ⟨0xFF, 0, 0⟩) ∧
  (∀ s : State, s.drivesRst = false →
    ∃ t, exec .pinReset s = .next t ∧ t.telRoute = 0 ∧ ∀ g : Fin 8, look t.routes g = ⟨0xFF, 0, 0⟩) ∧
  (∀ (s : State) (c : HostResetCause), ∃ t, exec (.hostReset c) s = .next t ∧ t.telRoute = s.telRoute ∧ t.routes = s.routes)

/-- OTP_LOCK (15_otp_trust.md R449): it sets the named bits, beside those that are set, completes with OK, and its RESULT is OTP_LOCK bits
15:0 afterwards; a write of the same bits to the register has the same effect on the locks. -/
def Obligations.OtpLockSetsBits : Prop :=
  ∀ (h : CmdHdr) (p : Params) (s : State), starts s 0x0B05 h p [(8, 1), (9, 1)] = true →
  let prog := s.otp.progLock ||| BitVec.ofNat 8 (fld p 8 1)
  let rd := s.otp.readLock ||| BitVec.ofNat 8 (fld p 9 1)
  let t := { s with otp := { s.otp with progLock := prog, readLock := rd } }
  exec (.otpLock h p) s = .next (complete t h stOk (prog.toNat + 256 * rd.toNat)) ∧
  otpWrite 0x004 (BitVec.ofNat 32 (fld p 8 1 + 256 * fld p 9 1)) s = t

/-- LINE_PITCH (02_position.md R68): a QUIRE_BIND that binds with a pitch below 1 count (0x0001_0000) is refused with RANGE, for every quire,
source, port mask and origin, where no reserved bit or byte is set. -/
def Obligations.SmallPitchIsRefused : Prop :=
  ∀ (h : CmdHdr) (p : Params) (s : State), mayStart s 0x0304 h p = true → flagsBad h = false →
  undefSet p [(8, 1), (9, 1), (10, 1), (12, 4), (16, 4), (24, 8)] = false → rsv (fld p 9 1) 0x03 = false → bit (fld p 9 1) 0 = false →
  fld p 16 4 < 0x10000 → exec (.quireBind h p) s = .next (refuse s h stRange)

/-- The commands of groups 0x00, 0x01, 0x0D, 0x0E and 0x0F (13_commands_events.md R365, R371, R383 to R391; 12_host_rings.md;
15_otp_trust.md; 16_background.md; 04_data_path.md). Each one that starts and passes its rule's tests has its own
effect: NOP answers the timebase; GET_INFO, GET_COUNTERS, PAGE_QUERY and the colophon commands write their records; SET_PROFILE, SET_TIME,
TEST_PATTERN, EVENT_CONFIG and BACKGROUND_CONFIG store their fields; SELF_RESET sets the instant of the reset; LOOPBACK and PAGE_FILL read
host memory; RING_CREATE creates an ACTIVE ring, RING_DESTROY begins to close one, RING_RESUME lets a HALTED one go on; PAGE_ALLOC takes
blocks and PAGE_FREE gives them back. One that fails a test is refused with the status of the first test that fails, in the order listed. -/
def Obligations.SystemDiagAndPageCommandsAnswer : Prop :=
  ∀ (h : CmdHdr) (p : Params) (s : State),
    (let end_ := fun (t : State) => complete t h stOk t.ns
     answers (.nop h p) s 0x0001 h p []
      []
      (end_ s)) ∧
    (let addr := fld p 16 8
     answers (.getInfo h p) s 0x0002 h p [(16, 8)]
      (addrChecks s h addr 64)
      (complete (writeOut s h addr (infoRecord s)) h (outSt s h) (s.part + 0xA10000 + s.partPorts * 2 ^ 24 + s.fwVersion * 2 ^ 32))) ∧
    (let f := fld p 8 1
     let lay := fld p 9 1
     let cap := fld p 10 1 = 1
     let off := fun (b o : Nat) => !(bit f b) && fld p o 1 != 0
     answers (.setProfile h p) s 0x0003 h p [(8, 1), (9, 1), (10, 1), (11, 1)]
      [(rsv f 0x07 || f == 0 || off 0 9 || off 1 10 || off 2 11 || decide (2 < lay) || decide (1 < fld p 10 1) || decide (1 < fld p 11 1), stBadParam),
       (bit f 0 && decide (lay ≠ s.glb.layout.toNat) && layoutHeld s lay, stBadState),
       (bit f 1 && decide cap && decide (s.aggregateCap true < s.admitted), stCapacity)]
      (complete ({ s with glb := { s.glb with
      layout := if bit f 0 then BitVec.ofNat 2 lay else s.glb.layout, capped := if bit f 1 then cap else s.glb.capped,
      abortOnPerst := if bit f 2 then fld p 11 1 == 1 else s.glb.abortOnPerst } }) h stOk 0)) ∧
    (answers (.selfReset h p) s 0x0004 h p [(8, 1), (9, 1), (12, 4)]
      [(fld p 8 1 != 0xA5 || rsv (fld p 9 1) 0x01, stBadParam), (decide (1000000 < fld p 12 4), stRange),
       (!(bit (fld p 9 1) 0) && s.anyBeyond, stBadState)]
      (let u := complete s h stOk 0
      { u with rst := { u.rst with noFetch := true, selfAt := some (u.clk + fld p 12 4 * usPh) } })) ∧
    (let adj := fld p 8 1 = 1
     let new : Int := (s.tb : Int) + 4 * sfld p 16 8
     answers (.setTime h p) s 0x0005 h p [(8, 1), (16, 8)]
      [(decide (1 < fld p 8 1), stBadParam), (decide adj && decide (new < 0), stRange),
       ((!s.isRoot && s.sp.st != .alone) || s.anyBeyond, stBadState)]
      (complete { s with tb := if adj then new.toNat else 4 * fld p 16 8,
                                 spr := { s.spr with event := s.spr.event ||| 16 } } h stOk s.ns)) ∧
    (let addr := fld p 16 8
     answers (.getCounters h p) s 0x0006 h p [(8, 1), (16, 8)]
      ((rsv (fld p 8 1) 0x01, stBadParam) :: addrChecks s h addr 64)
      (let u := writeOut s h addr (counterRecord s)
      complete (if bit (fld p 8 1) 0 then { u with cnt := .reset } else u) h (outSt s h) 0)) ∧
    (let reg := fld p 8 1 = 1
     let n := fld p 10 2
     let len := fld p 12 4
     answers (.loopback h p) s 0x0E01 h p [(8, 1), (9, 1), (10, 2), (12, 4), (16, 8), (24, 8), (32, 4)]
      [(decide (1 < fld p 8 1) || rsv (fld p 9 1) 0x01 || (!reg && (n != 0 || fld p 32 4 != 0)), stBadParam),
       (outLen h len 64 1048576 || (reg && badSpan s n (fld p 32 4) (if mislen h len then 0 else len)) || beyond s h (fld p 16 8) len || beyond s h (fld p 24 8) len, stRange),
       (misaddr h (fld p 16 8) || misaddr h (fld p 24 8) || mislen h len || (reg && fld p 32 4 % 64 != 0), stAlign),
       (reg && decide (s.page.st ≠ .ready), stBadState), (reg && s.fillsOf n != 0, stBusy)]
      (beginRead s 0x0E01 h p (fld p 16 8) len (bit (fld p 9 1) 0))) ∧
    (let r := portNo (fld p 8 1)
     let x := s.port r
     let set := fld p 9 1 = 1
     let kind := fld p 10 1
     let level := fld p 11 1
     let step := fld p 12 2
     answers (.testPattern h p) s 0x0E02 h p [(8, 1), (9, 1), (10, 1), (11, 1), (12, 2), (16, 4)]
      [(decide (1 < fld p 9 1) || decide (2 < kind) || (!(decide set) && (kind != 0 || level != 0 || step != 0 || fld p 16 4 != 0)) ||
        (kind == 2 && level != 0) || (kind != 1 && step != 0), stBadParam),
       (portBad s (fld p 8 1) || (decide set && out (fld p 16 4) 1 16777215), stRange), (decide (x.st ≠ .idle) || !(quireIdle s r), stBadState),
       (decide set && ((kind != 2 && out level 1 (topLevel x.depth)) || (kind == 1 && out step 2 8192)), stBadParam)]
      (complete (s.modPort r fun y => { y with dat := { y.dat with
      pattern := if set then some { kind := kind, level := level, step := step, lines := fld p 16 4 } else none } }) h stOk 0)) ∧
    (let g := fld p 8 1
     let read := bit (fld p 9 1) 0
     let ring := fld p 10 1
     let sev := fld p 11 1
     let dis := fld p 12 2
     answers (.eventConfig h p) s 0x0E03 h p [(8, 1), (9, 1), (10, 1), (11, 1), (12, 2)]
      [(rsv (fld p 9 1) 0x01 || (read && (ring != 0 || sev != 0 || dis != 0)) || (g == 15 && (sev != 0 || dis != 0)), stBadParam),
       ((out g 0 8 && g != 15) || (out ring 48 55 && ring != 0xFF && ring != 0) || decide (4 < sev), stRange), (read && g == 0, stBadParam)]
      (complete (setRoutes s p) h stOk (routeResult (setRoutes s p) g))) ∧
    (let sh := fld p 8 1
     let f := fld p 9 1
     let addr := fld p 16 8
     answers (.backgroundConfig h p) s 0x0E04 h p [(8, 1), (9, 1), (10, 2), (12, 4), (16, 8)]
      [((decide (2 < sh) && sh != 0xFF) || rsv f 0x01 || (!(bit f 0) && fld p 12 4 != 0), stBadParam),
       ((fld p 10 2 != 0 && out (fld p 10 2) 10 10000) || (addr != 0 && beyond s h addr 64), stRange), (misaddr h addr, stAlign)]
      (let u := setBackground s p
      complete (if addr = 0 then u else writeOut u h addr (bgRecord u)) h (if addr = 0 then stOk else outSt u h) (bgResult u))) ∧
    (let addr := fld p 40 8
     let len := fld p 48 4
     answers (.colophonRead h p) s 0x0D01 h p [(8, 32), (40, 8), (48, 4)]
      [(wrongLen h len 640 || beyond s h addr len, stRange), (misaddr h addr || mislen h len, stAlign), (!s.mgt.keyReady, stNotSupported)]
      (reportOut 0x0D01 h p s.draw addr (colophon s (fldBytes p 8 32)) s.mgt.extends_)) ∧
    (let first := fld p 8 4
     let n := fld p 12 2
     let addr := fld p 16 8
     let len := fld p 24 4
     let held := s.mgt.log.length
     let wrote := min n (held - first)
     answers (.colophonLog h p) s 0x0D02 h p [(8, 4), (12, 2), (16, 8), (24, 4)]
      [(decide (4095 < first) || out n 1 64 || wrongLen h len (64 * n) || beyond s h addr len, stRange), (misaddr h addr || mislen h len, stAlign),
       (decide (held ≤ first), stRange)]
      (reportOut 0x0D02 h p s addr (((s.mgt.log.drop first).take wrote).flatMap id) (held + 2 ^ 32 * wrote))) ∧
    (answers (.ringCreate h p) s 0x0101 h p [(8, 1), (9, 1), (10, 1), (11, 1), (12, 4), (16, 8), (24, 1)]
      ((rsv (fld p 9 1) 0x01, stBadParam) :: planChecks s (planOf p) ++ [((s.ring (ringNo (fld p 8 1))).exists_, stBadState)])
      (complete (createRing s (planOf p)) h stOk 0)) ∧
    (let r := ringNo (fld p 8 1)
     let st := (s.ring r).st
     answers (.ringDestroy h p) s 0x0102 h p [(8, 1)]
      [(noRing s (fld p 8 1), stRange), (decide (st ≠ .active) && decide (st ≠ .halted), stBadState), (imageBusy s r.1, stBadState),
       (decide (40 ≤ r.1) && decide (r.1 < 48) && paired s r.1, stBusy)]
      ((beginExec s 0x0102 h p .ringClose 0).modRing r fun g => { g with st := .closing, haltCode := 0, rereads := 0 })) ∧
    (let r := ringNo (fld p 8 1)
     answers (.ringResume h p) s 0x0103 h p [(8, 1)]
      [(noRing s (fld p 8 1), stRange), (decide ((s.ring r).st ≠ .halted), stBadState)]
      (complete (resumeRing s r) h stOk 0)) ∧
    (let n := fld p 8 4
     let res := fun (t : State) => t.newHandle + 2 ^ 32 * n
     answers (.pageAlloc h p) s 0x0F01 h p [(8, 4)]
      [(out n 1 (if s.page.st = .ready then s.page.usable else 15360), stRange),
       (decide (s.page.st ≠ .ready), stBadState),
       (decide (s.freeBlocks < n) || decide (65535 ≤ s.page.regions.length), stCapacity)]
      (complete ({ s with page := { s.page with
        regions := assocSet s.newHandle { blocks := n, mem := .empty, bad := [] } s.page.regions } }).draw h stOk (res s))) ∧
    (let n := fld p 8 2
     answers (.pageFree h p) s 0x0F02 h p [(8, 2)]
      [((s.region n).isNone, stRange), (s.fillPending n, stBusy)]
      (complete { s with page := { s.page with regions := assocDel n s.page.regions } } h stOk 0)) ∧
    (let n := fld p 8 2
     let len := fld p 24 4
     let addr := fld p 16 8
     answers (.pageFill h p) s 0x0F03 h p [(8, 2), (10, 1), (12, 4), (16, 8), (24, 4)]
      [(rsv (fld p 10 1) 0x01, stBadParam), (badSpan s n (fld p 12 4) (if mislen h len then 0 else len) || beyond s h addr len, stRange),
       (misaddr h addr || mislen h len || fld p 12 4 % 64 != 0, stAlign), (decide (s.page.st ≠ .ready), stBadState),
       (s.fillsOf n != 0, stBusy)]
      (beginRead s 0x0F03 h p addr len (bit (fld p 10 1) 0))) ∧
    (let n := fld p 8 2
     let addr := fld p 16 8
     answers (.pageQuery h p) s 0x0F04 h p [(8, 2), (16, 8)]
      ((n != 0 && (s.region n).isNone, stRange) :: addrChecks s h addr 64)
      (complete (writeOut s h addr (pageRecord s n)) h (outSt s h) (s.page.st.code)))

/-- The commands of group 0x02 (07_head_ports.md; 09_thermal_supply.md; 13_commands_events.md R371). PORT_OPEN of a CLOSED, configured
port or one in FAULT begins to open it (HEAD_ABSENT while no head is present); PORT_CLOSE begins to close it; PORT_CONFIG and HEATER_SET store
their fields; PORT_QUERY writes the port's record; HEADMEM_READ begins head-memory accesses; HEADMEM_WRITE and HEAD_PROFILE_LOAD begin to read
the host's data. One that fails a test of its rule is refused with the status of the first test that fails, in the order listed. -/
def Obligations.PortAndHeadCommandsAnswer : Prop :=
  ∀ (h : CmdHdr) (p : Params) (s : State),
    (let r := portNo (fld p 8 1)
     let x := s.port r
     answers (.portOpen h p) s 0x0201 h p [(8, 1)]
      [(portBad s (fld p 8 1), stRange),
       (!(decide (x.st = .closed) && x.profile.isSome && x.cfg.isSome) && decide (x.st ≠ .fault), stBadState)]
      (if x.prsHigh then complete s h stHeadAbsent (openRes x 0) else startOpening s h p r)) ∧
    (let r := portNo (fld p 8 1)
     let st := (s.port r).st
     answers (.portClose h p) s 0x0202 h p [(8, 1)]
      [(portBad s (fld p 8 1), stRange), (decide (st ≠ .opening ∧ st ≠ .idle ∧ st ≠ .fault), stBadState)]
      (startClosing s h p r)) ∧
    (let r := portNo (fld p 8 1)
     let x := s.port r
     let c := portCfgOf p
     let lr := match x.profile with
       | some f => ((laneRange f.gen).1, min (laneRange f.gen).2 f.laneMax)
       | none => (10, 3125)
     let depths := match x.profile with
       | some f => f.depths &&& rdAt x.ident 6 1
       | none => 0
     answers (.portConfig h p) s 0x0203 h p [(8, 1), (9, 1), (10, 1), (11, 1), (12, 2), (14, 1), (16, 2)]
      [(decide (2 < c.form) || rsv (fld p 10 1) 0x01 || (c.depth != 2 && c.depth != 3), stBadParam),
       (portBad s (fld p 8 1) || out c.nozzles 1 8192 || out c.laneRate lr.1 lr.2, stRange),
       (decide (x.st ≠ .closed ∧ x.st ≠ .idle), stBadState),
       (decide (x.st = .idle) && (c.nozzles != rdAt x.ident 4 2 || !(bit depths (c.depth - 2))), stBadParam)]
      (configure s h p r)) ∧
    (let addr := fld p 16 8
     answers (.portQuery h p) s 0x0204 h p [(8, 1), (16, 8)]
      [(portBad s (fld p 8 1) || beyond s h addr 64, stRange), (misaddr h addr, stAlign)]
      (complete (writeOut s h addr (portRecord s (portNo (fld p 8 1)))) h (outSt s h) (0))) ∧
    (let r := portNo (fld p 8 1)
     let x := s.port r
     let mode := fld p 9 1
     let sp := sfld p 12 2
     let lim := match x.profile with
       | some f => (f.tWarn, f.htrMax)
       | none => (32768, 1023)
     answers (.heaterSet h p) s 0x0207 h p [(8, 1), (9, 1), (10, 1), (12, 2), (14, 2)]
      [(decide (2 < mode ∨ 2 < fld p 10 1) || (mode != 1 && fld p 12 2 != 0) || (mode != 2 && fld p 14 2 != 0), stBadParam),
       (portBad s (fld p 8 1) || (mode == 1 && decide (sp < -640 ∨ lim.1 ≤ sp)) || (mode == 2 && decide (lim.2 < fld p 14 2)), stRange),
       (decide (x.st = .closed), stBadState)]
      (complete (s.modPort r fun y => { y with heater := { y.heater with mode := mode, sensor := fld p 10 1, setpoint := sp, duty := fld p 14 2 } }) h stOk 0)) ∧
    (let r := portNo (fld p 8 1)
     let x := s.port r
     answers (.headmemRead h p) s 0x0205 h p [(8, 1), (9, 1), (10, 2), (12, 2), (16, 8)]
      (headMemChecks s h p ++ [(decide (x.st = .opening), stBusy), (x.prsHigh, stHeadAbsent)])
      (pumpHead (addJob (beginExec s 0x0205 h p .headMem 0) r (.reading (.host s.nextId) (fld p 10 2) (fld p 12 2))) r)) ∧
    (let r := portNo (fld p 8 1)
     let x := s.port r
     answers (.headmemWrite h p) s 0x0206 h p [(8, 1), (9, 1), (10, 2), (12, 2), (16, 8)]
      (headMemChecks s h p ++ [(decide (x.st = .closed ∨ x.st = .opening), stBadState), (decide (fld p 10 2 < 0x0100), stLocked),
        (!s.writeSafe, stSupplyLow), (x.prsHigh, stHeadAbsent)])
      (beginRead s 0x0206 h p (fld p 16 8) (up64 (fld p 12 2)) (bit (fld p 9 1) 0))) ∧
    (let addr := fld p 16 8
     let len := fld p 24 4
     answers (.headProfileLoad h p) s 0x0208 h p [(8, 1), (9, 1), (16, 8), (24, 4)]
      [(rsv (fld p 9 1) 0x01, stBadParam), (portBad s (fld p 8 1) || outLen h len 128 (64 + 8192) || beyond s h addr len, stRange),
       (misaddr h addr || mislen h len, stAlign), (decide ((s.port (portNo (fld p 8 1))).st ≠ .closed), stBadState)]
      (beginRead s 0x0208 h p addr len (bit (fld p 9 1) 0)))

/-- The commands of groups 0x03 and 0x04 (02_position.md; 03_fire_timing.md; 01_architecture.md; 13_commands_events.md R371). ENC_CONFIG,
QUIRE_BIND, SOS_CONFIG, JOB_DEFINE and DEMAND_CONFIG store their fields; ENC_PRESET moves the position at once or waits for the index;
ENC_QUERY and JOB_QUERY write their records; JOB_ARM arms the quire, with OK_LATE and the lines it is behind where the start compare has
passed within the late window; JOB_STOP and JOB_ABORT stop a quire or, where nothing runs, end at once; TABLE_COMMIT marks the swap of the
ports' shadow banks. One that fails a test of its rule is refused with the status of the first test that fails, in the order listed. -/
def Obligations.PositionAndJobCommandsAnswer : Prop :=
  ∀ (h : CmdHdr) (p : Params) (s : State),
    (let n := srcNo (fld p 8 1)
     answers (.encConfig h p) s 0x0301 h p [(8, 1), (9, 1), (10, 1), (11, 1), (12, 2), (14, 1), (15, 1), (16, 4), (20, 4), (24, 1), (25, 1), (26, 1), (28, 2), (30, 2), (32, 4), (36, 4), (40, 4), (44, 4)]
      [(cfgBadParam p, stBadParam), (cfgRange p, stRange), (s.srcBusy n, stBadState)]
      (complete ((holdTracked s n).modSrc n fun x => configSrc x p s.clk) h stOk 0)) ∧
    (let n := srcNo (fld p 8 1)
     let addr := fld p 16 8
     answers (.encQuery h p) s 0x0302 h p [(8, 1), (16, 8)]
      ((decide (15 < fld p 8 1), stRange) :: addrChecks s h addr 64)
      (complete (writeOut s h addr (encRecord s n)) h (outSt s h) ((s.source n).st.code + 256 * encFlags s n))) ∧
    (let n := srcNo (fld p 8 1)
     let x := s.source n
     let pos : Pos := BitVec.ofNat 56 (fld p 16 8)
     answers (.encPreset h p) s 0x0303 h p [(8, 1), (9, 1), (16, 8)]
      [(decide (1 < fld p 9 1), stBadParam), (decide (3 < fld p 8 1), stRange), (fld p 16 1 != 0, stRange),
       (decide (x.st = .disabled) || s.srcBusy n, stBadState),
       (fld p 9 1 == 1 && (decide (x.cfg.mode ≠ .incremental) || x.cfg.indexPeriod == 0), stBadParam)]
      (complete (if fld p 9 1 = 1 then s.modSrc n fun y => { y with presetPend := some pos } else applyPreset s n pos) h stOk 0)) ∧
    (let f := fld p 9 1
     let n := quireNo (fld p 8 1)
     let mask := fld p 12 4
     let scan := bit f 1
     let st := (s.quire n).st
     let unbind := bit f 0
     let taken := (idx 32).any fun r => mask.testBit r.1 && (match s.quireOf r with
       | some q => q != n
       | none => false)
     answers (.quireBind h p) s 0x0304 h p [(8, 1), (9, 1), (10, 1), (12, 4), (16, 4), (24, 8)]
      [(rsv f 0x03 || (unbind && (scan || fld p 10 1 + mask + fld p 16 4 + fld p 24 8 != 0)), stBadParam),
       (decide (7 < fld p 8 1), stRange),
       (!unbind && (decide (15 < fld p 10 1) || decide (fld p 16 4 < 0x10000) || badPorts s mask scan), stRange),
       (decide (st ≠ .unbound ∧ st ≠ .bound) || (!unbind && taken), stBadState),
       (!unbind && (mask == 0 || trackMismatch s (srcNo (fld p 10 1)) scan), stBadParam)]
      (complete (s.modQuire n fun q => q.bind p) h stOk 0)) ∧
    (let i := fld p 8 1
     let lo := BitVec.ofNat 64 (fld p 16 8)
     let hi := BitVec.ofNat 64 (fld p 24 8)
     answers (.sosConfig h p) s 0x0305 h p [(8, 1), (9, 1), (10, 2), (12, 4), (16, 8), (24, 8)]
      [(rsv (fld p 9 1) 0x03, stBadParam),
       (decide (3 < i) || out (fld p 10 2) 10 10000 || decide (4000000000 < fld p 12 4) ||
         decide (posDiff (hi.setWidth 56) (lo.setWidth 56) < 0), stRange),
       (sosInUse s i, stBadState)]
      (complete ({ s with sos := upd s.sos (finOf 4 (by decide) i) fun o =>
      { o with enable := bit (fld p 9 1) 0, falling := bit (fld p 9 1) 1, filter := fld p 10 2, holdoff := fld p 12 4, winLo := lo, winHi := hi } }) h stOk 0)) ∧
    (let n := quireNo (fld p 8 1)
     let st := (s.quire n).st
     answers (.jobDefine h p) s 0x0401 h p [(8, 1), (9, 1), (10, 2), (12, 4), (16, 4), (20, 1), (21, 1), (22, 1), (24, 4), (28, 4), (32, 8), (40, 8), (48, 4)]
      [(rsv (fld p 9 1) 0x1F || decide (2 < fld p 20 1), stBadParam),
       (decide (7 < fld p 8 1) || out (fld p 12 4) 1 250000 || decide (1000000000 < fld p 16 4) || badSos (fld p 21 1) || badSos (fld p 22 1) ||
         decide (16777215 < fld p 24 4), stRange),
       (decide (st ≠ .unbound ∧ st ≠ .bound), stBadState)]
      (complete (s.modQuire n fun q => { q with job := some (jobOf p) }) h stOk 0)) ∧
    (let f := fld p 9 1
     let qi := quireNo (fld p 8 1)
     let q := s.quire qi
     let ps := s.portsOf qi
     let j := q.job.getD (jobOf 0)
     let valid := bit f 0
     let atNext := bit f 1
     let start := if atNext then s.quireNext qi else sfld p 16 8
     let e := sfld p 24 8
     let x := s.source q.source
     let n := if q.scan then 0 else s.behindBy qi start
     let late := decide (0 < n)
     let res := if late then n.toNat else 0
     answers (.jobArm h p) s 0x0402 h p [(8, 1), (9, 1), (16, 8), (24, 8)]
      [(rsv f 0x03 || (atNext && fld p 16 8 != 0) || (!valid && fld p 24 8 != 0), stBadParam),
       (decide (7 < fld p 8 1), stRange),
       (decide (q.st ≠ .bound) || q.job.isNone || (ps.any fun r => (s.port r).st != .idle) || (!j.through && s.page.st != .ready), stBadState),
       (!(paceFits q j) || (q.scan && (atNext || fld p 16 8 != 0)) || (valid && stopRefused q j start e) || sosOff s j, stBadParam),
       (decide (x.st = .disabled ∨ x.st = .acquiring ∨ x.st = .fault) || s.srcBi q.source != q.scan, stPosFault),
       (ps.any (headHot s), stTempInhibit),
       (overCapacity s ps j.maxRate, stCapacity), (overLink s ps j.maxRate, stLinkLimit),
       (ps.any fun r => !((s.port r).fits86 (some j.maxRate)), stRange), (ps.any fun r => (s.port r).poisoned, stPortFault),
       (decide ((q.lateWin : Int) < n), stCompareBehind)]
      (complete (armQuire s qi start n.toNat (if valid then e else noCompare)) h (if late then stOkLate else stOk) res)) ∧
    (let qi := quireNo (fld p 8 1)
     let mode := fld p 9 1
     let q := s.quire qi
     answers (.jobStop h p) s 0x0403 h p [(8, 1), (9, 1), (16, 8)]
      [(decide (2 < mode) || (mode != 1 && fld p 16 8 != 0), stBadParam), (decide (7 < fld p 8 1), stRange),
       (!q.st.stoppable, stBadState), (mode == 2 && !q.scan, stBadParam)]
      (stopJob (beginExec s 0x0403 h p .drain 0) qi mode (sfld p 16 8))) ∧
    (let qi := quireNo (fld p 8 1)
     let q := s.quire qi
     answers (.jobAbort h p) s 0x0404 h p [(8, 1)]
      [(decide (7 < fld p 8 1), stRange), (decide (q.st = .unbound), stBadState)]
      (if q.st = .bound ∨ q.st = .fault then complete (faultEdge (s.modQuire qi fun x => { x with st := .bound })) h stOk q.cnt.fired
      else abortJob (beginExec s 0x0404 h p .drain 0) qi 4)) ∧
    (let qi := quireNo (fld p 8 1)
     let addr := fld p 16 8
     answers (.jobQuery h p) s 0x0405 h p [(8, 1), (16, 8)]
      ((decide (7 < fld p 8 1), stRange) :: addrChecks s h addr 64)
      (complete (writeOut s h addr (jobRecord s qi)) h (outSt s h) ((s.quire qi).st.code + 256 * (s.quire qi).cause))) ∧
    (let qi := quireNo (fld p 8 1)
     answers (.demandConfig h p) s 0x0406 h p [(8, 1), (9, 1), (10, 2), (12, 4), (16, 4), (20, 4), (24, 8)]
      [(rsv (fld p 9 1) 0x01, stBadParam),
       (decide (7 < fld p 8 1) || out (fld p 12 4) 1000 60000000 || decide (fld p 12 4 ≤ fld p 16 4) || decide (2 ^ 48 ≤ fld p 24 8), stRange),
       (decide ((s.quire qi).st = .unbound), stBadState)]
      (complete (s.modQuire qi fun q => { q with dem :=
      { exclude := bit (fld p 9 1) 0, floor := fld p 10 2, warn := fld p 12 4, crit := fld p 16 4, quota := fld p 20 4, fullSpeed := fld p 24 8 } }) h stOk 0)) ∧
    (let mask := fld p 8 4
     let ps := portsIn mask
     let low := match ps.find? s.portRuns with
       | some r => r.1
       | none => 32
     answers (.tableCommit h p) s 0x0407 h p [(8, 4)]
      [(badPorts s mask false || commitRange s ps, stRange), (ps.any fun r => (s.port r).st == .closed, stBadState), (mask == 0, stBadParam),
       (commitPoison s ps, stPortFault)]
      (commitPorts (beginExec s 0x0407 h p (.swap (BitVec.ofNat 32 mask) 0 none low) 0) mask))

/-- The commands of groups 0x05 and 0x06, and COMP_CONFIG (06_waveforms.md; 05_screening.md; 08_nozzle_health.md; 13_commands_events.md R371).
WAVE_LOAD frees a slot at once or begins to read its samples; LEVEL_MAP_LOAD, FIRE_OFFSET_SET, SCREEN_LOAD's assignment, STITCH_CONFIG,
DECKLE_SET and COMP_CONFIG put their rows into the port's shadow bank; WAVE_TCOMP_LOAD, NUC_LOAD, DELAY_LOAD and the loads of screen and mask
tiles begin to read their data; freeing a tile gives its space back. An operation that the rule does not list is BAD_PARAM. One that fails a
test of its rule is refused with the status of the first test that fails, in the order listed. -/
def Obligations.WaveAndTableCommandsAnswer : Prop :=
  ∀ (h : CmdHdr) (p : Params) (s : State),
    (let fields := [(8, 1), (9, 1), (10, 1), (11, 1), (12, 2), (14, 2), (16, 8), (24, 4), (28, 1), (32, 32)]
     (bit (fld p 11 1) 1 = true → answers (.waveLoad h p) s 0x0501 h p fields (waveChecks s h p)
       (complete (measureData (s.modPort (portNo (fld p 8 1)) fun x => x.modChan (chanOf (fld p 9 1)) fun c =>
         { c with slots := assocDel (fld p 10 1) c.slots }) 7 [fld p 8 1, fld p 9 1, fld p 10 1] []) h stOk 0)) ∧
     (bit (fld p 11 1) 1 = false → answers (.waveLoad h p) s 0x0501 h p fields (waveChecks s h p)
       (beginRead s 0x0501 h p (fld p 16 8) (fld p 24 4) (bit (fld p 11 1) 0)))) ∧
    (let r := portNo (fld p 8 1)
     let top := topLevel (s.port r).depth
     answers (.levelMapLoad h p) s 0x0502 h p [(8, 1), (9, 1), (10, 1), (12, 8)]
      [(portBad s (fld p 8 1) || decide (1 < fld p 9 1) || (decide (15 < fld p 10 1) && fld p 10 1 != 0xFF), stRange),
       (decide ((s.port r).st = .closed), stBadState),
       ((List.range 8).any fun i => decide (top < i) && fld p (12 + i) 1 != 0, stBadParam)]
      (shadowNow s r 0x0502 h p)) ∧
    (let r := portNo (fld p 8 1)
     let addr := fld p 16 8
     let len := fld p 24 4
     answers (.waveTcompLoad h p) s 0x0503 h p [(8, 1), (9, 1), (10, 1), (11, 1), (12, 2), (14, 2), (16, 8), (24, 4), (28, 1)]
      [(decide (2 < fld p 11 1) || rsv (fld p 28 1) 0x01, stBadParam),
       (portBad s (fld p 8 1) || decide (1 < fld p 9 1) || out (fld p 10 1) 1 8 || decide (320 < fld p 12 2) || wrongLen h len 64 ||
         beyond s h addr len, stRange),
       (misaddr h addr || mislen h len, stAlign), (decide ((s.port r).st = .closed), stBadState)]
      (beginRead s 0x0503 h p addr len (bit (fld p 28 1) 0))) ∧
    (let r := portNo (fld p 8 1)
     answers (.fireOffsetSet h p) s 0x0504 h p [(8, 1), (9, 1), (12, 16)]
      [((List.range 8).any fun i => !(bit (fld p 9 1) i) && fld p (12 + 2 * i) 2 != 0, stBadParam), (portBad s (fld p 8 1), stRange),
       (decide ((s.port r).st = .closed), stBadState)]
      (shadowNow s r 0x0504 h p)) ∧
    (fld p 8 1 = 0 →
    (let t := fld p 9 1
     let n := tileBytes false (fld p 10 1) (fld p 12 2) (fld p 14 2)
     let addr := fld p 16 8
     let len := fld p 24 4
     answers (.screenLoad h p) s 0x0601 h p [(8, 1), (9, 1), (10, 1), (11, 1), (12, 2), (14, 2), (16, 8), (24, 4), (28, 2), (30, 2), (32, 1)]
      [((fld p 10 1 != 2 && fld p 10 1 != 3) || fld p 11 1 != 0 || fld p 28 4 != 0 || rsv (fld p 32 1) 0x01, stBadParam),
       (out t 1 63 || out (fld p 12 2) 1 4096 || out (fld p 14 2) 1 4096 || decide (0x100000 < n) || wrongLen h len (up64 n) ||
         beyond s h addr len, stRange),
       (misaddr h addr || mislen h len, stAlign), (tileUsed s t && !(tileDamaged s false t), stBusy),
       (decide (poolSize false < poolTaken s false + poolUnits false n), stCapacity)]
      (beginRead s 0x0601 h p addr len (bit (fld p 32 1) 0)))) ∧
    (fld p 8 1 = 1 →
    (let t := fld p 9 1
     let r := portNo (fld p 11 1)
     answers (.screenLoad h p) s 0x0601 h p [(8, 1), (9, 1), (10, 1), (11, 1), (12, 2), (14, 2), (16, 8), (24, 4), (28, 2), (30, 2), (32, 1)]
      [(fld p 10 1 != 0 || fld p 12 4 != 0 || fld p 16 8 != 0 || fld p 24 4 != 0 || fld p 32 1 != 0, stBadParam),
       (decide (63 < t) || portBad s (fld p 11 1) || (t != 0 && (s.tileOf false t).isNone), stRange),
       (decide ((s.port r).st = .closed), stBadState),
       (match s.tileOf false t with
         | some x => t != 0 && x.depth != (s.port r).depth
         | none => false, stBadParam)]
      (shadowNow s r 0x0601 h p))) ∧
    (fld p 8 1 = 2 →
    (let t := fld p 9 1
     answers (.screenLoad h p) s 0x0601 h p [(8, 1), (9, 1), (10, 1), (11, 1), (12, 2), (14, 2), (16, 8), (24, 4), (28, 2), (30, 2), (32, 1)]
      [(fld p 10 1 != 0 || fld p 11 1 != 0 || fld p 12 4 != 0 || fld p 16 8 != 0 || fld p 24 8 != 0 || fld p 32 1 != 0, stBadParam),
       (out t 1 63 || (s.tileOf false t).isNone, stRange), (tileUsed s t, stBusy)]
      (complete ({ s with tiles := assocDel t s.tiles }) h stOk 0))) ∧
    (2 < fld p 8 1 → mayStart s 0x0601 h p = true → exec (.screenLoad h p) s = .next (refuse s h stBadParam)) ∧
    (let r := portNo (fld p 8 1)
     let curves := fld p 9 1 = 1
     let first := fld p 10 2
     let n := fld p 12 2
     let addr := fld p 16 8
     let len := fld p 24 4
     answers (.nucLoad h p) s 0x0602 h p [(8, 1), (9, 1), (10, 2), (12, 2), (14, 1), (16, 8), (24, 4)]
      [(decide (1 < fld p 9 1) || rsv (fld p 14 1) 0x01, stBadParam),
       (portBad s (fld p 8 1) || n == 0 || decide ((if curves then 16 else (s.port r).nozzles) < first + n) ||
         wrongLen h len (up64 (if curves then n * 256 else n * 2)) || beyond s h addr len, stRange),
       (misaddr h addr || mislen h len, stAlign), (decide ((s.port r).st = .closed), stBadState)]
      (beginRead s 0x0602 h p addr len (bit (fld p 14 1) 0))) ∧
    (let r := portNo (fld p 8 1)
     let n := fld p 12 2
     let addr := fld p 16 8
     let len := fld p 24 4
     answers (.delayLoad h p) s 0x0603 h p [(8, 1), (9, 1), (10, 2), (12, 2), (16, 8), (24, 4)]
      [(rsv (fld p 9 1) 0x01, stBadParam),
       (portBad s (fld p 8 1) || n == 0 || decide ((s.port r).nozzles < fld p 10 2 + n) || wrongLen h len (up64 (n * 2)) || beyond s h addr len,
         stRange),
       (misaddr h addr || mislen h len, stAlign), (decide ((s.port r).st = .closed), stBadState)]
      (beginRead s 0x0603 h p addr len (bit (fld p 9 1) 0))) ∧
    (fld p 8 1 = 0 →
    (let t := fld p 9 1
     let n := tileBytes true 0 (fld p 12 2) (fld p 14 2)
     let addr := fld p 16 8
     let len := fld p 24 4
     answers (.maskLoad h p) s 0x0604 h p [(8, 1), (9, 1), (10, 1), (12, 2), (14, 2), (16, 8), (24, 4)]
      [(rsv (fld p 10 1) 0x01, stBadParam),
       (out t 1 63 || out (fld p 12 2) 1 4096 || out (fld p 14 2) 1 4096 || decide (0x100000 < n) || wrongLen h len (up64 n) ||
         beyond s h addr len, stRange),
       (misaddr h addr || mislen h len, stAlign), (maskUsed s t && !(tileDamaged s true t), stBusy),
       (decide (poolSize true < poolTaken s true + poolUnits true n), stCapacity)]
      (beginRead s 0x0604 h p addr len (bit (fld p 10 1) 0)))) ∧
    (fld p 8 1 = 1 →
    (let t := fld p 9 1
     answers (.maskLoad h p) s 0x0604 h p [(8, 1), (9, 1), (10, 1)]
      [(rsv (fld p 10 1) 0x01, stBadParam), (out t 1 63 || (s.tileOf true t).isNone, stRange), (maskUsed s t, stBusy)]
      (complete ({ s with masks := assocDel t s.masks }) h stOk 0))) ∧
    (1 < fld p 8 1 → mayStart s 0x0604 h p = true → exec (.maskLoad h p) s = .next (refuse s h stBadParam)) ∧
    (let r := portNo (fld p 8 1)
     let x := stitchOf p
     let missing := fun (t : Nat) => t != 0 && (s.tileOf true t).isNone
     answers (.stitchConfig h p) s 0x0605 h p [(8, 1), (9, 1), (10, 1), (11, 1), (12, 2), (14, 2), (16, 2), (18, 1), (19, 1), (20, 2), (22, 2), (24, 2)]
      [(rsv (fld p 9 1) 0x01 || (x.leftWidth == 0 && x.leftTile != 0) || (x.rightWidth == 0 && x.rightTile != 0) ||
         (!x.passEn && (x.passTile != 0 || x.passes != 0 || fld p 20 2 != 0 || x.passX != 0 || x.passY != 0)), stBadParam),
       (portBad s (fld p 8 1) || decide (1024 < x.leftWidth) || decide (1024 < x.rightWidth) || (x.passEn && out x.passes 1 16) ||
         decide (x.advance < -8192) || decide (8192 < x.advance) || missing x.leftTile || missing x.rightTile || missing x.passTile, stRange),
       (decide ((s.port r).st = .closed), stBadState),
       ((x.leftWidth != 0 && x.leftTile == 0) || (x.rightWidth != 0 && x.rightTile == 0) || (x.passEn && x.passTile == 0), stBadParam)]
      (shadowNow s r 0x0605 h p)) ∧
    (let r := portNo (fld p 8 1)
     answers (.deckleSet h p) s 0x0606 h p [(8, 1), (12, 2), (14, 2)]
      [(portBad s (fld p 8 1) || decide (8191 < fld p 12 2) || decide (8191 < fld p 14 2) || decide (fld p 14 2 < fld p 12 2), stRange),
       (decide ((s.port r).st = .closed), stBadState)]
      (shadowNow s r 0x0606 h p)) ∧
    (let r := portNo (fld p 8 1)
     let c := compOf p
     answers (.compConfig h p) s 0x0705 h p [(8, 1), (9, 1), (10, 1), (11, 1), (12, 1), (13, 1), (16, 8)]
      [(decide (2 < c.mode) || rsv (fld p 10 1) 0x03 || (c.radius == 1 && c.w2 != 0), stBadParam),
       (portBad s (fld p 8 1) || out c.radius 1 2, stRange), (decide ((s.port r).st = .closed), stBadState),
       (volBad c.vol (topLevel (s.port r).depth), stBadParam)]
      (shadowNow s r 0x0705 h p))

/-- The commands of groups 0x07 (but COMP_CONFIG) and 0x08 (08_nozzle_health.md; 09_thermal_supply.md; 13_commands_events.md R371).
NOZ_MAP_SET begins to read states, puts them into the shadow bank, or makes a monitor reset due at the next boundary; NOZ_MAP_GET reads the
asked map out; RVS_CONFIG makes the configuration due at the next boundary; RVS_LEARN starts, commits or ends a learning run, or moves a
signature set; WEAR_QUERY writes the header or entries, or commits the record; THERM_LIMITS stores its fields; THERM_QUERY writes the record
or waits for a round; SENSOR_SUBSTITUTE sets or clears a substitute and reports it; SUPPLY_QUERY writes its record. One that fails a test of
its rule is refused with the status of the first test that fails, in the order listed. -/
def Obligations.NozzleAndThermalCommandsAnswer : Prop :=
  ∀ (h : CmdHdr) (p : Params) (s : State),
    (let r := portNo (fld p 8 1)
     let x := s.port r
     let op := fld p 9 1
     let n := fld p 12 2
     let addr := fld p 16 8
     let len := fld p 24 4
     let fields := [(8, 1), (9, 1), (10, 2), (12, 2), (14, 1), (15, 1), (16, 8), (24, 4)]
     let checks :=
       [(decide (2 < op) || rsv (fld p 15 1) 0x01 || (op != 1 && fld p 14 1 != 0) || (op != 0 && (addr != 0 || len != 0)), stBadParam),
        (portBad s (fld p 8 1) || out n 1 8192 || decide (x.nozzles < fld p 10 2 + n) ||
           (op == 0 && (wrongLen h len (up64 n) || beyond s h addr len)), stRange),
        (op == 0 && (misaddr h addr || mislen h len), stAlign), (decide (x.st = .closed), stBadState),
        (op == 1 && hostBad (fld p 14 1), stBadParam)]
     (op = 0 → answers (.nozMapSet h p) s 0x0701 h p fields checks (beginRead s 0x0701 h p addr len (bit (fld p 15 1) 0))) ∧
     (op = 1 → answers (.nozMapSet h p) s 0x0701 h p fields checks (shadowNow s r 0x0701 h p)) ∧
     (op ≠ 0 → op ≠ 1 → answers (.nozMapSet h p) s 0x0701 h p fields checks
       (complete (atBoundary (s.modPort r fun y => { y with rvs := { y.rvs with monReset := y.rvs.monReset ++ [(fld p 10 2, n)] } }) r) h stOk 0))) ∧
    (let r := portNo (fld p 8 1)
     let x := s.port r
     let what := fld p 9 1
     let n := fld p 12 2
     let addr := fld p 16 8
     let len := fld p 24 4
     let need := if what = 5 then 64 else if what = 4 then up64 (8 * n) else up64 n
     answers (.nozMapGet h p) s 0x0702 h p [(8, 1), (9, 1), (10, 2), (12, 2), (14, 1), (16, 8), (24, 4)]
      [(decide (5 < what) || rsv (fld p 14 1) 0x01 || (what == 5 && fld p 10 4 != 0), stBadParam),
       (portBad s (fld p 8 1) || (what != 5 && (out n 1 8192 || decide (x.nozzles < fld p 10 2 + n))) || wrongLen h len need ||
          beyond s h addr len, stRange),
       (misaddr h addr || mislen h len, stAlign), (decide (x.st = .closed), stBadState)]
      (readOut 0x0702 h p s addr (padTo need (nozMap (s.port r).tapped what (fld p 10 2) n)))) ∧
    (let r := portNo (fld p 8 1)
     let x := s.port r
     let c := rvsOf p
     answers (.rvsConfig h p) s 0x0703 h p [(8, 1), (9, 1), (10, 1), (11, 1), (12, 1), (13, 1), (14, 2), (16, 1), (17, 1), (18, 1), (19, 1)]
      [(rsv (fld p 9 1) 0x01, stBadParam),
       (portBad s (fld p 8 1) || out c.k 1 8 || out c.n c.k 8 || out c.recover 1 32 || decide (2047 < c.noiseFloor), stRange),
       (decide (x.st = .closed), stBadState),
       (c.enable && !x.canSense, stNotSupported),
       (decide (c.weakAmp ≤ c.clogAmp) || bit c.levels 0 || decide (2 ^ (topLevel x.depth + 1) ≤ c.levels), stBadParam)]
      (complete (atBoundary (s.modPort r fun y => { y with rvs := { y.rvs with cfgDue := some c } }) r) h stOk 0)) ∧
    (let r := portNo (fld p 8 1)
     let x := s.port r
     let op := fld p 9 1
     let addr := fld p 16 8
     let len := fld p 24 4
     let start := op == 0
     let data := op == 3 || op == 4
     let busy := x.rvs.learn.isSome || x.rvs.staged
     let fields := [(8, 1), (9, 1), (10, 1), (11, 1), (12, 4), (16, 8), (24, 4), (28, 1)]
     let checks :=
       [(decide (4 < op) || rsv (fld p 28 1) 0x01 || rsv (fld p 10 1) 0x03 || (!start && fld p 10 6 != 0) ||
           (!data && (addr != 0 || len != 0)), stBadParam),
        (portBad s (fld p 8 1) || (start && (out (fld p 11 1) 4 64 || out (fld p 12 4) 1 3600)) ||
           (data && (wrongLen h len (up64 (64 + 16 * x.nozzles)) || beyond s h addr len)), stRange),
        (data && (misaddr h addr || mislen h len), stAlign), (decide (x.st = .closed), stBadState),
        (op == 1 && (!x.rvs.staged || x.rvs.learn.isSome), stBadState), ((start || op == 3) && busy, stBusy),
        (start && fld p 10 1 == 0, stBadParam)]
     (op = 0 → answers (.rvsLearn h p) s 0x0704 h p fields checks (startLearn s h p r)) ∧
     (op = 1 → answers (.rvsLearn h p) s 0x0704 h p fields checks (commitLearn s h p r)) ∧
     (op = 2 → answers (.rvsLearn h p) s 0x0704 h p fields checks (complete (abortLearn s r) h stOk 0)) ∧
     (op = 3 → answers (.rvsLearn h p) s 0x0704 h p fields checks (beginRead s 0x0704 h p addr len (bit (fld p 28 1) 0))) ∧
     (op ≠ 0 → op ≠ 1 → op ≠ 2 → op ≠ 3 → answers (.rvsLearn h p) s 0x0704 h p fields checks
       (readOut 0x0704 h p s addr (padTo len (sigRecord (s.port r)))))) ∧
    (let r := portNo (fld p 8 1)
     let x := s.port r
     let op := fld p 9 1
     let n := fld p 12 2
     let addr := fld p 16 8
     let len := fld p 24 4
     let need := if op = 0 then 64 else if op = 1 then up64 (8 * n) else 0
     answers (.wearQuery h p) s 0x0706 h p [(8, 1), (9, 1), (10, 2), (12, 2), (14, 1), (16, 8), (24, 4)]
      [(decide (2 < op) || rsv (fld p 14 1) 0x01 || (op != 1 && fld p 10 4 != 0) || (op == 2 && (addr != 0 || len != 0)), stBadParam),
       (portBad s (fld p 8 1) || (op == 1 && (out n 1 8192 || decide (x.nozzles < fld p 10 2 + n))) || wrongLen h len need ||
          beyond s h addr len, stRange),
       (misaddr h addr || mislen h len, stAlign), (decide (x.st = .closed), stBadState),
       (op == 2 && !s.writeSafe, stSupplyLow), (op == 2 && x.prsHigh, stHeadAbsent)]
      (let w := (s.port r).wear
      if op = 0 then
        complete (writeOut s h addr (w.header x.nozzles w.seq w.array s.clk ((s.clk - w.lastCommit) / (1000 * msPh)))) h (outSt s h) 0
      else if op = 1 then readOut 0x0706 h p s addr (padTo need (wearEntries (s.port r) (fld p 10 2) n))
      else pumpHead (addCommit (beginExec s 0x0706 h p .wear 0) r (some s.nextId)) r)) ∧
    (let warn := sfld p 12 2
     let lim := sfld p 14 2
     let amb := fld p 17 1
     answers (.thermLimits h p) s 0x0801 h p [(8, 2), (10, 2), (12, 2), (14, 2), (16, 1), (17, 1), (24, 32)]
      [(amb == 0xFF && fld p 24 32 != 0, stBadParam),
       (out (fld p 8 2) 16 1000 || decide (60000 < fld p 10 2) || decide (warn < -640 ∨ 2160 < warn ∨ lim < warn + 16 ∨ 2320 < lim) ||
          fld p 16 1 == 0 || (amb != 0xFF && decide (7 < amb)), stRange),
       (amb != 0xFF && !(rising ((ambCurveOf p).map (·.1))), stBadParam)]
      (complete ({ s with th := { s.th with
      round := fld p 8 2, graceMs := fld p 10 2, dieWarn := warn, dieLimit := lim, throttle := fld p 16 1,
      ambient := if amb = 0xFF then none else toFin? 8 amb, ambCurve := if amb = 0xFF then [] else ambCurveOf p } }) h stOk 0)) ∧
    (let op := fld p 8 1
     let addr := fld p 16 8
     answers (.thermQuery h p) s 0x0802 h p [(8, 1), (16, 8)]
      [(decide (1 < op), stBadParam), (beyond s h addr 256, stRange), (misaddr h addr, stAlign),
       (op == 1 && (idx 32).any fun r => (s.port r).st.busy, stBadState)]
      (if op = 1 then beginExec s 0x0802 h p .round 0
      else complete (writeOut s h addr (thermRecord s)) h (outSt s h) s.thmState)) ∧
    (let r := portNo (fld p 8 1)
     let i := fld p 9 1
     let clear := fld p 10 1 == 1
     let x := s.port r
     let y := x.sensor i
     let u := substOf p
     answers (.sensorSubstitute h p) s 0x0803 h p [(8, 1), (9, 1), (10, 1), (11, 1), (12, 1), (13, 1), (14, 2)]
      [(decide (1 < i ∨ 1 < fld p 10 1 ∨ 1 < fld p 11 1 ∨ 1 < u.sensor) || (clear && (fld p 11 1 != 0 || fld p 14 2 != 0)) ||
          ((clear || u.ambient) && fld p 12 2 != 0), stBadParam),
       (portBad s (fld p 8 1) || portBad s u.port || decide (u.ofs < -320 ∨ 320 < u.ofs), stRange),
       (decide (x.st = .closed) || (if clear then y.subst.isNone else !y.faulty || !(x.sensorsUsed.contains i)), stBadState),
       (!clear && substBad s p, stBadParam)]
      (complete (let set := fun (o : Option Subst) => s.modPort r fun z => z.modSensor i fun w =>
        { w with subst := o, value := if o.isNone then none else w.value }
      if clear then thermEvent (set none) evSensorFault 1 (some r) i noTemp 0 1 7 (-1)
      else thermEvent (set (some u)) evSensorFault 1 (some r) i noTemp 0 0 6 (-1)) h stOk 0)) ∧
    (let addr := fld p 16 8
     answers (.supplyQuery h p) s 0x0804 h p [(16, 8)]
      (addrChecks s h addr 64)
      (complete (writeOut s h addr (supplyRecord s)) h (outSt s h) (s.thmSupply % 32)))

/-- The commands of groups 0x09 to 0x0C (10_spine.md; 11_press_bus.md; 15_otp_trust.md; 14_reset_boot.md; 13_commands_events.md R371).
SPINE_CONFIG, BUS_CONFIG and BUS_FILTER store their fields; SPINE_ENUMERATE begins an enumeration; SPINE_QUERY, OTP_READ and FW_QUERY write
their records; REMOTE_ENC_BIND binds a source to a remote one or unbinds it; BUS_SEND queues its frame with its deadline; BUS_QUERY writes
the status or hands out received frames; OTP_PROGRAM and OTP_SEAL begin their pulses unless everything is there already; OTP_MARGIN_CHECK
and OTP_LOCK end at once; FW_STAGE begins to read the image; FW_VERIFY checks a slot; FW_ACTIVATE selects a slot, confirms a trial or boots
the image in RAM. One that fails a test of its rule is refused with the status of the first test that fails, in the order listed. -/
def Obligations.SpineBusOtpAndFirmwareCommandsAnswer : Prop :=
  ∀ (h : CmdHdr) (p : Params) (s : State),
    (answers (.spineConfig h p) s 0x0901 h p [(8, 1), (9, 1), (10, 1), (11, 1), (12, 1), (14, 2), (16, 4), (20, 2), (24, 4)]
      [(rsv (fld p 8 1) 0x03 || rsv (fld p 9 1) 0x07 || rsv (fld p 12 1) 0x0F || (!s.isRoot && fld p 16 4 != 0), stBadParam),
       (out (fld p 14 2) 128 4096 || (s.isRoot && out (fld p 16 4) 500 12000) || decide (0xFFE < fld p 20 2) || out (fld p 24 4) 1 60000, stRange)]
      (complete (setSpine s p) h stOk 0)) ∧
    (answers (.spineEnumerate h p) s 0x0902 h p []
      [(!s.isRoot, stBadState), (s.sp.st == .joining, stBusy)]
      (enumerateTree s h p)) ∧
    (let addr := fld p 16 8
     answers (.spineQuery h p) s 0x0903 h p [(16, 8)]
      (addrChecks s h addr 64)
      (complete (writeOut s h addr (spineRecord s)) h (outSt s h) (s.sp.st.code + 2 ^ 16 * s.sp.nodeId))) ∧
    (let n := srcNo (fld p 8 1)
     let unbind := bit (fld p 9 1) 0
     answers (.remoteEncBind h p) s 0x0904 h p [(8, 1), (9, 1), (10, 2), (12, 1)]
      [(rsv (fld p 9 1) 0x01 || (unbind && (fld p 10 2 != 0 || fld p 12 1 != 0)), stBadParam),
       (out (fld p 8 1) 4 15 || (!unbind && out (fld p 10 2) 1 0xFFE) || decide (3 < fld p 12 1), stRange), (s.srcBusy n, stBadState),
       (!unbind && s.sp.nodeId != 0 && fld p 10 2 == s.sp.nodeId, stBadParam)]
      (complete ((holdTracked s n).modSrc n fun x =>
      if unbind then { x with st := .disabled, cause := 0, bound := none, copy := none, base := none, speed := 0 }
      else { x with st := .acquiring, cause := 0, bound := some (fld p 10 2, fld p 12 1), copy := none, base := none, speed := 0, cellAt := s.clk }) h stOk 0)) ∧
    (let f := fld p 10 1
     let mode := fld p 9 1
     answers (.busConfig h p) s 0x0A01 h p [(8, 1), (9, 1), (10, 1), (12, 4), (16, 4), (20, 1), (24, 2), (26, 2), (28, 2), (30, 1), (31, 1), (32, 2), (34, 2), (36, 2), (38, 1)]
      [(decide (3 < mode) || rsv f 0x07 || decide (2 < fld p 30 1) || rsv (fld p 38 1) 0x0F || (decide (mode < 2) && fld p 16 4 != 0) ||
          (!(bit f 2) && fld p 20 1 != 0), stBadParam),
       (busRange p, stRange), (fld p 26 2 == fld p 28 2 || (bit f 2 && mode != 2) || busRate p, stBadParam)]
      (complete (setBus s p) h stOk 0)) ∧
    (let f := fld p 10 1
     let top := if bit f 1 then 2 ^ 29 else 2 ^ 11
     answers (.busFilter h p) s 0x0A02 h p [(8, 1), (9, 1), (10, 1), (12, 4), (16, 4)]
      [(rsv f 0x03 || decide (top ≤ fld p 12 4) || decide (top ≤ fld p 16 4), stBadParam), (decide (1 < fld p 8 1) || decide (15 < fld p 9 1), stRange)]
      (complete (s.modCan (finOf 2 (by decide) (fld p 8 1)) fun k => { k with filters := upd k.filters (finOf 16 (by decide) (fld p 9 1)) fun _ =>
      { enable := bit f 0, ext := bit f 1, id := BitVec.ofNat 29 (fld p 12 4), mask := BitVec.ofNat 29 (fld p 16 4) } }) h stOk 0)) ∧
    (let c := finOf 2 (by decide) (fld p 8 1)
     let f := fld p 9 1
     let k := s.can c
     let len := fld p 10 1
     let ext := bit f 0
     answers (.busSend h p) s 0x0A03 h p [(8, 1), (9, 1), (10, 1), (12, 4), (16, 2), (24, 32)]
      [(rsv f 0x07 || (bit f 2 && !(bit f 1)) || !(canLen (bit f 1) len) || (len < 32 && fld p (24 + len) (32 - len) != 0), stBadParam),
       (decide (1 < fld p 8 1) || decide ((if ext then 2 ^ 29 else 2 ^ 11) ≤ fld p 12 4) || out (fld p 16 2) 1 10000, stRange),
       (decide (k.mode = .off) || decide (k.mode = .listen) || k.isOff, stBadState), (decide (8 ≤ k.host.length), stBusy),
       ((ext && fld p 12 4 / 65536 == s.press.idBase.toNat) || (bit f 1 && decide (k.mode = .classic)), stBadParam)]
      (let m : CanFrame := { id := BitVec.ofNat 29 (fld p 12 4), ext := ext, fd := bit f 1, brs := bit f 2, rtr := false, data := fldBytes p 24 len }
      (beginExec s 0x0A03 h p (.can (s.clk + fld p 16 2 * msPh)) 0).modCan c fun x => { x with host := x.host ++ [(s.nextId, m)] })) ∧
    (let c := finOf 2 (by decide) (fld p 8 1)
     let rx := fld p 9 1 == 1
     let max_ := fld p 10 1
     let addr := fld p 16 8
     let len := fld p 24 4
     let need := if rx then 64 * max_ else 64
     let k := s.can c
     let n := if rx then min max_ k.fifo.length else 0
     let res := k.st.code + 2 ^ 32 * n
     answers (.busQuery h p) s 0x0A04 h p [(8, 1), (9, 1), (10, 1), (16, 8), (24, 4)]
      [(decide (1 < fld p 9 1) || (!rx && max_ != 0), stBadParam),
       (decide (1 < fld p 8 1) || (rx && out max_ 1 64) || wrongLen h len need || beyond s h addr len, stRange),
       (misaddr h addr || mislen h len, stAlign)]
      (if rx then reportOut 0x0A04 h p (s.modCan c fun x => { x with fifo := x.fifo.drop n }) addr ((k.fifo.take n).flatMap canRecord) res
      else complete (writeOut s h addr (canStatus s k)) h (outSt s h) res)) ∧
    (let r := fld p 8 1
     let n := fld p 12 2
     let addr := fld p 16 8
     answers (.otpRead h p) s 0x0B01 h p [(8, 1), (9, 1), (10, 2), (12, 2), (16, 8)]
      [(decide (2 < fld p 9 1), stBadParam),
       (decide (7 < r) || out n 1 16 || decide (otpSize r < fld p 10 2 + n) || beyond s h addr (up64 (16 * n)), stRange),
       (misaddr h addr, stAlign), (s.otp.readLock.getLsbD r, stLocked)]
      (complete (writeOut s h addr (pad64 ((List.range n).flatMap fun i => otpEntry (fld p 9 1) (s.otp.word (otpBase r + fld p 10 2 + i))))) h (outSt s h) (0))) ∧
    (let r := fld p 8 1
     let i := fld p 10 2
     let data := BitVec.ofNat 64 (fld p 16 8)
     let inside := decide (r ≤ 7) && decide (i < otpSize r)
     let w := s.otp.word (otpBase r + i)
     let there := wordSealed w.m0
     let st := if inside then programStatus s.otp r i data else 0
     answers (.otpProgram h p) s 0x0B02 h p [(8, 56)]
      [(decide (r ≤ 7) && s.otp.progLock.getLsbD r, stLocked),
       (undefSet p [(8, 1), (10, 2), (16, 8)] || (inside && programBad r i data), stBadParam),
       (st == stOtpSealed, stOtpSealed), (st == stOtpConflict, stOtpConflict), (!s.writeSafe, stSupplyLow), (!inside, stRange)]
      (if there then complete s h stOk 0
      else
        let t1 := beginExec s 0x0B02 h p .otp 0
        otpStart t1 { otpJob s.nextId r [{ word := otpBase r + i, bits := otpBits data true, step := 4 }] with torn := w.torn })) ∧
    (let r := fld p 8 1
     let f := fld p 9 1
     let used := fld p 10 2
     let noLock := bit f 0
     let rd := bit f 1
     let o := s.otp
     let mapW := otpBase r + otpSize r - 2
     let locked := o.locked r
     let hasRd := (o.lockBits r).getLsbD 1
     let done := decide (o.stateOf r = 2) && !noLock && locked && (!rd || hasRd)
     let sealCode := (o.read (otpBase r + otpSize r - 1)).data.toNat % 2 ^ 32
     let doneRes := sealCode + o.stateOf r * 2 ^ 32
     answers (.otpSeal h p) s 0x0B03 h p [(8, 1), (9, 1), (10, 2)]
      [(rsv f 0x03 || (noLock && rd) || r == 4 || r == 5, stBadParam), (decide (7 < r) || out used 1 (otpSize r - 2), stRange),
       (o.incomplete r, stBadState), (locked && !noLock && rd && !hasRd, stOtpSealed), (!done && o.progLock.getLsbD r, stLocked),
       (!s.writeSafe, stSupplyLow),
       (!done && wordSealed (o.word mapW).m0 && decide ((o.read mapW).data ≠ mapData r used), stOtpConflict)]
      (if done then complete s h stOk doneRes
      else
        let t1 := beginExec s 0x0B03 h p .otp 0
        otpStart t1 { otpJob s.nextId r (otpTarget o mapW (mapData r used) 0) with
                        used := used, checked := false, lock := if noLock then none else some rd })) ∧
    (let r := fld p 8 1
     let ws := otpWordsOf r
     let bad := s.otp.badIn ws
     let fresh := bad.filter fun n => !(s.otp.known.contains n)
     let res := bad.length + fresh.length * 2 ^ 16 + uns 16 s.dieTemp * 2 ^ 32
     let st := if bad.isEmpty then stOk else stOtpMarginal
     answers (.otpMarginCheck h p) s 0x0B04 h p [(8, 1)]
      [(decide (7 < r) && r != 0xFF, stRange)]
      (complete (marginCheck s ws 2) h st res)) ∧
    (let prog := BitVec.ofNat 8 (fld p 8 1)
     let rd := BitVec.ofNat 8 (fld p 9 1)
     let res := fun (t : State) => t.otp.progLock.toNat + 256 * t.otp.readLock.toNat
     answers (.otpLock h p) s 0x0B05 h p [(8, 1), (9, 1)]
      []
      (complete (lockSet s prog rd) h stOk (res (lockSet s prog rd)))) ∧
    (let n := fld p 8 1
     let len := fld p 12 4
     let addr := fld p 16 8
     let ns := bit (fld p 9 1) 0
     answers (.fwStage h p) s 0x0C01 h p [(8, 1), (9, 1), (12, 4), (16, 8)]
      [(rsv (fld p 9 1) 0x01, stBadParam), (decide (2 < n) || outLen h len 512 0x300000 || beyond s h addr len, stRange),
       (misaddr h addr || mislen h len, stAlign),
       (if n = 2 then !s.romOnly else (s.fwSlot n).st == .running, stBadState), (!s.writeSafe, stSupplyLow)]
      (let t1 := if n = 2 then s else s.emit (.flashErase (trailerAddr n))
      beginRead (t1.setFwSlot n { st := if noHost t1 h then .empty else .staging, image := [] }) 0x0C01 h p addr len ns)) ∧
    (let n := fld p 8 1
     let f := s.fwSlot n
     let st := fwStatus s f
     let end_ := fun (t : State) => complete t h st (verifyResult t f st)
     answers (.fwVerify h p) s 0x0C02 h p [(8, 1)]
      [(decide (2 < n), stRange)]
      (end_ (if st = stOk then markVerified s n else s))) ∧
    (let op := fld p 8 1
     let n := fld p 9 1
     let f := fld p 10 1
     let lim := fld p 11 1
     let slot := if op = 2 then 2 else n
     let st := if op = 1 then 0 else fwStatus s (s.fwSlot slot)
     let ar := decide (op = 1) && bit f 1
     let seq := (s.bootRec.map (·.seq)).getD 0 + 1
     answers (.fwActivate h p) s 0x0C03 h p [(8, 1), (9, 1), (10, 1), (11, 1)]
      [(decide (2 < op) || (op != 0 && n != 0) || rsv f (if op = 0 then 1 else if op = 1 then 2 else 0) || (!(op == 0 && bit f 0) && lim != 0), stBadParam),
       (decide (1 < n) || (op == 0 && bit f 0 && out lim 1 15), stRange),
       ((op == 1 && !s.onTrial) || (op == 2 && !s.romOnly), stBadState), (st != 0, st), (op != 2 && !s.writeSafe, stSupplyLow),
       (ar && s.otp.progLock.getLsbD 5, stLocked)]
      (if op = 0 then selectSlot s h p n
      else if op = 1 then match s.flash.governing with
        | some g => confirmTrial s h p g
        | none => s
      else bootImage (complete s h stOk 0) 2 s.flash.ram.image)) ∧
    (let addr := fld p 16 8
     answers (.fwQuery h p) s 0x0C04 h p [(16, 8)]
      (addrChecks s h addr 64)
      (complete (writeOut s h addr (fwRecord s)).draw h (outSt s h) s.rstBoot))

/-- Ring registers (12_host_rings.md R341, R342, R345, R346, R354; GLB_ERR and RING_CTRL of its tables). A doorbell on a host-produced ring
that exists, with an index below its size, sets its tail and nothing else; any other sets GLB_ERR.DOORBELL and nothing else. A return of
slots that lie between head and tail sets the head of a controller-produced ring that exists. A read of RING_TAIL answers the tail. Setting
ENABLE on an ABSENT ring creates it ACTIVE, empty and with its fields when the checks pass, and otherwise stores their status in HALT_CODE;
the creation of a ring that is no image ring touches nothing else. Setting RESUME on a HALTED ring whose other fields stay makes it ACTIVE. -/
def Obligations.RingRegistersAct : Prop := ∀ (s : State) (r : Fin 64) (v : U32),
  let g := s.ring r
  let n := v.toNat % 65536
  let plan : RingPlan := ⟨r.1, v.getLsbD 2, v.toNat / 2 ^ 8 % 64, v.toNat / 2 ^ 16 % 64, g.size.toNat, g.base.toNat, v.toNat / 2 ^ 24⟩
  (produced r.1 = false → g.st ≠ .absent → n < g.size.toNat →
    exec (.ringTailDoorbell r v) s = .next (s.modRing r fun x => { x with tail := n })) ∧
  (produced r.1 = true ∨ g.st = .absent ∨ g.size.toNat ≤ n →
    exec (.ringTailDoorbell r v) s = .next { s with glb := { s.glb with err := s.glb.err ||| 2 } }) ∧
  (produced r.1 = true → g.st ≠ .absent → n < g.size.toNat → (n + g.size.toNat - g.head) % g.size.toNat ≤ g.used →
    exec (.ringHeadReturn r v) s = .next (s.modRing r fun x => { x with head := n })) ∧
  (produced r.1 = false ∨ g.st = .absent ∨ g.size.toNat ≤ n ∨ g.used < (n + g.size.toNat - g.head) % g.size.toNat →
    exec (.ringHeadReturn r v) s = .next { s with glb := { s.glb with err := s.glb.err ||| 2 } }) ∧
  (exec (.ringTailRead r) s = .next { s with out := .readData (0x10010 + 0x40 * r.1) (BitVec.ofNat 32 g.tail) :: s.out }) ∧
  (g.st = .absent → v.getLsbD 0 = true → firstBad (planChecks s plan) = 0 →
    ∃ t, exec (.ringCtrlEnable r v) s = .next t ∧
      t.ring r = { Ring.reset with base := g.base, size := g.size, holdoff := v.extractLsb' 24 8, pair := v.extractLsb' 16 6,
                                   vector := v.extractLsb' 8 6, irqEn := v.getLsbD 2, st := .active } ∧
      (∀ r', r' ≠ r → t.ring r' = s.ring r') ∧ (32 ≤ r.1 → { t with rings := s.rings } = s)) ∧
  (g.st = .absent → v.getLsbD 0 = true → firstBad (planChecks s plan) ≠ 0 →
    ∃ t, exec (.ringCtrlEnable r v) s = .next t ∧
      t.ring r = { g with holdoff := v.extractLsb' 24 8, pair := v.extractLsb' 16 6, vector := v.extractLsb' 8 6, irqEn := v.getLsbD 2,
                          haltCode := firstBad (planChecks s plan) } ∧
      (∀ r', r' ≠ r → t.ring r' = s.ring r') ∧ { t with rings := s.rings } = s) ∧
  (g.st = .halted → v.getLsbD 1 = true → v.extractLsb' 24 8 = g.holdoff → v.extractLsb' 16 6 = g.pair → v.extractLsb' 8 6 = g.vector → v.getLsbD 2 = g.irqEn →
    exec (.ringCtrlResume r v) s = .next (s.modRing r fun x => { x with st := .active, haltCode := 0, rereads := 0 }))

/-- A register write follows the access code of its register (00_scope.md R6; 12_host_rings.md R338; the register tables): an offset that
is not aligned or lies in no block only sets GLB_ERR.ACCESS; GLB_ERR, RST_CAUSE and the EVENT registers clear the bits written 1 and
nothing else changes; OTP_LOCK bits can only be set; RDY_HOLD and RST_SCRATCH take the value written; RING_SIZE is stored while the ring is
ABSENT; the blocks that are read-only take no write. -/
def Obligations.RegisterWritesFollowAccess : Prop := ∀ (s : State) (v : U32),
  (∀ (off : BitVec 24), off.toNat % 4 ≠ 0 ∨ blockOf off.toNat = none →
    exec (.registerWrite off v) s = .next { s with glb := { s.glb with err := s.glb.err ||| 8 } }) ∧
  (exec (.registerWrite 0x20 v) s = .next { s with glb := { s.glb with err := s.glb.err &&& ~~~(v.setWidth 5) } }) ∧
  (exec (.registerWrite 0x14 v) s = .next (irqPorts { s with glb := { s.glb with irqMask := v } })) ∧
  (exec (.registerWrite 0x40 v) s = .next { s with glb := { s.glb with
    pselA := v.setWidth 5, bcastA := v.getLsbD 31, err := if s.partPorts ≤ v.toNat % 32 then s.glb.err ||| 1 else s.glb.err } }) ∧
  (exec (.registerWrite 0x1000 v) s = .next { s with rst := { s.rst with cause := s.rst.cause &&& ~~~(v.setWidth 6) } }) ∧
  (exec (.registerWrite 0x1010 v) s = .next { s with rst := { s.rst with
    scratch := v.extractLsb' 16 16, vbatPor := s.rst.vbatPor && !(v.getLsbD 0) } }) ∧
  (exec (.registerWrite 0x2004 v) s = .next { s with otp := { s.otp with
    progLock := s.otp.progLock ||| v.extractLsb' 0 8, readLock := s.otp.readLock ||| v.extractLsb' 8 8 } }) ∧
  (exec (.registerWrite 0x30B0 v) s = .next { s with th := { s.th with event := s.th.event &&& ~~~(v.setWidth 7) } }) ∧
  (∀ (n : Fin 4), exec (.registerWrite (BitVec.ofNat 24 (0x4080 + 0x400 * n.1)) v) s =
    .next (s.modSrc (srcNo n.1) fun x => { x with cnt := { x.cnt with event := x.cnt.event &&& ~~~(v.setWidth 6) } })) ∧
  (∀ (q : Fin 8), exec (.registerWrite (BitVec.ofNat 24 (0x5070 + 0x200 * q.1)) v) s =
    .next (s.modQuire q fun x => { x with event := x.event &&& ~~~(v.setWidth 6) })) ∧
  (exec (.registerWrite 0x6060 v) s = .next { s with spr := { s.spr with event := s.spr.event &&& ~~~(v.setWidth 5) } }) ∧
  (exec (.registerWrite 0x7008 v) s = .next { s with press := { s.press with rdyHold := v.getLsbD 4 } }) ∧
  (exec (.registerWrite 0x7020 v) s = .next { s with press := { s.press with event := s.press.event &&& ~~~(v.setWidth 6) } }) ∧
  (∀ (r : Fin 64), (s.ring r).st = .absent →
    exec (.registerWrite (BitVec.ofNat 24 (0x10008 + 0x40 * r.1)) v) s = .next (s.modRing r fun g => { g with size := v.setWidth 17 })) ∧
  (∀ (off : BitVec 24), off.toNat % 4 = 0 → blockOf off.toNat = some .mgt ∨ blockOf off.toNat = some .pba →
    exec (.registerWrite off v) s = .next s)

/-- Accesses other than of four aligned bytes (12_host_rings.md R338): one of another size than four bytes (eight in the MSI-X structures),
not aligned to its size, or outside the blocks has no effect but GLB_ERR.ACCESS, and a read of that kind returns 0. An aligned access of eight
bytes to the MSI-X table is its two halves, the low one first; to the PBA a write has no effect; a read answers both halves and changes
nothing else. A four-byte aligned access to a block is none of these and changes nothing. -/
def Obligations.BadAccessesSetOneBit : Prop := ∀ (s : State) (off : BitVec 24) (size : Nat) (v : BitVec 64),
  (size ≠ 4 ∧ size ≠ 8 ∨ off.toNat % 4 ≠ 0 ∨ blockOf off.toNat = none ∨
     size = 8 ∧ (off.toNat % 8 ≠ 0 ∨ blockOf off.toNat ≠ some .msix ∧ blockOf off.toNat ≠ some .pba) →
    exec (.barAccessInvalid true off ⟨size, v⟩) s = .next { s with glb := { s.glb with err := s.glb.err ||| 8 } } ∧
    exec (.barAccessInvalid false off ⟨size, v⟩) s =
      .next { s with glb := { s.glb with err := s.glb.err ||| 8 }, out := .readData off.toNat 0 :: s.out }) ∧
  (size = 8 → off.toNat % 8 = 0 → blockOf off.toNat = some .msix ∨ blockOf off.toNat = some .pba →
    exec (.barAccessInvalid false off ⟨size, v⟩) s = .next { s with
      out := .readData (off.toNat + 4) (BitVec.ofNat 32 (readReg s (off.toNat + 4))) ::
        .readData off.toNat (BitVec.ofNat 32 (readReg s off.toNat)) :: s.out }) ∧
  (size = 8 → off.toNat % 8 = 0 → blockOf off.toNat = some .msix →
    exec (.barAccessInvalid true off ⟨size, v⟩) s =
      .next (msixWrite (off.toNat % 0x1000 + 4) (v.extractLsb' 32 32) (msixWrite (off.toNat % 0x1000) (v.extractLsb' 0 32) s))) ∧
  (size = 8 → off.toNat % 8 = 0 → blockOf off.toNat = some .pba →
    exec (.barAccessInvalid true off ⟨size, v⟩) s = .next s) ∧
  (size = 4 → off.toNat % 4 = 0 → blockOf off.toNat ≠ none →
    exec (.barAccessInvalid true off ⟨size, v⟩) s = .next s ∧ exec (.barAccessInvalid false off ⟨size, v⟩) s = .next s)

/-- Reads that latch (02_position.md R74; 15_otp_trust.md R435; 01_architecture.md R29; 12_host_rings.md): a read of ENC_RAW_LO answers the
low half of the raw position and latches all five values of that instant; a read of a QUIRE pair's low half answers it and latches the
pair's high half; a read of GLB_TB_LO answers the low half of the timebase and latches the high half; a read of MGT_MEASn_W0 answers its
first word and latches the register and its count; a read of PW_STATUS answers the register. Nothing else changes. -/
def Obligations.LatchingReads : Prop := ∀ (s : State),
  (∀ (n : Fin 4), let m := srcNo n.1;
    let c : Snapshot := { raw := (s.source m).raw.signExtend 64, mark := (s.source m).mark.signExtend 64, tb := BitVec.ofNat 64 s.ns,
                          tracked := (s.trackedNow m).signExtend 64, speed := BitVec.ofNat 64 (s.source m).speed };
    exec (.encRawLoRead n) s = .next { s with
      src := upd s.src m fun x => { x with latch := some c },
      out := .readData (0x4000 + 0x400 * n.1 + 0x40) (BitVec.ofNat 32 (((s.source m).raw.signExtend 64).toNat % 2 ^ 32)) :: s.out }) ∧
  (∀ (q : Fin 8) (pr : QuirePair), let v := quirePair s q pr;
    exec (.quireLowHalfRead q pr) s = .next { s with
      quires := upd s.quires q fun x => { x with latches := upd x.latches (pairNo pr) fun _ => BitVec.ofNat 32 (v / 2 ^ 32 % 2 ^ 32) },
      out := .readData (0x5000 + 0x200 * q.1 + pairOff pr) (BitVec.ofNat 32 (v % 2 ^ 32)) :: s.out }) ∧
  (exec .glbTbLoRead s = .next { s with
    glb := { s.glb with tbHi := BitVec.ofNat 32 (s.tb / 4 % 2 ^ 64 / 2 ^ 32 % 2 ^ 32) },
    out := .readData 0x18 (BitVec.ofNat 32 (s.tb / 4 % 2 ^ 64 % 2 ^ 32)) :: s.out }) ∧
  (∀ (n : Fin 8), let x := look s.mgt.meas n;
    exec (.mgtMeasW0Read n) s = .next { s with
      mgt := { s.mgt with latch := upd s.mgt.latch n fun _ => x, latchCnt := upd s.mgt.latchCnt n fun _ => look s.mgt.cnts n },
      out := .readData (0x8100 + 0x40 * n.1) (BitVec.ofNat 32 (rdAt x 0 4)) :: s.out }) ∧
  (∀ (w : Win), exec (.pwStatusRead w) s = .next { s with
    out := .readData ((match w with | .a => 0x20000 | .b => 0x21000) + 8) (BitVec.ofNat 32 (winReg s w 8)) :: s.out })

/-- Compares and the late window through a port window (03_fire_timing.md R88, R89, R90). A write through a window that reaches no quire (it
broadcasts, shows no port, or the port has no quire) changes nothing. Else the late window takes the low 16 bits; a low half is staged;
the high half of the start compare re-aims an ARMED quire that is not behind the new compare, and in any other state (or a SCAN quire)
only sets QUIRE_EVENT.CMP_IGNORED; the high half of the stop compare acts in ARMED, FLYLEAF, PRINTING and SUSPENDED, and else only sets
the same bit.
Shadowed registers and link training through a window that shows one port (03_fire_timing.md R85; 05_screening.md R155; 01_architecture.md
R17; 07_head_ports.md R212): on a port with banks and no copy pending, a fractional offset and the level cap land in the shadow bank and
the live bank stays; while the copy of R17 is due they are kept for it; a CLOSED port takes none. On an IDLE port PW_CTRL takes ARM_CLEAR
and HTR_FORCE_OFF at once, and with RETRAIN the port repeats the link steps: its link goes down and its first attempt begins. -/
def Obligations.WindowWritesAct : Prop := ∀ (s : State) (w : Win) (v : U32),
  (s.winQuire w = none →
    (∀ c ∈ [CmpSel.start, .stop], exec (.pwCmpLowWrite w c v) s = .next s) ∧ exec (.pwCmpStartHighWrite w v) s = .next s ∧
    exec (.pwCmpStopHighWrite w v) s = .next s ∧ exec (.pwLateWinWrite w v) s = .next s) ∧
  (∀ (q : Fin 8), s.winQuire w = some q →
    exec (.pwLateWinWrite w v) s = .next (s.modQuire q fun x => { x with lateWin := v.toNat % 65536 })) ∧
  (∀ (q : Fin 8) (c : CmpSel), s.winQuire w = some q →
    ∃ t, exec (.pwCmpLowWrite w c v) s = .next t ∧ { t with glb := s.glb } = s ∧
      t.staged w c 7 = sgn 64 (7 * 2 ^ 32 + v.toNat) ∧ (c = .start → t.staged w .stop 7 = s.staged w .stop 7)) ∧
  (∀ (q : Fin 8), s.winQuire w = some q → (s.quire q).st = .armed → (s.quire q).scan = false → s.behindBy q (s.staged w .start v) ≤ 0 →
    exec (.pwCmpStartHighWrite w v) s = .next (aimAt s q (s.staged w .start v))) ∧
  (∀ (q : Fin 8), s.winQuire w = some q → (s.quire q).st = .armed → (s.quire q).scan = false → ((s.quire q).lateWin : Int) < s.behindBy q (s.staged w .start v) → 0 < s.behindBy q (s.staged w .start v) →
    exec (.pwCmpStartHighWrite w v) s =
        .next (lateStartEvent s q stCompareBehind 0 (s.behindBy q (s.staged w .start v)) (s.staged w .start v))) ∧
  (∀ (q : Fin 8), s.winQuire w = some q → (s.quire q).st ≠ .armed ∨ (s.quire q).scan = true →
    exec (.pwCmpStartHighWrite w v) s = .next (s.modQuire q fun x => { x with event := x.event ||| 32 })) ∧
  (∀ (q : Fin 8), s.winQuire w = some q → (s.quire q).st = .armed ∨ (s.quire q).st = .flyleaf ∨ (s.quire q).st = .printing ∨ (s.quire q).st = .suspended →
    exec (.pwCmpStopHighWrite w v) s = .next (evalStop s q (s.staged w .stop v))) ∧
  (∀ (q : Fin 8), s.winQuire w = some q → (s.quire q).st.stoppable = false →
    exec (.pwCmpStopHighWrite w v) s = .next (s.modQuire q fun x => { x with event := x.event ||| 32 })) ∧
  (∀ (p : Fin 32) (i : Fin 8), s.winTargets w = [p] → (s.port p).st = .closed →
    exec (.pwFracOfsWrite w i v) s = .next s ∧ exec (.pwLevelCapWrite w v) s = .next s) ∧
  (∀ (p : Fin 32) (i : Fin 8) (b : Banks), s.winTargets w = [p] → (s.port p).st ≠ .closed → (s.port p).banks = some b → b.old = none →
    ∃ t, exec (.pwFracOfsWrite w i v) s = .next t ∧ { t with ports := s.ports } = s ∧ (∀ r, r ≠ p → t.port r = s.port r) ∧
      ∃ b', (t.port p).banks = some b' ∧ look b'.shadow.frac i = (v.setWidth 16).toInt ∧
        (∀ j, j ≠ i → look b'.shadow.frac j = look b.shadow.frac j) ∧ { b' with shadow := b.shadow, written := b.written } = b ∧
        { b'.shadow with frac := b.shadow.frac } = b.shadow) ∧
  (∀ (p : Fin 32) (b : Banks), s.winTargets w = [p] → (s.port p).st ≠ .closed → (s.port p).banks = some b → b.old = none →
    ∃ t, exec (.pwLevelCapWrite w v) s = .next t ∧ { t with ports := s.ports } = s ∧ (∀ r, r ≠ p → t.port r = s.port r) ∧
      ∃ b', (t.port p).banks = some b' ∧ b'.shadow = { b.shadow with cap := v.toNat % 8 } ∧ b'.live = b.live) ∧
  (∀ (p : Fin 32) (b : Banks), s.winTargets w = [p] → (s.port p).st ≠ .closed → (s.port p).banks = some b → b.old ≠ none →
    exec (.pwLevelCapWrite w v) s =
      .next (s.modPort p fun x => { x with banks := x.banks.map fun b => { b with heldW := b.heldW ++ [.reg 0x44 v] } })) ∧
  (∀ (p : Fin 32) (htrOff armClear : Bool), s.winTargets w = [p] → (s.port p).st = .idle → (s.port p).hm = [] →
    ∃ t, exec (.pwCtrlRetrain w htrOff armClear) s = .next t ∧ (∀ r, r ≠ p → t.port r = s.port r) ∧ (t.port p).link.up = false ∧
      (t.port p).link.train = 1 ∧ (t.port p).st = .idle ∧ (t.port p).win.armClear = armClear ∧ (t.port p).win.htrOff = htrOff ∧
      (t.port p).win.ctrlDue = none ∧ (htrOff = true → (t.port p).heater.out = 0) ∧ t.quires = s.quires ∧ t.clk = s.clk) ∧
  (∀ (p : Fin 32), s.winTargets w = [p] → (s.port p).st = .idle → v.getLsbD 0 = false → v.getLsbD 1 = false →
    exec (.registerWrite (match w with | .a => 0x20004 | .b => 0x21004) v) s = .next (s.modPort p fun x => { x with
      win := { x.win with armClear := v.getLsbD 2, htrOff := false, ctrlDue := none } }))

/-- Encoder edges (02_position.md R43, R44, R53, R54, R58, R60, R71). A level that is already seen changes nothing; in a mode other than
incremental only the level is kept; a pulse shorter than the glitch time counts in the glitch counter and does nothing else. An accepted
change that clashes with no change of the other input within 2 ns moves the raw position by one count in the direction that R44 gives, 40 ns
after its stamp and 260 ns later under FILTERED; in DISABLED, ACQUIRING and FAULT the mark and the state stay; when it advances a TRACKING
source, the mark takes the raw position and the source stays TRACKING; and nothing but this source and the time changes. Of two changes
within 2 ns neither counts, and the source faults with cause 5: the first where the row says that it clashes, else the second, which takes
the first one's count back. -/
def Obligations.EncoderEdgesCount : Prop := ∀ (s : State) (n : Fin 4) (ch : Chan) (level : Bool) (stamp held : Nat) (clash : Bool),
  let i := srcNo n.1
  let x := s.source i
  let cur := match ch with | .a => x.levelA | .b => x.levelB
  let other := match ch with | .a => x.lastB | .b => x.lastA
  let apart := other.all (fun o => decide (o + 8 ≤ stamp) || decide (stamp + 8 ≤ o))
  let down := x.downBy ch level
  let raw := posAdd x.raw (if down then -256 else 256)
  let now := s.advanceTo (stamp + (if x.cfg.filtered then 1200 else 160))
  (cur = level →
    exec (.encoderEdge n ch level ⟨stamp, held⟩ clash) s = .next s) ∧
  (cur ≠ level → x.cfg.mode ≠ .incremental →
    exec (.encoderEdge n ch level ⟨stamp, held⟩ clash) s = .next (s.modSrc i fun y => match ch with
      | .a => { y with levelA := level }
      | .b => { y with levelB := level })) ∧
  (cur ≠ level → x.cfg.mode = .incremental → 0 < held → held < 8 * (x.cfg.glitch + 1) →
    exec (.encoderEdge n ch level ⟨stamp, held⟩ clash) s =
      .next (s.modSrc i fun y => { y with cnt := { y.cnt with glitch := min (y.cnt.glitch + 1) 255 } })) ∧
  (cur ≠ level → x.cfg.mode = .incremental → held = 0 →
    exec (.encoderEdge n ch level ⟨stamp, held⟩ clash) s = .next s) ∧
  (cur ≠ level → x.cfg.mode = .incremental → 8 * (x.cfg.glitch + 1) ≤ held → apart = true → clash = false → x.st = .disabled ∨ x.st = .acquiring ∨ x.st = .fault →
    ∃ t, exec (.encoderEdge n ch level ⟨stamp, held⟩ clash) s = .next t ∧ (t.source i).raw = raw ∧ (t.source i).moveDir = down ∧
      (t.source i).st = x.st ∧ (t.source i).mark = x.mark ∧ { t with src := s.src } = now ∧ ∀ m, m ≠ i → t.source m = s.source m) ∧
  (cur ≠ level → x.cfg.mode = .incremental → 8 * (x.cfg.glitch + 1) ≤ held → apart = true → clash = false → x.st = .tracking → 0 < x.sign * posDiff raw x.mark →
    ∃ t, exec (.encoderEdge n ch level ⟨stamp, held⟩ clash) s = .next t ∧ (t.source i).raw = raw ∧ (t.source i).mark = raw ∧
      (t.source i).moveDir = down ∧ (t.source i).st = .tracking ∧ { t with src := s.src } = now ∧ ∀ m, m ≠ i → t.source m = s.source m) ∧
  (cur ≠ level → x.cfg.mode = .incremental → 8 * (x.cfg.glitch + 1) ≤ held → clash = true →
    exec (.encoderEdge n ch level ⟨stamp, held⟩ clash) s = .next (faultNow (now.modSrc i fun y => match ch with
      | .a => { y with levelA := level, lastA := some stamp }
      | .b => { y with levelB := level, lastB := some stamp }) i 5)) ∧
  (cur ≠ level → x.cfg.mode = .incremental → 8 * (x.cfg.glitch + 1) ≤ held → apart = false → clash = false →
    exec (.encoderEdge n ch level ⟨stamp, held⟩ clash) s = .next (faultNow (now.modSrc i fun y => match ch with
      | .a => { y.takeBack with levelA := level, lastA := some stamp }
      | .b => { y.takeBack with levelB := level, lastB := some stamp }) i 5))

/-- Index edges (02_position.md R43, R45, R60 to R63, R77). A level of Z that is already seen changes nothing; in a mode other than
incremental, or without an index period, only the level is kept; a pulse shorter than the glitch time counts in the glitch counter and does
nothing else. An accepted change acts as late after its stamp as a change of A or B. A falling one, and one during decreasing movement, sets
the level only. A rising one during increasing movement applies a preset that waits for it; else it compares the residue with 0: a
difference of 0 is only kept, one within INDEX_TOL is kept, counted and taken out of the raw position and the mark, with nothing but the
source and the time changed; a larger one is counted as misplaced and reported. -/
def Obligations.IndexEdgesCheck : Prop := ∀ (s : State) (n : Fin 4) (level : Bool) (stamp held : Nat),
  let i := srcNo n.1
  let x := s.source i
  let d := x.indexError
  let later := s.advanceTo (stamp + (if x.cfg.filtered then 1200 else 160))
  let now := later.modSrc i fun y => { y with levelZ := level }
  let accepted := x.levelZ ≠ level ∧ x.cfg.mode = .incremental ∧ x.cfg.indexPeriod ≠ 0 ∧ 8 * (x.cfg.glitch + 1) ≤ held
  (x.levelZ = level →
    exec (.indexEdge n level ⟨stamp, held⟩) s = .next s) ∧
  (x.levelZ ≠ level → x.cfg.mode ≠ .incremental ∨ x.cfg.indexPeriod = 0 →
    exec (.indexEdge n level ⟨stamp, held⟩) s = .next (s.modSrc i fun y => { y with levelZ := level })) ∧
  (x.levelZ ≠ level → x.cfg.mode = .incremental → x.cfg.indexPeriod ≠ 0 → 0 < held → held < 8 * (x.cfg.glitch + 1) →
    exec (.indexEdge n level ⟨stamp, held⟩) s =
      .next (s.modSrc i fun y => { y with cnt := { y.cnt with glitch := min (y.cnt.glitch + 1) 255 } })) ∧
  (accepted → level = false ∨ x.moveDir = true →
    exec (.indexEdge n level ⟨stamp, held⟩) s = .next now) ∧
  (∀ (pos : Pos), accepted → level = true → x.moveDir = false → x.presetPend = some pos →
    exec (.indexEdge n level ⟨stamp, held⟩) s = .next (now.modSrc i fun y => y.preset pos)) ∧
  (accepted → level = true → x.moveDir = false → x.presetPend = none → d.natAbs ≤ x.cfg.indexTol →
    ∃ t, exec (.indexEdge n level ⟨stamp, held⟩) s = .next t ∧ (t.source i).raw = posAdd x.raw (-(256 * d)) ∧
      (t.source i).mark = posAdd x.mark (-(256 * d)) ∧ (t.source i).misplaceRun = 0 ∧ (t.source i).cnt.indexLast = d ∧
      (t.source i).cnt.corrected = (if d = 0 then x.cnt.corrected else min (x.cnt.corrected + 1) 65535) ∧ (t.source i).levelZ = true ∧
      { t with src := s.src } = later ∧ ∀ m, m ≠ i → t.source m = s.source m) ∧
  (accepted → level = true → x.moveDir = false → x.presetPend = none → x.cfg.indexTol < d.natAbs → x.misplaceRun < 2 →
    ∃ t, exec (.indexEdge n level ⟨stamp, held⟩) s = .next t ∧ (t.source i).raw = x.raw ∧ (t.source i).cnt.indexLast = d ∧
      (t.source i).misplaceRun = x.misplaceRun + 1 ∧ (t.source i).cnt.misplaced = min (x.cnt.misplaced + 1) 65535 ∧
      (t.source i).st = x.st ∧ t.cnt.events = min (s.cnt.events + 1) (2 ^ 32 - 1) ∧ t.quires = s.quires ∧ t.ports = s.ports)

/-- Serial frames (02_position.md R46 to R52). A frame starts only while none is in progress and the source is enabled: it drives the clock
and sets the next start SER_PERIOD later. At its end a bad CRC counts one bad frame, and the first good reading of an ACQUIRING source
becomes its raw position, mark and tracked position, and the source is TRACKING. Without a frame in progress nothing happens. -/
def Obligations.SerialFramesRead : Prop := ∀ (s : State) (n : Fin 4),
  let i := srcNo n.1
  let x := s.source i
  (∀ (idle : Bool), x.cfg.mode = .ssi ∨ x.cfg.mode = .bissC → x.st ≠ .disabled → x.frameAt = none →
    ∃ t, exec (.serialFrameStart n idle) s = .next t ∧ t.clk = max s.clk x.nextFrame ∧ (t.source i).frameAt = some t.clk ∧
      (t.source i).nextFrame = t.clk + 4 * x.cfg.serPeriod ∧ t.out = .encClock n.1 :: s.out ∧
      { t with clk := s.clk, tb := s.tb, src := s.src, out := s.out } = s ∧ ∀ m, m ≠ i → t.source m = s.source m) ∧
  (∀ (idle : Bool), x.cfg.mode = .off ∨ x.cfg.mode = .incremental ∨ x.st = .disabled ∨ x.frameAt.isSome = true →
    exec (.serialFrameStart n idle) s = .next s) ∧
  (∀ (f : SerialFrame), x.frameAt = none →
    exec (.serialFrameEnd n f) s = .next s) ∧
  (∀ (f : SerialFrame) (t0 : Nat), x.frameAt = some t0 → x.cfg.mode = .bissC → x.st ≠ .disabled → f.started = true → crcMatches x.cfg f = false → x.badRun < 2 →
    ∃ t, exec (.serialFrameEnd n f) s = .next t ∧ (t.source i).badRun = x.badRun + 1 ∧
      (t.source i).cnt.crc = min (x.cnt.crc + 1) 255 ∧ (t.source i).frameAt = none ∧ (t.source i).raw = x.raw ∧ (t.source i).st = x.st ∧
      { t with src := s.src } = s.advanceTo (t0 + x.cfg.framePh)) ∧
  (∀ (f : SerialFrame) (t0 : Nat), x.frameAt = some t0 → x.cfg.mode = .bissC → f.started = true → crcMatches x.cfg f = true → f.nE = true → f.nW = true → x.cfg.gray = false → x.presetNext = none → x.st = .acquiring →
    ∃ t, exec (.serialFrameEnd n f) s = .next t ∧ (t.source i).st = .tracking ∧ (t.source i).badRun = 0 ∧ (t.source i).warn = false ∧
      (t.source i).raw = BitVec.ofNat 56 (256 * (f.bits.toNat % 2 ^ x.cfg.serBits)) ∧ (t.source i).mark = (t.source i).raw ∧
      (t.source i).tracked = (t.source i).raw ∧ (t.source i).frameAt = none ∧ { t with src := s.src } = s.advanceTo (t0 + x.cfg.framePh))

/-- Sources that fall silent (02_position.md R59, R66, R70, R71). A TRACKING local source with S above 0 that shows no advancing edge for four
expected intervals is STALLED, with S 0 and its position kept, which is reported; in any other state nothing happens. A bound remote source
without a position cell for 16 µs is in FAULT with cause REMOTE_LOST, with a STOP for every quire bound to it. -/
def Obligations.SilentSourcesFault : Prop := ∀ (s : State) (n : Fin 16),
  let x := s.source n
  (∀ (e : Nat × Nat × Pos), n.1 < 4 → x.st = .tracking → x.speed ≠ 0 → x.edges.head? = some e →
    ∃ t, exec (.encStall n) s = .next t ∧ (t.source n).st = .stalled ∧ (t.source n).speed = 0 ∧ (t.source n).raw = x.raw ∧
      (t.source n).mark = x.mark ∧ (t.source n).cnt.event = x.cnt.event ||| 8 ∧ t.clk = max s.clk (e.1 + x.stallAfter) ∧
      t.quires = s.quires ∧ t.ports = s.ports) ∧
  (4 ≤ n.1 ∨ x.st ≠ .tracking ∨ x.speed = 0 →
    exec (.encStall n) s = .next s) ∧
  (4 ≤ n.1 → x.bound ≠ none → x.st ≠ .fault →
    exec (.remoteLost n) s = .next (sourceFault (s.advanceTo (x.cellAt + 64000)) n 8)) ∧
  (4 ≤ n.1 → x.bound ≠ none → x.st ≠ .fault → s.boundTo n = [] →
    ∃ t, exec (.remoteLost n) s = .next t ∧ (t.source n).st = .fault ∧ (t.source n).cause = 8 ∧ (t.source n).raw = x.raw ∧
      (t.source n).cnt.event = x.cnt.event ||| 4 ∧ t.clk = max s.clk (x.cellAt + 64000) ∧ t.quires = s.quires ∧ t.ports = s.ports) ∧
  (n.1 < 4 ∨ x.bound = none ∨ x.st = .fault →
    exec (.remoteLost n) s = .next s)

/-- A port's next line (03_fire_timing.md R80, R81, R99; 01_architecture.md R20; 04_data_path.md R132; 07_head_ports.md R486): it becomes due
only on a port of a quire that may draw it, at the instant at which the tracked position reaches the fire point; then time runs on to that
instant and the line comes. The first line of a job or swath has its deadline at the crossing of the boundary before, whether or not its own
fire point is reached. Committing a line moves the port's next boundary one on in the firing direction, adds the line undecided and unlatched
to those in flight, and touches no other port; a line whose stream has begun keeps those codes, and one that no LATCH is to come before
sends its code stream now. -/
def Obligations.LinesBecomeDue : Prop := ∀ (s : State) (p : Fin 32),
  let x := s.port p
  (s.quireOf p = none →
    exec (.lineDue p) s = .next s) ∧
  (∀ (q : Fin 8), s.quireOf p = some q → mayFire (s.quire q) x (s.source (s.quire q).source) p = false →
    exec (.lineDue p) s = .next s) ∧
  (∀ (q : Fin 8), s.quireOf p = some q → s.crossing (s.quire q) (s.leadPs (s.quire q) p) x.nextK = none →
      x.dat.ahead = false ∨ s.crossing (s.quire q) (s.leadPs (s.quire q) p) (x.nextK - (s.quire q).dir) = none →
    exec (.lineDue p) s = .next s) ∧
  (∀ (q : Fin 8) (c : Nat), s.quireOf p = some q → mayFire (s.quire q) x (s.source (s.quire q).source) p = true → x.dat.ahead = true →
      s.crossing (s.quire q) (s.leadPs (s.quire q) p) x.nextK = none →
      s.crossing (s.quire q) (s.leadPs (s.quire q) p) (x.nextK - (s.quire q).dir) = some c →
    exec (.lineDue p) s = .next (if c ≤ s.clk then firstDeadline s q p else s)) ∧
  (∀ (q : Fin 8) (c : Nat), s.quireOf p = some q → mayFire (s.quire q) x (s.source (s.quire q).source) p = true →
      s.crossing (s.quire q) (s.leadPs (s.quire q) p) x.nextK = some c →
      x.dat.ahead = false ∨ s.crossing (s.quire q) (s.leadPs (s.quire q) p) (x.nextK - (s.quire q).dir) = none →
    exec (.lineDue p) s = .next (lineComes (s.advanceTo (s.dueInstant (s.quire q).source c)) q p x.nextK)) ∧
  (∀ (q : Fin 8) (c c0 : Nat), s.quireOf p = some q → mayFire (s.quire q) x (s.source (s.quire q).source) p = true → x.dat.ahead = true →
      s.crossing (s.quire q) (s.leadPs (s.quire q) p) x.nextK = some c →
      s.crossing (s.quire q) (s.leadPs (s.quire q) p) (x.nextK - (s.quire q).dir) = some c0 →
    exec (.lineDue p) s = .next (lineComes ((firstDeadline (s.advanceTo (s.dueInstant (s.quire q).source c0)) q p).advanceTo
      (s.dueInstant (s.quire q).source c)) q p x.nextK)) ∧
  (∀ (q : Fin 8) (k : Int) (due : Nat), x.banks ≠ none →
    let t := commitLine s q p k due;
    (t.port p).nextK = k + (s.quire q).dir ∧ (t.port p).win.lastDue = some k ∧ (∀ r, r ≠ p → t.port r = s.port r) ∧ t.quires = s.quires ∧
      (t.port p).lines.length = x.lines.length + 1 ∧
      (t.port p).lines.getLast?.map (fun l => (l.k, l.dec, l.latched)) = some (k, none, false) ∧
      (∀ (cs : List Nat), x.link.next = some (k, cs) → t.out = s.out ∧ (t.port p).lines.getLast?.bind (fun l => l.codes) = some cs) ∧
      (x.link.next = none → x.lines.all (fun l => l.latched) = true →
        t.out.length = s.out.length + (if x.gen = 3 then 2 else 1) ∧ ((t.port p).lines.getLast?.bind fun l => l.codes).isSome = true) ∧
      (x.link.next = none → x.lines.all (fun l => l.latched) = false →
        t.out = s.out ∧ (t.port p).lines.getLast?.bind (fun l => l.codes) = none))

/-- A line's decision (01_architecture.md R19, R20; 03_fire_timing.md R84): at its decision instant the first undecided line of the port is
decided, and what follows from that line happens; a port with no undecided line does nothing. The decision fires at the effective cap
(the lowest CAP in force, or the cap of the bank that the line goes by) unless the port has left PRINTING or an INHIBIT is in force, which
suppresses the line. -/
def Obligations.LinesAreDecided : Prop := ∀ (s : State) (p : Fin 32),
  let x := s.port p
  (x.lines.find? (fun l => l.dec.isNone) = none →
    exec (.lineDecision p) s = .next s) ∧
  (∀ (l : Line), x.lines.find? (fun l => l.dec.isNone) = some l →
    exec (.lineDecision p) s = .next (afterLine (chooseProbe (decideOne (s.advanceTo l.decideAt) p l) p l.k) p l)) ∧
  (∀ (l : Line), x.lines = [l] → l.dec = none → l.latched = false →
    ((decideOne s p l).port p).lines.map (fun m => (m.k, m.dec)) =
      [(l.k, some (if x.st = .printing ∧ s.inhibited p = false then Decision.fire (s.capUnder p l.cap) else Decision.suppress))])

/-- Latches and playbacks (06_waveforms.md R177, R178, R189, R190; 07_head_ports.md R203, R205, R207). The LATCH of the first unlatched line
moves its codes into the head's pending register at the line's latch instant. At a start instant of a line that fires, the pending codes
become the active ones, the channel keeps the line's gain, and the playback goes out; a suppressed line plays nothing; where a sample is
damaged, or is known to be from before, the playback goes out up to it, the channel is cut and the port faults. The end of a running
playback marks it ended, sends the words that are due, and closes the sense switch where it is the last one of a probed line's channel. With
no such line, latch, start and end do nothing. -/
def Obligations.LatchesAndPlaybacks : Prop := ∀ (s : State) (p : Fin 32) (c : Chan),
  let x := s.port p
  (∀ (bad : List Nat) (ecc : Bool), x.lines = [] →
    exec (.headLatch p bad) s = .next s ∧ exec (.playbackStart p c ecc) s = .next s ∧ exec (.playbackEnd p c) s = .next s) ∧
  (∀ (bad : List Nat) (l : Line), x.lines.find? (fun l => !l.latched) = some l →
    ∃ t, exec (.headLatch p bad) s = .next t ∧ t.clk = max s.clk l.latchAt ∧
      (t.port p).link.headPend = l.codes.getD (List.replicate x.nozzles 0) ∧
      (t.port p).link.latchK = some l.k ∧ t.quires = s.quires ∧ (∀ r, r ≠ p → t.port r = s.port r)) ∧
  (∀ (l : Line) (q : Play) (cap : Nat), firstPlay x c 0 = some (l, q) → l.dec = some (.fire cap) → (x.chan c).firstHurt q.slot false = none →
    ∃ t, exec (.playbackStart p c false) s = .next t ∧ t.clk = max s.clk q.start ∧ (t.port p).link.headActive = x.link.headPend ∧
      ((t.port p).chan c).lastGain = q.gain ∧ t.quires = s.quires ∧ (∀ r, r ≠ p → t.port r = s.port r) ∧
      t.out.head? = some (.play p.1 c q.groups q.slot q.start
        (filteredOut (finOf 20 (by decide) q.start) (((x.chan c).samplesOf q.slot).map fun y => scale y q.gain q.rank)) (finOf 20 (by decide) q.start))) ∧
  (∀ (ecc : Bool) (l : Line) (q : Play), firstPlay x c 0 = some (l, q) → l.dec = some .suppress →
    exec (.playbackStart p c ecc) s = .next (s.advanceTo q.start)) ∧
  (∀ (ecc : Bool) (l : Line) (q : Play) (cap i : Nat), firstPlay x c 0 = some (l, q) → l.dec = some (.fire cap) → (x.chan c).firstHurt q.slot ecc = some i →
    ∃ u, exec (.playbackStart p c ecc) s = .next (waveFault u p c) ∧ u.clk = max s.clk q.start ∧ (u.port p).st = x.st ∧
      u.out.head? = some (.play p.1 c q.groups q.slot q.start
        (filteredOut (finOf 20 (by decide) q.start) ((((x.chan c).samplesOf q.slot).take i).map fun y => scale y q.gain q.rank))
        (finOf 20 (by decide) q.start)) ∧
      ((x.st = .idle ∨ x.st.inJob = true ∨ x.st = .draining) →
        ((waveFault u p c).port p).st = .fault ∧ ((waveFault u p c).port p).cause = 4)) ∧
  (∀ (l : Line) (q : Play), firstPlay x c 1 = some (l, q) →
    let e := s.advanceTo (q.start + (q.samples + 8) * 20)
    let u := setPlay (flushWords e p e.clk none) p l.k c q.start 2
    exec (.playbackEnd p c) s = .next (senseSwitch u p c ((u.port p).lines.find? fun m => m.k == l.k)))

/-- The end of a probe's capture (08_nozzle_health.md R231, R234): with no probe waiting nothing happens; a capture whose samples are not
100, or saturate, or whose port has left PRINTING, counts as an invalid probe, leaves verdict 8 on its nozzle and the link as it was; else
it is judged. -/
def Obligations.CapturesAreJudged : Prop := ∀ (s : State) (p : Fin 32) (samples : List Int),
  let x := s.port p
  let found := x.lines.find? fun l => l.probe.isSome && l.dec.isSome && l.plays.all fun q => q.phase == 2
  (found = none →
    exec (.probeCaptureEnd p samples) s = .next s) ∧
  (∀ (l : Line) (i : Nat) (k : Bool), found = some l → l.probe = some (i, k) →
    exec (.probeCaptureEnd p samples) s = .next (captureEnd s p l i k samples)) ∧
  (∀ (l : Line) (i : Nat) (k : Bool), found = some l → l.probe = some (i, k) → samples.length ≠ 100 ∨ x.st ≠ .printing →
    ∃ t, exec (.probeCaptureEnd p samples) s = .next t ∧ t.clk = max s.clk (l.playsEnd + 6000) ∧
      (t.port p).rvs.invalid = min (x.rvs.invalid + 1) (2 ^ 32 - 1) ∧ (t.port p).rvs.valid = x.rvs.valid ∧ (t.port p).link = x.link ∧
      (t.port p).rvs.mon = modAt x.rvs.mon i (fun m => { m with lastVerdict := 8 }) ∧ t.quires = s.quires ∧ (∀ r, r ≠ p → t.port r = s.port r))

/-- Requests to the stop arbiter (01_architecture.md R19 to R21; 03_fire_timing.md R97, R99). An INHIBIT or CAP stands in the list of
requests in place of an earlier one of its source and scope, and with no line of its scope past its decision instant nothing else changes. A
STOP takes a quire that is ARMED, FLYLEAF, PRINTING or SUSPENDED to STOPPING, with its cause where no other waits, and a higher one at most
where one does; one in STOPPING only may take the higher cause; one in UNBOUND, BOUND or FAULT stays as it is. A STOP for a port that is in
no quire's job changes nothing. A withdrawn request waits for the next line boundary while its quire draws lines, and is lifted at once
where none does. -/
def Obligations.ArbiterRequests : Prop := ∀ (s : State) (src : ReqSource),
  (∀ (sc : ReqScope) (k : ReqKind), (match k with | .stop _ => false | .inhibit | .cap _ => true) = true → ((idx 32).all fun p => !(s.covers sc p) || (s.port p).lines.all fun l => l.dec.isSome || decide (s.clk ≤ l.decideAt)) = true →
    exec (.arbiterRequest src sc k) s = .next { s with
      reqs := { src := src, sc := sc, kind := k, gone := false } :: s.reqs.filter fun r => !(r.src = src ∧ r.sc = sc) }) ∧
  (∀ (q : Fin 8) (c : BitVec 4), (s.quire q).st = .armed ∨ (s.quire q).st = .flyleaf ∨ (s.quire q).st = .printing ∨ (s.quire q).st = .suspended →
    ∃ t, exec (.arbiterRequest src (.quire q) (.stop c)) s = .next t ∧ (t.quire q).st = .stopping ∧ c.toNat ≤ (t.quire q).cause ∧
      ((s.quire q).stopAt = [] → (t.quire q).cause = c.toNat) ∧ (t.quire q).stopAt = [] ∧
      (((s.activeOf q).all fun p => s.quireOf p == some q) = true → ∀ r, r ≠ q → t.quire r = s.quire r)) ∧
  (∀ (q : Fin 8) (c : BitVec 4), (s.quire q).st = .stopping →
    ∃ t, exec (.arbiterRequest src (.quire q) (.stop c)) s = .next t ∧ (s.quire q).cause ≤ (t.quire q).cause ∧
      { (t.quire q) with cause := (s.quire q).cause, causes := (s.quire q).causes } = s.quire q ∧ { t with quires := s.quires } = s ∧
      ∀ r, r ≠ q → t.quire r = s.quire r) ∧
  (∀ (q : Fin 8) (c : BitVec 4), (s.quire q).st = .unbound ∨ (s.quire q).st = .bound ∨ (s.quire q).st = .fault →
    exec (.arbiterRequest src (.quire q) (.stop c)) s = .next s) ∧
  (∀ (p : Fin 32) (c : BitVec 4), s.quireOf p = none →
    exec (.arbiterRequest src (.port p) (.stop c)) s = .next s) ∧
  (∀ (sc : ReqScope), s.scopeRuns sc = true →
    exec (.arbiterWithdraw src sc) s = .next { s with
      reqs := s.reqs.map fun r => if r.src = src ∧ r.sc = sc then { r with gone := true } else r }) ∧
  (∀ (sc : ReqScope), s.scopeRuns sc = false →
    exec (.arbiterWithdraw src sc) s = .next { s with reqs := s.reqs.filter fun r => !(r.src = src ∧ r.sc = sc) })

/-- Start-of-scan edges (03_fire_timing.md R93, R94). An edge of an input that gates no quire changes nothing. A quire gated by the input that
R93 does not let the edge serve only counts it as rejected. An edge that serves a quire captures its tracked position and the time, and starts
the input's hold-off; it opens the gate of one that waits for a swath: one that it is not behind waits for its first line, one behind within
the late window starts at once with OK_LATE, and one further behind gets a STOP of cause 7 after COMPARE_BEHIND. -/
def Obligations.ScanEdgesOpenSwaths : Prop := ∀ (s : State) (i : Fin 4) (rising : Bool) (held : Nat),
  (((idx 8).all fun q => !((s.quire q).gatedBy i)) = true →
    exec (.sosEdge i rising held) s = .next s) ∧
  (∀ (q : Fin 8), ((idx 8).all fun r => (s.quire r).gatedBy i == (r == q)) = true → sosFits s (s.quire q) i rising held = false →
    exec (.sosEdge i rising held) s =
      .next (s.modQuire q fun x => { x with cnt := { x.cnt with sosRejected := min (x.cnt.sosRejected + 1) 255 } })) ∧
  (∀ (q : Fin 8), ((idx 8).all fun r => (s.quire r).gatedBy i == (r == q)) = true → sosFits s (s.quire q) i rising held = true → (s.quire q).gate = false → (s.quire q).st = .armed ∨ (s.quire q).st = .suspended →
    let n := s.behindBy q (s.quire q).anchor
    let u := s.modQuire q fun x => { x with sosPos := (s.trackedNow x.source).signExtend 64, sosTb := BitVec.ofNat 64 s.ns, gate := true }
    let off := fun (t : State) => { t with sos := upd s.sos i fun o => { o with last := some s.clk } }
    (n ≤ 0 → exec (.sosEdge i rising held) s = .next (off (aimFirst u q))) ∧
    (0 < n → n ≤ (s.quire q).lateWin →
      exec (.sosEdge i rising held) s = .next (off (lateStartEvent (startLate u q n.toNat) q stOkLate 1 n (s.quire q).anchor))) ∧
    (0 < n → ((s.quire q).lateWin : Int) < n →
      exec (.sosEdge i rising held) s = .next (off (stopQuire (lateStartEvent u q stCompareBehind 1 n (s.quire q).anchor) q 7))))

/-- Bank swaps and copies (01_architecture.md R15, R16, R17; 05_screening.md R143, R144). A swap does nothing in SUSPENDED, nor where no
command has a swap of the quire's ports pending. Else it happens at the quire's first boundary that is due on none of its ports. The ports
of a command swap together: none of them while one still waits for the copy of its last swap, nor where one breaks R86 or has a poisoned
bank, which fails the command; else all. The copy waits until the old bank governs no line that is still to be screened; then the shadow
bank is the live bank, and no old bank is left. -/
def Obligations.BanksSwapAndCopy : Prop := ∀ (s : State),
  (∀ (q : Fin 8), (s.quire q).st = .suspended ∨ s.swapSets q = [] ∧ ((s.activeOf q).all fun p => (s.port p).dat.queue.isEmpty) = true →
    exec (.bankSwap q) s = .next s) ∧
  (∀ (q : Fin 8), (s.quire q).st ≠ .suspended →
    exec (.bankSwap q) s = .next (swapPrinting s q (s.furthest q))) ∧
  (∀ (q : Fin 8) (m : U32), (s.quire q).st ≠ .suspended → s.activeOf q = [] → s.swapSets q = [m] →
    let ps := portsIn m.toNat
    let waits := ps.any fun p => (s.port p).copyWaits
    let bad := if commitRange s ps then stRange else if commitPoison s ps then stPortFault else 0
    (waits = true → exec (.bankSwap q) s = .next s) ∧
    (waits = false → bad ≠ 0 → exec (.bankSwap q) s = .next (commitFail s m.toNat bad)) ∧
    (waits = false → bad = 0 → exec (.bankSwap q) s = .next (commitDone
      (ps.foldl (fun t p => swapPort t p ((s.quire q).lineG (s.furthest q)) (s.furthest q)) s) m.toNat (s.furthest q)))) ∧
  (∀ (p : Fin 32), ((s.port p).banks.bind fun b => b.old) = none →
    exec (.shadowCopy p) s = .next s) ∧
  (∀ (p : Fin 32) (b : Banks) (o : OldBank), (s.port p).banks = some b → b.old = some o → copyReady s p o.from_ = true → b.heldW = [] →
    ∃ t, exec (.shadowCopy p) s = .next t ∧ (t.port p).banks = some { b with shadow := b.live, old := none } ∧
      { t with ports := s.ports } = s ∧ ∀ r, r ≠ p → t.port r = s.port r) ∧
  (∀ (p : Fin 32) (b : Banks) (o : OldBank), (s.port p).banks = some b → b.old = some o → copyReady s p o.from_ = true → b.heldW ≠ [] →
    exec (.shadowCopy p) s = .next (copyShadow s p)) ∧
  (∀ (p : Fin 32) (b : Banks) (o : OldBank), (s.port p).banks = some b → b.old = some o → copyReady s p o.from_ = false →
    exec (.shadowCopy p) s = .next s)

/-- The ends of drains (03_fire_timing.md R98, R99; 07_head_ports.md R215). A port that is not DRAINING, or still has a playback to come or
running, stays; a drained one returns to IDLE when its last playback has ended and its link is idle. A quire leaves STOPPING when every
port's last playback has ended: with a cause of 14 or 15 to FAULT unless a JOB_ABORT is outstanding or an abort on PERST_N runs, else to
BOUND, with no port active. -/
def Obligations.DrainsEnd : Prop := ∀ (s : State),
  (∀ (p : Fin 32), drained s p = false →
    exec (.portDrainEnd p) s = .next s) ∧
  (∀ (p : Fin 32), drained s p = true → (s.port p).st = .draining → s.quireOf p ≠ none →
    ∃ t, exec (.portDrainEnd p) s = .next t ∧ (t.port p).st = .idle ∧ (t.port p).lines = [] ∧ t.clk = max s.clk (drainAt s p) ∧
      (∀ q, (t.quire q) = s.quire q) ∧ (∀ r, r ≠ p → t.port r = s.port r)) ∧
  (∀ (q : Fin 8), (s.quire q).st ≠ .stopping →
    exec (.quireDrainEnd q) s = .next s) ∧
  (∀ (q : Fin 8), ((s.portsOf q).any fun p => (s.port p).st.busy && !(drained s p)) = true →
    exec (.quireDrainEnd q) s = .next s) ∧
  (∀ (q : Fin 8), (s.quire q).st = .stopping → ((s.portsOf q).all fun p => !((s.port p).st.busy) || drained s p) = true →
    ∃ t, exec (.quireDrainEnd q) s = .next t ∧
      (t.quire q).st = (if ((s.quire q).cause = 14 ∨ (s.quire q).cause = 15) ∧ (s.quire q).abort = false then .fault else .bound) ∧
      (t.quire q).active = 0 ∧ (t.quire q).running = false ∧ ∀ r, r ≠ q → t.quire r = s.quire r)

/-- Image descriptors (04_data_path.md R108 to R110, R115; 12_host_rings.md R345). A descriptor is read only from an ACTIVE ring of D0 with an
entry posted, in a state of its port that fetches. One with a wrong catchword is read again 1 µs later; one that passes the checks joins
the port's list, the fetch index moves past it, and it covers the image lines after the last one; one that fails halts the ring with its
status and completes. A BUFFERED band is read from the host and kept, block by block as far as the pool and the quota have room; it is staged
when all of it is; without room, in D3hot, in another feed or before the page store is READY nothing is read. A descriptor whose lines are
over retires with its status; a purged one retires ABORTED, before any other. Retiring with nothing fetched changes nothing. -/
def Obligations.DescriptorsAreFetched : Prop := ∀ (s : State) (p : Fin 32),
  let x := s.port p
  let r := ringNo p.1
  let g := s.ring r
  (∀ (e : BitVec 256), g.rereads ≠ 0 ∨ (mayRead s r = false ∨ mayFetch s p = false) ∧ mayPurge s p = false →
    exec (.imageDescFetch p e) s = .next s) ∧
  (∀ (e : BitVec 256), g.rereads = 0 → mayRead s r = true → mayFetch s p = true → answersNow s p e = false → entryCw e ≠ catchword g.fetchPass →
    ∃ t, exec (.imageDescFetch p e) s = .next t ∧ (t.ring r).rereads = 1 ∧ (t.ring r).rereadAt = s.clk + 4000 ∧
      (t.ring r).fetch = g.fetch ∧ t.ports = s.ports) ∧
  (∀ (e : BitVec 256), g.rereads = 0 → mayRead s r = true → mayFetch s p = true → x.dat.purge = 0 → descBad s x e = 0 → entryCw e = catchword g.fetchPass → gdmaField e 0 1 = 1 → (descOf e 0).count ≠ 0 → x.dat.descs = [] → x.dat.settled = 0 → 0 ≤ x.dat.endJ →
    ∃ t, exec (.imageDescFetch p e) s = .next t ∧ (t.ring r).fetch = (if g.fetch + 1 = g.size.toNat then 0 else g.fetch + 1) ∧
      (t.port p).dat.endJ = x.dat.endJ + ((gdmaField e 8 4 : Nat) : Int) ∧
      (t.port p).dat.descs.map (fun d => (d.kind, d.startJ, d.lines)) = [(1, x.dat.endJ, gdmaField e 8 4)] ∧
      (t.port p).dat.descs.map (fun d => (d.len, d.addr, d.tag.toNat)) = [(gdmaField e 12 4, gdmaField e 16 8, gdmaField e 4 2)]) ∧
  (∀ (e : BitVec 256), g.rereads = 0 → mayRead s r = true → mayFetch s p = true → x.dat.purge = 0 → descBad s x e ≠ 0 → entryCw e = catchword g.fetchPass → cplRoom s r 1 = true → x.dat.descs = [] →
    ∃ t, exec (.imageDescFetch p e) s = .next t ∧ (t.ring r).st = .halted ∧ (t.ring r).haltCode = descBad s x e ∧
      (t.port p).dat.endJ = x.dat.endJ ∧ (t.port p).dat.nextJ = x.dat.nextJ) ∧
  (∀ (data : Bytes) (b : Desc), x.dat.descs = [b] → b.kind = 1 → b.staged = false → s.buffered p = true → s.page.st = .ready → s.link.d3hot = false → x.dat.owed = [] → b.data = [] → b.len ≠ 0 → b.len ≤ stageRoom s p * 0x200000 → b.retired = false → b.notify = false → b.ringless = false → b.over x.dat.settled = false →
    ∃ t, exec (.bandStaged p data) s = .next t ∧ (t.port p).dat.descs =
        [{ b with staged := true, retired := true, data := (padTo b.len data).take b.len }] ∧
      t.out = ((s.readSpans b.addr b.len).map fun x => Out.bandRead p.1 x.1 x.2 b.ns).reverse ++ s.out ∧
      (∀ q, q ≠ p → t.port q = s.port q) ∧ t.quires = s.quires) ∧
  (∀ (data : Bytes) (b : Desc), x.dat.descs = [b] → b.kind = 1 → b.staged = false → s.buffered p = true → s.page.st = .ready → s.link.d3hot = false → x.dat.owed = [] → 0 < stageRoom s p → b.data.length + stageRoom s p * 0x200000 < b.len → b.retired = false → b.over x.dat.settled = false →
    let n := stageRoom s p * 0x200000
    ∃ t, exec (.bandStaged p data) s = .next t ∧ (t.port p).dat.descs = [{ b with data := b.data ++ (padTo n data).take n }] ∧
      t.out = ((s.readSpans (b.addr + b.data.length) n).map fun x => Out.bandRead p.1 x.1 x.2 b.ns).reverse ++ s.out ∧
      (∀ q, q ≠ p → t.port q = s.port q) ∧ t.quires = s.quires) ∧
  (∀ (data : Bytes), x.dat.descs.find? (fun d => d.kind == 1 && !d.staged) = none ∨ s.buffered p = false ∨ s.page.st ≠ .ready ∨ s.link.d3hot = true ∨ stageRoom s p = 0 →
    exec (.bandStaged p data) s = .next s) ∧
  (x.dat.descs = [] → x.dat.owed = [] →
    exec (.descRetire p) s = .next s) ∧
  (∀ (d : Desc) (n : Nat), x.dat.descs = [] → x.dat.owed = [(d, n)] → cplRoom s r 1 = true →
    ∃ t, exec (.descRetire p) s = .next t ∧ (t.port p).dat.owed = [] ∧ (t.port p).dat.descs = [] ∧
      t = { (retireOne s p d stAborted n) with ports := t.ports } ∧ ∀ q, q ≠ p → t.port q = s.port q) ∧
  (∀ (d : Desc), x.dat.descs = [d] → x.dat.owed = [] → d.retired = false → d.kind = 1 → d.staged = false → d.ringless = false → d.over x.dat.settled = true → d.notify = true → cplRoom s r 1 = true →
    ∃ t, exec (.descRetire p) s = .next t ∧ (t.port p).dat.descs = [] ∧
      t = { (retireOne s p d (if d.lostN ≠ 0 then stAborted else if d.firedN < d.lines * d.reps then stOkPartial else stOk) d.firedN) with
            ports := t.ports } ∧ ∀ q, q ≠ p → t.port q = s.port q)

/-- Decoding and screening (04_data_path.md R112 to R116, R121; 05_screening.md R141; 01_architecture.md R25). Decoding does nothing where the
port may not decode or its line store has no room, or no descriptor has lines left. The next line of a descriptor inside a blank or repeat
run is zeros or the line before it and needs no data. Screening first judges a first line's deadline whose crossing has passed. Then the first
decoded line of the queue is screened into the line store, with its nominal line, and leaves the queue; with an empty queue nothing more
happens. A tap refresh copies the port's own state into its window and its nozzle-map copy and touches nothing else. -/
def Obligations.LinesAreDecodedAndScreened : Prop := ∀ (s : State) (p : Fin 32),
  let x := s.port p
  (∀ (data : Bytes) (read : PageRead), mayDecode s p = false ∨ s.lineRoom p = false ∨ x.dat.patOn = false ∧ x.dat.current = none →
    exec (.lineDecode p data read) s = .next s) ∧
  (∀ (read : PageRead) (d : Desc), mayDecode s p = true → s.lineRoom p = true → x.dat.patOn = false → x.dat.current = some d → x.dat.descs = [d] → ¬(d.kind = 1 ∧ d.fromStore = false ∧ s.buffered p = true) → d.broken = false → 0 < d.run → d.decoded + 1 < d.count → (d.decoded + 1) % d.lines ≠ 0 → tooLate s p (d.startJ + d.decoded).toNat = false → 0 ≤ d.startJ →
    ∃ t, exec (.lineDecode p [] read) s = .next t ∧
      (t.port p).dat.queue = x.dat.queue ++ [{ j := (d.startJ + d.decoded).toNat, levels := none, sat := false,
                                               bytes := if d.runRep then x.dat.prevLine.getD (zeros x.lineLen) else zeros x.lineLen }] ∧
      (t.port p).dat.descs = [{ d with decoded := d.decoded + 1, run := d.run - 1, starts := if d.kind = 1 then d.byteOfs :: d.starts else [] }] ∧ (t.port p).dat.nextJ = d.startJ + d.decoded + 1 ∧
      { t with ports := s.ports } = s ∧ ∀ q, q ≠ p → t.port q = s.port q) ∧
  (x.dat.ahead = true →
    exec (.lineScreen p) s = .next (lineScreen p (crossFirst s p))) ∧
  (x.dat.ahead = false → x.dat.queue = [] ∨ mayDecode s p = false →
    exec (.lineScreen p) s = .next s) ∧
  (∀ (l : ImgLine) (rest : List ImgLine) (qi : Fin 8) (b : Banks), x.dat.ahead = false → x.dat.queue = l :: rest → mayDecode s p = true → s.quireOf p = some qi → x.banks = some b →
    ∃ t, exec (.lineScreen p) s = .next t ∧ (t.port p).dat.queue = rest ∧
      (t.port p).dat.store.map (fun m => (m.j, m.nominal)) =
        (x.dat.store.map fun m => (m.j, m.nominal)) ++ [(l.j, (s.quire qi).nominal x l.j)] ∧
      { t with ports := s.ports } = s ∧ ∀ q, q ≠ p → t.port q = s.port q) ∧
  (∃ t, exec (.tapRefresh p) s = .next t ∧ { t with ports := s.ports } = s ∧ (∀ q, q ≠ p → t.port q = s.port q) ∧
      (t.port p).win.fill = min x.dat.fillLines 4095 ∧ (t.port p).win.psFill = min x.psLines 0xFFFFFFFF ∧
      (t.port p).win.demand = x.dat.demand ∧ (t.port p).win.nozOut = x.dat.nozOut ∧ (t.port p).nozTap = some (x.rvs, x.banks) ∧
      (t.port p).win.ttu = ttuUs (s.ttu p) ∧ (t.port p).win.tempT0 = x.therm.s0.shown ∧ (t.port p).win.tempT1 = x.therm.s1.shown ∧
      { (t.port p) with win := x.win, nozTap := x.nozTap } = x)

/-- Speed demand and page training (04_data_path.md R120, R130, R131; 09_thermal_supply.md R262). Every 100 µs each port's demand falls to its
target at once or rises towards it by at most 2,048; the thermal demand likewise rises towards what it may; nothing but those, the node's
demands and the critical marks, the events they raise and the time changes. Page training that ends well makes the page store READY with its
rate and capacity; else FAILED; outside TRAINING nothing happens. -/
def Obligations.DemandIsEvaluated : Prop := ∀ (s : State),
  (∃ t, exec .demandEval s = .next t ∧ t.clk = max s.clk (s.th.demandAt + 400000) ∧
      (∀ p, (t.port p).dat.demand = min ((s.advanceTo (s.th.demandAt + 400000)).demandTarget p) ((s.port p).dat.demand + 2048)) ∧
      t.th = { s.th with demand := min s.th.demandTo (s.th.demand + 2048), demandAt := t.clk } ∧ t.quires = s.quires ∧ t.src = s.src ∧
      t.reqs = s.reqs) ∧
  (∀ (rate gib : Nat), s.page.st = .training →
    exec (.pageTrainingDone true rate gib) s = .next { s with page := { s.page with st := .ready, rate := rate, gib := gib },
                                                              bg := { s.bg with passStart := upd s.bg.passStart 5 fun _ => s.clk } } ∧
    exec (.pageTrainingDone false rate gib) s = .next { s with page := { s.page with st := .failed } }) ∧
  (∀ (ok : Bool) (rate gib : Nat), s.page.st ≠ .training →
    exec (.pageTrainingDone ok rate gib) s = .next s)

/-- The ring engine (12_host_rings.md R339, R343, R345, R350, R352 to R354; 13_commands_events.md R362). A command entry with the right
catchword, read from an ACTIVE ring with a completion slot free while the control cores take commands, moves the ring's head past it and
waits, last, as a command of its opcode, tag and parameters; a ring that is not ACTIVE or has nothing posted gives none. A re-read that is
not outstanding does nothing. A general DMA descriptor that passes its checks starts its transfer: a WRITE reads host memory, a READ writes
the region's bytes there, in requests of the sizes the host has set, none across 4 KiB. A CLOSING ring whose entries have all completed is
ABSENT; another stays. A holdoff that ends without an entry does nothing, else it starts again and its message is sent. -/
def Obligations.RingEngineRuns : Prop := ∀ (s : State),
  (∀ (c : Fin 8) (e : BitVec 512), (s.ring (ringNo (32 + c.1))).rereads ≠ 0 ∨ mayRead s (ringNo (32 + c.1)) = false ∨ s.cores = false →
    exec (.cmdFetch c e) s = .next s) ∧
  (∀ (c : Fin 8) (e : BitVec 512), (s.ring (ringNo (32 + c.1))).rereads = 0 → mayRead s (ringNo (32 + c.1)) = true → s.cores = true → s.execs.length < 32 → ownDestroy s (ringNo (32 + c.1)) = false → cplRoom s (ringNo (32 + c.1)) (slotsFor s (ringNo (32 + c.1)) e) = true → entryCw e = catchword (s.ring (ringNo (32 + c.1))).fetchPass →
    let r := ringNo (32 + c.1);
    ∃ t, exec (.cmdFetch c e) s = .next t ∧ (t.ring r).head = (t.ring r).fetch ∧
      (t.ring r).fetch = (if (s.ring r).fetch + 1 = (s.ring r).size.toNat then 0 else (s.ring r).fetch + 1) ∧ (t.ring r).rereads = 0 ∧
      t.waiting.dropLast = s.waiting ∧ t.execs = s.execs ∧ (∀ q, q ≠ r → t.ring q = s.ring q) ∧
      t.waiting.getLast?.map (fun w => (w.op, w.h.src, w.h.tag, w.p)) =
        some (e.toNat % 65536, .ring r, BitVec.ofNat 16 (e.toNat / 2 ^ 32), BitVec.ofNat 448 (e.toNat / 2 ^ 64))) ∧
  (∀ (r : Fin 64) (e : BitVec 512), (s.ring r).rereads = 0 →
    exec (.catchwordReread r e) s = .next s) ∧
  (∀ (r : Fin 64) (e : BitVec 512), 32 ≤ r.1 → r.1 < 40 → (s.ring r).rereads ≠ 0 → mayRead s r = true →
    exec (.catchwordReread r e) s = .next (cmdRead { (s.advanceTo (s.ring r).rereadAt) with
      cnt := { s.cnt with rereads := min (s.cnt.rereads + 1) (2 ^ 32 - 1) } } (finOf 8 (by decide) (r.1 - 32)) e)) ∧
  (∀ (c : Fin 8) (e : BitVec 256), (s.ring (ringNo (56 + c.1))).rereads = 0 → mayRead s (ringNo (56 + c.1)) = true → (s.gdma.any fun x => x.1 == 56 + c.1) = false → gdmaBad s e = 0 → entryCw e = catchword (s.ring (ringNo (56 + c.1))).fetchPass → bit (gdmaField e 1 1) 1 = false ∨ cplRoom s (ringNo (56 + c.1)) 1 = true →
    let addr := gdmaField e 16 8
    let len := gdmaField e 12 4
    ∃ t o, exec (.gdmaDescFetch c e) s = .next t ∧ t.gdma = s.gdma ++ [(56 + c.1, e, s.nextId)] ∧ t.nextId = s.nextId + 1 ∧
      (gdmaField e 0 1 = 1 → t.out = ((s.readSpans addr len).map fun x =>
        Out.gdmaRead (56 + c.1) s.nextId x.1 x.2 (bit (gdmaField e 1 1) 0)).reverse ++ o :: s.out) ∧
      (∀ (g : Region), gdmaField e 0 1 ≠ 1 → s.region (gdmaField e 6 2) = some g →
        let data := g.mem.bytes (gdmaField e 8 4) len
        t.out = ((spans (max 128 s.link.mps) (data.length / 64 + 2) addr data.length).map fun x =>
          Out.hostWrite x.1 ((data.drop (x.1 - addr)).take x.2)).reverse ++ o :: s.out) ∧
      t.page = s.page ∧ t.ports = s.ports) ∧
  (∀ (c : Fin 8) (e : BitVec 256), mayRead s (ringNo (56 + c.1)) = false →
    exec (.gdmaDescFetch c e) s = .next s) ∧
  (∀ (r : Fin 64), (s.ring r).st ≠ .closing ∨ ringHolds s r = true →
    exec (.ringCloseDone r) s = .next s) ∧
  (∀ (r : Fin 64), (s.ring r).st = .closing → ringHolds s r = false →
    ∃ t, exec (.ringCloseDone r) s = .next t ∧ (t.ring r).st = .absent ∧ t.quires = s.quires ∧ t.page = s.page ∧
      (s.execs = [] → t.execs = [] ∧ ∀ q, q ≠ r → t.ring q = s.ring q)) ∧
  (∀ (r : Fin 64), (s.ring r).arrived = false ∨ (s.ring r).st = .absent →
    exec (.msixHoldoffEnd r) s = .next s) ∧
  (∀ (r : Fin 64), (s.ring r).arrived = true → (s.ring r).st ≠ .absent → s.link.msixEn = true → s.link.d3hot = false → s.link.msixMask = false → look s.link.msixVMask (finOf 64 (by decide) (s.ring r).vector.toNat) = false →
    ∃ t, exec (.msixHoldoffEnd r) s = .next t ∧ t.clk = max s.clk (s.ring r).holdUntil ∧ (t.ring r).arrived = false ∧
      (t.ring r).holdUntil = t.clk + (s.ring r).holdoff.toNat * 4000 ∧ t.out = .msix (s.ring r).vector.toNat :: s.out ∧
      t.ports = s.ports ∧ t.quires = s.quires)

/-- Transfers and telemetry (12_host_rings.md R350; 13_commands_events.md R372; 16_background.md R462). A failed request counts and sets
GLB_ERR.DMA_FAULT; a failed entry read halts its ACTIVE ring with ABORTED; one whose command is gone does nothing more. A transfer that ends
for no command, descriptor or relay changes nothing; the end of a read-out completes its command with OK and the RESULT it keeps; the end of
a command's data hands it on; the end of a general DMA transfer into a region stores the bytes and retires the descriptor. A telemetry
snapshot takes the next period and the ports' counts, and a node that is not command-ready makes none. -/
def Obligations.TransfersEnd : Prop := ∀ (s : State),
  (∀ (id : Nat), ownTransfer s id = none → relayOf s id = none →
    exec (.dmaFault (.command id)) s = .next { s with
      cnt := { s.cnt with dmaFaults := min (s.cnt.dmaFaults + 1) (2 ^ 32 - 1) }, glb := { s.glb with err := s.glb.err ||| 16 } }) ∧
  (∀ (r : Fin 64), (s.ring r).st = .active →
    ∃ t, exec (.dmaFault (.entryRead r)) s = .next t ∧ t.ring r = { (s.ring r) with st := .halted, haltCode := stAborted, rereads := 0 } ∧
      (∀ q, q ≠ r → t.ring q = s.ring q) ∧ { t with rings := s.rings } = { s with
        cnt := { s.cnt with dmaFaults := min (s.cnt.dmaFaults + 1) (2 ^ 32 - 1) }, glb := { s.glb with err := s.glb.err ||| 16 } }) ∧
  (∀ (id : Nat) (data : Bytes), ownTransfer s id = none → s.gdma.find? (fun g => g.2.2 == id) = none → relayOf s id = none →
    exec (.dmaTransferDone id data) s = .next s) ∧
  (∀ (id : Nat) (e : Exec), ownTransfer s id = some e → e.need = 0 →
    exec (.dmaTransferDone id []) s =
      .next (complete { s with execs := s.execs.filter fun x => x.id != e.id } e.h stOk (rdLE e.data))) ∧
  (∀ (id : Nat) (data : Bytes) (e : Exec), ownTransfer s id = some e → e.need ≠ 0 →
    exec (.dmaTransferDone id data) s = .next (finishRead s e (hostData s e data))) ∧
  (∀ (id : Nat) (data : Bytes) (e : BitVec 256) (r : Nat) (g : Region), ownTransfer s id = none → s.gdma.find? (fun g => g.2.2 == id) = some (r, e, id) → gdmaField e 0 1 = 1 → bit (gdmaField e 1 1) 1 = false → s.region (gdmaField e 6 2) = some g →
    ∃ t, exec (.dmaTransferDone id data) s = .next t ∧ t.gdma = s.gdma.filter (fun x => x.1 != (ringNo r).1) ∧
      (t.region (gdmaField e 6 2)).map (fun x => x.mem) =
        some (g.mem.write (gdmaField e 8 4) ((padTo (gdmaField e 12 4) data).take (gdmaField e 12 4))) ∧
      t.out = s.out ∧ t.ports = s.ports) ∧
  (s.rst.seq ≠ .ready →
    exec .telemetrySnapshot s = .next s) ∧
  (s.rst.seq = .ready → s.telRoute = 0 →
    ∃ t, exec .telemetrySnapshot s = .next t ∧ t.clk = max s.clk (s.bg.telAt + s.bg.telPeriod * 4000000) ∧ t.bg = { s.bg with telAt := t.clk } ∧
      t.out = s.out ∧ t.rings = s.rings ∧ t.cnt = s.cnt ∧
      ∀ p, t.port p = { (s.port p) with telFired := (s.port p).firedAll, telLate := (s.port p).lateAll })

/-- The host link (12_host_rings.md R335, R337, R340, R355 to R357; 14_reset_boot.md R395, R400). Every host reset makes all 64 rings ABSENT
and as after reset, clears GLB_IRQ_MASK, GLB_ERR and the port selections, drops what waits for D0, takes their completions from the commands
of this node's rings, and from every port what only the host could still deliver; all but a Function Level Reset bring the link down, and
PERST_N low is noted among the reset sources, and during the stretch makes the block HELD again. The quires stay as they are, and with
ABORT_ON_PERST every one beyond BOUND is aborted with cause 5 after that. In D3hot the function is marked so; on return to D0 the entries
and requests that waited go out in order, then the messages that nothing masks any more. Link-up, with the islands running and PERST_N high,
serves configuration space on a link that was down, records rate, width, payload and read request size and how MSI-X is enabled and masked,
and lets such messages out too. -/
def Obligations.HostLinkResets : Prop := ∀ (s : State),
  (∀ (c : HostResetCause), (s.execs.all fun e => e.wait != .dma && e.wait != .ringClose) = true → s.spr.parts = [] → s.gdma = [] → s.glb.abortOnPerst = false → c ≠ .perst ∨ s.rst.seq ≠ .stretch →
    ∃ t, exec (.hostReset c) s = .next t ∧ (∀ r, t.ring r = Ring.reset) ∧ t.glb.irqMask = 0 ∧ t.glb.err = 0 ∧ t.glb.pselA = 0 ∧
      t.glb.pselB = 0 ∧ t.parked = [] ∧ t.execs = s.execs.map Exec.lose ∧ t.waiting = s.waiting.map Waiting.lose ∧
      t.quires = s.quires ∧ t.src = s.src ∧ t.page = s.page ∧ t.out = s.out ∧
      (c ≠ .perst → t.rst = s.rst) ∧ (c = .perst → ResetSource.perst ∈ t.rst.asserted ∧ t.rst.seq = s.rst.seq) ∧
      t.link.up = (if c = .flr then s.link.up else false) ∧
      (∀ p, t.port p = { (s.port p) with dat := (s.port p).dat.hostReset (s.ring (ringNo p.1)).exists_ })) ∧
  (∀ (c : HostResetCause), (s.execs.all fun e => e.wait != .dma && e.wait != .ringClose) = true → s.spr.parts = [] → s.gdma = [] → s.glb.abortOnPerst = true →
    ∃ u, exec (.hostReset c) s =
        .next (perstSource (forAll u fun (t : State) (q : Fin 8) => if (t.quire q).st.beyond then abortJob t q 5 else t) c) ∧
      (∀ r, u.ring r = Ring.reset) ∧ u.glb.irqMask = 0 ∧ u.glb.err = 0 ∧ u.glb.pselA = 0 ∧ u.glb.pselB = 0 ∧ u.parked = [] ∧
      u.execs = s.execs.map Exec.lose ∧ u.waiting = s.waiting.map Waiting.lose ∧ u.quires = s.quires ∧ u.src = s.src ∧ u.page = s.page ∧
      u.out = s.out ∧ u.rst = s.rst ∧ u.link.up = (if c = .flr then s.link.up else false) ∧
      (∀ p, u.port p = { (s.port p) with dat := (s.port p).dat.hostReset (s.ring (ringNo p.1)).exists_ })) ∧
  (s.execs = [] → s.spr.parts = [] → s.gdma = [] → s.glb.abortOnPerst = false → s.rst.seq = .stretch →
    ∃ t, exec (.hostReset .perst) s = .next t ∧ t.rst.seq = .held ∧ (∀ r, t.ring r = Ring.reset) ∧ t.glb.irqMask = 0 ∧ t.glb.err = 0 ∧
      t.parked = [] ∧ t.link.up = false ∧ t.quires = .replicate 8 .reset) ∧
  (s.link.up = true →
    exec .d3hotEntry s = .next { s with link := { s.link with d3hot := true } }) ∧
  (s.link.up = false →
    exec .d3hotEntry s = .next s) ∧
  (s.link.d3hot = false →
    exec .d0Return s = .next s) ∧
  (s.link.d3hot = true →
    exec .d0Return s = .next (deliverMsix (s.parked.foldl unpark { s with link := { s.link with d3hot := false }, parked := [] }))) ∧
  (s.link.d3hot = true → s.parked = [] → s.link.msixPend = 0 →
    exec .d0Return s = .next { s with link := { s.link with d3hot := false } }) ∧
  (∀ (gen width mps mrrs : Nat) (en mask : Bool), s.islands = true → s.link.perstLow = false →
    let u : State := { s with link := { s.link with
      up := true, rate := gen, width := width, mps := mps, mrrs := mrrs, msixEn := en, msixMask := mask } }
    let v := if s.link.up then u else u.emit (.identity Config.vendorId.toNat s.part 0xA1 0x118000 0x1000000)
    exec (.pcieLinkUp gen width ⟨mps, mrrs, en, mask⟩) s = .next (deliverMsix v) ∧ (s.link.msixPend = 0 → deliverMsix v = v)) ∧
  (∀ (gen width mps mrrs : Nat) (en mask : Bool), s.islands = false ∨ s.link.perstLow = true →
    exec (.pcieLinkUp gen width ⟨mps, mrrs, en, mask⟩) s = .next s)

/-- Head ports and their links (07_head_ports.md R208, R209, R212, R215, R216, R219, R222). A level of HPnn_PRS_N that has not held for 1 ms
changes nothing. A low one is only noted; a high one is only noted on a CLOSED port, and faults an IDLE, ARMED, PRINTING or DRAINING port with
HEAD_LOST. The end of link steps that are not under way changes nothing; where they have no outcome yet, a HIF-C link is tried once more and
nothing else happens. When the lanes have locked (HIF-A has no lock to wait for), a port that opens and whose identity has been checked comes
to IDLE with its link up, and a port in IDLE that repeats the steps has it up again, with its PORT_CONFIG completed where one waits; when they
have not, PORT_OPEN fails with PORT_FAULT and reason 9, and the port in IDLE faults with LINK_LOST. A HIF-C port whose link is lost is in
FAULT with LINK_LOST. A block of link errors ends after 1,024 lines of a job, or after 10 ms without one. -/
def Obligations.HeadPortsFollowTheLink : Prop := ∀ (s : State) (p : Fin 32),
  let x := s.port p
  (∀ (high : Bool) (held : Nat), held < 4000000 →
    exec (.headPresenceChange p ⟨high, held⟩) s = .next s) ∧
  (∀ (held : Nat), 4000000 ≤ held →
    exec (.headPresenceChange p ⟨false, held⟩) s = .next (s.modPort p fun y => { y with prsHigh := false })) ∧
  (∀ (held : Nat), 4000000 ≤ held → x.st = .closed → x.hm = [] →
    ∃ t, exec (.headPresenceChange p ⟨true, held⟩) s = .next t ∧ t.port p = { x with prsHigh := true } ∧ { t with ports := s.ports } = s ∧
      ∀ r, r ≠ p → t.port r = s.port r) ∧
  (∀ (held : Nat), 4000000 ≤ held → x.st = .idle ∨ x.st = .armed ∨ x.st = .printing ∨ x.st = .draining → x.prsHigh = false → x.hm = [] →
    ∃ t, exec (.headPresenceChange p ⟨true, held⟩) s = .next t ∧ (t.port p).st = .fault ∧ (t.port p).cause = 1 ∧ (t.port p).prsHigh = true ∧
      (t.port p).heater.out = 0) ∧
  (∀ (till : Nat), x.link.train = 0 →
    exec (.portBringupDone p till) s = .next s) ∧
  (∀ (till : Nat), x.link.train ≠ 0 → x.linkOutcome = none →
    exec (.portBringupDone p till) s =
      .next (if x.gen = 3 then (s.advanceTo till).modPort p fun y => { y with link := { y.link with train := y.link.train + 1 } } else s.advanceTo till)) ∧
  (∀ (till : Nat), x.link.train ≠ 0 → x.linkOutcome.isSome = true → openExec s p = none → retrainExec s p = none → x.st ≠ .idle →
    exec (.portBringupDone p till) s = .next (s.advanceTo till)) ∧
  (∀ (till : Nat), x.link.train ≠ 0 → x.linkOutcome = some true → openExec s p = none → retrainExec s p = none → x.st = .idle →
    ∃ t, exec (.portBringupDone p till) s = .next t ∧ (t.port p).link.up = true ∧ (t.port p).link.train = 0 ∧ (t.port p).st = .idle ∧
      t.execs = s.execs ∧ t.quires = s.quires ∧ ∀ r, r ≠ p → t.port r = s.port r) ∧
  (∀ (till : Nat) (e : Exec), x.link.train ≠ 0 → x.linkOutcome = some true → openExec s p = none → retrainExec s p = some e → x.st = .idle →
    ∃ t, exec (.portBringupDone p till) s = .next t ∧ (t.port p).link.up = true ∧ (t.port p).link.train = 0 ∧ (t.port p).st = .idle ∧
      t.execs = s.execs.filter (fun y => y.id != e.id) ∧ t.quires = s.quires ∧ ∀ r, r ≠ p → t.port r = s.port r) ∧
  (∀ (till : Nat), x.link.train ≠ 0 → x.linkOutcome = some false → openExec s p = none → retrainExec s p = none → x.st = .idle →
    ∃ t, exec (.portBringupDone p till) s = .next t ∧ (t.port p).st = .fault ∧ (t.port p).cause = 3 ∧ (t.port p).link.train = 0) ∧
  (∀ (till : Nat) (e : Exec), x.link.train ≠ 0 → x.linkOutcome = some false → openExec s p = some e →
    exec (.portBringupDone p till) s = .next (openFails (s.advanceTo till) p stPortFault 9)) ∧
  (∀ (till : Nat) (e : Exec), x.link.train ≠ 0 → x.linkOutcome = some true → openExec s p = some e → x.hm = [] →
    ∃ t, exec (.portBringupDone p till) s = .next t ∧ (t.port p).st = .idle ∧ (t.port p).link.up = true ∧ (t.port p).cause = 0 ∧
      t.execs = s.execs.filter (fun y => y.id != e.id) ∧ t.quires = s.quires ∧ ∀ r, r ≠ p → t.port r = s.port r) ∧
  (x.gen ≠ 3 ∨ x.st = .closed ∨ x.st = .opening ∨ x.link.up = false →
    exec (.linkLost p) s = .next s) ∧
  (x.gen = 3 → x.st = .idle ∨ x.st = .armed ∨ x.st = .printing ∨ x.st = .draining → x.link.up = true → x.hm = [] →
    ∃ t, exec (.linkLost p) s = .next t ∧ (t.port p).st = .fault ∧ (t.port p).cause = 3 ∧ (t.port p).link.up = false ∧
      t.clk = max s.clk ((match x.link.unlockedAt with | some u => min u x.link.lastStatus | none => x.link.lastStatus) + 64000)) ∧
  (x.st = .closed ∨ x.st.busy = true ∧ x.link.blockLines < 1024 →
    exec (.linkBlockEnd p) s = .next s) ∧
  (x.st.busy = true → 1024 ≤ x.link.blockLines →
    exec (.linkBlockEnd p) s = .next (s.modPort p fun y => { y with
      link := { y.link with errs := 0, blockStart := s.clk, blockLines := 0, raised := false } })) ∧
  (x.st ≠ .closed → x.st.busy = false →
    ∃ t, exec (.linkBlockEnd p) s = .next t ∧ t.clk = max s.clk (x.link.blockStart + 40000000) ∧
      t.port p = { x with link := { x.link with errs := 0, blockStart := t.clk, blockLines := 0, raised := false } } ∧
      { t with ports := s.ports } = s.advanceTo (x.link.blockStart + 40000000))

/-- Status frames, head-memory accesses and level maps (07_head_ports.md R206, R208, R210, R227). A sound status frame of a HIF-C port
without an error flag, whose temperatures stay below T_ABS, sets the time of the last status, the lanes and the temperatures and nothing
else; a port of another kind or a CLOSED one takes none. A reply frame or an I²C transaction that no access waits for, and a frame of
another kind, changes nothing, else it ends the page under way: a reply with its data where its CRC-32 holds and its status is 0, else with
PORT_FAULT, and a bad CRC is a link error too. New shadow rows go to the head's other map bank, once, while no swap is pending and no line
in flight uses that bank. -/
def Obligations.HeadStatusAndMemory : Prop := ∀ (s : State) (p : Fin 32),
  let x := s.port p
  (∀ (f : BitVec 64), x.gen ≠ 3 ∨ x.st = .closed →
    exec (.backChannelStatus p f) s = .next s) ∧
  (∀ (f : BitVec 64), x.gen = 3 → x.st ≠ .closed → f.toNat % 256 = 0x9C → (crc8 ((bytesOf 8 f).take 7)).toNat = f.toNat / 2 ^ 56 → bits (rdAt (bytesOf 8 f) 2 1) 0 0 = 0 → bits (rdAt (bytesOf 8 f) 2 1) 5 5 = 0 → x.therm.absSeen = false → ((frameTemps x (frameT (rdAt (bytesOf 8 f) 3 2)) (frameT (rdAt (bytesOf 8 f) 5 2))).all fun t => (x.profile.map fun q => decide (t.2 < q.tAbs)).getD true) = true →
    ∃ t, exec (.backChannelStatus p f) s = .next t ∧ { t with ports := s.ports } = s ∧ (∀ r, r ≠ p → t.port r = s.port r) ∧
      (t.port p).link.lastStatus = s.clk ∧ (t.port p).link.lanes = bits (rdAt (bytesOf 8 f) 2 1) 4 1 ∧
      (t.port p).link.bcT0 = some (frameT (rdAt (bytesOf 8 f) 3 2)) ∧ (t.port p).link.bcT1 = some (frameT (rdAt (bytesOf 8 f) 5 2)) ∧
      { (t.port p) with link := x.link } = x) ∧
  (∀ (k28 kind status : Byte) (data : Bytes) (crc : U32), (x.hm.head?.bind fun j => j.sent) ≠ some true ∨ k28 ≠ 0x9C ∨ kind ≠ 2 →
    exec (.headmemReply p [k28, kind, status] data crc) s = .next s) ∧
  (∀ (status : Byte) (data : Bytes) (crc : U32), (x.hm.head?.bind fun j => j.sent) = some true → crc32 ([0x9C, 2, status] ++ data) = crc →
    exec (.headmemReply p [0x9C, 2, status] data crc) s = .next (pageDone s p (if status = 0 then stOk else stPortFault) data)) ∧
  (∀ (status : Byte) (data : Bytes) (crc : U32), (x.hm.head?.bind fun j => j.sent) = some true → crc32 ([0x9C, 2, status] ++ data) ≠ crc →
    exec (.headmemReply p [0x9C, 2, status] data crc) s = .next (pageDone (linkError s p 1 (-1)) p stPortFault data)) ∧
  (∀ (ack : Bool) (data : Bytes), (x.hm.head?.bind fun j => j.sent) ≠ some false →
    exec (.headI2cTransferDone p ack data) s = .next s) ∧
  (∀ (ack : Bool) (data : Bytes), (x.hm.head?.bind fun j => j.sent) = some false →
    exec (.headI2cTransferDone p ack data) s = .next (pageDone s p (if ack then stOk else stPortFault) data)) ∧
  (∀ (c : Chan) (b : Banks), (x.chan c).mapDue = true → x.banks = some b → b.pend = false → x.st = .idle ∨ x.st.busy = true → (x.lines.all fun l => l.mapBank == x.link.mapBank) = true →
    ∃ t, exec (.levelMapTransfer p c) s = .next t ∧ ((t.port p).chan c).mapDue = false ∧
      ((t.port p).chan c).headMap (!x.link.mapBank) = (b.shadow.chan c).rows ∧ (t.port p).banks = some b ∧
      { t with ports := s.ports, out := s.out } = s ∧ ∀ r, r ≠ p → t.port r = s.port r) ∧
  (∀ (c : Chan), (x.chan c).mapDue = false →
    exec (.levelMapTransfer p c) s = .next s)

/-- Learning, signature swaps, monitor resets and wear commits (08_nozzle_health.md R243, R245, R249, R253, R254; 01_architecture.md R31). A
learning run that reaches its limit ends, and the staging set stays. A staged set goes live at the boundary and leaves no staging set
behind. A monitor reset is over once it has acted. A periodic wear commit sets its next due time 10 minutes on; a CLOSED port and die
enforcement allow none. Without a run, a swap or a reset due nothing happens. -/
def Obligations.LearningAndWear : Prop := ∀ (s : State) (p : Fin 32),
  let x := s.port p
  (x.rvs.learn = none →
    exec (.learnTimeLimit p) s = .next s) ∧
  (∀ (l : Learn), x.rvs.learn = some l → s.execs.all (fun e => e.id != l.id) = true →
    ∃ t, exec (.learnTimeLimit p) s = .next t ∧ t.clk = max s.clk l.until_ ∧ t.port p = { x with rvs := { x.rvs with learn := none } } ∧
      { t with ports := s.ports } = s.advanceTo l.until_ ∧ ∀ r, r ≠ p → t.port r = s.port r) ∧
  (x.rvs.swapDue = false →
    exec (.learnSwap p) s = .next s) ∧
  (∀ (g : SigSet), x.rvs.swapDue = true → x.rvs.staging = some g →
    ∃ t, exec (.learnSwap p) s = .next t ∧ (t.port p).rvs.staging = none ∧ (t.port p).rvs.swapDue = false ∧
      (t.port p).rvs.live.levels = g.levels ∧ t.clk = s.clk ∧ t.quires = s.quires ∧ ∀ r, r ≠ p → t.port r = s.port r) ∧
  (x.rvs.monReset = [] →
    exec (.monitorReset p) s = .next s) ∧
  (x.rvs.monReset ≠ [] →
    ∃ t, exec (.monitorReset p) s = .next t ∧ (t.port p).rvs.monReset = [] ∧ t.clk = s.clk ∧ t.quires = s.quires ∧
      ∀ r, r ≠ p → t.port r = s.port r) ∧
  (x.st = .closed ∨ s.th.enforce = true →
    exec (.wearCommitPeriodic p) s = .next s) ∧
  (x.st ≠ .closed → s.th.enforce = false → x.hm = [] →
    ∃ t, exec (.wearCommitPeriodic p) s = .next t ∧ t.clk = max s.clk x.wear.dueAt ∧ (t.port p).wear.dueAt = x.wear.dueAt + 2400000000000 ∧
      t.quires = s.quires ∧ ∀ r, r ≠ p → t.port r = s.port r)

/-- Resets (14_reset_boot.md R392 to R395, R408; 09_thermal_supply.md R268). A core POR, a pin reset, the watchdog, SELF_RESET's drive and a
thermal shutdown leave the block HELD with every command, ring, quire, job and event cleared; RST_CAUSE shows the source beside what it
showed (a core POR shows itself and what else still asserts); flash records, OTP words and the backup domain stay, and so do pin levels. A
self-driven source drives RST_N low for 4 µs. A low RST_N that the controller itself drives is no pin reset; the watchdog acts only in READY;
SELF_RESET only while one is due; a shutdown only above the limit, once. -/
def Obligations.ResetsClearTheBlock : Prop := ∀ (s : State),
  (∃ t, exec .corePor s = .next t ∧ t.rst.seq = .held ∧ t.rst.cause.getLsbD 0 = true ∧ t.rst.asserted.head? = some .corePor ∧
      t.rst.scratch = s.rst.scratch ∧ t.rst.count = s.rst.count ∧ t.execs = [] ∧ t.waiting = [] ∧ t.rings = .replicate 64 .reset ∧
      t.quires = .replicate 8 .reset ∧ t.flash.rec0 = s.flash.rec0 ∧ t.flash.rec1 = s.flash.rec1 ∧ t.pending = s.pending ∧
      ∀ p, t.port p = { Port.reset with prsHigh := (s.port p).prsHigh }) ∧
  (s.drivesRst = false →
    ∃ t, exec .pinReset s = .next t ∧ t.rst.seq = .held ∧ t.rst.cause = s.rst.cause ||| 2 ∧ ResetSource.pinExt ∈ t.rst.asserted ∧
      t.rst.scratch = s.rst.scratch ∧ t.rst.count = s.rst.count ∧ t.execs = [] ∧ t.waiting = [] ∧ t.rings = .replicate 64 .reset ∧
      t.quires = .replicate 8 .reset ∧ t.flash.rec0 = s.flash.rec0 ∧ t.flash.rec1 = s.flash.rec1 ∧ t.pending = s.pending ∧
      t.th.shutCount = s.th.shutCount ∧ ∀ p, t.port p = { Port.reset with prsHigh := (s.port p).prsHigh }) ∧
  (s.drivesRst = true →
    exec .pinReset s = .next s) ∧
  (s.rst.seq = .ready →
    ∃ t, exec .watchdogExpiry s = .next t ∧ t.rst.seq = .held ∧ t.rst.cause = s.rst.cause ||| 0x14 ∧ ResetSource.watchdog ∈ t.rst.asserted ∧
      t.rst.driveEnd = some (s.clk + 16000) ∧ t.out.head? = some (.pinRstN true) ∧ t.execs = [] ∧ t.quires = .replicate 8 .reset) ∧
  (s.rst.seq ≠ .ready →
    exec .watchdogExpiry s = .next s) ∧
  (∀ (u : Nat), s.rst.selfAt = some u →
    ∃ t, exec .selfResetDrive s = .next t ∧ t.rst.seq = .held ∧ t.rst.cause = s.rst.cause ||| 0x24 ∧ ResetSource.selfReset ∈ t.rst.asserted ∧
      t.clk = max s.clk u ∧ t.rst.driveEnd = some (t.clk + 16000) ∧ t.out.head? = some (.pinRstN true) ∧ t.quires = .replicate 8 .reset) ∧
  (s.rst.selfAt = none →
    exec .selfResetDrive s = .next s) ∧
  (∀ (die : List Int), s.rst.asserted.contains .thermal = false → 2480 ≤ hottest die →
    ∃ t, exec (.thermalShutdown die) s = .next t ∧ t.rst.seq = .held ∧ t.rst.shut = true ∧ t.rst.cause = s.rst.cause ||| 4 ∧
      ResetSource.thermal ∈ t.rst.asserted ∧ t.th.shutCount = min (s.th.shutCount + 1) 255 ∧ t.th.shutPeak = hottest die ∧
      t.out.head? = some (.pinRstN true) ∧ t.quires = .replicate 8 .reset) ∧
  (∀ (die : List Int), s.rst.asserted.contains .thermal = true ∨ hottest die < 2480 ∧ hottest die ≤ s.th.dieLimit →
    exec (.thermalShutdown die) s = .next s)

/-- Release and boot (14_reset_boot.md R394 to R400, R408). The 4 µs drive ends by itself. When the last source releases in HELD, the
stretch begins and RST_N is driven; a source that does not assert releases nothing. At the end of the stretch, with the fuses loaded, the
drive goes and the pin is looked at 1 µs later: high, the boot begins with the straps as sampled then and the reset counted; low, the block
is HELD again with PIN_EXT. The PLLs lock 100 µs after t1 (or the SPNU lock, where the clock comes from the spine); with TEST_EN high at t1
nothing boots then, which is the model's choice (R468; log entry 84). Main firmware takes the block to READY. VBAT power-on clears the
backup domain and nothing else. None of these acts out of its turn. -/
def Obligations.ReleaseAndBoot : Prop := ∀ (s : State),
  (exec .vbatPowerOn s = .next { s with rst := { s.rst with count := 0, retries := 0, scratch := 0, trialBoots := 0, vbatPor := true } }) ∧
  (∀ (src : ResetSource), s.rst.asserted.contains src = false →
    exec (.resetSourceRelease src) s = .next s) ∧
  (∀ (src : ResetSource), s.rst.seq = .held → s.rst.asserted = [src] → src = .corePor ∨ src = .pinExt →
    exec (.resetSourceRelease src) s = .next { s with
      rst := { s.rst with asserted := [], seq := .stretch, stretchAt := s.clk, loadDone := false }, out := .pinRstN true :: s.out }) ∧
  (s.rst.driveEnd ≠ none → s.rst.asserted = [.watchdog] ∨ s.rst.asserted = [.selfReset] → s.rst.seq = .held →
    ∃ t, exec .selfDriveEnd s = .next t ∧ t.rst.driveEnd = none ∧ t.rst.asserted = [] ∧ t.rst.seq = .stretch ∧ t.rst.stretchAt = t.clk ∧
      t.clk = max s.clk (s.rst.driveEnd.getD 0) ∧ t.quires = s.quires) ∧
  (s.rst.driveEnd = none →
    exec .selfDriveEnd s = .next s) ∧
  (∀ (ok : Bool), s.rst.seq = .stretch → s.rst.loadDone = false →
    ∃ t, exec (.fuseLoadDone ok) s = .next t ∧ t.rst.loadDone = true ∧ s.clk ≤ t.clk ∧ t.clk ≤ max s.clk (s.rst.stretchAt + 1400000) ∧
      t.quires = s.quires) ∧
  (∀ (ok : Bool), s.rst.seq ≠ .stretch ∨ s.rst.loadDone = true →
    exec (.fuseLoadDone ok) s = .next s) ∧
  (∀ (straps : BitVec 5) (te : Bool), s.rst.seq = .stretch → s.rst.loadDone = true →
    (∃ t, exec (.stretchEnd true straps te) s = .next t ∧ t.rst.seq = .boot ∧ t.rst.count = min (s.rst.count + 1) (2 ^ 32 - 1) ∧
      t.rst.straps = straps ∧ t.rst.testEn = te ∧ t.clk = max s.clk (s.rst.stretchAt + 800000) + 4000 ∧ t.rst.t1 = t.clk ∧
      { t with rst := s.rst, clk := s.clk, tb := s.tb, out := s.out } = s) ∧
    (∃ t, exec (.stretchEnd false straps te) s = .next t ∧ t.rst.seq = .held ∧ ResetSource.pinExt ∈ t.rst.asserted ∧
      t.rst.cause = s.rst.cause ||| 2)) ∧
  (∀ (h : Bool) (straps : BitVec 5) (te : Bool), s.rst.seq ≠ .stretch ∨ s.rst.loadDone = false →
    exec (.stretchEnd h straps te) s = .next s) ∧
  (s.rst.seq = .boot → s.clkFromSpine = true → s.isRoot = false → s.rst.spnuLocked = false →
    exec .spnuClockLock s = .next { s with rst := { s.rst with spnuLocked := true, bootAt := s.clk } }) ∧
  (s.rst.seq ≠ .boot ∨ s.clkFromSpine = false ∨ s.isRoot = true ∨ s.rst.spnuLocked = true →
    exec .spnuClockLock s = .next s) ∧
  (s.rst.seq = .boot → s.rst.pllLocked = false → s.rst.spnuLocked = true ∨ s.clkFromSpine = false →
    ∃ t, exec .pllLock s = .next t ∧ t.rst.pllLocked = true ∧ t.clk = max s.clk (s.rst.bootAt + 400000) ∧ t.quires = s.quires ∧
      t.th.demandAt = t.clk ∧ t.press.spdAt = t.clk ∧ t.press.psAt = t.clk ∧ t.press.psLast = none ∧
      (s.rst.testEn = true → t.rst.seq = .boot ∧ t.rst.stage = 0 ∧ t.mgt = s.mgt)) ∧
  (s.rst.seq ≠ .boot ∨ s.rst.pllLocked = true ∨ (s.rst.spnuLocked = false ∧ s.clkFromSpine = true) →
    exec .pllLock s = .next s) ∧
  (s.rst.seq = .boot → s.rst.stage = 3 → s.rst.testEn = false →
    ∃ t, exec .mainFirmwareReady s = .next t ∧ t.rst.seq = .ready ∧ t.rst.stage = 5 ∧ t.page.st = (if s.th.cold then s.page.st else .training) ∧
      t.bg.telAt = s.clk ∧ t.clk = s.clk ∧ t.quires = s.quires) ∧
  (s.rst.seq ≠ .boot ∨ s.rst.stage ≠ 3 ∨ s.rst.testEn = true →
    exec .mainFirmwareReady s = .next s)

/-- Housekeeping and supplies (09_thermal_supply.md R257, R274 to R277). A housekeeping round before the PLLs lock does nothing; else it is
counted. A write-safe comparator and the VPP pin show at once; where WRITE_SAFE does not change nothing else happens; where it falls with
no OTP, flash or head-memory operation under way, the fall is counted, reported and marked in THM_EVENT; where it rises, a paused flash write
goes on. -/
def Obligations.TemperatureAndSupply : Prop := ∀ (s : State),
  let low := fun (t : State) => t.th.wsLowCount = min (s.th.wsLowCount + 1) (2 ^ 32 - 1) ∧ t.th.event = s.th.event ||| 0x20
  (∀ (rd : HkRound), s.rst.pllLocked = false →
    exec (.hkRoundEnd rd) s = .next s) ∧
  (∀ (rd : HkRound), s.rst.pllLocked = true →
    ∃ t, exec (.hkRoundEnd rd) s = .next t ∧ t.th.roundCount = s.th.roundCount + 1 ∧ t.th.firstRound = false) ∧
  (∀ (high : Bool) (mv : Nat), high = s.th.wsVdd →
    exec (.writeSafeChange .vdd high mv) s = .next s) ∧
  (∀ (mv : Nat), s.inReset = false → s.writeSafe = true → s.th.wsVdd = true → s.otp.job = none → s.flash.job = none → ((idx 32).all fun p => (s.port p).hm == []) = true →
    ∃ t, exec (.writeSafeChange .vdd false mv) s = .next t ∧ low t ∧ t.th.wsVdd = false ∧ t.otp = s.otp ∧ t.flash = s.flash ∧
      t.quires = s.quires ∧ t.cnt.events = min (s.cnt.events + 1) (2 ^ 32 - 1)) ∧
  (∀ (mv : Nat), s.inReset = false → s.th.wsVdd = false → s.th.wsVddio = true → s.th.vppPresent = false ∨ s.th.wsVpp = true →
    ∃ t, exec (.writeSafeChange .vdd true mv) s = .next t ∧ t.th.wsVdd = true ∧ t.flash = { s.flash with pausedAt := none } ∧
      t.th.wsLowCount = s.th.wsLowCount ∧ t.quires = s.quires ∧ t.ports = s.ports) ∧
  (∀ (high : Bool) (mv : Nat), s.inReset = true ∨ s.th.wsVdd = false ∨ s.th.wsVddio = false ∨ s.th.vppPresent = false →
    exec (.writeSafeChange .vpp high mv) s = .next { s with th := { s.th with wsVpp := high } }) ∧
  (∀ (present : Bool), s.inReset = true ∨ s.th.wsVdd = false ∨ s.th.wsVddio = false ∨ s.th.wsVpp = true →
    exec (.vppPresenceChange present) s = .next { s with th := { s.th with vppPresent := present } })

/-- Spine links (10_spine.md R284, R285, R291, R296; the root's SPNU of R284). Block lock on a port that holds it already, or while the
islands stand, does nothing; else the port trains, with eight delay requests due, but the root's SPNU, which is DISABLED. Loss of a lock
that a port does not hold does nothing; a port that was not UP is DOWN, with its waiting MGT cells gone; a down port that was UP counts its
child as lost, and bit 0 of SPN_EVENT is set. A silent peer of an UP port leaves it TRAINING with the lock kept, at 1 ms after the last
HELLO. A HELLO leaves a port in every link state but DOWN, 100 µs after the last one. A HELLO with a bad CRC is only counted; a good one of a
peer whose role fits brings a TRAINING port with 1,024 consecutive error-free blocks UP, one whose role does not fit DISABLES it; with fewer
blocks the port goes on TRAINING. A framing error is counted. XOFF on an UP port pauses it and does nothing else, on another port it does
nothing; XON ends the pause, and every cell that waited leaves, so that none waits. -/
def Obligations.SpineLinksTrain : Prop := ∀ (s : State) (sp : SpPort),
  let y := s.yobor sp
  (s.islands = false ∨ y.locked = true →
    exec (.blockLockAcquired sp) s = .next s) ∧
  (s.islands = true → y.locked = false → sp ≠ .u ∨ s.isRoot = false →
    exec (.blockLockAcquired sp) s =
      .next (s.modYobor sp fun z => { z with link := .training, locked := true, delays := [], reqs := 0, reqAt := none })) ∧
  (s.islands = true → y.locked = false → s.isRoot = true → sp = .u →
    exec (.blockLockAcquired sp) s = .next (s.modYobor .u fun z => { z with link := .disabled, locked := true })) ∧
  (∀ (errors : Bool), y.locked = false →
    exec (.blockLockLost sp errors) s = .next s) ∧
  (∀ (errors : Bool), y.locked = true → y.link ≠ .up →
    exec (.blockLockLost sp errors) s = .next (s.modYobor sp fun z => { z with
      link := if sp = .u && s.isRoot then .disabled else .down, locked := false, paused := false, xoff := false })) ∧
  (∀ (errors : Bool), y.locked = true → y.link = .up → sp ≠ .u → s.enumOn sp = none →
    ∃ t, exec (.blockLockLost sp errors) s = .next t ∧ (t.yobor sp).link = .down ∧ (t.yobor sp).locked = false ∧
      (t.yobor sp).childLost = true ∧ (t.yobor sp).mgtOut = [] ∧ t.spr.event = s.spr.event ||| 1 ∧ t.sp.st = s.sp.st ∧ t.clk = s.clk ∧
      t.ports = s.ports ∧ t.quires = s.quires) ∧
  (y.link ≠ .up →
    exec (.peerSilent sp) s = .next s) ∧
  (y.link = .up → s.enumOn sp = none →
    ∃ t, exec (.peerSilent sp) s = .next t ∧ (t.yobor sp).link = .training ∧ (t.yobor sp).locked = true ∧ (t.yobor sp).reqs = 0 ∧
      (t.yobor sp).delays = [] ∧ t.spr.event = s.spr.event ||| 1 ∧ t.clk = max s.clk (y.lastHello + 4000000) ∧ t.ports = s.ports) ∧
  (y.link = .down →
    exec (.helloTx sp) s = .next s) ∧
  (y.link ≠ .down →
    ∃ t, exec (.helloTx sp) s = .next t ∧ t.clk = max s.clk (y.lastHelloTx + 400000) ∧ (t.yobor sp).lastHelloTx = t.clk ∧
      t.out.length = s.out.length + 1 ∧ (t.yobor sp).link = y.link ∧ look t.spr.seqs 5 = look s.spr.seqs 5 + 1 ∧
      t.ports = s.ports ∧ t.quires = s.quires ∧ t.src = s.src) ∧
  (∀ (cell : Cell) (blocks : Nat), y.locked = false →
    exec (.helloRx sp ⟨cell, blocks⟩) s = .next s) ∧
  (∀ (cell : Cell) (blocks : Nat), y.locked = true → cellGood cell = false →
    exec (.helloRx sp ⟨cell, blocks⟩) s = .next (s.modYobor sp fun z => { z with crcErrs := sat32 z.crcErrs 1 })) ∧
  (∀ (cell : Cell) (blocks : Nat), y.locked = true → y.link = .training → blocks < 1024 → cellGood cell = true → cellAt cell 0 1 = 165 → spoken cell = true → cellAt cell 8 1 = 0 →
    exec (.helloRx sp ⟨cell, blocks⟩) s = .next (s.modYobor sp fun z => { z with
      lastHello := s.clk, peer := cellAt cell 12 2 % 4096, peerUid := BitVec.ofNat 96 (cellAt cell 16 12) })) ∧
  (∀ (cell : Cell) (blocks : Nat), y.locked = true → y.link = .training → 1024 ≤ blocks → cellGood cell = true → cellAt cell 0 1 = 165 → spoken cell = true → cellAt cell 8 1 = 0 → rolesFit sp cell = true →
    exec (.helloRx sp ⟨cell, blocks⟩) s = .next (s.modYobor sp fun z => { z with
      link := .up, lastHello := s.clk, peer := cellAt cell 12 2 % 4096, peerUid := BitVec.ofNat 96 (cellAt cell 16 12) })) ∧
  (∀ (cell : Cell) (blocks : Nat), y.locked = true → y.link = .training → 1024 ≤ blocks → cellGood cell = true → cellAt cell 0 1 = 165 → spoken cell = true → cellAt cell 8 1 = 0 → rolesFit sp cell = false →
    exec (.helloRx sp ⟨cell, blocks⟩) s = .next (s.modYobor sp fun z => { z with
      link := .disabled, lastHello := s.clk, peer := cellAt cell 12 2 % 4096, peerUid := BitVec.ofNat 96 (cellAt cell 16 12) })) ∧
  (y.locked = false →
    exec (.cellFramingError sp) s = .next s) ∧
  (y.locked = true →
    exec (.cellFramingError sp) s = .next (s.modYobor sp fun z => { z with frameErrs := sat32 z.frameErrs 1 })) ∧
  (y.link = .up →
    exec (.flowXoffRx sp) s = .next (s.modYobor sp fun z => { z with paused := true })) ∧
  (y.link ≠ .up →
    exec (.flowXoffRx sp) s = .next s) ∧
  (∃ t, exec (.flowXonRx sp) s = .next t ∧ (t.yobor sp).paused = false ∧ (t.yobor sp).mgtOut = [] ∧ (t.yobor sp).link = y.link ∧
      s.out.length + y.mgtOut.length ≤ t.out.length ∧ t.ports = s.ports ∧ t.spr = s.spr ∧ t.clk = s.clk)

/-- Time over the spine (10_spine.md R295 to R297). SYNC leaves a root or a node that is JOINING, MEMBER or SYNCED 125 µs after the last one,
and no other node. A SYNC that a root, an ALONE node or a down port gets changes nothing; one of an epoch that is neither this nor the one
before leaves a node that is not JOINING ALONE, without an ID; an accepted one sets the time of the last SYNC and its offset, makes a LOST
node MEMBER and the eighth in a row within 2 ns makes a MEMBER SYNCED; the timebase moves by at most 100 ppm of the time since the last one
once the first has been taken and a quire bound to a remote source is beyond BOUND. Without SYNC for 1 ms a MEMBER or SYNCED node is LOST. A
delay request carries the next TSEQ, 10 µs after one of the first eight and 1 ms after a later one; it is answered on an up or down port
that is not DOWN; the answer with this TSEQ adds one exchange, and the last eight are kept. -/
def Obligations.SpineTimeIsKept : Prop := ∀ (s : State),
  let ofs := fun (cell : Cell) => ((cellAt cell 12 8 * 1000 + cellAt cell 20 2 * 1000 / 65536 + s.sp.u.delayPs : Nat) : Int) - (s.tb * 250 : Nat)
  (s.islands = false ∨ s.syncs = false →
    exec .syncTx s = .next s) ∧
  (s.islands = true → s.syncs = true →
    ∃ t, exec .syncTx s = .next t ∧ t.clk = max s.clk (s.spr.syncTxAt + 500000) ∧ t.spr.syncTxAt = t.clk ∧ t.sp = s.sp ∧
      t.tb = s.tb + (t.clk - s.clk) ∧ t.ports = s.ports ∧ t.src = s.src ∧ t.quires = s.quires ∧
      t.out.length = s.out.length + bitAt (s.sp.a.link == .up) 0 + bitAt (s.sp.b.link == .up) 0) ∧
  (∀ (sp : SpPort) (cell : Cell), sp ≠ .u ∨ s.sp.st = .alone ∨ s.isRoot = true ∨ s.sp.u.link ≠ .up →
    exec (.syncRx sp cell) s = .next s) ∧
  (∀ (cell : Cell), s.sp.st = .member ∨ s.sp.st = .synced ∨ s.sp.st = .lost → s.isRoot = false → s.sp.u.link = .up → cellGood cell = true → cellAt cell 0 1 = 161 → spoken cell = true → cellAt cell 8 1 = 0 → cellAt cell 9 1 ≠ s.sp.epoch → cellAt cell 9 1 ≠ epochBefore s.sp.epoch →
    ∃ t, exec (.syncRx .u cell) s = .next t ∧ t.sp.st = .alone ∧ t.sp.nodeId = 0 ∧ t.sp.depth = 0 ∧ t.sp.a.lo = 0 ∧ t.sp.b.lo = 0 ∧
      t.tb = s.tb ∧ t.ports = s.ports) ∧
  (∀ (cell : Cell), s.sp.st = .lost → s.isRoot = false → s.sp.u.link = .up → cellGood cell = true → cellAt cell 0 1 = 161 → spoken cell = true → cellAt cell 8 1 = 0 → cellAt cell 9 1 = s.sp.epoch →
    ∃ t, exec (.syncRx .u cell) s = .next t ∧ t.sp.st = .member ∧ t.spr.syncAt = s.clk ∧ t.spr.syncOfsPs = ofs cell ∧ t.clk = s.clk ∧
      t.sp.spvOp = cellAt cell 10 1 % 16 ∧ t.ports = s.ports ∧ t.src = s.src ∧ t.quires = s.quires) ∧
  (∀ (cell : Cell), s.sp.st = .member → s.isRoot = false → s.sp.u.link = .up → cellGood cell = true → cellAt cell 0 1 = 161 → spoken cell = true → cellAt cell 8 1 = 0 → cellAt cell 9 1 = s.sp.epoch →
    ∃ t, exec (.syncRx .u cell) s = .next t ∧ t.spr.syncAt = s.clk ∧ t.spr.syncOfsPs = ofs cell ∧ t.clk = s.clk ∧
      t.sp.st = (if (ofs cell).natAbs ≤ 2000 ∧ 7 ≤ s.spr.syncRun then .synced else .member) ∧
      t.sp.nodeId = s.sp.nodeId ∧ t.ports = s.ports ∧ t.src = s.src ∧ t.quires = s.quires) ∧
  (∀ (cell : Cell), s.sp.st = .synced → s.isRoot = false → s.sp.u.link = .up → cellGood cell = true → cellAt cell 0 1 = 161 → spoken cell = true → cellAt cell 8 1 = 0 → cellAt cell 9 1 = s.sp.epoch → s.spr.firstSync = false → (ofs cell).natAbs ≤ 1000000 ∨ s.remoteBusy = true →
    ∃ t, exec (.syncRx .u cell) s = .next t ∧ t.sp.st = (if 4000 < (ofs cell).natAbs then .member else .synced) ∧
      t.tb ≤ s.tb + (s.clk - s.spr.syncAt) / 10000 ∧ s.tb ≤ t.tb + (s.clk - s.spr.syncAt) / 10000 ∧ t.spr.event = s.spr.event) ∧
  (s.isRoot = true ∨ (s.sp.st ≠ .member ∧ s.sp.st ≠ .synced) →
    exec .syncLoss s = .next s) ∧
  (s.isRoot = false → s.sp.st = .member ∨ s.sp.st = .synced →
    ∃ t, exec .syncLoss s = .next t ∧ t.sp = { s.sp with st := .lost } ∧ { t with sp := s.sp } = s.advanceTo (s.spr.syncAt + 4000000)) ∧
  (s.sp.u.link = .down →
    exec .delayReqTx s = .next s) ∧
  (s.sp.u.link ≠ .down →
    ∃ t, exec .delayReqTx s = .next t ∧ t.sp.u.tseq = (s.sp.u.tseq + 1) % 256 ∧ t.sp.u.reqs = min (s.sp.u.reqs + 1) 8 ∧
      t.sp.u.reqAt = some t.clk ∧ t.out.length = s.out.length + 1 ∧ t.ports = s.ports ∧
      t.clk = max s.clk (match s.sp.u.reqAt with | none => 0 | some u => u + (if s.sp.u.reqs < 8 then 40000 else 4000000))) ∧
  (∀ (sp : SpPort) (cell : Cell) (turn : U32), (s.yobor sp).link = .down →
    exec (.delayReqRx sp cell turn) s = .next s) ∧
  (∀ (sp : SpPort) (cell : Cell) (turn : U32), (s.yobor sp).link ≠ .down → cellGood cell = true → cellAt cell 0 1 = 161 → spoken cell = true → cellAt cell 8 1 = 1 →
    ∃ t, exec (.delayReqRx sp cell turn) s = .next t ∧ t.out.length = s.out.length + 1 ∧ t.sp = s.sp ∧ t.clk = s.clk ∧ t.ports = s.ports ∧
      look t.spr.seqs 1 = look s.spr.seqs 1 + 1) ∧
  (∀ (sp : SpPort) (cell : Cell) (rtt : Nat), sp ≠ .u ∨ s.sp.u.link = .down →
    exec (.delayRespRx sp cell rtt) s = .next s) ∧
  (∀ (cell : Cell) (rtt : Nat), s.sp.u.link ≠ .down → cellGood cell = true → cellAt cell 0 1 = 161 → spoken cell = true → cellAt cell 8 1 = 2 → cellAt cell 9 1 = s.sp.u.tseq →
    exec (.delayRespRx .u cell rtt) s = .next (s.modYobor .u fun z => { z with
      delays := ((256 * rtt - 1000 * cellAt cell 12 4) / 512 :: z.delays).take 8 }))

/-- Position relay (10_spine.md R298, R299). A local source that POS_OUT does not list, or on a node without an ID, publishes nothing. One
that is published on a change is sent at once, else 4 position periods after the last cell when an edge is owed, else 4 µs after it; the
cell leaves on every UP port. A POS cell on a port that is not UP, with a bad CRC or on an ALONE node reaches no source; a good one gives
every source bound to its origin and source the state, cause, directions, speed and clamp that it carries, and no other source anything.
Speed demand and fault events (10_spine.md R300 to R303, R308). DMD leaves a node with an ID that is no root and whose SPNU is UP: at once
after a change, else 100 µs after the last one. A DMD on a down port whose child has IDs is kept as the child's, with its time, and the
child does not count as lost; without one for 1 ms it does. An EVT cell on a port that is not UP changes nothing. A STOP event of a node
that listens sets bit 2 of SPN_EVENT, and stops the quires that it names and EVT_IN lists, with cause 10 or a higher one that waited for the
same boundary; on the root a FAULT_SET of SPV 3 puts its source into the fault set and a FAULT_CLEAR takes it out. -/
def Obligations.SpineCellsAreTaken : Prop := ∀ (s : State),
  let taken := fun (sp : SpPort) (cell : Cell) => (s.yobor sp).link == .up && s.sp.st != .alone && cellGood cell && cellAt cell 0 1 == 160 &&
    (cellDst cell == 4095 || (cellDst cell == s.sp.nodeId && s.sp.nodeId != 0))
  (∀ (n : Fin 4), s.sp.nodeId = 0 ∨ s.sp.posOut.getLsbD n.1 = false →
    exec (.posPublish n) s = .next s) ∧
  (∀ (n : Fin 4), s.sp.nodeId ≠ 0 → s.sp.posOut.getLsbD n.1 = true →
    ∃ t, exec (.posPublish n) s = .next t ∧ (t.source (srcNo n.1)).pubEdge = false ∧ (t.source (srcNo n.1)).pubAt = t.clk ∧
      (t.source (srcNo n.1)).pubKey = (s.source (srcNo n.1)).key ∧ (t.source (srcNo n.1)).mark = (s.source (srcNo n.1)).mark ∧
      t.clk = (let x := s.source (srcNo n.1)
        if x.key ≠ x.pubKey then s.clk
        else max s.clk (x.pubAt + (if x.pubEdge then 4 * s.sp.posPeriod else 16000))) ∧
      t.out.length = s.out.length + bitAt (s.sp.u.link == .up) 0 + bitAt (s.sp.a.link == .up) 0 + bitAt (s.sp.b.link == .up) 0 ∧
      t.ports = s.ports ∧ t.quires = s.quires ∧ t.sp = s.sp) ∧
  (∀ (sp : SpPort) (cell : Cell), (s.yobor sp).link ≠ .up →
    exec (.posCellRx sp cell) s = .next s) ∧
  (∀ (sp : SpPort) (cell : Cell), (s.yobor sp).link = .up → cellGood cell = false ∨ s.sp.st = .alone →
    ∃ t, exec (.posCellRx sp cell) s = .next t ∧ t.src = s.src ∧ t.quires = s.quires ∧ t.ports = s.ports ∧ t.clk = s.clk ∧
      (cellGood cell = false → (t.yobor sp).crcErrs = sat32 (s.yobor sp).crcErrs 1)) ∧
  (∀ (sp : SpPort) (cell : Cell), (s.yobor sp).link = .up → s.sp.st ≠ .alone → cellGood cell = true → cellAt cell 0 1 = 162 → spoken cell = true →
    ∃ t, exec (.posCellRx sp cell) s = .next t ∧ t.clk = s.clk ∧ ∀ (n : Fin 16),
      (t.source n).bound = (s.source n).bound ∧
      (if (s.source n).bound = some (cellSrc cell, cellAt cell 8 1 % 16) then
        (t.source n).cellAt = s.clk ∧ (t.source n).st = srcStateOf (cellAt cell 8 1 / 16 % 8) ∧
          (t.source n).speed = cellAt cell 20 4 * 4096 ∧ (t.source n).adv = cellAt cell 19 1 ∧ (t.source n).cause = cellAt cell 9 1 % 16 ∧
          (t.source n).trackDir = bit (cellAt cell 8 1) 7 ∧ (t.source n).moveDir = bit (cellAt cell 9 1) 4
      else t.source n = s.source n)) ∧
  (s.sp.nodeId = 0 ∨ s.isRoot = true ∨ s.sp.u.link ≠ .up →
    exec .dmdTx s = .next s) ∧
  (s.sp.nodeId ≠ 0 → s.isRoot = false → s.sp.u.link = .up →
    ∃ t, exec .dmdTx s = .next t ∧ t.clk = (if s.dmdKey ≠ s.spr.dmdSent then s.clk else max s.clk (s.spr.dmdTxAt + 400000)) ∧
      t.spr.dmdTxAt = t.clk ∧ t.spr.dmdSent = s.dmdKey ∧ t.out.length = s.out.length + 1 ∧ t.sp = s.sp ∧ t.ports = s.ports ∧ t.quires = s.quires) ∧
  (∀ (sp : SpPort) (cell : Cell), sp = .u ∨ (s.yobor sp).lo = 0 →
    exec (.dmdRx sp cell) s = .next s) ∧
  (∀ (sp : SpPort) (cell : Cell), sp ≠ .u → (s.yobor sp).lo ≠ 0 → (s.yobor sp).link = .up → cellGood cell = true → cellAt cell 0 1 = 163 → spoken cell = true →
    ∃ t, exec (.dmdRx sp cell) s = .next t ∧ (t.yobor sp).childLost = false ∧ (t.yobor sp).dmdAt = s.clk ∧
      (t.yobor sp).dmd.isSome = true ∧ (t.yobor sp).link = .up ∧ t.clk = s.clk ∧ t.ports = s.ports ∧ t.quires = s.quires ∧ t.out = s.out) ∧
  (∀ (sp : SpPort), sp = .u ∨ (s.yobor sp).lo = 0 ∨ (s.yobor sp).childLost = true →
    exec (.childLost sp) s = .next s) ∧
  (∀ (sp : SpPort), sp ≠ .u → (s.yobor sp).lo ≠ 0 → (s.yobor sp).childLost = false →
    ∃ t, exec (.childLost sp) s = .next t ∧ (t.yobor sp).childLost = true ∧ t.clk = max s.clk ((s.yobor sp).dmdAt + 4000000) ∧
      (t.yobor sp).link = (s.yobor sp).link ∧ t.ports = s.ports ∧ t.quires = s.quires ∧ t.out = s.out) ∧
  (∀ (sp : SpPort) (cell : Cell), (s.yobor sp).link ≠ .up →
    exec (.evtCellRx sp cell) s = .next s) ∧
  (∀ (sp : SpPort) (cell : Cell), taken sp cell = true → spoken cell = true → cellAt cell 8 1 = 1 →
    ∃ t, exec (.evtCellRx sp cell) s = .next t ∧ t.spr.event = s.spr.event ||| 4 ∧ t.clk = s.clk ∧ t.spr.faultSet = s.spr.faultSet ∧
      (∀ (q : Fin 8), (s.quire q).st.stoppable = true → (cellAt cell 10 1).testBit q.1 = true → s.sp.evtIn.getLsbD q.1 = true →
        (t.quire q).st = .stopping ∧ 10 ≤ (t.quire q).cause ∧ ((s.quire q).stopAt = [] → (t.quire q).cause = 10)) ∧
      (∀ (q : Fin 8), (cellAt cell 10 1).testBit q.1 = false ∨ s.sp.evtIn.getLsbD q.1 = false → (t.quire q).st = (s.quire q).st) ∧
      (cellAt cell 10 1 = 0 ∨ s.sp.evtIn = 0 → t.quires = s.quires ∧ t.ports = s.ports)) ∧
  (∀ (sp : SpPort) (cell : Cell), taken sp cell = true → s.isRoot = true → cellSpv cell = 3 → cellAt cell 8 1 = 2 →
    ∃ t, exec (.evtCellRx sp cell) s = .next t ∧ t.spr.faultSet.contains (cellSrc cell) = true ∧
      (s.spr.faultSet.all fun i => t.spr.faultSet.contains i) = true ∧ t.quires = s.quires ∧ t.ports = s.ports ∧ t.clk = s.clk) ∧
  (∀ (sp : SpPort) (cell : Cell), taken sp cell = true → s.isRoot = true → cellSpv cell = 3 → cellAt cell 8 1 = 3 →
    ∃ t, exec (.evtCellRx sp cell) s = .next t ∧ t.spr.faultSet = s.spr.faultSet.filter (fun i => i != cellSrc cell) ∧
      t.quires = s.quires ∧ t.ports = s.ports ∧ t.clk = s.clk)

/-- MGT messages on the node they are for (10_spine.md R294, R304 to R306, R308). A cell of any of the eight kinds that comes on a port that
is not UP changes nothing, nor does a CPL that nothing waits for. The first segment of a CMD or an EVT is kept; a CMD segment out of order
loses what was kept; the last one in order hands the command to a node whose cores are up: it waits, counted, as one of the sender's; the
last of an EVT is handed over too. A CPL ends the command that waits for it, and TUNNEL_TIMEOUT, counted, ends it at its due instant. A read
request for a command of a ring makes the entry node read its host's memory, in D0, in requests of the size it allows; one for no known
command is answered by WR_ACK ABORTED; a write request is kept, and the last data segment for a ring's command is written to the host; data
without a request changes nothing. On the target, RD_DATA or WR_ACK for no running command changes nothing, data in order is added, and
acknowledgements count down; the last ends the command. -/
def Obligations.TunnelMessagesArrive : Prop := ∀ (s : State) (sp : SpPort) (cell : Cell),
  let kind := cellAt cell 8 1
  let seg := cellAt cell 9 1
  let tt := cellAt cell 10 2
  let here := (s.yobor sp).link == .up && cellGood cell && cellAt cell 0 1 == 164 && spoken cell && s.sp.st != .alone && cellDst cell != 4095 && cellDst cell == s.sp.nodeId
  let part := s.spr.parts.find? (isPart cell kind)
  ((s.yobor sp).link ≠ .up →
    exec (.mgtCmdRx sp cell) s = .next s ∧ exec (.mgtCplRx sp cell) s = .next s ∧ exec (.mgtEvtRx sp cell) s = .next s ∧
      exec (.mgtRdReqRx sp cell) s = .next s ∧ exec (.mgtRdDataRx sp cell) s = .next s ∧ exec (.mgtWrReqRx sp cell) s = .next s ∧
      exec (.mgtWrDataRx sp cell) s = .next s ∧ exec (.mgtWrAckRx sp cell) s = .next s) ∧
  (here = true → kind = 0 → seg = 0 →
    exec (.mgtCmdRx sp cell) s = .next { s with spr := { s.spr with parts := (s.spr.parts.filter fun m => !isPart cell 0 m) ++
      [{ src := cellSrc cell, kind := 0, ttag := tt, data := segBytes cell, nextSeg := 1, addr := 0, len := 0 }] } }) ∧
  (here = true → kind = 0 → seg ≠ 0 → part.all (fun m => m.nextSeg != seg) = true →
    exec (.mgtCmdRx sp cell) s = .next { s with spr := { s.spr with parts := s.spr.parts.filter fun m => !isPart cell 0 m } }) ∧
  (here = true → kind = 0 → seg = 3 → part.any (fun m => m.nextSeg == 3) = true → s.cores = true →
    ∃ t, exec (.mgtCmdRx sp cell) s = .next t ∧ t.waiting.length = s.waiting.length + 1 ∧
      t.cnt.tunnelRun = sat32 s.cnt.tunnelRun 1 ∧ t.waiting.getLast?.any (fun w => w.target == 0 &&
        w.h.src == .tunnel (BitVec.ofNat 12 (cellSrc cell)) (BitVec.ofNat 16 tt)) = true ∧
      t.ports = s.ports ∧ t.clk = s.clk ∧ t.out = s.out) ∧
  (here = true → kind = 1 → s.spr.tunnel.find? (fun x => x.ttag == tt && x.node == cellSrc cell) = none →
    exec (.mgtCplRx sp cell) s = .next s) ∧
  (∀ (x : Tunnelled), here = true → kind = 1 → s.spr.tunnel.find? (fun x => x.ttag == tt && x.node == cellSrc cell) = some x → s.spr.heldBack.find? (fun w => w.target == x.node) = none →
    ∃ t, exec (.mgtCplRx sp cell) s = .next t ∧ t.spr.tunnel = s.spr.tunnel.filter (fun y => y.ttag != x.ttag) ∧
      t.ports = s.ports ∧ t.clk = s.clk ∧ t.execs = s.execs ∧ t.waiting = s.waiting) ∧
  (here = true → kind = 2 → seg = 0 →
    exec (.mgtEvtRx sp cell) s = .next { s with spr := { s.spr with parts := (s.spr.parts.filter fun m => !isPart cell 2 m) ++
      [{ src := cellSrc cell, kind := 2, ttag := tt, data := segBytes cell, nextSeg := 1, addr := 0, len := 0 }] } }) ∧
  (here = true → kind = 2 → seg = 1 → part.any (fun m => m.nextSeg == 1) = true →
    ∃ t, exec (.mgtEvtRx sp cell) s = .next t ∧ t.spr.parts = s.spr.parts.filter (fun m => !isPart cell 2 m) ∧
      t.ports = s.ports ∧ t.clk = s.clk ∧ t.spr.tunnel = s.spr.tunnel ∧ t.waiting = s.waiting) ∧
  (here = true → kind = 3 → cellSpv cell = 3 → tunnelHost s (cellSrc cell) tt = some true →
    ∃ t, exec (.mgtRdReqRx sp cell) s = .next t ∧ (let reads := (s.readSpans (cellAt cell 12 8) (min 4096 (cellAt cell 20 4))).map fun x => Out.dmaRead s.nextId x.1 x.2 false
        if s.link.d3hot then t.parked = s.parked ++ reads.map .request ∧ t.out = s.out else t.out = reads.reverse ++ s.out ∧ t.parked = s.parked) ∧
      t.nextId = s.nextId + 1 ∧ t.spr.parts.length = s.spr.parts.length + 1 ∧ t.ports = s.ports ∧ t.clk = s.clk) ∧
  (here = true → kind = 3 → cellSpv cell = 3 → tunnelHost s (cellSrc cell) tt = none →
    exec (.mgtRdReqRx sp cell) s = .next (sendMgt s (cellSrc cell) 7 tt (le 2 stAborted))) ∧
  (here = true → kind = 5 → cellSpv cell = 3 → (tunnelHost s (cellSrc cell) tt).isSome = true →
    exec (.mgtWrReqRx sp cell) s = .next { s with spr := { s.spr with parts := (s.spr.parts.filter fun m => !isPart cell 5 m) ++
      [{ src := cellSrc cell, kind := 5, ttag := tt, data := [], nextSeg := 0, addr := cellAt cell 12 8, len := min 4096 (cellAt cell 20 4) }] } }) ∧
  (here = true → kind = 6 → cellSpv cell = 3 → s.spr.parts.find? (isPart cell 5) = none →
    exec (.mgtWrDataRx sp cell) s = .next s) ∧
  (∀ (m : MgtPart), here = true → kind = 6 → cellSpv cell = 3 → s.spr.parts.find? (isPart cell 5) = some m → m.nextSeg = seg → m.len ≤ m.data.length + 16 → tunnelHost s m.src m.ttag = some true →
    ∃ t, exec (.mgtWrDataRx sp cell) s = .next t ∧ (s.link.d3hot = false → ∀ x, x ∈ spans (max 128 s.link.mps) (m.len / 64 + 2) m.addr m.len →
        t.out.contains (.hostWrite x.1 ((((m.data ++ segBytes cell).take m.len).drop (x.1 - m.addr)).take x.2)) = true) ∧
      t.spr.parts = s.spr.parts.filter (fun x => !isPart cell 5 x) ∧ t.ports = s.ports ∧ t.clk = s.clk) ∧
  (here = true → kind = 4 ∨ kind = 7 → tunnelTransfer s cell = none →
    exec (.mgtRdDataRx sp cell) s = .next s ∧ exec (.mgtWrAckRx sp cell) s = .next s) ∧
  (∀ (e : Exec), here = true → kind = 4 → cellSpv cell = 3 → tunnelTransfer s cell = some e → e.data.length + 16 < e.need → seg = e.data.length % 4096 / 16 →
    exec (.mgtRdDataRx sp cell) s = .next (s.modExec e.id fun x => { x with data := e.data ++ segBytes cell })) ∧
  (∀ (e : Exec), here = true → kind = 7 → cellSpv cell = 3 → tunnelTransfer s cell = some e → rdAt (segBytes cell) 0 2 = 0 → e.need = 0 → 2 ≤ e.acks →
    exec (.mgtWrAckRx sp cell) s = .next (s.modExec e.id fun x => { x with acks := x.acks - 1 })) ∧
  (∀ (e : Exec), here = true → kind = 7 → cellSpv cell = 3 → tunnelTransfer s cell = some e → rdAt (segBytes cell) 0 2 = 0 → e.need = 0 → e.acks ≤ 1 →
    ∃ t, exec (.mgtWrAckRx sp cell) s = .next t ∧ t.execs = s.execs.filter (fun x => x.id != e.id) ∧ t.ports = s.ports ∧ t.clk = s.clk) ∧
  (∀ (ttag : BitVec 16), s.spr.tunnel.find? (fun x => x.ttag == ttag.toNat) = none →
    exec (.tunnelTimeout ttag) s = .next s) ∧
  (∀ (ttag : BitVec 16) (x : Tunnelled), s.spr.tunnel.find? (fun x => x.ttag == ttag.toNat) = some x → s.spr.heldBack.find? (fun w => w.target == x.node) = none → x.h.src ≠ .lost →
    ∃ t, exec (.tunnelTimeout ttag) s = .next t ∧ t.spr.tunnel = s.spr.tunnel.filter (fun y => y.ttag != x.ttag) ∧
      t.clk = max s.clk x.deadline ∧ t.cnt.tunnelTimeouts = sat32 s.cnt.tunnelTimeouts 1 ∧ t.ports = s.ports)

/-- Enumeration (10_spine.md R292, R293, R295, R307). A PROBE on SPNU sets the parent and the delay of the path, and one cell answers it; on
another port it does nothing. ASSIGN on SPNU of a node that is no root and not JOINING gives it its ID, depth and epoch, and it is JOINING
while SPNA, being UP, is probed, and what it knows of its subtrees stays; a root or a JOINING node ignores it. A REPLY of this epoch on the
port in progress is answered with the next free ID, which is the port's from then on; any port that is not in progress changes nothing with
a REPLY, DONE, REFUSE or a timeout. DONE fixes the range of the port in progress and counts the SPV_MAX of its subtree; REFUSE leaves the
port REFUSED; 2 ms without an answer count as a timeout; after SPNA, SPNB is probed when it is UP; after SPNB a node that is no root is
MEMBER (SYNCED if it was SYNCED when it began). -/
def Obligations.NodesAreEnumerated : Prop := ∀ (s : State) (sp : SpPort) (cell : Cell),
  let cmd := cellAt cell 8 1
  let ok := (s.yobor sp).link == .up && cellGood cell && cellAt cell 0 1 == 165 && spoken cell
  (sp ≠ .u ∨ (s.yobor sp).link ≠ .up →
    exec (.enuProbeRx sp cell) s = .next s ∧ exec (.enuAssignRx sp cell) s = .next s) ∧
  (ok = true → sp = .u → cmd = 1 →
    ∃ t, exec (.enuProbeRx sp cell) s = .next t ∧ t.sp.parent = cellAt cell 12 2 % 4096 ∧ t.sp.parentP = cellAt cell 20 4 ∧
      t.sp.pathP = cellAt cell 20 4 + ceilDiv s.sp.u.delayPs 1000 + 64 ∧ t.sp.latBudget = cellAt cell 16 4 ∧ t.sp.st = s.sp.st ∧
      t.sp.nodeId = s.sp.nodeId ∧ t.out.length = s.out.length + 1 ∧ t.clk = s.clk ∧ t.ports = s.ports ∧ t.quires = s.quires) ∧
  (s.isRoot = true ∨ s.sp.st = .joining →
    exec (.enuAssignRx sp cell) s = .next s) ∧
  (ok = true → sp = .u → s.isRoot = false → s.sp.st ≠ .joining → cmd = 3 → s.sp.a.link = .up →
    ∃ t, exec (.enuAssignRx sp cell) s = .next t ∧ t.sp.st = .joining ∧ t.sp.nodeId = cellAt cell 12 2 % 4096 ∧
      t.sp.depth = cellAt cell 11 1 ∧ t.sp.epoch = cellAt cell 9 1 ∧ t.sp.spvOp = cellAt cell 10 1 % 16 ∧ t.sp.a.lo = s.sp.a.lo ∧
      t.sp.a.hi = s.sp.a.hi ∧ t.sp.b.lo = s.sp.b.lo ∧ t.sp.b.hi = s.sp.b.hi ∧
      t.sp.enum.any (fun e => e.sp == .a && e.assigned == none && e.sentAt == s.clk && e.next == cellAt cell 12 2 % 4096 + 1) = true ∧
      s.out.length + 1 ≤ t.out.length ∧ (3 ≤ cellAt cell 10 1 % 16 → t.out.length = s.out.length + 1) ∧ t.clk = s.clk ∧ t.ports = s.ports ∧ t.quires = s.quires) ∧
  (s.enumOn sp = none → ok = true →
    exec (.enuReplyRx sp cell) s = .next s ∧ exec (.enuDoneRx sp cell) s = .next s ∧ exec (.enuRefuseRx sp cell) s = .next s ∧
      exec (.enuProbeTimeout sp) s = .next s) ∧
  (∀ (e : Enum), ok = true → s.enumOn sp = some e → e.assigned = none → cmd = 2 → cellAt cell 9 1 = s.sp.epoch → e.next < 0xFFF →
    ∃ t, exec (.enuReplyRx sp cell) s = .next t ∧ t.sp.enum.any (fun x => x.assigned == some e.next && x.next == e.next && x.sp == sp &&
        x.spvMin == e.spvMin) = true ∧ t.out.length = s.out.length + 1 ∧ t.clk = s.clk ∧ t.ports = s.ports) ∧
  (∀ (e : Enum) (id : Nat), ok = true → s.enumOn sp = some e → sp = .b → e.assigned = some id → cmd = 4 → cellAt cell 9 1 = s.sp.epoch → s.isRoot = false →
    ∃ t, exec (.enuDoneRx sp cell) s = .next t ∧ t.sp.b.lo = id ∧ t.sp.b.hi = cellAt cell 12 2 % 4096 ∧
      t.sp.last = cellAt cell 12 2 % 4096 ∧ t.sp.nodes = e.nodes + cellAt cell 14 2 ∧ t.sp.enum = none ∧
      t.sp.st = (if e.wasSynced then .synced else .member) ∧ t.spr.syncAt = s.clk ∧ t.spr.event = s.spr.event ||| 8 ∧
      t.out.length = s.out.length + 1 ∧ t.clk = s.clk ∧ t.ports = s.ports) ∧
  (∀ (e : Enum) (id : Nat), ok = true → s.enumOn sp = some e → sp = .a → e.assigned = some id → cmd = 4 → cellAt cell 9 1 = s.sp.epoch → s.sp.b.link = .up →
    ∃ t, exec (.enuDoneRx sp cell) s = .next t ∧ t.sp.a.lo = id ∧ t.sp.a.hi = cellAt cell 12 2 % 4096 ∧ t.sp.st = s.sp.st ∧
      t.sp.enum.any (fun x => x.sp == .b && x.assigned == none && x.next == cellAt cell 12 2 % 4096 + 1 && x.sentAt == s.clk &&
        x.spvMin == min (cellAt cell 10 1) e.spvMin) = true ∧
      t.out.length = s.out.length + 1 ∧ t.clk = s.clk ∧ t.ports = s.ports) ∧
  (∀ (e : Enum), ok = true → s.enumOn sp = some e → sp = .a → e.assigned = none → cmd = 5 → s.sp.b.link = .up →
    ∃ t, exec (.enuRefuseRx sp cell) s = .next t ∧ t.sp.a.link = .refused ∧ t.spr.event = s.spr.event ||| 1 ∧
      t.sp.enum.any (fun x => x.sp == .b && x.refused == e.refused + 1 && x.tooDeep == (e.tooDeep || cellAt cell 10 1 == 1)) = true ∧ t.clk = s.clk ∧
      t.ports = s.ports) ∧
  (∀ (e : Enum), s.enumOn sp = some e → e.assigned.isSome = true →
    exec (.enuProbeTimeout sp) s = .next s) ∧
  (∀ (e : Enum), s.enumOn sp = some e → e.assigned = none → sp = .b → s.isRoot = false →
    ∃ t, exec (.enuProbeTimeout sp) s = .next t ∧ t.clk = max s.clk (e.sentAt + 8000000) ∧ t.sp.enum = none ∧ t.sp.last = e.next - 1 ∧
      t.sp.st = (if e.wasSynced then .synced else .member) ∧ t.spr.event = s.spr.event ||| 8 ∧ t.ports = s.ports)

/-- CAN frames that arrive (11_press_bus.md R315, R317, R318, R320 to R322). A controller that is OFF or in bus-off takes nothing; a CLASSIC
one answers an FD frame with an error frame, which the sender sees, and counts it as a receive error. A remote frame is received and
dropped. A frame that is no press message goes into the FIFO through the first filter that passes it; with none it is dropped, and with 64
frames in the FIFO it is dropped and bit 5 of CAN_EVENT set. A good PRESS_STATE of the press station is kept with its time; an interlock
message for this station that says what holds already changes only the count and the controller's list of messages seen; a copy of a message
that the other controller has taken does nothing else. What receive errors make of REC and the error state is the model's (log entry 100). -/
def Obligations.CanFramesAreTaken : Prop := ∀ (s : State) (c : Fin 2) (f : CanFrame),
  let k := s.can c
  let on := k.mode != .off && !k.isOff && !(f.fd && k.mode == .classic)
  let hit := (idx 16).find? fun i => (look k.filters i).passes f
  let copy := (s.can (otherCan c)).seen.any (sameMessage f)
  (∀ (errs : Nat), k.mode = .off ∨ k.isOff = true →
    exec (.canFrameRx c ⟨f, errs⟩) s = .next s) ∧
  (∀ (errs : Nat), k.mode = .classic → k.isOff = false → f.fd = true →
    exec (.canFrameRx c ⟨f, errs⟩) s = .next ((s.modCan c fun x => x.receives (errs + 1) false).emit (.canError c (k.st == .errorActive)))) ∧
  (∀ (errs : Nat), on = true → f.rtr = true →
    exec (.canFrameRx c ⟨f, errs⟩) s = .next (s.modCan c fun x => { x.receives errs true with
      received := sat32 x.received 1, dropped := sat32 x.dropped 1 })) ∧
  (∀ (errs : Nat) (i : Fin 16), on = true → f.rtr = false → s.isPress f = false → hit = some i → k.fifo.length < 64 →
    exec (.canFrameRx c ⟨f, errs⟩) s = .next (s.modCan c fun x => { x.receives errs true with
      received := sat32 x.received 1, fifo := x.fifo ++ [{ f := f, filter := i.1, tb := s.ns }] })) ∧
  (∀ (errs : Nat), on = true → f.rtr = false → s.isPress f = false → hit = none →
    exec (.canFrameRx c ⟨f, errs⟩) s = .next (s.modCan c fun x => { x.receives errs true with
      received := sat32 x.received 1, dropped := sat32 x.dropped 1 })) ∧
  (∀ (errs : Nat) (i : Fin 16), on = true → f.rtr = false → s.isPress f = false → hit = some i → 64 ≤ k.fifo.length →
    ∃ t, exec (.canFrameRx c ⟨f, errs⟩) s = .next t ∧ t.can c = { k.receives errs true with received := sat32 k.received 1, dropped := sat32 k.dropped 1 } ∧
      t.press.event = s.press.event ||| 32 ∧ t.ports = s.ports ∧ t.quires = s.quires ∧ t.clk = s.clk) ∧
  (∀ (errs : Nat), on = true → f.rtr = false → s.isPress f = true → f.id.toNat / 4096 % 16 = 2 → f.id.toNat % 4096 = s.press.pressStation.toNat → pressFrameBad 2 f = false → copy = false → s.press.timeout = false → bit (rdAt f.data 4 1) 0 = s.press.interlock →
    exec (.canFrameRx c ⟨f, errs⟩) s = .next (let u := s.modCan c fun x => { x.receives errs true with received := sat32 x.received 1, seen := (f :: x.seen).take 64 }
      { u with press := { u.press with
        pressState := rdAt f.data 0 1, counter := rdAt f.data 1 1, speed := rdAt f.data 2 2, timeout := false, psAt := s.clk, psLast := some s.clk } })) ∧
  (∀ (errs : Nat), on = true → f.rtr = false → s.isPress f = true → f.id.toNat / 4096 % 16 = 0 → f.id.toNat % 4096 = s.press.pressStation.toNat → pressFrameBad 0 f = false → copy = false → (rdAt f.data 0 1 == 1) = s.press.interlock →
    exec (.canFrameRx c ⟨f, errs⟩) s = .next (s.modCan c fun x => { x.receives errs true with received := sat32 x.received 1, seen := (f :: x.seen).take 64 })) ∧
  (∀ (errs : Nat), on = true → f.rtr = false → s.isPress f = true → f.id.toNat / 4096 % 16 = 0 ∨ f.id.toNat / 4096 % 16 = 2 → f.id.toNat % 4096 = s.press.pressStation.toNat → pressFrameBad (f.id.toNat / 4096 % 16) f = false → copy = true →
    ∃ t, exec (.canFrameRx c ⟨f, errs⟩) s = .next t ∧ (t.can c).received = sat32 k.received 1 ∧ t.press.interlock = s.press.interlock ∧
      t.press.timeout = s.press.timeout ∧ t.press.psAt = s.press.psAt ∧ t.press.psLast = s.press.psLast ∧ t.press.speed = s.press.speed ∧
      t.quires = s.quires ∧ t.reqs = s.reqs ∧ t.ports = s.ports ∧ t.out = s.out ∧ t.clk = s.clk)

/-- What the press bus sends and does by itself (11_press_bus.md R318, R319, R321, R323, R325, R328, R333). SPEED_DEMAND, STATUS and
HEARTBEAT wait on every controller that sends press messages, at their periods or, the first two, at once after their changes; a node
without the right to send them, a station or a period sends none. CAN_TX_DONE sends the front frame of a controller on the bus and takes it
out, counting it and the arbitrations lost before; the RESULT of a BUS_SEND is the timebase of the frame's start. A BUS_SEND that is not
sent by its deadline ends, and its frame is gone. Without PRESS_STATE for PS_TIMEOUT the timeout holds, and bit 2 of CAN_EVENT is set; a
quire ARMED or beyond gets the INHIBIT or the STOP that its PRESS_POLICY names; a controller that enters bus-off is RECOVERING under
AUTO_RECOVER and counts; one that recovers is ERROR_ACTIVE with its counters at 0. STOP_N low stops every quire that has something to stop,
with cause 11 or a higher one that waited for the same boundary; STOP_N high lifts nothing. A period of SPD_DEM takes the demand. -/
def Obligations.PressBusSends : Prop := ∀ (s : State),
  let sends := s.press.canA.sends || s.press.canB.sends
  let policy := fun (q : Fin 8) (n : Nat) => (s.quire q).st.beyond && (s.quire q).job.any fun j => j.policy == n
  (s.sdSender = false ∨ s.press.sdPeriod = 0 ∨ sends = false →
    exec .speedDemandTx s = .next s) ∧
  (s.sdSender = true → s.press.sdPeriod ≠ 0 → sends = true →
    ∃ t, exec .speedDemandTx s = .next t ∧ t.clk = (if s.sdChanged then s.clk else max s.clk (s.press.sdAt + s.press.sdPeriod * 4000000)) ∧
      t.press.sdAt = t.clk ∧ t.press.sdSent = s.spr.subtree ∧ t.press.sdSeq = (s.press.sdSeq + 1) % 256 ∧
      (s.press.canA.sends = true → t.press.canA.press.any (fun e => e.1 == 1) = true) ∧ t.ports = s.ports ∧ t.quires = s.quires ∧ t.out = s.out) ∧
  (s.press.station = 0 ∨ sends = false →
    exec .statusTx s = .next s) ∧
  (s.press.station ≠ 0 → sends = true →
    ∃ t, exec .statusTx s = .next t ∧ t.clk = (if s.statusBytes ≠ s.press.statusSent then s.clk else max s.clk (s.press.statusAt + 4000000000)) ∧
      t.press.statusAt = t.clk ∧ (s.press.canA.sends = true → t.press.canA.press.any (fun e => e.1 == 3) = true) ∧
      t.ports = s.ports ∧ t.quires = s.quires ∧ t.out = s.out) ∧
  (s.press.station = 0 ∨ s.press.hbPeriod = 0 ∨ sends = false →
    exec .heartbeatTx s = .next s) ∧
  (s.press.station ≠ 0 → s.press.hbPeriod ≠ 0 → sends = true →
    ∃ t, exec .heartbeatTx s = .next t ∧ t.clk = max s.clk (s.press.hbAt + s.press.hbPeriod * 4000000) ∧ t.press.hbAt = t.clk ∧
      t.press.hbSeq = (s.press.hbSeq + 1) % 256 ∧ (s.press.canA.sends = true → t.press.canA.press.any (fun e => e.1 == 4) = true) ∧
      t.ports = s.ports ∧ t.quires = s.quires ∧ t.out = s.out) ∧
  (∀ (c : Fin 2) (ago lost errs : Nat), (s.can c).active = false ∨ s.canFront c = none →
    exec (.canTxDone ⟨c, ago, lost, errs⟩) s = .next s) ∧
  (∀ (c : Fin 2) (ago lost errs typ : Nat) (f : CanFrame), (s.can c).active = true → s.canFront c = some (typ, false, f) →
    ∃ t, exec (.canTxDone ⟨c, ago, lost, errs⟩) s = .next t ∧ t.out = .canFrame c f :: s.out ∧ (t.can c).press = assocDel typ (s.can c).press ∧
      (t.can c).host = (s.can c).host ∧ (t.can c).sent = sat32 (s.can c).sent 1 ∧ (t.can c).arbLost = sat32 (s.can c).arbLost lost ∧
      t.can (otherCan c) = s.can (otherCan c) ∧ { t with press := s.press, out := s.out } = s) ∧
  (∀ (c : Fin 2) (ago lost errs id : Nat) (f : CanFrame), (s.can c).active = true → s.canFront c = some (id, true, f) → s.execs.find? (fun x => x.id == id) = none →
    ∃ t, exec (.canTxDone ⟨c, ago, lost, errs⟩) s = .next t ∧ t.out = .canFrame c f :: s.out ∧ (t.can c).sent = sat32 (s.can c).sent 1 ∧
      (t.can c).host = (s.can c).host.filter (fun x => x.1 != id) ∧ { t with press := s.press, out := s.out } = s) ∧
  (∀ (c : Fin 2) (ago lost errs : Nat) (e : Exec) (f : CanFrame), (s.can c).active = true → s.canFront c = some (e.id, true, f) → s.execs.find? (fun x => x.id == e.id) = some e →
    ∃ t, exec (.canTxDone ⟨c, ago, lost, errs⟩) s = .next t ∧ t.execs = s.execs.filter (fun x => x.id != e.id) ∧
      (∀ v, e.h.src = .mctp v → t.out.head? = some (.mctpReply v (vendorMsg 2 (cplEntry e.h.tag.toNat 0 0xFF s.sp.nodeId ((s.tb - ago) / 4))))) ∧
      (∀ r, e.h.src = .ring r → e.h.bcast = false → t = writeCpl (countCpl { s with execs := t.execs, press := t.press, out := .canFrame c f :: s.out } 0) r e.h.tag.toNat 0 s.sp.nodeId ((s.tb - ago) / 4) (isNotify e.h)) ∧
      (t.can c).host = (s.can c).host.filter (fun x => x.1 != e.id) ∧ (t.can c).sent = sat32 (s.can c).sent 1 ∧
      (t.can c).arbLost = sat32 (s.can c).arbLost lost ∧ t.out.contains (.canFrame c f) = true ∧ t.ports = s.ports ∧ t.clk = s.clk) ∧
  (∀ (id : Nat), s.execs.find? (fun x => x.id == id) = none →
    exec (.busSendTimeout id) s = .next s) ∧
  (∀ (id : Nat) (e : Exec), s.execs.find? (fun x => x.id == id) = some e → (∀ due, e.wait ≠ .can due) →
    exec (.busSendTimeout id) s = .next s) ∧
  (∀ (id : Nat) (e : Exec) (due : Nat), s.execs.find? (fun x => x.id == id) = some e → e.wait = .can due →
    ∃ t, exec (.busSendTimeout id) s = .next t ∧ t.clk = max s.clk due ∧ t.execs = s.execs.filter (fun x => x.id != e.id) ∧
      (t.can (finOf 2 (by decide) (fld e.p 8 1))).host = (s.can (finOf 2 (by decide) (fld e.p 8 1))).host.filter (fun x => x.1 != id) ∧
      t.ports = s.ports ∧ t.quires = s.quires) ∧
  (s.press.psTimeout = 0 ∨ s.press.timeout = true ∨ s.inReset = true →
    exec .pressStateTimeout s = .next s) ∧
  (s.press.psTimeout ≠ 0 → s.press.timeout = false → s.inReset = false →
    ∃ t, exec .pressStateTimeout s = .next t ∧ t.press.timeout = true ∧ t.clk = max s.clk (s.press.psAt + s.press.psTimeout * 4000000) ∧
      t.press.event = s.press.event ||| 4 ∧
      (∀ (q : Fin 8), policy q 1 = true → t.reqs.any (fun r => r.src == .pressTimeout && r.sc == .quire q && r.kind == .inhibit && !r.gone) = true) ∧
      (∀ (q : Fin 8), policy q 2 = true → (s.quire q).st.stoppable = true → (t.quire q).st = .stopping ∧ 9 ≤ (t.quire q).cause) ∧
      (∀ (q : Fin 8), policy q 2 = false → (t.quire q).st = (s.quire q).st) ∧
      ((∀ q, policy q 1 = false ∧ policy q 2 = false) → t.ports = s.ports ∧ t.quires = s.quires ∧ t.reqs = s.reqs)) ∧
  (∀ (c : Fin 2) (tec recv : Nat), (s.can c).mode = .off ∨ (s.can c).mode = .listen ∨ (s.can c).isOff = true →
    exec (.busOffEntry c tec recv) s = .next s) ∧
  (∀ (c : Fin 2) (tec recv : Nat), (s.can c).mode = .classic ∨ (s.can c).mode = .fd → (s.can c).isOff = false →
    ∃ t, exec (.busOffEntry c tec recv) s = .next t ∧ (t.can c).st = (if (s.can c).autoRec then .recovering else .busOff) ∧
      (t.can c).tec = min tec 255 ∧ (t.can c).recErr = min recv 255 ∧ (t.can c).busOffs = satAdd 16 (s.can c).busOffs 1 ∧
      t.press.event = s.press.event ||| 1 ∧ t.ports = s.ports ∧ t.quires = s.quires ∧ t.clk = s.clk) ∧
  (∀ (c : Fin 2), (s.can c).st ≠ .recovering →
    exec (.busOffRecovery c) s = .next s) ∧
  (∀ (c : Fin 2), (s.can c).st = .recovering → (s.can c).mode ≠ .off →
    ∃ t, exec (.busOffRecovery c) s = .next t ∧ (t.can c).st = .errorActive ∧ (t.can c).tec = 0 ∧ (t.can c).recErr = 0 ∧
      t.ports = s.ports ∧ t.quires = s.quires ∧ t.clk = s.clk) ∧
  (s.press.stopLow = true ∨ s.inReset = true →
    exec .stopNAccepted s = .next s) ∧
  (s.press.stopLow = false → s.inReset = false →
    ∃ t, exec .stopNAccepted s = .next t ∧ t.press.stopLow = true ∧ t.press.event = s.press.event ||| 16 ∧ t.clk = s.clk ∧
      (∀ (q : Fin 8), (s.quire q).st.stoppable = true →
        (t.quire q).st = .stopping ∧ 11 ≤ (t.quire q).cause ∧ ((s.quire q).stopAt = [] → (t.quire q).cause = 11)) ∧
      (∀ (q : Fin 8), (s.quire q).st.stoppable = false → (t.quire q).st = (s.quire q).st)) ∧
  (s.inReset = false →
    exec .stopNReleased s = .next { s with press := { s.press with stopLow := false } }) ∧
  (s.inReset = true →
    exec .stopNReleased s = .next s ∧ exec .spdDemPeriod s = .next s) ∧
  (s.inReset = false →
    ∃ t, exec .spdDemPeriod s = .next t ∧ t.clk = max s.clk (s.press.spdAt + 200000) ∧ t.press.spdAt = t.clk ∧
      t.press.spdHigh = spdHighOf s.spr.subtree ∧ t.out = .pinSpdDem (spdHighOf s.spr.subtree) :: s.out ∧ t.ports = s.ports ∧ t.spr = s.spr)

/-- OTP pulses, margin checks and flash writes (15_otp_trust.md R426, R428, R433; 14_reset_boot.md R405; 09_thermal_supply.md R276). An end of
a pulse with no operation under way changes nothing; a bit that did not blow gets its next pulse at once, of 12 µs with VPP and 20 µs without,
up to four in all, after which the operation ends. The periodic margin check takes place in READY only, 24 hours after the last one or
once the die has moved by more than 30 °C, and sets the time and the temperature of the last check. A flash write ends only where one is
under way and not paused: one that failed leaves the slot of a staged image empty, one that worked leaves it VALID; 10 s of pause end it
too, with the slot empty.
Background activities and the debug attach (16_background.md R453 to R459; 15_otp_trust.md R443). Before READY a word read changes nothing;
the scrubbers' own progress and calibration stand still while die enforcement holds too. A corrected word counts one correction, and nothing
else changes; a clean word that is not the last one of its pass changes nothing, the last one begins the next pass. A damaged word of no
allocated memory is counted and reported. A DAC is calibrated in a quiet span of its channel only, a sense ADC of a GEN 3 head with its switch
open; neither takes any of the block's time (R30). The debug
attach does nothing with DEBUG_LOCK; else it is counted, and MEAS5 is extended. -/
def Obligations.SlowWorkRuns : Prop := ∀ (s : State),
  (∀ (blown weak : Bool), s.otp.job = none →
    exec (.otpPulseEnd blown weak) s = .next s) ∧
  (∀ (weak : Bool) (j : OtpJob) (tg : OtpTarget), s.otp.job = some j → j.targets.head? = some tg → j.pulses < 4 →
    ∃ t, exec (.otpPulseEnd false weak) s = .next t ∧ t.clk = max s.clk j.due ∧ t.otp.vppUsed = s.th.vppPresent ∧
      t.otp.job = some { j with
        pulses := j.pulses + 1, most := max j.most (j.pulses + 1), due := t.clk + (if s.th.vppPresent then 48000 else 80000) } ∧
      t.out = .otpPulse tg.word j.bit s.th.vppPresent :: s.out ∧ (t.otp.word tg.word).m0 = (s.otp.word tg.word).m0 ∧ t.ports = s.ports ∧
      t.execs = s.execs) ∧
  (∀ (weak : Bool) (j : OtpJob), s.otp.job = some j → 4 ≤ j.pulses →
    ∃ t, exec (.otpPulseEnd false weak) s = .next t ∧ t.clk = max s.clk j.due ∧ t.otp.job = none ∧
      t.execs = (if (s.execs.find? fun e => e.id == j.id).isSome then s.execs.filter (fun e => e.id != j.id) else s.execs) ∧
      t.ports = s.ports ∧ t.quires = s.quires) ∧
  (∀ (aged : List OtpAged), s.rst.seq ≠ .ready →
    exec (.otpMarginRecheck aged) s = .next s) ∧
  (∀ (aged : List OtpAged), s.rst.seq = .ready →
    ∃ t, exec (.otpMarginRecheck aged) s = .next t ∧ t.otp.checkAt = t.clk ∧ t.otp.checkT = s.dieTemp ∧
      t.clk = (if s.otpSwing then s.clk else max s.clk (s.otp.checkAt + 345600000000000)) ∧ t.ports = s.ports ∧ t.quires = s.quires) ∧
  (∀ (ok : Bool), s.flash.pausedAt.isSome = true ∨ s.flash.job = none →
    exec (.flashWriteDone ok) s = .next s) ∧
  (∀ (ok : Bool) (id n : Nat) (img : Bytes), s.flash.pausedAt = none → s.flash.job = some (.stage id n img) → n < 2 →
    ∃ t, exec (.flashWriteDone ok) s = .next t ∧ t.flash.job = none ∧
      (if n = 0 then t.flash.slotA else t.flash.slotB) = (if ok then { st := .valid, image := img } else .none_) ∧
      t.clk = s.clk ∧ t.ports = s.ports ∧ t.execs = (if (s.execOf id).isSome then s.execs.filter (fun e => e.id != id) else s.execs)) ∧
  (∀ (ok : Bool) (id n : Nat) (img : Bytes), s.flash.pausedAt = none → s.flash.job = some (.stage id n img) → ok = true →
    ∃ t, exec (.flashWriteDone ok) s = .next t ∧ t.out.contains (.flashProgram (trailerAddr n) (trailerOf img)) = true) ∧
  (∀ (id : Nat) (copy clear advance : Bool) (r : BootRec), s.flash.pausedAt = none → s.flash.job = some (.record id copy r clear advance) →
    (∃ t, exec (.flashWriteDone false) s = .next t ∧ t.flash = { s.flash with job := none } ∧ t.clk = s.clk ∧ t.ports = s.ports) ∧
      (∃ t, exec (.flashWriteDone true) s = .next t ∧ (if copy then t.flash.rec1 else t.flash.rec0) = some r ∧ t.flash.job = none ∧
        (clear = true → t.rst.trialBoots = 0) ∧ t.clk = s.clk ∧ t.ports = s.ports)) ∧
  (s.flash.job = none ∨ s.flash.pausedAt = none →
    exec .flashPauseTimeout s = .next s) ∧
  (∀ (id n u : Nat) (img : Bytes), s.flash.job = some (.stage id n img) → s.flash.pausedAt = some u → n < 2 →
    ∃ t, exec .flashPauseTimeout s = .next t ∧ t.clk = max s.clk (u + 40000000000) ∧ t.flash.job = none ∧ t.flash.pausedAt = none ∧
      (if n = 0 then t.flash.slotA else t.flash.slotB) = .none_ ∧ t.ports = s.ports) ∧
  (∀ (loc : ScrubLoc) (bad : Bool), s.commandReady = false →
    exec (.scrubStep loc bad) s = .next s) ∧
  (∀ (a : Fin 6) (last bad : Bool), s.bgRuns = false →
    exec (.scrubStep (.clean a last) bad) s = .next s) ∧
  (∀ (p : Fin 32) (c : Chan), s.bgRuns = false ∨ (s.port p).opened = false ∨ quietSpan s (s.port p) c 6400 = false →
    exec (.dacCalibration p c) s = .next s) ∧
  (∀ (p : Fin 32), s.bgRuns = false ∨ (s.port p).opened = false ∨ (s.port p).gen ≠ 3 ∨ senseFree (s.port p) = false →
    exec (.senseAdcCalibration p) s = .next s) ∧
  (∀ (a : Fin 6) (bad : Bool), s.bgRuns = true → a ≠ 5 ∨ s.page.st = .ready →
    exec (.scrubStep (.clean a false) bad) s = .next s ∧
      ∃ t, exec (.scrubStep (.clean a true) bad) s = .next t ∧ { t with bg := s.bg } = s ∧
        look t.bg.passStart ⟨a.1, Nat.lt_trans a.2 (by decide)⟩ = s.clk ∧ t.bg.corrections = s.bg.corrections) ∧
  (∀ (addr : Nat), s.commandReady = true →
    exec (.scrubStep (.lineOther addr) false) s = .next { s with bg := { s.bg with corrections := sat32 s.bg.corrections 1 } } ∧
      exec (.scrubStep (.tileFree addr) false) s = .next { s with bg := { s.bg with corrections := sat32 s.bg.corrections 1 } } ∧
      ∃ t, exec (.scrubStep (.lineOther addr) true) s = .next t ∧ t.bg.uncorr = sat32 s.bg.uncorr 1 ∧ t.ports = s.ports ∧ t.clk = s.clk) ∧
  (∀ (p : Fin 32) (c : Chan), s.bgRuns = true → (s.port p).opened = true → quietSpan s (s.port p) c 6400 = true →
    ∃ t, exec (.dacCalibration p c) s = .next t ∧ t.clk = s.clk ∧ ((t.port p).chan c).lastCal = s.clk ∧ (t.port p).st = (s.port p).st ∧
      (∀ r, r ≠ p → t.port r = s.port r) ∧ t.out = s.out) ∧
  (∀ (p : Fin 32), s.bgRuns = true → (s.port p).opened = true → (s.port p).gen = 3 → senseFree (s.port p) = true →
    ∃ t, exec (.senseAdcCalibration p) s = .next t ∧ t.clk = s.clk ∧ (t.port p).senseCal = s.clk ∧ (t.port p).st = (s.port p).st ∧
      (∀ r, r ≠ p → t.port r = s.port r) ∧ t.out = s.out) ∧
  (s.otp.debugLock = true ∨ s.islands = false →
    exec .jtagDebugAttach s = .next s) ∧
  (s.otp.debugLock = false → s.islands = true →
    ∃ t, exec .jtagDebugAttach s = .next t ∧ t.mgt.debugAtt = true ∧ t.mgt.attaches = sat32 s.mgt.attaches 1 ∧
      look t.mgt.cnts 5 = sat32 (look s.mgt.cnts 5) 1 ∧ t.mgt.extends_ = sat32 s.mgt.extends_ 1 ∧ { t with mgt := s.mgt } = s)

/-- MCTP and SPDM (15_otp_trust.md R440 to R442). A binding is up while the islands run and, for PCIe VDM, the link is up in D0; one that
is not answers nothing. Set Endpoint ID assigns an EID other than 0 and 0xFF; the other control commands change nothing but the answers
that leave. A vendor command waits for its turn while the cores are up; 1 to 48 bytes of data go into or come out of the staging window.
Every SPDM request is answered by ERROR before READY. In READY, GET_VERSION begins a connection, GET_CAPABILITIES follows it and
NEGOTIATE_ALGORITHMS that; each of these, the digests, certificates, the challenge (with the device key) and measurements is answered when
its turn has come and it has its length and version, and leaves everything but SPDM's own state, the answers and the open values alone. -/
def Obligations.MctpMessagesAreAnswered : Prop := ∀ (s : State) (b : MctpBinding),
  let on := mctpUp s b && s.rst.seq == .ready
  let rest := fun (t : State) => { t with mgt := s.mgt, out := s.out, draws := s.draws }
  (∀ (op : BitVec 2) (eid : BitVec 8) (ty : BitVec 8) (req : Bytes), mctpUp s b = false →
    exec (.setEndpointId b op eid) s = .next s ∧ exec (.getEndpointId b) s = .next s ∧ exec (.getMctpVersionSupport b ty) s = .next s ∧
      exec (.getMessageTypeSupport b) s = .next s ∧ exec (.getVersion b req) s = .next s ∧ exec (.spdmUnsupportedRequest b req) s = .next s) ∧
  (∀ (op : BitVec 2) (eid : BitVec 8), mctpUp s b = true → op.toNat < 2 → eid ≠ 0 → eid ≠ 0xFF →
    ∃ t, exec (.setEndpointId b op eid) s = .next t ∧ eidOf t b = eid ∧ rest t = s ∧ t.out.length = s.out.length + 1) ∧
  (∀ (op : BitVec 2) (eid : BitVec 8), mctpUp s b = true → 2 ≤ op.toNat ∨ eid = 0 ∨ eid = 0xFF →
    ∃ t, exec (.setEndpointId b op eid) s = .next t ∧ t.mgt = s.mgt ∧ rest t = s ∧ t.out.length = s.out.length + 1) ∧
  (∀ (ty : BitVec 8), mctpUp s b = true →
    (∃ t, exec (.getEndpointId b) s = .next t ∧ t.mgt = s.mgt ∧ rest t = s ∧ t.out.length = s.out.length + 1) ∧
      (∃ t, exec (.getMctpVersionSupport b ty) s = .next t ∧ t.mgt = s.mgt ∧ rest t = s ∧ t.out.length = s.out.length + 1) ∧
      (∃ t, exec (.getMessageTypeSupport b) s = .next t ∧ t.mgt = s.mgt ∧ rest t = s ∧ t.out.length = s.out.length + 1)) ∧
  (∀ (e : BitVec 512), mctpUp s b = true → s.cores = true →
    ∃ t, exec (.mctpCmd b e) s = .next t ∧ t.waiting.length = s.waiting.length + 1 ∧ { t with waiting := s.waiting } = s ∧
      t.waiting.getLast?.any (fun w => w.h.src == .mctp (isVdm b) && w.op == e.toNat % 65536) = true) ∧
  (∀ (e : BitVec 512), mctpUp s b = false ∨ s.cores = false →
    exec (.mctpCmd b e) s = .next s) ∧
  (∀ (ofs : U32) (data : Bytes), mctpUp s b = true → 1 ≤ data.length → data.length ≤ 48 → ofs.toNat + data.length ≤ s.window →
    exec (.mctpDataWr b ofs data) s = .next { s with mgt := { s.mgt with sram := s.mgt.sram.write ofs.toNat data } }) ∧
  (∀ (ofs : U32) (data : Bytes), mctpUp s b = false ∨ data.length = 0 ∨ 48 < data.length ∨ s.window < ofs.toNat + data.length →
    exec (.mctpDataWr b ofs data) s = .next s) ∧
  (∀ (ofs : U32) (len : BitVec 8), mctpUp s b = true → 1 ≤ len.toNat → len.toNat ≤ 48 → ofs.toNat + len.toNat ≤ s.window →
    exec (.mctpDataRd b ofs len) s = .next (s.emit (.mctpReply (isVdm b) (vendorMsg 4 (s.mgt.sram.bytes ofs.toNat len.toNat))))) ∧
  (∀ (ofs : U32) (len : BitVec 8), mctpUp s b = false ∨ len.toNat = 0 ∨ 48 < len.toNat ∨ s.window < ofs.toNat + len.toNat →
    exec (.mctpDataRd b ofs len) s = .next s) ∧
  (∀ (req : Bytes), mctpUp s b = true → s.rst.seq ≠ .ready →
    exec (.getVersion b req) s = .next (s.emit (.mctpReply (isVdm b) [5, 0x12, 0x7F, 3, 0])) ∧
      exec (.challenge b req) s = .next (s.emit (.mctpReply (isVdm b) [5, 0x12, 0x7F, 3, 0])) ∧
      exec (.spdmUnsupportedRequest b req) s = .next (s.emit (.mctpReply (isVdm b) [5, 0x12, 0x7F, 3, 0]))) ∧
  (∀ (req : Bytes), on = true → 4 ≤ req.length → rdAt req 0 1 = 0x10 →
    ∃ t, exec (.getVersion b req) s = .next t ∧ rest t = s ∧ t.out.length = s.out.length + 1 ∧ t.mgt.spdmVersion = true ∧
      t.mgt.spdmCaps = false ∧ t.mgt.spdmAlgs = false ∧ t.mgt.meas = s.mgt.meas ∧ t.mgt.msgB = []) ∧
  (∀ (req : Bytes), on = true → 4 ≤ req.length → rdAt req 0 1 = 0x12 → s.mgt.spdmVersion = true →
    ∃ t, exec (.getCapabilities b req) s = .next t ∧ rest t = s ∧ t.out.length = s.out.length + 1 ∧ t.mgt.spdmCaps = true ∧
      t.mgt.spdmAlgs = s.mgt.spdmAlgs ∧ t.mgt.meas = s.mgt.meas) ∧
  (∀ (req : Bytes), on = true → 32 ≤ req.length → rdAt req 0 1 = 0x12 → s.mgt.spdmCaps = true →
    ∃ t, exec (.negotiateAlgorithms b req) s = .next t ∧ rest t = s ∧ t.out.length = s.out.length + 1 ∧ t.mgt.spdmAlgs = true ∧
      t.mgt.meas = s.mgt.meas) ∧
  (∀ (req : Bytes), on = true → 4 ≤ req.length → rdAt req 0 1 = 0x12 → s.mgt.spdmAlgs = true →
    ∃ t, exec (.getDigests b req) s = .next t ∧ rest t = s ∧ t.out.length = s.out.length + 1 ∧ t.mgt.meas = s.mgt.meas) ∧
  (∀ (req : Bytes), on = true → 8 ≤ req.length → rdAt req 0 1 = 0x12 → s.mgt.spdmAlgs = true → rdAt req 2 1 = 0 → rdAt req 4 2 < s.certChain.length →
    ∃ t, exec (.getCertificate b req) s = .next t ∧ rest t = s ∧ t.out.length = s.out.length + 1 ∧ t.mgt.meas = s.mgt.meas) ∧
  (∀ (req : Bytes), on = true → 36 ≤ req.length → rdAt req 0 1 = 0x12 → s.mgt.spdmAlgs = true → rdAt req 2 1 = 0 → rdAt req 3 1 = 0 ∨ rdAt req 3 1 = 1 ∨ rdAt req 3 1 = 255 → s.mgt.keyReady = true →
    ∃ t, exec (.challenge b req) s = .next t ∧ rest t = s ∧ t.out.length = s.out.length + 1 ∧ t.mgt.meas = s.mgt.meas ∧ t.mgt.msgB = [] ∧
      t.draws = s.draws + 1) ∧
  (∀ (req : Bytes), on = true → 4 ≤ req.length → rdAt req 0 1 = 0x12 → s.mgt.spdmAlgs = true → bit (rdAt req 2 1) 0 = false → rdAt req 3 1 ≤ 8 ∨ rdAt req 3 1 = 255 →
    ∃ t, exec (.getMeasurements b req) s = .next t ∧ rest t = s ∧ t.out.length = s.out.length + 1 ∧ t.mgt.meas = s.mgt.meas) ∧
  (∀ (req : Bytes), on = true → 37 ≤ req.length → rdAt req 0 1 = 0x12 → s.mgt.spdmAlgs = true → bit (rdAt req 2 1) 0 = true → rdAt req 36 1 = 0 → rdAt req 3 1 ≤ 8 ∨ rdAt req 3 1 = 255 → s.mgt.keyReady = true →
    ∃ t, exec (.getMeasurements b req) s = .next t ∧ rest t = s ∧ t.out.length = s.out.length + 1 ∧ t.mgt.meas = s.mgt.meas ∧ t.mgt.msgL = []) ∧
  (∀ (req : Bytes), on = true →
    exec (.spdmUnsupportedRequest b req) s =
      .next (s.emit (.mctpReply (isVdm b) [5, 0x12, 0x7F, 7, BitVec.ofNat 8 (rdAt req 1 1)])))

/-- What the happenings whose effect is confined leave alone, whatever the state: each answers a next state, and every field of the state that
is not named there is as it was. A register access changes its block; a doorbell its ring; a message of the spine the spine's own state,
the commands that wait and what leaves the block; a step of a calibration the port's converter; a message of the management
controller its own state. What is left alone includes every register, memory, table and counter that the field does not hold. -/
def Obligations.ConfinedHappeningsFrame : Prop :=
  (∀ (write : Bool) (off : BitVec 24) (a : Access) (s : State), ∃ t, exec (.barAccessInvalid write off a) s = .next t ∧
    { t with glb := s.glb, link := s.link, cnt := s.cnt, out := s.out } = s) ∧
  (∀ (r : Fin 64) (v : U32) (s : State), ∃ t, exec (.ringCtrlEnable r v) s = .next t ∧
    { t with glb := s.glb, rings := s.rings, ports := s.ports } = s) ∧
  (∀ (r : Fin 64) (v : U32) (s : State), ∃ t, exec (.ringCtrlResume r v) s = .next t ∧
    { t with glb := s.glb, rings := s.rings, ports := s.ports } = s) ∧
  (∀ (r : Fin 64) (v : U32) (s : State), ∃ t, exec (.ringTailDoorbell r v) s = .next t ∧
    { t with glb := s.glb, rings := s.rings } = s) ∧
  (∀ (r : Fin 64) (v : U32) (s : State), ∃ t, exec (.ringHeadReturn r v) s = .next t ∧
    { t with glb := s.glb, rings := s.rings } = s) ∧
  (∀ (r : Fin 64) (s : State), ∃ t, exec (.ringTailRead r) s = .next t ∧
    { t with out := s.out } = s) ∧
  (∀ (w : Win) (s : State), ∃ t, exec (.pwStatusRead w) s = .next t ∧
    { t with out := s.out } = s) ∧
  (∀ (w : Win) (c : CmpSel) (v : U32) (s : State), ∃ t, exec (.pwCmpLowWrite w c v) s = .next t ∧
    { t with glb := s.glb } = s) ∧
  (∀ (w : Win) (v : U32) (s : State), ∃ t, exec (.pwCmpStartHighWrite w v) s = .next t ∧
    { t with link := s.link, rings := s.rings, cnt := s.cnt, parked := s.parked, quires := s.quires, ports := s.ports, sp := s.sp, spr := s.spr, out := s.out } = s) ∧
  (∀ (w : Win) (v : U32) (s : State), ∃ t, exec (.pwLateWinWrite w v) s = .next t ∧
    { t with quires := s.quires } = s) ∧
  (∀ (w : Win) (i : Fin 8) (v : U32) (s : State), ∃ t, exec (.pwFracOfsWrite w i v) s = .next t ∧
    { t with ports := s.ports } = s) ∧
  (∀ (w : Win) (v : U32) (s : State), ∃ t, exec (.pwLevelCapWrite w v) s = .next t ∧
    { t with ports := s.ports } = s) ∧
  (∀ (n : Fin 4) (s : State), ∃ t, exec (.encRawLoRead n) s = .next t ∧
    { t with src := s.src, out := s.out } = s) ∧
  (∀ (q : Fin 8) (pr : QuirePair) (s : State), ∃ t, exec (.quireLowHalfRead q pr) s = .next t ∧
    { t with quires := s.quires, out := s.out } = s) ∧
  (∀ (s : State), ∃ t, exec .glbTbLoRead s = .next t ∧
    { t with glb := s.glb, out := s.out } = s) ∧
  (∀ (n : Fin 8) (s : State), ∃ t, exec (.mgtMeasW0Read n) s = .next t ∧
    { t with mgt := s.mgt, out := s.out } = s) ∧
  (∀ (n : Fin 16) (s : State), ∃ t, exec (.encStall n) s = .next t ∧
    { t with clk := s.clk, tb := s.tb, link := s.link, rings := s.rings, cnt := s.cnt, parked := s.parked, src := s.src, sp := s.sp, spr := s.spr, out := s.out } = s) ∧
  (∀ (p : Fin 32) (c : Chan) (s : State), ∃ t, exec (.playbackEnd p c) s = .next t ∧
    { t with clk := s.clk, tb := s.tb, glb := s.glb, link := s.link, cnt := s.cnt, ports := s.ports, out := s.out } = s) ∧
  (∀ (src : ReqSource) (sc : ReqScope) (s : State), ∃ t, exec (.arbiterWithdraw src sc) s = .next t ∧
    { t with reqs := s.reqs } = s) ∧
  (∀ (p : Fin 32) (s : State), ∃ t, exec (.shadowCopy p) s = .next t ∧
    { t with link := s.link, rings := s.rings, cnt := s.cnt, execs := s.execs, parked := s.parked, ports := s.ports, sp := s.sp, spr := s.spr, mgt := s.mgt, out := s.out } = s) ∧
  (∀ (p : Fin 32) (data : Bytes) (s : State), ∃ t, exec (.bandStaged p data) s = .next t ∧
    { t with link := s.link, rings := s.rings, cnt := s.cnt, parked := s.parked, ports := s.ports, bg := s.bg, out := s.out } = s) ∧
  (∀ (p : Fin 32) (s : State), ∃ t, exec (.descRetire p) s = .next t ∧
    { t with link := s.link, rings := s.rings, cnt := s.cnt, parked := s.parked, ports := s.ports, out := s.out } = s) ∧
  (∀ (p : Fin 32) (data : Bytes) (read : PageRead) (s : State), ∃ t, exec (.lineDecode p data read) s = .next t ∧
    { t with glb := s.glb, link := s.link, rings := s.rings, cnt := s.cnt, parked := s.parked, ports := s.ports, page := s.page, sp := s.sp, spr := s.spr, bg := s.bg, out := s.out } = s) ∧
  (∀ (p : Fin 32) (s : State), ∃ t, exec (.lineScreen p) s = .next t ∧
    { t with glb := s.glb, link := s.link, rings := s.rings, cnt := s.cnt, parked := s.parked, quires := s.quires, ports := s.ports, sp := s.sp, spr := s.spr, out := s.out } = s) ∧
  (∀ (p : Fin 32) (s : State), ∃ t, exec (.tapRefresh p) s = .next t ∧
    { t with ports := s.ports } = s) ∧
  (∀ (ok : Bool) (rate : Nat) (gib : Nat) (s : State), ∃ t, exec (.pageTrainingDone ok rate gib) s = .next t ∧
    { t with page := s.page, bg := s.bg } = s) ∧
  (∀ (c : Fin 8) (entry : BitVec 256) (s : State), ∃ t, exec (.gdmaDescFetch c entry) s = .next t ∧
    { t with link := s.link, rings := s.rings, cnt := s.cnt, parked := s.parked, gdma := s.gdma, sp := s.sp, spr := s.spr, out := s.out, nextId := s.nextId } = s) ∧
  (∀ (c : Fin 8) (entry : BitVec 512) (s : State), ∃ t, exec (.cmdFetch c entry) s = .next t ∧
    { t with link := s.link, rings := s.rings, cnt := s.cnt, waiting := s.waiting, parked := s.parked, sp := s.sp, spr := s.spr, out := s.out } = s) ∧
  (∀ (r : Fin 64) (s : State), ∃ t, exec (.ringCloseDone r) s = .next t ∧
    { t with link := s.link, rings := s.rings, cnt := s.cnt, execs := s.execs, parked := s.parked, ports := s.ports, sp := s.sp, spr := s.spr, out := s.out } = s) ∧
  (∀ (r : Fin 64) (s : State), ∃ t, exec (.msixHoldoffEnd r) s = .next t ∧
    { t with clk := s.clk, tb := s.tb, link := s.link, rings := s.rings, cnt := s.cnt, out := s.out } = s) ∧
  (∀ (s : State), ∃ t, exec .telemetrySnapshot s = .next t ∧
    { t with clk := s.clk, tb := s.tb, link := s.link, rings := s.rings, cnt := s.cnt, parked := s.parked, ports := s.ports, bg := s.bg, out := s.out } = s) ∧
  (∀ (s : State), ∃ t, exec .d3hotEntry s = .next t ∧
    { t with link := s.link } = s) ∧
  (∀ (s : State), ∃ t, exec .d0Return s = .next t ∧
    { t with link := s.link, rings := s.rings, cnt := s.cnt, parked := s.parked, out := s.out } = s) ∧
  (∀ (gen : Nat) (width : Nat) (x : HostSettings) (s : State), ∃ t, exec (.pcieLinkUp gen width x) s = .next t ∧
    { t with link := s.link, cnt := s.cnt, out := s.out } = s) ∧
  (∀ (p : Fin 32) (s : State), ∃ t, exec (.linkBlockEnd p) s = .next t ∧
    { t with clk := s.clk, tb := s.tb, ports := s.ports } = s) ∧
  (∀ (p : Fin 32) (c : Chan) (s : State), ∃ t, exec (.levelMapTransfer p c) s = .next t ∧
    { t with ports := s.ports, out := s.out } = s) ∧
  (∀ (p : Fin 32) (s : State), ∃ t, exec (.learnSwap p) s = .next t ∧
    { t with glb := s.glb, link := s.link, rings := s.rings, cnt := s.cnt, execs := s.execs, parked := s.parked, ports := s.ports, sp := s.sp, spr := s.spr, out := s.out } = s) ∧
  (∀ (p : Fin 32) (s : State), ∃ t, exec (.monitorReset p) s = .next t ∧
    { t with glb := s.glb, link := s.link, rings := s.rings, cnt := s.cnt, parked := s.parked, ports := s.ports, sp := s.sp, spr := s.spr, out := s.out } = s) ∧
  (∀ (sp : SpPort) (s : State), ∃ t, exec (.blockLockAcquired sp) s = .next t ∧
    { t with sp := s.sp } = s) ∧
  (∀ (sp : SpPort) (errors : Bool) (s : State), ∃ t, exec (.blockLockLost sp errors) s = .next t ∧
    { t with link := s.link, rings := s.rings, cnt := s.cnt, execs := s.execs, parked := s.parked, page := s.page, sp := s.sp, spr := s.spr, flash := s.flash, out := s.out, draws := s.draws } = s) ∧
  (∀ (sp : SpPort) (s : State), ∃ t, exec (.peerSilent sp) s = .next t ∧
    { t with clk := s.clk, tb := s.tb, link := s.link, rings := s.rings, cnt := s.cnt, execs := s.execs, parked := s.parked, page := s.page, sp := s.sp, spr := s.spr, flash := s.flash, out := s.out, draws := s.draws } = s) ∧
  (∀ (sp : SpPort) (s : State), ∃ t, exec (.helloTx sp) s = .next t ∧
    { t with clk := s.clk, tb := s.tb, sp := s.sp, spr := s.spr, out := s.out } = s) ∧
  (∀ (sp : SpPort) (x : HelloSeen) (s : State), ∃ t, exec (.helloRx sp x) s = .next t ∧
    { t with link := s.link, rings := s.rings, cnt := s.cnt, execs := s.execs, parked := s.parked, page := s.page, sp := s.sp, spr := s.spr, flash := s.flash, out := s.out, draws := s.draws } = s) ∧
  (∀ (sp : SpPort) (s : State), ∃ t, exec (.cellFramingError sp) s = .next t ∧
    { t with sp := s.sp } = s) ∧
  (∀ (sp : SpPort) (s : State), ∃ t, exec (.flowXoffRx sp) s = .next t ∧
    { t with sp := s.sp } = s) ∧
  (∀ (sp : SpPort) (s : State), ∃ t, exec (.flowXonRx sp) s = .next t ∧
    { t with sp := s.sp, out := s.out } = s) ∧
  (∀ (s : State), ∃ t, exec .syncTx s = .next t ∧
    { t with clk := s.clk, tb := s.tb, spr := s.spr, out := s.out } = s) ∧
  (∀ (sp : SpPort) (cell : Cell) (s : State), ∃ t, exec (.syncRx sp cell) s = .next t ∧
    { t with tb := s.tb, link := s.link, rings := s.rings, cnt := s.cnt, execs := s.execs, parked := s.parked, src := s.src, page := s.page, sp := s.sp, spr := s.spr, flash := s.flash, out := s.out, draws := s.draws } = s) ∧
  (∀ (s : State), ∃ t, exec .syncLoss s = .next t ∧
    { t with clk := s.clk, tb := s.tb, sp := s.sp } = s) ∧
  (∀ (s : State), ∃ t, exec .delayReqTx s = .next t ∧
    { t with clk := s.clk, tb := s.tb, sp := s.sp, spr := s.spr, out := s.out } = s) ∧
  (∀ (sp : SpPort) (cell : Cell) (turn : U32) (s : State), ∃ t, exec (.delayReqRx sp cell turn) s = .next t ∧
    { t with sp := s.sp, spr := s.spr, out := s.out } = s) ∧
  (∀ (sp : SpPort) (cell : Cell) (rtt : Nat) (s : State), ∃ t, exec (.delayRespRx sp cell rtt) s = .next t ∧
    { t with sp := s.sp } = s) ∧
  (∀ (n : Fin 4) (s : State), ∃ t, exec (.posPublish n) s = .next t ∧
    { t with clk := s.clk, tb := s.tb, src := s.src, spr := s.spr, out := s.out } = s) ∧
  (∀ (s : State), ∃ t, exec .dmdTx s = .next t ∧
    { t with clk := s.clk, tb := s.tb, spr := s.spr, out := s.out } = s) ∧
  (∀ (sp : SpPort) (cell : Cell) (s : State), ∃ t, exec (.dmdRx sp cell) s = .next t ∧
    { t with sp := s.sp, spr := s.spr } = s) ∧
  (∀ (sp : SpPort) (s : State), ∃ t, exec (.childLost sp) s = .next t ∧
    { t with clk := s.clk, tb := s.tb, sp := s.sp, spr := s.spr } = s) ∧
  (∀ (sp : SpPort) (cell : Cell) (s : State), ∃ t, exec (.mgtCmdRx sp cell) s = .next t ∧
    { t with cnt := s.cnt, waiting := s.waiting, sp := s.sp, spr := s.spr, out := s.out } = s) ∧
  (∀ (sp : SpPort) (cell : Cell) (s : State), ∃ t, exec (.mgtCplRx sp cell) s = .next t ∧
    { t with link := s.link, rings := s.rings, cnt := s.cnt, parked := s.parked, sp := s.sp, spr := s.spr, out := s.out } = s) ∧
  (∀ (sp : SpPort) (cell : Cell) (s : State), ∃ t, exec (.mgtEvtRx sp cell) s = .next t ∧
    { t with link := s.link, rings := s.rings, cnt := s.cnt, parked := s.parked, sp := s.sp, spr := s.spr, out := s.out } = s) ∧
  (∀ (sp : SpPort) (cell : Cell) (s : State), ∃ t, exec (.mgtRdReqRx sp cell) s = .next t ∧
    { t with parked := s.parked, sp := s.sp, spr := s.spr, out := s.out, nextId := s.nextId } = s) ∧
  (∀ (sp : SpPort) (cell : Cell) (s : State), ∃ t, exec (.mgtWrReqRx sp cell) s = .next t ∧
    { t with sp := s.sp, spr := s.spr, out := s.out } = s) ∧
  (∀ (sp : SpPort) (cell : Cell) (s : State), ∃ t, exec (.mgtWrDataRx sp cell) s = .next t ∧
    { t with parked := s.parked, sp := s.sp, spr := s.spr, mgt := s.mgt, out := s.out } = s) ∧
  (∀ (sp : SpPort) (cell : Cell) (s : State), ∃ t, exec (.enuProbeRx sp cell) s = .next t ∧
    { t with sp := s.sp, spr := s.spr, out := s.out } = s) ∧
  (∀ (sp : SpPort) (cell : Cell) (s : State), ∃ t, exec (.enuReplyRx sp cell) s = .next t ∧
    { t with link := s.link, rings := s.rings, cnt := s.cnt, execs := s.execs, parked := s.parked, page := s.page, sp := s.sp, spr := s.spr, flash := s.flash, out := s.out, draws := s.draws } = s) ∧
  (∀ (sp : SpPort) (cell : Cell) (s : State), ∃ t, exec (.enuAssignRx sp cell) s = .next t ∧
    { t with link := s.link, rings := s.rings, cnt := s.cnt, execs := s.execs, parked := s.parked, page := s.page, sp := s.sp, spr := s.spr, flash := s.flash, out := s.out, draws := s.draws } = s) ∧
  (∀ (sp : SpPort) (cell : Cell) (s : State), ∃ t, exec (.enuDoneRx sp cell) s = .next t ∧
    { t with link := s.link, rings := s.rings, cnt := s.cnt, execs := s.execs, parked := s.parked, page := s.page, sp := s.sp, spr := s.spr, flash := s.flash, out := s.out, draws := s.draws } = s) ∧
  (∀ (sp : SpPort) (cell : Cell) (s : State), ∃ t, exec (.enuRefuseRx sp cell) s = .next t ∧
    { t with link := s.link, rings := s.rings, cnt := s.cnt, execs := s.execs, parked := s.parked, page := s.page, sp := s.sp, spr := s.spr, flash := s.flash, out := s.out, draws := s.draws } = s) ∧
  (∀ (sp : SpPort) (s : State), ∃ t, exec (.enuProbeTimeout sp) s = .next t ∧
    { t with clk := s.clk, tb := s.tb, link := s.link, rings := s.rings, cnt := s.cnt, execs := s.execs, parked := s.parked, page := s.page, sp := s.sp, spr := s.spr, flash := s.flash, out := s.out, draws := s.draws } = s) ∧
  (∀ (c : Fin 2) (tec : Nat) (recv : Nat) (s : State), ∃ t, exec (.busOffEntry c tec recv) s = .next t ∧
    { t with link := s.link, rings := s.rings, cnt := s.cnt, parked := s.parked, sp := s.sp, spr := s.spr, press := s.press, out := s.out } = s) ∧
  (∀ (c : Fin 2) (s : State), ∃ t, exec (.busOffRecovery c) s = .next t ∧
    { t with link := s.link, rings := s.rings, cnt := s.cnt, parked := s.parked, sp := s.sp, spr := s.spr, press := s.press, out := s.out } = s) ∧
  (∀ (s : State), ∃ t, exec .speedDemandTx s = .next t ∧
    { t with clk := s.clk, tb := s.tb, press := s.press } = s) ∧
  (∀ (s : State), ∃ t, exec .statusTx s = .next t ∧
    { t with clk := s.clk, tb := s.tb, press := s.press } = s) ∧
  (∀ (s : State), ∃ t, exec .heartbeatTx s = .next t ∧
    { t with clk := s.clk, tb := s.tb, press := s.press } = s) ∧
  (∀ (x : CanSent) (s : State), ∃ t, exec (.canTxDone x) s = .next t ∧
    { t with link := s.link, rings := s.rings, cnt := s.cnt, execs := s.execs, parked := s.parked, sp := s.sp, spr := s.spr, press := s.press, out := s.out } = s) ∧
  (∀ (s : State), ∃ t, exec .stopNReleased s = .next t ∧
    { t with press := s.press } = s) ∧
  (∀ (s : State), ∃ t, exec .spdDemPeriod s = .next t ∧
    { t with clk := s.clk, tb := s.tb, press := s.press, out := s.out } = s) ∧
  (∀ (s : State), ∃ t, exec .vbatPowerOn s = .next t ∧
    { t with rst := s.rst } = s) ∧
  (∀ (s : State), ∃ t, exec .pllLock s = .next t ∧
    { t with clk := s.clk, tb := s.tb, th := s.th, sp := s.sp, press := s.press, rst := s.rst, flash := s.flash, mgt := s.mgt } = s) ∧
  (∀ (s : State), ∃ t, exec .spnuClockLock s = .next t ∧
    { t with rst := s.rst } = s) ∧
  (∀ (s : State), ∃ t, exec .mainFirmwareReady s = .next t ∧
    { t with page := s.page, spr := s.spr, rst := s.rst, mgt := s.mgt, bg := s.bg, out := s.out } = s) ∧
  (∀ (aged : List OtpAged) (s : State), ∃ t, exec (.otpMarginRecheck aged) s = .next t ∧
    { t with clk := s.clk, tb := s.tb, link := s.link, rings := s.rings, cnt := s.cnt, parked := s.parked, sp := s.sp, spr := s.spr, otp := s.otp, out := s.out } = s) ∧
  (∀ (p : Fin 32) (c : Chan) (s : State), ∃ t, exec (.dacCalibration p c) s = .next t ∧
    { t with ports := s.ports, bg := s.bg } = s) ∧
  (∀ (p : Fin 32) (s : State), ∃ t, exec (.senseAdcCalibration p) s = .next t ∧
    { t with ports := s.ports, bg := s.bg } = s) ∧
  (∀ (s : State), ∃ t, exec .jtagDebugAttach s = .next t ∧
    { t with mgt := s.mgt } = s) ∧
  (∀ (b : MctpBinding) (op : BitVec 2) (eid : BitVec 8) (s : State), ∃ t, exec (.setEndpointId b op eid) s = .next t ∧
    { t with mgt := s.mgt, out := s.out } = s) ∧
  (∀ (b : MctpBinding) (s : State), ∃ t, exec (.getEndpointId b) s = .next t ∧
    { t with out := s.out } = s) ∧
  (∀ (b : MctpBinding) (msgType : BitVec 8) (s : State), ∃ t, exec (.getMctpVersionSupport b msgType) s = .next t ∧
    { t with out := s.out, draws := s.draws } = s) ∧
  (∀ (b : MctpBinding) (s : State), ∃ t, exec (.getMessageTypeSupport b) s = .next t ∧
    { t with out := s.out } = s) ∧
  (∀ (b : MctpBinding) (entry : BitVec 512) (s : State), ∃ t, exec (.mctpCmd b entry) s = .next t ∧
    { t with waiting := s.waiting } = s) ∧
  (∀ (b : MctpBinding) (ofs : U32) (data : Bytes) (s : State), ∃ t, exec (.mctpDataWr b ofs data) s = .next t ∧
    { t with mgt := s.mgt } = s) ∧
  (∀ (b : MctpBinding) (ofs : U32) (len : BitVec 8) (s : State), ∃ t, exec (.mctpDataRd b ofs len) s = .next t ∧
    { t with out := s.out } = s) ∧
  (∀ (b : MctpBinding) (req : Bytes) (s : State), ∃ t, exec (.getVersion b req) s = .next t ∧
    { t with mgt := s.mgt, out := s.out } = s) ∧
  (∀ (b : MctpBinding) (req : Bytes) (s : State), ∃ t, exec (.getCapabilities b req) s = .next t ∧
    { t with mgt := s.mgt, out := s.out, draws := s.draws } = s) ∧
  (∀ (b : MctpBinding) (req : Bytes) (s : State), ∃ t, exec (.negotiateAlgorithms b req) s = .next t ∧
    { t with mgt := s.mgt, out := s.out } = s) ∧
  (∀ (b : MctpBinding) (req : Bytes) (s : State), ∃ t, exec (.getDigests b req) s = .next t ∧
    { t with mgt := s.mgt, out := s.out } = s) ∧
  (∀ (b : MctpBinding) (req : Bytes) (s : State), ∃ t, exec (.getCertificate b req) s = .next t ∧
    { t with mgt := s.mgt, out := s.out } = s) ∧
  (∀ (b : MctpBinding) (req : Bytes) (s : State), ∃ t, exec (.challenge b req) s = .next t ∧
    { t with mgt := s.mgt, out := s.out, draws := s.draws } = s) ∧
  (∀ (b : MctpBinding) (req : Bytes) (s : State), ∃ t, exec (.getMeasurements b req) s = .next t ∧
    { t with mgt := s.mgt, out := s.out, draws := s.draws } = s) ∧
  (∀ (b : MctpBinding) (req : Bytes) (s : State), ∃ t, exec (.spdmUnsupportedRequest b req) s = .next t ∧
    { t with out := s.out } = s)

/-- What the happenings with a wide effect (firing, faults, transfers, resets of a single unit) leave alone, whatever the state: each
answers a next state, and every field of the state that is not named there is as it was: the queue and the commands that wait (but for an
entry that is read again), the event routing, the SOS inputs, and the tables, flash, OTP words and press signals that a happening's own rule
does not change. -/
def Obligations.WideHappeningsFrame : Prop :=
  (∀ (off : BitVec 24) (v : U32) (s : State), ∃ t, exec (.registerWrite off v) s = .next t ∧
    { t with glb := s.glb, link := s.link, rings := s.rings, cnt := s.cnt, execs := s.execs, parked := s.parked, src := s.src, quires := s.quires, reqs := s.reqs, ports := s.ports, th := s.th, sp := s.sp, spr := s.spr, press := s.press, rst := s.rst, otp := s.otp, mgt := s.mgt, bg := s.bg, out := s.out } = s) ∧
  (∀ (w : Win) (v : U32) (s : State), ∃ t, exec (.pwCmpStopHighWrite w v) s = .next t ∧
    { t with glb := s.glb, link := s.link, rings := s.rings, cnt := s.cnt, execs := s.execs, parked := s.parked, quires := s.quires, ports := s.ports, sp := s.sp, spr := s.spr, mgt := s.mgt, bg := s.bg, out := s.out } = s) ∧
  (∀ (w : Win) (htrOff : Bool) (armClear : Bool) (s : State), ∃ t, exec (.pwCtrlRetrain w htrOff armClear) s = .next t ∧
    { t with glb := s.glb, link := s.link, rings := s.rings, cnt := s.cnt, execs := s.execs, parked := s.parked, quires := s.quires, reqs := s.reqs, ports := s.ports, th := s.th, sp := s.sp, spr := s.spr, mgt := s.mgt, bg := s.bg, out := s.out } = s) ∧
  (∀ (n : Fin 4) (ch : Chan) (level : Bool) (x : Pulse) (clash : Bool) (s : State), ∃ t, exec (.encoderEdge n ch level x clash) s = .next t ∧
    { t with clk := s.clk, tb := s.tb, glb := s.glb, link := s.link, rings := s.rings, cnt := s.cnt, execs := s.execs, parked := s.parked, src := s.src, quires := s.quires, ports := s.ports, sp := s.sp, spr := s.spr, mgt := s.mgt, bg := s.bg, out := s.out } = s) ∧
  (∀ (n : Fin 4) (level : Bool) (x : Pulse) (s : State), ∃ t, exec (.indexEdge n level x) s = .next t ∧
    { t with clk := s.clk, tb := s.tb, glb := s.glb, link := s.link, rings := s.rings, cnt := s.cnt, execs := s.execs, parked := s.parked, src := s.src, quires := s.quires, ports := s.ports, sp := s.sp, spr := s.spr, mgt := s.mgt, bg := s.bg, out := s.out } = s) ∧
  (∀ (n : Fin 4) (idle : Bool) (s : State), ∃ t, exec (.serialFrameStart n idle) s = .next t ∧
    { t with clk := s.clk, tb := s.tb, src := s.src, out := s.out } = s) ∧
  (∀ (n : Fin 4) (f : SerialFrame) (s : State), ∃ t, exec (.serialFrameEnd n f) s = .next t ∧
    { t with clk := s.clk, tb := s.tb, glb := s.glb, link := s.link, rings := s.rings, cnt := s.cnt, execs := s.execs, parked := s.parked, src := s.src, quires := s.quires, ports := s.ports, sp := s.sp, spr := s.spr, mgt := s.mgt, bg := s.bg, out := s.out } = s) ∧
  (∀ (n : Fin 16) (s : State), ∃ t, exec (.remoteLost n) s = .next t ∧
    { t with clk := s.clk, tb := s.tb, glb := s.glb, link := s.link, rings := s.rings, cnt := s.cnt, execs := s.execs, parked := s.parked, src := s.src, quires := s.quires, ports := s.ports, sp := s.sp, spr := s.spr, mgt := s.mgt, bg := s.bg, out := s.out } = s) ∧
  (∀ (p : Fin 32) (s : State), ∃ t, exec (.lineDue p) s = .next t ∧
    { t with clk := s.clk, tb := s.tb, glb := s.glb, link := s.link, rings := s.rings, cnt := s.cnt, execs := s.execs, parked := s.parked, quires := s.quires, reqs := s.reqs, ports := s.ports, sp := s.sp, spr := s.spr, mgt := s.mgt, bg := s.bg, out := s.out } = s) ∧
  (∀ (p : Fin 32) (s : State), ∃ t, exec (.lineDecision p) s = .next t ∧
    { t with clk := s.clk, tb := s.tb, glb := s.glb, link := s.link, rings := s.rings, cnt := s.cnt, execs := s.execs, parked := s.parked, quires := s.quires, ports := s.ports, sp := s.sp, spr := s.spr, mgt := s.mgt, bg := s.bg, out := s.out } = s) ∧
  (∀ (p : Fin 32) (badWords : List Nat) (s : State), ∃ t, exec (.headLatch p badWords) s = .next t ∧
    { t with clk := s.clk, tb := s.tb, glb := s.glb, link := s.link, rings := s.rings, cnt := s.cnt, parked := s.parked, ports := s.ports, sp := s.sp, spr := s.spr, out := s.out } = s) ∧
  (∀ (p : Fin 32) (c : Chan) (eccBad : Bool) (s : State), ∃ t, exec (.playbackStart p c eccBad) s = .next t ∧
    { t with clk := s.clk, tb := s.tb, glb := s.glb, link := s.link, rings := s.rings, cnt := s.cnt, execs := s.execs, parked := s.parked, quires := s.quires, ports := s.ports, sp := s.sp, spr := s.spr, mgt := s.mgt, bg := s.bg, out := s.out } = s) ∧
  (∀ (p : Fin 32) (samples : List Int) (s : State), ∃ t, exec (.probeCaptureEnd p samples) s = .next t ∧
    { t with clk := s.clk, tb := s.tb, glb := s.glb, link := s.link, rings := s.rings, cnt := s.cnt, execs := s.execs, parked := s.parked, ports := s.ports, sp := s.sp, spr := s.spr, out := s.out } = s) ∧
  (∀ (i : Fin 4) (rising : Bool) (held : Nat) (s : State), ∃ t, exec (.sosEdge i rising held) s = .next t ∧
    { t with glb := s.glb, link := s.link, rings := s.rings, cnt := s.cnt, execs := s.execs, parked := s.parked, quires := s.quires, sos := s.sos, ports := s.ports, sp := s.sp, spr := s.spr, mgt := s.mgt, bg := s.bg, out := s.out } = s) ∧
  (∀ (src : ReqSource) (sc : ReqScope) (k : ReqKind) (s : State), ∃ t, exec (.arbiterRequest src sc k) s = .next t ∧
    { t with glb := s.glb, link := s.link, rings := s.rings, cnt := s.cnt, execs := s.execs, parked := s.parked, quires := s.quires, reqs := s.reqs, ports := s.ports, sp := s.sp, spr := s.spr, mgt := s.mgt, bg := s.bg, out := s.out } = s) ∧
  (∀ (q : Fin 8) (s : State), ∃ t, exec (.bankSwap q) s = .next t ∧
    { t with glb := s.glb, link := s.link, rings := s.rings, cnt := s.cnt, execs := s.execs, parked := s.parked, ports := s.ports, sp := s.sp, spr := s.spr, mgt := s.mgt, bg := s.bg, out := s.out } = s) ∧
  (∀ (q : Fin 8) (s : State), ∃ t, exec (.quireDrainEnd q) s = .next t ∧
    { t with clk := s.clk, tb := s.tb, glb := s.glb, link := s.link, rings := s.rings, cnt := s.cnt, execs := s.execs, parked := s.parked, quires := s.quires, ports := s.ports, sp := s.sp, spr := s.spr, out := s.out } = s) ∧
  (∀ (p : Fin 32) (s : State), ∃ t, exec (.portDrainEnd p) s = .next t ∧
    { t with clk := s.clk, tb := s.tb, glb := s.glb, link := s.link, rings := s.rings, cnt := s.cnt, parked := s.parked, ports := s.ports, sp := s.sp, spr := s.spr, out := s.out } = s) ∧
  (∀ (p : Fin 32) (entry : BitVec 256) (s : State), ∃ t, exec (.imageDescFetch p entry) s = .next t ∧
    { t with glb := s.glb, link := s.link, rings := s.rings, cnt := s.cnt, execs := s.execs, parked := s.parked, quires := s.quires, ports := s.ports, sp := s.sp, spr := s.spr, mgt := s.mgt, bg := s.bg, out := s.out } = s) ∧
  (∀ (s : State), ∃ t, exec .demandEval s = .next t ∧
    { t with clk := s.clk, tb := s.tb, link := s.link, rings := s.rings, cnt := s.cnt, parked := s.parked, ports := s.ports, th := s.th, sp := s.sp, spr := s.spr, out := s.out } = s) ∧
  (∀ (r : Fin 64) (entry : BitVec 512) (s : State), ∃ t, exec (.catchwordReread r entry) s = .next t ∧
    { t with clk := s.clk, tb := s.tb, glb := s.glb, link := s.link, rings := s.rings, cnt := s.cnt, execs := s.execs, waiting := s.waiting, parked := s.parked, gdma := s.gdma, quires := s.quires, ports := s.ports, sp := s.sp, spr := s.spr, mgt := s.mgt, bg := s.bg, out := s.out, nextId := s.nextId } = s) ∧
  (∀ (x : DmaTarget) (s : State), ∃ t, exec (.dmaFault x) s = .next t ∧
    { t with glb := s.glb, link := s.link, rings := s.rings, cnt := s.cnt, execs := s.execs, parked := s.parked, gdma := s.gdma, ports := s.ports, page := s.page, sp := s.sp, spr := s.spr, flash := s.flash, out := s.out, draws := s.draws } = s) ∧
  (∀ (p : Fin 32) (x : HeldLevel) (s : State), ∃ t, exec (.headPresenceChange p x) s = .next t ∧
    { t with glb := s.glb, link := s.link, rings := s.rings, cnt := s.cnt, execs := s.execs, parked := s.parked, quires := s.quires, reqs := s.reqs, ports := s.ports, th := s.th, sp := s.sp, spr := s.spr, mgt := s.mgt, bg := s.bg, out := s.out } = s) ∧
  (∀ (p : Fin 32) (till : Nat) (s : State), ∃ t, exec (.portBringupDone p till) s = .next t ∧
    { t with clk := s.clk, tb := s.tb, glb := s.glb, link := s.link, rings := s.rings, cnt := s.cnt, execs := s.execs, parked := s.parked, quires := s.quires, reqs := s.reqs, ports := s.ports, th := s.th, sp := s.sp, spr := s.spr, mgt := s.mgt, bg := s.bg, out := s.out } = s) ∧
  (∀ (p : Fin 32) (frame : BitVec 64) (s : State), ∃ t, exec (.backChannelStatus p frame) s = .next t ∧
    { t with glb := s.glb, link := s.link, rings := s.rings, cnt := s.cnt, execs := s.execs, parked := s.parked, quires := s.quires, ports := s.ports, th := s.th, sp := s.sp, spr := s.spr, mgt := s.mgt, bg := s.bg, out := s.out } = s) ∧
  (∀ (p : Fin 32) (head : Bytes) (data : Bytes) (crc : U32) (s : State), ∃ t, exec (.headmemReply p head data crc) s = .next t ∧
    { t with glb := s.glb, link := s.link, rings := s.rings, cnt := s.cnt, execs := s.execs, parked := s.parked, quires := s.quires, reqs := s.reqs, ports := s.ports, th := s.th, sp := s.sp, spr := s.spr, mgt := s.mgt, bg := s.bg, out := s.out } = s) ∧
  (∀ (p : Fin 32) (s : State), ∃ t, exec (.linkLost p) s = .next t ∧
    { t with clk := s.clk, tb := s.tb, glb := s.glb, link := s.link, rings := s.rings, cnt := s.cnt, execs := s.execs, parked := s.parked, quires := s.quires, reqs := s.reqs, ports := s.ports, th := s.th, sp := s.sp, spr := s.spr, mgt := s.mgt, bg := s.bg, out := s.out } = s) ∧
  (∀ (p : Fin 32) (s : State), ∃ t, exec (.learnTimeLimit p) s = .next t ∧
    { t with clk := s.clk, tb := s.tb, link := s.link, rings := s.rings, cnt := s.cnt, execs := s.execs, parked := s.parked, ports := s.ports, sp := s.sp, spr := s.spr, out := s.out } = s) ∧
  (∀ (p : Fin 32) (s : State), ∃ t, exec (.wearCommitPeriodic p) s = .next t ∧
    { t with clk := s.clk, tb := s.tb, glb := s.glb, link := s.link, rings := s.rings, cnt := s.cnt, execs := s.execs, parked := s.parked, quires := s.quires, reqs := s.reqs, ports := s.ports, th := s.th, sp := s.sp, spr := s.spr, mgt := s.mgt, bg := s.bg, out := s.out } = s) ∧
  (∀ (rd : HkRound) (s : State), ∃ t, exec (.hkRoundEnd rd) s = .next t ∧
    { t with clk := s.clk, tb := s.tb, glb := s.glb, link := s.link, rings := s.rings, cnt := s.cnt, execs := s.execs, parked := s.parked, quires := s.quires, reqs := s.reqs, ports := s.ports, page := s.page, th := s.th, sp := s.sp, spr := s.spr, mgt := s.mgt, bg := s.bg, out := s.out } = s) ∧
  (∀ (c : Comparator) (high : Bool) (mv : Nat) (s : State), ∃ t, exec (.writeSafeChange c high mv) s = .next t ∧
    { t with glb := s.glb, link := s.link, rings := s.rings, cnt := s.cnt, execs := s.execs, parked := s.parked, quires := s.quires, reqs := s.reqs, ports := s.ports, th := s.th, sp := s.sp, spr := s.spr, flash := s.flash, otp := s.otp, mgt := s.mgt, bg := s.bg, out := s.out, draws := s.draws } = s) ∧
  (∀ (sp : SpPort) (cell : Cell) (s : State), ∃ t, exec (.evtCellRx sp cell) s = .next t ∧
    { t with glb := s.glb, link := s.link, rings := s.rings, cnt := s.cnt, execs := s.execs, parked := s.parked, quires := s.quires, ports := s.ports, sp := s.sp, spr := s.spr, mgt := s.mgt, bg := s.bg, out := s.out } = s) ∧
  (∀ (sp : SpPort) (cell : Cell) (s : State), ∃ t, exec (.posCellRx sp cell) s = .next t ∧
    { t with glb := s.glb, link := s.link, rings := s.rings, cnt := s.cnt, execs := s.execs, parked := s.parked, src := s.src, quires := s.quires, ports := s.ports, sp := s.sp, spr := s.spr, mgt := s.mgt, bg := s.bg, out := s.out } = s) ∧
  (∀ (sp : SpPort) (cell : Cell) (s : State), ∃ t, exec (.mgtRdDataRx sp cell) s = .next t ∧
    { t with glb := s.glb, link := s.link, rings := s.rings, cnt := s.cnt, execs := s.execs, parked := s.parked, quires := s.quires, reqs := s.reqs, ports := s.ports, tiles := s.tiles, masks := s.masks, page := s.page, th := s.th, sp := s.sp, spr := s.spr, flash := s.flash, mgt := s.mgt, bg := s.bg, out := s.out } = s) ∧
  (∀ (sp : SpPort) (cell : Cell) (s : State), ∃ t, exec (.mgtWrAckRx sp cell) s = .next t ∧
    { t with link := s.link, rings := s.rings, cnt := s.cnt, execs := s.execs, parked := s.parked, page := s.page, sp := s.sp, spr := s.spr, flash := s.flash, out := s.out, draws := s.draws } = s) ∧
  (∀ (ttag : BitVec 16) (s : State), ∃ t, exec (.tunnelTimeout ttag) s = .next t ∧
    { t with clk := s.clk, tb := s.tb, link := s.link, rings := s.rings, cnt := s.cnt, parked := s.parked, sp := s.sp, spr := s.spr, out := s.out } = s) ∧
  (∀ (c : Fin 2) (x : CanHeard) (s : State), ∃ t, exec (.canFrameRx c x) s = .next t ∧
    { t with glb := s.glb, link := s.link, rings := s.rings, cnt := s.cnt, execs := s.execs, parked := s.parked, quires := s.quires, reqs := s.reqs, ports := s.ports, sp := s.sp, spr := s.spr, press := s.press, mgt := s.mgt, bg := s.bg, out := s.out } = s) ∧
  (∀ (s : State), ∃ t, exec .pressStateTimeout s = .next t ∧
    { t with clk := s.clk, tb := s.tb, glb := s.glb, link := s.link, rings := s.rings, cnt := s.cnt, execs := s.execs, parked := s.parked, quires := s.quires, reqs := s.reqs, ports := s.ports, sp := s.sp, spr := s.spr, press := s.press, mgt := s.mgt, bg := s.bg, out := s.out } = s) ∧
  (∀ (id : Nat) (s : State), ∃ t, exec (.busSendTimeout id) s = .next t ∧
    { t with clk := s.clk, tb := s.tb, link := s.link, rings := s.rings, cnt := s.cnt, execs := s.execs, parked := s.parked, sp := s.sp, spr := s.spr, press := s.press, out := s.out } = s) ∧
  (∀ (s : State), ∃ t, exec .stopNAccepted s = .next t ∧
    { t with glb := s.glb, link := s.link, rings := s.rings, cnt := s.cnt, execs := s.execs, parked := s.parked, quires := s.quires, ports := s.ports, sp := s.sp, spr := s.spr, press := s.press, mgt := s.mgt, bg := s.bg, out := s.out } = s) ∧
  (∀ (s : State), ∃ t, exec .selfDriveEnd s = .next t ∧
    { t with clk := s.clk, tb := s.tb, rst := s.rst, out := s.out } = s) ∧
  (∀ (src : ResetSource) (s : State), ∃ t, exec (.resetSourceRelease src) s = .next t ∧
    { t with link := s.link, rst := s.rst, out := s.out } = s) ∧
  (∀ (refOk : Bool) (s : State), ∃ t, exec (.fuseLoadDone refOk) s = .next t ∧
    { t with clk := s.clk, tb := s.tb, glb := s.glb, link := s.link, rings := s.rings, cnt := s.cnt, parked := s.parked, sp := s.sp, spr := s.spr, rst := s.rst, otp := s.otp, mgt := s.mgt, out := s.out, draws := s.draws } = s) ∧
  (∀ (loc : ScrubLoc) (bad : Bool) (s : State), ∃ t, exec (.scrubStep loc bad) s = .next t ∧
    { t with glb := s.glb, link := s.link, rings := s.rings, cnt := s.cnt, execs := s.execs, parked := s.parked, quires := s.quires, ports := s.ports, tiles := s.tiles, masks := s.masks, page := s.page, sp := s.sp, spr := s.spr, mgt := s.mgt, bg := s.bg, out := s.out } = s) ∧
  (∀ (id : Nat) (data : Bytes) (s : State), ∃ t, exec (.dmaTransferDone id data) s = .next t ∧
    { t with glb := s.glb, link := s.link, rings := s.rings, cnt := s.cnt, execs := s.execs, parked := s.parked, gdma := s.gdma, quires := s.quires, reqs := s.reqs, ports := s.ports, tiles := s.tiles, masks := s.masks, page := s.page, th := s.th, sp := s.sp, spr := s.spr, flash := s.flash, mgt := s.mgt, bg := s.bg, out := s.out } = s) ∧
  (∀ (p : Fin 32) (ack : Bool) (data : Bytes) (s : State), ∃ t, exec (.headI2cTransferDone p ack data) s = .next t ∧
    { t with glb := s.glb, link := s.link, rings := s.rings, cnt := s.cnt, execs := s.execs, parked := s.parked, quires := s.quires, reqs := s.reqs, ports := s.ports, th := s.th, sp := s.sp, spr := s.spr, mgt := s.mgt, bg := s.bg, out := s.out } = s) ∧
  (∀ (blown : Bool) (weak : Bool) (s : State), ∃ t, exec (.otpPulseEnd blown weak) s = .next t ∧
    { t with clk := s.clk, tb := s.tb, link := s.link, rings := s.rings, cnt := s.cnt, execs := s.execs, parked := s.parked, sp := s.sp, spr := s.spr, otp := s.otp, out := s.out } = s) ∧
  (∀ (ok : Bool) (s : State), ∃ t, exec (.flashWriteDone ok) s = .next t ∧
    { t with link := s.link, rings := s.rings, cnt := s.cnt, execs := s.execs, parked := s.parked, sp := s.sp, spr := s.spr, rst := s.rst, flash := s.flash, otp := s.otp, out := s.out } = s) ∧
  (∀ (s : State), ∃ t, exec .flashPauseTimeout s = .next t ∧
    { t with clk := s.clk, tb := s.tb, link := s.link, rings := s.rings, cnt := s.cnt, execs := s.execs, parked := s.parked, sp := s.sp, spr := s.spr, flash := s.flash, out := s.out } = s) ∧
  (∀ (present : Bool) (s : State), ∃ t, exec (.vppPresenceChange present) s = .next t ∧
    { t with glb := s.glb, link := s.link, rings := s.rings, cnt := s.cnt, execs := s.execs, parked := s.parked, quires := s.quires, reqs := s.reqs, ports := s.ports, th := s.th, sp := s.sp, spr := s.spr, flash := s.flash, otp := s.otp, mgt := s.mgt, bg := s.bg, out := s.out, draws := s.draws } = s)
end

