-- ==== Sys2Proof/Laws/Command.lean ====
section
/-! SUPPORT. The frame of a command (13_commands_events.md R365 to R371, R402): the five ways a command entry can go. -/

namespace Sys2Proof.Machine

/-- A command that starts and meets none of the refusals of its rule acts. -/
theorem command_acts {op : Nat} {h : CmdHdr} {p : Params} {s : State} {fields : List (Nat × Nat)} (hs : starts s op h p fields = true)
    {checks : List (Bool × Nat)} {dry act : State → State} (hc : firstBad checks = 0) :
    command op h p s fields checks dry act = act s := by
  simp only [starts, mayStart, Bool.and_eq_true, Bool.not_eq_true'] at hs
  obtain ⟨⟨⟨⟨⟨h1, h2⟩, h3⟩, h4⟩, h5⟩, h6⟩ := hs
  simp only [command, h1, h2, h3, h4, h5, h6, firstBad, hc, Bool.not_true, Bool.or_self, Bool.false_eq_true, if_false]

/-- Before the control cores take commands, a command changes nothing (R402). -/
theorem command_noCores {op : Nat} {h : CmdHdr} {p : Params} {s : State} {fields : List (Nat × Nat)}
    {checks : List (Bool × Nat)} {dry act : State → State} (hs : s.cores = false) : command op h p s fields checks dry act = s := by
  simp [command, hs]

/-- A command that something holds back waits. -/
theorem command_waits {op : Nat} {h : CmdHdr} {p : Params} {s : State} {fields : List (Nat × Nat)}
    {checks : List (Bool × Nat)} {dry act : State → State} (hs : s.cores = true) (hw : mustWait s op h p = true) :
    command op h p s fields checks dry act =
      { s with waiting := s.waiting ++ [{ target := 0, op := op, h := h, p := p, cw := 0, bad := false }] } := by
  simp [command, hs, hw]

/-- The ROM refuses a command that is not its own (R402). -/
theorem command_rom {op : Nat} {h : CmdHdr} {p : Params} {s : State} {fields : List (Nat × Nat)}
    {checks : List (Bool × Nat)} {dry act : State → State} (hs : s.cores = true) (hw : mustWait s op h p = false)
    (hr : s.romOnly = true) (ho : romOps.contains op = false) :
    command op h p s fields checks dry act = refuse s h stBadState := by
  simp only [command, hs, hw, hr, ho, Bool.not_true, Bool.not_false, Bool.and_self, Bool.false_eq_true, if_false, if_true]

/-- The first check that fails decides the status of a refusal (R371). -/
theorem command_refuses {op : Nat} {h : CmdHdr} {p : Params} {s : State} {fields : List (Nat × Nat)}
    {checks : List (Bool × Nat)} {dry act : State → State} (hs : mayStart s op h p = true) {st : Nat}
    (hb : firstBad ((flagsBad h || undefSet p fields, stBadParam) :: checks) = st + 1) :
    command op h p s fields checks dry act = refuse s h (st + 1) := by
  simp only [mayStart, Bool.and_eq_true, Bool.not_eq_true'] at hs
  obtain ⟨⟨h1, h2⟩, h3⟩ := hs
  simp only [command, h1, h2, h3, hb, Bool.not_true, Bool.false_eq_true, if_false]

/-- A dry run does what its rule gives dry runs, and nothing else (R367). -/
theorem command_dry {op : Nat} {h : CmdHdr} {p : Params} {s : State} {fields : List (Nat × Nat)}
    {checks : List (Bool × Nat)} {dry act : State → State} (hs : mayStart s op h p = true) (hd : isDry h = true)
    (hb : firstBad ((flagsBad h || undefSet p fields, stBadParam) :: checks) = 0) :
    command op h p s fields checks dry act = dry s := by
  simp only [mayStart, Bool.and_eq_true, Bool.not_eq_true'] at hs
  obtain ⟨⟨h1, h2⟩, h3⟩ := hs
  simp only [command, h1, h2, h3, hb, hd, Bool.not_true, Bool.false_eq_true, if_false, if_true]

/-- A row whose meaning is a command of the shared frame answers as that command does. -/
theorem answers_of_command {i : Instr} {s t : State} {op : Nat} {h : CmdHdr} {p : Params} {fields : List (Nat × Nat)}
    {checks : List (Bool × Nat)} {dry act : State → State} (he : exec i s = .next (command op h p s fields checks dry act))
    (ht : act s = t) : answers i s op h p fields checks t :=
  ⟨fun hs hc => by rw [he, command_acts hs hc, ht], fun hs _ hb => by rw [he, command_refuses hs hb]⟩

/-- What a command can come to, at once: nothing, waiting, a refusal, a dry run, or its act. -/
theorem command_cases (op : Nat) (h : CmdHdr) (p : Params) (s : State) (fields : List (Nat × Nat))
    (checks : List (Bool × Nat)) (dry act : State → State) :
    command op h p s fields checks dry act = s ∨
    command op h p s fields checks dry act =
      { s with waiting := s.waiting ++ [{ target := 0, op := op, h := h, p := p, cw := 0, bad := false }] } ∨
    (∃ st, command op h p s fields checks dry act = refuse s h st) ∨
    (isDry h = true ∧ command op h p s fields checks dry act = dry s) ∨
    (isDry h = false ∧ command op h p s fields checks dry act = act s) := by
  unfold command
  split
  · exact .inl rfl
  · split
    · exact .inr (.inl rfl)
    · split
      · exact .inr (.inr (.inl ⟨_, rfl⟩))
      · split
        · split
          · exact .inr (.inr (.inr (.inl ⟨by assumption, rfl⟩)))
          · exact .inr (.inr (.inr (.inr ⟨by simp_all, rfl⟩)))
        · exact .inr (.inr (.inl ⟨_, rfl⟩))

end Sys2Proof.Machine
end

