-- ==== Sys2Proof/Laws/Memory.lean ====
section
/-! SUPPORT. The sparse memories (the control SRAM and the page-store regions): every operation keeps the canonical form, a read after a write
gives what was written, and every other address reads as before. -/

namespace Sys2Proof.Machine

@[simp] theorem Mem.empty_wf : Mem.empty.wf = true := rfl

@[simp] theorem Mem.empty_read (a : Nat) : Mem.empty.read a = 0 := rfl

theorem Mem.wfFrom_mono {lo lo' : Nat} (h : lo' ≤ lo) : ∀ {l : List Host.Cell}, Mem.wfFrom lo l = true → Mem.wfFrom lo' l = true
  | [], _ => rfl
  | (k, v) :: t, hw => by
    simp only [Mem.wfFrom, Bool.and_eq_true, decide_eq_true_eq] at hw ⊢
    exact ⟨⟨Nat.le_trans h hw.1.1, hw.1.2⟩, hw.2⟩

/-- Nothing is listed below the bound of a canonical list, so it reads as unlisted there. -/
theorem Mem.readIn_below : ∀ {l : List Host.Cell} {lo a : Nat}, Mem.wfFrom lo l = true → a < lo → Mem.readIn l a = 0
  | [], _, _, _, _ => rfl
  | (k, v) :: t, lo, a, hw, h => by
    simp only [Mem.wfFrom, Bool.and_eq_true, decide_eq_true_eq] at hw
    have hk : k ≠ a := by omega
    simp only [Mem.readIn, hk, if_false]
    exact Mem.readIn_below hw.2 (by omega)

theorem Mem.setIn_wf (b : Byte) {lo a : Nat} (h : lo ≤ a) : ∀ {l : List Host.Cell}, Mem.wfFrom lo l = true →
    Mem.wfFrom lo (Mem.setIn a b l) = true := by
  intro l
  induction l generalizing lo with
  | nil =>
    intro _
    unfold Mem.setIn
    split
    · rfl
    · simp_all [Mem.wfFrom]
  | cons c t ih =>
    obtain ⟨k, v⟩ := c
    intro hw
    have hw' := hw
    simp only [Mem.wfFrom, Bool.and_eq_true, decide_eq_true_eq] at hw
    unfold Mem.setIn
    split
    · split
      · exact hw'
      · simp_all [Mem.wfFrom]
    · split
      · split
        · exact Mem.wfFrom_mono (by omega) hw.2
        · simp_all [Mem.wfFrom]
      · simp only [Mem.wfFrom, Bool.and_eq_true, decide_eq_true_eq]
        exact ⟨hw.1, ih (by omega) hw.2⟩

/-- Setting one byte keeps the canonical form. -/
theorem Mem.set_wf {m : Mem} (a : Nat) (b : Byte) (h : m.wf = true) : (m.set a b).wf = true :=
  Mem.setIn_wf b (Nat.zero_le a) h

/-- Storing bytes keeps the canonical form. -/
theorem Mem.write_wf : ∀ (bs : Bytes) {m : Mem} (a : Nat), m.wf = true → (m.write a bs).wf = true
  | [], _, _, h => h
  | b :: bs, _, a, h => Mem.write_wf bs (a + 1) (Mem.set_wf a b h)

theorem Mem.readIn_setIn (b : Byte) {lo : Nat} (a x : Nat) : ∀ {l : List Host.Cell}, Mem.wfFrom lo l = true →
    Mem.readIn (Mem.setIn a b l) x = if x = a then b else Mem.readIn l x := by
  intro l
  induction l generalizing lo with
  | nil =>
    intro _
    unfold Mem.setIn
    by_cases hx : x = a
    · subst hx; split <;> simp_all [Mem.readIn]
    · have : ¬ a = x := fun e => hx e.symm
      split <;> simp [Mem.readIn, this]
  | cons c t ih =>
    obtain ⟨k, v⟩ := c
    intro hw
    have hw' := hw
    simp only [Mem.wfFrom, Bool.and_eq_true, decide_eq_true_eq] at hw
    have hr := fun y => Mem.readIn_below (l := t) (lo := k + 1) (a := y) hw.2
    unfold Mem.setIn
    split
    · rename_i hak
      have hka : k ≠ a := by omega
      have ha := hr a (by omega)
      by_cases hx : x = a
      · subst hx; split <;> simp_all [Mem.readIn]
      · have : ¬ a = x := fun e => hx e.symm
        split <;> simp [Mem.readIn, this]
    · split
      · rename_i hk
        subst hk
        have ha := hr k (by omega)
        by_cases hx : x = k
        · subst hx; split <;> simp_all [Mem.readIn]
        · have : ¬ k = x := fun e => hx e.symm
          split <;> simp [Mem.readIn, this]
      · simp only [Mem.readIn, ih hw.2]
        by_cases hx : x = a
        · subst hx; have : k ≠ x := by omega
          simp [this]
        · simp [hx]

/-- A byte that was set reads as set; every other address reads as before. -/
theorem Mem.read_set {m : Mem} (a : Nat) (b : Byte) (x : Nat) (h : m.wf = true) :
    (m.set a b).read x = if x = a then b else m.read x :=
  Mem.readIn_setIn b a x h

/-- What a store of bytes leaves at every address: the stored bytes, and elsewhere what was there. -/
theorem Mem.read_write : ∀ (bs : Bytes) {m : Mem} (a x : Nat), m.wf = true →
    (m.write a bs).read x = if a ≤ x ∧ x < a + bs.length then bs.getD (x - a) 0 else m.read x
  | [], _, a, x, _ => by rw [if_neg (by simp)]; rfl
  | b :: bs, m, a, x, h => by
    rw [Mem.write, Mem.read_write bs (a + 1) x (Mem.set_wf a b h), Mem.read_set a b x h]
    by_cases hx : x = a
    · subst hx; simp
    · by_cases hi : a + 1 ≤ x ∧ x < a + 1 + bs.length
      · have : x - a = x - (a + 1) + 1 := by omega
        simp only [hi, and_self, if_true, this, List.getD_cons_succ]
        rw [if_pos]; simp; omega
      · rw [if_neg hi, if_neg hx, if_neg]; simp; omega

/-- Every address outside a store reads as before. -/
theorem Mem.read_write_outside (bs : Bytes) {m : Mem} {a x : Nat} (h : m.wf = true) (hx : x < a ∨ a + bs.length ≤ x) :
    (m.write a bs).read x = m.read x := by
  rw [Mem.read_write bs a x h, if_neg]; omega

/-- Reading back what was stored. -/
theorem Mem.bytes_write (bs : Bytes) {m : Mem} (a : Nat) (h : m.wf = true) : (m.write a bs).bytes a bs.length = bs := by
  apply List.ext_getElem
  · simp [Mem.bytes]
  · intro i h1 h2
    simp only [Mem.bytes, List.getElem_map, List.getElem_range, Mem.read_write bs a (a + i) h]
    rw [if_pos (by omega)]
    simp [h2]

end Sys2Proof.Machine
end

