-- ==== Sys2Proof/Laws/Frame.lean ====
section
/-! SUPPORT. What a shared operation can change: `Frame l s t` says that `t` follows from `s` by changes to the parts in `l` alone, with the
clock never turned back, nothing taken back of what has left the block, the queue as it was, and the memories still in canonical form. One
frame lemma for each operation says so for that operation; the frame of a composition follows from those of its parts. -/

set_option Elab.async false

namespace Sys2Proof.Machine

/-- The parts of the state beside the queue. -/
inductive Part where
  | clk | tb | glb | link | rings | cnt | routes | telRoute | execs | waiting | resuming | parked | gdma | src | quires | reqs | sos | ports | tiles | masks | page | th | sp | spr | press | rst | flash | otp | mgt | bg | out | nextId | draws
  deriving DecidableEq, Repr

/-- A number for each part. -/
def Part.code : Part → Nat
  | .clk => 0
  | .tb => 1
  | .glb => 2
  | .link => 3
  | .rings => 4
  | .cnt => 5
  | .routes => 6
  | .telRoute => 7
  | .execs => 8
  | .waiting => 9
  | .resuming => 10
  | .parked => 11
  | .gdma => 12
  | .src => 13
  | .quires => 14
  | .reqs => 15
  | .sos => 16
  | .ports => 17
  | .tiles => 18
  | .masks => 19
  | .page => 20
  | .th => 21
  | .sp => 22
  | .spr => 23
  | .press => 24
  | .rst => 25
  | .flash => 26
  | .otp => 27
  | .mgt => 28
  | .bg => 29
  | .out => 30
  | .nextId => 31
  | .draws => 32

/-- The part is among those of a list. -/
def Part.among (p : Part) : List Part → Bool
  | [] => false
  | q :: l => Nat.beq p.code q.code || p.among l

/-- Every part of one list is among those of another. -/
def Part.all (m : List Part) : List Part → Bool
  | [] => true
  | p :: l => p.among m && Part.all m l

/-- What is among the smaller is among the larger. -/
theorem Part.among_of_all {m : List Part} {p : Part} : ∀ {l : List Part}, Part.all m l = true → p.among l = true → p.among m = true
  | [], _, h => by simp [Part.among] at h
  | q :: l, ha, h => by
    simp only [Part.all, Bool.and_eq_true] at ha
    simp only [Part.among, Bool.or_eq_true] at h
    rcases h with h | h
    · have : p = q := by cases p <;> cases q <;> first | rfl | (exact absurd h (by decide))
      exact this ▸ ha.1
    · exact Part.among_of_all ha.2 h

/-- Lists of parts nest. -/
theorem Part.all_trans {m : List Part} : ∀ {l : List Part}, Part.all m l = true → ∀ {j : List Part}, Part.all l j = true → Part.all m j = true
  | _, _, [], _ => rfl
  | _, h, p :: j, g => by
    simp only [Part.all, Bool.and_eq_true] at g ⊢
    exact ⟨Part.among_of_all h g.1, Part.all_trans h g.2⟩

/-- Every part. -/
abbrev Part.every : List Part :=
  
  .clk :: .tb :: .glb :: .link :: .rings :: .cnt :: .routes :: .telRoute :: .execs :: .waiting :: .resuming :: .parked :: .gdma :: .src :: .quires :: .reqs :: .sos :: .ports :: .tiles :: .masks :: .page :: .th :: .sp :: .spr :: .press :: .rst :: .flash :: .otp :: .mgt :: .bg :: .out :: .nextId :: .draws :: []

/-- `t` follows from `s` by changes to the parts in `l` alone; time does not run back, what has been sent stays sent, the queue is untouched,
and the memories stay in canonical form. -/
structure Frame (l : List Part) (s t : State) : Prop where
  pendingSame : t.pending = s.pending
  time : s.clk ≤ t.clk
  sent : s.out <:+ t.out
  mems : s.memoriesWf = true → t.memoriesWf = true
  clk : Part.among .clk l = true ∨ t.clk = s.clk
  tb : Part.among .tb l = true ∨ t.tb = s.tb
  glb : Part.among .glb l = true ∨ t.glb = s.glb
  link : Part.among .link l = true ∨ t.link = s.link
  rings : Part.among .rings l = true ∨ t.rings = s.rings
  cnt : Part.among .cnt l = true ∨ t.cnt = s.cnt
  routes : Part.among .routes l = true ∨ t.routes = s.routes
  telRoute : Part.among .telRoute l = true ∨ t.telRoute = s.telRoute
  execs : Part.among .execs l = true ∨ t.execs = s.execs
  waiting : Part.among .waiting l = true ∨ t.waiting = s.waiting
  resuming : Part.among .resuming l = true ∨ t.resuming = s.resuming
  parked : Part.among .parked l = true ∨ t.parked = s.parked
  gdma : Part.among .gdma l = true ∨ t.gdma = s.gdma
  src : Part.among .src l = true ∨ t.src = s.src
  quires : Part.among .quires l = true ∨ t.quires = s.quires
  reqs : Part.among .reqs l = true ∨ t.reqs = s.reqs
  sos : Part.among .sos l = true ∨ t.sos = s.sos
  ports : Part.among .ports l = true ∨ t.ports = s.ports
  tiles : Part.among .tiles l = true ∨ t.tiles = s.tiles
  masks : Part.among .masks l = true ∨ t.masks = s.masks
  page : Part.among .page l = true ∨ t.page = s.page
  th : Part.among .th l = true ∨ t.th = s.th
  sp : Part.among .sp l = true ∨ t.sp = s.sp
  spr : Part.among .spr l = true ∨ t.spr = s.spr
  press : Part.among .press l = true ∨ t.press = s.press
  rst : Part.among .rst l = true ∨ t.rst = s.rst
  flash : Part.among .flash l = true ∨ t.flash = s.flash
  otp : Part.among .otp l = true ∨ t.otp = s.otp
  mgt : Part.among .mgt l = true ∨ t.mgt = s.mgt
  bg : Part.among .bg l = true ∨ t.bg = s.bg
  out : Part.among .out l = true ∨ t.out = s.out
  nextId : Part.among .nextId l = true ∨ t.nextId = s.nextId
  draws : Part.among .draws l = true ∨ t.draws = s.draws

/-- Nothing changes. -/
theorem Frame.refl (l : List Part) (s : State) : Frame l s s where
  pendingSame := rfl
  time := Nat.le_refl _
  sent := List.suffix_rfl
  mems := fun h => h
  clk := .inr rfl
  tb := .inr rfl
  glb := .inr rfl
  link := .inr rfl
  rings := .inr rfl
  cnt := .inr rfl
  routes := .inr rfl
  telRoute := .inr rfl
  execs := .inr rfl
  waiting := .inr rfl
  resuming := .inr rfl
  parked := .inr rfl
  gdma := .inr rfl
  src := .inr rfl
  quires := .inr rfl
  reqs := .inr rfl
  sos := .inr rfl
  ports := .inr rfl
  tiles := .inr rfl
  masks := .inr rfl
  page := .inr rfl
  th := .inr rfl
  sp := .inr rfl
  spr := .inr rfl
  press := .inr rfl
  rst := .inr rfl
  flash := .inr rfl
  otp := .inr rfl
  mgt := .inr rfl
  bg := .inr rfl
  out := .inr rfl
  nextId := .inr rfl
  draws := .inr rfl

theorem Frame.same_trans {α : Type} {b : Bool} {x y z : α} (h : b = true ∨ y = x) (g : b = true ∨ z = y) : b = true ∨ z = x := by
  rcases h with h | h
  · exact .inl h
  · exact g.imp id (·.trans h)

theorem Frame.trans {l : List Part} {s t u : State} (h : Frame l s t) (g : Frame l t u) : Frame l s u where
  pendingSame := g.pendingSame.trans h.pendingSame
  time := h.time.trans g.time
  sent := h.sent.trans g.sent
  mems := g.mems ∘ h.mems
  clk := Frame.same_trans h.clk g.clk
  tb := Frame.same_trans h.tb g.tb
  glb := Frame.same_trans h.glb g.glb
  link := Frame.same_trans h.link g.link
  rings := Frame.same_trans h.rings g.rings
  cnt := Frame.same_trans h.cnt g.cnt
  routes := Frame.same_trans h.routes g.routes
  telRoute := Frame.same_trans h.telRoute g.telRoute
  execs := Frame.same_trans h.execs g.execs
  waiting := Frame.same_trans h.waiting g.waiting
  resuming := Frame.same_trans h.resuming g.resuming
  parked := Frame.same_trans h.parked g.parked
  gdma := Frame.same_trans h.gdma g.gdma
  src := Frame.same_trans h.src g.src
  quires := Frame.same_trans h.quires g.quires
  reqs := Frame.same_trans h.reqs g.reqs
  sos := Frame.same_trans h.sos g.sos
  ports := Frame.same_trans h.ports g.ports
  tiles := Frame.same_trans h.tiles g.tiles
  masks := Frame.same_trans h.masks g.masks
  page := Frame.same_trans h.page g.page
  th := Frame.same_trans h.th g.th
  sp := Frame.same_trans h.sp g.sp
  spr := Frame.same_trans h.spr g.spr
  press := Frame.same_trans h.press g.press
  rst := Frame.same_trans h.rst g.rst
  flash := Frame.same_trans h.flash g.flash
  otp := Frame.same_trans h.otp g.otp
  mgt := Frame.same_trans h.mgt g.mgt
  bg := Frame.same_trans h.bg g.bg
  out := Frame.same_trans h.out g.out
  nextId := Frame.same_trans h.nextId g.nextId
  draws := Frame.same_trans h.draws g.draws

/-- A frame holds with more parts. -/
theorem Frame.mono {l m : List Part} {s t : State} (h : Frame l s t) (hm : Part.all m l = true) : Frame m s t where
  pendingSame := h.pendingSame
  time := h.time
  sent := h.sent
  mems := h.mems
  clk := h.clk.imp_left (Part.among_of_all hm)
  tb := h.tb.imp_left (Part.among_of_all hm)
  glb := h.glb.imp_left (Part.among_of_all hm)
  link := h.link.imp_left (Part.among_of_all hm)
  rings := h.rings.imp_left (Part.among_of_all hm)
  cnt := h.cnt.imp_left (Part.among_of_all hm)
  routes := h.routes.imp_left (Part.among_of_all hm)
  telRoute := h.telRoute.imp_left (Part.among_of_all hm)
  execs := h.execs.imp_left (Part.among_of_all hm)
  waiting := h.waiting.imp_left (Part.among_of_all hm)
  resuming := h.resuming.imp_left (Part.among_of_all hm)
  parked := h.parked.imp_left (Part.among_of_all hm)
  gdma := h.gdma.imp_left (Part.among_of_all hm)
  src := h.src.imp_left (Part.among_of_all hm)
  quires := h.quires.imp_left (Part.among_of_all hm)
  reqs := h.reqs.imp_left (Part.among_of_all hm)
  sos := h.sos.imp_left (Part.among_of_all hm)
  ports := h.ports.imp_left (Part.among_of_all hm)
  tiles := h.tiles.imp_left (Part.among_of_all hm)
  masks := h.masks.imp_left (Part.among_of_all hm)
  page := h.page.imp_left (Part.among_of_all hm)
  th := h.th.imp_left (Part.among_of_all hm)
  sp := h.sp.imp_left (Part.among_of_all hm)
  spr := h.spr.imp_left (Part.among_of_all hm)
  press := h.press.imp_left (Part.among_of_all hm)
  rst := h.rst.imp_left (Part.among_of_all hm)
  flash := h.flash.imp_left (Part.among_of_all hm)
  otp := h.otp.imp_left (Part.among_of_all hm)
  mgt := h.mgt.imp_left (Part.among_of_all hm)
  bg := h.bg.imp_left (Part.among_of_all hm)
  out := h.out.imp_left (Part.among_of_all hm)
  nextId := h.nextId.imp_left (Part.among_of_all hm)
  draws := h.draws.imp_left (Part.among_of_all hm)

/-- One operation after another. -/
theorem Frame.step {l m : List Part} {s t u : State} (h : Frame m s t) (g : Frame l t u) (hm : Part.all m l = true) : Frame m s u :=
  h.trans (g.mono hm)


/-- A record update: time and the sent things stay, and a part is the same or listed. -/
theorem Frame.upd {l : List Part} {s t : State} {tb : Nat} {glb : Glb} {link : HostLink} {rings : Vector Ring 64} {cnt : Counters} {routes : Vector Route 8} {telRoute : Byte} {execs : List Exec} {waiting : List Waiting} {resuming : Bool} {parked : List Parked} {gdma : List (Nat × BitVec 256 × Nat)} {src : Vector Source 16} {quires : Vector Quire 8} {reqs : List Req} {sos : Vector Sos 4} {ports : Vector Port 32} {tiles : List (Nat × Tile)} {masks : List (Nat × Tile)} {page : PageStore} {th : Thermal} {sp : Spine} {spr : SpineRun} {press : Press} {rst : Rst} {flash : Flash} {otp : Otp} {mgt : Mgt} {bg : Background} {nextId : Nat} {draws : Nat}
    (h : Frame l s t) (hs : mgt.sram = t.mgt.sram) (hr : page.regions = t.page.regions)
    (h_tb : Part.among .tb l = true ∨ tb = t.tb := by first | exact .inl rfl | exact .inr rfl)
    (h_glb : Part.among .glb l = true ∨ glb = t.glb := by first | exact .inl rfl | exact .inr rfl)
    (h_link : Part.among .link l = true ∨ link = t.link := by first | exact .inl rfl | exact .inr rfl)
    (h_rings : Part.among .rings l = true ∨ rings = t.rings := by first | exact .inl rfl | exact .inr rfl)
    (h_cnt : Part.among .cnt l = true ∨ cnt = t.cnt := by first | exact .inl rfl | exact .inr rfl)
    (h_routes : Part.among .routes l = true ∨ routes = t.routes := by first | exact .inl rfl | exact .inr rfl)
    (h_telRoute : Part.among .telRoute l = true ∨ telRoute = t.telRoute := by first | exact .inl rfl | exact .inr rfl)
    (h_execs : Part.among .execs l = true ∨ execs = t.execs := by first | exact .inl rfl | exact .inr rfl)
    (h_waiting : Part.among .waiting l = true ∨ waiting = t.waiting := by first | exact .inl rfl | exact .inr rfl)
    (h_resuming : Part.among .resuming l = true ∨ resuming = t.resuming := by first | exact .inl rfl | exact .inr rfl)
    (h_parked : Part.among .parked l = true ∨ parked = t.parked := by first | exact .inl rfl | exact .inr rfl)
    (h_gdma : Part.among .gdma l = true ∨ gdma = t.gdma := by first | exact .inl rfl | exact .inr rfl)
    (h_src : Part.among .src l = true ∨ src = t.src := by first | exact .inl rfl | exact .inr rfl)
    (h_quires : Part.among .quires l = true ∨ quires = t.quires := by first | exact .inl rfl | exact .inr rfl)
    (h_reqs : Part.among .reqs l = true ∨ reqs = t.reqs := by first | exact .inl rfl | exact .inr rfl)
    (h_sos : Part.among .sos l = true ∨ sos = t.sos := by first | exact .inl rfl | exact .inr rfl)
    (h_ports : Part.among .ports l = true ∨ ports = t.ports := by first | exact .inl rfl | exact .inr rfl)
    (h_tiles : Part.among .tiles l = true ∨ tiles = t.tiles := by first | exact .inl rfl | exact .inr rfl)
    (h_masks : Part.among .masks l = true ∨ masks = t.masks := by first | exact .inl rfl | exact .inr rfl)
    (h_page : Part.among .page l = true ∨ page = t.page := by first | exact .inl rfl | exact .inr rfl)
    (h_th : Part.among .th l = true ∨ th = t.th := by first | exact .inl rfl | exact .inr rfl)
    (h_sp : Part.among .sp l = true ∨ sp = t.sp := by first | exact .inl rfl | exact .inr rfl)
    (h_spr : Part.among .spr l = true ∨ spr = t.spr := by first | exact .inl rfl | exact .inr rfl)
    (h_press : Part.among .press l = true ∨ press = t.press := by first | exact .inl rfl | exact .inr rfl)
    (h_rst : Part.among .rst l = true ∨ rst = t.rst := by first | exact .inl rfl | exact .inr rfl)
    (h_flash : Part.among .flash l = true ∨ flash = t.flash := by first | exact .inl rfl | exact .inr rfl)
    (h_otp : Part.among .otp l = true ∨ otp = t.otp := by first | exact .inl rfl | exact .inr rfl)
    (h_mgt : Part.among .mgt l = true ∨ mgt = t.mgt := by first | exact .inl rfl | exact .inr rfl)
    (h_bg : Part.among .bg l = true ∨ bg = t.bg := by first | exact .inl rfl | exact .inr rfl)
    (h_nextId : Part.among .nextId l = true ∨ nextId = t.nextId := by first | exact .inl rfl | exact .inr rfl)
    (h_draws : Part.among .draws l = true ∨ draws = t.draws := by first | exact .inl rfl | exact .inr rfl) :
    Frame l s (State.mk t.pending t.clk tb glb link rings cnt routes telRoute execs waiting resuming parked gdma src quires reqs sos ports tiles masks page th sp spr press rst flash otp mgt bg t.out nextId draws) :=
  h.trans {
    pendingSame := rfl
    time := Nat.le_refl _
    sent := List.suffix_rfl
    mems := fun h => by simpa only [State.memoriesWf, hs, hr] using h
    clk := .inr rfl
    out := .inr rfl
    tb := h_tb
    glb := h_glb
    link := h_link
    rings := h_rings
    cnt := h_cnt
    routes := h_routes
    telRoute := h_telRoute
    execs := h_execs
    waiting := h_waiting
    resuming := h_resuming
    parked := h_parked
    gdma := h_gdma
    src := h_src
    quires := h_quires
    reqs := h_reqs
    sos := h_sos
    ports := h_ports
    tiles := h_tiles
    masks := h_masks
    page := h_page
    th := h_th
    sp := h_sp
    spr := h_spr
    press := h_press
    rst := h_rst
    flash := h_flash
    otp := h_otp
    mgt := h_mgt
    bg := h_bg
    nextId := h_nextId
    draws := h_draws }

/-- A change of the memories that keeps their canonical form. -/
theorem Frame.updMem {l : List Part} {s t : State} {page : PageStore} {mgt : Mgt} (h : Frame l s t)
    (hs : t.mgt.sram.wf = true → mgt.sram.wf = true)
    (hr : (t.page.regions.all fun r => r.2.mem.wf) = true → (page.regions.all fun r => r.2.mem.wf) = true)
    (hp : Part.among .page l = true ∨ page = t.page) (hm : Part.among .mgt l = true ∨ mgt = t.mgt) :
    Frame l s { t with page := page, mgt := mgt } :=
  h.trans {
    pendingSame := rfl
    time := Nat.le_refl _
    sent := List.suffix_rfl
    mems := fun h => by
      simp only [State.memoriesWf, Bool.and_eq_true] at h ⊢
      exact ⟨hs h.1, hr h.2⟩
    page := hp
    mgt := hm
    clk := .inr rfl
    tb := .inr rfl
    glb := .inr rfl
    link := .inr rfl
    rings := .inr rfl
    cnt := .inr rfl
    routes := .inr rfl
    telRoute := .inr rfl
    execs := .inr rfl
    waiting := .inr rfl
    resuming := .inr rfl
    parked := .inr rfl
    gdma := .inr rfl
    src := .inr rfl
    quires := .inr rfl
    reqs := .inr rfl
    sos := .inr rfl
    ports := .inr rfl
    tiles := .inr rfl
    masks := .inr rfl
    th := .inr rfl
    sp := .inr rfl
    spr := .inr rfl
    press := .inr rfl
    rst := .inr rfl
    flash := .inr rfl
    otp := .inr rfl
    bg := .inr rfl
    out := .inr rfl
    nextId := .inr rfl
    draws := .inr rfl }

/-- A region written keeps them all in canonical form. -/
theorem regions_set {k : Nat} {r : Region} (hr : r.mem.wf = true) : ∀ {l : List (Nat × Region)},
    (l.all fun r => r.2.mem.wf) = true → ((assocSet k r l).all fun r => r.2.mem.wf) = true
  | [], _ => by simp [assocSet, hr]
  | (j, b) :: l, h => by
    simp only [List.all_cons, Bool.and_eq_true] at h
    unfold assocSet
    split
    · simp [hr, h]
    · split
      · simp [hr, h]
      · simp [h.1, regions_set hr h.2]

/-- So does a region taken away. -/
theorem regions_del {k : Nat} {l : List (Nat × Region)} (h : (l.all fun r => r.2.mem.wf) = true) :
    ((assocDel k l).all fun r => r.2.mem.wf) = true := by
  simp only [List.all_eq_true, assocDel, List.mem_filter] at h ⊢
  exact fun x hx => h x hx.1

/-- A region that is found has its memory in canonical form. -/
theorem regions_get {k : Nat} {r : Region} : ∀ {l : List (Nat × Region)}, (l.all fun r => r.2.mem.wf) = true → assoc k l = some r →
    r.mem.wf = true
  | [], _, h => by simp [assoc] at h
  | (j, b) :: l, ha, h => by
    simp only [List.all_cons, Bool.and_eq_true] at ha
    unfold assoc at h
    split at h
    · cases h; exact ha.1
    · exact regions_get ha.2 h

/-- A new state with time, the queue and what has been sent as they were. -/
theorem Frame.anew {s t : State} (hp : t.pending = s.pending) (hc : t.clk = s.clk) (ho : t.out = s.out)
    (hm : s.memoriesWf = true → t.memoriesWf = true) : Frame Part.every s t where
  pendingSame := hp
  time := Nat.le_of_eq hc.symm
  sent := ho ▸ List.suffix_rfl
  mems := hm
  clk := .inl rfl
  tb := .inl rfl
  glb := .inl rfl
  link := .inl rfl
  rings := .inl rfl
  cnt := .inl rfl
  routes := .inl rfl
  telRoute := .inl rfl
  execs := .inl rfl
  waiting := .inl rfl
  resuming := .inl rfl
  parked := .inl rfl
  gdma := .inl rfl
  src := .inl rfl
  quires := .inl rfl
  reqs := .inl rfl
  sos := .inl rfl
  ports := .inl rfl
  tiles := .inl rfl
  masks := .inl rfl
  page := .inl rfl
  th := .inl rfl
  sp := .inl rfl
  spr := .inl rfl
  press := .inl rfl
  rst := .inl rfl
  flash := .inl rfl
  otp := .inl rfl
  mgt := .inl rfl
  bg := .inl rfl
  out := .inl rfl
  nextId := .inl rfl
  draws := .inl rfl

/-- Time runs on. -/
theorem Frame.later (s : State) (n : Nat) : Frame [.clk, .tb] s (s.advance n) where
  pendingSame := rfl
  time := Nat.le_add_right _ _
  sent := List.suffix_rfl
  mems := fun h => h
  clk := .inl rfl
  tb := .inl rfl
  glb := .inr rfl
  link := .inr rfl
  rings := .inr rfl
  cnt := .inr rfl
  routes := .inr rfl
  telRoute := .inr rfl
  execs := .inr rfl
  waiting := .inr rfl
  resuming := .inr rfl
  parked := .inr rfl
  gdma := .inr rfl
  src := .inr rfl
  quires := .inr rfl
  reqs := .inr rfl
  sos := .inr rfl
  ports := .inr rfl
  tiles := .inr rfl
  masks := .inr rfl
  page := .inr rfl
  th := .inr rfl
  sp := .inr rfl
  spr := .inr rfl
  press := .inr rfl
  rst := .inr rfl
  flash := .inr rfl
  otp := .inr rfl
  mgt := .inr rfl
  bg := .inr rfl
  out := .inr rfl
  nextId := .inr rfl
  draws := .inr rfl

/-- Something leaves the block. -/
theorem Frame.sends (s : State) (x : Out) : Frame [.out] s (s.emit x) where
  pendingSame := rfl
  time := Nat.le_refl _
  sent := List.suffix_cons _ _
  mems := fun h => h
  out := .inl rfl
  clk := .inr rfl
  tb := .inr rfl
  glb := .inr rfl
  link := .inr rfl
  rings := .inr rfl
  cnt := .inr rfl
  routes := .inr rfl
  telRoute := .inr rfl
  execs := .inr rfl
  waiting := .inr rfl
  resuming := .inr rfl
  parked := .inr rfl
  gdma := .inr rfl
  src := .inr rfl
  quires := .inr rfl
  reqs := .inr rfl
  sos := .inr rfl
  ports := .inr rfl
  tiles := .inr rfl
  masks := .inr rfl
  page := .inr rfl
  th := .inr rfl
  sp := .inr rfl
  spr := .inr rfl
  press := .inr rfl
  rst := .inr rfl
  flash := .inr rfl
  otp := .inr rfl
  mgt := .inr rfl
  bg := .inr rfl
  nextId := .inr rfl
  draws := .inr rfl

/-- One of two ways. -/
theorem Frame.ite {l : List Part} {s t u : State} {c : Prop} [Decidable c] (h : Frame l s t) (g : Frame l s u) :
    Frame l s (if c then t else u) := by split <;> assumption

/-- One after another. -/
theorem Frame.foldl {α : Type} {l : List Part} {s : State} {f : State → α → State} (g : ∀ t x, Frame l t (f t x)) :
    ∀ (xs : List α) (t : State), Frame l s t → Frame l s (xs.foldl f t)
  | [], _, h => h
  | x :: xs, t, h => Frame.foldl g xs (f t x) (h.trans (g t x))

/-- One after another, with a value carried beside the state. -/
theorem Frame.foldlFst {α β : Type} {l : List Part} {s : State} {f : State × β → α → State × β} (g : ∀ a x, Frame l a.1 (f a x).1) :
    ∀ (xs : List α) (a : State × β), Frame l s a.1 → Frame l s (xs.foldl f a).1
  | [], _, h => h
  | x :: xs, a, h => Frame.foldlFst g xs (f a x) (h.trans (g a x))

/-- For each of a fixed number. -/
theorem forAll_frame {n : Nat} {l : List Part} {s t : State} {f : State → Fin n → State} (h : Frame l s t) (g : ∀ t i, Frame l t (f t i)) :
    Frame l s (forAll t f) := Frame.foldl g _ _ h

/-- `t` with the parts of a list as they were in `s`. -/
def Part.back (l : List Part) (s t : State) : State := { t with
  clk := bif Part.among .clk l then s.clk else t.clk,
  tb := bif Part.among .tb l then s.tb else t.tb,
  glb := bif Part.among .glb l then s.glb else t.glb,
  link := bif Part.among .link l then s.link else t.link,
  rings := bif Part.among .rings l then s.rings else t.rings,
  cnt := bif Part.among .cnt l then s.cnt else t.cnt,
  routes := bif Part.among .routes l then s.routes else t.routes,
  telRoute := bif Part.among .telRoute l then s.telRoute else t.telRoute,
  execs := bif Part.among .execs l then s.execs else t.execs,
  waiting := bif Part.among .waiting l then s.waiting else t.waiting,
  resuming := bif Part.among .resuming l then s.resuming else t.resuming,
  parked := bif Part.among .parked l then s.parked else t.parked,
  gdma := bif Part.among .gdma l then s.gdma else t.gdma,
  src := bif Part.among .src l then s.src else t.src,
  quires := bif Part.among .quires l then s.quires else t.quires,
  reqs := bif Part.among .reqs l then s.reqs else t.reqs,
  sos := bif Part.among .sos l then s.sos else t.sos,
  ports := bif Part.among .ports l then s.ports else t.ports,
  tiles := bif Part.among .tiles l then s.tiles else t.tiles,
  masks := bif Part.among .masks l then s.masks else t.masks,
  page := bif Part.among .page l then s.page else t.page,
  th := bif Part.among .th l then s.th else t.th,
  sp := bif Part.among .sp l then s.sp else t.sp,
  spr := bif Part.among .spr l then s.spr else t.spr,
  press := bif Part.among .press l then s.press else t.press,
  rst := bif Part.among .rst l then s.rst else t.rst,
  flash := bif Part.among .flash l then s.flash else t.flash,
  otp := bif Part.among .otp l then s.otp else t.otp,
  mgt := bif Part.among .mgt l then s.mgt else t.mgt,
  bg := bif Part.among .bg l then s.bg else t.bg,
  out := bif Part.among .out l then s.out else t.out,
  nextId := bif Part.among .nextId l then s.nextId else t.nextId,
  draws := bif Part.among .draws l then s.draws else t.draws }

/-- With those parts put back, nothing has changed. -/
theorem Frame.back {l : List Part} {s t : State} (h : Frame l s t) : Part.back l s t = s := by
  have key : ∀ {α : Type} {b : Bool} {x y : α}, (b = true ∨ y = x) → (bif b then x else y) = x := by
    intro α b x y h
    cases b
    · exact h.resolve_left (by decide)
    · rfl
  cases s
  simp only [Part.back, State.mk.injEq]
  exact ⟨h.pendingSame, key h.clk, key h.tb, key h.glb, key h.link, key h.rings, key h.cnt, key h.routes, key h.telRoute, key h.execs, key h.waiting, key h.resuming, key h.parked, key h.gdma, key h.src, key h.quires, key h.reqs, key h.sos, key h.ports, key h.tiles, key h.masks, key h.page, key h.th, key h.sp, key h.spr, key h.press, key h.rst, key h.flash, key h.otp, key h.mgt, key h.bg, key h.out, key h.nextId, key h.draws⟩

end Sys2Proof.Machine
end

