-- ==== Sys2Proof/Laws/FrameOps.lean ====
section
/-! SUPPORT. One frame lemma for each operation that answers a state, of the named operations, the pins, the measurement windows, the trackers, the banks, the bands and the arbiter.
A lemma `x_frame` names the parts of the state that `x` may change; everything else it leaves as it was (`Frame`). -/

set_option Elab.async false

namespace Sys2Proof.Machine

/-! ### Ops -/

/-- What `State.advance` can change. -/
theorem State.advance_frame : ∀ s n, Frame [.clk, .tb] s (State.advance s n) := fun s n => Frame.later s n

/-- What `State.advanceTo` can change. -/
theorem State.advanceTo_frame : ∀ x0 x1, Frame [.clk, .tb] x0 (State.advanceTo x0 x1) := by
  intro x0 x1
  unfold State.advanceTo
  exact (State.advance_frame _ _).mono rfl

/-- What `State.modRing` can change. -/
theorem State.modRing_frame : ∀ x0 x1 x2, Frame [.rings] x0 (State.modRing x0 x1 x2) := by
  intro x0 x1 x2
  unfold State.modRing
  exact Frame.upd (Frame.refl _ _) rfl rfl

/-- What `State.modSrc` can change. -/
theorem State.modSrc_frame : ∀ x0 x1 x2, Frame [.src] x0 (State.modSrc x0 x1 x2) := by
  intro x0 x1 x2
  unfold State.modSrc
  exact Frame.upd (Frame.refl _ _) rfl rfl

/-- What `State.modQuire` can change. -/
theorem State.modQuire_frame : ∀ x0 x1 x2, Frame [.quires] x0 (State.modQuire x0 x1 x2) := by
  intro x0 x1 x2
  unfold State.modQuire
  exact Frame.upd (Frame.refl _ _) rfl rfl

/-- What `State.modPort` can change. -/
theorem State.modPort_frame : ∀ x0 x1 x2, Frame [.ports] x0 (State.modPort x0 x1 x2) := by
  intro x0 x1 x2
  unfold State.modPort
  exact Frame.upd (Frame.refl _ _) rfl rfl

/-- What `State.emit` can change. -/
theorem State.emit_frame : ∀ s o, Frame [.out] s (State.emit s o) := fun s o => Frame.sends s o

/-- What `sendMsix` can change. -/
theorem sendMsix_frame : ∀ x0 x1, Frame [.link, .cnt, .out] x0 (sendMsix x0 x1) := by
  intro x0 x1
  unfold sendMsix
  extract_lets +onlyGivenNames -underBinder y1
  try clear_value y1
  refine Frame.ite ?_ ?_
  · exact Frame.refl _ _
  · refine Frame.ite ?_ ?_
    · exact Frame.upd (Frame.refl _ _) rfl rfl
    · refine Frame.step ?_ (State.emit_frame _ _) (by rfl)
      exact Frame.upd (Frame.refl _ _) rfl rfl

/-- What `irqPorts` can change. -/
theorem irqPorts_frame : ∀ x0, Frame [.glb, .link, .cnt, .out] x0 (irqPorts x0) := by
  intro x0
  unfold irqPorts
  extract_lets +onlyGivenNames -underBinder y1
  try clear_value y1
  extract_lets +onlyGivenNames -underBinder y2
  try clear_value y2
  extract_lets +onlyGivenNames -underBinder y3
  try clear_value y3
  extract_lets +onlyGivenNames -underBinder y4
  have hy4 : Frame [.glb, .link, .cnt, .out] x0 y4 := Frame.upd (Frame.refl _ _) rfl rfl
  try clear_value y4
  refine Frame.ite ?_ ?_
  · assumption
  · exact Frame.step (by assumption) (sendMsix_frame _ _) (by rfl)

/-- What `setPwEvent` can change. -/
theorem setPwEvent_frame : ∀ x0 x1 x2, Frame [.glb, .link, .cnt, .ports, .out] x0 (setPwEvent x0 x1 x2) := by
  intro x0 x1 x2
  unfold setPwEvent
  exact Frame.step ((State.modPort_frame _ _ _).mono rfl) (irqPorts_frame _) (by rfl)

/-- What `ringIrq` can change. -/
theorem ringIrq_frame : ∀ x0 x1 x2, Frame [.link, .rings, .cnt, .out] x0 (ringIrq x0 x1 x2) := by
  intro x0 x1 x2
  unfold ringIrq
  extract_lets +onlyGivenNames -underBinder y1
  try clear_value y1
  refine Frame.ite ?_ ?_
  · exact Frame.refl _ _
  · refine Frame.ite ?_ ?_
    · exact Frame.step ((State.modRing_frame _ _ _).mono rfl) (sendMsix_frame _ _) (by rfl)
    · exact (State.modRing_frame _ _ _).mono rfl

/-- What `pushEntry` can change. -/
theorem pushEntry_frame : ∀ x0 x1 x2 x3, Frame [.link, .rings, .cnt, .parked, .out] x0 (pushEntry x0 x1 x2 x3) := by
  intro x0 x1 x2 x3
  unfold pushEntry
  extract_lets +onlyGivenNames -underBinder y1
  try clear_value y1
  refine Frame.ite ?_ ?_
  · exact Frame.refl _ _
  · refine Frame.ite ?_ ?_
    · exact Frame.upd (Frame.refl _ _) rfl rfl
    · refine Frame.ite ?_ ?_
      · exact (State.modRing_frame _ _ _).mono rfl
      · extract_lets +onlyGivenNames -underBinder y2
        try clear_value y2
        extract_lets +onlyGivenNames -underBinder y3
        have hy3 : Frame [.link, .rings, .cnt, .parked, .out] x0 y3 := (State.emit_frame _ _).mono rfl
        try clear_value y3
        extract_lets +onlyGivenNames -underBinder y4
        try clear_value y4
        extract_lets +onlyGivenNames -underBinder y5
        have hy5 : Frame [.link, .rings, .cnt, .parked, .out] x0 y5 := Frame.step (by assumption) (State.modRing_frame _ _ _) (by rfl)
        try clear_value y5
        exact Frame.step (by assumption) (ringIrq_frame _ _ _) (by rfl)

/-- What `haltRing` can change. -/
theorem haltRing_frame : ∀ x0 x1 x2, Frame [.rings] x0 (haltRing x0 x1 x2) := by
  intro x0 x1 x2
  unfold haltRing
  exact (State.modRing_frame _ _ _).mono rfl

/-- What `State.modYobor` can change. -/
theorem State.modYobor_frame : ∀ x0 x1 x2, Frame [.sp] x0 (State.modYobor x0 x1 x2) := by
  intro x0 x1 x2
  unfold State.modYobor
  split
  all_goals
    exact Frame.upd (Frame.refl _ _) rfl rfl

/-- What `takeSeq` can change. -/
theorem takeSeq_frame : ∀ x0 x1, Frame [.spr] x0 (takeSeq x0 x1).1 := by
  intro x0 x1
  unfold takeSeq
  exact Frame.upd (Frame.refl _ _) rfl rfl

/-- What `putCell` can change. -/
theorem putCell_frame : ∀ x0 x1 x2 x3, Frame [.sp, .out] x0 (putCell x0 x1 x2 x3) := by
  intro x0 x1 x2 x3
  unfold putCell
  refine Frame.ite ?_ ?_
  · exact (State.modYobor_frame _ _ _).mono rfl
  · exact (State.emit_frame _ _).mono rfl

/-- What `sendOne` can change. -/
theorem sendOne_frame : ∀ s sp typ dst b, Frame [.sp, .spr, .out] s (sendOne s sp typ dst b) := by
  intro s sp typ dst b
  unfold sendOne
  exact Frame.step ((takeSeq_frame s typ).mono rfl) (putCell_frame _ _ _ _) rfl

/-- What `flood` can change. -/
theorem flood_frame : ∀ s typ b, Frame [.spr, .out] s (flood s typ b) := by
  intro s typ b
  unfold flood
  refine Frame.foldl (fun _ _ => ?_) _ _ ((takeSeq_frame s typ).mono rfl)
  refine Frame.ite ?_ (Frame.refl _ _)
  exact (State.emit_frame _ _).mono rfl

/-- What `mgtSegs` can change. -/
theorem mgtSegs_frame : ∀ fuel n s sp dst kind ttag b, Frame [.sp, .spr, .out] s (mgtSegs fuel n s sp dst kind ttag b) := by
  intro fuel
  induction fuel with
  | zero => intros; exact Frame.refl _ _
  | succ m ih =>
    intros
    unfold mgtSegs
    refine Frame.ite (Frame.refl _ _) ?_
    exact Frame.trans (sendOne_frame _ _ _ _ _) (ih _ _ _ _ _ _ _)

/-- What `sendMgt` can change. -/
theorem sendMgt_frame : ∀ x0 x1 x2 x3 x4, Frame [.sp, .spr, .out] x0 (sendMgt x0 x1 x2 x3 x4) := by
  intro x0 x1 x2 x3 x4
  unfold sendMgt
  refine Frame.ite ?_ ?_
  · exact Frame.refl _ _
  · split
    · exact Frame.refl _ _
    · refine Frame.ite ?_ ?_
      · exact Frame.refl _ _
      · exact (mgtSegs_frame _ _ _ _ _ _ _ _).mono rfl

/-- What `writeEvent` can change. -/
theorem writeEvent_frame : ∀ x0 x1 x2 x3, Frame [.link, .rings, .cnt, .parked, .out] x0 (writeEvent x0 x1 x2 x3) := by
  intro x0 x1 x2 x3
  unfold writeEvent
  extract_lets +onlyGivenNames -underBinder y1
  try clear_value y1
  extract_lets +onlyGivenNames -underBinder y2
  try clear_value y2
  refine Frame.ite ?_ ?_
  · exact Frame.upd (Frame.refl _ _) rfl rfl
  · split
    · exact Frame.upd (Frame.refl _ _) rfl rfl
    · extract_lets +onlyGivenNames -underBinder y3
      try clear_value y3
      extract_lets +onlyGivenNames -underBinder y4
      have hy4 : Frame [.link, .rings, .cnt, .parked, .out] x0 y4 := (pushEntry_frame _ _ _ _).mono rfl
      try clear_value y4
      refine Frame.ite ?_ ?_
      · exact Frame.upd (by assumption) rfl rfl
      · assumption

/-- What `raise` can change. -/
theorem raise_frame : ∀ x0 x1 x2 x3 x4 x5, Frame [.link, .rings, .cnt, .parked, .sp, .spr, .out] x0 (raise x0 x1 x2 x3 x4 x5) := by
  intro x0 x1 x2 x3 x4 x5
  unfold raise
  extract_lets +onlyGivenNames -underBinder y1
  try clear_value y1
  extract_lets +onlyGivenNames -underBinder y2
  try clear_value y2
  extract_lets +onlyGivenNames -underBinder y3
  have hy3 : Frame [.link, .rings, .cnt, .parked, .sp, .spr, .out] x0 y3 := Frame.upd (Frame.refl _ _) rfl rfl
  try clear_value y3
  extract_lets +onlyGivenNames -underBinder y4
  have hy4 : Frame [.link, .rings, .cnt, .parked, .sp, .spr, .out] x0 y4 := Frame.step (by assumption) (writeEvent_frame _ _ _ _) (by rfl)
  try clear_value y4
  refine Frame.ite ?_ ?_
  · exact Frame.step (by assumption) (sendMgt_frame _ _ _ _ _) (by rfl)
  · assumption

/-- What `writeCpl` can change. -/
theorem writeCpl_frame : ∀ x0 x1 x2 x3 x4 x5 x6, Frame [.link, .rings, .cnt, .parked, .out] x0 (writeCpl x0 x1 x2 x3 x4 x5 x6) := by
  intro x0 x1 x2 x3 x4 x5 x6
  unfold writeCpl
  extract_lets +onlyGivenNames -underBinder y1
  try clear_value y1
  refine Frame.ite ?_ ?_
  · exact (pushEntry_frame _ _ _ _).mono rfl
  · exact Frame.refl _ _

/-- What `countCpl` can change. -/
theorem countCpl_frame : ∀ x0 x1, Frame [.cnt] x0 (countCpl x0 x1) := by
  intro x0 x1
  unfold countCpl
  exact Frame.upd (Frame.refl _ _) rfl rfl

/-- What `bcastAnswer` can change. -/
theorem bcastAnswer_frame : ∀ x0 x1 x2 x3 x4 x5, Frame [.link, .rings, .cnt, .parked, .spr, .out] x0 (bcastAnswer x0 x1 x2 x3 x4 x5) := by
  intro x0 x1 x2 x3 x4 x5
  unfold bcastAnswer
  split
  · extract_lets +onlyGivenNames -underBinder y1
    have hy1 : Frame [.link, .rings, .cnt, .parked, .spr, .out] x0 y1 := (writeCpl_frame _ _ _ _ _ _ _).mono rfl
    try clear_value y1
    split
    · assumption
    · extract_lets +onlyGivenNames -underBinder y2
      try clear_value y2
      extract_lets +onlyGivenNames -underBinder y3
      try clear_value y3
      extract_lets +onlyGivenNames -underBinder y4
      try clear_value y4
      extract_lets +onlyGivenNames -underBinder y5
      have hy5 : Frame [.link, .rings, .cnt, .parked, .spr, .out] x0 y5 := Frame.upd (by assumption) rfl rfl
      try clear_value y5
      refine Frame.ite ?_ ?_
      · exact Frame.step (by assumption) (writeCpl_frame _ _ _ _ _ _ _) (by rfl)
      · assumption
  · exact Frame.refl _ _
  · exact Frame.refl _ _
  · exact Frame.refl _ _

/-- What `complete` can change. -/
theorem complete_frame : ∀ x0 x1 x2 x3, Frame [.link, .rings, .cnt, .parked, .sp, .spr, .out] x0 (complete x0 x1 x2 x3) := by
  intro x0 x1 x2 x3
  unfold complete
  extract_lets +onlyGivenNames -underBinder y1
  have hy1 : Frame [.link, .rings, .cnt, .parked, .sp, .spr, .out] x0 y1 := (countCpl_frame _ _).mono rfl
  try clear_value y1
  split
  · refine Frame.ite ?_ ?_
    · exact Frame.step (by assumption) (bcastAnswer_frame _ _ _ _ _ _) (by rfl)
    · exact Frame.step (by assumption) (writeCpl_frame _ _ _ _ _ _ _) (by rfl)
  · exact Frame.step (by assumption) (sendMgt_frame _ _ _ _ _) (by rfl)
  · exact Frame.step (by assumption) (State.emit_frame _ _) (by rfl)
  · assumption

/-- What `refuse` can change. -/
theorem refuse_frame : ∀ x0 x1 x2, Frame [.link, .rings, .cnt, .parked, .sp, .spr, .out] x0 (refuse x0 x1 x2) := by
  intro x0 x1 x2
  unfold refuse
  extract_lets +onlyGivenNames -underBinder y1
  have hy1 : Frame [.link, .rings, .cnt, .parked, .sp, .spr, .out] x0 y1 := (complete_frame _ _ _ _).mono rfl
  try clear_value y1
  split
  · refine Frame.ite ?_ ?_
    · exact Frame.step (by assumption) (haltRing_frame _ _ _) (by rfl)
    · assumption
  · assumption
  · assumption
  · assumption

/-- What `command` can change. -/
theorem command_frame {l : List Part} (op : Nat) (h : CmdHdr) (p : Params) (s : State) (fields : List (Nat × Nat)) (checks : List (Bool × Nat))
    (dry act : State → State) (hl : Part.all l [.link, .rings, .cnt, .waiting, .parked, .sp, .spr, .out] = true) (hd : Frame l s (dry s)) (ha : Frame l s (act s)) :
    Frame l s (command op h p s fields checks dry act) := by
  unfold command
  refine Frame.ite (Frame.refl _ _) (Frame.ite ?_ (Frame.ite ?_ ?_))
  · have w : Frame [.waiting] s { s with waiting := s.waiting ++ [{ target := 0, op := op, h := h, p := p, cw := 0, bad := false }] } :=
      Frame.upd (Frame.refl _ _) rfl rfl
    exact w.mono (Part.all_trans hl rfl)
  · exact (refuse_frame _ _ _).mono (Part.all_trans hl rfl)
  · split
    · exact Frame.ite hd ha
    · exact (refuse_frame _ _ _).mono (Part.all_trans hl rfl)

/-- What `beginExec` can change. -/
theorem beginExec_frame : ∀ x0 x1 x2 x3 x4 x5, Frame [.execs, .nextId] x0 (beginExec x0 x1 x2 x3 x4 x5) := by
  intro x0 x1 x2 x3 x4 x5
  unfold beginExec
  exact Frame.upd (Frame.refl _ _) rfl rfl

/-- What `endExec` can change. -/
theorem endExec_frame : ∀ x0 x1 x2 x3, Frame [.link, .rings, .cnt, .execs, .parked, .sp, .spr, .out] x0 (endExec x0 x1 x2 x3) := by
  intro x0 x1 x2 x3
  unfold endExec
  refine Frame.step ?_ (complete_frame _ _ _ _) (by rfl)
  exact Frame.upd (Frame.refl _ _) rfl rfl

/-- What `endAll` can change. -/
theorem endAll_frame : ∀ x0 x1 x2 x3, Frame [.link, .rings, .cnt, .execs, .parked, .sp, .spr, .out] x0 (endAll x0 x1 x2 x3) := by
  intro x0 x1 x2 x3
  unfold endAll
  refine Frame.foldl (fun t1 _ => ?_) _ _ ?_
  · exact (endExec_frame _ _ _ _).mono rfl
  · exact Frame.refl _ _

/-- What `State.request` can change. -/
theorem State.request_frame : ∀ x0 x1, Frame [.parked, .out] x0 (State.request x0 x1) := by
  intro x0 x1
  unfold State.request
  refine Frame.ite ?_ ?_
  · exact Frame.upd (Frame.refl _ _) rfl rfl
  · refine Frame.foldl (fun t1 _ => ?_) _ _ ?_
    · exact (State.emit_frame _ _).mono rfl
    · exact Frame.refl _ _

/-- What `State.hostWrite` can change. -/
theorem State.hostWrite_frame : ∀ x0 x1 x2, Frame [.parked, .out] x0 (State.hostWrite x0 x1 x2) := by
  intro x0 x1 x2
  unfold State.hostWrite
  exact (State.request_frame _ _).mono rfl

/-- What `writeOut` can change. -/
theorem writeOut_frame : ∀ s h addr data, Frame [.parked, .sp, .spr, .mgt, .out] s (writeOut s h addr data) := by
  intro s h addr data
  unfold writeOut
  split
  · exact (State.hostWrite_frame _ _ _).mono rfl
  · refine Frame.foldlFst (fun _ _ => ?_) _ _ (Frame.refl _ _)
    exact Frame.step ((sendMgt_frame _ _ _ _ _).mono rfl) (sendMgt_frame _ _ _ _ _) (by rfl)
  · exact Frame.updMem (Frame.refl _ _) (Mem.write_wf _ _) id (.inr rfl) (.inl rfl)
  · exact Frame.refl _ _

/-- What `State.dmaRead` can change. -/
theorem State.dmaRead_frame : ∀ x0 x1 x2 x3 x4, Frame [.parked, .out] x0 (State.dmaRead x0 x1 x2 x3 x4) := by
  intro x0 x1 x2 x3 x4
  unfold State.dmaRead
  exact (State.request_frame _ _).mono rfl

/-- What `readIn` can change. -/
theorem readIn_frame : ∀ x0 x1 x2 x3 x4 x5, Frame [.parked, .sp, .spr, .out] x0 (readIn x0 x1 x2 x3 x4 x5) := by
  intro x0 x1 x2 x3 x4 x5
  unfold readIn
  split
  · exact (State.dmaRead_frame _ _ _ _ _).mono rfl
  · refine Frame.foldl (fun t1 _ => ?_) _ _ ?_
    · exact (sendMgt_frame _ _ _ _ _).mono rfl
    · exact Frame.refl _ _
  · exact Frame.refl _ _
  · exact Frame.refl _ _

/-- What `beginRead` can change. -/
theorem beginRead_frame : ∀ x0 x1 x2 x3 x4 x5 x6, Frame [.link, .rings, .cnt, .execs, .parked, .sp, .spr, .out, .nextId] x0 (beginRead x0 x1 x2 x3 x4 x5 x6) := by
  intro x0 x1 x2 x3 x4 x5 x6
  unfold beginRead
  refine Frame.ite ?_ ?_
  · exact (complete_frame _ _ _ _).mono rfl
  · exact Frame.step ((beginExec_frame _ _ _ _ _ _).mono rfl) (readIn_frame _ _ _ _ _ _) (by rfl)

/-- What `beginWrite` can change. -/
theorem beginWrite_frame : ∀ x0 x1 x2 x3 x4 x5, Frame [.execs, .parked, .sp, .spr, .mgt, .out, .nextId] x0 (beginWrite x0 x1 x2 x3 x4 x5) := by
  intro x0 x1 x2 x3 x4 x5
  unfold beginWrite
  extract_lets +onlyGivenNames -underBinder y1
  have hy1 : Frame [.execs, .parked, .sp, .spr, .mgt, .out, .nextId] x0 y1 := Frame.step ((beginExec_frame _ _ _ _ _ _).mono rfl) (writeOut_frame _ _ _ _) (by rfl)
  try clear_value y1
  exact Frame.upd (by assumption) rfl rfl

/-- What `State.draw` can change. -/
theorem State.draw_frame : ∀ x0, Frame [.draws] x0 (State.draw x0) := by
  intro x0
  unfold State.draw
  exact Frame.upd (Frame.refl _ _) rfl rfl

/-! ### Pins -/

/-- What `State.modCan` can change. -/
theorem State.modCan_frame : ∀ x0 x1 x2, Frame [.press] x0 (State.modCan x0 x1 x2) := by
  intro x0 x1 x2
  unfold State.modCan
  refine Frame.ite ?_ ?_
  all_goals
    exact Frame.upd (Frame.refl _ _) rfl rfl

/-- What `evtStop` can change. -/
theorem evtStop_frame : ∀ x0 x1 x2, Frame [.spr, .out] x0 (evtStop x0 x1 x2) := by
  intro x0 x1 x2
  unfold evtStop
  refine Frame.ite ?_ ?_
  · exact Frame.refl _ _
  · exact (flood_frame _ _ _).mono rfl

/-- What `faultEdge` can change. -/
theorem faultEdge_frame : ∀ x0, Frame [.spr, .out] x0 (faultEdge x0) := by
  intro x0
  unfold faultEdge
  extract_lets +onlyGivenNames -underBinder y1
  try clear_value y1
  refine Frame.ite ?_ ?_
  · exact Frame.refl _ _
  · extract_lets +onlyGivenNames -underBinder y2
    try clear_value y2
    extract_lets +onlyGivenNames -underBinder y3
    have hy3 : Frame [.spr, .out] x0 y3 := Frame.upd (Frame.refl _ _) rfl rfl
    try clear_value y3
    refine Frame.ite ?_ ?_
    · assumption
    · exact Frame.step (by assumption) (flood_frame _ _ _) (by rfl)

/-! ### Measure -/

/-- What `measure` can change. -/
theorem measure_frame : ∀ x0 x1 x2 x3, Frame [.mgt] x0 (measure x0 x1 x2 x3) := by
  intro x0 x1 x2 x3
  unfold measure
  extract_lets +onlyGivenNames -underBinder y1
  extract_lets +onlyGivenNames -underBinder y2
  try clear_value y2
  exact Frame.upd (Frame.refl _ _) rfl rfl

/-- What `measureData` can change. -/
theorem measureData_frame : ∀ x0 x1 x2 x3, Frame [.mgt] x0 (measureData x0 x1 x2 x3) := by
  intro x0 x1 x2 x3
  unfold measureData
  exact (measure_frame _ _ _ _).mono rfl

/-- What `measureLoad` can change. -/
theorem measureLoad_frame : ∀ x0 x1 x2 x3, Frame [.mgt] x0 (measureLoad x0 x1 x2 x3) := by
  intro x0 x1 x2 x3
  unfold measureLoad
  refine Frame.ite ?_ ?_
  · exact (measureData_frame _ _ _ _).mono rfl
  · refine Frame.ite ?_ ?_
    · exact (measureData_frame _ _ _ _).mono rfl
    · exact Frame.refl _ _

/-- What `mgtMeasW0Read` can change. -/
theorem mgtMeasW0Read_frame : ∀ x0 x1, Frame [.mgt, .out] x1 (mgtMeasW0Read x0 x1) := by
  intro x0 x1
  unfold mgtMeasW0Read
  extract_lets +onlyGivenNames -underBinder y1
  try clear_value y1
  refine Frame.step ?_ (State.emit_frame _ _) (by rfl)
  exact Frame.upd (Frame.refl _ _) rfl rfl

/-! ### Tracker -/

/-- What `holdNext` can change. -/
theorem holdNext_frame : ∀ x0 x1, Frame [.quires] x0 (holdNext x0 x1) := by
  intro x0 x1
  unfold holdNext
  exact (State.modQuire_frame _ _ _).mono rfl

/-! ### Banks -/

/-- What `State.modBanks` can change. -/
theorem State.modBanks_frame : ∀ x0 x1 x2, Frame [.ports] x0 (State.modBanks x0 x1 x2) := by
  intro x0 x1 x2
  unfold State.modBanks
  exact (State.modPort_frame _ _ _).mono rfl

/-- What `forgetDamage` can change. -/
theorem forgetDamage_frame : ∀ x0 x1, Frame [.bg] x0 (forgetDamage x0 x1) := by
  intro x0 x1
  unfold forgetDamage
  exact Frame.upd (Frame.refl _ _) rfl rfl

/-- What `applyShadow` can change. -/
theorem applyShadow_frame : ∀ x0 x1 x2 x3 x4, Frame [.ports] x0 (applyShadow x0 x1 x2 x3 x4) := by
  intro x0 x1 x2 x3 x4
  unfold applyShadow
  extract_lets +onlyGivenNames -underBinder y1
  try clear_value y1
  extract_lets +onlyGivenNames -underBinder y2
  have hy2 : Frame [.ports] x0 y2 := (State.modBanks_frame _ _ _).mono rfl
  try clear_value y2
  refine Frame.ite ?_ ?_
  · exact Frame.step (by assumption) (State.modPort_frame _ _ _) (by rfl)
  · assumption

/-- What `applyReg` can change. -/
theorem applyReg_frame : ∀ x0 x1 x2 x3, Frame [.ports] x0 (applyReg x0 x1 x2 x3) := by
  intro x0 x1 x2 x3
  unfold applyReg
  exact (State.modBanks_frame _ _ _).mono rfl

/-- What `shadowLoad` can change. -/
theorem shadowLoad_frame : ∀ x0 x1 x2 x3, Frame [.link, .rings, .cnt, .execs, .parked, .ports, .sp, .spr, .mgt, .out] x0 (shadowLoad x0 x1 x2 x3) := by
  intro x0 x1 x2 x3
  unfold shadowLoad
  refine Frame.ite ?_ ?_
  · extract_lets +onlyGivenNames -underBinder y1
    have hy1 : Frame [.link, .rings, .cnt, .execs, .parked, .ports, .sp, .spr, .mgt, .out] x0 y1 := (State.modBanks_frame _ _ _).mono rfl
    try clear_value y1
    exact Frame.upd (by assumption) rfl rfl
  · exact Frame.step (Frame.step ((applyShadow_frame _ _ _ _ _).mono rfl) (measureLoad_frame _ _ _ _) (by rfl)) (endExec_frame _ _ _ _) (by rfl)

/-- What `shadowNow` can change. -/
theorem shadowNow_frame : ∀ x0 x1 x2 x3 x4, Frame [.link, .rings, .cnt, .execs, .parked, .ports, .sp, .spr, .mgt, .out, .nextId] x0 (shadowNow x0 x1 x2 x3 x4) := by
  intro x0 x1 x2 x3 x4
  unfold shadowNow
  extract_lets +onlyGivenNames -underBinder y1
  have hy1 : Frame [.link, .rings, .cnt, .execs, .parked, .ports, .sp, .spr, .mgt, .out, .nextId] x0 y1 := (beginExec_frame _ _ _ _ _ _).mono rfl
  try clear_value y1
  split
  · exact Frame.step (by assumption) (shadowLoad_frame _ _ _ _) (by rfl)
  · assumption

/-- What `mapTransfer` can change. -/
theorem mapTransfer_frame : ∀ x0 x1 x2 x3 x4, Frame [.out] x0 (mapTransfer x0 x1 x2 x3 x4) := by
  intro x0 x1 x2 x3 x4
  unfold mapTransfer
  extract_lets +onlyGivenNames -underBinder y1
  try clear_value y1
  extract_lets +onlyGivenNames -underBinder y2
  try clear_value y2
  refine Frame.ite ?_ ?_
  · extract_lets +onlyGivenNames -underBinder y3
    try clear_value y3
    exact Frame.step ((State.emit_frame _ _).mono rfl) (State.emit_frame _ _) (by rfl)
  · refine Frame.foldlFst (fun t4 _ => ?_) _ _ ?_
    all_goals
      exact (State.emit_frame _ _).mono rfl

/-- What `sendMap` can change. -/
theorem sendMap_frame : ∀ x0 x1 x2, Frame [.ports, .out] x0 (sendMap x0 x1 x2) := by
  intro x0 x1 x2
  unfold sendMap
  extract_lets +onlyGivenNames -underBinder y1
  try clear_value y1
  split
  · exact Frame.refl _ _
  · extract_lets +onlyGivenNames -underBinder y2
    try clear_value y2
    extract_lets +onlyGivenNames -underBinder y3
    try clear_value y3
    extract_lets +onlyGivenNames -underBinder y4
    have hy4 : Frame [.ports, .out] x0 y4 := (State.modPort_frame _ _ _).mono rfl
    try clear_value y4
    refine Frame.ite ?_ ?_
    · assumption
    · exact Frame.step (by assumption) (mapTransfer_frame _ _ _ _ _) (by rfl)

/-- What `planWindow` can change. -/
theorem planWindow_frame : ∀ x0 x1 x2, Frame [.glb, .link, .rings, .cnt, .parked, .ports, .sp, .spr, .out] x0 (planWindow x0 x1 x2) := by
  intro x0 x1 x2
  unfold planWindow
  extract_lets +onlyGivenNames -underBinder y1
  try clear_value y1
  refine Frame.ite ?_ ?_
  · exact Frame.refl _ _
  · split
    · exact Frame.refl _ _
    · extract_lets +onlyGivenNames -underBinder y2
      try clear_value y2
      extract_lets +onlyGivenNames -underBinder y3
      try clear_value y3
      extract_lets +onlyGivenNames -underBinder y4
      have hy4 : Frame [.glb, .link, .rings, .cnt, .parked, .ports, .sp, .spr, .out] x0 y4 := (State.modPort_frame _ _ _).mono rfl
      try clear_value y4
      refine Frame.ite ?_ ?_
      · exact Frame.step (Frame.step (by assumption) (setPwEvent_frame _ _ _) (by rfl)) (raise_frame _ _ _ _ _ _) (by rfl)
      · assumption

/-- What `landHeld` can change. -/
theorem landHeld_frame : ∀ s p l, Frame [.link, .rings, .cnt, .execs, .parked, .ports, .sp, .spr, .mgt, .out] s (landHeld s p l) := by
  intro s p l
  induction l generalizing s with
  | nil => exact Frame.refl _ _
  | cons a t ih =>
    cases a with
    | reg off v => unfold landHeld; exact Frame.trans ((applyReg_frame _ _ _ _).mono rfl) (ih _)
    | cmd id =>
      unfold landHeld
      split
      · exact ih _
      · exact Frame.trans (Frame.step (Frame.step ((applyShadow_frame _ _ _ _ _).mono rfl) (measureLoad_frame _ _ _ _) rfl)
          (endExec_frame _ _ _ _) rfl) (ih _)

/-- What `landAll` can change. -/
theorem landAll_frame : ∀ x0 x1, Frame [.link, .rings, .cnt, .execs, .parked, .ports, .sp, .spr, .mgt, .out] x0 (landAll x0 x1) := by
  intro x0 x1
  unfold landAll
  split
  · exact Frame.refl _ _
  · refine Frame.ite ?_ ?_
    · exact Frame.refl _ _
    · extract_lets +onlyGivenNames -underBinder y1
      try clear_value y1
      exact Frame.step ((State.modBanks_frame _ _ _).mono rfl) (landHeld_frame _ _ _) (by rfl)

/-- What `copyShadow` can change. -/
theorem copyShadow_frame : ∀ x0 x1, Frame [.link, .rings, .cnt, .execs, .parked, .ports, .sp, .spr, .mgt, .out] x0 (copyShadow x0 x1) := by
  intro x0 x1
  unfold copyShadow
  split
  · exact Frame.refl _ _
  · extract_lets +onlyGivenNames -underBinder y1
    try clear_value y1
    extract_lets +onlyGivenNames -underBinder y2
    have hy2 : Frame [.link, .rings, .cnt, .execs, .parked, .ports, .sp, .spr, .mgt, .out] x0 y2 := (State.modPort_frame _ _ _).mono rfl
    try clear_value y2
    exact Frame.step (by assumption) (landAll_frame _ _) (by rfl)

/-- What `monChanged` can change. -/
theorem monChanged_frame : ∀ x0 x1 x2 x3 x4 x5 x6 x7, Frame [.glb, .link, .rings, .cnt, .parked, .ports, .sp, .spr, .out] x0 (monChanged x0 x1 x2 x3 x4 x5 x6 x7) := by
  intro x0 x1 x2 x3 x4 x5 x6 x7
  unfold monChanged
  refine Frame.ite ?_ ?_
  · exact Frame.refl _ _
  · extract_lets +onlyGivenNames -underBinder y1
    try clear_value y1
    extract_lets +onlyGivenNames -underBinder y2
    try clear_value y2
    extract_lets +onlyGivenNames -underBinder y3
    have hy3 : Frame [.glb, .link, .rings, .cnt, .parked, .ports, .sp, .spr, .out] x0 y3 := (State.modPort_frame _ _ _).mono rfl
    try clear_value y3
    exact Frame.step (Frame.step (by assumption) (setPwEvent_frame _ _ _) (by rfl)) (raise_frame _ _ _ _ _ _) (by rfl)

/-- What `monReset` can change. -/
theorem monReset_frame : ∀ x0 x1 x2 x3, Frame [.glb, .link, .rings, .cnt, .parked, .ports, .sp, .spr, .out] x0 (monReset x0 x1 x2 x3) := by
  intro x0 x1 x2 x3
  unfold monReset
  extract_lets +onlyGivenNames -underBinder y1
  try clear_value y1
  extract_lets +onlyGivenNames -underBinder y2
  try clear_value y2
  extract_lets +onlyGivenNames -underBinder y3
  try clear_value y3
  extract_lets +onlyGivenNames -underBinder y4
  try clear_value y4
  exact Frame.step ((State.modPort_frame _ _ _).mono rfl) (monChanged_frame _ _ _ _ _ _ _ _) (by rfl)

/-- What `swapBanks` can change. -/
theorem swapBanks_frame : ∀ x0 x1 x2 x3, Frame [.glb, .link, .rings, .cnt, .execs, .parked, .ports, .sp, .spr, .mgt, .bg, .out] x0 (swapBanks x0 x1 x2 x3) := by
  intro x0 x1 x2 x3
  unfold swapBanks
  split
  · exact Frame.refl _ _
  · extract_lets +onlyGivenNames -underBinder y1
    try clear_value y1
    extract_lets +onlyGivenNames -underBinder y2
    try clear_value y2
    extract_lets +onlyGivenNames -underBinder y3
    have hy3 : Frame [.glb, .link, .rings, .cnt, .execs, .parked, .ports, .sp, .spr, .mgt, .bg, .out] x0 y3 := by
      refine Frame.ite ?_ ?_
      · exact Frame.step (Frame.step ((sendMap_frame _ _ _).mono rfl) (sendMap_frame _ _ _) (by rfl)) (State.modPort_frame _ _ _) (by rfl)
      · exact Frame.refl _ _
    try clear_value y3
    extract_lets +onlyGivenNames -underBinder y4
    have hy4 : Frame [.glb, .link, .rings, .cnt, .execs, .parked, .ports, .sp, .spr, .mgt, .bg, .out] x0 y4 := Frame.step (by assumption) (State.modPort_frame _ _ _) (by rfl)
    try clear_value y4
    extract_lets +onlyGivenNames -underBinder y5
    have hy5 : Frame [.glb, .link, .rings, .cnt, .execs, .parked, .ports, .sp, .spr, .mgt, .bg, .out] x0 y5 := by
      refine Frame.step ?_ (planWindow_frame _ _ _) (by rfl)
      refine Frame.step ?_ (forgetDamage_frame _ _) (by rfl)
      refine Frame.foldl (fun t6 _ => ?_) _ _ ?_
      · exact (monReset_frame _ _ _ _).mono rfl
      · assumption
    try clear_value y5
    refine Frame.ite ?_ ?_
    · exact Frame.step (by assumption) (copyShadow_frame _ _) (by rfl)
    · assumption

/-- What `swapPort` can change. -/
theorem swapPort_frame : ∀ x0 x1 x2 x3, Frame [.glb, .link, .rings, .cnt, .execs, .parked, .ports, .sp, .spr, .mgt, .bg, .out] x0 (swapPort x0 x1 x2 x3) := by
  intro x0 x1 x2 x3
  unfold swapPort
  refine Frame.step ?_ (swapBanks_frame _ _ _ _) (by rfl)
  split
  · refine Frame.ite ?_ ?_
    · exact (copyShadow_frame _ _).mono rfl
    · exact Frame.refl _ _
  · exact Frame.refl _ _

/-- What `commitDone` can change. -/
theorem commitDone_frame : ∀ x0 x1 x2, Frame [.link, .rings, .cnt, .execs, .parked, .sp, .spr, .out] x0 (commitDone x0 x1 x2) := by
  intro x0 x1 x2
  unfold commitDone
  extract_lets +onlyGivenNames -underBinder y1
  try clear_value y1
  extract_lets +onlyGivenNames -underBinder y2
  have hy2 : Frame [.link, .rings, .cnt, .execs, .parked, .sp, .spr, .out] x0 y2 := Frame.upd (Frame.refl _ _) rfl rfl
  try clear_value y2
  refine Frame.foldl (fun t3 _ => ?_) _ _ ?_
  · split
    · exact (endExec_frame _ _ _ _).mono rfl
    · exact Frame.refl _ _
  · assumption

/-- What `commitFail` can change. -/
theorem commitFail_frame : ∀ x0 x1 x2, Frame [.link, .rings, .cnt, .execs, .parked, .ports, .sp, .spr, .mgt, .out] x0 (commitFail x0 x1 x2) := by
  intro x0 x1 x2
  unfold commitFail
  extract_lets +onlyGivenNames -underBinder y1
  try clear_value y1
  extract_lets +onlyGivenNames -underBinder y2
  try clear_value y2
  extract_lets +onlyGivenNames -underBinder y3
  try clear_value y3
  extract_lets +onlyGivenNames -underBinder y4
  have hy4 : Frame [.link, .rings, .cnt, .execs, .parked, .ports, .sp, .spr, .mgt, .out] x0 y4 := by
    refine forAll_frame ?_ (fun t5 _ => ?_)
    · exact Frame.refl _ _
    · refine Frame.ite ?_ ?_
      · exact Frame.step ((State.modBanks_frame _ _ _).mono rfl) (landAll_frame _ _) (by rfl)
      · exact Frame.refl _ _
  try clear_value y4
  refine Frame.foldl (fun t6 _ => ?_) _ _ ?_
  · split
    · exact (endExec_frame _ _ _ _).mono rfl
    · exact Frame.refl _ _
  · assumption

/-- What `swapSet` can change. -/
theorem swapSet_frame : ∀ x0 x1 x2 x3 x4, Frame [.glb, .link, .rings, .cnt, .execs, .parked, .ports, .sp, .spr, .mgt, .bg, .out] x0 (swapSet x0 x1 x2 x3 x4) := by
  intro x0 x1 x2 x3 x4
  unfold swapSet
  extract_lets +onlyGivenNames -underBinder y1
  try clear_value y1
  refine Frame.ite ?_ ?_
  · exact Frame.refl _ _
  · refine Frame.ite ?_ ?_
    · exact (commitFail_frame _ _ _).mono rfl
    · refine Frame.step ?_ (commitDone_frame _ _ _) (by rfl)
      refine Frame.foldl (fun t2 _ => ?_) _ _ ?_
      · exact (swapPort_frame _ _ _ _).mono rfl
      · exact Frame.refl _ _

/-- What `swapQuire` can change. -/
theorem swapQuire_frame : ∀ x0 x1 x2 x3, Frame [.glb, .link, .rings, .cnt, .execs, .parked, .ports, .sp, .spr, .mgt, .bg, .out] x0 (swapQuire x0 x1 x2 x3) := by
  intro x0 x1 x2 x3
  unfold swapQuire
  refine Frame.foldl (fun t1 _ => ?_) _ _ ?_
  · exact (swapSet_frame _ _ _ _ _).mono rfl
  · exact Frame.refl _ _

/-! ### Bands -/

/-- What `retireOne` can change. -/
theorem retireOne_frame : ∀ x0 x1 x2 x3 x4, Frame [.link, .rings, .cnt, .parked, .out] x0 (retireOne x0 x1 x2 x3 x4) := by
  intro x0 x1 x2 x3 x4
  unfold retireOne
  extract_lets +onlyGivenNames -underBinder y1
  try clear_value y1
  refine Frame.ite ?_ ?_
  · exact Frame.refl _ _
  · extract_lets +onlyGivenNames -underBinder y2
    have hy2 : Frame [.link, .rings, .cnt, .parked, .out] x0 y2 := by
      refine Frame.ite ?_ ?_
      · exact (writeCpl_frame _ _ _ _ _ _ _).mono rfl
      · exact Frame.refl _ _
    try clear_value y2
    refine Frame.ite ?_ ?_
    · assumption
    · exact Frame.step (by assumption) (State.modRing_frame _ _ _) (by rfl)

/-- What `retireList` can change. -/
theorem retireList_frame : ∀ s p n l, Frame [.link, .rings, .cnt, .parked, .out] s (retireList s p n l).1 := by
  intro s p n l
  induction l generalizing s with
  | nil => exact Frame.refl _ _
  | cons d ds ih =>
    unfold retireList
    split
    · exact ih s
    · split
      · exact Frame.refl _ _
      · split
        · exact Frame.trans ((retireOne_frame _ _ _ _ _).mono rfl) (ih _)
        · split
          · exact Frame.trans ((retireOne_frame _ _ _ _ _).mono rfl) (ih _)
          · exact Frame.refl _ _

/-- What `retireOwed` can change. -/
theorem retireOwed_frame : ∀ s p l, Frame [.link, .rings, .cnt, .parked, .out] s (retireOwed s p l).1 := by
  intro s p l
  induction l generalizing s with
  | nil => exact Frame.refl _ _
  | cons d ds ih =>
    unfold retireOwed
    split
    · exact Frame.refl _ _
    · exact Frame.trans ((retireOne_frame _ _ _ _ _).mono rfl) (ih _)

/-- What `retireReady` can change. -/
theorem retireReady_frame : ∀ s p, Frame [.link, .rings, .cnt, .parked, .ports, .out] s (retireReady s p) := by
  intro s p
  unfold retireReady
  extract_lets +onlyGivenNames -underBinder o t
  have ht : Frame [.link, .rings, .cnt, .parked, .ports, .out] s t :=
    Frame.step ((retireOwed_frame _ _ _).mono rfl) (State.modPort_frame _ _ _) rfl
  refine Frame.ite ht ?_
  exact Frame.step (Frame.step ht (retireList_frame _ _ _ _) rfl) (State.modPort_frame _ _ _) rfl

/-- What `purgePort` can change. -/
theorem purgePort_frame : ∀ x0 x1, Frame [.link, .rings, .cnt, .parked, .ports, .out] x0 (purgePort x0 x1) := by
  intro x0 x1
  unfold purgePort
  refine Frame.ite ?_ ?_
  · exact Frame.refl _ _
  · refine Frame.ite ?_ ?_
    · exact (State.modPort_frame _ _ _).mono rfl
    · extract_lets +onlyGivenNames -underBinder y1
      try clear_value y1
      extract_lets +onlyGivenNames -underBinder y2
      try clear_value y2
      extract_lets +onlyGivenNames -underBinder y3
      try clear_value y3
      extract_lets +onlyGivenNames -underBinder y4
      try clear_value y4
      extract_lets +onlyGivenNames -underBinder y5
      try clear_value y5
      exact Frame.step ((State.modPort_frame _ _ _).mono rfl) (retireReady_frame _ _) (by rfl)

/-! ### Arbiter -/

/-- What `liftGone` can change. -/
theorem liftGone_frame : ∀ x0 x1, Frame [.reqs] x0 (liftGone x0 x1) := by
  intro x0 x1
  unfold liftGone
  exact Frame.upd (Frame.refl _ _) rfl rfl

/-- What `addReq` can change. -/
theorem addReq_frame : ∀ x0 x1 x2 x3, Frame [.reqs] x0 (addReq x0 x1 x2 x3) := by
  intro x0 x1 x2 x3
  unfold addReq
  exact Frame.upd (Frame.refl _ _) rfl rfl

/-- What `withdraw` can change. -/
theorem withdraw_frame : ∀ x0 x1 x2, Frame [.reqs] x0 (withdraw x0 x1 x2) := by
  intro x0 x1 x2
  unfold withdraw
  refine Frame.ite ?_ ?_
  all_goals
    exact Frame.upd (Frame.refl _ _) rfl rfl

/-- What `sendWord` can change. -/
theorem sendWord_frame : ∀ x0 x1 x2 x3, Frame [.glb, .link, .cnt, .ports, .out] x0 (sendWord x0 x1 x2 x3) := by
  intro x0 x1 x2 x3
  unfold sendWord
  extract_lets +onlyGivenNames -underBinder y1
  try clear_value y1
  extract_lets +onlyGivenNames -underBinder y2
  try clear_value y2
  extract_lets +onlyGivenNames -underBinder y3
  have hy3 : Frame [.glb, .link, .cnt, .ports, .out] x0 y3 := (State.emit_frame _ _).mono rfl
  try clear_value y3
  extract_lets +onlyGivenNames -underBinder y4
  try clear_value y4
  extract_lets +onlyGivenNames -underBinder y5
  try clear_value y5
  extract_lets +onlyGivenNames -underBinder y6
  have hy6 : Frame [.glb, .link, .cnt, .ports, .out] x0 y6 := Frame.step (by assumption) (State.modPort_frame _ _ _) (by rfl)
  try clear_value y6
  refine Frame.ite ?_ ?_
  · exact Frame.step (by assumption) (setPwEvent_frame _ _ _) (by rfl)
  · assumption

/-- What `sendWords` can change. -/
theorem sendWords_frame : ∀ till latch p s l, Frame [.glb, .link, .cnt, .ports, .out] s (sendWords till latch p s l) := by
  intro till latch p s l
  induction l generalizing s with
  | nil => exact Frame.refl _ _
  | cons w t ih =>
    unfold sendWords
    exact Frame.ite (Frame.trans ((sendWord_frame _ _ _ _).mono rfl) (ih _)) (Frame.trans ((State.modPort_frame _ _ _).mono rfl) (ih _))

/-- What `flushWords` can change. -/
theorem flushWords_frame : ∀ x0 x1 x2 x3, Frame [.glb, .link, .cnt, .ports, .out] x0 (flushWords x0 x1 x2 x3) := by
  intro x0 x1 x2 x3
  unfold flushWords
  exact Frame.step ((State.modPort_frame _ _ _).mono rfl) (sendWords_frame _ _ _ _ _) (by rfl)

/-- What `headWord` can change. -/
theorem headWord_frame : ∀ x0 x1 x2 x3 x4 x5 x6, Frame [.glb, .link, .cnt, .ports, .out] x0 (headWord x0 x1 x2 x3 x4 x5 x6) := by
  intro x0 x1 x2 x3 x4 x5 x6
  unfold headWord
  extract_lets +onlyGivenNames -underBinder y1
  try clear_value y1
  exact Frame.step ((State.modPort_frame _ _ _).mono rfl) (flushWords_frame _ _ _ _) (by rfl)

/-- What `settleLine` can change. -/
theorem settleLine_frame : ∀ x0 x1 x2, Frame [.link, .rings, .cnt, .parked, .ports, .out] x0 (settleLine x0 x1 x2) := by
  intro x0 x1 x2
  unfold settleLine
  split
  · exact Frame.refl _ _
  · extract_lets +onlyGivenNames -underBinder y1
    have hy1 : Frame [.link, .rings, .cnt, .parked, .ports, .out] x0 y1 := (State.modPort_frame _ _ _).mono rfl
    try clear_value y1
    exact Frame.step (by assumption) (retireReady_frame _ _) (by rfl)

/-- What `decideOne` can change. -/
theorem decideOne_frame : ∀ x0 x1 x2, Frame [.glb, .link, .rings, .cnt, .parked, .quires, .ports, .out] x0 (decideOne x0 x1 x2) := by
  intro x0 x1 x2
  unfold decideOne
  extract_lets +onlyGivenNames -underBinder y1
  try clear_value y1
  extract_lets +onlyGivenNames -underBinder y2
  try clear_value y2
  extract_lets +onlyGivenNames -underBinder y3
  try clear_value y3
  extract_lets +onlyGivenNames -underBinder y4
  try clear_value y4
  extract_lets +onlyGivenNames -underBinder y5
  have hy5 : Frame [.glb, .link, .rings, .cnt, .parked, .quires, .ports, .out] x0 y5 := (State.modPort_frame _ _ _).mono rfl
  try clear_value y5
  extract_lets +onlyGivenNames -underBinder y6
  have hy6 : Frame [.glb, .link, .rings, .cnt, .parked, .quires, .ports, .out] x0 y6 := by
    refine Frame.ite ?_ ?_
    · refine Frame.foldl (fun t7 _ => ?_) _ _ ?_
      · exact (headWord_frame _ _ _ _ _ _ _).mono rfl
      · assumption
    · assumption
  try clear_value y6
  extract_lets +onlyGivenNames -underBinder y8
  have hy8 : Frame [.glb, .link, .rings, .cnt, .parked, .quires, .ports, .out] x0 y8 := by
    refine Frame.ite ?_ ?_
    · assumption
    · split
      · assumption
      · extract_lets +onlyGivenNames -underBinder y9
        try clear_value y9
        extract_lets +onlyGivenNames -underBinder y10
        have hy10 : Frame [.glb, .link, .rings, .cnt, .parked, .quires, .ports, .out] x0 y10 := Frame.step (by assumption) (State.modQuire_frame _ _ _) (by rfl)
        try clear_value y10
        extract_lets +onlyGivenNames -underBinder y11
        have hy11 : Frame [.glb, .link, .rings, .cnt, .parked, .quires, .ports, .out] x0 y11 := by
          refine Frame.ite ?_ ?_
          · exact Frame.step (by assumption) (State.modPort_frame _ _ _) (by rfl)
          · assumption
        try clear_value y11
        extract_lets +onlyGivenNames -underBinder y12
        have hy12 : Frame [.glb, .link, .rings, .cnt, .parked, .quires, .ports, .out] x0 y12 := by
          refine Frame.ite ?_ ?_
          · exact Frame.step (by assumption) (setPwEvent_frame _ _ _) (by rfl)
          · assumption
        try clear_value y12
        exact Frame.step (by assumption) (settleLine_frame _ _ _) (by rfl)
  try clear_value y8
  exact Frame.step (by assumption) (State.modPort_frame _ _ _) (by rfl)

/-- What `decidePast` can change. -/
theorem decidePast_frame : ∀ x0 x1, Frame [.glb, .link, .rings, .cnt, .parked, .quires, .ports, .out] x0 (decidePast x0 x1) := by
  intro x0 x1
  unfold decidePast
  refine Frame.foldl (fun t1 _ => ?_) _ _ ?_
  · exact (decideOne_frame _ _ _).mono rfl
  · exact Frame.refl _ _

/-- What `endEpisode` can change. -/
theorem endEpisode_frame : ∀ x0 x1, Frame [.glb, .link, .rings, .cnt, .parked, .ports, .sp, .spr, .out] x0 (endEpisode x0 x1) := by
  intro x0 x1
  unfold endEpisode
  split
  · exact Frame.refl _ _
  · extract_lets +onlyGivenNames -underBinder y1
    have hy1 : Frame [.glb, .link, .rings, .cnt, .parked, .ports, .sp, .spr, .out] x0 y1 := (State.modPort_frame _ _ _).mono rfl
    try clear_value y1
    refine Frame.ite ?_ ?_
    · assumption
    · exact Frame.step (Frame.step (by assumption) (setPwEvent_frame _ _ _) (by rfl)) (raise_frame _ _ _ _ _ _) (by rfl)

/-- What `stateChanged` can change. -/
theorem stateChanged_frame : ∀ x0 x1 x2 x3 x4, Frame [.glb, .link, .rings, .cnt, .parked, .ports, .sp, .spr, .out] x0 (stateChanged x0 x1 x2 x3 x4) := by
  intro x0 x1 x2 x3 x4
  unfold stateChanged
  extract_lets +onlyGivenNames -underBinder y1
  try clear_value y1
  exact Frame.step ((setPwEvent_frame _ _ _).mono rfl) (raise_frame _ _ _ _ _ _) (by rfl)

/-- What `portTo` can change. -/
theorem portTo_frame : ∀ x0 x1 x2 x3, Frame [.glb, .link, .rings, .cnt, .parked, .ports, .sp, .spr, .out] x0 (portTo x0 x1 x2 x3) := by
  intro x0 x1 x2 x3
  unfold portTo
  extract_lets +onlyGivenNames -underBinder y1
  try clear_value y1
  refine Frame.ite ?_ ?_
  · exact Frame.refl _ _
  · exact Frame.step ((State.modPort_frame _ _ _).mono rfl) (stateChanged_frame _ _ _ _ _) (by rfl)

/-- What `drainPorts` can change. -/
theorem drainPorts_frame : ∀ x0 x1, Frame [.glb, .link, .rings, .cnt, .parked, .ports, .sp, .spr, .out] x0 (drainPorts x0 x1) := by
  intro x0 x1
  unfold drainPorts
  refine Frame.foldl (fun t1 _ => ?_) _ _ ?_
  · refine Frame.ite ?_ ?_
    · exact Frame.step ((endEpisode_frame _ _).mono rfl) (portTo_frame _ _ _ _) (by rfl)
    · exact (endEpisode_frame _ _).mono rfl
  · exact Frame.refl _ _

/-- What `stopWith` can change. -/
theorem stopWith_frame : ∀ x0 x1 x2, Frame [.glb, .link, .rings, .cnt, .execs, .parked, .quires, .ports, .sp, .spr, .mgt, .bg, .out] x0 (stopWith x0 x1 x2) := by
  intro x0 x1 x2
  unfold stopWith
  extract_lets +onlyGivenNames -underBinder y1
  try clear_value y1
  refine Frame.ite ?_ ?_
  · extract_lets +onlyGivenNames -underBinder y2
    have hy2 : Frame [.glb, .link, .rings, .cnt, .execs, .parked, .quires, .ports, .sp, .spr, .mgt, .bg, .out] x0 y2 := by
      refine Frame.foldl (fun t3 _ => ?_) _ _ ?_
      · exact (decidePast_frame _ _).mono rfl
      · exact Frame.refl _ _
    try clear_value y2
    extract_lets +onlyGivenNames -underBinder y4
    have hy4 : Frame [.glb, .link, .rings, .cnt, .execs, .parked, .quires, .ports, .sp, .spr, .mgt, .bg, .out] x0 y4 := Frame.step (by assumption) (swapQuire_frame _ _ _ _) (by rfl)
    try clear_value y4
    extract_lets +onlyGivenNames -underBinder y5
    try clear_value y5
    extract_lets +onlyGivenNames -underBinder y6
    try clear_value y6
    exact Frame.step (Frame.step (by assumption) (drainPorts_frame _ _) (by rfl)) (State.modQuire_frame _ _ _) (by rfl)
  · refine Frame.ite ?_ ?_
    · exact (State.modQuire_frame _ _ _).mono rfl
    · exact Frame.refl _ _

/-- What `stopQuire` can change. -/
theorem stopQuire_frame : ∀ x0 x1 x2, Frame [.glb, .link, .rings, .cnt, .execs, .parked, .quires, .ports, .sp, .spr, .mgt, .bg, .out] x0 (stopQuire x0 x1 x2) := by
  intro x0 x1 x2
  unfold stopQuire
  exact (stopWith_frame _ _ _).mono rfl

/-- What `stopPortFor` can change. -/
theorem stopPortFor_frame : ∀ x0 x1 x2 x3, Frame [.glb, .link, .rings, .cnt, .execs, .parked, .quires, .ports, .sp, .spr, .mgt, .bg, .out] x0 (stopPortFor x0 x1 x2 x3) := by
  intro x0 x1 x2 x3
  unfold stopPortFor
  split
  · exact Frame.refl _ _
  · refine Frame.ite ?_ ?_
    · extract_lets +onlyGivenNames -underBinder y1
      have hy1 : Frame [.glb, .link, .rings, .cnt, .execs, .parked, .quires, .ports, .sp, .spr, .mgt, .bg, .out] x0 y1 := Frame.step ((decidePast_frame _ _).mono rfl) (endEpisode_frame _ _) (by rfl)
      try clear_value y1
      extract_lets +onlyGivenNames -underBinder y2
      try clear_value y2
      extract_lets +onlyGivenNames -underBinder y3
      have hy3 : Frame [.glb, .link, .rings, .cnt, .execs, .parked, .quires, .ports, .sp, .spr, .mgt, .bg, .out] x0 y3 := by
        refine Frame.ite ?_ ?_
        · exact Frame.step (by assumption) (State.modPort_frame _ _ _) (by rfl)
        · exact Frame.step (by assumption) (portTo_frame _ _ _ _) (by rfl)
      try clear_value y3
      refine Frame.ite ?_ ?_
      · exact Frame.step (Frame.step (by assumption) (stopQuire_frame _ _ _) (by rfl)) (State.modQuire_frame _ _ _) (by rfl)
      · exact Frame.step (by assumption) (State.modQuire_frame _ _ _) (by rfl)
    · exact Frame.refl _ _

/-- What `stopPort` can change. -/
theorem stopPort_frame : ∀ x0 x1 x2, Frame [.glb, .link, .rings, .cnt, .execs, .parked, .quires, .ports, .sp, .spr, .mgt, .bg, .out] x0 (stopPort x0 x1 x2) := by
  intro x0 x1 x2
  unfold stopPort
  exact (stopPortFor_frame _ _ _ _).mono rfl

/-- What `stopAll` can change. -/
theorem stopAll_frame : ∀ x0 x1, Frame [.glb, .link, .rings, .cnt, .execs, .parked, .quires, .ports, .sp, .spr, .mgt, .bg, .out] x0 (stopAll x0 x1) := by
  intro x0 x1
  unfold stopAll
  refine forAll_frame ?_ (fun t1 _ => ?_)
  · exact Frame.refl _ _
  · exact (stopQuire_frame _ _ _).mono rfl

/-- What `request` can change. -/
theorem request_frame : ∀ x0 x1 x2 x3, Frame [.glb, .link, .rings, .cnt, .execs, .parked, .quires, .reqs, .ports, .sp, .spr, .mgt, .bg, .out] x0 (request x0 x1 x2 x3) := by
  intro x0 x1 x2 x3
  unfold request
  split
  · exact (stopQuire_frame _ _ _).mono rfl
  · exact (stopPort_frame _ _ _).mono rfl
  · refine Frame.step ?_ (addReq_frame _ _ _ _) (by rfl)
    refine forAll_frame ?_ (fun t1 _ => ?_)
    · exact Frame.refl _ _
    · refine Frame.ite ?_ ?_
      · exact (decidePast_frame _ _).mono rfl
      · exact Frame.refl _ _
  · refine Frame.step ?_ (addReq_frame _ _ _ _) (by rfl)
    refine forAll_frame ?_ (fun t2 _ => ?_)
    · exact Frame.refl _ _
    · refine Frame.ite ?_ ?_
      · exact (decidePast_frame _ _).mono rfl
      · exact Frame.refl _ _

/-- What `leaveJob` can change. -/
theorem leaveJob_frame : ∀ x0 x1 x2, Frame [.link, .rings, .cnt, .parked, .ports, .out] x0 (leaveJob x0 x1 x2) := by
  intro x0 x1 x2
  unfold leaveJob
  refine Frame.ite ?_ ?_
  · exact (purgePort_frame _ _).mono rfl
  · exact Frame.step ((State.modPort_frame _ _ _).mono rfl) (retireReady_frame _ _) (by rfl)

/-- What `heaterOff` can change. -/
theorem heaterOff_frame : ∀ x0 x1, Frame [.ports, .out] x0 (heaterOff x0 x1) := by
  intro x0 x1
  unfold heaterOff
  extract_lets +onlyGivenNames -underBinder y1
  have hy1 : Frame [.ports, .out] x0 y1 := (State.modPort_frame _ _ _).mono rfl
  try clear_value y1
  refine Frame.ite ?_ ?_
  · assumption
  · exact Frame.step (by assumption) (State.emit_frame _ _) (by rfl)

/-- What `abortLearn` can change. -/
theorem abortLearn_frame : ∀ x0 x1, Frame [.link, .rings, .cnt, .execs, .parked, .ports, .sp, .spr, .out] x0 (abortLearn x0 x1) := by
  intro x0 x1
  unfold abortLearn
  extract_lets +onlyGivenNames -underBinder y1
  have hy1 : Frame [.link, .rings, .cnt, .execs, .parked, .ports, .sp, .spr, .out] x0 y1 := by
    unfold y1
    split
    · exact Frame.refl _ _
    · exact (endAll_frame _ _ _ _).mono rfl
  try clear_value y1
  extract_lets +onlyGivenNames -underBinder y2
  have hy2 : Frame [.link, .rings, .cnt, .execs, .parked, .ports, .sp, .spr, .out] x0 y2 := by
    refine Frame.ite ?_ ?_
    · exact Frame.step (by assumption) (endAll_frame _ _ _ _) (by rfl)
    · assumption
  try clear_value y2
  exact Frame.step (by assumption) (State.modPort_frame _ _ _) (by rfl)

/-- What `liveControl` can change. -/
theorem liveControl_frame : ∀ x0 x1, Frame [.ports, .out] x0 (liveControl x0 x1) := by
  intro x0 x1
  unfold liveControl
  split
  · exact Frame.refl _ _
  · extract_lets +onlyGivenNames -underBinder y1
    have hy1 : Frame [.ports, .out] x0 y1 := (State.modPort_frame _ _ _).mono rfl
    try clear_value y1
    refine Frame.ite ?_ ?_
    · exact Frame.step (by assumption) (heaterOff_frame _ _) (by rfl)
    · assumption

/-- What `portFault` can change. -/
theorem portFault_frame : ∀ x0 x1 x2, Frame [.glb, .link, .rings, .cnt, .execs, .parked, .quires, .ports, .sp, .spr, .mgt, .bg, .out] x0 (portFault x0 x1 x2) := by
  intro x0 x1 x2
  unfold portFault
  extract_lets +onlyGivenNames -underBinder y1
  try clear_value y1
  split
  · exact Frame.refl _ _
  · exact Frame.refl _ _
  · exact Frame.refl _ _
  · extract_lets +onlyGivenNames -underBinder y2
    have hy2 : Frame [.glb, .link, .rings, .cnt, .execs, .parked, .quires, .ports, .sp, .spr, .mgt, .bg, .out] x0 y2 := (stopPortFor_frame _ _ _ _).mono rfl
    try clear_value y2
    extract_lets +onlyGivenNames -underBinder y3
    have hy3 : Frame [.glb, .link, .rings, .cnt, .execs, .parked, .quires, .ports, .sp, .spr, .mgt, .bg, .out] x0 y3 := Frame.step (Frame.step (Frame.step (Frame.step (by assumption) (liveControl_frame _ _) (by rfl)) (heaterOff_frame _ _) (by rfl)) (abortLearn_frame _ _) (by rfl)) (leaveJob_frame _ _ _) (by rfl)
    try clear_value y3
    extract_lets +onlyGivenNames -underBinder y4
    have hy4 : Frame [.glb, .link, .rings, .cnt, .execs, .parked, .quires, .ports, .sp, .spr, .mgt, .bg, .out] x0 y4 := Frame.step (Frame.step (by assumption) (flushWords_frame _ _ _ _) (by rfl)) (State.modPort_frame _ _ _) (by rfl)
    try clear_value y4
    exact Frame.step (Frame.step (by assumption) (faultEdge_frame _) (by rfl)) (stateChanged_frame _ _ _ _ _) (by rfl)
  · extract_lets +onlyGivenNames -underBinder y5
    have hy5 : Frame [.glb, .link, .rings, .cnt, .execs, .parked, .quires, .ports, .sp, .spr, .mgt, .bg, .out] x0 y5 := (stopPortFor_frame _ _ _ _).mono rfl
    try clear_value y5
    extract_lets +onlyGivenNames -underBinder y6
    have hy6 : Frame [.glb, .link, .rings, .cnt, .execs, .parked, .quires, .ports, .sp, .spr, .mgt, .bg, .out] x0 y6 := Frame.step (Frame.step (Frame.step (Frame.step (by assumption) (liveControl_frame _ _) (by rfl)) (heaterOff_frame _ _) (by rfl)) (abortLearn_frame _ _) (by rfl)) (leaveJob_frame _ _ _) (by rfl)
    try clear_value y6
    extract_lets +onlyGivenNames -underBinder y7
    have hy7 : Frame [.glb, .link, .rings, .cnt, .execs, .parked, .quires, .ports, .sp, .spr, .mgt, .bg, .out] x0 y7 := Frame.step (Frame.step (by assumption) (flushWords_frame _ _ _ _) (by rfl)) (State.modPort_frame _ _ _) (by rfl)
    try clear_value y7
    exact Frame.step (Frame.step (by assumption) (faultEdge_frame _) (by rfl)) (stateChanged_frame _ _ _ _ _) (by rfl)
  · extract_lets +onlyGivenNames -underBinder y8
    have hy8 : Frame [.glb, .link, .rings, .cnt, .execs, .parked, .quires, .ports, .sp, .spr, .mgt, .bg, .out] x0 y8 := (stopPortFor_frame _ _ _ _).mono rfl
    try clear_value y8
    extract_lets +onlyGivenNames -underBinder y9
    have hy9 : Frame [.glb, .link, .rings, .cnt, .execs, .parked, .quires, .ports, .sp, .spr, .mgt, .bg, .out] x0 y9 := Frame.step (Frame.step (Frame.step (Frame.step (by assumption) (liveControl_frame _ _) (by rfl)) (heaterOff_frame _ _) (by rfl)) (abortLearn_frame _ _) (by rfl)) (leaveJob_frame _ _ _) (by rfl)
    try clear_value y9
    extract_lets +onlyGivenNames -underBinder y10
    have hy10 : Frame [.glb, .link, .rings, .cnt, .execs, .parked, .quires, .ports, .sp, .spr, .mgt, .bg, .out] x0 y10 := Frame.step (Frame.step (by assumption) (flushWords_frame _ _ _ _) (by rfl)) (State.modPort_frame _ _ _) (by rfl)
    try clear_value y10
    exact Frame.step (Frame.step (by assumption) (faultEdge_frame _) (by rfl)) (stateChanged_frame _ _ _ _ _) (by rfl)
  · extract_lets +onlyGivenNames -underBinder y11
    have hy11 : Frame [.glb, .link, .rings, .cnt, .execs, .parked, .quires, .ports, .sp, .spr, .mgt, .bg, .out] x0 y11 := (stopPortFor_frame _ _ _ _).mono rfl
    try clear_value y11
    extract_lets +onlyGivenNames -underBinder y12
    have hy12 : Frame [.glb, .link, .rings, .cnt, .execs, .parked, .quires, .ports, .sp, .spr, .mgt, .bg, .out] x0 y12 := Frame.step (Frame.step (Frame.step (Frame.step (by assumption) (liveControl_frame _ _) (by rfl)) (heaterOff_frame _ _) (by rfl)) (abortLearn_frame _ _) (by rfl)) (leaveJob_frame _ _ _) (by rfl)
    try clear_value y12
    extract_lets +onlyGivenNames -underBinder y13
    have hy13 : Frame [.glb, .link, .rings, .cnt, .execs, .parked, .quires, .ports, .sp, .spr, .mgt, .bg, .out] x0 y13 := Frame.step (Frame.step (by assumption) (flushWords_frame _ _ _ _) (by rfl)) (State.modPort_frame _ _ _) (by rfl)
    try clear_value y13
    exact Frame.step (Frame.step (by assumption) (faultEdge_frame _) (by rfl)) (stateChanged_frame _ _ _ _ _) (by rfl)

/-- What `lateStartEvent` can change. -/
theorem lateStartEvent_frame : ∀ x0 x1 x2 x3 x4 x5, Frame [.link, .rings, .cnt, .parked, .quires, .sp, .spr, .out] x0 (lateStartEvent x0 x1 x2 x3 x4 x5) := by
  intro x0 x1 x2 x3 x4 x5
  unfold lateStartEvent
  extract_lets +onlyGivenNames -underBinder y1
  have hy1 : Frame [.link, .rings, .cnt, .parked, .quires, .sp, .spr, .out] x0 y1 := (State.modQuire_frame _ _ _).mono rfl
  try clear_value y1
  exact Frame.step (by assumption) (raise_frame _ _ _ _ _ _) (by rfl)

/-- What `skipLines` can change. -/
theorem skipLines_frame : ∀ x0 x1 x2, Frame [.link, .rings, .cnt, .parked, .quires, .ports, .out] x0 (skipLines x0 x1 x2) := by
  intro x0 x1 x2
  unfold skipLines
  extract_lets +onlyGivenNames -underBinder y1
  try clear_value y1
  extract_lets +onlyGivenNames -underBinder y2
  have hy2 : Frame [.link, .rings, .cnt, .parked, .quires, .ports, .out] x0 y2 := (State.modQuire_frame _ _ _).mono rfl
  try clear_value y2
  refine Frame.foldl (fun t3 _ => ?_) _ _ ?_
  · exact Frame.step ((State.modPort_frame _ _ _).mono rfl) (retireReady_frame _ _) (by rfl)
  · assumption

/-- What `aimFirst` can change. -/
theorem aimFirst_frame : ∀ x0 x1, Frame [.ports] x0 (aimFirst x0 x1) := by
  intro x0 x1
  unfold aimFirst
  extract_lets +onlyGivenNames -underBinder y1
  try clear_value y1
  extract_lets +onlyGivenNames -underBinder y2
  try clear_value y2
  refine Frame.foldl (fun t3 _ => ?_) _ _ ?_
  · exact (State.modPort_frame _ _ _).mono rfl
  · exact Frame.refl _ _

/-- What `startLate` can change. -/
theorem startLate_frame : ∀ x0 x1 x2, Frame [.link, .rings, .cnt, .parked, .quires, .ports, .out] x0 (startLate x0 x1 x2) := by
  intro x0 x1 x2
  unfold startLate
  exact Frame.step ((skipLines_frame _ _ _).mono rfl) (State.modQuire_frame _ _ _) (by rfl)

/-- What `openGate` can change. -/
theorem openGate_frame : ∀ x0 x1, Frame [.glb, .link, .rings, .cnt, .execs, .parked, .quires, .ports, .sp, .spr, .mgt, .bg, .out] x0 (openGate x0 x1) := by
  intro x0 x1
  unfold openGate
  extract_lets +onlyGivenNames -underBinder y1
  try clear_value y1
  extract_lets +onlyGivenNames -underBinder y2
  try clear_value y2
  extract_lets +onlyGivenNames -underBinder y3
  have hy3 : Frame [.glb, .link, .rings, .cnt, .execs, .parked, .quires, .ports, .sp, .spr, .mgt, .bg, .out] x0 y3 := (State.modQuire_frame _ _ _).mono rfl
  try clear_value y3
  refine Frame.ite ?_ ?_
  · exact Frame.step (by assumption) (aimFirst_frame _ _) (by rfl)
  · refine Frame.ite ?_ ?_
    · exact Frame.step (Frame.step (by assumption) (startLate_frame _ _ _) (by rfl)) (lateStartEvent_frame _ _ _ _ _ _) (by rfl)
    · exact Frame.step (Frame.step (by assumption) (lateStartEvent_frame _ _ _ _ _ _) (by rfl)) (stopQuire_frame _ _ _) (by rfl)

/-- What `openFree` can change. -/
theorem openFree_frame : ∀ x0 x1, Frame [.glb, .link, .rings, .cnt, .execs, .parked, .quires, .ports, .sp, .spr, .mgt, .bg, .out] x0 (openFree x0 x1) := by
  intro x0 x1
  unfold openFree
  extract_lets +onlyGivenNames -underBinder y1
  try clear_value y1
  refine Frame.ite ?_ ?_
  · exact (openGate_frame _ _).mono rfl
  · exact Frame.refl _ _

/-- What `sendCodes` can change. -/
theorem sendCodes_frame : ∀ x0 x1 x2 x3, Frame [.out] x0 (sendCodes x0 x1 x2 x3) := by
  intro x0 x1 x2 x3
  unfold sendCodes
  extract_lets +onlyGivenNames -underBinder y1
  try clear_value y1
  refine Frame.step ?_ (State.emit_frame _ _) (by rfl)
  refine Frame.ite ?_ ?_
  · exact (State.emit_frame _ _).mono rfl
  · exact Frame.refl _ _

/-- What `streamLine` can change. -/
theorem streamLine_frame : ∀ x0 x1 x2 x3 x4 x5, Frame [.glb, .link, .rings, .cnt, .parked, .ports, .sp, .spr, .out] x0 (streamLine x0 x1 x2 x3 x4 x5) := by
  intro x0 x1 x2 x3 x4 x5
  unfold streamLine
  extract_lets +onlyGivenNames -underBinder y1
  try clear_value y1
  extract_lets +onlyGivenNames -underBinder y2
  try clear_value y2
  split
  · exact Frame.refl _ _
  · extract_lets +onlyGivenNames -underBinder y3
    try clear_value y3
    extract_lets +onlyGivenNames -underBinder y4
    try clear_value y4
    extract_lets +onlyGivenNames -underBinder y5
    try clear_value y5
    extract_lets +onlyGivenNames -underBinder y6
    try clear_value y6
    extract_lets +onlyGivenNames -underBinder y7
    try clear_value y7
    extract_lets +onlyGivenNames -underBinder y8
    have hy8 : Frame [.glb, .link, .rings, .cnt, .parked, .ports, .sp, .spr, .out] x0 y8 := by
      refine Frame.foldl (fun t9 _ => ?_) _ _ ?_
      · exact Frame.step ((setPwEvent_frame _ _ _).mono rfl) (raise_frame _ _ _ _ _ _) (by rfl)
      · exact Frame.refl _ _
    try clear_value y8
    extract_lets +onlyGivenNames -underBinder y10
    have hy10 : Frame [.glb, .link, .rings, .cnt, .parked, .ports, .sp, .spr, .out] x0 y10 := Frame.step (by assumption) (State.modPort_frame _ _ _) (by rfl)
    try clear_value y10
    exact Frame.step (by assumption) (sendCodes_frame _ _ _ _) (by rfl)

/-- What `streamFirst` can change. -/
theorem streamFirst_frame : ∀ x0 x1 x2 x3, Frame [.glb, .link, .rings, .cnt, .parked, .ports, .sp, .spr, .out] x0 (streamFirst x0 x1 x2 x3) := by
  intro x0 x1 x2 x3
  unfold streamFirst
  exact Frame.step ((State.modPort_frame _ _ _).mono rfl) (streamLine_frame _ _ _ _ _ _) (by rfl)

/-- What `streamFlyleaf` can change. -/
theorem streamFlyleaf_frame : ∀ x0 x1, Frame [.glb, .link, .rings, .cnt, .parked, .ports, .sp, .spr, .out] x0 (streamFlyleaf x0 x1) := by
  intro x0 x1
  unfold streamFlyleaf
  refine Frame.ite ?_ ?_
  · exact Frame.refl _ _
  · refine Frame.foldl (fun t1 _ => ?_) _ _ ?_
    · exact (streamFirst_frame _ _ _ _).mono rfl
    · exact Frame.refl _ _

/-- What `swathOver` can change. -/
theorem swathOver_frame : ∀ x0 x1, Frame [.glb, .link, .rings, .cnt, .execs, .parked, .quires, .ports, .sp, .spr, .mgt, .bg, .out] x0 (swathOver x0 x1) := by
  intro x0 x1
  unfold swathOver
  extract_lets +onlyGivenNames -underBinder y1
  try clear_value y1
  extract_lets +onlyGivenNames -underBinder y2
  have hy2 : Frame [.glb, .link, .rings, .cnt, .execs, .parked, .quires, .ports, .sp, .spr, .mgt, .bg, .out] x0 y2 := (State.modQuire_frame _ _ _).mono rfl
  try clear_value y2
  extract_lets +onlyGivenNames -underBinder y3
  try clear_value y3
  extract_lets +onlyGivenNames -underBinder y4
  try clear_value y4
  extract_lets +onlyGivenNames -underBinder y5
  try clear_value y5
  extract_lets +onlyGivenNames -underBinder y6
  try clear_value y6
  refine Frame.ite ?_ ?_
  · exact Frame.step (by assumption) (stopWith_frame _ _ _) (by rfl)
  · extract_lets +onlyGivenNames -underBinder y7
    try clear_value y7
    extract_lets +onlyGivenNames -underBinder y8
    have hy8 : Frame [.glb, .link, .rings, .cnt, .execs, .parked, .quires, .ports, .sp, .spr, .mgt, .bg, .out] x0 y8 := Frame.step (by assumption) (State.modQuire_frame _ _ _) (by rfl)
    try clear_value y8
    refine Frame.step ?_ (streamFlyleaf_frame _ _) (by rfl)
    refine Frame.foldl (fun t9 _ => ?_) _ _ ?_
    · exact (State.modPort_frame _ _ _).mono rfl
    · assumption

/-- What `truncate` can change. -/
theorem truncate_frame : ∀ x0 x1, Frame [.glb, .link, .rings, .cnt, .execs, .parked, .quires, .ports, .sp, .spr, .mgt, .bg, .out] x0 (truncate x0 x1) := by
  intro x0 x1
  unfold truncate
  extract_lets +onlyGivenNames -underBinder y1
  try clear_value y1
  split
  · exact Frame.refl _ _
  · extract_lets +onlyGivenNames -underBinder y2
    have hy2 : Frame [.glb, .link, .rings, .cnt, .execs, .parked, .quires, .ports, .sp, .spr, .mgt, .bg, .out] x0 y2 := (State.modQuire_frame _ _ _).mono rfl
    try clear_value y2
    refine Frame.ite ?_ ?_
    · exact Frame.step (by assumption) (stopQuire_frame _ _ _) (by rfl)
    · extract_lets +onlyGivenNames -underBinder y3
      have hy3 : Frame [.glb, .link, .rings, .cnt, .execs, .parked, .quires, .ports, .sp, .spr, .mgt, .bg, .out] x0 y3 := Frame.step (by assumption) (State.modQuire_frame _ _ _) (by rfl)
      try clear_value y3
      extract_lets +onlyGivenNames -underBinder y4
      have hy4 : Frame [.glb, .link, .rings, .cnt, .execs, .parked, .quires, .ports, .sp, .spr, .mgt, .bg, .out] x0 y4 := by
        refine Frame.foldl (fun t5 _ => ?_) _ _ ?_
        · exact Frame.step ((State.modPort_frame _ _ _).mono rfl) (retireReady_frame _ _) (by rfl)
        · assumption
      try clear_value y4
      exact Frame.step (by assumption) (swathOver_frame _ _) (by rfl)

/-- What `quireReversed` can change. -/
theorem quireReversed_frame : ∀ x0 x1, Frame [.glb, .link, .rings, .cnt, .execs, .parked, .quires, .ports, .sp, .spr, .mgt, .bg, .out] x0 (quireReversed x0 x1) := by
  intro x0 x1
  unfold quireReversed
  extract_lets +onlyGivenNames -underBinder y1
  try clear_value y1
  refine Frame.ite ?_ ?_
  · refine Frame.ite ?_ ?_
    · exact (State.modQuire_frame _ _ _).mono rfl
    · exact Frame.refl _ _
  · extract_lets +onlyGivenNames -underBinder y2
    have hy2 : Frame [.glb, .link, .rings, .cnt, .execs, .parked, .quires, .ports, .sp, .spr, .mgt, .bg, .out] x0 y2 := by
      refine Frame.ite ?_ ?_
      · exact (truncate_frame _ _).mono rfl
      · exact Frame.refl _ _
    try clear_value y2
    exact Frame.step (by assumption) (openFree_frame _ _) (by rfl)

/-- What `quireResumes` can change. -/
theorem quireResumes_frame : ∀ x0 x1, Frame [.quires] x0 (quireResumes x0 x1) := by
  intro x0 x1
  unfold quireResumes
  exact (State.modQuire_frame _ _ _).mono rfl

/-- What `consumeMark` can change. -/
theorem consumeMark_frame : ∀ x0 x1 x2 x3, Frame [.ports] x0 (consumeMark x0 x1 x2 x3) := by
  intro x0 x1 x2 x3
  unfold consumeMark
  extract_lets +onlyGivenNames -underBinder y1
  try clear_value y1
  split
  · exact Frame.refl _ _
  · refine Frame.ite ?_ ?_
    · exact (State.modPort_frame _ _ _).mono rfl
    · exact Frame.refl _ _

/-- What `afterLine` can change. -/
theorem afterLine_frame : ∀ x0 x1 x2, Frame [.glb, .link, .rings, .cnt, .execs, .parked, .quires, .ports, .sp, .spr, .mgt, .bg, .out] x0 (afterLine x0 x1 x2) := by
  intro x0 x1 x2
  unfold afterLine
  split
  · exact Frame.refl _ _
  · extract_lets +onlyGivenNames -underBinder y1
    try clear_value y1
    refine Frame.ite ?_ ?_
    · exact Frame.refl _ _
    · extract_lets +onlyGivenNames -underBinder y2
      have hy2 : Frame [.glb, .link, .rings, .cnt, .execs, .parked, .quires, .ports, .sp, .spr, .mgt, .bg, .out] x0 y2 := by
        refine Frame.ite ?_ ?_
        · exact (State.modQuire_frame _ _ _).mono rfl
        · exact Frame.refl _ _
      try clear_value y2
      extract_lets +onlyGivenNames -underBinder y3
      try clear_value y3
      extract_lets +onlyGivenNames -underBinder y4
      have hy4 : Frame [.glb, .link, .rings, .cnt, .execs, .parked, .quires, .ports, .sp, .spr, .mgt, .bg, .out] x0 y4 := Frame.step (by assumption) (consumeMark_frame _ _ _ _) (by rfl)
      try clear_value y4
      extract_lets +onlyGivenNames -underBinder y5
      try clear_value y5
      refine Frame.ite ?_ ?_
      · exact Frame.step (by assumption) (swathOver_frame _ _) (by rfl)
      · extract_lets +onlyGivenNames -underBinder y6
        try clear_value y6
        extract_lets +onlyGivenNames -underBinder y7
        try clear_value y7
        refine Frame.ite ?_ ?_
        · assumption
        · exact Frame.step (by assumption) (stopWith_frame _ _ _) (by rfl)

/-- What `decideNext` can change. -/
theorem decideNext_frame : ∀ x0 x1, Frame [.glb, .link, .rings, .cnt, .execs, .parked, .quires, .ports, .sp, .spr, .mgt, .bg, .out] x0 (decideNext x0 x1) := by
  intro x0 x1
  unfold decideNext
  split
  · exact Frame.refl _ _
  · exact Frame.step ((decideOne_frame _ _ _).mono rfl) (afterLine_frame _ _ _) (by rfl)

/-- What `portIdle` can change. -/
theorem portIdle_frame : ∀ x0 x1 x2, Frame [.glb, .link, .rings, .cnt, .parked, .ports, .sp, .spr, .out] x0 (portIdle x0 x1 x2) := by
  intro x0 x1 x2
  unfold portIdle
  refine Frame.ite ?_ ?_
  · extract_lets +onlyGivenNames -underBinder y1
    have hy1 : Frame [.glb, .link, .rings, .cnt, .parked, .ports, .sp, .spr, .out] x0 y1 := Frame.step ((flushWords_frame _ _ _ _).mono rfl) (liveControl_frame _ _) (by rfl)
    try clear_value y1
    exact Frame.step (Frame.step (Frame.step (by assumption) (leaveJob_frame _ _ _) (by rfl)) (State.modPort_frame _ _ _) (by rfl)) (portTo_frame _ _ _ _) (by rfl)
  · exact Frame.refl _ _

/-- What `jobCommandsDone` can change. -/
theorem jobCommandsDone_frame : ∀ x0 x1, Frame [.link, .rings, .cnt, .execs, .parked, .sp, .spr, .out] x0 (jobCommandsDone x0 x1) := by
  intro x0 x1
  unfold jobCommandsDone
  extract_lets +onlyGivenNames -underBinder y1
  try clear_value y1
  extract_lets +onlyGivenNames -underBinder y2
  try clear_value y2
  refine Frame.foldl (fun t3 _ => ?_) _ _ ?_
  · extract_lets +onlyGivenNames -underBinder y4
    try clear_value y4
    exact (endExec_frame _ _ _ _).mono rfl
  · exact Frame.refl _ _

/-- What `quireLeaves` can change. -/
theorem quireLeaves_frame : ∀ x0 x1, Frame [.glb, .link, .rings, .cnt, .execs, .parked, .quires, .ports, .sp, .spr, .out] x0 (quireLeaves x0 x1) := by
  intro x0 x1
  unfold quireLeaves
  extract_lets +onlyGivenNames -underBinder y1
  try clear_value y1
  extract_lets +onlyGivenNames -underBinder y2
  have hy2 : Frame [.glb, .link, .rings, .cnt, .execs, .parked, .quires, .ports, .sp, .spr, .out] x0 y2 := by
    refine Frame.foldl (fun t3 _ => ?_) _ _ ?_
    · exact (portIdle_frame _ _ _).mono rfl
    · exact Frame.refl _ _
  try clear_value y2
  extract_lets +onlyGivenNames -underBinder y4
  have hy4 : Frame [.glb, .link, .rings, .cnt, .execs, .parked, .quires, .ports, .sp, .spr, .out] x0 y4 := by
    refine Frame.ite ?_ ?_
    · refine Frame.foldl (fun t5 _ => ?_) _ _ ?_
      · exact (purgePort_frame _ _).mono rfl
      · assumption
    · assumption
  try clear_value y4
  extract_lets +onlyGivenNames -underBinder y6
  try clear_value y6
  extract_lets +onlyGivenNames -underBinder y7
  have hy7 : Frame [.glb, .link, .rings, .cnt, .execs, .parked, .quires, .ports, .sp, .spr, .out] x0 y7 := Frame.step (by assumption) (State.modQuire_frame _ _ _) (by rfl)
  try clear_value y7
  exact Frame.step (Frame.step (by assumption) (faultEdge_frame _) (by rfl)) (jobCommandsDone_frame _ _) (by rfl)

end Sys2Proof.Machine
end

