-- ==== Sys2Proof/Laws/FrameFire.lean ====
section
/-! SUPPORT. One frame lemma for each operation that answers a state, of the nozzle monitor, the taps, the screen and firing.
A lemma `x_frame` names the parts of the state that `x` may change; everything else it leaves as it was (`Frame`). -/

set_option Elab.async false

namespace Sys2Proof.Machine

/-! ### Monitor -/

/-- What `chooseProbe` can change. -/
theorem chooseProbe_frame : ∀ x0 x1 x2, Frame [.glb, .link, .cnt, .ports, .out] x0 (chooseProbe x0 x1 x2) := by
  intro x0 x1 x2
  unfold chooseProbe
  extract_lets +onlyGivenNames -underBinder y1
  try clear_value y1
  split
  · split
    · refine Frame.ite ?_ ?_
      · extract_lets +onlyGivenNames -underBinder y2
        try clear_value y2
        extract_lets +onlyGivenNames -underBinder y3
        have hy3 : Frame [.glb, .link, .cnt, .ports, .out] x0 y3 := (State.modPort_frame _ _ _).mono rfl
        try clear_value y3
        split
        · assumption
        · exact Frame.step (Frame.step (by assumption) (State.modPort_frame _ _ _) (by rfl)) (headWord_frame _ _ _ _ _ _ _) (by rfl)
      · exact Frame.refl _ _
    · exact Frame.refl _ _
    · exact Frame.refl _ _
  · exact Frame.refl _ _

/-- What `endLearn` can change. -/
theorem endLearn_frame : ∀ x0 x1 x2 x3, Frame [.link, .rings, .cnt, .execs, .parked, .ports, .sp, .spr, .out] x0 (endLearn x0 x1 x2 x3) := by
  intro x0 x1 x2 x3
  unfold endLearn
  exact Frame.step ((State.modPort_frame _ _ _).mono rfl) (endAll_frame _ _ _ _) (by rfl)

/-- What `learnProbe` can change. -/
theorem learnProbe_frame : ∀ x0 x1 x2 x3 x4 x5, Frame [.link, .rings, .cnt, .execs, .parked, .ports, .sp, .spr, .out] x0 (learnProbe x0 x1 x2 x3 x4 x5) := by
  intro x0 x1 x2 x3 x4 x5
  unfold learnProbe
  extract_lets +onlyGivenNames -underBinder y1
  try clear_value y1
  split
  · exact Frame.refl _ _
  · refine Frame.ite ?_ ?_
    · exact Frame.refl _ _
    · extract_lets +onlyGivenNames -underBinder y2
      try clear_value y2
      extract_lets +onlyGivenNames -underBinder y3
      try clear_value y3
      extract_lets +onlyGivenNames -underBinder y4
      try clear_value y4
      refine Frame.ite ?_ ?_
      · exact Frame.refl _ _
      · extract_lets +onlyGivenNames -underBinder y5
        try clear_value y5
        extract_lets +onlyGivenNames -underBinder y6
        try clear_value y6
        extract_lets +onlyGivenNames -underBinder y7
        try clear_value y7
        extract_lets +onlyGivenNames -underBinder y8
        try clear_value y8
        extract_lets +onlyGivenNames -underBinder y9
        try clear_value y9
        extract_lets +onlyGivenNames -underBinder y10
        have hy10 : Frame [.link, .rings, .cnt, .execs, .parked, .ports, .sp, .spr, .out] x0 y10 := (State.modPort_frame _ _ _).mono rfl
        try clear_value y10
        refine Frame.ite ?_ ?_
        · exact Frame.step (by assumption) (endLearn_frame _ _ _ _) (by rfl)
        · assumption

/-- What `captureEnd` can change. -/
theorem captureEnd_frame : ∀ x0 x1 x2 x3 x4 x5, Frame [.clk, .tb, .glb, .link, .rings, .cnt, .execs, .parked, .ports, .sp, .spr, .out] x0 (captureEnd x0 x1 x2 x3 x4 x5) := by
  intro x0 x1 x2 x3 x4 x5
  unfold captureEnd
  extract_lets +onlyGivenNames -underBinder y1
  have hy1 : Frame [.clk, .tb, .glb, .link, .rings, .cnt, .execs, .parked, .ports, .sp, .spr, .out] x0 y1 := (State.advanceTo_frame _ _).mono rfl
  try clear_value y1
  extract_lets +onlyGivenNames -underBinder y2
  try clear_value y2
  extract_lets +onlyGivenNames -underBinder y3
  have hy3 : Frame [.clk, .tb, .glb, .link, .rings, .cnt, .execs, .parked, .ports, .sp, .spr, .out] x0 y3 := Frame.step (by assumption) (State.modPort_frame _ _ _) (by rfl)
  try clear_value y3
  extract_lets +onlyGivenNames -underBinder y4
  try clear_value y4
  extract_lets +onlyGivenNames -underBinder y5
  try clear_value y5
  extract_lets +onlyGivenNames -underBinder y6
  try clear_value y6
  extract_lets +onlyGivenNames -underBinder y7
  try clear_value y7
  extract_lets +onlyGivenNames -underBinder y8
  try clear_value y8
  extract_lets +onlyGivenNames -underBinder y9
  try clear_value y9
  extract_lets +onlyGivenNames -underBinder y10
  try clear_value y10
  extract_lets +onlyGivenNames -underBinder y11
  try clear_value y11
  extract_lets +onlyGivenNames -underBinder y12
  try clear_value y12
  extract_lets +onlyGivenNames -underBinder y13
  try clear_value y13
  refine Frame.ite ?_ ?_
  · exact Frame.step (by assumption) (State.modPort_frame _ _ _) (by rfl)
  · extract_lets +onlyGivenNames -underBinder y14
    try clear_value y14
    extract_lets +onlyGivenNames -underBinder y15
    try clear_value y15
    extract_lets +onlyGivenNames -underBinder y16
    try clear_value y16
    extract_lets +onlyGivenNames -underBinder y17
    have hy17 : Frame [.clk, .tb, .glb, .link, .rings, .cnt, .execs, .parked, .ports, .sp, .spr, .out] x0 y17 := Frame.step (Frame.step (by assumption) (State.modPort_frame _ _ _) (by rfl)) (learnProbe_frame _ _ _ _ _ _) (by rfl)
    try clear_value y17
    extract_lets +onlyGivenNames -underBinder y18
    have hy18 : Frame [.clk, .tb, .glb, .link, .rings, .cnt, .execs, .parked, .ports, .sp, .spr, .out] x0 y18 := by
      unfold y18
      split
      · assumption
      · refine Frame.ite ?_ ?_
        · assumption
        · extract_lets +onlyGivenNames -underBinder y19
          try clear_value y19
          extract_lets +onlyGivenNames -underBinder y20
          try clear_value y20
          extract_lets +onlyGivenNames -underBinder y21
          try clear_value y21
          extract_lets +onlyGivenNames -underBinder y22
          try clear_value y22
          extract_lets +onlyGivenNames -underBinder y23
          try clear_value y23
          exact Frame.step (Frame.step (by assumption) (State.modPort_frame _ _ _) (by rfl)) (monChanged_frame _ _ _ _ _ _ _ _) (by rfl)
    try clear_value y18
    exact Frame.step (by assumption) (State.modPort_frame _ _ _) (by rfl)

/-- What `restartNozzle` can change. -/
theorem restartNozzle_frame : ∀ x0 x1 x2 x3, Frame [.glb, .link, .rings, .cnt, .parked, .ports, .sp, .spr, .out] x0 (restartNozzle x0 x1 x2 x3) := by
  intro x0 x1 x2 x3
  unfold restartNozzle
  extract_lets +onlyGivenNames -underBinder y1
  try clear_value y1
  refine Frame.ite ?_ ?_
  · exact (State.modPort_frame _ _ _).mono rfl
  · exact (monReset_frame _ _ _ _).mono rfl

/-- What `applyRvsCfg` can change. -/
theorem applyRvsCfg_frame : ∀ x0 x1 x2 x3, Frame [.glb, .link, .rings, .cnt, .parked, .ports, .sp, .spr, .out] x0 (applyRvsCfg x0 x1 x2 x3) := by
  intro x0 x1 x2 x3
  unfold applyRvsCfg
  extract_lets +onlyGivenNames -underBinder y1
  try clear_value y1
  extract_lets +onlyGivenNames -underBinder y2
  have hy2 : Frame [.glb, .link, .rings, .cnt, .parked, .ports, .sp, .spr, .out] x0 y2 := (State.modPort_frame _ _ _).mono rfl
  try clear_value y2
  extract_lets +onlyGivenNames -underBinder y3
  try clear_value y3
  extract_lets +onlyGivenNames -underBinder y4
  have hy4 : Frame [.glb, .link, .rings, .cnt, .parked, .ports, .sp, .spr, .out] x0 y4 := Frame.step (by assumption) (State.modPort_frame _ _ _) (by rfl)
  try clear_value y4
  extract_lets +onlyGivenNames -underBinder y5
  have hy5 : Frame [.glb, .link, .rings, .cnt, .parked, .ports, .sp, .spr, .out] x0 y5 := by
    refine Frame.ite ?_ ?_
    · refine Frame.foldl (fun t6 _ => ?_) _ _ ?_
      · exact (restartNozzle_frame _ _ _ _).mono rfl
      · assumption
    · assumption
  try clear_value y5
  refine Frame.ite ?_ ?_
  · exact Frame.step (by assumption) (planWindow_frame _ _ _) (by rfl)
  · assumption

/-- What `swapSignatures` can change. -/
theorem swapSignatures_frame : ∀ x0 x1 x2, Frame [.glb, .link, .rings, .cnt, .execs, .parked, .ports, .sp, .spr, .out] x0 (swapSignatures x0 x1 x2) := by
  intro x0 x1 x2
  unfold swapSignatures
  extract_lets +onlyGivenNames -underBinder y1
  try clear_value y1
  split
  · exact Frame.refl _ _
  · extract_lets +onlyGivenNames -underBinder y2
    try clear_value y2
    extract_lets +onlyGivenNames -underBinder y3
    try clear_value y3
    extract_lets +onlyGivenNames -underBinder y4
    try clear_value y4
    extract_lets +onlyGivenNames -underBinder y5
    try clear_value y5
    extract_lets +onlyGivenNames -underBinder y6
    try clear_value y6
    extract_lets +onlyGivenNames -underBinder y7
    have hy7 : Frame [.glb, .link, .rings, .cnt, .execs, .parked, .ports, .sp, .spr, .out] x0 y7 := (State.modPort_frame _ _ _).mono rfl
    try clear_value y7
    extract_lets +onlyGivenNames -underBinder y8
    have hy8 : Frame [.glb, .link, .rings, .cnt, .execs, .parked, .ports, .sp, .spr, .out] x0 y8 := by
      refine Frame.foldl (fun t9 _ => ?_) _ _ ?_
      · exact Frame.step ((restartNozzle_frame _ _ _ _).mono rfl) (State.modPort_frame _ _ _) (by rfl)
      · assumption
    try clear_value y8
    exact Frame.step (by assumption) (endAll_frame _ _ _ _) (by rfl)

/-- What `resetMonitor` can change. -/
theorem resetMonitor_frame : ∀ x0 x1 x2, Frame [.glb, .link, .rings, .cnt, .parked, .ports, .sp, .spr, .out] x0 (resetMonitor x0 x1 x2) := by
  intro x0 x1 x2
  unfold resetMonitor
  extract_lets +onlyGivenNames -underBinder y1
  try clear_value y1
  extract_lets +onlyGivenNames -underBinder y2
  have hy2 : Frame [.glb, .link, .rings, .cnt, .parked, .ports, .sp, .spr, .out] x0 y2 := (State.modPort_frame _ _ _).mono rfl
  try clear_value y2
  refine Frame.foldl (fun t3 _ => ?_) _ _ ?_
  · extract_lets +onlyGivenNames -underBinder y4
    try clear_value y4
    refine Frame.ite ?_ ?_
    · exact Frame.refl _ _
    · exact (monReset_frame _ _ _ _).mono rfl
  · assumption

/-- What `boundaryMonitor` can change. -/
theorem boundaryMonitor_frame : ∀ x0 x1 x2, Frame [.glb, .link, .rings, .cnt, .execs, .parked, .ports, .sp, .spr, .out] x0 (boundaryMonitor x0 x1 x2) := by
  intro x0 x1 x2
  unfold boundaryMonitor
  extract_lets +onlyGivenNames -underBinder y1
  have hy1 : Frame [.glb, .link, .rings, .cnt, .execs, .parked, .ports, .sp, .spr, .out] x0 y1 := by
    unfold y1
    split
    · exact (applyRvsCfg_frame _ _ _ _).mono rfl
    · exact Frame.refl _ _
  try clear_value y1
  extract_lets +onlyGivenNames -underBinder y2
  have hy2 : Frame [.glb, .link, .rings, .cnt, .execs, .parked, .ports, .sp, .spr, .out] x0 y2 := by
    refine Frame.ite ?_ ?_
    · exact Frame.step (by assumption) (swapSignatures_frame _ _ _) (by rfl)
    · assumption
  try clear_value y2
  refine Frame.ite ?_ ?_
  · assumption
  · exact Frame.step (by assumption) (resetMonitor_frame _ _ _) (by rfl)

/-! ### Taps -/

/-- What `tapPort` can change. -/
theorem tapPort_frame : ∀ x0 x1, Frame [.ports] x0 (tapPort x0 x1) := by
  intro x0 x1
  unfold tapPort
  extract_lets +onlyGivenNames -underBinder y1
  try clear_value y1
  exact (State.modPort_frame _ _ _).mono rfl

/-! ### Screen -/

/-- What `lineScreen` can change. -/
theorem lineScreen_frame : ∀ x0 x1, Frame [.ports] x1 (lineScreen x0 x1) := by
  intro x0 x1
  unfold lineScreen
  extract_lets +onlyGivenNames -underBinder y1
  try clear_value y1
  split
  · extract_lets +onlyGivenNames -underBinder y2
    try clear_value y2
    extract_lets +onlyGivenNames -underBinder y3
    try clear_value y3
    extract_lets +onlyGivenNames -underBinder y4
    try clear_value y4
    extract_lets +onlyGivenNames -underBinder y5
    try clear_value y5
    extract_lets +onlyGivenNames -underBinder y6
    try clear_value y6
    extract_lets +onlyGivenNames -underBinder y7
    try clear_value y7
    refine Frame.ite ?_ ?_
    · exact Frame.refl _ _
    · exact (State.modPort_frame _ _ _).mono rfl
  · exact Frame.refl _ _

/-- What `rescreenAt` can change. -/
theorem rescreenAt_frame : ∀ x0 x1 x2, Frame [.ports] x0 (rescreenAt x0 x1 x2) := by
  intro x0 x1 x2
  unfold rescreenAt
  refine Frame.foldl (fun t1 _ => ?_) _ _ ?_
  · split
    · refine Frame.ite ?_ ?_
      · exact (lineScreen_frame _ _).mono rfl
      · exact Frame.refl _ _
    · exact Frame.refl _ _
  · exact Frame.refl _ _

/-- What `swapPrinting` can change. -/
theorem swapPrinting_frame : ∀ x0 x1 x2, Frame [.glb, .link, .rings, .cnt, .execs, .parked, .ports, .sp, .spr, .mgt, .bg, .out] x0 (swapPrinting x0 x1 x2) := by
  intro x0 x1 x2
  unfold swapPrinting
  extract_lets +onlyGivenNames -underBinder y1
  try clear_value y1
  refine Frame.foldl (fun t2 _ => ?_) _ _ ?_
  · exact (rescreenAt_frame _ _ _).mono rfl
  · exact (swapQuire_frame _ _ _ _).mono rfl

/-! ### Fire -/

/-- What `deadline` can change. -/
theorem deadline_frame : ∀ x0 x1 x2 x3, Frame [.glb, .link, .rings, .cnt, .parked, .quires, .ports, .sp, .spr, .out] x0 (deadline x0 x1 x2 x3) := by
  intro x0 x1 x2 x3
  unfold deadline
  extract_lets +onlyGivenNames -underBinder y1
  try clear_value y1
  extract_lets +onlyGivenNames -underBinder y2
  try clear_value y2
  split
  · extract_lets +onlyGivenNames -underBinder y3
    try clear_value y3
    extract_lets +onlyGivenNames -underBinder y4
    have hy4 : Frame [.glb, .link, .rings, .cnt, .parked, .quires, .ports, .sp, .spr, .out] x0 y4 := (State.modPort_frame _ _ _).mono rfl
    try clear_value y4
    refine Frame.ite ?_ ?_
    · exact Frame.step (by assumption) (endEpisode_frame _ _) (by rfl)
    · extract_lets +onlyGivenNames -underBinder y5
      have hy5 : Frame [.glb, .link, .rings, .cnt, .parked, .quires, .ports, .sp, .spr, .out] x0 y5 := by
        refine Frame.ite ?_ ?_
        · exact Frame.step (Frame.step (by assumption) (setPwEvent_frame _ _ _) (by rfl)) (raise_frame _ _ _ _ _ _) (by rfl)
        · assumption
      try clear_value y5
      refine Frame.ite ?_ ?_
      · extract_lets +onlyGivenNames -underBinder y6
        try clear_value y6
        exact Frame.step (by assumption) (State.modQuire_frame _ _ _) (by rfl)
      · extract_lets +onlyGivenNames -underBinder y7
        try clear_value y7
        extract_lets +onlyGivenNames -underBinder y8
        have hy8 : Frame [.glb, .link, .rings, .cnt, .parked, .quires, .ports, .sp, .spr, .out] x0 y8 := Frame.step (by assumption) (State.modPort_frame _ _ _) (by rfl)
        try clear_value y8
        refine Frame.ite ?_ ?_
        · exact Frame.step (Frame.step (by assumption) (endEpisode_frame _ _) (by rfl)) (State.modPort_frame _ _ _) (by rfl)
        · assumption
  · exact Frame.refl _ _

/-- What `commitLine` can change. -/
theorem commitLine_frame : ∀ x0 x1 x2 x3 x4, Frame [.glb, .link, .rings, .cnt, .parked, .ports, .sp, .spr, .out] x0 (commitLine x0 x1 x2 x3 x4) := by
  intro x0 x1 x2 x3 x4
  unfold commitLine
  extract_lets +onlyGivenNames -underBinder y1
  try clear_value y1
  extract_lets +onlyGivenNames -underBinder y2
  try clear_value y2
  split
  · exact Frame.refl _ _
  · extract_lets +onlyGivenNames -underBinder y3
    try clear_value y3
    extract_lets +onlyGivenNames -underBinder y4
    try clear_value y4
    extract_lets +onlyGivenNames -underBinder y5
    try clear_value y5
    extract_lets +onlyGivenNames -underBinder y6
    try clear_value y6
    extract_lets +onlyGivenNames -underBinder y7
    have hy7 : Frame [.glb, .link, .rings, .cnt, .parked, .ports, .sp, .spr, .out] x0 y7 := (State.modPort_frame _ _ _).mono rfl
    try clear_value y7
    refine Frame.ite ?_ ?_
    · exact Frame.step (by assumption) (streamLine_frame _ _ _ _ _ _) (by rfl)
    · assumption

/-- What `startPrinting` can change. -/
theorem startPrinting_frame : ∀ x0 x1 x2, Frame [.glb, .link, .rings, .cnt, .parked, .quires, .ports, .sp, .spr, .out] x0 (startPrinting x0 x1 x2) := by
  intro x0 x1 x2
  unfold startPrinting
  extract_lets +onlyGivenNames -underBinder y1
  try clear_value y1
  extract_lets +onlyGivenNames -underBinder y2
  try clear_value y2
  extract_lets +onlyGivenNames -underBinder y3
  have hy3 : Frame [.glb, .link, .rings, .cnt, .parked, .quires, .ports, .sp, .spr, .out] x0 y3 := (State.modQuire_frame _ _ _).mono rfl
  try clear_value y3
  refine Frame.ite ?_ ?_
  · assumption
  · refine Frame.foldl (fun t4 _ => ?_) _ _ ?_
    · refine Frame.ite ?_ ?_
      · exact (portTo_frame _ _ _ _).mono rfl
      · exact Frame.refl _ _
    · assumption

/-- What `rejudge` can change. -/
theorem rejudge_frame : ∀ x0 x1 x2 x3, Frame [.glb, .link, .rings, .cnt, .parked, .quires, .ports, .sp, .spr, .out] x0 (rejudge x0 x1 x2 x3) := by
  intro x0 x1 x2 x3
  unfold rejudge
  extract_lets +onlyGivenNames -underBinder y1
  try clear_value y1
  extract_lets +onlyGivenNames -underBinder y2
  try clear_value y2
  split
  · refine Frame.ite ?_ ?_
    · exact Frame.refl _ _
    · extract_lets +onlyGivenNames -underBinder y3
      try clear_value y3
      refine Frame.ite ?_ ?_
      · exact (deadline_frame _ _ _ _).mono rfl
      · exact (State.modPort_frame _ _ _).mono rfl
  · exact Frame.refl _ _

/-- What `firstDeadline` can change. -/
theorem firstDeadline_frame : ∀ x0 x1 x2, Frame [.glb, .link, .rings, .cnt, .parked, .quires, .ports, .sp, .spr, .out] x0 (firstDeadline x0 x1 x2) := by
  intro x0 x1 x2
  unfold firstDeadline
  extract_lets +onlyGivenNames -underBinder y1
  try clear_value y1
  extract_lets +onlyGivenNames -underBinder y2
  try clear_value y2
  extract_lets +onlyGivenNames -underBinder y3
  try clear_value y3
  refine Frame.ite ?_ ?_
  · exact Frame.refl _ _
  · extract_lets +onlyGivenNames -underBinder y4
    have hy4 : Frame [.glb, .link, .rings, .cnt, .parked, .quires, .ports, .sp, .spr, .out] x0 y4 := (deadline_frame _ _ _ _).mono rfl
    try clear_value y4
    refine Frame.ite ?_ ?_
    · exact Frame.step (by assumption) (streamFirst_frame _ _ _ _) (by rfl)
    · assumption

/-- What `lineComes` can change. -/
theorem lineComes_frame : ∀ x0 x1 x2 x3, Frame [.glb, .link, .rings, .cnt, .execs, .parked, .quires, .reqs, .ports, .sp, .spr, .mgt, .bg, .out] x0 (lineComes x0 x1 x2 x3) := by
  intro x0 x1 x2 x3
  unfold lineComes
  extract_lets +onlyGivenNames -underBinder y1
  have hy1 : Frame [.glb, .link, .rings, .cnt, .execs, .parked, .quires, .reqs, .ports, .sp, .spr, .mgt, .bg, .out] x0 y1 := by
    refine Frame.ite ?_ ?_
    · refine Frame.foldl (fun t2 _ => ?_) _ _ ?_
      · exact (rejudge_frame _ _ _ _).mono rfl
      · exact (swapPrinting_frame _ _ _).mono rfl
    · exact Frame.refl _ _
  try clear_value y1
  extract_lets +onlyGivenNames -underBinder y3
  have hy3 : Frame [.glb, .link, .rings, .cnt, .execs, .parked, .quires, .reqs, .ports, .sp, .spr, .mgt, .bg, .out] x0 y3 := Frame.step (Frame.step (Frame.step (by assumption) (liftGone_frame _ _) (by rfl)) (liveControl_frame _ _) (by rfl)) (boundaryMonitor_frame _ _ _) (by rfl)
  try clear_value y3
  extract_lets +onlyGivenNames -underBinder y4
  have hy4 : Frame [.glb, .link, .rings, .cnt, .execs, .parked, .quires, .reqs, .ports, .sp, .spr, .mgt, .bg, .out] x0 y4 := Frame.step (by assumption) (firstDeadline_frame _ _ _) (by rfl)
  try clear_value y4
  extract_lets +onlyGivenNames -underBinder y5
  try clear_value y5
  extract_lets +onlyGivenNames -underBinder y6
  try clear_value y6
  refine Frame.ite ?_ ?_
  · refine Frame.step ?_ (tapPort_frame _ _) (by rfl)
    refine Frame.ite ?_ ?_
    · exact Frame.step (by assumption) (stopWith_frame _ _ _) (by rfl)
    · assumption
  · exact Frame.step (Frame.step (Frame.step (Frame.step (by assumption) (commitLine_frame _ _ _ _ _) (by rfl)) (startPrinting_frame _ _ _) (by rfl)) (deadline_frame _ _ _ _) (by rfl)) (tapPort_frame _ _) (by rfl)

/-- What `crossFirst` can change. -/
theorem crossFirst_frame : ∀ x0 x1, Frame [.glb, .link, .rings, .cnt, .parked, .quires, .ports, .sp, .spr, .out] x0 (crossFirst x0 x1) := by
  intro x0 x1
  unfold crossFirst
  split
  · exact Frame.refl _ _
  · extract_lets +onlyGivenNames -underBinder y1
    try clear_value y1
    extract_lets +onlyGivenNames -underBinder y2
    try clear_value y2
    refine Frame.ite ?_ ?_
    · exact Frame.refl _ _
    · split
      · refine Frame.ite ?_ ?_
        · exact (firstDeadline_frame _ _ _).mono rfl
        · exact Frame.refl _ _
      · exact Frame.refl _ _

/-- What `lineDue` can change. -/
theorem lineDue_frame : ∀ x0 x1, Frame [.clk, .tb, .glb, .link, .rings, .cnt, .execs, .parked, .quires, .reqs, .ports, .sp, .spr, .mgt, .bg, .out] x1 (lineDue x0 x1) := by
  intro x0 x1
  unfold lineDue
  split
  · exact Frame.refl _ _
  · extract_lets +onlyGivenNames -underBinder y1
    try clear_value y1
    extract_lets +onlyGivenNames -underBinder y2
    try clear_value y2
    refine Frame.ite ?_ ?_
    · exact Frame.refl _ _
    · split
      · exact (crossFirst_frame _ _).mono rfl
      · extract_lets +onlyGivenNames -underBinder y3
        have hy3 : Frame [.clk, .tb, .glb, .link, .rings, .cnt, .execs, .parked, .quires, .reqs, .ports, .sp, .spr, .mgt, .bg, .out] x1 y3 := by
          refine Frame.ite ?_ ?_
          · split
            · exact Frame.step ((State.advanceTo_frame _ _).mono rfl) (firstDeadline_frame _ _ _) (by rfl)
            · exact Frame.refl _ _
          · exact Frame.refl _ _
        try clear_value y3
        exact Frame.step (Frame.step (by assumption) (State.advanceTo_frame _ _) (by rfl)) (lineComes_frame _ _ _ _) (by rfl)

/-- What `lineDecision` can change. -/
theorem lineDecision_frame : ∀ x0 x1, Frame [.clk, .tb, .glb, .link, .rings, .cnt, .execs, .parked, .quires, .ports, .sp, .spr, .mgt, .bg, .out] x1 (lineDecision x0 x1) := by
  intro x0 x1
  unfold lineDecision
  split
  · exact Frame.refl _ _
  · extract_lets +onlyGivenNames -underBinder y1
    have hy1 : Frame [.clk, .tb, .glb, .link, .rings, .cnt, .execs, .parked, .quires, .ports, .sp, .spr, .mgt, .bg, .out] x1 y1 := Frame.step ((State.advanceTo_frame _ _).mono rfl) (decideOne_frame _ _ _) (by rfl)
    try clear_value y1
    exact Frame.step (Frame.step (by assumption) (chooseProbe_frame _ _ _) (by rfl)) (afterLine_frame _ _ _) (by rfl)

/-- What `latchWord` can change. -/
theorem latchWord_frame : ∀ x0 x1 x2 x3, Frame [.glb, .link, .cnt, .ports, .out] x0 (latchWord x0 x1 x2 x3) := by
  intro x0 x1 x2 x3
  unfold latchWord
  extract_lets +onlyGivenNames -underBinder y1
  have hy1 : Frame [.glb, .link, .cnt, .ports, .out] x0 y1 := (flushWords_frame _ _ _ _).mono rfl
  try clear_value y1
  exact Frame.step (Frame.step (by assumption) (sendWord_frame _ _ _ _) (by rfl)) (flushWords_frame _ _ _ _) (by rfl)

/-- What `headLatch` can change. -/
theorem headLatch_frame : ∀ x0 x1 x2, Frame [.clk, .tb, .glb, .link, .rings, .cnt, .parked, .ports, .sp, .spr, .out] x2 (headLatch x0 x1 x2) := by
  intro x0 x1 x2
  unfold headLatch
  split
  · exact Frame.refl _ _
  · extract_lets +onlyGivenNames -underBinder y1
    have hy1 : Frame [.clk, .tb, .glb, .link, .rings, .cnt, .parked, .ports, .sp, .spr, .out] x2 y1 := Frame.step ((State.advanceTo_frame _ _).mono rfl) (latchWord_frame _ _ _ _) (by rfl)
    try clear_value y1
    extract_lets +onlyGivenNames -underBinder y2
    have hy2 : Frame [.clk, .tb, .glb, .link, .rings, .cnt, .parked, .ports, .sp, .spr, .out] x2 y2 := by
      unfold y2
      split
      · assumption
      · refine Frame.ite ?_ ?_
        · exact Frame.step (by assumption) (streamLine_frame _ _ _ _ _ _) (by rfl)
        · assumption
    try clear_value y2
    exact Frame.step (by assumption) (State.modPort_frame _ _ _) (by rfl)

/-- What `segWords` can change. -/
theorem segWords_frame : ∀ s p c start l, Frame [.glb, .link, .cnt, .ports, .out] s (segWords s p c start l) := by
  intro s p c start l
  induction l generalizing s with
  | nil => exact Frame.refl _ _
  | cons a t ih =>
    cases t with
    | nil => unfold segWords; exact headWord_frame _ _ _ _ _ _ _
    | cons b t =>
      unfold segWords
      exact Frame.ite (Frame.trans (headWord_frame _ _ _ _ _ _ _) (ih _))
        (Frame.trans (Frame.trans (headWord_frame _ _ _ _ _ _ _) (headWord_frame _ _ _ _ _ _ _)) (ih _))

/-- What `setPlay` can change. -/
theorem setPlay_frame : ∀ x0 x1 x2 x3 x4 x5, Frame [.ports] x0 (setPlay x0 x1 x2 x3 x4 x5) := by
  intro x0 x1 x2 x3 x4 x5
  unfold setPlay
  exact (State.modPort_frame _ _ _).mono rfl

/-- What `dropPlays` can change. -/
theorem dropPlays_frame : ∀ x0 x1, Frame [.ports] x0 (dropPlays x0 x1) := by
  intro x0 x1
  unfold dropPlays
  exact (State.modPort_frame _ _ _).mono rfl

/-- What `waveFault` can change. -/
theorem waveFault_frame : ∀ x0 x1 x2, Frame [.glb, .link, .rings, .cnt, .execs, .parked, .quires, .ports, .sp, .spr, .mgt, .bg, .out] x0 (waveFault x0 x1 x2) := by
  intro x0 x1 x2
  unfold waveFault
  extract_lets +onlyGivenNames -underBinder y1
  have hy1 : Frame [.glb, .link, .rings, .cnt, .execs, .parked, .quires, .ports, .sp, .spr, .mgt, .bg, .out] x0 y1 := Frame.step ((dropPlays_frame _ _).mono rfl) (State.emit_frame _ _) (by rfl)
  try clear_value y1
  extract_lets +onlyGivenNames -underBinder y2
  have hy2 : Frame [.glb, .link, .rings, .cnt, .execs, .parked, .quires, .ports, .sp, .spr, .mgt, .bg, .out] x0 y2 := Frame.step (by assumption) (State.modPort_frame _ _ _) (by rfl)
  try clear_value y2
  exact Frame.step (by assumption) (portFault_frame _ _ _) (by rfl)

/-- What `senseSwitch` can change. -/
theorem senseSwitch_frame : ∀ x0 x1 x2 x3, Frame [.ports] x0 (senseSwitch x0 x1 x2 x3) := by
  intro x0 x1 x2 x3
  unfold senseSwitch
  exact (State.modPort_frame _ _ _).mono rfl

/-- What `startPlay` can change. -/
theorem startPlay_frame : ∀ x0 x1 x2 x3 x4 x5 x6, Frame [.glb, .link, .rings, .cnt, .execs, .parked, .quires, .ports, .sp, .spr, .mgt, .bg, .out] x0 (startPlay x0 x1 x2 x3 x4 x5 x6) := by
  intro x0 x1 x2 x3 x4 x5 x6
  unfold startPlay
  extract_lets +onlyGivenNames -underBinder y1
  try clear_value y1
  extract_lets +onlyGivenNames -underBinder y2
  try clear_value y2
  extract_lets +onlyGivenNames -underBinder y3
  try clear_value y3
  extract_lets +onlyGivenNames -underBinder y4
  try clear_value y4
  extract_lets +onlyGivenNames -underBinder y5
  have hy5 : Frame [.glb, .link, .rings, .cnt, .execs, .parked, .quires, .ports, .sp, .spr, .mgt, .bg, .out] x0 y5 := Frame.step ((senseSwitch_frame _ _ _ _).mono rfl) (headWord_frame _ _ _ _ _ _ _) (by rfl)
  try clear_value y5
  extract_lets +onlyGivenNames -underBinder y6
  have hy6 : Frame [.glb, .link, .rings, .cnt, .execs, .parked, .quires, .ports, .sp, .spr, .mgt, .bg, .out] x0 y6 := by
    unfold y6
    split
    · assumption
    · exact Frame.step (Frame.step (by assumption) (headWord_frame _ _ _ _ _ _ _) (by rfl)) (segWords_frame _ _ _ _ _) (by rfl)
  try clear_value y6
  extract_lets +onlyGivenNames -underBinder y7
  try clear_value y7
  extract_lets +onlyGivenNames -underBinder y8
  try clear_value y8
  extract_lets +onlyGivenNames -underBinder y9
  have hy9 : Frame [.glb, .link, .rings, .cnt, .execs, .parked, .quires, .ports, .sp, .spr, .mgt, .bg, .out] x0 y9 := Frame.step (Frame.step (by assumption) (setPlay_frame _ _ _ _ _ _) (by rfl)) (State.modPort_frame _ _ _) (by rfl)
  try clear_value y9
  extract_lets +onlyGivenNames -underBinder y10
  have hy10 : Frame [.glb, .link, .rings, .cnt, .execs, .parked, .quires, .ports, .sp, .spr, .mgt, .bg, .out] x0 y10 := Frame.step (by assumption) (State.emit_frame _ _) (by rfl)
  try clear_value y10
  split
  · assumption
  · exact Frame.step (Frame.step (by assumption) (State.modPort_frame _ _ _) (by rfl)) (waveFault_frame _ _ _) (by rfl)

/-- What `playbackStart` can change. -/
theorem playbackStart_frame : ∀ x0 x1 x2 x3, Frame [.clk, .tb, .glb, .link, .rings, .cnt, .execs, .parked, .quires, .ports, .sp, .spr, .mgt, .bg, .out] x3 (playbackStart x0 x1 x2 x3) := by
  intro x0 x1 x2 x3
  unfold playbackStart
  split
  · exact Frame.refl _ _
  · extract_lets +onlyGivenNames -underBinder y1
    have hy1 : Frame [.clk, .tb, .glb, .link, .rings, .cnt, .execs, .parked, .quires, .ports, .sp, .spr, .mgt, .bg, .out] x3 y1 := (State.advanceTo_frame _ _).mono rfl
    try clear_value y1
    split
    · exact Frame.step (by assumption) (startPlay_frame _ _ _ _ _ _ _) (by rfl)
    · assumption
    · extract_lets +onlyGivenNames -underBinder y2
      have hy2 : Frame [.clk, .tb, .glb, .link, .rings, .cnt, .execs, .parked, .quires, .ports, .sp, .spr, .mgt, .bg, .out] x3 y2 := Frame.step (by assumption) (lineDecision_frame _ _) (by rfl)
      try clear_value y2
      split
      · split
        · exact Frame.step (by assumption) (startPlay_frame _ _ _ _ _ _ _) (by rfl)
        · assumption
        · assumption
      · assumption

/-- What `playbackEnd` can change. -/
theorem playbackEnd_frame : ∀ x0 x1 x2, Frame [.clk, .tb, .glb, .link, .cnt, .ports, .out] x2 (playbackEnd x0 x1 x2) := by
  intro x0 x1 x2
  unfold playbackEnd
  split
  · exact Frame.refl _ _
  · extract_lets +onlyGivenNames -underBinder y1
    have hy1 : Frame [.clk, .tb, .glb, .link, .cnt, .ports, .out] x2 y1 := (State.advanceTo_frame _ _).mono rfl
    try clear_value y1
    extract_lets +onlyGivenNames -underBinder y2
    have hy2 : Frame [.clk, .tb, .glb, .link, .cnt, .ports, .out] x2 y2 := Frame.step (Frame.step (by assumption) (flushWords_frame _ _ _ _) (by rfl)) (setPlay_frame _ _ _ _ _ _) (by rfl)
    try clear_value y2
    exact Frame.step (by assumption) (senseSwitch_frame _ _ _ _) (by rfl)

/-- What `probeCaptureEnd` can change. -/
theorem probeCaptureEnd_frame : ∀ x0 x1 x2, Frame [.clk, .tb, .glb, .link, .rings, .cnt, .execs, .parked, .ports, .sp, .spr, .out] x2 (probeCaptureEnd x0 x1 x2) := by
  intro x0 x1 x2
  unfold probeCaptureEnd
  split
  · exact Frame.refl _ _
  · split
    · exact Frame.refl _ _
    · exact (captureEnd_frame _ _ _ _ _ _).mono rfl

/-- What `sosQuire` can change. -/
theorem sosQuire_frame : ∀ x0 x1 x2 x3 x4, Frame [.glb, .link, .rings, .cnt, .execs, .parked, .quires, .ports, .sp, .spr, .mgt, .bg, .out] x0 (sosQuire x0 x1 x2 x3 x4) := by
  intro x0 x1 x2 x3 x4
  unfold sosQuire
  extract_lets +onlyGivenNames -underBinder y1
  try clear_value y1
  refine Frame.ite ?_ ?_
  · exact Frame.refl _ _
  · refine Frame.ite ?_ ?_
    · extract_lets +onlyGivenNames -underBinder y2
      try clear_value y2
      extract_lets +onlyGivenNames -underBinder y3
      have hy3 : Frame [.glb, .link, .rings, .cnt, .execs, .parked, .quires, .ports, .sp, .spr, .mgt, .bg, .out] x0 y3 := (State.modQuire_frame _ _ _).mono rfl
      try clear_value y3
      refine Frame.ite ?_ ?_
      · exact Frame.step (by assumption) (openGate_frame _ _) (by rfl)
      · assumption
    · exact (State.modQuire_frame _ _ _).mono rfl

/-- What `sosEdge` can change. -/
theorem sosEdge_frame : ∀ x0 x1 x2 x3, Frame [.glb, .link, .rings, .cnt, .execs, .parked, .quires, .sos, .ports, .sp, .spr, .mgt, .bg, .out] x3 (sosEdge x0 x1 x2 x3) := by
  intro x0 x1 x2 x3
  unfold sosEdge
  extract_lets +onlyGivenNames -underBinder y1
  try clear_value y1
  extract_lets +onlyGivenNames -underBinder y2
  have hy2 : Frame [.glb, .link, .rings, .cnt, .execs, .parked, .quires, .sos, .ports, .sp, .spr, .mgt, .bg, .out] x3 y2 := by
    refine forAll_frame ?_ (fun t3 _ => ?_)
    · exact Frame.refl _ _
    · refine Frame.ite ?_ ?_
      · exact (sosQuire_frame _ _ _ _ _).mono rfl
      · exact Frame.refl _ _
  try clear_value y2
  refine Frame.ite ?_ ?_
  · exact Frame.upd (by assumption) rfl rfl
  · assumption

end Sys2Proof.Machine
end

