-- ==== Sys2Proof/Laws/FrameJobs.lean ====
section
/-! SUPPORT. One frame lemma for each operation that answers a state, of records, position sources, thermal events, head memories, jobs, head ports and demand.
A lemma `x_frame` names the parts of the state that `x` may change; everything else it leaves as it was (`Frame`). -/

set_option Elab.async false

namespace Sys2Proof.Machine

/-! ### Records -/

/-- What `reportCmd` can change. -/
theorem reportCmd_frame {l : List Part} (op : Nat) (h : CmdHdr) (p : Params) (s : State) (fields : List (Nat × Nat))
    (checks : List (Bool × Nat)) (addr : Nat) (data : State → Bytes) (res : State → Nat) (hl : Part.all l [.link, .rings, .cnt, .waiting, .parked, .sp, .spr, .mgt, .out] = true) :
    Frame l s (reportCmd op h p s fields checks addr data res) := by
  unfold reportCmd
  exact command_frame _ _ _ _ _ _ _ _ (Part.all_trans hl rfl) ((complete_frame _ _ _ _).mono (Part.all_trans hl rfl))
    (Frame.step ((writeOut_frame _ _ _ _).mono (Part.all_trans hl rfl)) (complete_frame _ _ _ _) (Part.all_trans hl rfl))

/-- What `plainCmd` can change. -/
theorem plainCmd_frame {l : List Part} (op : Nat) (h : CmdHdr) (p : Params) (s : State) (fields : List (Nat × Nat)) (checks : List (Bool × Nat))
    (act : State → State) (hl : Part.all l [.link, .rings, .cnt, .waiting, .parked, .sp, .spr, .out] = true) (ha : Frame l s (act s)) : Frame l s (plainCmd op h p s fields checks act) := by
  unfold plainCmd
  exact command_frame _ _ _ _ _ _ _ _ (Part.all_trans hl rfl) ((complete_frame _ _ _ _).mono (Part.all_trans hl rfl))
    (Frame.step ha (complete_frame _ _ _ _) (Part.all_trans hl rfl))

/-- What `readCmd` can change. -/
theorem readCmd_frame : ∀ x0 x1 x2 x3 x4 x5 x6 x7 x8, Frame [.link, .rings, .cnt, .execs, .waiting, .parked, .sp, .spr, .out, .nextId] x3 (readCmd x0 x1 x2 x3 x4 x5 x6 x7 x8) := by
  intro x0 x1 x2 x3 x4 x5 x6 x7 x8
  unfold readCmd
  refine command_frame _ _ _ _ _ _ _ _ (by rfl) ?_ ?_
  · exact (beginRead_frame _ _ _ _ _ _ _).mono rfl
  · exact (beginRead_frame _ _ _ _ _ _ _).mono rfl

/-- What `dataDone` can change. -/
theorem dataDone_frame {l : List Part} (s : State) (e : Exec) (checks : List (Bool × Nat)) (res : Nat) (act : State → State)
    (hl : Part.all l [.link, .rings, .cnt, .execs, .parked, .sp, .spr, .out] = true) (ha : Frame l s (act s)) : Frame l s (dataDone s e checks res act) := by
  unfold dataDone
  split
  · exact Frame.ite ((endExec_frame _ _ _ _).mono (Part.all_trans hl rfl)) ha
  · exact (endExec_frame _ _ _ _).mono (Part.all_trans hl rfl)

/-- What `State.modExec` can change. -/
theorem State.modExec_frame : ∀ x0 x1 x2, Frame [.execs] x0 (State.modExec x0 x1 x2) := by
  intro x0 x1 x2
  unfold State.modExec
  exact Frame.upd (Frame.refl _ _) rfl rfl

/-- What `finishWrite` can change. -/
theorem finishWrite_frame : ∀ x0 x1 x2 x3 x4, Frame [.link, .rings, .cnt, .execs, .parked, .sp, .spr, .mgt, .out] x0 (finishWrite x0 x1 x2 x3 x4) := by
  intro x0 x1 x2 x3 x4
  unfold finishWrite
  extract_lets +onlyGivenNames -underBinder y1
  have hy1 : Frame [.link, .rings, .cnt, .execs, .parked, .sp, .spr, .mgt, .out] x0 y1 := (writeOut_frame _ _ _ _).mono rfl
  try clear_value y1
  refine Frame.ite ?_ ?_
  · exact Frame.step (by assumption) (endExec_frame _ _ _ _) (by rfl)
  · exact Frame.step (by assumption) (State.modExec_frame _ _ _) (by rfl)

/-- What `readOut` can change. -/
theorem readOut_frame : ∀ x0 x1 x2 x3 x4 x5, Frame [.link, .rings, .cnt, .execs, .parked, .sp, .spr, .mgt, .out, .nextId] x3 (readOut x0 x1 x2 x3 x4 x5) := by
  intro x0 x1 x2 x3 x4 x5
  unfold readOut
  refine Frame.ite ?_ ?_
  · exact Frame.step ((writeOut_frame _ _ _ _).mono rfl) (complete_frame _ _ _ _) (by rfl)
  · exact (beginWrite_frame _ _ _ _ _ _).mono rfl

/-- What `reportOut` can change. -/
theorem reportOut_frame : ∀ x0 x1 x2 x3 x4 x5 x6, Frame [.link, .rings, .cnt, .execs, .parked, .sp, .spr, .mgt, .out, .nextId] x3 (reportOut x0 x1 x2 x3 x4 x5 x6) := by
  intro x0 x1 x2 x3 x4 x5 x6
  unfold reportOut
  refine Frame.ite ?_ ?_
  · exact Frame.step ((writeOut_frame _ _ _ _).mono rfl) (complete_frame _ _ _ _) (by rfl)
  · exact Frame.step ((beginWrite_frame _ _ _ _ _ _).mono rfl) (State.modExec_frame _ _ _) (by rfl)

/-! ### Position -/

/-- What `holdTracked` can change. -/
theorem holdTracked_frame : ∀ x0 x1, Frame [.src] x0 (holdTracked x0 x1) := by
  intro x0 x1
  unfold holdTracked
  extract_lets +onlyGivenNames -underBinder y1
  try clear_value y1
  exact (State.modSrc_frame _ _ _).mono rfl

/-- What `encEvent` can change. -/
theorem encEvent_frame : ∀ x0 x1 x2, Frame [.src] x0 (encEvent x0 x1 x2) := by
  intro x0 x1 x2
  unfold encEvent
  exact (State.modSrc_frame _ _ _).mono rfl

/-- What `encFaultEvent` can change. -/
theorem encFaultEvent_frame : ∀ x0 x1 x2 x3, Frame [.link, .rings, .cnt, .parked, .sp, .spr, .out] x0 (encFaultEvent x0 x1 x2 x3) := by
  intro x0 x1 x2 x3
  unfold encFaultEvent
  extract_lets +onlyGivenNames -underBinder y1
  try clear_value y1
  exact (raise_frame _ _ _ _ _ _).mono rfl

/-- What `sourceFault` can change. -/
theorem sourceFault_frame : ∀ x0 x1 x2, Frame [.glb, .link, .rings, .cnt, .execs, .parked, .src, .quires, .ports, .sp, .spr, .mgt, .bg, .out] x0 (sourceFault x0 x1 x2) := by
  intro x0 x1 x2
  unfold sourceFault
  extract_lets +onlyGivenNames -underBinder y1
  have hy1 : Frame [.glb, .link, .rings, .cnt, .execs, .parked, .src, .quires, .ports, .sp, .spr, .mgt, .bg, .out] x0 y1 := Frame.step ((holdTracked_frame _ _).mono rfl) (State.modSrc_frame _ _ _) (by rfl)
  try clear_value y1
  extract_lets +onlyGivenNames -underBinder y2
  have hy2 : Frame [.glb, .link, .rings, .cnt, .execs, .parked, .src, .quires, .ports, .sp, .spr, .mgt, .bg, .out] x0 y2 := Frame.step (Frame.step (by assumption) (encEvent_frame _ _ _) (by rfl)) (encFaultEvent_frame _ _ _ _) (by rfl)
  try clear_value y2
  refine Frame.foldl (fun t3 _ => ?_) _ _ ?_
  · exact (stopQuire_frame _ _ _).mono rfl
  · assumption

/-- What `faultNow` can change. -/
theorem faultNow_frame : ∀ x0 x1 x2, Frame [.glb, .link, .rings, .cnt, .execs, .parked, .src, .quires, .ports, .sp, .spr, .mgt, .bg, .out] x0 (faultNow x0 x1 x2) := by
  intro x0 x1 x2
  unfold faultNow
  split
  · exact Frame.refl _ _
  · exact Frame.refl _ _
  · exact (sourceFault_frame _ _ _).mono rfl
  · exact (sourceFault_frame _ _ _).mono rfl
  · exact (sourceFault_frame _ _ _).mono rfl
  · exact (sourceFault_frame _ _ _).mono rfl
  · exact (sourceFault_frame _ _ _).mono rfl

/-- What `advanceSrc` can change. -/
theorem advanceSrc_frame : ∀ x0 x1 x2 x3, Frame [.src, .quires] x0 (advanceSrc x0 x1 x2 x3) := by
  intro x0 x1 x2 x3
  unfold advanceSrc
  extract_lets +onlyGivenNames -underBinder y1
  try clear_value y1
  extract_lets +onlyGivenNames -underBinder y2
  have hy2 : Frame [.src, .quires] x0 y2 := Frame.step ((holdTracked_frame _ _).mono rfl) (State.modSrc_frame _ _ _) (by rfl)
  try clear_value y2
  refine Frame.ite ?_ ?_
  · refine Frame.foldl (fun t3 _ => ?_) _ _ ?_
    · exact (quireResumes_frame _ _).mono rfl
    · assumption
  · assumption

/-- What `reverseSrc` can change. -/
theorem reverseSrc_frame : ∀ x0 x1 x2, Frame [.glb, .link, .rings, .cnt, .execs, .parked, .src, .quires, .ports, .sp, .spr, .mgt, .bg, .out] x0 (reverseSrc x0 x1 x2) := by
  intro x0 x1 x2
  unfold reverseSrc
  extract_lets +onlyGivenNames -underBinder y1
  have hy1 : Frame [.glb, .link, .rings, .cnt, .execs, .parked, .src, .quires, .ports, .sp, .spr, .mgt, .bg, .out] x0 y1 := (holdTracked_frame _ _).mono rfl
  try clear_value y1
  extract_lets +onlyGivenNames -underBinder y2
  try clear_value y2
  extract_lets +onlyGivenNames -underBinder y3
  have hy3 : Frame [.glb, .link, .rings, .cnt, .execs, .parked, .src, .quires, .ports, .sp, .spr, .mgt, .bg, .out] x0 y3 := Frame.step (Frame.step (by assumption) (encEvent_frame _ _ _) (by rfl)) (raise_frame _ _ _ _ _ _) (by rfl)
  try clear_value y3
  extract_lets +onlyGivenNames -underBinder y4
  have hy4 : Frame [.glb, .link, .rings, .cnt, .execs, .parked, .src, .quires, .ports, .sp, .spr, .mgt, .bg, .out] x0 y4 := by
    refine Frame.ite ?_ ?_
    · refine Frame.step ?_ (State.modSrc_frame _ _ _) (by rfl)
      refine Frame.foldl (fun t5 _ => ?_) _ _ ?_
      · exact (holdNext_frame _ _).mono rfl
      · assumption
    · exact Frame.step (by assumption) (State.modSrc_frame _ _ _) (by rfl)
  try clear_value y4
  refine Frame.foldl (fun t6 _ => ?_) _ _ ?_
  · exact (quireReversed_frame _ _).mono rfl
  · assumption

/-- What `srcMoved` can change. -/
theorem srcMoved_frame : ∀ x0 x1 x2, Frame [.glb, .link, .rings, .cnt, .execs, .parked, .src, .quires, .ports, .sp, .spr, .mgt, .bg, .out] x0 (srcMoved x0 x1 x2) := by
  intro x0 x1 x2
  unfold srcMoved
  extract_lets +onlyGivenNames -underBinder y1
  try clear_value y1
  split
  · exact Frame.refl _ _
  · exact Frame.refl _ _
  · exact Frame.refl _ _
  · extract_lets +onlyGivenNames -underBinder y2
    try clear_value y2
    extract_lets +onlyGivenNames -underBinder y3
    try clear_value y3
    refine Frame.ite ?_ ?_
    · exact (advanceSrc_frame _ _ _ _).mono rfl
    · refine Frame.ite ?_ ?_
      · exact Frame.step ((holdTracked_frame _ _).mono rfl) (State.modSrc_frame _ _ _) (by rfl)
      · refine Frame.ite ?_ ?_
        · refine Frame.ite ?_ ?_
          · exact Frame.refl _ _
          · exact Frame.step ((holdTracked_frame _ _).mono rfl) (State.modSrc_frame _ _ _) (by rfl)
        · refine Frame.ite ?_ ?_
          · exact Frame.refl _ _
          · exact (reverseSrc_frame _ _ _).mono rfl
  · extract_lets +onlyGivenNames -underBinder y4
    try clear_value y4
    extract_lets +onlyGivenNames -underBinder y5
    try clear_value y5
    refine Frame.ite ?_ ?_
    · exact (advanceSrc_frame _ _ _ _).mono rfl
    · refine Frame.ite ?_ ?_
      · exact Frame.step ((holdTracked_frame _ _).mono rfl) (State.modSrc_frame _ _ _) (by rfl)
      · refine Frame.ite ?_ ?_
        · refine Frame.ite ?_ ?_
          · exact Frame.refl _ _
          · exact Frame.step ((holdTracked_frame _ _).mono rfl) (State.modSrc_frame _ _ _) (by rfl)
        · refine Frame.ite ?_ ?_
          · exact Frame.refl _ _
          · exact (reverseSrc_frame _ _ _).mono rfl
  · extract_lets +onlyGivenNames -underBinder y6
    try clear_value y6
    extract_lets +onlyGivenNames -underBinder y7
    try clear_value y7
    refine Frame.ite ?_ ?_
    · exact (advanceSrc_frame _ _ _ _).mono rfl
    · refine Frame.ite ?_ ?_
      · exact Frame.step ((holdTracked_frame _ _).mono rfl) (State.modSrc_frame _ _ _) (by rfl)
      · refine Frame.ite ?_ ?_
        · refine Frame.ite ?_ ?_
          · exact Frame.refl _ _
          · exact Frame.step ((holdTracked_frame _ _).mono rfl) (State.modSrc_frame _ _ _) (by rfl)
        · refine Frame.ite ?_ ?_
          · exact Frame.refl _ _
          · exact (reverseSrc_frame _ _ _).mono rfl
  · extract_lets +onlyGivenNames -underBinder y8
    try clear_value y8
    extract_lets +onlyGivenNames -underBinder y9
    try clear_value y9
    refine Frame.ite ?_ ?_
    · exact (advanceSrc_frame _ _ _ _).mono rfl
    · refine Frame.ite ?_ ?_
      · exact Frame.step ((holdTracked_frame _ _).mono rfl) (State.modSrc_frame _ _ _) (by rfl)
      · refine Frame.ite ?_ ?_
        · refine Frame.ite ?_ ?_
          · exact Frame.refl _ _
          · exact Frame.step ((holdTracked_frame _ _).mono rfl) (State.modSrc_frame _ _ _) (by rfl)
        · refine Frame.ite ?_ ?_
          · exact Frame.refl _ _
          · exact (reverseSrc_frame _ _ _).mono rfl

/-- What `countGlitch` can change. -/
theorem countGlitch_frame : ∀ x0 x1 x2, Frame [.src] x0 (countGlitch x0 x1 x2) := by
  intro x0 x1 x2
  unfold countGlitch
  refine Frame.ite ?_ ?_
  · exact Frame.refl _ _
  · exact (State.modSrc_frame _ _ _).mono rfl

/-- What `acceptEdge` can change. -/
theorem acceptEdge_frame : ∀ x0 x1 x2 x3 x4 x5, Frame [.clk, .tb, .glb, .link, .rings, .cnt, .execs, .parked, .src, .quires, .ports, .sp, .spr, .mgt, .bg, .out] x0 (acceptEdge x0 x1 x2 x3 x4 x5) := by
  intro x0 x1 x2 x3 x4 x5
  unfold acceptEdge
  extract_lets +onlyGivenNames -underBinder y1
  try clear_value y1
  extract_lets +onlyGivenNames -underBinder y2
  try clear_value y2
  extract_lets +onlyGivenNames -underBinder y3
  try clear_value y3
  extract_lets +onlyGivenNames -underBinder y4
  have hy4 : Frame [.clk, .tb, .glb, .link, .rings, .cnt, .execs, .parked, .src, .quires, .ports, .sp, .spr, .mgt, .bg, .out] x0 y4 := (State.advanceTo_frame _ _).mono rfl
  try clear_value y4
  refine Frame.ite ?_ ?_
  · exact Frame.step (Frame.step (by assumption) (State.modSrc_frame _ _ _) (by rfl)) (faultNow_frame _ _ _) (by rfl)
  · refine Frame.ite ?_ ?_
    · exact Frame.step (Frame.step (by assumption) (State.modSrc_frame _ _ _) (by rfl)) (faultNow_frame _ _ _) (by rfl)
    · extract_lets +onlyGivenNames -underBinder y5
      have hy5 : Frame [.clk, .tb, .glb, .link, .rings, .cnt, .execs, .parked, .src, .quires, .ports, .sp, .spr, .mgt, .bg, .out] x0 y5 := Frame.step (by assumption) (holdTracked_frame _ _) (by rfl)
      try clear_value y5
      exact Frame.step (Frame.step (by assumption) (State.modSrc_frame _ _ _) (by rfl)) (srcMoved_frame _ _ _) (by rfl)

/-- What `encoderEdge` can change. -/
theorem encoderEdge_frame : ∀ x0 x1 x2 x3 x4 x5 x6, Frame [.clk, .tb, .glb, .link, .rings, .cnt, .execs, .parked, .src, .quires, .ports, .sp, .spr, .mgt, .bg, .out] x6 (encoderEdge x0 x1 x2 x3 x4 x5 x6) := by
  intro x0 x1 x2 x3 x4 x5 x6
  unfold encoderEdge
  extract_lets +onlyGivenNames -underBinder y1
  try clear_value y1
  extract_lets +onlyGivenNames -underBinder y2
  try clear_value y2
  extract_lets +onlyGivenNames -underBinder y3
  try clear_value y3
  refine Frame.ite ?_ ?_
  · exact Frame.refl _ _
  · refine Frame.ite ?_ ?_
    · exact (State.modSrc_frame _ _ _).mono rfl
    · refine Frame.ite ?_ ?_
      · exact (countGlitch_frame _ _ _).mono rfl
      · exact (acceptEdge_frame _ _ _ _ _ _).mono rfl

/-- What `applyPreset` can change. -/
theorem applyPreset_frame : ∀ x0 x1 x2, Frame [.src] x0 (applyPreset x0 x1 x2) := by
  intro x0 x1 x2
  unfold applyPreset
  exact (State.modSrc_frame _ _ _).mono rfl

/-- What `indexCheck` can change. -/
theorem indexCheck_frame : ∀ x0 x1, Frame [.glb, .link, .rings, .cnt, .execs, .parked, .src, .quires, .ports, .sp, .spr, .mgt, .bg, .out] x0 (indexCheck x0 x1) := by
  intro x0 x1
  unfold indexCheck
  extract_lets +onlyGivenNames -underBinder y1
  try clear_value y1
  extract_lets +onlyGivenNames -underBinder y2
  try clear_value y2
  extract_lets +onlyGivenNames -underBinder y3
  have hy3 : Frame [.glb, .link, .rings, .cnt, .execs, .parked, .src, .quires, .ports, .sp, .spr, .mgt, .bg, .out] x0 y3 := (State.modSrc_frame _ _ _).mono rfl
  try clear_value y3
  refine Frame.ite ?_ ?_
  · extract_lets +onlyGivenNames -underBinder y4
    have hy4 : Frame [.glb, .link, .rings, .cnt, .execs, .parked, .src, .quires, .ports, .sp, .spr, .mgt, .bg, .out] x0 y4 := Frame.step (by assumption) (State.modSrc_frame _ _ _) (by rfl)
    try clear_value y4
    refine Frame.ite ?_ ?_
    · assumption
    · exact Frame.step (Frame.step (Frame.step (by assumption) (holdTracked_frame _ _) (by rfl)) (encEvent_frame _ _ _) (by rfl)) (State.modSrc_frame _ _ _) (by rfl)
  · extract_lets +onlyGivenNames -underBinder y5
    have hy5 : Frame [.glb, .link, .rings, .cnt, .execs, .parked, .src, .quires, .ports, .sp, .spr, .mgt, .bg, .out] x0 y5 := Frame.step (Frame.step (by assumption) (encEvent_frame _ _ _) (by rfl)) (State.modSrc_frame _ _ _) (by rfl)
    try clear_value y5
    extract_lets +onlyGivenNames -underBinder y6
    try clear_value y6
    extract_lets +onlyGivenNames -underBinder y7
    have hy7 : Frame [.glb, .link, .rings, .cnt, .execs, .parked, .src, .quires, .ports, .sp, .spr, .mgt, .bg, .out] x0 y7 := Frame.step (by assumption) (raise_frame _ _ _ _ _ _) (by rfl)
    try clear_value y7
    refine Frame.ite ?_ ?_
    · exact Frame.step (by assumption) (faultNow_frame _ _ _) (by rfl)
    · assumption

/-- What `indexEdge` can change. -/
theorem indexEdge_frame : ∀ x0 x1 x2 x3 x4, Frame [.clk, .tb, .glb, .link, .rings, .cnt, .execs, .parked, .src, .quires, .ports, .sp, .spr, .mgt, .bg, .out] x4 (indexEdge x0 x1 x2 x3 x4) := by
  intro x0 x1 x2 x3 x4
  unfold indexEdge
  extract_lets +onlyGivenNames -underBinder y1
  try clear_value y1
  extract_lets +onlyGivenNames -underBinder y2
  try clear_value y2
  refine Frame.ite ?_ ?_
  · exact Frame.refl _ _
  · refine Frame.ite ?_ ?_
    · exact (State.modSrc_frame _ _ _).mono rfl
    · refine Frame.ite ?_ ?_
      · exact (countGlitch_frame _ _ _).mono rfl
      · extract_lets +onlyGivenNames -underBinder y3
        have hy3 : Frame [.clk, .tb, .glb, .link, .rings, .cnt, .execs, .parked, .src, .quires, .ports, .sp, .spr, .mgt, .bg, .out] x4 y3 := Frame.step ((State.advanceTo_frame _ _).mono rfl) (State.modSrc_frame _ _ _) (by rfl)
        try clear_value y3
        refine Frame.ite ?_ ?_
        · assumption
        · split
          · exact Frame.step (by assumption) (applyPreset_frame _ _ _) (by rfl)
          · exact Frame.step (by assumption) (indexCheck_frame _ _) (by rfl)

/-- What `serialFrameStart` can change. -/
theorem serialFrameStart_frame : ∀ x0 x1 x2, Frame [.clk, .tb, .src, .out] x2 (serialFrameStart x0 x1 x2) := by
  intro x0 x1 x2
  unfold serialFrameStart
  extract_lets +onlyGivenNames -underBinder y1
  try clear_value y1
  extract_lets +onlyGivenNames -underBinder y2
  try clear_value y2
  refine Frame.ite ?_ ?_
  · extract_lets +onlyGivenNames -underBinder y3
    have hy3 : Frame [.clk, .tb, .src, .out] x2 y3 := (State.advanceTo_frame _ _).mono rfl
    try clear_value y3
    exact Frame.step (Frame.step (by assumption) (State.modSrc_frame _ _ _) (by rfl)) (State.emit_frame _ _) (by rfl)
  · exact Frame.refl _ _

/-- What `badFrame` can change. -/
theorem badFrame_frame : ∀ x0 x1 x2, Frame [.glb, .link, .rings, .cnt, .execs, .parked, .src, .quires, .ports, .sp, .spr, .mgt, .bg, .out] x0 (badFrame x0 x1 x2) := by
  intro x0 x1 x2
  unfold badFrame
  extract_lets +onlyGivenNames -underBinder y1
  have hy1 : Frame [.glb, .link, .rings, .cnt, .execs, .parked, .src, .quires, .ports, .sp, .spr, .mgt, .bg, .out] x0 y1 := (State.modSrc_frame _ _ _).mono rfl
  try clear_value y1
  refine Frame.ite ?_ ?_
  · exact Frame.step (by assumption) (faultNow_frame _ _ _) (by rfl)
  · assumption

/-- What `goodReading` can change. -/
theorem goodReading_frame : ∀ x0 x1 x2 x3, Frame [.glb, .link, .rings, .cnt, .execs, .parked, .src, .quires, .ports, .sp, .spr, .mgt, .bg, .out] x0 (goodReading x0 x1 x2 x3) := by
  intro x0 x1 x2 x3
  unfold goodReading
  extract_lets +onlyGivenNames -underBinder y1
  try clear_value y1
  extract_lets +onlyGivenNames -underBinder y2
  try clear_value y2
  refine Frame.ite ?_ ?_
  · exact (State.modSrc_frame _ _ _).mono rfl
  · extract_lets +onlyGivenNames -underBinder y3
    try clear_value y3
    extract_lets +onlyGivenNames -underBinder y4
    try clear_value y4
    extract_lets +onlyGivenNames -underBinder y5
    have hy5 : Frame [.glb, .link, .rings, .cnt, .execs, .parked, .src, .quires, .ports, .sp, .spr, .mgt, .bg, .out] x0 y5 := (holdTracked_frame _ _).mono rfl
    try clear_value y5
    exact Frame.step (Frame.step (by assumption) (State.modSrc_frame _ _ _) (by rfl)) (srcMoved_frame _ _ _) (by rfl)

/-- What `soundFrame` can change. -/
theorem soundFrame_frame : ∀ x0 x1 x2 x3, Frame [.glb, .link, .rings, .cnt, .execs, .parked, .src, .quires, .ports, .sp, .spr, .mgt, .bg, .out] x0 (soundFrame x0 x1 x2 x3) := by
  intro x0 x1 x2 x3
  unfold soundFrame
  extract_lets +onlyGivenNames -underBinder y1
  try clear_value y1
  extract_lets +onlyGivenNames -underBinder y2
  have hy2 : Frame [.glb, .link, .rings, .cnt, .execs, .parked, .src, .quires, .ports, .sp, .spr, .mgt, .bg, .out] x0 y2 := (State.modSrc_frame _ _ _).mono rfl
  try clear_value y2
  extract_lets +onlyGivenNames -underBinder y3
  try clear_value y3
  refine Frame.ite ?_ ?_
  · exact Frame.step (by assumption) (faultNow_frame _ _ _) (by rfl)
  · extract_lets +onlyGivenNames -underBinder y4
    try clear_value y4
    extract_lets +onlyGivenNames -underBinder y5
    try clear_value y5
    extract_lets +onlyGivenNames -underBinder y6
    have hy6 : Frame [.glb, .link, .rings, .cnt, .execs, .parked, .src, .quires, .ports, .sp, .spr, .mgt, .bg, .out] x0 y6 := Frame.step (by assumption) (State.modSrc_frame _ _ _) (by rfl)
    try clear_value y6
    extract_lets +onlyGivenNames -underBinder y7
    try clear_value y7
    extract_lets +onlyGivenNames -underBinder y8
    have hy8 : Frame [.glb, .link, .rings, .cnt, .execs, .parked, .src, .quires, .ports, .sp, .spr, .mgt, .bg, .out] x0 y8 := Frame.step (by assumption) (goodReading_frame _ _ _ _) (by rfl)
    try clear_value y8
    refine Frame.ite ?_ ?_
    · exact Frame.step (Frame.step (by assumption) (encEvent_frame _ _ _) (by rfl)) (encFaultEvent_frame _ _ _ _) (by rfl)
    · assumption

/-- What `serialFrameEnd` can change. -/
theorem serialFrameEnd_frame : ∀ x0 x1 x2, Frame [.clk, .tb, .glb, .link, .rings, .cnt, .execs, .parked, .src, .quires, .ports, .sp, .spr, .mgt, .bg, .out] x2 (serialFrameEnd x0 x1 x2) := by
  intro x0 x1 x2
  unfold serialFrameEnd
  extract_lets +onlyGivenNames -underBinder y1
  try clear_value y1
  extract_lets +onlyGivenNames -underBinder y2
  try clear_value y2
  split
  · exact Frame.refl _ _
  · extract_lets +onlyGivenNames -underBinder y3
    have hy3 : Frame [.clk, .tb, .glb, .link, .rings, .cnt, .execs, .parked, .src, .quires, .ports, .sp, .spr, .mgt, .bg, .out] x2 y3 := Frame.step ((State.advanceTo_frame _ _).mono rfl) (State.modSrc_frame _ _ _) (by rfl)
    try clear_value y3
    refine Frame.ite ?_ ?_
    · assumption
    · refine Frame.ite ?_ ?_
      · exact Frame.step (by assumption) (badFrame_frame _ _ _) (by rfl)
      · refine Frame.ite ?_ ?_
        · exact Frame.step (by assumption) (badFrame_frame _ _ _) (by rfl)
        · refine Frame.ite ?_ ?_
          · exact Frame.step (by assumption) (badFrame_frame _ _ _) (by rfl)
          · exact Frame.step (by assumption) (soundFrame_frame _ _ _ _) (by rfl)

/-- What `encStall` can change. -/
theorem encStall_frame : ∀ x0 x1, Frame [.clk, .tb, .link, .rings, .cnt, .parked, .src, .sp, .spr, .out] x1 (encStall x0 x1) := by
  intro x0 x1
  unfold encStall
  extract_lets +onlyGivenNames -underBinder y1
  try clear_value y1
  split
  · exact Frame.refl _ _
  · refine Frame.ite ?_ ?_
    · extract_lets +onlyGivenNames -underBinder y2
      have hy2 : Frame [.clk, .tb, .link, .rings, .cnt, .parked, .src, .sp, .spr, .out] x1 y2 := Frame.step ((State.advanceTo_frame _ _).mono rfl) (holdTracked_frame _ _) (by rfl)
      try clear_value y2
      extract_lets +onlyGivenNames -underBinder y3
      have hy3 : Frame [.clk, .tb, .link, .rings, .cnt, .parked, .src, .sp, .spr, .out] x1 y3 := Frame.step (Frame.step (by assumption) (encEvent_frame _ _ _) (by rfl)) (State.modSrc_frame _ _ _) (by rfl)
      try clear_value y3
      exact Frame.step (by assumption) (encFaultEvent_frame _ _ _ _) (by rfl)
    · exact Frame.refl _ _

/-- What `remoteLost` can change. -/
theorem remoteLost_frame : ∀ x0 x1, Frame [.clk, .tb, .glb, .link, .rings, .cnt, .execs, .parked, .src, .quires, .ports, .sp, .spr, .mgt, .bg, .out] x1 (remoteLost x0 x1) := by
  intro x0 x1
  unfold remoteLost
  extract_lets +onlyGivenNames -underBinder y1
  try clear_value y1
  refine Frame.ite ?_ ?_
  · exact Frame.step ((State.advanceTo_frame _ _).mono rfl) (sourceFault_frame _ _ _) (by rfl)
  · exact Frame.refl _ _

/-- What `encConfig` can change. -/
theorem encConfig_frame : ∀ x0 x1 x2, Frame [.link, .rings, .cnt, .waiting, .parked, .src, .sp, .spr, .out] x2 (encConfig x0 x1 x2) := by
  intro x0 x1 x2
  unfold encConfig
  extract_lets +onlyGivenNames -underBinder y1
  try clear_value y1
  refine plainCmd_frame _ _ _ _ _ _ _ (by rfl) ?_
  exact Frame.step ((holdTracked_frame _ _).mono rfl) (State.modSrc_frame _ _ _) (by rfl)

/-- What `encQuery` can change. -/
theorem encQuery_frame : ∀ x0 x1 x2, Frame [.link, .rings, .cnt, .waiting, .parked, .sp, .spr, .mgt, .out] x2 (encQuery x0 x1 x2) := by
  intro x0 x1 x2
  unfold encQuery
  extract_lets +onlyGivenNames -underBinder y1
  try clear_value y1
  extract_lets +onlyGivenNames -underBinder y2
  try clear_value y2
  exact reportCmd_frame _ _ _ _ _ _ _ _ _ (by rfl)

/-- What `encPreset` can change. -/
theorem encPreset_frame : ∀ x0 x1 x2, Frame [.link, .rings, .cnt, .waiting, .parked, .src, .sp, .spr, .out] x2 (encPreset x0 x1 x2) := by
  intro x0 x1 x2
  unfold encPreset
  extract_lets +onlyGivenNames -underBinder y1
  try clear_value y1
  extract_lets +onlyGivenNames -underBinder y2
  try clear_value y2
  extract_lets +onlyGivenNames -underBinder y3
  try clear_value y3
  refine plainCmd_frame _ _ _ _ _ _ _ (by rfl) ?_
  refine Frame.ite ?_ ?_
  · exact (State.modSrc_frame _ _ _).mono rfl
  · exact (applyPreset_frame _ _ _).mono rfl

/-- What `quireBind` can change. -/
theorem quireBind_frame : ∀ x0 x1 x2, Frame [.link, .rings, .cnt, .waiting, .parked, .quires, .sp, .spr, .out] x2 (quireBind x0 x1 x2) := by
  intro x0 x1 x2
  unfold quireBind
  extract_lets +onlyGivenNames -underBinder y1
  try clear_value y1
  extract_lets +onlyGivenNames -underBinder y2
  try clear_value y2
  extract_lets +onlyGivenNames -underBinder y3
  try clear_value y3
  extract_lets +onlyGivenNames -underBinder y4
  try clear_value y4
  extract_lets +onlyGivenNames -underBinder y5
  try clear_value y5
  extract_lets +onlyGivenNames -underBinder y6
  try clear_value y6
  extract_lets +onlyGivenNames -underBinder y7
  try clear_value y7
  refine plainCmd_frame _ _ _ _ _ _ _ (by rfl) ?_
  exact (State.modQuire_frame _ _ _).mono rfl

/-! ### ThermEv -/

/-- What `thermEvent` can change. -/
theorem thermEvent_frame : ∀ x0 x1 x2 x3 x4 x5 x6 x7 x8 x9, Frame [.glb, .link, .rings, .cnt, .parked, .ports, .th, .sp, .spr, .out] x0 (thermEvent x0 x1 x2 x3 x4 x5 x6 x7 x8 x9) := by
  intro x0 x1 x2 x3 x4 x5 x6 x7 x8 x9
  unfold thermEvent
  extract_lets +onlyGivenNames -underBinder y1
  try clear_value y1
  extract_lets +onlyGivenNames -underBinder y2
  have hy2 : Frame [.glb, .link, .rings, .cnt, .parked, .ports, .th, .sp, .spr, .out] x0 y2 := Frame.upd (Frame.refl _ _) rfl rfl
  try clear_value y2
  extract_lets +onlyGivenNames -underBinder y3
  try clear_value y3
  split
  · exact Frame.step (Frame.step (by assumption) (setPwEvent_frame _ _ _) (by rfl)) (raise_frame _ _ _ _ _ _) (by rfl)
  · exact Frame.step (by assumption) (raise_frame _ _ _ _ _ _) (by rfl)

/-- What `headStop` can change. -/
theorem headStop_frame : ∀ x0 x1, Frame [.glb, .link, .rings, .cnt, .execs, .parked, .quires, .ports, .sp, .spr, .mgt, .bg, .out] x0 (headStop x0 x1) := by
  intro x0 x1
  unfold headStop
  split
  · exact Frame.refl _ _
  · refine Frame.ite ?_ ?_
    · exact Frame.refl _ _
    · split
      · refine Frame.ite ?_ ?_
        · exact (stopPort_frame _ _ _).mono rfl
        · exact (stopQuire_frame _ _ _).mono rfl
      · exact (stopQuire_frame _ _ _).mono rfl

/-- What `cutBoth` can change. -/
theorem cutBoth_frame : ∀ x0 x1, Frame [.ports, .out] x0 (cutBoth x0 x1) := by
  intro x0 x1
  unfold cutBoth
  exact Frame.step (Frame.step ((State.modPort_frame _ _ _).mono rfl) (State.emit_frame _ _) (by rfl)) (State.emit_frame _ _) (by rfl)

/-- What `absDetected` can change. -/
theorem absDetected_frame : ∀ x0 x1 x2 x3 x4, Frame [.glb, .link, .rings, .cnt, .execs, .parked, .quires, .ports, .th, .sp, .spr, .mgt, .bg, .out] x0 (absDetected x0 x1 x2 x3 x4) := by
  intro x0 x1 x2 x3 x4
  unfold absDetected
  extract_lets +onlyGivenNames -underBinder y1
  try clear_value y1
  extract_lets +onlyGivenNames -underBinder y2
  have hy2 : Frame [.glb, .link, .rings, .cnt, .execs, .parked, .quires, .ports, .th, .sp, .spr, .mgt, .bg, .out] x0 y2 := Frame.step ((cutBoth_frame _ _).mono rfl) (heaterOff_frame _ _) (by rfl)
  try clear_value y2
  extract_lets +onlyGivenNames -underBinder y3
  have hy3 : Frame [.glb, .link, .rings, .cnt, .execs, .parked, .quires, .ports, .th, .sp, .spr, .mgt, .bg, .out] x0 y3 := Frame.step (by assumption) (State.modPort_frame _ _ _) (by rfl)
  try clear_value y3
  exact Frame.step (Frame.step (by assumption) (headStop_frame _ _) (by rfl)) (thermEvent_frame _ _ _ _ _ _ _ _ _ _) (by rfl)

/-- What `checkAbs` can change. -/
theorem checkAbs_frame : ∀ x0 x1 x2, Frame [.glb, .link, .rings, .cnt, .execs, .parked, .quires, .ports, .th, .sp, .spr, .mgt, .bg, .out] x0 (checkAbs x0 x1 x2) := by
  intro x0 x1 x2
  unfold checkAbs
  split
  · refine Frame.ite ?_ ?_
    · refine Frame.ite ?_ ?_
      · exact (State.modPort_frame _ _ _).mono rfl
      · exact Frame.refl _ _
    · refine Frame.ite ?_ ?_
      · exact (absDetected_frame _ _ _ _ _).mono rfl
      · exact Frame.refl _ _
  · exact Frame.refl _ _

/-- What `sensorCleared` can change. -/
theorem sensorCleared_frame : ∀ x0 x1 x2, Frame [.glb, .link, .rings, .cnt, .parked, .ports, .th, .sp, .spr, .out] x0 (sensorCleared x0 x1 x2) := by
  intro x0 x1 x2
  unfold sensorCleared
  refine Frame.ite ?_ ?_
  · exact Frame.step ((State.modPort_frame _ _ _).mono rfl) (thermEvent_frame _ _ _ _ _ _ _ _ _ _) (by rfl)
  · exact Frame.refl _ _

/-- What `endHeadEpisode` can change. -/
theorem endHeadEpisode_frame : ∀ x0 x1 x2 x3 x4, Frame [.glb, .link, .rings, .cnt, .parked, .reqs, .ports, .th, .sp, .spr, .out] x0 (endHeadEpisode x0 x1 x2 x3 x4) := by
  intro x0 x1 x2 x3 x4
  unfold endHeadEpisode
  extract_lets +onlyGivenNames -underBinder y1
  try clear_value y1
  refine Frame.ite ?_ ?_
  · exact Frame.refl _ _
  · extract_lets +onlyGivenNames -underBinder y2
    have hy2 : Frame [.glb, .link, .rings, .cnt, .parked, .reqs, .ports, .th, .sp, .spr, .out] x0 y2 := by
      refine Frame.ite ?_ ?_
      · exact Frame.step ((withdraw_frame _ _ _).mono rfl) (thermEvent_frame _ _ _ _ _ _ _ _ _ _) (by rfl)
      · exact Frame.refl _ _
    try clear_value y2
    exact Frame.step (Frame.step (by assumption) (State.modPort_frame _ _ _) (by rfl)) (thermEvent_frame _ _ _ _ _ _ _ _ _ _) (by rfl)

/-- What `endMinjet` can change. -/
theorem endMinjet_frame : ∀ x0 x1 x2 x3 x4, Frame [.glb, .link, .rings, .cnt, .parked, .reqs, .ports, .th, .sp, .spr, .out] x0 (endMinjet x0 x1 x2 x3 x4) := by
  intro x0 x1 x2 x3 x4
  unfold endMinjet
  refine Frame.ite ?_ ?_
  · exact Frame.step (Frame.step ((withdraw_frame _ _ _).mono rfl) (State.modPort_frame _ _ _) (by rfl)) (thermEvent_frame _ _ _ _ _ _ _ _ _ _) (by rfl)
  · exact Frame.refl _ _

/-- What `endColdWarn` can change. -/
theorem endColdWarn_frame : ∀ x0 x1 x2 x3 x4, Frame [.glb, .link, .rings, .cnt, .parked, .ports, .th, .sp, .spr, .out] x0 (endColdWarn x0 x1 x2 x3 x4) := by
  intro x0 x1 x2 x3 x4
  unfold endColdWarn
  refine Frame.ite ?_ ?_
  · exact Frame.step ((State.modPort_frame _ _ _).mono rfl) (thermEvent_frame _ _ _ _ _ _ _ _ _ _) (by rfl)
  · exact Frame.refl _ _

/-- What `closeTherm` can change. -/
theorem closeTherm_frame : ∀ x0 x1, Frame [.glb, .link, .rings, .cnt, .parked, .reqs, .ports, .th, .sp, .spr, .out] x0 (closeTherm x0 x1) := by
  intro x0 x1
  unfold closeTherm
  split
  · exact (State.modPort_frame _ _ _).mono rfl
  · extract_lets +onlyGivenNames -underBinder y1
    have hy1 : Frame [.glb, .link, .rings, .cnt, .parked, .reqs, .ports, .th, .sp, .spr, .out] x0 y1 := (endHeadEpisode_frame _ _ _ _ _).mono rfl
    try clear_value y1
    extract_lets +onlyGivenNames -underBinder y2
    have hy2 : Frame [.glb, .link, .rings, .cnt, .parked, .reqs, .ports, .th, .sp, .spr, .out] x0 y2 := Frame.step (Frame.step (by assumption) (endMinjet_frame _ _ _ _ _) (by rfl)) (endColdWarn_frame _ _ _ _ _) (by rfl)
    try clear_value y2
    exact Frame.step (Frame.step (Frame.step (by assumption) (sensorCleared_frame _ _ _) (by rfl)) (sensorCleared_frame _ _ _) (by rfl)) (State.modPort_frame _ _ _) (by rfl)

/-! ### HeadMem -/

/-- What `linkError` can change. -/
theorem linkError_frame : ∀ x0 x1 x2 x3, Frame [.glb, .link, .rings, .cnt, .execs, .parked, .quires, .ports, .sp, .spr, .mgt, .bg, .out] x0 (linkError x0 x1 x2 x3) := by
  intro x0 x1 x2 x3
  unfold linkError
  extract_lets +onlyGivenNames -underBinder y1
  try clear_value y1
  extract_lets +onlyGivenNames -underBinder y2
  try clear_value y2
  extract_lets +onlyGivenNames -underBinder y3
  have hy3 : Frame [.glb, .link, .rings, .cnt, .execs, .parked, .quires, .ports, .sp, .spr, .mgt, .bg, .out] x0 y3 := (State.modPort_frame _ _ _).mono rfl
  try clear_value y3
  extract_lets +onlyGivenNames -underBinder y4
  have hy4 : Frame [.glb, .link, .rings, .cnt, .execs, .parked, .quires, .ports, .sp, .spr, .mgt, .bg, .out] x0 y4 := by
    refine Frame.ite ?_ ?_
    · assumption
    · exact Frame.step (Frame.step (by assumption) (setPwEvent_frame _ _ _) (by rfl)) (raise_frame _ _ _ _ _ _) (by rfl)
  try clear_value y4
  extract_lets +onlyGivenNames -underBinder y5
  try clear_value y5
  refine Frame.ite ?_ ?_
  · exact Frame.step (by assumption) (portFault_frame _ _ _) (by rfl)
  · assumption

/-- What `statusBlock` can change. -/
theorem statusBlock_frame : ∀ x0 x1 x2, Frame [.glb, .link, .rings, .cnt, .execs, .parked, .quires, .ports, .sp, .spr, .mgt, .bg, .out] x0 (statusBlock x0 x1 x2) := by
  intro x0 x1 x2
  unfold statusBlock
  extract_lets +onlyGivenNames -underBinder y1
  try clear_value y1
  refine Frame.ite ?_ ?_
  · exact Frame.refl _ _
  · refine Frame.ite ?_ ?_
    · exact (State.modPort_frame _ _ _).mono rfl
    · extract_lets +onlyGivenNames -underBinder y2
      try clear_value y2
      extract_lets +onlyGivenNames -underBinder y3
      have hy3 : Frame [.glb, .link, .rings, .cnt, .execs, .parked, .quires, .ports, .sp, .spr, .mgt, .bg, .out] x0 y3 := (State.modPort_frame _ _ _).mono rfl
      try clear_value y3
      extract_lets +onlyGivenNames -underBinder y4
      have hy4 : Frame [.glb, .link, .rings, .cnt, .execs, .parked, .quires, .ports, .sp, .spr, .mgt, .bg, .out] x0 y4 := by
        unfold y4
        split
        · refine Frame.ite ?_ ?_
          · exact Frame.step (by assumption) (linkError_frame _ _ _ _) (by rfl)
          · assumption
        · assumption
      try clear_value y4
      refine Frame.ite ?_ ?_
      · exact Frame.step (by assumption) (portFault_frame _ _ _) (by rfl)
      · assumption

/-- What `addJob` can change. -/
theorem addJob_frame : ∀ x0 x1 x2, Frame [.ports] x0 (addJob x0 x1 x2) := by
  intro x0 x1 x2
  unfold addJob
  exact (State.modPort_frame _ _ _).mono rfl

/-- What `setJob` can change. -/
theorem setJob_frame : ∀ x0 x1 x2, Frame [.ports] x0 (setJob x0 x1 x2) := by
  intro x0 x1 x2
  unfold setJob
  exact (State.modPort_frame _ _ _).mono rfl

/-- What `addCommit` can change. -/
theorem addCommit_frame : ∀ x0 x1 x2, Frame [.ports, .bg] x0 (addCommit x0 x1 x2) := by
  intro x0 x1 x2
  unfold addCommit
  extract_lets +onlyGivenNames -underBinder y1
  try clear_value y1
  extract_lets +onlyGivenNames -underBinder y2
  have hy2 : Frame [.ports, .bg] x0 y2 := by
    refine Frame.ite ?_ ?_
    · exact Frame.refl _ _
    · exact (addJob_frame _ _ _).mono rfl
  try clear_value y2
  extract_lets +onlyGivenNames -underBinder y3
  try clear_value y3
  extract_lets +onlyGivenNames -underBinder y4
  have hy4 : Frame [.ports, .bg] x0 y4 := Frame.upd (by assumption) rfl rfl
  try clear_value y4
  exact Frame.step (by assumption) (addJob_frame _ _ _) (by rfl)

/-- What `backFromOpening` can change. -/
theorem backFromOpening_frame : ∀ x0 x1, Frame [.glb, .link, .rings, .cnt, .parked, .ports, .sp, .spr, .out] x0 (backFromOpening x0 x1) := by
  intro x0 x1
  unfold backFromOpening
  extract_lets +onlyGivenNames -underBinder y1
  try clear_value y1
  extract_lets +onlyGivenNames -underBinder y2
  try clear_value y2
  exact Frame.step (Frame.step (Frame.step ((State.emit_frame _ _).mono rfl) (State.modPort_frame _ _ _) (by rfl)) (portTo_frame _ _ _ _) (by rfl)) (faultEdge_frame _) (by rfl)

/-- What `openFails.closeThermIf` can change. -/
theorem openFails.closeThermIf_frame : ∀ x0 x1, Frame [.glb, .link, .rings, .cnt, .parked, .reqs, .ports, .th, .sp, .spr, .out] x0 (openFails.closeThermIf x0 x1) := by
  intro x0 x1
  unfold openFails.closeThermIf
  refine Frame.ite ?_ ?_
  · exact Frame.refl _ _
  · exact (closeTherm_frame _ _).mono rfl

/-- What `openFails` can change. -/
theorem openFails_frame : ∀ x0 x1 x2 x3, Frame [.glb, .link, .rings, .cnt, .execs, .parked, .reqs, .ports, .th, .sp, .spr, .out] x0 (openFails x0 x1 x2 x3) := by
  intro x0 x1 x2 x3
  unfold openFails
  split
  · exact Frame.refl _ _
  · exact Frame.step (Frame.step ((openFails.closeThermIf_frame _ _).mono rfl) (backFromOpening_frame _ _) (by rfl)) (endExec_frame _ _ _ _) (by rfl)

/-- What `startTraining` can change. -/
theorem startTraining_frame : ∀ x0 x1, Frame [.glb, .link, .cnt, .ports, .out] x0 (startTraining x0 x1) := by
  intro x0 x1
  unfold startTraining
  extract_lets +onlyGivenNames -underBinder y1
  try clear_value y1
  extract_lets +onlyGivenNames -underBinder y2
  have hy2 : Frame [.glb, .link, .cnt, .ports, .out] x0 y2 := Frame.step ((State.emit_frame _ _).mono rfl) (State.modPort_frame _ _ _) (by rfl)
  try clear_value y2
  refine Frame.ite ?_ ?_
  · exact Frame.step (Frame.step (by assumption) (sendCodes_frame _ _ _ _) (by rfl)) (latchWord_frame _ _ _ _) (by rfl)
  · refine Frame.ite ?_ ?_
    · exact Frame.step (by assumption) (addJob_frame _ _ _) (by rfl)
    · assumption

/-- What `identRead` can change. -/
theorem identRead_frame : ∀ x0 x1 x2, Frame [.glb, .link, .rings, .cnt, .execs, .parked, .reqs, .ports, .th, .sp, .spr, .out] x0 (identRead x0 x1 x2) := by
  intro x0 x1 x2
  unfold identRead
  split
  · exact Frame.refl _ _
  · extract_lets +onlyGivenNames -underBinder y1
    try clear_value y1
    refine Frame.ite ?_ ?_
    · exact (openFails_frame _ _ _ _).mono rfl
    · exact Frame.step (Frame.step ((State.modExec_frame _ _ _).mono rfl) (State.modPort_frame _ _ _) (by rfl)) (startTraining_frame _ _) (by rfl)

/-- What `closePort` can change. -/
theorem closePort_frame : ∀ x0 x1, Frame [.glb, .link, .rings, .cnt, .execs, .parked, .quires, .reqs, .ports, .th, .sp, .spr, .mgt, .bg, .out] x0 (closePort x0 x1) := by
  intro x0 x1
  unfold closePort
  extract_lets +onlyGivenNames -underBinder y1
  have hy1 : Frame [.glb, .link, .rings, .cnt, .execs, .parked, .quires, .reqs, .ports, .th, .sp, .spr, .mgt, .bg, .out] x0 y1 := by
    refine Frame.ite ?_ ?_
    · exact (stopPort_frame _ _ _).mono rfl
    · exact Frame.refl _ _
  try clear_value y1
  extract_lets +onlyGivenNames -underBinder y2
  have hy2 : Frame [.glb, .link, .rings, .cnt, .execs, .parked, .quires, .reqs, .ports, .th, .sp, .spr, .mgt, .bg, .out] x0 y2 := Frame.step (Frame.step (Frame.step (by assumption) (abortLearn_frame _ _) (by rfl)) (heaterOff_frame _ _) (by rfl)) (closeTherm_frame _ _) (by rfl)
  try clear_value y2
  exact Frame.step (Frame.step (Frame.step (Frame.step (by assumption) (State.emit_frame _ _) (by rfl)) (State.modPort_frame _ _ _) (by rfl)) (portTo_frame _ _ _ _) (by rfl)) (faultEdge_frame _) (by rfl)

/-- What `commitReply` can change. -/
theorem commitReply_frame : ∀ x0 x1 x2 x3, Frame [.glb, .link, .rings, .cnt, .execs, .parked, .quires, .reqs, .ports, .th, .sp, .spr, .mgt, .bg, .out] x0 (commitReply x0 x1 x2 x3) := by
  intro x0 x1 x2 x3
  unfold commitReply
  split
  · exact Frame.refl _ _
  · split
    · exact Frame.refl _ _
    · refine Frame.ite ?_ ?_
      · exact Frame.step ((closePort_frame _ _).mono rfl) (endExec_frame _ _ _ _) (by rfl)
      · exact (endExec_frame _ _ _ _).mono rfl

/-- What `lockRead` can change. -/
theorem lockRead_frame : ∀ x0 x1 x2 x3, Frame [.ports] x0 (lockRead x0 x1 x2 x3) := by
  intro x0 x1 x2 x3
  unfold lockRead
  extract_lets +onlyGivenNames -underBinder y1
  have hy1 : Frame [.ports] x0 y1 := (State.modPort_frame _ _ _).mono rfl
  try clear_value y1
  extract_lets +onlyGivenNames -underBinder y2
  try clear_value y2
  refine Frame.ite ?_ ?_
  · assumption
  · exact Frame.step (Frame.step (by assumption) (State.modPort_frame _ _ _) (by rfl)) (addJob_frame _ _ _) (by rfl)

/-- What `jobOver` can change. -/
theorem jobOver_frame : ∀ x0 x1 x2 x3, Frame [.glb, .link, .rings, .cnt, .execs, .parked, .quires, .reqs, .ports, .th, .sp, .spr, .mgt, .bg, .out] x0 (jobOver x0 x1 x2 x3) := by
  intro x0 x1 x2 x3
  unfold jobOver
  split
  · exact Frame.refl _ _
  · refine Frame.ite ?_ ?_
    · exact (identRead_frame _ _ _).mono rfl
    · exact (openFails_frame _ _ _ _).mono rfl
  · exact (lockRead_frame _ _ _ _).mono rfl
  · refine Frame.ite ?_ ?_
    · exact (statusBlock_frame _ _ _).mono rfl
    · exact Frame.refl _ _
  · split
    · exact Frame.refl _ _
    · refine Frame.ite ?_ ?_
      · exact (endExec_frame _ _ _ _).mono rfl
      · refine Frame.ite ?_ ?_
        · exact (finishWrite_frame _ _ _ _ _).mono rfl
        · exact (endExec_frame _ _ _ _).mono rfl
  · refine Frame.ite ?_ ?_
    · exact (State.modPort_frame _ _ _).mono rfl
    · exact Frame.refl _ _
  · extract_lets +onlyGivenNames -underBinder y1
    try clear_value y1
    extract_lets +onlyGivenNames -underBinder y2
    have hy2 : Frame [.glb, .link, .rings, .cnt, .execs, .parked, .quires, .reqs, .ports, .th, .sp, .spr, .mgt, .bg, .out] x0 y2 := Frame.upd (Frame.refl _ _) rfl rfl
    try clear_value y2
    extract_lets +onlyGivenNames -underBinder y3
    have hy3 : Frame [.glb, .link, .rings, .cnt, .execs, .parked, .quires, .reqs, .ports, .th, .sp, .spr, .mgt, .bg, .out] x0 y3 := by
      refine Frame.ite ?_ ?_
      · exact Frame.step (by assumption) (State.modPort_frame _ _ _) (by rfl)
      · assumption
    try clear_value y3
    exact Frame.step (by assumption) (commitReply_frame _ _ _ _) (by rfl)

/-- What `prepareCommit` can change. -/
theorem prepareCommit_frame : ∀ x0 x1 x2, Frame [.ports] x0 (prepareCommit x0 x1 x2) := by
  intro x0 x1 x2
  unfold prepareCommit
  extract_lets +onlyGivenNames -underBinder y1
  have hy1 : Frame [.ports] x0 y1 := (State.modPort_frame _ _ _).mono rfl
  try clear_value y1
  extract_lets +onlyGivenNames -underBinder y2
  try clear_value y2
  extract_lets +onlyGivenNames -underBinder y3
  try clear_value y3
  extract_lets +onlyGivenNames -underBinder y4
  try clear_value y4
  exact Frame.step (by assumption) (setJob_frame _ _ _) (by rfl)

/-- What `sendPage` can change. -/
theorem sendPage_frame : ∀ x0 x1 x2, Frame [.ports, .out] x0 (sendPage x0 x1 x2) := by
  intro x0 x1 x2
  unfold sendPage
  extract_lets +onlyGivenNames -underBinder y1
  try clear_value y1
  extract_lets +onlyGivenNames -underBinder y2
  have hy2 : Frame [.ports, .out] x0 y2 := (setJob_frame _ _ _).mono rfl
  try clear_value y2
  refine Frame.ite ?_ ?_
  · exact Frame.step (Frame.step (by assumption) (State.emit_frame _ _) (by rfl)) (State.emit_frame _ _) (by rfl)
  · refine Frame.ite ?_ ?_
    all_goals
      exact Frame.step (by assumption) (State.emit_frame _ _) (by rfl)

/-- What `pump` can change. -/
theorem pump_frame : ∀ n s p, Frame [.glb, .link, .rings, .cnt, .execs, .parked, .quires, .reqs, .ports, .th, .sp, .spr, .mgt, .bg, .out] s (pump n s p) := by
  intro n
  induction n with
  | zero => exact fun s p => Frame.refl _ _
  | succ n ih =>
    intro s p
    unfold pump
    dsimp only
    split
    · exact Frame.refl _ _
    · refine Frame.ite (Frame.refl _ _) (Frame.ite ?_ ?_)
      · exact Frame.ite (Frame.trans ((State.modPort_frame _ _ _).mono rfl) (ih _ _))
          (Frame.ite (Frame.refl _ _) (Frame.trans ((State.modPort_frame _ _ _).mono rfl) (ih _ _)))
      · split
        · have h : ∀ (u : State), Frame [.glb, .link, .rings, .cnt, .execs, .parked, .quires, .reqs, .ports, .th, .sp, .spr, .mgt, .bg, .out] s u → Frame [.glb, .link, .rings, .cnt, .execs, .parked, .quires, .reqs, .ports, .th, .sp, .spr, .mgt, .bg, .out] s (match (u.port p).hm with
              | k :: _ => sendPage u p k
              | [] => u) := by
            intro u hu
            split
            · exact Frame.step hu (sendPage_frame _ _ _) (by rfl)
            · exact hu
          apply h
          split
          · exact Frame.ite ((prepareCommit_frame _ _ _).mono rfl) (Frame.refl _ _)
          · exact Frame.refl _ _
        · exact Frame.trans (Frame.step ((State.modPort_frame _ _ _).mono rfl) (jobOver_frame _ _ _ _) (by rfl)) (ih _ _)

/-- What `pumpHead` can change. -/
theorem pumpHead_frame : ∀ x0 x1, Frame [.glb, .link, .rings, .cnt, .execs, .parked, .quires, .reqs, .ports, .th, .sp, .spr, .mgt, .bg, .out] x0 (pumpHead x0 x1) := by
  intro x0 x1
  unfold pumpHead
  exact (pump_frame _ _ _).mono rfl

/-- What `pageDone` can change. -/
theorem pageDone_frame : ∀ x0 x1 x2 x3, Frame [.glb, .link, .rings, .cnt, .execs, .parked, .quires, .reqs, .ports, .th, .sp, .spr, .mgt, .bg, .out] x0 (pageDone x0 x1 x2 x3) := by
  intro x0 x1 x2 x3
  unfold pageDone
  extract_lets +onlyGivenNames -underBinder y1
  try clear_value y1
  split
  · exact Frame.refl _ _
  · extract_lets +onlyGivenNames -underBinder y2
    try clear_value y2
    extract_lets +onlyGivenNames -underBinder y3
    have hy3 : ∀ a0y3 a1y3, Frame [.glb, .link, .rings, .cnt, .execs, .parked, .quires, .reqs, .ports, .th, .sp, .spr, .mgt, .bg, .out] x0 (y3 a0y3 a1y3) := by
      intro a0y3 a1y3
      unfold y3
      exact Frame.step (Frame.step ((State.modPort_frame _ _ _).mono rfl) (jobOver_frame _ _ _ _) (by rfl)) (pumpHead_frame _ _) (by rfl)
    try clear_value y3
    refine Frame.ite ?_ ?_
    · exact Frame.refl _ _
    · refine Frame.ite ?_ ?_
      · exact hy3 _ _
      · refine Frame.ite ?_ ?_
        · extract_lets +onlyGivenNames -underBinder y4
          try clear_value y4
          refine Frame.ite ?_ ?_
          · split
            · exact hy3 _ _
            · exact Frame.step ((setJob_frame _ _ _).mono rfl) (pumpHead_frame _ _) (by rfl)
          · exact Frame.step ((setJob_frame _ _ _).mono rfl) (pumpHead_frame _ _) (by rfl)
        · extract_lets +onlyGivenNames -underBinder y5
          try clear_value y5
          refine Frame.ite ?_ ?_
          · exact hy3 _ _
          · exact Frame.step ((setJob_frame _ _ _).mono rfl) (pumpHead_frame _ _) (by rfl)

/-- What `dropJobs` can change. -/
theorem dropJobs_frame : ∀ x0 x1 x2 x3, Frame [.glb, .link, .rings, .cnt, .execs, .parked, .quires, .reqs, .ports, .th, .sp, .spr, .mgt, .bg, .out] x0 (dropJobs x0 x1 x2 x3) := by
  intro x0 x1 x2 x3
  unfold dropJobs
  extract_lets +onlyGivenNames -underBinder y1
  try clear_value y1
  extract_lets +onlyGivenNames -underBinder y2
  try clear_value y2
  extract_lets +onlyGivenNames -underBinder y3
  have hy3 : Frame [.glb, .link, .rings, .cnt, .execs, .parked, .quires, .reqs, .ports, .th, .sp, .spr, .mgt, .bg, .out] x0 y3 := (State.modPort_frame _ _ _).mono rfl
  try clear_value y3
  refine Frame.step ?_ (pumpHead_frame _ _) (by rfl)
  refine Frame.foldl (fun t4 _ => ?_) _ _ ?_
  · exact (jobOver_frame _ _ _ _).mono rfl
  · assumption

/-- What `i2cDone` can change. -/
theorem i2cDone_frame : ∀ x0 x1 x2 x3, Frame [.glb, .link, .rings, .cnt, .execs, .parked, .quires, .reqs, .ports, .th, .sp, .spr, .mgt, .bg, .out] x3 (i2cDone x0 x1 x2 x3) := by
  intro x0 x1 x2 x3
  unfold i2cDone
  split
  · refine Frame.ite ?_ ?_
    · exact (pageDone_frame _ _ _ _).mono rfl
    · exact Frame.refl _ _
  · exact Frame.refl _ _

/-- What `headReply` can change. -/
theorem headReply_frame : ∀ x0 x1 x2, Frame [.glb, .link, .rings, .cnt, .execs, .parked, .quires, .reqs, .ports, .th, .sp, .spr, .mgt, .bg, .out] x2 (headReply x0 x1 x2) := by
  intro x0 x1 x2
  unfold headReply
  extract_lets +onlyGivenNames -underBinder y1
  try clear_value y1
  extract_lets +onlyGivenNames -underBinder y2
  try clear_value y2
  split
  · refine Frame.ite ?_ ?_
    · extract_lets +onlyGivenNames -underBinder y3
      have hy3 : Frame [.glb, .link, .rings, .cnt, .execs, .parked, .quires, .reqs, .ports, .th, .sp, .spr, .mgt, .bg, .out] x2 y3 := by
        refine Frame.ite ?_ ?_
        · exact Frame.refl _ _
        · exact (linkError_frame _ _ _ _).mono rfl
      try clear_value y3
      exact Frame.step (by assumption) (pageDone_frame _ _ _ _) (by rfl)
    · exact Frame.refl _ _
  · exact Frame.refl _ _

/-- What `wearPeriodic` can change. -/
theorem wearPeriodic_frame : ∀ x0 x1, Frame [.clk, .tb, .glb, .link, .rings, .cnt, .execs, .parked, .quires, .reqs, .ports, .th, .sp, .spr, .mgt, .bg, .out] x1 (wearPeriodic x0 x1) := by
  intro x0 x1
  unfold wearPeriodic
  extract_lets +onlyGivenNames -underBinder y1
  try clear_value y1
  refine Frame.ite ?_ ?_
  · exact Frame.refl _ _
  · extract_lets +onlyGivenNames -underBinder y2
    have hy2 : Frame [.clk, .tb, .glb, .link, .rings, .cnt, .execs, .parked, .quires, .reqs, .ports, .th, .sp, .spr, .mgt, .bg, .out] x1 y2 := (State.advanceTo_frame _ _).mono rfl
    try clear_value y2
    extract_lets +onlyGivenNames -underBinder y3
    have hy3 : Frame [.clk, .tb, .glb, .link, .rings, .cnt, .execs, .parked, .quires, .reqs, .ports, .th, .sp, .spr, .mgt, .bg, .out] x1 y3 := Frame.step (by assumption) (State.modPort_frame _ _ _) (by rfl)
    try clear_value y3
    exact Frame.step (Frame.step (by assumption) (addCommit_frame _ _ _) (by rfl)) (pumpHead_frame _ _) (by rfl)

/-! ### Jobs -/

/-- What `evalStop` can change. -/
theorem evalStop_frame : ∀ x0 x1 x2, Frame [.glb, .link, .rings, .cnt, .execs, .parked, .quires, .ports, .sp, .spr, .mgt, .bg, .out] x0 (evalStop x0 x1 x2) := by
  intro x0 x1 x2
  unfold evalStop
  extract_lets +onlyGivenNames -underBinder y1
  try clear_value y1
  extract_lets +onlyGivenNames -underBinder y2
  have hy2 : Frame [.glb, .link, .rings, .cnt, .execs, .parked, .quires, .ports, .sp, .spr, .mgt, .bg, .out] x0 y2 := (State.modQuire_frame _ _ _).mono rfl
  try clear_value y2
  extract_lets +onlyGivenNames -underBinder y3
  have hy3 : Frame [.glb, .link, .rings, .cnt, .execs, .parked, .quires, .ports, .sp, .spr, .mgt, .bg, .out] x0 y3 := Frame.step (by assumption) (State.modQuire_frame _ _ _) (by rfl)
  try clear_value y3
  refine Frame.ite ?_ ?_
  · assumption
  · refine Frame.ite ?_ ?_
    all_goals
      refine Frame.ite ?_ ?_
      · exact Frame.step (by assumption) (stopQuire_frame _ _ _) (by rfl)
      · assumption

/-- What `aimAt` can change. -/
theorem aimAt_frame : ∀ x0 x1 x2, Frame [.quires, .ports] x0 (aimAt x0 x1 x2) := by
  intro x0 x1 x2
  unfold aimAt
  extract_lets +onlyGivenNames -underBinder y1
  have hy1 : Frame [.quires, .ports] x0 y1 := (State.modQuire_frame _ _ _).mono rfl
  try clear_value y1
  refine Frame.step ?_ (aimFirst_frame _ _) (by rfl)
  refine Frame.foldl (fun t2 _ => ?_) _ _ ?_
  · exact (State.modPort_frame _ _ _).mono rfl
  · assumption

/-- What `reaim` can change. -/
theorem reaim_frame : ∀ x0 x1 x2, Frame [.link, .rings, .cnt, .parked, .quires, .ports, .sp, .spr, .out] x0 (reaim x0 x1 x2) := by
  intro x0 x1 x2
  unfold reaim
  extract_lets +onlyGivenNames -underBinder y1
  try clear_value y1
  extract_lets +onlyGivenNames -underBinder y2
  try clear_value y2
  refine Frame.ite ?_ ?_
  · exact (aimAt_frame _ _ _).mono rfl
  · refine Frame.ite ?_ ?_
    · exact Frame.step (Frame.step ((aimAt_frame _ _ _).mono rfl) (startLate_frame _ _ _) (by rfl)) (lateStartEvent_frame _ _ _ _ _ _) (by rfl)
    · exact (lateStartEvent_frame _ _ _ _ _ _).mono rfl

/-- What `jobDefine` can change. -/
theorem jobDefine_frame : ∀ x0 x1 x2, Frame [.link, .rings, .cnt, .waiting, .parked, .quires, .sp, .spr, .out] x2 (jobDefine x0 x1 x2) := by
  intro x0 x1 x2
  unfold jobDefine
  extract_lets +onlyGivenNames -underBinder y1
  try clear_value y1
  extract_lets +onlyGivenNames -underBinder y2
  try clear_value y2
  refine plainCmd_frame _ _ _ _ _ _ _ (by rfl) ?_
  exact (State.modQuire_frame _ _ _).mono rfl

/-- What `standing` can change. -/
theorem standing_frame : ∀ x0 x1, Frame [.glb, .link, .rings, .cnt, .execs, .parked, .quires, .reqs, .ports, .sp, .spr, .mgt, .bg, .out] x0 (standing x0 x1) := by
  intro x0 x1
  unfold standing
  extract_lets +onlyGivenNames -underBinder y1
  try clear_value y1
  extract_lets +onlyGivenNames -underBinder y2
  have hy2 : ∀ a0y2 a1y2 a2y2, Frame [.glb, .link, .rings, .cnt, .execs, .parked, .quires, .reqs, .ports, .sp, .spr, .mgt, .bg, .out] a0y2 (y2 a0y2 a1y2 a2y2) := by
    intro a0y2 a1y2 a2y2
    unfold y2
    refine Frame.ite ?_ ?_
    · exact Frame.refl _ _
    · refine Frame.ite ?_ ?_
      · exact (request_frame _ _ _ _).mono rfl
      · refine Frame.ite ?_ ?_
        · exact (stopQuire_frame _ _ _).mono rfl
        · exact Frame.refl _ _
  try clear_value y2
  extract_lets +onlyGivenNames -underBinder y3
  have hy3 : Frame [.glb, .link, .rings, .cnt, .execs, .parked, .quires, .reqs, .ports, .sp, .spr, .mgt, .bg, .out] x0 y3 := by
    unfold y3
    refine Frame.trans ?_ (hy2 _ _ _)
    exact hy2 _ _ _
  try clear_value y3
  refine Frame.ite ?_ ?_
  · exact Frame.step (by assumption) (stopQuire_frame _ _ _) (by rfl)
  · assumption

/-- What `armPort` can change. -/
theorem armPort_frame : ∀ x0 x1 x2, Frame [.glb, .link, .rings, .cnt, .parked, .ports, .sp, .spr, .out] x0 (armPort x0 x1 x2) := by
  intro x0 x1 x2
  unfold armPort
  exact Frame.step ((State.modPort_frame _ _ _).mono rfl) (portTo_frame _ _ _ _) (by rfl)

/-- What `damagedPorts` can change. -/
theorem damagedPorts_frame : ∀ x0 x1, Frame [.glb, .link, .rings, .cnt, .execs, .parked, .quires, .ports, .sp, .spr, .mgt, .bg, .out] x0 (damagedPorts x0 x1) := by
  intro x0 x1
  unfold damagedPorts
  refine Frame.foldl (fun t1 _ => ?_) _ _ ?_
  · split
    · refine Frame.ite ?_ ?_
      · exact Frame.refl _ _
      · exact (stopPort_frame _ _ _).mono rfl
    · exact Frame.refl _ _
  · exact Frame.refl _ _

/-- What `armQuire` can change. -/
theorem armQuire_frame : ∀ x0 x1 x2 x3 x4, Frame [.glb, .link, .rings, .cnt, .execs, .parked, .quires, .reqs, .ports, .sp, .spr, .mgt, .bg, .out] x0 (armQuire x0 x1 x2 x3 x4) := by
  intro x0 x1 x2 x3 x4
  unfold armQuire
  extract_lets +onlyGivenNames -underBinder y1
  try clear_value y1
  extract_lets +onlyGivenNames -underBinder y2
  try clear_value y2
  extract_lets +onlyGivenNames -underBinder y3
  try clear_value y3
  extract_lets +onlyGivenNames -underBinder y4
  try clear_value y4
  extract_lets +onlyGivenNames -underBinder y5
  have hy5 : Frame [.glb, .link, .rings, .cnt, .execs, .parked, .quires, .reqs, .ports, .sp, .spr, .mgt, .bg, .out] x0 y5 := (State.modQuire_frame _ _ _).mono rfl
  try clear_value y5
  extract_lets +onlyGivenNames -underBinder y6
  have hy6 : Frame [.glb, .link, .rings, .cnt, .execs, .parked, .quires, .reqs, .ports, .sp, .spr, .mgt, .bg, .out] x0 y6 := by
    refine Frame.foldl (fun t7 _ => ?_) _ _ ?_
    · exact Frame.step ((swapPort_frame _ _ _ _).mono rfl) (armPort_frame _ _ _) (by rfl)
    · assumption
  try clear_value y6
  extract_lets +onlyGivenNames -underBinder y8
  have hy8 : Frame [.glb, .link, .rings, .cnt, .execs, .parked, .quires, .reqs, .ports, .sp, .spr, .mgt, .bg, .out] x0 y8 := Frame.step (Frame.step (by assumption) (streamFlyleaf_frame _ _) (by rfl)) (aimFirst_frame _ _) (by rfl)
  try clear_value y8
  extract_lets +onlyGivenNames -underBinder y9
  have hy9 : Frame [.glb, .link, .rings, .cnt, .execs, .parked, .quires, .reqs, .ports, .sp, .spr, .mgt, .bg, .out] x0 y9 := by
    refine Frame.step ?_ (evalStop_frame _ _ _) (by rfl)
    refine Frame.ite ?_ ?_
    · assumption
    · exact Frame.step (by assumption) (startLate_frame _ _ _) (by rfl)
  try clear_value y9
  exact Frame.step (Frame.step (Frame.step (by assumption) (openFree_frame _ _) (by rfl)) (standing_frame _ _) (by rfl)) (damagedPorts_frame _ _) (by rfl)

/-- What `jobArm` can change. -/
theorem jobArm_frame : ∀ x0 x1 x2, Frame [.glb, .link, .rings, .cnt, .execs, .waiting, .parked, .quires, .reqs, .ports, .sp, .spr, .mgt, .bg, .out] x2 (jobArm x0 x1 x2) := by
  intro x0 x1 x2
  unfold jobArm
  extract_lets +onlyGivenNames -underBinder y1
  try clear_value y1
  extract_lets +onlyGivenNames -underBinder y2
  try clear_value y2
  extract_lets +onlyGivenNames -underBinder y3
  try clear_value y3
  extract_lets +onlyGivenNames -underBinder y4
  try clear_value y4
  extract_lets +onlyGivenNames -underBinder y5
  try clear_value y5
  extract_lets +onlyGivenNames -underBinder y6
  try clear_value y6
  extract_lets +onlyGivenNames -underBinder y7
  try clear_value y7
  extract_lets +onlyGivenNames -underBinder y8
  try clear_value y8
  extract_lets +onlyGivenNames -underBinder y9
  try clear_value y9
  extract_lets +onlyGivenNames -underBinder y10
  try clear_value y10
  extract_lets +onlyGivenNames -underBinder y11
  try clear_value y11
  extract_lets +onlyGivenNames -underBinder y12
  try clear_value y12
  extract_lets +onlyGivenNames -underBinder y13
  try clear_value y13
  refine command_frame _ _ _ _ _ _ _ _ (by rfl) ?_ ?_
  · exact (complete_frame _ _ _ _).mono rfl
  · exact Frame.step ((armQuire_frame _ _ _ _ _).mono rfl) (complete_frame _ _ _ _) (by rfl)

/-- What `stopJob` can change. -/
theorem stopJob_frame : ∀ x0 x1 x2 x3, Frame [.glb, .link, .rings, .cnt, .execs, .parked, .quires, .ports, .sp, .spr, .mgt, .bg, .out] x0 (stopJob x0 x1 x2 x3) := by
  intro x0 x1 x2 x3
  unfold stopJob
  refine Frame.ite ?_ ?_
  · exact Frame.step ((State.modQuire_frame _ _ _).mono rfl) (stopQuire_frame _ _ _) (by rfl)
  · refine Frame.ite ?_ ?_
    · exact (evalStop_frame _ _ _).mono rfl
    · exact Frame.step ((evalStop_frame _ _ _).mono rfl) (State.modQuire_frame _ _ _) (by rfl)

/-- What `jobStop` can change. -/
theorem jobStop_frame : ∀ x0 x1 x2, Frame [.glb, .link, .rings, .cnt, .execs, .waiting, .parked, .quires, .ports, .sp, .spr, .mgt, .bg, .out, .nextId] x2 (jobStop x0 x1 x2) := by
  intro x0 x1 x2
  unfold jobStop
  extract_lets +onlyGivenNames -underBinder y1
  try clear_value y1
  extract_lets +onlyGivenNames -underBinder y2
  try clear_value y2
  extract_lets +onlyGivenNames -underBinder y3
  try clear_value y3
  refine command_frame _ _ _ _ _ _ _ _ (by rfl) ?_ ?_
  · exact (complete_frame _ _ _ _).mono rfl
  · exact Frame.step ((beginExec_frame _ _ _ _ _ _).mono rfl) (stopJob_frame _ _ _ _) (by rfl)

/-- What `abortJob` can change. -/
theorem abortJob_frame : ∀ x0 x1 x2, Frame [.glb, .link, .rings, .cnt, .execs, .parked, .quires, .ports, .sp, .spr, .mgt, .bg, .out] x0 (abortJob x0 x1 x2) := by
  intro x0 x1 x2
  unfold abortJob
  refine Frame.ite ?_ ?_
  · exact Frame.step ((State.modQuire_frame _ _ _).mono rfl) (stopQuire_frame _ _ _) (by rfl)
  · refine Frame.ite ?_ ?_
    · exact (State.modQuire_frame _ _ _).mono rfl
    · exact Frame.refl _ _

/-- What `jobAbort` can change. -/
theorem jobAbort_frame : ∀ x0 x1 x2, Frame [.glb, .link, .rings, .cnt, .execs, .waiting, .parked, .quires, .ports, .sp, .spr, .mgt, .bg, .out, .nextId] x2 (jobAbort x0 x1 x2) := by
  intro x0 x1 x2
  unfold jobAbort
  extract_lets +onlyGivenNames -underBinder y1
  try clear_value y1
  extract_lets +onlyGivenNames -underBinder y2
  try clear_value y2
  refine command_frame _ _ _ _ _ _ _ _ (by rfl) ?_ ?_
  · exact (complete_frame _ _ _ _).mono rfl
  · refine Frame.ite ?_ ?_
    · exact Frame.step (Frame.step ((State.modQuire_frame _ _ _).mono rfl) (faultEdge_frame _) (by rfl)) (complete_frame _ _ _ _) (by rfl)
    · exact Frame.step ((beginExec_frame _ _ _ _ _ _).mono rfl) (abortJob_frame _ _ _) (by rfl)

/-- What `jobQuery` can change. -/
theorem jobQuery_frame : ∀ x0 x1 x2, Frame [.link, .rings, .cnt, .waiting, .parked, .sp, .spr, .mgt, .out] x2 (jobQuery x0 x1 x2) := by
  intro x0 x1 x2
  unfold jobQuery
  extract_lets +onlyGivenNames -underBinder y1
  try clear_value y1
  extract_lets +onlyGivenNames -underBinder y2
  try clear_value y2
  exact reportCmd_frame _ _ _ _ _ _ _ _ _ (by rfl)

/-- What `sosConfig` can change. -/
theorem sosConfig_frame : ∀ x0 x1 x2, Frame [.link, .rings, .cnt, .waiting, .parked, .sos, .sp, .spr, .out] x2 (sosConfig x0 x1 x2) := by
  intro x0 x1 x2
  unfold sosConfig
  extract_lets +onlyGivenNames -underBinder y1
  try clear_value y1
  extract_lets +onlyGivenNames -underBinder y2
  try clear_value y2
  extract_lets +onlyGivenNames -underBinder y3
  try clear_value y3
  refine plainCmd_frame _ _ _ _ _ _ _ (by rfl) ?_
  exact Frame.upd (Frame.refl _ _) rfl rfl

/-- What `demandConfig` can change. -/
theorem demandConfig_frame : ∀ x0 x1 x2, Frame [.link, .rings, .cnt, .waiting, .parked, .quires, .sp, .spr, .out] x2 (demandConfig x0 x1 x2) := by
  intro x0 x1 x2
  unfold demandConfig
  extract_lets +onlyGivenNames -underBinder y1
  try clear_value y1
  refine plainCmd_frame _ _ _ _ _ _ _ (by rfl) ?_
  exact (State.modQuire_frame _ _ _).mono rfl

/-- What `commitPorts` can change. -/
theorem commitPorts_frame : ∀ x0 x1, Frame [.glb, .link, .rings, .cnt, .execs, .parked, .ports, .sp, .spr, .mgt, .bg, .out] x0 (commitPorts x0 x1) := by
  intro x0 x1
  unfold commitPorts
  extract_lets +onlyGivenNames -underBinder y1
  try clear_value y1
  extract_lets +onlyGivenNames -underBinder y2
  try clear_value y2
  extract_lets +onlyGivenNames -underBinder y3
  try clear_value y3
  extract_lets +onlyGivenNames -underBinder y4
  have hy4 : Frame [.glb, .link, .rings, .cnt, .execs, .parked, .ports, .sp, .spr, .mgt, .bg, .out] x0 y4 := by
    refine Frame.foldl (fun t5 _ => ?_) _ _ ?_
    · exact (swapPort_frame _ _ _ _).mono rfl
    · exact Frame.refl _ _
  try clear_value y4
  extract_lets +onlyGivenNames -underBinder y6
  have hy6 : Frame [.glb, .link, .rings, .cnt, .execs, .parked, .ports, .sp, .spr, .mgt, .bg, .out] x0 y6 := by
    refine Frame.foldl (fun t7 _ => ?_) _ _ ?_
    · exact (State.modBanks_frame _ _ _).mono rfl
    · assumption
  try clear_value y6
  exact Frame.step (by assumption) (commitDone_frame _ _ _) (by rfl)

/-- What `tableCommit` can change. -/
theorem tableCommit_frame : ∀ x0 x1 x2, Frame [.glb, .link, .rings, .cnt, .execs, .waiting, .parked, .ports, .sp, .spr, .mgt, .bg, .out, .nextId] x2 (tableCommit x0 x1 x2) := by
  intro x0 x1 x2
  unfold tableCommit
  extract_lets +onlyGivenNames -underBinder y1
  try clear_value y1
  extract_lets +onlyGivenNames -underBinder y2
  try clear_value y2
  extract_lets +onlyGivenNames -underBinder y3
  try clear_value y3
  refine command_frame _ _ _ _ _ _ _ _ (by rfl) ?_ ?_
  · exact (complete_frame _ _ _ _).mono rfl
  · exact Frame.step ((beginExec_frame _ _ _ _ _ _).mono rfl) (commitPorts_frame _ _) (by rfl)

/-- What `fireOffsetSet` can change. -/
theorem fireOffsetSet_frame : ∀ x0 x1 x2, Frame [.link, .rings, .cnt, .execs, .waiting, .parked, .ports, .sp, .spr, .mgt, .out, .nextId] x2 (fireOffsetSet x0 x1 x2) := by
  intro x0 x1 x2
  unfold fireOffsetSet
  extract_lets +onlyGivenNames -underBinder y1
  try clear_value y1
  refine command_frame _ _ _ _ _ _ _ _ (by rfl) ?_ ?_
  · exact (complete_frame _ _ _ _).mono rfl
  · exact (shadowNow_frame _ _ _ _ _).mono rfl

/-- What `cmpIgnored` can change. -/
theorem cmpIgnored_frame : ∀ x0 x1, Frame [.quires] x0 (cmpIgnored x0 x1) := by
  intro x0 x1
  unfold cmpIgnored
  exact (State.modQuire_frame _ _ _).mono rfl

/-- What `pwCmpLow` can change. -/
theorem pwCmpLow_frame : ∀ x0 x1 x2 x3, Frame [.glb] x3 (pwCmpLow x0 x1 x2 x3) := by
  intro x0 x1 x2 x3
  unfold pwCmpLow
  refine Frame.ite ?_ ?_
  · exact Frame.refl _ _
  · exact Frame.upd (Frame.refl _ _) rfl rfl

/-- What `pwCmpStartHigh` can change. -/
theorem pwCmpStartHigh_frame : ∀ x0 x1 x2, Frame [.link, .rings, .cnt, .parked, .quires, .ports, .sp, .spr, .out] x2 (pwCmpStartHigh x0 x1 x2) := by
  intro x0 x1 x2
  unfold pwCmpStartHigh
  split
  · exact Frame.refl _ _
  · extract_lets +onlyGivenNames -underBinder y1
    try clear_value y1
    refine Frame.ite ?_ ?_
    · exact (reaim_frame _ _ _).mono rfl
    · exact (cmpIgnored_frame _ _).mono rfl

/-- What `pwCmpStopHigh` can change. -/
theorem pwCmpStopHigh_frame : ∀ x0 x1 x2, Frame [.glb, .link, .rings, .cnt, .execs, .parked, .quires, .ports, .sp, .spr, .mgt, .bg, .out] x2 (pwCmpStopHigh x0 x1 x2) := by
  intro x0 x1 x2
  unfold pwCmpStopHigh
  split
  · exact Frame.refl _ _
  · refine Frame.ite ?_ ?_
    · exact (evalStop_frame _ _ _).mono rfl
    · exact (cmpIgnored_frame _ _).mono rfl

/-- What `pwLateWin` can change. -/
theorem pwLateWin_frame : ∀ x0 x1 x2, Frame [.quires] x2 (pwLateWin x0 x1 x2) := by
  intro x0 x1 x2
  unfold pwLateWin
  split
  · exact Frame.refl _ _
  · exact (State.modQuire_frame _ _ _).mono rfl

/-- What `pwShadow` can change. -/
theorem pwShadow_frame : ∀ x0 x1 x2 x3, Frame [.ports] x3 (pwShadow x0 x1 x2 x3) := by
  intro x0 x1 x2 x3
  unfold pwShadow
  refine Frame.foldl (fun t1 _ => ?_) _ _ ?_
  · refine Frame.ite ?_ ?_
    · exact Frame.refl _ _
    · refine Frame.ite ?_ ?_
      · exact (State.modBanks_frame _ _ _).mono rfl
      · exact (applyReg_frame _ _ _ _).mono rfl
  · exact Frame.refl _ _

/-! ### HeadPorts -/

/-- What `headProfileLoad` can change. -/
theorem headProfileLoad_frame : ∀ x0 x1 x2, Frame [.link, .rings, .cnt, .execs, .waiting, .parked, .sp, .spr, .out, .nextId] x2 (headProfileLoad x0 x1 x2) := by
  intro x0 x1 x2
  unfold headProfileLoad
  extract_lets +onlyGivenNames -underBinder y1
  try clear_value y1
  extract_lets +onlyGivenNames -underBinder y2
  try clear_value y2
  exact (readCmd_frame _ _ _ _ _ _ _ _ _).mono rfl

/-- What `profileDone` can change. -/
theorem profileDone_frame : ∀ x0 x1 x2, Frame [.link, .rings, .cnt, .execs, .parked, .ports, .sp, .spr, .mgt, .out] x0 (profileDone x0 x1 x2) := by
  intro x0 x1 x2
  unfold profileDone
  extract_lets +onlyGivenNames -underBinder y1
  try clear_value y1
  refine dataDone_frame _ _ _ _ _ (by rfl) ?_
  exact Frame.step (Frame.step ((State.modPort_frame _ _ _).mono rfl) (measureData_frame _ _ _ _) (by rfl)) (endExec_frame _ _ _ _) (by rfl)

/-- What `startOpening` can change. -/
theorem startOpening_frame : ∀ x0 x1 x2 x3, Frame [.glb, .link, .rings, .cnt, .execs, .parked, .quires, .reqs, .ports, .th, .sp, .spr, .mgt, .bg, .out, .nextId] x0 (startOpening x0 x1 x2 x3) := by
  intro x0 x1 x2 x3
  unfold startOpening
  extract_lets +onlyGivenNames -underBinder y1
  have hy1 : Frame [.glb, .link, .rings, .cnt, .execs, .parked, .quires, .reqs, .ports, .th, .sp, .spr, .mgt, .bg, .out, .nextId] x0 y1 := Frame.step ((beginExec_frame _ _ _ _ _ _).mono rfl) (heaterOff_frame _ _) (by rfl)
  try clear_value y1
  extract_lets +onlyGivenNames -underBinder y2
  have hy2 : Frame [.glb, .link, .rings, .cnt, .execs, .parked, .quires, .reqs, .ports, .th, .sp, .spr, .mgt, .bg, .out, .nextId] x0 y2 := Frame.step (Frame.step (Frame.step (by assumption) (State.modPort_frame _ _ _) (by rfl)) (portTo_frame _ _ _ _) (by rfl)) (faultEdge_frame _) (by rfl)
  try clear_value y2
  exact Frame.step (Frame.step (by assumption) (addJob_frame _ _ _) (by rfl)) (pumpHead_frame _ _) (by rfl)

/-- What `portOpen` can change. -/
theorem portOpen_frame : ∀ x0 x1 x2, Frame [.glb, .link, .rings, .cnt, .execs, .waiting, .parked, .quires, .reqs, .ports, .th, .sp, .spr, .mgt, .bg, .out, .nextId] x2 (portOpen x0 x1 x2) := by
  intro x0 x1 x2
  unfold portOpen
  extract_lets +onlyGivenNames -underBinder y1
  try clear_value y1
  extract_lets +onlyGivenNames -underBinder y2
  try clear_value y2
  refine command_frame _ _ _ _ _ _ _ _ (by rfl) ?_ ?_
  · exact (complete_frame _ _ _ _).mono rfl
  · refine Frame.ite ?_ ?_
    · exact (complete_frame _ _ _ _).mono rfl
    · exact (startOpening_frame _ _ _ _).mono rfl

/-- What `sendBothMaps` can change. -/
theorem sendBothMaps_frame : ∀ x0 x1, Frame [.ports, .out] x0 (sendBothMaps x0 x1) := by
  intro x0 x1
  unfold sendBothMaps
  split
  · exact Frame.refl _ _
  · extract_lets +onlyGivenNames -underBinder y1
    have hy1 : ∀ a0y1 a1y1, Frame [.ports, .out] a0y1 (y1 a0y1 a1y1) := by
      intro a0y1 a1y1
      unfold y1
      extract_lets +onlyGivenNames -underBinder y2
      try clear_value y2
      extract_lets +onlyGivenNames -underBinder y3
      have hy3 : Frame [.ports, .out] a0y1 y3 := (State.modPort_frame _ _ _).mono rfl
      try clear_value y3
      exact Frame.step (Frame.step (by assumption) (mapTransfer_frame _ _ _ _ _) (by rfl)) (mapTransfer_frame _ _ _ _ _) (by rfl)
    try clear_value y1
    refine Frame.trans ?_ (hy1 _ _)
    exact hy1 _ _

/-- What `linkTrained` can change. -/
theorem linkTrained_frame : ∀ x0 x1, Frame [.ports, .out] x0 (linkTrained x0 x1) := by
  intro x0 x1
  unfold linkTrained
  extract_lets +onlyGivenNames -underBinder y1
  try clear_value y1
  exact Frame.step ((State.modPort_frame _ _ _).mono rfl) (sendBothMaps_frame _ _) (by rfl)

/-- What `openSucceeds` can change. -/
theorem openSucceeds_frame : ∀ x0 x1 x2, Frame [.glb, .link, .rings, .cnt, .execs, .parked, .quires, .reqs, .ports, .th, .sp, .spr, .mgt, .bg, .out] x0 (openSucceeds x0 x1 x2) := by
  intro x0 x1 x2
  unfold openSucceeds
  extract_lets +onlyGivenNames -underBinder y1
  try clear_value y1
  extract_lets +onlyGivenNames -underBinder y2
  have hy2 : Frame [.glb, .link, .rings, .cnt, .execs, .parked, .quires, .reqs, .ports, .th, .sp, .spr, .mgt, .bg, .out] x0 y2 := (State.modPort_frame _ _ _).mono rfl
  try clear_value y2
  extract_lets +onlyGivenNames -underBinder y3
  have hy3 : Frame [.glb, .link, .rings, .cnt, .execs, .parked, .quires, .reqs, .ports, .th, .sp, .spr, .mgt, .bg, .out] x0 y3 := Frame.step (by assumption) (linkTrained_frame _ _) (by rfl)
  try clear_value y3
  extract_lets +onlyGivenNames -underBinder y4
  have hy4 : Frame [.glb, .link, .rings, .cnt, .execs, .parked, .quires, .reqs, .ports, .th, .sp, .spr, .mgt, .bg, .out] x0 y4 := Frame.step (by assumption) (State.modPort_frame _ _ _) (by rfl)
  try clear_value y4
  extract_lets +onlyGivenNames -underBinder y5
  have hy5 : Frame [.glb, .link, .rings, .cnt, .execs, .parked, .quires, .reqs, .ports, .th, .sp, .spr, .mgt, .bg, .out] x0 y5 := by
    refine Frame.ite ?_ ?_
    · assumption
    · exact Frame.step (Frame.step (by assumption) (addJob_frame _ _ _) (by rfl)) (pumpHead_frame _ _) (by rfl)
  try clear_value y5
  exact Frame.step (Frame.step (by assumption) (stateChanged_frame _ _ _ _ _) (by rfl)) (endExec_frame _ _ _ _) (by rfl)

/-- What `bringupDone.linkFails` can change. -/
theorem bringupDone.linkFails_frame : ∀ x0 x1, Frame [.glb, .link, .rings, .cnt, .execs, .parked, .quires, .ports, .sp, .spr, .mgt, .bg, .out] x0 (bringupDone.linkFails x0 x1) := by
  intro x0 x1
  unfold bringupDone.linkFails
  exact Frame.step ((State.modPort_frame _ _ _).mono rfl) (portFault_frame _ _ _) (by rfl)

/-- What `bringupDone` can change. -/
theorem bringupDone_frame : ∀ x0 x1 x2, Frame [.clk, .tb, .glb, .link, .rings, .cnt, .execs, .parked, .quires, .reqs, .ports, .th, .sp, .spr, .mgt, .bg, .out] x2 (bringupDone x0 x1 x2) := by
  intro x0 x1 x2
  unfold bringupDone
  extract_lets +onlyGivenNames -underBinder y1
  try clear_value y1
  extract_lets +onlyGivenNames -underBinder y2
  have hy2 : Frame [.clk, .tb, .glb, .link, .rings, .cnt, .execs, .parked, .quires, .reqs, .ports, .th, .sp, .spr, .mgt, .bg, .out] x2 y2 := (State.advanceTo_frame _ _).mono rfl
  try clear_value y2
  refine Frame.ite ?_ ?_
  · exact Frame.refl _ _
  · split
    · refine Frame.ite ?_ ?_
      · exact Frame.step (by assumption) (State.modPort_frame _ _ _) (by rfl)
      · assumption
    · refine Frame.ite ?_ ?_
      · exact Frame.step (by assumption) (openSucceeds_frame _ _ _) (by rfl)
      · exact Frame.step (by assumption) (openFails_frame _ _ _ _) (by rfl)
    · refine Frame.ite ?_ ?_
      · exact Frame.step (Frame.step (by assumption) (linkTrained_frame _ _) (by rfl)) (endExec_frame _ _ _ _) (by rfl)
      · exact Frame.step (Frame.step (by assumption) (bringupDone.linkFails_frame _ _) (by rfl)) (endExec_frame _ _ _ _) (by rfl)
    · refine Frame.ite ?_ ?_
      · refine Frame.ite ?_ ?_
        · exact Frame.step (by assumption) (linkTrained_frame _ _) (by rfl)
        · exact Frame.step (by assumption) (bringupDone.linkFails_frame _ _) (by rfl)
      · assumption

/-- What `startClosing` can change. -/
theorem startClosing_frame : ∀ x0 x1 x2 x3, Frame [.glb, .link, .rings, .cnt, .execs, .parked, .quires, .reqs, .ports, .th, .sp, .spr, .mgt, .bg, .out, .nextId] x0 (startClosing x0 x1 x2 x3) := by
  intro x0 x1 x2 x3
  unfold startClosing
  extract_lets +onlyGivenNames -underBinder y1
  have hy1 : Frame [.glb, .link, .rings, .cnt, .execs, .parked, .quires, .reqs, .ports, .th, .sp, .spr, .mgt, .bg, .out, .nextId] x0 y1 := by
    unfold y1
    split
    · exact Frame.step ((endExec_frame _ _ _ _).mono rfl) (dropJobs_frame _ _ _ _) (by rfl)
    · exact Frame.refl _ _
  try clear_value y1
  exact Frame.step (Frame.step (Frame.step (by assumption) (beginExec_frame _ _ _ _ _ _) (by rfl)) (addCommit_frame _ _ _) (by rfl)) (pumpHead_frame _ _) (by rfl)

/-- What `portClose` can change. -/
theorem portClose_frame : ∀ x0 x1 x2, Frame [.glb, .link, .rings, .cnt, .execs, .waiting, .parked, .quires, .reqs, .ports, .th, .sp, .spr, .mgt, .bg, .out, .nextId] x2 (portClose x0 x1 x2) := by
  intro x0 x1 x2
  unfold portClose
  extract_lets +onlyGivenNames -underBinder y1
  try clear_value y1
  extract_lets +onlyGivenNames -underBinder y2
  try clear_value y2
  refine command_frame _ _ _ _ _ _ _ _ (by rfl) ?_ ?_
  · exact (complete_frame _ _ _ _).mono rfl
  · exact (startClosing_frame _ _ _ _).mono rfl

/-- What `resetTables` can change. -/
theorem resetTables_frame : ∀ x0 x1 x2 x3, Frame [.link, .rings, .cnt, .execs, .parked, .ports, .sp, .spr, .out] x0 (resetTables x0 x1 x2 x3) := by
  intro x0 x1 x2 x3
  unfold resetTables
  extract_lets +onlyGivenNames -underBinder y1
  try clear_value y1
  extract_lets +onlyGivenNames -underBinder y2
  have hy2 : Frame [.link, .rings, .cnt, .execs, .parked, .ports, .sp, .spr, .out] x0 y2 := Frame.step ((abortLearn_frame _ _).mono rfl) (State.modPort_frame _ _ _) (by rfl)
  try clear_value y2
  refine Frame.ite ?_ ?_
  · exact Frame.step (by assumption) (sendBothMaps_frame _ _) (by rfl)
  · assumption

/-- What `configure` can change. -/
theorem configure_frame : ∀ x0 x1 x2 x3, Frame [.glb, .link, .rings, .cnt, .execs, .parked, .quires, .reqs, .ports, .th, .sp, .spr, .mgt, .bg, .out, .nextId] x0 (configure x0 x1 x2 x3) := by
  intro x0 x1 x2 x3
  unfold configure
  extract_lets +onlyGivenNames -underBinder y1
  try clear_value y1
  extract_lets +onlyGivenNames -underBinder y2
  try clear_value y2
  extract_lets +onlyGivenNames -underBinder y3
  try clear_value y3
  extract_lets +onlyGivenNames -underBinder y4
  have hy4 : Frame [.glb, .link, .rings, .cnt, .execs, .parked, .quires, .reqs, .ports, .th, .sp, .spr, .mgt, .bg, .out, .nextId] x0 y4 := (State.modPort_frame _ _ _).mono rfl
  try clear_value y4
  refine Frame.ite ?_ ?_
  · exact Frame.step (by assumption) (complete_frame _ _ _ _) (by rfl)
  · extract_lets +onlyGivenNames -underBinder y5
    have hy5 : Frame [.glb, .link, .rings, .cnt, .execs, .parked, .quires, .reqs, .ports, .th, .sp, .spr, .mgt, .bg, .out, .nextId] x0 y5 := by
      refine Frame.ite ?_ ?_
      · exact Frame.step (by assumption) (resetTables_frame _ _ _ _) (by rfl)
      · assumption
    try clear_value y5
    refine Frame.ite ?_ ?_
    · exact Frame.step (by assumption) (complete_frame _ _ _ _) (by rfl)
    · exact Frame.step (Frame.step (Frame.step (by assumption) (beginExec_frame _ _ _ _ _ _) (by rfl)) (startTraining_frame _ _) (by rfl)) (pumpHead_frame _ _) (by rfl)

/-- What `portConfig` can change. -/
theorem portConfig_frame : ∀ x0 x1 x2, Frame [.glb, .link, .rings, .cnt, .execs, .waiting, .parked, .quires, .reqs, .ports, .th, .sp, .spr, .mgt, .bg, .out, .nextId] x2 (portConfig x0 x1 x2) := by
  intro x0 x1 x2
  unfold portConfig
  extract_lets +onlyGivenNames -underBinder y1
  try clear_value y1
  extract_lets +onlyGivenNames -underBinder y2
  try clear_value y2
  extract_lets +onlyGivenNames -underBinder y3
  try clear_value y3
  extract_lets +onlyGivenNames -underBinder y4
  try clear_value y4
  extract_lets +onlyGivenNames -underBinder y5
  try clear_value y5
  refine command_frame _ _ _ _ _ _ _ _ (by rfl) ?_ ?_
  · exact (complete_frame _ _ _ _).mono rfl
  · exact (configure_frame _ _ _ _).mono rfl

/-- What `portQuery` can change. -/
theorem portQuery_frame : ∀ x0 x1 x2, Frame [.link, .rings, .cnt, .waiting, .parked, .sp, .spr, .mgt, .out] x2 (portQuery x0 x1 x2) := by
  intro x0 x1 x2
  unfold portQuery
  extract_lets +onlyGivenNames -underBinder y1
  try clear_value y1
  exact reportCmd_frame _ _ _ _ _ _ _ _ _ (by rfl)

/-- What `headmemRead` can change. -/
theorem headmemRead_frame : ∀ x0 x1 x2, Frame [.glb, .link, .rings, .cnt, .execs, .waiting, .parked, .quires, .reqs, .ports, .th, .sp, .spr, .mgt, .bg, .out, .nextId] x2 (headmemRead x0 x1 x2) := by
  intro x0 x1 x2
  unfold headmemRead
  extract_lets +onlyGivenNames -underBinder y1
  try clear_value y1
  extract_lets +onlyGivenNames -underBinder y2
  try clear_value y2
  refine command_frame _ _ _ _ _ _ _ _ (by rfl) ?_ ?_
  · exact (complete_frame _ _ _ _).mono rfl
  · exact Frame.step (Frame.step ((beginExec_frame _ _ _ _ _ _).mono rfl) (addJob_frame _ _ _) (by rfl)) (pumpHead_frame _ _) (by rfl)

/-- What `headmemWrite` can change. -/
theorem headmemWrite_frame : ∀ x0 x1 x2, Frame [.link, .rings, .cnt, .execs, .waiting, .parked, .sp, .spr, .out, .nextId] x2 (headmemWrite x0 x1 x2) := by
  intro x0 x1 x2
  unfold headmemWrite
  extract_lets +onlyGivenNames -underBinder y1
  try clear_value y1
  extract_lets +onlyGivenNames -underBinder y2
  try clear_value y2
  exact (readCmd_frame _ _ _ _ _ _ _ _ _).mono rfl

/-- What `headmemWriteDone` can change. -/
theorem headmemWriteDone_frame : ∀ x0 x1 x2, Frame [.glb, .link, .rings, .cnt, .execs, .parked, .quires, .reqs, .ports, .th, .sp, .spr, .mgt, .bg, .out] x0 (headmemWriteDone x0 x1 x2) := by
  intro x0 x1 x2
  unfold headmemWriteDone
  extract_lets +onlyGivenNames -underBinder y1
  try clear_value y1
  extract_lets +onlyGivenNames -underBinder y2
  try clear_value y2
  refine dataDone_frame _ _ _ _ _ (by rfl) ?_
  exact Frame.step (Frame.step ((State.modExec_frame _ _ _).mono rfl) (addJob_frame _ _ _) (by rfl)) (pumpHead_frame _ _) (by rfl)

/-- What `heaterSet` can change. -/
theorem heaterSet_frame : ∀ x0 x1 x2, Frame [.link, .rings, .cnt, .waiting, .parked, .ports, .sp, .spr, .out] x2 (heaterSet x0 x1 x2) := by
  intro x0 x1 x2
  unfold heaterSet
  extract_lets +onlyGivenNames -underBinder y1
  try clear_value y1
  extract_lets +onlyGivenNames -underBinder y2
  try clear_value y2
  extract_lets +onlyGivenNames -underBinder y3
  try clear_value y3
  extract_lets +onlyGivenNames -underBinder y4
  try clear_value y4
  extract_lets +onlyGivenNames -underBinder y5
  try clear_value y5
  refine plainCmd_frame _ _ _ _ _ _ _ (by rfl) ?_
  exact (State.modPort_frame _ _ _).mono rfl

/-- What `pwCtrlWrite` can change. -/
theorem pwCtrlWrite_frame : ∀ x0 x1 x2, Frame [.ports, .out] x0 (pwCtrlWrite x0 x1 x2) := by
  intro x0 x1 x2
  unfold pwCtrlWrite
  refine Frame.foldl (fun t1 _ => ?_) _ _ ?_
  · extract_lets +onlyGivenNames -underBinder y2
    have hy2 : Frame [.ports, .out] t1 y2 := (State.modPort_frame _ _ _).mono rfl
    try clear_value y2
    refine Frame.ite ?_ ?_
    · assumption
    · exact Frame.step (by assumption) (liveControl_frame _ _) (by rfl)
  · exact Frame.refl _ _

/-- What `retrain` can change. -/
theorem retrain_frame : ∀ x0 x1 x2, Frame [.glb, .link, .rings, .cnt, .execs, .parked, .quires, .reqs, .ports, .th, .sp, .spr, .mgt, .bg, .out] x2 (retrain x0 x1 x2) := by
  intro x0 x1 x2
  unfold retrain
  extract_lets +onlyGivenNames -underBinder y1
  have hy1 : Frame [.glb, .link, .rings, .cnt, .execs, .parked, .quires, .reqs, .ports, .th, .sp, .spr, .mgt, .bg, .out] x2 y1 := (pwCtrlWrite_frame _ _ _).mono rfl
  try clear_value y1
  refine Frame.ite ?_ ?_
  · refine Frame.foldl (fun t2 _ => ?_) _ _ ?_
    · refine Frame.ite ?_ ?_
      · exact Frame.step ((startTraining_frame _ _).mono rfl) (pumpHead_frame _ _) (by rfl)
      · exact Frame.refl _ _
    · assumption
  · assumption

/-- What `presence` can change. -/
theorem presence_frame : ∀ x0 x1 x2 x3, Frame [.glb, .link, .rings, .cnt, .execs, .parked, .quires, .reqs, .ports, .th, .sp, .spr, .mgt, .bg, .out] x3 (presence x0 x1 x2 x3) := by
  intro x0 x1 x2 x3
  unfold presence
  extract_lets +onlyGivenNames -underBinder y1
  try clear_value y1
  refine Frame.ite ?_ ?_
  · exact Frame.refl _ _
  · extract_lets +onlyGivenNames -underBinder y2
    have hy2 : Frame [.glb, .link, .rings, .cnt, .execs, .parked, .quires, .reqs, .ports, .th, .sp, .spr, .mgt, .bg, .out] x3 y2 := (State.modPort_frame _ _ _).mono rfl
    try clear_value y2
    refine Frame.ite ?_ ?_
    · refine Frame.ite ?_ ?_
      · exact Frame.step (by assumption) (dropJobs_frame _ _ _ _) (by rfl)
      · assumption
    · extract_lets +onlyGivenNames -underBinder y3
      try clear_value y3
      extract_lets +onlyGivenNames -underBinder y4
      have hy4 : Frame [.glb, .link, .rings, .cnt, .execs, .parked, .quires, .reqs, .ports, .th, .sp, .spr, .mgt, .bg, .out] x3 y4 := Frame.step (Frame.step (by assumption) (setPwEvent_frame _ _ _) (by rfl)) (raise_frame _ _ _ _ _ _) (by rfl)
      try clear_value y4
      extract_lets +onlyGivenNames -underBinder y5
      have hy5 : Frame [.glb, .link, .rings, .cnt, .execs, .parked, .quires, .reqs, .ports, .th, .sp, .spr, .mgt, .bg, .out] x3 y5 := Frame.step (by assumption) (dropJobs_frame _ _ _ _) (by rfl)
      try clear_value y5
      refine Frame.ite ?_ ?_
      · exact Frame.step (by assumption) (openFails_frame _ _ _ _) (by rfl)
      · exact Frame.step (by assumption) (portFault_frame _ _ _) (by rfl)

/-- What `statusFrame` can change. -/
theorem statusFrame_frame : ∀ x0 x1 x2, Frame [.glb, .link, .rings, .cnt, .execs, .parked, .quires, .ports, .th, .sp, .spr, .mgt, .bg, .out] x2 (statusFrame x0 x1 x2) := by
  intro x0 x1 x2
  unfold statusFrame
  extract_lets +onlyGivenNames -underBinder y1
  try clear_value y1
  extract_lets +onlyGivenNames -underBinder y2
  try clear_value y2
  refine Frame.ite ?_ ?_
  · exact Frame.refl _ _
  · refine Frame.ite ?_ ?_
    · refine Frame.ite ?_ ?_
      · exact (linkError_frame _ _ _ _).mono rfl
      · exact Frame.refl _ _
    · extract_lets +onlyGivenNames -underBinder y3
      try clear_value y3
      extract_lets +onlyGivenNames -underBinder y4
      try clear_value y4
      extract_lets +onlyGivenNames -underBinder y5
      try clear_value y5
      extract_lets +onlyGivenNames -underBinder y6
      try clear_value y6
      extract_lets +onlyGivenNames -underBinder y7
      have hy7 : Frame [.glb, .link, .rings, .cnt, .execs, .parked, .quires, .ports, .th, .sp, .spr, .mgt, .bg, .out] x2 y7 := (State.modPort_frame _ _ _).mono rfl
      try clear_value y7
      extract_lets +onlyGivenNames -underBinder y8
      try clear_value y8
      extract_lets +onlyGivenNames -underBinder y9
      have hy9 : Frame [.glb, .link, .rings, .cnt, .execs, .parked, .quires, .ports, .th, .sp, .spr, .mgt, .bg, .out] x2 y9 := by
        refine Frame.ite ?_ ?_
        · exact Frame.step (Frame.step (by assumption) (State.modPort_frame _ _ _) (by rfl)) (linkError_frame _ _ _ _) (by rfl)
        · assumption
      try clear_value y9
      extract_lets +onlyGivenNames -underBinder y10
      have hy10 : Frame [.glb, .link, .rings, .cnt, .execs, .parked, .quires, .ports, .th, .sp, .spr, .mgt, .bg, .out] x2 y10 := by
        refine Frame.ite ?_ ?_
        · exact Frame.step (by assumption) (portFault_frame _ _ _) (by rfl)
        · assumption
      try clear_value y10
      exact Frame.step (by assumption) (checkAbs_frame _ _ _) (by rfl)

/-- What `linkLost` can change. -/
theorem linkLost_frame : ∀ x0 x1, Frame [.clk, .tb, .glb, .link, .rings, .cnt, .execs, .parked, .quires, .reqs, .ports, .th, .sp, .spr, .mgt, .bg, .out] x1 (linkLost x0 x1) := by
  intro x0 x1
  unfold linkLost
  extract_lets +onlyGivenNames -underBinder y1
  try clear_value y1
  refine Frame.ite ?_ ?_
  · exact Frame.refl _ _
  · extract_lets +onlyGivenNames -underBinder y2
    try clear_value y2
    extract_lets +onlyGivenNames -underBinder y3
    have hy3 : Frame [.clk, .tb, .glb, .link, .rings, .cnt, .execs, .parked, .quires, .reqs, .ports, .th, .sp, .spr, .mgt, .bg, .out] x1 y3 := (State.advanceTo_frame _ _).mono rfl
    try clear_value y3
    extract_lets +onlyGivenNames -underBinder y4
    have hy4 : Frame [.clk, .tb, .glb, .link, .rings, .cnt, .execs, .parked, .quires, .reqs, .ports, .th, .sp, .spr, .mgt, .bg, .out] x1 y4 := Frame.step (Frame.step (by assumption) (State.modPort_frame _ _ _) (by rfl)) (portFault_frame _ _ _) (by rfl)
    try clear_value y4
    exact Frame.step (by assumption) (dropJobs_frame _ _ _ _) (by rfl)

/-- What `blockEnd` can change. -/
theorem blockEnd_frame : ∀ x0 x1, Frame [.clk, .tb, .ports] x1 (blockEnd x0 x1) := by
  intro x0 x1
  unfold blockEnd
  extract_lets +onlyGivenNames -underBinder y1
  try clear_value y1
  refine Frame.ite ?_ ?_
  · exact Frame.refl _ _
  · refine Frame.ite ?_ ?_
    · refine Frame.ite ?_ ?_
      · exact (State.modPort_frame _ _ _).mono rfl
      · exact Frame.refl _ _
    · extract_lets +onlyGivenNames -underBinder y2
      have hy2 : Frame [.clk, .tb, .ports] x1 y2 := (State.advanceTo_frame _ _).mono rfl
      try clear_value y2
      exact Frame.step (by assumption) (State.modPort_frame _ _ _) (by rfl)

/-! ### Demand -/

/-- What `evalPort` can change. -/
theorem evalPort_frame : ∀ x0 x1, Frame [.ports] x0 (evalPort x0 x1) := by
  intro x0 x1
  unfold evalPort
  exact (State.modPort_frame _ _ _).mono rfl

/-- What `updateDemand` can change. -/
theorem updateDemand_frame : ∀ x0, Frame [.spr] x0 (updateDemand x0) := by
  intro x0
  unfold updateDemand
  extract_lets +onlyGivenNames -underBinder y1
  try clear_value y1
  extract_lets +onlyGivenNames -underBinder y2
  try clear_value y2
  exact Frame.upd (Frame.refl _ _) rfl rfl

/-- What `demandEvent` can change. -/
theorem demandEvent_frame : ∀ x0 x1, Frame [.link, .rings, .cnt, .parked, .ports, .sp, .spr, .out] x0 (demandEvent x0 x1) := by
  intro x0 x1
  unfold demandEvent
  extract_lets +onlyGivenNames -underBinder y1
  try clear_value y1
  extract_lets +onlyGivenNames -underBinder y2
  try clear_value y2
  extract_lets +onlyGivenNames -underBinder y3
  have hy3 : Frame [.link, .rings, .cnt, .parked, .ports, .sp, .spr, .out] x0 y3 := (State.modPort_frame _ _ _).mono rfl
  try clear_value y3
  refine Frame.ite ?_ ?_
  · exact Frame.step (by assumption) (raise_frame _ _ _ _ _ _) (by rfl)
  · assumption

/-- What `demandEval` can change. -/
theorem demandEval_frame : ∀ x0, Frame [.clk, .tb, .link, .rings, .cnt, .parked, .ports, .th, .sp, .spr, .out] x0 (demandEval x0) := by
  intro x0
  unfold demandEval
  extract_lets +onlyGivenNames -underBinder y1
  have hy1 : Frame [.clk, .tb, .link, .rings, .cnt, .parked, .ports, .th, .sp, .spr, .out] x0 y1 := (State.advanceTo_frame _ _).mono rfl
  try clear_value y1
  extract_lets +onlyGivenNames -underBinder y2
  have hy2 : Frame [.clk, .tb, .link, .rings, .cnt, .parked, .ports, .th, .sp, .spr, .out] x0 y2 := by
    refine forAll_frame ?_ (fun t3 _ => ?_)
    · assumption
    · exact (evalPort_frame _ _).mono rfl
  try clear_value y2
  extract_lets +onlyGivenNames -underBinder y4
  try clear_value y4
  extract_lets +onlyGivenNames -underBinder y5
  have hy5 : Frame [.clk, .tb, .link, .rings, .cnt, .parked, .ports, .th, .sp, .spr, .out] x0 y5 := Frame.upd (by assumption) rfl rfl
  try clear_value y5
  refine forAll_frame ?_ (fun t6 _ => ?_)
  · exact Frame.step (by assumption) (updateDemand_frame _) (by rfl)
  · exact (demandEvent_frame _ _).mono rfl

end Sys2Proof.Machine
end

