-- ==== Sys2Proof/Laws/FrameBackground.lean ====
section
/-! SUPPORT. One frame lemma for each operation that answers a state, of the thermal engine, tables and loads, background activities and the OTP.
A lemma `x_frame` names the parts of the state that `x` may change; everything else it leaves as it was (`Frame`). -/

set_option Elab.async false

namespace Sys2Proof.Machine

/-! ### Thermal -/

/-- What `sensorFails` can change. -/
theorem sensorFails_frame : ∀ x0 x1 x2 x3 x4, Frame [.glb, .link, .rings, .cnt, .parked, .ports, .th, .sp, .spr, .out] x0 (sensorFails x0 x1 x2 x3 x4) := by
  intro x0 x1 x2 x3 x4
  unfold sensorFails
  exact Frame.step ((State.modPort_frame _ _ _).mono rfl) (thermEvent_frame _ _ _ _ _ _ _ _ _ _) (by rfl)

/-- What `takeReading` can change. -/
theorem takeReading_frame : ∀ x0 x1 x2 x3, Frame [.glb, .link, .rings, .cnt, .parked, .ports, .th, .sp, .spr, .out] x0 (takeReading x0 x1 x2 x3) := by
  intro x0 x1 x2 x3
  unfold takeReading
  extract_lets +onlyGivenNames -underBinder y1
  try clear_value y1
  extract_lets +onlyGivenNames -underBinder y2
  have hy2 : ∀ a0y2, Frame [.glb, .link, .rings, .cnt, .parked, .ports, .th, .sp, .spr, .out] x0 (y2 a0y2) := by
    intro a0y2
    unfold y2
    exact (State.modPort_frame _ _ _).mono rfl
  try clear_value y2
  split
  · exact hy2 _
  · exact hy2 _
  · refine Frame.ite ?_ ?_
    · exact hy2 _
    · refine Frame.ite ?_ ?_
      · exact (sensorFails_frame _ _ _ _ _).mono rfl
      · exact hy2 _

/-- What `substitute` can change. -/
theorem substitute_frame : ∀ x0 x1 x2, Frame [.ports] x1 (substitute x0 x1 x2) := by
  intro x0 x1 x2
  unfold substitute
  refine Frame.foldl (fun t1 _ => ?_) _ _ ?_
  · extract_lets +onlyGivenNames -underBinder y2
    try clear_value y2
    split
    · exact (State.modPort_frame _ _ _).mono rfl
    · exact Frame.refl _ _
  · exact Frame.refl _ _

/-- What `crossCheck` can change. -/
theorem crossCheck_frame : ∀ x0 x1 x2 x3 x4, Frame [.glb, .link, .rings, .cnt, .parked, .ports, .th, .sp, .spr, .out] x1 (crossCheck x0 x1 x2 x3 x4) := by
  intro x0 x1 x2 x3 x4
  unfold crossCheck
  extract_lets +onlyGivenNames -underBinder y1
  try clear_value y1
  refine Frame.ite ?_ ?_
  · exact (State.modPort_frame _ _ _).mono rfl
  · extract_lets +onlyGivenNames -underBinder y2
    try clear_value y2
    split
    · exact (State.modPort_frame _ _ _).mono rfl
    · refine Frame.ite ?_ ?_
      · exact Frame.refl _ _
      · exact (sensorFails_frame _ _ _ _ _).mono rfl
    · extract_lets +onlyGivenNames -underBinder y3
      try clear_value y3
      refine Frame.ite ?_ ?_
      · exact Frame.step ((sensorCleared_frame _ _ _).mono rfl) (State.modPort_frame _ _ _) (by rfl)
      · refine Frame.ite ?_ ?_
        · exact (sensorFails_frame _ _ _ _ _).mono rfl
        · exact Frame.refl _ _

/-- What `checkLimit` can change. -/
theorem checkLimit_frame : ∀ x0 x1 x2 x3 x4, Frame [.glb, .link, .rings, .cnt, .execs, .parked, .quires, .ports, .th, .sp, .spr, .mgt, .bg, .out] x0 (checkLimit x0 x1 x2 x3 x4) := by
  intro x0 x1 x2 x3 x4
  unfold checkLimit
  extract_lets +onlyGivenNames -underBinder y1
  try clear_value y1
  extract_lets +onlyGivenNames -underBinder y2
  try clear_value y2
  extract_lets +onlyGivenNames -underBinder y3
  try clear_value y3
  refine Frame.ite ?_ ?_
  · extract_lets +onlyGivenNames -underBinder y4
    try clear_value y4
    extract_lets +onlyGivenNames -underBinder y5
    have hy5 : Frame [.glb, .link, .rings, .cnt, .execs, .parked, .quires, .ports, .th, .sp, .spr, .mgt, .bg, .out] x0 y5 := Frame.step ((State.modPort_frame _ _ _).mono rfl) (heaterOff_frame _ _) (by rfl)
    try clear_value y5
    extract_lets +onlyGivenNames -underBinder y6
    try clear_value y6
    exact Frame.step (Frame.step (by assumption) (headStop_frame _ _) (by rfl)) (thermEvent_frame _ _ _ _ _ _ _ _ _ _) (by rfl)
  · exact (State.modPort_frame _ _ _).mono rfl

/-- What `checkWarn` can change. -/
theorem checkWarn_frame : ∀ x0 x1 x2 x3 x4, Frame [.glb, .link, .rings, .cnt, .execs, .parked, .quires, .reqs, .ports, .th, .sp, .spr, .mgt, .bg, .out] x0 (checkWarn x0 x1 x2 x3 x4) := by
  intro x0 x1 x2 x3 x4
  unfold checkWarn
  extract_lets +onlyGivenNames -underBinder y1
  try clear_value y1
  extract_lets +onlyGivenNames -underBinder y2
  try clear_value y2
  extract_lets +onlyGivenNames -underBinder y3
  try clear_value y3
  extract_lets +onlyGivenNames -underBinder y4
  try clear_value y4
  extract_lets +onlyGivenNames -underBinder y5
  have hy5 : Frame [.glb, .link, .rings, .cnt, .execs, .parked, .quires, .reqs, .ports, .th, .sp, .spr, .mgt, .bg, .out] x0 y5 := by
    unfold y5
    split
    · refine Frame.ite ?_ ?_
      · exact Frame.step ((State.modPort_frame _ _ _).mono rfl) (thermEvent_frame _ _ _ _ _ _ _ _ _ _) (by rfl)
      · exact Frame.refl _ _
    · refine Frame.ite ?_ ?_
      · exact (endHeadEpisode_frame _ _ _ _ _).mono rfl
      · exact (State.modPort_frame _ _ _).mono rfl
  try clear_value y5
  split
  · refine Frame.ite ?_ ?_
    · extract_lets +onlyGivenNames -underBinder y6
      try clear_value y6
      extract_lets +onlyGivenNames -underBinder y7
      have hy7 : Frame [.glb, .link, .rings, .cnt, .execs, .parked, .quires, .reqs, .ports, .th, .sp, .spr, .mgt, .bg, .out] x0 y7 := Frame.step (by assumption) (request_frame _ _ _ _) (by rfl)
      try clear_value y7
      exact Frame.step (Frame.step (Frame.step (by assumption) (State.modPort_frame _ _ _) (by rfl)) (heaterOff_frame _ _) (by rfl)) (thermEvent_frame _ _ _ _ _ _ _ _ _ _) (by rfl)
    · assumption
  · assumption

/-- What `checkCold` can change. -/
theorem checkCold_frame : ∀ x0 x1 x2 x3, Frame [.glb, .link, .rings, .cnt, .execs, .parked, .quires, .reqs, .ports, .th, .sp, .spr, .mgt, .bg, .out] x0 (checkCold x0 x1 x2 x3) := by
  intro x0 x1 x2 x3
  unfold checkCold
  split
  · exact Frame.refl _ _
  · extract_lets +onlyGivenNames -underBinder y1
    have hy1 : Frame [.glb, .link, .rings, .cnt, .execs, .parked, .quires, .reqs, .ports, .th, .sp, .spr, .mgt, .bg, .out] x0 y1 := by
      refine Frame.ite ?_ ?_
      · refine Frame.ite ?_ ?_
        · exact (endColdWarn_frame _ _ _ _ _).mono rfl
        · exact Frame.refl _ _
      · refine Frame.ite ?_ ?_
        · exact Frame.step ((State.modPort_frame _ _ _).mono rfl) (thermEvent_frame _ _ _ _ _ _ _ _ _ _) (by rfl)
        · exact Frame.refl _ _
    try clear_value y1
    refine Frame.ite ?_ ?_
    · refine Frame.ite ?_ ?_
      · exact Frame.step (by assumption) (endMinjet_frame _ _ _ _ _) (by rfl)
      · assumption
    · refine Frame.ite ?_ ?_
      · extract_lets +onlyGivenNames -underBinder y2
        try clear_value y2
        extract_lets +onlyGivenNames -underBinder y3
        have hy3 : Frame [.glb, .link, .rings, .cnt, .execs, .parked, .quires, .reqs, .ports, .th, .sp, .spr, .mgt, .bg, .out] x0 y3 := Frame.step (by assumption) (request_frame _ _ _ _) (by rfl)
        try clear_value y3
        exact Frame.step (Frame.step (by assumption) (State.modPort_frame _ _ _) (by rfl)) (thermEvent_frame _ _ _ _ _ _ _ _ _ _) (by rfl)
      · assumption

/-- What `warmTime` can change. -/
theorem warmTime_frame : ∀ x0 x1 x2 x3, Frame [.ports] x0 (warmTime x0 x1 x2 x3) := by
  intro x0 x1 x2 x3
  unfold warmTime
  split
  all_goals
    exact (State.modPort_frame _ _ _).mono rfl

/-- What `headLimits` can change. -/
theorem headLimits_frame : ∀ x0 x1, Frame [.glb, .link, .rings, .cnt, .execs, .parked, .quires, .reqs, .ports, .th, .sp, .spr, .mgt, .bg, .out] x0 (headLimits x0 x1) := by
  intro x0 x1
  unfold headLimits
  extract_lets +onlyGivenNames -underBinder y1
  try clear_value y1
  split
  · exact Frame.refl _ _
  · refine Frame.ite ?_ ?_
    · exact Frame.refl _ _
    · extract_lets +onlyGivenNames -underBinder y2
      try clear_value y2
      extract_lets +onlyGivenNames -underBinder y3
      try clear_value y3
      extract_lets +onlyGivenNames -underBinder y4
      try clear_value y4
      exact Frame.step (Frame.step (Frame.step (Frame.step ((checkAbs_frame _ _ _).mono rfl) (checkLimit_frame _ _ _ _ _) (by rfl)) (checkWarn_frame _ _ _ _ _) (by rfl)) (checkCold_frame _ _ _ _) (by rfl)) (warmTime_frame _ _ _ _) (by rfl)

/-- What `heaterRound` can change. -/
theorem heaterRound_frame : ∀ x0 x1, Frame [.ports, .out] x0 (heaterRound x0 x1) := by
  intro x0 x1
  unfold heaterRound
  extract_lets +onlyGivenNames -underBinder y1
  try clear_value y1
  extract_lets +onlyGivenNames -underBinder y2
  try clear_value y2
  split
  · refine Frame.ite ?_ ?_
    · exact (heaterOff_frame _ _).mono rfl
    · extract_lets +onlyGivenNames -underBinder y3
      try clear_value y3
      extract_lets +onlyGivenNames -underBinder y4
      try clear_value y4
      extract_lets +onlyGivenNames -underBinder y5
      try clear_value y5
      extract_lets +onlyGivenNames -underBinder y6
      try clear_value y6
      extract_lets +onlyGivenNames -underBinder y7
      have hy7 : Frame [.ports, .out] x0 y7 := (State.modPort_frame _ _ _).mono rfl
      try clear_value y7
      refine Frame.ite ?_ ?_
      · assumption
      · exact Frame.step (by assumption) (State.emit_frame _ _) (by rfl)
  · exact (heaterOff_frame _ _).mono rfl

/-- What `dieWarnCheck` can change. -/
theorem dieWarnCheck_frame : ∀ x0 x1 x2, Frame [.glb, .link, .rings, .cnt, .parked, .ports, .th, .sp, .spr, .out] x0 (dieWarnCheck x0 x1 x2) := by
  intro x0 x1 x2
  unfold dieWarnCheck
  split
  · refine Frame.ite ?_ ?_
    · extract_lets +onlyGivenNames -underBinder y1
      try clear_value y1
      refine Frame.step ?_ (thermEvent_frame _ _ _ _ _ _ _ _ _ _) (by rfl)
      exact Frame.upd (Frame.refl _ _) rfl rfl
    · exact Frame.refl _ _
  · refine Frame.ite ?_ ?_
    · extract_lets +onlyGivenNames -underBinder y2
      have hy2 : Frame [.glb, .link, .rings, .cnt, .parked, .ports, .th, .sp, .spr, .out] x0 y2 := by
        refine Frame.ite ?_ ?_
        · exact (thermEvent_frame _ _ _ _ _ _ _ _ _ _).mono rfl
        · exact Frame.refl _ _
      try clear_value y2
      refine Frame.step ?_ (thermEvent_frame _ _ _ _ _ _ _ _ _ _) (by rfl)
      exact Frame.upd (by assumption) rfl rfl
    · exact Frame.refl _ _

/-- What `dieEnforceCheck` can change. -/
theorem dieEnforceCheck_frame : ∀ x0 x1 x2, Frame [.glb, .link, .rings, .cnt, .parked, .ports, .th, .sp, .spr, .out] x0 (dieEnforceCheck x0 x1 x2) := by
  intro x0 x1 x2
  unfold dieEnforceCheck
  split
  · refine Frame.ite ?_ ?_
    · refine Frame.step ?_ (thermEvent_frame _ _ _ _ _ _ _ _ _ _) (by rfl)
      exact Frame.upd (Frame.refl _ _) rfl rfl
    · exact Frame.refl _ _
  · exact Frame.refl _ _

/-- What `dieLimitCheck` can change. -/
theorem dieLimitCheck_frame : ∀ x0 x1 x2, Frame [.glb, .link, .rings, .cnt, .execs, .parked, .quires, .reqs, .ports, .th, .sp, .spr, .mgt, .bg, .out] x0 (dieLimitCheck x0 x1 x2) := by
  intro x0 x1 x2
  unfold dieLimitCheck
  refine Frame.ite ?_ ?_
  · refine Frame.ite ?_ ?_
    · refine Frame.step ?_ (faultEdge_frame _) (by rfl)
      exact Frame.upd (Frame.refl _ _) rfl rfl
    · exact Frame.refl _ _
  · refine Frame.ite ?_ ?_
    · extract_lets +onlyGivenNames -underBinder y1
      try clear_value y1
      extract_lets +onlyGivenNames -underBinder y2
      try clear_value y2
      extract_lets +onlyGivenNames -underBinder y3
      have hy3 : Frame [.glb, .link, .rings, .cnt, .execs, .parked, .quires, .reqs, .ports, .th, .sp, .spr, .mgt, .bg, .out] x0 y3 := by
        refine Frame.step ?_ (evtStop_frame _ _ _) (by rfl)
        refine Frame.step ?_ (faultEdge_frame _) (by rfl)
        refine Frame.step ?_ (stopAll_frame _ _) (by rfl)
        exact Frame.upd (Frame.refl _ _) rfl rfl
      try clear_value y3
      extract_lets +onlyGivenNames -underBinder y4
      have hy4 : Frame [.glb, .link, .rings, .cnt, .execs, .parked, .quires, .reqs, .ports, .th, .sp, .spr, .mgt, .bg, .out] x0 y4 := by
        refine forAll_frame ?_ (fun t5 _ => ?_)
        · assumption
        · refine Frame.ite ?_ ?_
          · exact Frame.refl _ _
          · exact Frame.step ((addCommit_frame _ _ _).mono rfl) (pumpHead_frame _ _) (by rfl)
      try clear_value y4
      exact Frame.step (by assumption) (thermEvent_frame _ _ _ _ _ _ _ _ _ _) (by rfl)
    · exact Frame.refl _ _

/-- What `dieColdCheck` can change. -/
theorem dieColdCheck_frame : ∀ x0 x1 x2, Frame [.glb, .link, .rings, .cnt, .parked, .ports, .page, .th, .sp, .spr, .out] x0 (dieColdCheck x0 x1 x2) := by
  intro x0 x1 x2
  unfold dieColdCheck
  refine Frame.ite ?_ ?_
  · refine Frame.ite ?_ ?_
    · extract_lets +onlyGivenNames -underBinder y1
      try clear_value y1
      extract_lets +onlyGivenNames -underBinder y2
      have hy2 : Frame [.glb, .link, .rings, .cnt, .parked, .ports, .page, .th, .sp, .spr, .out] x0 y2 := Frame.upd (Frame.refl _ _) rfl rfl
      try clear_value y2
      refine Frame.ite ?_ ?_
      · exact Frame.upd (by assumption) rfl rfl
      · assumption
    · exact Frame.refl _ _
  · refine Frame.ite ?_ ?_
    · refine Frame.step ?_ (thermEvent_frame _ _ _ _ _ _ _ _ _ _) (by rfl)
      exact Frame.upd (Frame.refl _ _) rfl rfl
    · exact Frame.refl _ _

/-- What `dieLimits` can change. -/
theorem dieLimits_frame : ∀ x0, Frame [.glb, .link, .rings, .cnt, .execs, .parked, .quires, .reqs, .ports, .page, .th, .sp, .spr, .mgt, .bg, .out] x0 (dieLimits x0) := by
  intro x0
  unfold dieLimits
  split
  · exact Frame.refl _ _
  · exact Frame.step (Frame.step (Frame.step ((dieWarnCheck_frame _ _ _).mono rfl) (dieEnforceCheck_frame _ _ _) (by rfl)) (dieLimitCheck_frame _ _ _) (by rfl)) (dieColdCheck_frame _ _ _) (by rfl)

/-- What `demandRound` can change. -/
theorem demandRound_frame : ∀ x0, Frame [.th, .spr] x0 (demandRound x0) := by
  intro x0
  unfold demandRound
  extract_lets +onlyGivenNames -underBinder y1
  try clear_value y1
  refine Frame.step ?_ (updateDemand_frame _) (by rfl)
  exact Frame.upd (Frame.refl _ _) rfl rfl

/-- What `supplyEvent` can change. -/
theorem supplyEvent_frame : ∀ x0 x1 x2 x3 x4 x5, Frame [.link, .rings, .cnt, .parked, .sp, .spr, .out] x0 (supplyEvent x0 x1 x2 x3 x4 x5) := by
  intro x0 x1 x2 x3 x4 x5
  unfold supplyEvent
  exact (raise_frame _ _ _ _ _ _).mono rfl

/-- What `supplyCheck` can change. -/
theorem supplyCheck_frame : ∀ x0 x1, Frame [.link, .rings, .cnt, .parked, .th, .sp, .spr, .out] x0 (supplyCheck x0 x1) := by
  intro x0 x1
  unfold supplyCheck
  extract_lets +onlyGivenNames -underBinder y1
  try clear_value y1
  extract_lets +onlyGivenNames -underBinder y2
  try clear_value y2
  extract_lets +onlyGivenNames -underBinder y3
  try clear_value y3
  extract_lets +onlyGivenNames -underBinder y4
  try clear_value y4
  extract_lets +onlyGivenNames -underBinder y5
  try clear_value y5
  extract_lets +onlyGivenNames -underBinder y6
  try clear_value y6
  extract_lets +onlyGivenNames -underBinder y7
  try clear_value y7
  extract_lets +onlyGivenNames -underBinder y8
  have hy8 : Frame [.link, .rings, .cnt, .parked, .th, .sp, .spr, .out] x0 y8 := Frame.upd (Frame.refl _ _) rfl rfl
  try clear_value y8
  refine Frame.ite ?_ ?_
  · refine Frame.step ?_ (supplyEvent_frame _ _ _ _ _ _) (by rfl)
    exact Frame.upd (by assumption) rfl rfl
  · refine Frame.ite ?_ ?_
    · refine Frame.step ?_ (supplyEvent_frame _ _ _ _ _ _) (by rfl)
      exact Frame.upd (by assumption) rfl rfl
    · assumption

/-- What `sensorRound` can change. -/
theorem sensorRound_frame : ∀ x0 x1, Frame [.glb, .link, .rings, .cnt, .parked, .ports, .th, .sp, .spr, .out] x0 (sensorRound x0 x1) := by
  intro x0 x1
  unfold sensorRound
  extract_lets +onlyGivenNames -underBinder y1
  try clear_value y1
  extract_lets +onlyGivenNames -underBinder y2
  try clear_value y2
  extract_lets +onlyGivenNames -underBinder y3
  have hy3 : Frame [.glb, .link, .rings, .cnt, .parked, .ports, .th, .sp, .spr, .out] x0 y3 := by
    refine Frame.foldl (fun t4 _ => ?_) _ _ ?_
    · refine Frame.foldl (fun t5 _ => ?_) _ _ ?_
      · exact (takeReading_frame _ _ _ _).mono rfl
      · exact Frame.refl _ _
    · exact Frame.refl _ _
  try clear_value y3
  extract_lets +onlyGivenNames -underBinder y6
  have hy6 : Frame [.glb, .link, .rings, .cnt, .parked, .ports, .th, .sp, .spr, .out] x0 y6 := by
    refine Frame.foldl (fun t7 _ => ?_) _ _ ?_
    · exact (substitute_frame _ _ _).mono rfl
    · assumption
  try clear_value y6
  refine Frame.foldl (fun t8 _ => ?_) _ _ ?_
  · extract_lets +onlyGivenNames -underBinder y9
    have hy9 : Frame [.glb, .link, .rings, .cnt, .parked, .ports, .th, .sp, .spr, .out] t8 y9 := (State.modPort_frame _ _ _).mono rfl
    try clear_value y9
    refine Frame.foldl (fun t10 _ => ?_) _ _ ?_
    · exact (crossCheck_frame _ _ _ _ _).mono rfl
    · assumption
  · assumption

/-- What `statusReads` can change. -/
theorem statusReads_frame : ∀ x0, Frame [.glb, .link, .rings, .cnt, .execs, .parked, .quires, .reqs, .ports, .th, .sp, .spr, .mgt, .bg, .out] x0 (statusReads x0) := by
  intro x0
  unfold statusReads
  refine forAll_frame ?_ (fun t1 _ => ?_)
  · exact Frame.refl _ _
  · extract_lets +onlyGivenNames -underBinder y2
    try clear_value y2
    refine Frame.ite ?_ ?_
    · exact Frame.step ((addJob_frame _ _ _).mono rfl) (pumpHead_frame _ _) (by rfl)
    · exact Frame.refl _ _

/-- What `selfTests` can change. -/
theorem selfTests_frame : ∀ x0 x1, Frame [.link, .rings, .cnt, .execs, .parked, .sp, .spr, .mgt, .out] x1 (selfTests x0 x1) := by
  intro x0 x1
  unfold selfTests
  extract_lets +onlyGivenNames -underBinder y1
  try clear_value y1
  refine Frame.foldl (fun t2 _ => ?_) _ _ ?_
  · refine Frame.step ?_ (endExec_frame _ _ _ _) (by rfl)
    refine Frame.ite ?_ ?_
    · exact Frame.refl _ _
    · exact (writeOut_frame _ _ _ _).mono rfl
  · exact Frame.refl _ _

/-- What `suspendEdge` can change. -/
theorem suspendEdge_frame : ∀ x0, Frame [.glb, .link, .rings, .cnt, .execs, .parked, .quires, .reqs, .ports, .th, .sp, .spr, .mgt, .bg, .out] x0 (suspendEdge x0) := by
  intro x0
  unfold suspendEdge
  split
  · exact Frame.upd (Frame.refl _ _) rfl rfl
  · extract_lets +onlyGivenNames -underBinder y1
    try clear_value y1
    refine forAll_frame ?_ (fun t2 _ => ?_)
    · exact Frame.upd (Frame.refl _ _) rfl rfl
    · exact (pumpHead_frame _ _).mono rfl
  · exact Frame.refl _ _
  · exact Frame.refl _ _

/-- What `hkCalibrate` can change. -/
theorem hkCalibrate_frame : ∀ x0, Frame [.bg] x0 (hkCalibrate x0) := by
  intro x0
  unfold hkCalibrate
  extract_lets +onlyGivenNames -underBinder y1
  try clear_value y1
  refine Frame.ite ?_ ?_
  · exact Frame.upd (Frame.refl _ _) rfl rfl
  · exact Frame.refl _ _

/-- What `entriesFollow` can change. -/
theorem entriesFollow_frame : ∀ x0 x1, Frame [.ports] x0 (entriesFollow x0 x1) := by
  intro x0 x1
  unfold entriesFollow
  extract_lets +onlyGivenNames -underBinder y1
  have hy1 : Frame [.ports] x0 y1 := (State.modPort_frame _ _ _).mono rfl
  try clear_value y1
  split
  · assumption
  · split
    all_goals
      exact Frame.step (by assumption) (State.modPort_frame _ _ _) (by rfl)

/-- What `hkRound` can change. -/
theorem hkRound_frame : ∀ x0 x1, Frame [.clk, .tb, .glb, .link, .rings, .cnt, .execs, .parked, .quires, .reqs, .ports, .page, .th, .sp, .spr, .mgt, .bg, .out] x1 (hkRound x0 x1) := by
  intro x0 x1
  unfold hkRound
  refine Frame.ite ?_ ?_
  · exact Frame.refl _ _
  · extract_lets +onlyGivenNames -underBinder y1
    have hy1 : Frame [.clk, .tb, .glb, .link, .rings, .cnt, .execs, .parked, .quires, .reqs, .ports, .page, .th, .sp, .spr, .mgt, .bg, .out] x1 y1 := (State.advanceTo_frame _ _).mono rfl
    try clear_value y1
    extract_lets +onlyGivenNames -underBinder y2
    try clear_value y2
    extract_lets +onlyGivenNames -underBinder y3
    try clear_value y3
    extract_lets +onlyGivenNames -underBinder y4
    try clear_value y4
    extract_lets +onlyGivenNames -underBinder y5
    have hy5 : Frame [.clk, .tb, .glb, .link, .rings, .cnt, .execs, .parked, .quires, .reqs, .ports, .page, .th, .sp, .spr, .mgt, .bg, .out] x1 y5 := Frame.upd (by assumption) rfl rfl
    try clear_value y5
    extract_lets +onlyGivenNames -underBinder y6
    have hy6 : Frame [.clk, .tb, .glb, .link, .rings, .cnt, .execs, .parked, .quires, .reqs, .ports, .page, .th, .sp, .spr, .mgt, .bg, .out] x1 y6 := by
      refine forAll_frame ?_ (fun t7 _ => ?_)
      · exact Frame.step (by assumption) (sensorRound_frame _ _) (by rfl)
      · exact (entriesFollow_frame _ _).mono rfl
    try clear_value y6
    extract_lets +onlyGivenNames -underBinder y8
    try clear_value y8
    extract_lets +onlyGivenNames -underBinder y9
    have hy9 : Frame [.clk, .tb, .glb, .link, .rings, .cnt, .execs, .parked, .quires, .reqs, .ports, .page, .th, .sp, .spr, .mgt, .bg, .out] x1 y9 := by
      refine Frame.step ?_ (dieLimits_frame _) (by rfl)
      refine forAll_frame ?_ (fun t10 _ => ?_)
      · exact Frame.upd (by assumption) rfl rfl
      · exact (headLimits_frame _ _).mono rfl
    try clear_value y9
    extract_lets +onlyGivenNames -underBinder y11
    have hy11 : Frame [.clk, .tb, .glb, .link, .rings, .cnt, .execs, .parked, .quires, .reqs, .ports, .page, .th, .sp, .spr, .mgt, .bg, .out] x1 y11 := by
      refine forAll_frame ?_ (fun t12 _ => ?_)
      · exact Frame.step (by assumption) (demandRound_frame _) (by rfl)
      · exact (heaterRound_frame _ _).mono rfl
    try clear_value y11
    refine Frame.step ?_ (hkCalibrate_frame _) (by rfl)
    refine Frame.step ?_ (suspendEdge_frame _) (by rfl)
    refine Frame.step ?_ (selfTests_frame _ _) (by rfl)
    refine Frame.step ?_ (statusReads_frame _) (by rfl)
    refine forAll_frame ?_ (fun t13 _ => ?_)
    · assumption
    · exact (supplyCheck_frame _ _).mono rfl

/-- What `thermLimits` can change. -/
theorem thermLimits_frame : ∀ x0 x1 x2, Frame [.link, .rings, .cnt, .waiting, .parked, .th, .sp, .spr, .out] x2 (thermLimits x0 x1 x2) := by
  intro x0 x1 x2
  unfold thermLimits
  extract_lets +onlyGivenNames -underBinder y1
  try clear_value y1
  extract_lets +onlyGivenNames -underBinder y2
  try clear_value y2
  extract_lets +onlyGivenNames -underBinder y3
  try clear_value y3
  refine plainCmd_frame _ _ _ _ _ _ _ (by rfl) ?_
  exact Frame.upd (Frame.refl _ _) rfl rfl

/-- What `thermQuery` can change. -/
theorem thermQuery_frame : ∀ x0 x1 x2, Frame [.link, .rings, .cnt, .execs, .waiting, .parked, .sp, .spr, .mgt, .out, .nextId] x2 (thermQuery x0 x1 x2) := by
  intro x0 x1 x2
  unfold thermQuery
  extract_lets +onlyGivenNames -underBinder y1
  try clear_value y1
  extract_lets +onlyGivenNames -underBinder y2
  try clear_value y2
  refine command_frame _ _ _ _ _ _ _ _ (by rfl) ?_ ?_
  · exact (complete_frame _ _ _ _).mono rfl
  · refine Frame.ite ?_ ?_
    · exact (beginExec_frame _ _ _ _ _ _).mono rfl
    · exact Frame.step ((writeOut_frame _ _ _ _).mono rfl) (complete_frame _ _ _ _) (by rfl)

/-- What `sensorSubstitute` can change. -/
theorem sensorSubstitute_frame : ∀ x0 x1 x2, Frame [.glb, .link, .rings, .cnt, .waiting, .parked, .ports, .th, .sp, .spr, .out] x2 (sensorSubstitute x0 x1 x2) := by
  intro x0 x1 x2
  unfold sensorSubstitute
  extract_lets +onlyGivenNames -underBinder y1
  try clear_value y1
  extract_lets +onlyGivenNames -underBinder y2
  try clear_value y2
  extract_lets +onlyGivenNames -underBinder y3
  try clear_value y3
  extract_lets +onlyGivenNames -underBinder y4
  try clear_value y4
  extract_lets +onlyGivenNames -underBinder y5
  try clear_value y5
  extract_lets +onlyGivenNames -underBinder y6
  try clear_value y6
  refine plainCmd_frame _ _ _ _ _ _ _ (by rfl) ?_
  extract_lets +onlyGivenNames -underBinder y7
  have hy7 : ∀ a0y7, Frame [.glb, .link, .rings, .cnt, .waiting, .parked, .ports, .th, .sp, .spr, .out] x2 (y7 a0y7) := by
    intro a0y7
    unfold y7
    exact (State.modPort_frame _ _ _).mono rfl
  try clear_value y7
  refine Frame.ite ?_ ?_
  all_goals
    exact Frame.step (hy7 _) (thermEvent_frame _ _ _ _ _ _ _ _ _ _) (by rfl)

/-- What `supplyQuery` can change. -/
theorem supplyQuery_frame : ∀ x0 x1 x2, Frame [.link, .rings, .cnt, .waiting, .parked, .sp, .spr, .mgt, .out] x2 (supplyQuery x0 x1 x2) := by
  intro x0 x1 x2
  unfold supplyQuery
  extract_lets +onlyGivenNames -underBinder y1
  try clear_value y1
  exact reportCmd_frame _ _ _ _ _ _ _ _ _ (by rfl)

/-! ### OtpRead -/

/-- What `marginalEvent` can change. -/
theorem marginalEvent_frame : ∀ x0 x1 x2, Frame [.link, .rings, .cnt, .parked, .sp, .spr, .out] x0 (marginalEvent x0 x1 x2) := by
  intro x0 x1 x2
  unfold marginalEvent
  extract_lets +onlyGivenNames -underBinder y1
  try clear_value y1
  exact (raise_frame _ _ _ _ _ _).mono rfl

/-- What `marginCheck` can change. -/
theorem marginCheck_frame : ∀ x0 x1 x2, Frame [.link, .rings, .cnt, .parked, .sp, .spr, .otp, .out] x0 (marginCheck x0 x1 x2) := by
  intro x0 x1 x2
  unfold marginCheck
  extract_lets +onlyGivenNames -underBinder y1
  try clear_value y1
  extract_lets +onlyGivenNames -underBinder y2
  try clear_value y2
  extract_lets +onlyGivenNames -underBinder y3
  have hy3 : Frame [.link, .rings, .cnt, .parked, .sp, .spr, .otp, .out] x0 y3 := by
    refine Frame.foldl (fun t4 _ => ?_) _ _ ?_
    · exact (marginalEvent_frame _ _ _).mono rfl
    · exact Frame.refl _ _
  try clear_value y3
  extract_lets +onlyGivenNames -underBinder y5
  try clear_value y5
  extract_lets +onlyGivenNames -underBinder y6
  try clear_value y6
  exact Frame.upd (by assumption) rfl rfl

/-- What `fuseLoad` can change. -/
theorem fuseLoad_frame : ∀ x0 x1, Frame [.glb, .link, .rings, .cnt, .parked, .sp, .spr, .rst, .otp, .mgt, .out] x0 (fuseLoad x0 x1) := by
  intro x0 x1
  unfold fuseLoad
  extract_lets +onlyGivenNames -underBinder y1
  try clear_value y1
  extract_lets +onlyGivenNames -underBinder y2
  try clear_value y2
  extract_lets +onlyGivenNames -underBinder y3
  try clear_value y3
  extract_lets +onlyGivenNames -underBinder y4
  try clear_value y4
  extract_lets +onlyGivenNames -underBinder y5
  try clear_value y5
  extract_lets +onlyGivenNames -underBinder y6
  try clear_value y6
  extract_lets +onlyGivenNames -underBinder y7
  try clear_value y7
  extract_lets +onlyGivenNames -underBinder y8
  try clear_value y8
  extract_lets +onlyGivenNames -underBinder y9
  try clear_value y9
  extract_lets +onlyGivenNames -underBinder y10
  extract_lets +onlyGivenNames -underBinder y11
  have hy11 : Frame [.glb, .link, .rings, .cnt, .parked, .sp, .spr, .rst, .otp, .mgt, .out] x0 y11 := Frame.upd (Frame.refl _ _) rfl rfl
  try clear_value y11
  refine Frame.foldl (fun t12 _ => ?_) _ _ ?_
  · exact (marginalEvent_frame _ _ _).mono rfl
  · assumption

/-! ### Tables -/

/-- What `healTile` can change. -/
theorem healTile_frame : ∀ x0 x1 x2, Frame [.ports] x0 (healTile x0 x1 x2) := by
  intro x0 x1 x2
  unfold healTile
  refine forAll_frame ?_ (fun t1 _ => ?_)
  · exact Frame.refl _ _
  · exact (State.modBanks_frame _ _ _).mono rfl

/-- What `tileDone` can change. -/
theorem tileDone_frame : ∀ x0 x1 x2 x3, Frame [.link, .rings, .cnt, .execs, .parked, .ports, .tiles, .masks, .sp, .spr, .out] x0 (tileDone x0 x1 x2 x3) := by
  intro x0 x1 x2 x3
  unfold tileDone
  extract_lets +onlyGivenNames -underBinder y1
  try clear_value y1
  extract_lets +onlyGivenNames -underBinder y2
  try clear_value y2
  extract_lets +onlyGivenNames -underBinder y3
  try clear_value y3
  extract_lets +onlyGivenNames -underBinder y4
  try clear_value y4
  extract_lets +onlyGivenNames -underBinder y5
  try clear_value y5
  extract_lets +onlyGivenNames -underBinder y6
  try clear_value y6
  refine dataDone_frame _ _ _ _ _ (by rfl) ?_
  refine Frame.step ?_ (endExec_frame _ _ _ _) (by rfl)
  refine Frame.step ?_ (healTile_frame _ _ _) (by rfl)
  refine Frame.ite ?_ ?_
  all_goals
    exact Frame.upd (Frame.refl _ _) rfl rfl

/-- What `screenLoadLoad` can change. -/
theorem screenLoadLoad_frame : ∀ x0 x1 x2, Frame [.link, .rings, .cnt, .execs, .waiting, .parked, .sp, .spr, .out, .nextId] x2 (screenLoadLoad x0 x1 x2) := by
  intro x0 x1 x2
  unfold screenLoadLoad
  extract_lets +onlyGivenNames -underBinder y1
  try clear_value y1
  extract_lets +onlyGivenNames -underBinder y2
  try clear_value y2
  extract_lets +onlyGivenNames -underBinder y3
  try clear_value y3
  extract_lets +onlyGivenNames -underBinder y4
  try clear_value y4
  exact (readCmd_frame _ _ _ _ _ _ _ _ _).mono rfl

/-- What `screenLoadSelect` can change. -/
theorem screenLoadSelect_frame : ∀ x0 x1 x2, Frame [.link, .rings, .cnt, .execs, .waiting, .parked, .ports, .sp, .spr, .mgt, .out, .nextId] x2 (screenLoadSelect x0 x1 x2) := by
  intro x0 x1 x2
  unfold screenLoadSelect
  extract_lets +onlyGivenNames -underBinder y1
  try clear_value y1
  extract_lets +onlyGivenNames -underBinder y2
  try clear_value y2
  refine command_frame _ _ _ _ _ _ _ _ (by rfl) ?_ ?_
  · exact (complete_frame _ _ _ _).mono rfl
  · exact (shadowNow_frame _ _ _ _ _).mono rfl

/-- What `screenLoadFree` can change. -/
theorem screenLoadFree_frame : ∀ x0 x1 x2, Frame [.link, .rings, .cnt, .waiting, .parked, .tiles, .sp, .spr, .out] x2 (screenLoadFree x0 x1 x2) := by
  intro x0 x1 x2
  unfold screenLoadFree
  extract_lets +onlyGivenNames -underBinder y1
  try clear_value y1
  refine plainCmd_frame _ _ _ _ _ _ _ (by rfl) ?_
  exact Frame.upd (Frame.refl _ _) rfl rfl

/-- What `screenLoad` can change. -/
theorem screenLoad_frame : ∀ x0 x1 x2, Frame [.link, .rings, .cnt, .execs, .waiting, .parked, .ports, .tiles, .sp, .spr, .mgt, .out, .nextId] x2 (screenLoad x0 x1 x2) := by
  intro x0 x1 x2
  unfold screenLoad
  refine Frame.ite ?_ ?_
  · exact (screenLoadLoad_frame _ _ _).mono rfl
  · refine Frame.ite ?_ ?_
    · exact (screenLoadSelect_frame _ _ _).mono rfl
    · refine Frame.ite ?_ ?_
      · exact (screenLoadFree_frame _ _ _).mono rfl
      · refine plainCmd_frame _ _ _ _ _ _ _ (by rfl) ?_
        dsimp only [id]
        exact Frame.refl _ _

/-- What `maskLoadLoad` can change. -/
theorem maskLoadLoad_frame : ∀ x0 x1 x2, Frame [.link, .rings, .cnt, .execs, .waiting, .parked, .sp, .spr, .out, .nextId] x2 (maskLoadLoad x0 x1 x2) := by
  intro x0 x1 x2
  unfold maskLoadLoad
  extract_lets +onlyGivenNames -underBinder y1
  try clear_value y1
  extract_lets +onlyGivenNames -underBinder y2
  try clear_value y2
  extract_lets +onlyGivenNames -underBinder y3
  try clear_value y3
  extract_lets +onlyGivenNames -underBinder y4
  try clear_value y4
  exact (readCmd_frame _ _ _ _ _ _ _ _ _).mono rfl

/-- What `maskLoadFree` can change. -/
theorem maskLoadFree_frame : ∀ x0 x1 x2, Frame [.link, .rings, .cnt, .waiting, .parked, .masks, .sp, .spr, .out] x2 (maskLoadFree x0 x1 x2) := by
  intro x0 x1 x2
  unfold maskLoadFree
  extract_lets +onlyGivenNames -underBinder y1
  try clear_value y1
  refine plainCmd_frame _ _ _ _ _ _ _ (by rfl) ?_
  exact Frame.upd (Frame.refl _ _) rfl rfl

/-- What `maskLoad` can change. -/
theorem maskLoad_frame : ∀ x0 x1 x2, Frame [.link, .rings, .cnt, .execs, .waiting, .parked, .masks, .sp, .spr, .out, .nextId] x2 (maskLoad x0 x1 x2) := by
  intro x0 x1 x2
  unfold maskLoad
  refine Frame.ite ?_ ?_
  · exact (maskLoadLoad_frame _ _ _).mono rfl
  · refine Frame.ite ?_ ?_
    · exact (maskLoadFree_frame _ _ _).mono rfl
    · refine plainCmd_frame _ _ _ _ _ _ _ (by rfl) ?_
      dsimp only [id]
      exact Frame.refl _ _

/-- What `nucLoad` can change. -/
theorem nucLoad_frame : ∀ x0 x1 x2, Frame [.link, .rings, .cnt, .execs, .waiting, .parked, .sp, .spr, .out, .nextId] x2 (nucLoad x0 x1 x2) := by
  intro x0 x1 x2
  unfold nucLoad
  extract_lets +onlyGivenNames -underBinder y1
  try clear_value y1
  extract_lets +onlyGivenNames -underBinder y2
  try clear_value y2
  extract_lets +onlyGivenNames -underBinder y3
  try clear_value y3
  extract_lets +onlyGivenNames -underBinder y4
  try clear_value y4
  extract_lets +onlyGivenNames -underBinder y5
  try clear_value y5
  extract_lets +onlyGivenNames -underBinder y6
  try clear_value y6
  exact (readCmd_frame _ _ _ _ _ _ _ _ _).mono rfl

/-- What `loadDone` can change. -/
theorem loadDone_frame : ∀ x0 x1 x2 x3, Frame [.link, .rings, .cnt, .execs, .parked, .ports, .sp, .spr, .mgt, .out] x0 (loadDone x0 x1 x2 x3) := by
  intro x0 x1 x2 x3
  unfold loadDone
  extract_lets +onlyGivenNames -underBinder y1
  try clear_value y1
  refine dataDone_frame _ _ _ _ _ (by rfl) ?_
  exact (shadowLoad_frame _ _ _ _).mono rfl

/-- What `nucDone` can change. -/
theorem nucDone_frame : ∀ x0 x1 x2, Frame [.link, .rings, .cnt, .execs, .parked, .ports, .sp, .spr, .mgt, .out] x0 (nucDone x0 x1 x2) := by
  intro x0 x1 x2
  unfold nucDone
  exact (loadDone_frame _ _ _ _).mono rfl

/-- What `delayLoad` can change. -/
theorem delayLoad_frame : ∀ x0 x1 x2, Frame [.link, .rings, .cnt, .execs, .waiting, .parked, .sp, .spr, .out, .nextId] x2 (delayLoad x0 x1 x2) := by
  intro x0 x1 x2
  unfold delayLoad
  extract_lets +onlyGivenNames -underBinder y1
  try clear_value y1
  extract_lets +onlyGivenNames -underBinder y2
  try clear_value y2
  extract_lets +onlyGivenNames -underBinder y3
  try clear_value y3
  extract_lets +onlyGivenNames -underBinder y4
  try clear_value y4
  exact (readCmd_frame _ _ _ _ _ _ _ _ _).mono rfl

/-- What `delayDone` can change. -/
theorem delayDone_frame : ∀ x0 x1 x2, Frame [.link, .rings, .cnt, .execs, .parked, .ports, .sp, .spr, .mgt, .out] x0 (delayDone x0 x1 x2) := by
  intro x0 x1 x2
  unfold delayDone
  extract_lets +onlyGivenNames -underBinder y1
  try clear_value y1
  exact (loadDone_frame _ _ _ _).mono rfl

/-- What `stitchConfig` can change. -/
theorem stitchConfig_frame : ∀ x0 x1 x2, Frame [.link, .rings, .cnt, .execs, .waiting, .parked, .ports, .sp, .spr, .mgt, .out, .nextId] x2 (stitchConfig x0 x1 x2) := by
  intro x0 x1 x2
  unfold stitchConfig
  extract_lets +onlyGivenNames -underBinder y1
  try clear_value y1
  extract_lets +onlyGivenNames -underBinder y2
  try clear_value y2
  extract_lets +onlyGivenNames -underBinder y3
  try clear_value y3
  refine command_frame _ _ _ _ _ _ _ _ (by rfl) ?_ ?_
  · exact (complete_frame _ _ _ _).mono rfl
  · exact (shadowNow_frame _ _ _ _ _).mono rfl

/-- What `deckleSet` can change. -/
theorem deckleSet_frame : ∀ x0 x1 x2, Frame [.link, .rings, .cnt, .execs, .waiting, .parked, .ports, .sp, .spr, .mgt, .out, .nextId] x2 (deckleSet x0 x1 x2) := by
  intro x0 x1 x2
  unfold deckleSet
  extract_lets +onlyGivenNames -underBinder y1
  try clear_value y1
  refine command_frame _ _ _ _ _ _ _ _ (by rfl) ?_ ?_
  · exact (complete_frame _ _ _ _).mono rfl
  · exact (shadowNow_frame _ _ _ _ _).mono rfl

/-- What `compConfig` can change. -/
theorem compConfig_frame : ∀ x0 x1 x2, Frame [.link, .rings, .cnt, .execs, .waiting, .parked, .ports, .sp, .spr, .mgt, .out, .nextId] x2 (compConfig x0 x1 x2) := by
  intro x0 x1 x2
  unfold compConfig
  extract_lets +onlyGivenNames -underBinder y1
  try clear_value y1
  extract_lets +onlyGivenNames -underBinder y2
  try clear_value y2
  refine command_frame _ _ _ _ _ _ _ _ (by rfl) ?_ ?_
  · exact (complete_frame _ _ _ _).mono rfl
  · exact (shadowNow_frame _ _ _ _ _).mono rfl

/-! ### Background -/

/-- What `activityDone` can change. -/
theorem activityDone_frame : ∀ x0 x1, Frame [.bg] x0 (activityDone x0 x1) := by
  intro x0 x1
  unfold activityDone
  extract_lets +onlyGivenNames -underBinder y1
  try clear_value y1
  extract_lets +onlyGivenNames -underBinder y2
  try clear_value y2
  exact Frame.upd (Frame.refl _ _) rfl rfl

/-- What `countCorrection` can change. -/
theorem countCorrection_frame : ∀ x0, Frame [.bg] x0 (countCorrection x0) := by
  intro x0
  unfold countCorrection
  exact Frame.upd (Frame.refl _ _) rfl rfl

/-- What `countUncorr` can change. -/
theorem countUncorr_frame : ∀ x0, Frame [.bg] x0 (countUncorr x0) := by
  intro x0
  unfold countUncorr
  exact Frame.upd (Frame.refl _ _) rfl rfl

/-- What `scrubEvent` can change. -/
theorem scrubEvent_frame : ∀ x0 x1 x2 x3 x4 x5, Frame [.link, .rings, .cnt, .parked, .sp, .spr, .bg, .out] x0 (scrubEvent x0 x1 x2 x3 x4 x5) := by
  intro x0 x1 x2 x3 x4 x5
  unfold scrubEvent
  extract_lets +onlyGivenNames -underBinder y1
  try clear_value y1
  exact Frame.step ((countUncorr_frame _).mono rfl) (raise_frame _ _ _ _ _ _) (by rfl)

/-- What `reportOnce` can change. -/
theorem reportOnce_frame {l : List Part} (s : State) (key : Nat × Nat × Nat) (act : State → State)
    (hl : Part.all l [.bg] = true) (ha : ∀ t, Frame l t (act t)) : Frame l s (reportOnce s key act) := by
  unfold reportOnce
  refine Frame.ite (Frame.refl _ _) (Frame.trans ?_ (ha _))
  have w : Frame [.bg] s { s with bg := { s.bg with reported := key :: s.bg.reported } } := Frame.upd (Frame.refl _ _) rfl rfl
  exact w.mono (Part.all_trans hl rfl)

/-- What `tableEvent` can change. -/
theorem tableEvent_frame : ∀ x0 x1 x2 x3 x4 x5 x6, Frame [.glb, .link, .rings, .cnt, .parked, .ports, .sp, .spr, .bg, .out] x0 (tableEvent x0 x1 x2 x3 x4 x5 x6) := by
  intro x0 x1 x2 x3 x4 x5 x6
  unfold tableEvent
  exact Frame.step (Frame.step ((countUncorr_frame _).mono rfl) (setPwEvent_frame _ _ _) (by rfl)) (raise_frame _ _ _ _ _ _) (by rfl)

/-- What `liveDamage` can change. -/
theorem liveDamage_frame : ∀ x0 x1 x2 x3 x4, Frame [.glb, .link, .rings, .cnt, .execs, .parked, .quires, .ports, .sp, .spr, .mgt, .bg, .out] x0 (liveDamage x0 x1 x2 x3 x4) := by
  intro x0 x1 x2 x3 x4
  unfold liveDamage
  exact Frame.step ((stopPort_frame _ _ _).mono rfl) (tableEvent_frame _ _ _ _ _ _ _) (by rfl)

/-- What `shadowDamage` can change. -/
theorem shadowDamage_frame : ∀ x0 x1 x2 x3 x4 x5 x6, Frame [.glb, .link, .rings, .cnt, .parked, .ports, .sp, .spr, .bg, .out] x0 (shadowDamage x0 x1 x2 x3 x4 x5 x6) := by
  intro x0 x1 x2 x3 x4 x5 x6
  unfold shadowDamage
  split
  · exact Frame.refl _ _
  · refine Frame.ite ?_ ?_
    · exact Frame.refl _ _
    · extract_lets +onlyGivenNames -underBinder y1
      have hy1 : Frame [.glb, .link, .rings, .cnt, .parked, .ports, .sp, .spr, .bg, .out] x0 y1 := by
        refine Frame.ite ?_ ?_
        · exact (State.modBanks_frame _ _ _).mono rfl
        · exact Frame.refl _ _
      try clear_value y1
      exact Frame.step (by assumption) (tableEvent_frame _ _ _ _ _ _ _) (by rfl)

/-- What `bankDamage` can change. -/
theorem bankDamage_frame : ∀ x0 x1 x2 x3 x4, Frame [.glb, .link, .rings, .cnt, .execs, .parked, .quires, .ports, .sp, .spr, .mgt, .bg, .out] x0 (bankDamage x0 x1 x2 x3 x4) := by
  intro x0 x1 x2 x3 x4
  unfold bankDamage
  split
  · exact Frame.refl _ _
  · refine Frame.ite ?_ ?_
    · exact (shadowDamage_frame _ _ _ _ _ _ _).mono rfl
    · refine reportOnce_frame _ _ _ (by rfl) ?_
      intro t1
      exact Frame.step ((State.modBanks_frame _ _ _).mono rfl) (liveDamage_frame _ _ _ _ _) (by rfl)

/-- What `tileDamage` can change. -/
theorem tileDamage_frame : ∀ x0 x1 x2 x3, Frame [.glb, .link, .rings, .cnt, .execs, .parked, .quires, .ports, .tiles, .masks, .sp, .spr, .mgt, .bg, .out] x0 (tileDamage x0 x1 x2 x3) := by
  intro x0 x1 x2 x3
  unfold tileDamage
  split
  · exact Frame.refl _ _
  · refine Frame.ite ?_ ?_
    · exact Frame.refl _ _
    · extract_lets +onlyGivenNames -underBinder y1
      try clear_value y1
      extract_lets +onlyGivenNames -underBinder y2
      have hy2 : Frame [.glb, .link, .rings, .cnt, .execs, .parked, .quires, .ports, .tiles, .masks, .sp, .spr, .mgt, .bg, .out] x0 y2 := by
        refine Frame.ite ?_ ?_
        all_goals
          exact Frame.upd (Frame.refl _ _) rfl rfl
      try clear_value y2
      extract_lets +onlyGivenNames -underBinder y3
      try clear_value y3
      extract_lets +onlyGivenNames -underBinder y4
      try clear_value y4
      refine Frame.ite ?_ ?_
      · exact Frame.step (by assumption) (scrubEvent_frame _ _ _ _ _ _) (by rfl)
      · refine Frame.foldl (fun t5 _ => ?_) _ _ ?_
        · split
          · exact Frame.refl _ _
          · refine Frame.ite ?_ ?_
            · exact (liveDamage_frame _ _ _ _ _).mono rfl
            · exact (shadowDamage_frame _ _ _ _ _ _ _).mono rfl
        · assumption

/-- What `waveDamage` can change. -/
theorem waveDamage_frame : ∀ x0 x1 x2 x3 x4, Frame [.glb, .link, .rings, .cnt, .execs, .parked, .quires, .ports, .sp, .spr, .mgt, .bg, .out] x0 (waveDamage x0 x1 x2 x3 x4) := by
  intro x0 x1 x2 x3 x4
  unfold waveDamage
  extract_lets +onlyGivenNames -underBinder y1
  try clear_value y1
  extract_lets +onlyGivenNames -underBinder y2
  try clear_value y2
  extract_lets +onlyGivenNames -underBinder y3
  try clear_value y3
  extract_lets +onlyGivenNames -underBinder y4
  try clear_value y4
  extract_lets +onlyGivenNames -underBinder y5
  have hy5 : Frame [.glb, .link, .rings, .cnt, .execs, .parked, .quires, .ports, .sp, .spr, .mgt, .bg, .out] x0 y5 := (State.modPort_frame _ _ _).mono rfl
  try clear_value y5
  refine Frame.ite ?_ ?_
  · exact Frame.refl _ _
  · split
    · exact Frame.step ((State.modPort_frame _ _ _).mono rfl) (scrubEvent_frame _ _ _ _ _ _) (by rfl)
    · refine Frame.ite ?_ ?_
      · refine Frame.ite ?_ ?_
        · exact Frame.step (Frame.step (by assumption) (countUncorr_frame _) (by rfl)) (waveFault_frame _ _ _) (by rfl)
        · exact Frame.step (Frame.step (Frame.step (by assumption) (countUncorr_frame _) (by rfl)) (dropPlays_frame _ _) (by rfl)) (portFault_frame _ _ _) (by rfl)
      · exact Frame.step (Frame.step (by assumption) (State.modPort_frame _ _ _) (by rfl)) (scrubEvent_frame _ _ _ _ _ _) (by rfl)

/-- What `lineDamage` can change. -/
theorem lineDamage_frame : ∀ x0 x1 x2 x3 x4, Frame [.link, .rings, .cnt, .parked, .ports, .sp, .spr, .bg, .out] x0 (lineDamage x0 x1 x2 x3 x4) := by
  intro x0 x1 x2 x3 x4
  unfold lineDamage
  split
  · exact (scrubEvent_frame _ _ _ _ _ _).mono rfl
  · refine Frame.ite ?_ ?_
    · exact Frame.refl _ _
    · exact Frame.step ((State.modPort_frame _ _ _).mono rfl) (scrubEvent_frame _ _ _ _ _ _) (by rfl)

/-- What `pageDamage` can change. -/
theorem pageDamage_frame : ∀ x0 x1, Frame [.link, .rings, .cnt, .parked, .page, .sp, .spr, .bg, .out] x0 (pageDamage x0 x1) := by
  intro x0 x1
  unfold pageDamage
  refine Frame.step ?_ (scrubEvent_frame _ _ _ _ _ _) (by rfl)
  exact Frame.upd (Frame.refl _ _) rfl rfl

/-- What `regionDamage` can change. -/
theorem regionDamage_frame : ∀ s handle ofs addr, Frame [.link, .rings, .cnt, .parked, .page, .sp, .spr, .bg, .out] s (regionDamage s handle ofs addr) := by
  intro s handle ofs addr
  unfold regionDamage
  split
  · exact Frame.refl _ _
  · rename_i r h
    refine Frame.ite (Frame.refl _ _) (Frame.step ?_ (pageDamage_frame _ _) (by rfl))
    exact Frame.updMem (Frame.refl _ _) id
      (fun ha => regions_set (r := { r with bad := ofs :: r.bad }) (regions_get (r := r) ha h) ha) (.inl rfl) (.inr rfl)

/-- What `uncorrectable` can change. -/
theorem uncorrectable_frame : ∀ x0 x1, Frame [.glb, .link, .rings, .cnt, .execs, .parked, .quires, .ports, .tiles, .masks, .page, .sp, .spr, .mgt, .bg, .out] x1 (uncorrectable x0 x1) := by
  intro x0 x1
  unfold uncorrectable
  split
  · exact Frame.refl _ _
  · exact (lineDamage_frame _ _ _ _ _).mono rfl
  · exact (scrubEvent_frame _ _ _ _ _ _).mono rfl
  · exact (bankDamage_frame _ _ _ _ _).mono rfl
  · exact (tileDamage_frame _ _ _ _).mono rfl
  · exact (scrubEvent_frame _ _ _ _ _ _).mono rfl
  · exact (waveDamage_frame _ _ _ _ _).mono rfl
  · exact (regionDamage_frame _ _ _ _).mono rfl
  · refine reportOnce_frame _ _ _ (by rfl) ?_
    intro t1
    exact (pageDamage_frame _ _).mono rfl
  · exact (scrubEvent_frame _ _ _ _ _ _).mono rfl
  · refine Frame.ite ?_ ?_
    · refine reportOnce_frame _ _ _ (by rfl) ?_
      intro t2
      exact (scrubEvent_frame _ _ _ _ _ _).mono rfl
    · exact (scrubEvent_frame _ _ _ _ _ _).mono rfl

/-- What `scrubStep` can change. -/
theorem scrubStep_frame : ∀ x0 x1 x2, Frame [.glb, .link, .rings, .cnt, .execs, .parked, .quires, .ports, .tiles, .masks, .page, .sp, .spr, .mgt, .bg, .out] x2 (scrubStep x0 x1 x2) := by
  intro x0 x1 x2
  unfold scrubStep
  refine Frame.ite ?_ ?_
  · exact Frame.refl _ _
  · split
    · refine Frame.ite ?_ ?_
      · exact (activityDone_frame _ _).mono rfl
      · exact Frame.refl _ _
    · refine Frame.ite ?_ ?_
      · exact (uncorrectable_frame _ _).mono rfl
      · refine Frame.ite ?_ ?_
        · refine Frame.step ?_ (countCorrection_frame _) (by rfl)
          exact Frame.upd (Frame.refl _ _) rfl rfl
        · exact (countCorrection_frame _).mono rfl
    · refine Frame.ite ?_ ?_
      · exact (uncorrectable_frame _ _).mono rfl
      · refine Frame.ite ?_ ?_
        · refine Frame.step ?_ (countCorrection_frame _) (by rfl)
          exact Frame.upd (Frame.refl _ _) rfl rfl
        · exact (countCorrection_frame _).mono rfl
    · refine Frame.ite ?_ ?_
      · exact (uncorrectable_frame _ _).mono rfl
      · refine Frame.ite ?_ ?_
        · refine Frame.step ?_ (countCorrection_frame _) (by rfl)
          exact Frame.upd (Frame.refl _ _) rfl rfl
        · exact (countCorrection_frame _).mono rfl
    · refine Frame.ite ?_ ?_
      · exact (uncorrectable_frame _ _).mono rfl
      · refine Frame.ite ?_ ?_
        · refine Frame.step ?_ (countCorrection_frame _) (by rfl)
          exact Frame.upd (Frame.refl _ _) rfl rfl
        · exact (countCorrection_frame _).mono rfl
    · refine Frame.ite ?_ ?_
      · exact (uncorrectable_frame _ _).mono rfl
      · refine Frame.ite ?_ ?_
        · refine Frame.step ?_ (countCorrection_frame _) (by rfl)
          exact Frame.upd (Frame.refl _ _) rfl rfl
        · exact (countCorrection_frame _).mono rfl
    · refine Frame.ite ?_ ?_
      · exact (uncorrectable_frame _ _).mono rfl
      · refine Frame.ite ?_ ?_
        · refine Frame.step ?_ (countCorrection_frame _) (by rfl)
          exact Frame.upd (Frame.refl _ _) rfl rfl
        · exact (countCorrection_frame _).mono rfl
    · refine Frame.ite ?_ ?_
      · exact (uncorrectable_frame _ _).mono rfl
      · refine Frame.ite ?_ ?_
        · refine Frame.step ?_ (countCorrection_frame _) (by rfl)
          exact Frame.upd (Frame.refl _ _) rfl rfl
        · exact (countCorrection_frame _).mono rfl
    · refine Frame.ite ?_ ?_
      · exact (uncorrectable_frame _ _).mono rfl
      · refine Frame.ite ?_ ?_
        · refine Frame.step ?_ (countCorrection_frame _) (by rfl)
          exact Frame.upd (Frame.refl _ _) rfl rfl
        · exact (countCorrection_frame _).mono rfl
    · refine Frame.ite ?_ ?_
      · exact (uncorrectable_frame _ _).mono rfl
      · refine Frame.ite ?_ ?_
        · refine Frame.step ?_ (countCorrection_frame _) (by rfl)
          exact Frame.upd (Frame.refl _ _) rfl rfl
        · exact (countCorrection_frame _).mono rfl
    · refine Frame.ite ?_ ?_
      · exact (uncorrectable_frame _ _).mono rfl
      · refine Frame.ite ?_ ?_
        · refine Frame.step ?_ (countCorrection_frame _) (by rfl)
          exact Frame.upd (Frame.refl _ _) rfl rfl
        · exact (countCorrection_frame _).mono rfl

/-- What `dacCalibration` can change. -/
theorem dacCalibration_frame : ∀ x0 x1 x2, Frame [.ports, .bg] x2 (dacCalibration x0 x1 x2) := by
  intro x0 x1 x2
  unfold dacCalibration
  extract_lets +onlyGivenNames -underBinder y1
  try clear_value y1
  refine Frame.ite ?_ ?_
  · exact Frame.refl _ _
  · extract_lets +onlyGivenNames -underBinder y2
    have hy2 : Frame [.ports, .bg] x2 y2 := (State.modPort_frame _ _ _).mono rfl
    try clear_value y2
    refine Frame.ite ?_ ?_
    · exact Frame.step (by assumption) (activityDone_frame _ _) (by rfl)
    · assumption

/-- What `senseAdcCalibration` can change. -/
theorem senseAdcCalibration_frame : ∀ x0 x1, Frame [.ports, .bg] x1 (senseAdcCalibration x0 x1) := by
  intro x0 x1
  unfold senseAdcCalibration
  extract_lets +onlyGivenNames -underBinder y1
  try clear_value y1
  refine Frame.ite ?_ ?_
  · exact Frame.refl _ _
  · extract_lets +onlyGivenNames -underBinder y2
    have hy2 : Frame [.ports, .bg] x1 y2 := (State.modPort_frame _ _ _).mono rfl
    try clear_value y2
    refine Frame.ite ?_ ?_
    · exact Frame.step (by assumption) (activityDone_frame _ _) (by rfl)
    · assumption

/-- What `setBackground` can change. -/
theorem setBackground_frame : ∀ x0 x1, Frame [.glb, .bg] x0 (setBackground x0 x1) := by
  intro x0 x1
  unfold setBackground
  extract_lets +onlyGivenNames -underBinder y1
  try clear_value y1
  extract_lets +onlyGivenNames -underBinder y2
  try clear_value y2
  exact Frame.upd (Frame.refl _ _) rfl rfl

/-- What `backgroundConfig` can change. -/
theorem backgroundConfig_frame : ∀ x0 x1 x2, Frame [.glb, .link, .rings, .cnt, .waiting, .parked, .sp, .spr, .mgt, .bg, .out] x2 (backgroundConfig x0 x1 x2) := by
  intro x0 x1 x2
  unfold backgroundConfig
  extract_lets +onlyGivenNames -underBinder y1
  try clear_value y1
  extract_lets +onlyGivenNames -underBinder y2
  try clear_value y2
  extract_lets +onlyGivenNames -underBinder y3
  try clear_value y3
  refine command_frame _ _ _ _ _ _ _ _ (by rfl) ?_ ?_
  · exact (complete_frame _ _ _ _).mono rfl
  · extract_lets +onlyGivenNames -underBinder y4
    have hy4 : Frame [.glb, .link, .rings, .cnt, .waiting, .parked, .sp, .spr, .mgt, .bg, .out] x2 y4 := (setBackground_frame _ _).mono rfl
    try clear_value y4
    refine Frame.step ?_ (complete_frame _ _ _ _) (by rfl)
    refine Frame.ite ?_ ?_
    · assumption
    · exact Frame.step (by assumption) (writeOut_frame _ _ _ _) (by rfl)

/-- What `telWrite` can change. -/
theorem telWrite_frame : ∀ x0 x1 x2 x3, Frame [.link, .rings, .cnt, .parked, .out] x0 (telWrite x0 x1 x2 x3) := by
  intro x0 x1 x2 x3
  unfold telWrite
  refine Frame.ite ?_ ?_
  · refine Frame.step ?_ (State.modRing_frame _ _ _) (by rfl)
    exact Frame.upd (Frame.refl _ _) rfl rfl
  · refine Frame.foldl (fun t1 _ => ?_) _ _ ?_
    · exact (pushEntry_frame _ _ _ _).mono rfl
    · exact Frame.upd (Frame.refl _ _) rfl rfl

/-- What `telemetrySnapshot` can change. -/
theorem telemetrySnapshot_frame : ∀ x0, Frame [.clk, .tb, .link, .rings, .cnt, .parked, .ports, .bg, .out] x0 (telemetrySnapshot x0) := by
  intro x0
  unfold telemetrySnapshot
  refine Frame.ite ?_ ?_
  · exact Frame.refl _ _
  · extract_lets +onlyGivenNames -underBinder y1
    have hy1 : Frame [.clk, .tb, .link, .rings, .cnt, .parked, .ports, .bg, .out] x0 y1 := (State.advanceTo_frame _ _).mono rfl
    try clear_value y1
    extract_lets +onlyGivenNames -underBinder y2
    try clear_value y2
    extract_lets +onlyGivenNames -underBinder y3
    try clear_value y3
    extract_lets +onlyGivenNames -underBinder y4
    have hy4 : Frame [.clk, .tb, .link, .rings, .cnt, .parked, .ports, .bg, .out] x0 y4 := by
      refine Frame.ite ?_ ?_
      · assumption
      · split
        · exact Frame.step (by assumption) (telWrite_frame _ _ _ _) (by rfl)
        · assumption
    try clear_value y4
    exact Frame.upd (by assumption) rfl rfl

/-! ### Otp -/

/-- What `otpEnd` can change. -/
theorem otpEnd_frame : ∀ x0 x1 x2 x3, Frame [.link, .rings, .cnt, .execs, .parked, .sp, .spr, .otp, .out] x0 (otpEnd x0 x1 x2 x3) := by
  intro x0 x1 x2 x3
  unfold otpEnd
  extract_lets +onlyGivenNames -underBinder y1
  try clear_value y1
  extract_lets +onlyGivenNames -underBinder y2
  try clear_value y2
  extract_lets +onlyGivenNames -underBinder y3
  have hy3 : Frame [.link, .rings, .cnt, .execs, .parked, .sp, .spr, .otp, .out] x0 y3 := Frame.upd (Frame.refl _ _) rfl rfl
  try clear_value y3
  split
  · exact Frame.step (by assumption) (endExec_frame _ _ _ _) (by rfl)
  · assumption

/-- What `otpPulse` can change. -/
theorem otpPulse_frame : ∀ x0 x1 x2 x3, Frame [.otp, .out] x0 (otpPulse x0 x1 x2 x3) := by
  intro x0 x1 x2 x3
  unfold otpPulse
  extract_lets +onlyGivenNames -underBinder y1
  try clear_value y1
  refine Frame.step ?_ (State.emit_frame _ _) (by rfl)
  exact Frame.upd (Frame.refl _ _) rfl rfl

/-- What `otpNext` can change. -/
theorem otpNext_frame : ∀ n s, Frame [.link, .rings, .cnt, .execs, .parked, .sp, .spr, .otp, .out] s (otpNext n s) := by
  intro n
  induction n with
  | zero => exact fun s => Frame.refl _ _
  | succ n ih =>
    intro s
    have w : ∀ (t : State) (x : Otp), Frame [.link, .rings, .cnt, .execs, .parked, .sp, .spr, .otp, .out] t { t with otp := x } := fun _ _ => Frame.upd (Frame.refl _ _) rfl rfl
    unfold otpNext
    split
    · exact Frame.refl _ _
    · split
      · refine Frame.ite ?_ ?_
        · refine Frame.trans ?_ ((otpEnd_frame _ _ _ _).mono rfl)
          split
          · exact Frame.refl _ _
          · exact w _ _
        · split
          · exact (otpEnd_frame _ _ _ _).mono rfl
          · exact Frame.ite ((otpEnd_frame _ _ _ _).mono rfl) (Frame.trans (w _ _) (ih _))
      · refine Frame.ite ((otpEnd_frame _ _ _ _).mono rfl) ?_
        split
        · exact Frame.trans (w _ _) (ih _)
        · exact Frame.ite ((otpEnd_frame _ _ _ _).mono rfl) ((otpPulse_frame _ _ _ _).mono rfl)

/-- What `otpStart` can change. -/
theorem otpStart_frame : ∀ x0 x1, Frame [.link, .rings, .cnt, .execs, .parked, .sp, .spr, .otp, .out] x0 (otpStart x0 x1) := by
  intro x0 x1
  unfold otpStart
  refine Frame.step ?_ (otpNext_frame _ _) (by rfl)
  exact Frame.upd (Frame.refl _ _) rfl rfl

/-- What `otpSense` can change. -/
theorem otpSense_frame : ∀ x0 x1 x2 x3, Frame [.otp] x0 (otpSense x0 x1 x2 x3) := by
  intro x0 x1 x2 x3
  unfold otpSense
  split
  · exact Frame.refl _ _
  · extract_lets +onlyGivenNames -underBinder y1
    try clear_value y1
    extract_lets +onlyGivenNames -underBinder y2
    try clear_value y2
    exact Frame.upd (Frame.refl _ _) rfl rfl

/-- What `otpPulseEnd` can change. -/
theorem otpPulseEnd_frame : ∀ x0 x1 x2, Frame [.clk, .tb, .link, .rings, .cnt, .execs, .parked, .sp, .spr, .otp, .out] x2 (otpPulseEnd x0 x1 x2) := by
  intro x0 x1 x2
  unfold otpPulseEnd
  split
  · exact Frame.refl _ _
  · extract_lets +onlyGivenNames -underBinder y1
    have hy1 : Frame [.clk, .tb, .link, .rings, .cnt, .execs, .parked, .sp, .spr, .otp, .out] x2 y1 := Frame.step ((State.advanceTo_frame _ _).mono rfl) (otpSense_frame _ _ _ _) (by rfl)
    try clear_value y1
    refine Frame.ite ?_ ?_
    · refine Frame.step ?_ (otpNext_frame _ _) (by rfl)
      exact Frame.upd (by assumption) rfl rfl
    · refine Frame.ite ?_ ?_
      · exact Frame.step (by assumption) (otpEnd_frame _ _ _ _) (by rfl)
      · exact Frame.step (by assumption) (otpPulse_frame _ _ _ _) (by rfl)

/-- What `otpCut` can change. -/
theorem otpCut_frame : ∀ x0, Frame [.otp, .draws] x0 (otpCut x0) := by
  intro x0
  unfold otpCut
  split
  · exact Frame.refl _ _
  · extract_lets +onlyGivenNames -underBinder y1
    try clear_value y1
    exact Frame.step ((State.draw_frame _).mono rfl) (otpSense_frame _ _ _ _) (by rfl)

/-- What `otpSupplyLow` can change. -/
theorem otpSupplyLow_frame : ∀ x0, Frame [.link, .rings, .cnt, .execs, .parked, .sp, .spr, .otp, .out, .draws] x0 (otpSupplyLow x0) := by
  intro x0
  unfold otpSupplyLow
  split
  · exact Frame.refl _ _
  · extract_lets +onlyGivenNames -underBinder y1
    have hy1 : Frame [.link, .rings, .cnt, .execs, .parked, .sp, .spr, .otp, .out, .draws] x0 y1 := (otpCut_frame _).mono rfl
    try clear_value y1
    exact Frame.step (by assumption) (otpEnd_frame _ _ _ _) (by rfl)

/-- What `otpRead` can change. -/
theorem otpRead_frame : ∀ x0 x1 x2, Frame [.link, .rings, .cnt, .waiting, .parked, .sp, .spr, .mgt, .out] x2 (otpRead x0 x1 x2) := by
  intro x0 x1 x2
  unfold otpRead
  extract_lets +onlyGivenNames -underBinder y1
  try clear_value y1
  extract_lets +onlyGivenNames -underBinder y2
  try clear_value y2
  extract_lets +onlyGivenNames -underBinder y3
  try clear_value y3
  exact reportCmd_frame _ _ _ _ _ _ _ _ _ (by rfl)

/-- What `otpProgram` can change. -/
theorem otpProgram_frame : ∀ x0 x1 x2, Frame [.link, .rings, .cnt, .execs, .waiting, .parked, .sp, .spr, .otp, .out, .nextId] x2 (otpProgram x0 x1 x2) := by
  intro x0 x1 x2
  unfold otpProgram
  extract_lets +onlyGivenNames -underBinder y1
  try clear_value y1
  extract_lets +onlyGivenNames -underBinder y2
  try clear_value y2
  extract_lets +onlyGivenNames -underBinder y3
  try clear_value y3
  extract_lets +onlyGivenNames -underBinder y4
  try clear_value y4
  extract_lets +onlyGivenNames -underBinder y5
  try clear_value y5
  extract_lets +onlyGivenNames -underBinder y6
  try clear_value y6
  extract_lets +onlyGivenNames -underBinder y7
  try clear_value y7
  refine command_frame _ _ _ _ _ _ _ _ (by rfl) ?_ ?_
  · exact (complete_frame _ _ _ _).mono rfl
  · refine Frame.ite ?_ ?_
    · exact (complete_frame _ _ _ _).mono rfl
    · extract_lets +onlyGivenNames -underBinder y8
      have hy8 : Frame [.link, .rings, .cnt, .execs, .waiting, .parked, .sp, .spr, .otp, .out, .nextId] x2 y8 := (beginExec_frame _ _ _ _ _ _).mono rfl
      try clear_value y8
      exact Frame.step (by assumption) (otpStart_frame _ _) (by rfl)

/-- What `otpSeal` can change. -/
theorem otpSeal_frame : ∀ x0 x1 x2, Frame [.link, .rings, .cnt, .execs, .waiting, .parked, .sp, .spr, .otp, .out, .nextId] x2 (otpSeal x0 x1 x2) := by
  intro x0 x1 x2
  unfold otpSeal
  extract_lets +onlyGivenNames -underBinder y1
  try clear_value y1
  extract_lets +onlyGivenNames -underBinder y2
  try clear_value y2
  extract_lets +onlyGivenNames -underBinder y3
  try clear_value y3
  extract_lets +onlyGivenNames -underBinder y4
  try clear_value y4
  extract_lets +onlyGivenNames -underBinder y5
  try clear_value y5
  extract_lets +onlyGivenNames -underBinder y6
  try clear_value y6
  extract_lets +onlyGivenNames -underBinder y7
  try clear_value y7
  extract_lets +onlyGivenNames -underBinder y8
  try clear_value y8
  extract_lets +onlyGivenNames -underBinder y9
  try clear_value y9
  extract_lets +onlyGivenNames -underBinder y10
  try clear_value y10
  extract_lets +onlyGivenNames -underBinder y11
  try clear_value y11
  extract_lets +onlyGivenNames -underBinder y12
  try clear_value y12
  refine command_frame _ _ _ _ _ _ _ _ (by rfl) ?_ ?_
  · exact (complete_frame _ _ _ _).mono rfl
  · refine Frame.ite ?_ ?_
    · exact (complete_frame _ _ _ _).mono rfl
    · extract_lets +onlyGivenNames -underBinder y13
      have hy13 : Frame [.link, .rings, .cnt, .execs, .waiting, .parked, .sp, .spr, .otp, .out, .nextId] x2 y13 := (beginExec_frame _ _ _ _ _ _).mono rfl
      try clear_value y13
      exact Frame.step (by assumption) (otpStart_frame _ _) (by rfl)

/-- What `otpMarginCheck` can change. -/
theorem otpMarginCheck_frame : ∀ x0 x1 x2, Frame [.link, .rings, .cnt, .waiting, .parked, .sp, .spr, .otp, .out] x2 (otpMarginCheck x0 x1 x2) := by
  intro x0 x1 x2
  unfold otpMarginCheck
  extract_lets +onlyGivenNames -underBinder y1
  try clear_value y1
  extract_lets +onlyGivenNames -underBinder y2
  try clear_value y2
  extract_lets +onlyGivenNames -underBinder y3
  try clear_value y3
  extract_lets +onlyGivenNames -underBinder y4
  try clear_value y4
  extract_lets +onlyGivenNames -underBinder y5
  try clear_value y5
  extract_lets +onlyGivenNames -underBinder y6
  try clear_value y6
  refine command_frame _ _ _ _ _ _ _ _ (by rfl) ?_ ?_
  · exact (complete_frame _ _ _ _).mono rfl
  · exact Frame.step ((marginCheck_frame _ _ _).mono rfl) (complete_frame _ _ _ _) (by rfl)

/-- What `lockSet` can change. -/
theorem lockSet_frame : ∀ x0 x1 x2, Frame [.otp] x0 (lockSet x0 x1 x2) := by
  intro x0 x1 x2
  unfold lockSet
  exact Frame.upd (Frame.refl _ _) rfl rfl

/-- What `otpLock` can change. -/
theorem otpLock_frame : ∀ x0 x1 x2, Frame [.link, .rings, .cnt, .waiting, .parked, .sp, .spr, .otp, .out] x2 (otpLock x0 x1 x2) := by
  intro x0 x1 x2
  unfold otpLock
  extract_lets +onlyGivenNames -underBinder y1
  try clear_value y1
  extract_lets +onlyGivenNames -underBinder y2
  try clear_value y2
  extract_lets +onlyGivenNames -underBinder y3
  try clear_value y3
  refine command_frame _ _ _ _ _ _ _ _ (by rfl) ?_ ?_
  · exact (complete_frame _ _ _ _).mono rfl
  · exact Frame.step ((lockSet_frame _ _ _).mono rfl) (complete_frame _ _ _ _) (by rfl)

/-- What `otpMarginRecheck` can change. -/
theorem otpMarginRecheck_frame : ∀ x0 x1, Frame [.clk, .tb, .link, .rings, .cnt, .parked, .sp, .spr, .otp, .out] x1 (otpMarginRecheck x0 x1) := by
  intro x0 x1
  unfold otpMarginRecheck
  refine Frame.ite ?_ ?_
  · exact Frame.refl _ _
  · extract_lets +onlyGivenNames -underBinder y1
    have hy1 : Frame [.clk, .tb, .link, .rings, .cnt, .parked, .sp, .spr, .otp, .out] x1 y1 := by
      refine Frame.ite ?_ ?_
      · exact Frame.refl _ _
      · exact (State.advanceTo_frame _ _).mono rfl
    try clear_value y1
    extract_lets +onlyGivenNames -underBinder y2
    have hy2 : Frame [.clk, .tb, .link, .rings, .cnt, .parked, .sp, .spr, .otp, .out] x1 y2 := Frame.upd (by assumption) rfl rfl
    try clear_value y2
    exact Frame.step (by assumption) (marginCheck_frame _ _ _) (by rfl)

end Sys2Proof.Machine
end

