-- ==== Sys2Proof/Laws/FrameData.lean ====
section
/-! SUPPORT. One frame lemma for each operation that answers a state, of entry reads, descriptors and the page store.
A lemma `x_frame` names the parts of the state that `x` may change; everything else it leaves as it was (`Frame`). -/

set_option Elab.async false

namespace Sys2Proof.Machine

/-! ### Fetch -/

/-- What `staleHalt` can change. -/
theorem staleHalt_frame : ∀ x0 x1 x2, Frame [.link, .rings, .cnt, .parked, .sp, .spr, .out] x0 (staleHalt x0 x1 x2) := by
  intro x0 x1 x2
  unfold staleHalt
  extract_lets +onlyGivenNames -underBinder y1
  try clear_value y1
  extract_lets +onlyGivenNames -underBinder y2
  try clear_value y2
  extract_lets +onlyGivenNames -underBinder y3
  have hy3 : Frame [.link, .rings, .cnt, .parked, .sp, .spr, .out] x0 y3 := (raise_frame _ _ _ _ _ _).mono rfl
  try clear_value y3
  exact Frame.step (Frame.step (by assumption) (haltRing_frame _ _ _) (by rfl)) (State.modRing_frame _ _ _) (by rfl)

/-- What `readEntry` can change. -/
theorem readEntry_got_frame {s t : State} {r : Fin 64} {cw : Nat} (h : readEntry s r cw = .got t) : Frame [.rings, .out] s t := by
  simp only [readEntry] at h
  split at h
  · cases h
    exact Frame.step ((State.emit_frame _ _).mono rfl) (State.modRing_frame _ _ _) (by rfl)
  · split at h <;> cases h

theorem readEntry_wait_frame {s t : State} {r : Fin 64} {cw : Nat} (h : readEntry s r cw = .wait t) :
    Frame [.link, .rings, .cnt, .parked, .sp, .spr, .out] s t := by
  simp only [readEntry] at h
  split at h
  · cases h
  · split at h
    · cases h
      exact Frame.step ((State.emit_frame _ _).mono rfl) (staleHalt_frame _ _ _) (by rfl)
    · cases h
      exact Frame.step ((State.emit_frame _ _).mono rfl) (State.modRing_frame _ _ _) (by rfl)

/-- What `rereadNow` can change. -/
theorem rereadNow_frame : ∀ x0 x1, Frame [.clk, .tb, .cnt] x0 (rereadNow x0 x1) := by
  intro x0 x1
  unfold rereadNow
  extract_lets +onlyGivenNames -underBinder y1
  have hy1 : Frame [.clk, .tb, .cnt] x0 y1 := (State.advanceTo_frame _ _).mono rfl
  try clear_value y1
  exact Frame.upd (by assumption) rfl rfl

/-! ### Data -/

/-- What `descFails` can change. -/
theorem descFails_frame : ∀ x0 x1 x2 x3, Frame [.link, .rings, .cnt, .parked, .ports, .out] x0 (descFails x0 x1 x2 x3) := by
  intro x0 x1 x2 x3
  unfold descFails
  extract_lets +onlyGivenNames -underBinder y1
  try clear_value y1
  extract_lets +onlyGivenNames -underBinder y2
  try clear_value y2
  extract_lets +onlyGivenNames -underBinder y3
  have hy3 : Frame [.link, .rings, .cnt, .parked, .ports, .out] x0 y3 := (writeCpl_frame _ _ _ _ _ _ _).mono rfl
  try clear_value y3
  extract_lets +onlyGivenNames -underBinder y4
  have hy4 : Frame [.link, .rings, .cnt, .parked, .ports, .out] x0 y4 := Frame.step (by assumption) (haltRing_frame _ _ _) (by rfl)
  try clear_value y4
  exact Frame.step (Frame.step (by assumption) (State.modPort_frame _ _ _) (by rfl)) (retireReady_frame _ _) (by rfl)

/-- What `markKnown` can change. -/
theorem markKnown_frame : ∀ x0 x1, Frame [.glb, .link, .rings, .cnt, .execs, .parked, .quires, .ports, .sp, .spr, .mgt, .bg, .out] x0 (markKnown x0 x1) := by
  intro x0 x1
  unfold markKnown
  split
  · exact Frame.refl _ _
  · extract_lets +onlyGivenNames -underBinder y1
    try clear_value y1
    extract_lets +onlyGivenNames -underBinder y2
    try clear_value y2
    refine Frame.ite ?_ ?_
    · exact Frame.refl _ _
    · extract_lets +onlyGivenNames -underBinder y3
      try clear_value y3
      extract_lets +onlyGivenNames -underBinder y4
      have hy4 : Frame [.glb, .link, .rings, .cnt, .execs, .parked, .quires, .ports, .sp, .spr, .mgt, .bg, .out] x0 y4 := (consumeMark_frame _ _ _ _).mono rfl
      try clear_value y4
      extract_lets +onlyGivenNames -underBinder y5
      try clear_value y5
      refine Frame.ite ?_ ?_
      · exact Frame.step (by assumption) (stopQuire_frame _ _ _) (by rfl)
      · assumption

/-- What `descTaken` can change. -/
theorem descTaken_frame : ∀ x0 x1 x2, Frame [.glb, .link, .rings, .cnt, .execs, .parked, .quires, .ports, .sp, .spr, .mgt, .bg, .out] x0 (descTaken x0 x1 x2) := by
  intro x0 x1 x2
  unfold descTaken
  extract_lets +onlyGivenNames -underBinder y1
  try clear_value y1
  extract_lets +onlyGivenNames -underBinder y2
  try clear_value y2
  extract_lets +onlyGivenNames -underBinder y3
  try clear_value y3
  extract_lets +onlyGivenNames -underBinder y4
  have hy4 : Frame [.glb, .link, .rings, .cnt, .execs, .parked, .quires, .ports, .sp, .spr, .mgt, .bg, .out] x0 y4 := (State.modPort_frame _ _ _).mono rfl
  try clear_value y4
  refine Frame.step ?_ (retireReady_frame _ _) (by rfl)
  refine Frame.ite ?_ ?_
  · exact Frame.step (by assumption) (markKnown_frame _ _) (by rfl)
  · assumption

/-- What `descPurged` can change. -/
theorem descPurged_frame : ∀ x0 x1 x2, Frame [.link, .rings, .cnt, .parked, .ports, .out] x0 (descPurged x0 x1 x2) := by
  intro x0 x1 x2
  unfold descPurged
  extract_lets +onlyGivenNames -underBinder y1
  try clear_value y1
  exact Frame.step ((State.modPort_frame _ _ _).mono rfl) (retireOne_frame _ _ _ _ _) (by rfl)

/-- What `descGot` can change. -/
theorem descGot_frame : ∀ x0 x1 x2, Frame [.glb, .link, .rings, .cnt, .execs, .parked, .quires, .ports, .sp, .spr, .mgt, .bg, .out] x0 (descGot x0 x1 x2) := by
  intro x0 x1 x2
  unfold descGot
  refine Frame.ite ?_ ?_
  · exact (descPurged_frame _ _ _).mono rfl
  · extract_lets +onlyGivenNames -underBinder y1
    try clear_value y1
    refine Frame.ite ?_ ?_
    · exact (descFails_frame _ _ _ _).mono rfl
    · exact (descTaken_frame _ _ _).mono rfl

/-- What `descRead` can change. -/
theorem descRead_frame : ∀ s p e, Frame [.glb, .link, .rings, .cnt, .execs, .parked, .quires, .ports, .sp, .spr, .mgt, .bg, .out] s (descRead s p e) := by
  intro s p e
  unfold descRead
  refine Frame.ite ?_ (Frame.refl _ _)
  split
  · rename_i h
    exact (readEntry_wait_frame h).mono rfl
  · rename_i h
    exact Frame.step ((readEntry_got_frame h).mono rfl) (descGot_frame _ _ _) (by rfl)

/-- What `imageDescFetch` can change. -/
theorem imageDescFetch_frame : ∀ x0 x1 x2, Frame [.glb, .link, .rings, .cnt, .execs, .parked, .quires, .ports, .sp, .spr, .mgt, .bg, .out] x2 (imageDescFetch x0 x1 x2) := by
  intro x0 x1 x2
  unfold imageDescFetch
  refine Frame.ite ?_ ?_
  · exact (descRead_frame _ _ _).mono rfl
  · exact Frame.refl _ _

/-- What `State.bandRead` can change. -/
theorem State.bandRead_frame : ∀ x0 x1 x2 x3 x4, Frame [.parked, .out] x0 (State.bandRead x0 x1 x2 x3 x4) := by
  intro x0 x1 x2 x3 x4
  unfold State.bandRead
  exact (State.request_frame _ _).mono rfl

/-- What `bandStaged` can change. -/
theorem bandStaged_frame : ∀ x0 x1 x2, Frame [.link, .rings, .cnt, .parked, .ports, .bg, .out] x2 (bandStaged x0 x1 x2) := by
  intro x0 x1 x2
  unfold bandStaged
  extract_lets +onlyGivenNames -underBinder y1
  try clear_value y1
  split
  · exact Frame.refl _ _
  · extract_lets +onlyGivenNames -underBinder y2
    try clear_value y2
    extract_lets +onlyGivenNames -underBinder y3
    try clear_value y3
    refine Frame.ite ?_ ?_
    · extract_lets +onlyGivenNames -underBinder y4
      try clear_value y4
      extract_lets +onlyGivenNames -underBinder y5
      try clear_value y5
      extract_lets +onlyGivenNames -underBinder y6
      try clear_value y6
      exact Frame.step (Frame.step (Frame.step ((forgetDamage_frame _ _).mono rfl) (State.bandRead_frame _ _ _ _ _) (by rfl)) (State.modPort_frame _ _ _) (by rfl)) (retireReady_frame _ _) (by rfl)
    · exact Frame.refl _ _

/-- What `queueLine` can change. -/
theorem queueLine_frame : ∀ x0 x1 x2 x3 x4, Frame [.ports] x0 (queueLine x0 x1 x2 x3 x4) := by
  intro x0 x1 x2 x3 x4
  unfold queueLine
  extract_lets +onlyGivenNames -underBinder y1
  try clear_value y1
  exact (State.modPort_frame _ _ _).mono rfl

/-- What `lineOut` can change. -/
theorem lineOut_frame : ∀ x0 x1 x2 x3, Frame [.link, .rings, .cnt, .parked, .ports, .out] x0 (lineOut x0 x1 x2 x3) := by
  intro x0 x1 x2 x3
  unfold lineOut
  extract_lets +onlyGivenNames -underBinder y1
  have hy1 : Frame [.link, .rings, .cnt, .parked, .ports, .out] x0 y1 := Frame.step ((State.modPort_frame _ _ _).mono rfl) (queueLine_frame _ _ _ _ _) (by rfl)
  try clear_value y1
  refine Frame.ite ?_ ?_
  · exact Frame.step (by assumption) (retireReady_frame _ _) (by rfl)
  · assumption

/-- What `decodeError` can change. -/
theorem decodeError_frame : ∀ x0 x1 x2 x3, Frame [.glb, .link, .rings, .cnt, .parked, .ports, .sp, .spr, .out] x0 (decodeError x0 x1 x2 x3) := by
  intro x0 x1 x2 x3
  unfold decodeError
  extract_lets +onlyGivenNames -underBinder y1
  try clear_value y1
  extract_lets +onlyGivenNames -underBinder y2
  try clear_value y2
  extract_lets +onlyGivenNames -underBinder y3
  try clear_value y3
  extract_lets +onlyGivenNames -underBinder y4
  have hy4 : Frame [.glb, .link, .rings, .cnt, .parked, .ports, .sp, .spr, .out] x0 y4 := Frame.step ((setPwEvent_frame _ _ _).mono rfl) (raise_frame _ _ _ _ _ _) (by rfl)
  try clear_value y4
  exact Frame.step (by assumption) (lineOut_frame _ _ _ _) (by rfl)

/-- What `pageRead` can change. -/
theorem pageRead_frame : ∀ x0 x1 x2 x3, Frame [.link, .rings, .cnt, .parked, .page, .sp, .spr, .bg, .out] x0 (pageRead x0 x1 x2 x3) := by
  intro x0 x1 x2 x3
  unfold pageRead
  refine Frame.ite ?_ ?_
  · exact Frame.refl _ _
  · split
    · exact Frame.refl _ _
    · exact Frame.upd (Frame.refl _ _) rfl rfl
    · refine Frame.ite ?_ ?_
      · exact (regionDamage_frame _ _ _ _).mono rfl
      · refine reportOnce_frame _ _ _ (by rfl) ?_
        intro t1
        exact (pageDamage_frame _ _).mono rfl

/-- What `decodeDesc` can change. -/
theorem decodeDesc_frame : ∀ x0 x1 x2 x3 x4, Frame [.glb, .link, .rings, .cnt, .parked, .ports, .page, .sp, .spr, .bg, .out] x0 (decodeDesc x0 x1 x2 x3 x4) := by
  intro x0 x1 x2 x3 x4
  unfold decodeDesc
  extract_lets +onlyGivenNames -underBinder y1
  have hy1 : Frame [.glb, .link, .rings, .cnt, .parked, .ports, .page, .sp, .spr, .bg, .out] x0 y1 := by
    refine Frame.ite ?_ ?_
    · exact Frame.refl _ _
    · exact (pageRead_frame _ _ _ _).mono rfl
  try clear_value y1
  extract_lets +onlyGivenNames -underBinder y2
  try clear_value y2
  extract_lets +onlyGivenNames -underBinder y3
  try clear_value y3
  refine Frame.ite ?_ ?_
  · exact Frame.step (by assumption) (lineOut_frame _ _ _ _) (by rfl)
  · refine Frame.ite ?_ ?_
    · exact Frame.step (by assumption) (lineOut_frame _ _ _ _) (by rfl)
    · split
      · exact Frame.refl _ _
      · exact Frame.step (by assumption) (decodeError_frame _ _ _ _) (by rfl)
      · refine Frame.ite ?_ ?_
        · exact Frame.step (by assumption) (decodeError_frame _ _ _ _) (by rfl)
        · refine Frame.step ?_ (lineOut_frame _ _ _ _) (by rfl)
          refine Frame.ite ?_ ?_
          · exact Frame.step (by assumption) (State.bandRead_frame _ _ _ _ _) (by rfl)
          · assumption

/-- What `lineDecode` can change. -/
theorem lineDecode_frame : ∀ x0 x1 x2 x3, Frame [.glb, .link, .rings, .cnt, .parked, .ports, .page, .sp, .spr, .bg, .out] x3 (lineDecode x0 x1 x2 x3) := by
  intro x0 x1 x2 x3
  unfold lineDecode
  extract_lets +onlyGivenNames -underBinder y1
  try clear_value y1
  refine Frame.ite ?_ ?_
  · exact Frame.refl _ _
  · refine Frame.ite ?_ ?_
    · split
      · exact Frame.refl _ _
      · refine Frame.ite ?_ ?_
        · exact (queueLine_frame _ _ _ _ _).mono rfl
        · exact Frame.refl _ _
    · split
      · exact Frame.refl _ _
      · refine Frame.ite ?_ ?_
        · exact Frame.refl _ _
        · exact (decodeDesc_frame _ _ _ _ _).mono rfl

/-! ### Page -/

/-- What `fillRegion` can change. -/
theorem fillRegion_frame : ∀ s handle ofs data, Frame [.page] s (fillRegion s handle ofs data) := by
  intro s handle ofs data
  unfold fillRegion
  split
  · exact Frame.refl _ _
  · rename_i r h
    exact Frame.updMem (Frame.refl _ _) id (fun ha => regions_set (Mem.write_wf data ofs (regions_get ha h)) ha) (.inl rfl) (.inr rfl)

/-- What `pageAlloc` can change. -/
theorem pageAlloc_frame : ∀ x0 x1 x2, Frame [.link, .rings, .cnt, .waiting, .parked, .page, .sp, .spr, .out, .draws] x2 (pageAlloc x0 x1 x2) := by
  intro x0 x1 x2
  unfold pageAlloc
  extract_lets +onlyGivenNames -underBinder y1
  try clear_value y1
  extract_lets +onlyGivenNames -underBinder y2
  try clear_value y2
  refine command_frame _ _ _ _ _ _ _ _ (by rfl) ?_ ?_
  · exact (complete_frame _ _ _ _).mono rfl
  · refine Frame.step ?_ (complete_frame _ _ _ _) (by rfl)
    refine Frame.step ?_ (State.draw_frame _) (by rfl)
    refine Frame.updMem ?_ id (regions_set rfl) (.inl rfl) (.inr rfl)
    exact Frame.refl _ _

/-- What `pageFree` can change. -/
theorem pageFree_frame : ∀ x0 x1 x2, Frame [.link, .rings, .cnt, .waiting, .parked, .page, .sp, .spr, .out] x2 (pageFree x0 x1 x2) := by
  intro x0 x1 x2
  unfold pageFree
  extract_lets +onlyGivenNames -underBinder y1
  try clear_value y1
  refine command_frame _ _ _ _ _ _ _ _ (by rfl) ?_ ?_
  · exact (complete_frame _ _ _ _).mono rfl
  · refine Frame.step ?_ (complete_frame _ _ _ _) (by rfl)
    refine Frame.updMem ?_ id regions_del (.inl rfl) (.inr rfl)
    exact Frame.refl _ _

/-- What `pageFill` can change. -/
theorem pageFill_frame : ∀ x0 x1 x2, Frame [.link, .rings, .cnt, .execs, .waiting, .parked, .sp, .spr, .out, .nextId] x2 (pageFill x0 x1 x2) := by
  intro x0 x1 x2
  unfold pageFill
  extract_lets +onlyGivenNames -underBinder y1
  try clear_value y1
  extract_lets +onlyGivenNames -underBinder y2
  try clear_value y2
  extract_lets +onlyGivenNames -underBinder y3
  try clear_value y3
  exact (readCmd_frame _ _ _ _ _ _ _ _ _).mono rfl

/-- What `pageFillDone` can change. -/
theorem pageFillDone_frame : ∀ x0 x1 x2, Frame [.link, .rings, .cnt, .execs, .parked, .page, .sp, .spr, .out] x0 (pageFillDone x0 x1 x2) := by
  intro x0 x1 x2
  unfold pageFillDone
  refine dataDone_frame _ _ _ _ _ (by rfl) ?_
  exact Frame.step ((fillRegion_frame _ _ _ _).mono rfl) (endExec_frame _ _ _ _) (by rfl)

/-- What `pageQuery` can change. -/
theorem pageQuery_frame : ∀ x0 x1 x2, Frame [.link, .rings, .cnt, .waiting, .parked, .sp, .spr, .mgt, .out] x2 (pageQuery x0 x1 x2) := by
  intro x0 x1 x2
  unfold pageQuery
  extract_lets +onlyGivenNames -underBinder y1
  try clear_value y1
  extract_lets +onlyGivenNames -underBinder y2
  try clear_value y2
  exact reportCmd_frame _ _ _ _ _ _ _ _ _ (by rfl)

/-- What `loopback` can change. -/
theorem loopback_frame : ∀ x0 x1 x2, Frame [.link, .rings, .cnt, .execs, .waiting, .parked, .sp, .spr, .out, .nextId] x2 (loopback x0 x1 x2) := by
  intro x0 x1 x2
  unfold loopback
  extract_lets +onlyGivenNames -underBinder y1
  try clear_value y1
  extract_lets +onlyGivenNames -underBinder y2
  try clear_value y2
  extract_lets +onlyGivenNames -underBinder y3
  try clear_value y3
  exact (readCmd_frame _ _ _ _ _ _ _ _ _).mono rfl

/-- What `loopbackDone` can change. -/
theorem loopbackDone_frame : ∀ x0 x1 x2, Frame [.link, .rings, .cnt, .execs, .parked, .page, .sp, .spr, .mgt, .out] x0 (loopbackDone x0 x1 x2) := by
  intro x0 x1 x2
  unfold loopbackDone
  extract_lets +onlyGivenNames -underBinder y1
  try clear_value y1
  extract_lets +onlyGivenNames -underBinder y2
  try clear_value y2
  extract_lets +onlyGivenNames -underBinder y3
  try clear_value y3
  extract_lets +onlyGivenNames -underBinder y4
  try clear_value y4
  refine dataDone_frame _ _ _ _ _ (by rfl) ?_
  extract_lets +onlyGivenNames -underBinder y5
  have hy5 : Frame [.link, .rings, .cnt, .execs, .parked, .page, .sp, .spr, .mgt, .out] x0 y5 := by
    refine Frame.ite ?_ ?_
    · exact (fillRegion_frame _ _ _ _).mono rfl
    · exact Frame.refl _ _
  try clear_value y5
  extract_lets +onlyGivenNames -underBinder y6
  try clear_value y6
  exact Frame.step (Frame.step (by assumption) (writeOut_frame _ _ _ _) (by rfl)) (endExec_frame _ _ _ _) (by rfl)

/-- What `pageTrainingDone` can change. -/
theorem pageTrainingDone_frame : ∀ x0 x1 x2 x3, Frame [.page, .bg] x3 (pageTrainingDone x0 x1 x2 x3) := by
  intro x0 x1 x2 x3
  unfold pageTrainingDone
  refine Frame.ite ?_ ?_
  · refine Frame.ite ?_ ?_
    all_goals
      exact Frame.upd (Frame.refl _ _) rfl rfl
  · exact Frame.refl _ _

end Sys2Proof.Machine
end

