-- ==== Sys2Proof/Laws/FrameSpine.lean ====
section
/-! SUPPORT. One frame lemma for each operation that answers a state, of the spine link and the management tunnel.
A lemma `x_frame` names the parts of the state that `x` may change; everything else it leaves as it was (`Frame`). -/

set_option Elab.async false

namespace Sys2Proof.Machine

/-! ### SpineLink -/

/-- What `floodOn` can change. -/
theorem floodOn_frame : ∀ x0 x1 x2, Frame [.out] x0 (floodOn x0 x1 x2) := by
  intro x0 x1 x2
  unfold floodOn
  refine Frame.ite ?_ ?_
  · exact Frame.refl _ _
  · refine Frame.foldl (fun t1 _ => ?_) _ _ ?_
    · refine Frame.ite ?_ ?_
      · exact (State.emit_frame _ _).mono rfl
      · exact Frame.refl _ _
    · exact Frame.refl _ _

/-- What `cellActs` can change. -/
theorem cellActs_frame {l : List Part} (s : State) (sp : SpPort) (c : Cell) (typ : Nat) (act : State → State)
    (hl : Part.all l [.sp] = true) (ha : Frame l s (act s)) : Frame l s (cellActs s sp c typ act) := by
  unfold cellActs
  exact Frame.ite ((State.modYobor_frame _ _ _).mono (Part.all_trans hl rfl)) (Frame.ite (Frame.refl _ _) ha)

/-- What `cellIn` can change. -/
theorem cellIn_frame {l : List Part} (s : State) (sp : SpPort) (c : Cell) (typ : Nat) (act : State → State)
    (hl : Part.all l [.sp] = true) (ha : Frame l s (act s)) : Frame l s (cellIn s sp c typ act) := by
  unfold cellIn
  exact Frame.ite (cellActs_frame _ _ _ _ _ (Part.all_trans hl rfl) ha) (Frame.refl _ _)

/-- What `sendLink` can change. -/
theorem sendLink_frame : ∀ s sp typ b, Frame [.spr, .out] s (sendLink s sp typ b) := by
  intro s sp typ b
  unfold sendLink
  exact Frame.step ((takeSeq_frame s typ).mono rfl) (State.emit_frame _ _) rfl

/-- What `spnEvent` can change. -/
theorem spnEvent_frame : ∀ x0 x1, Frame [.spr] x0 (spnEvent x0 x1) := by
  intro x0 x1
  unfold spnEvent
  exact Frame.upd (Frame.refl _ _) rfl rfl

/-- What `mgtRelease` can change. -/
theorem mgtRelease_frame : ∀ x0 x1, Frame [.sp, .out] x0 (mgtRelease x0 x1) := by
  intro x0 x1
  unfold mgtRelease
  split
  · exact Frame.refl _ _
  · extract_lets +onlyGivenNames -underBinder y1
    have hy1 : Frame [.sp, .out] x0 y1 := (State.modYobor_frame _ _ _).mono rfl
    try clear_value y1
    refine Frame.ite ?_ ?_
    · exact Frame.step (Frame.step (by assumption) (State.modYobor_frame _ _ _) (by rfl)) (State.emit_frame _ _) (by rfl)
    · assumption

/-- What `mgtDrop` can change. -/
theorem mgtDrop_frame : ∀ x0 x1, Frame [.sp, .out] x0 (mgtDrop x0 x1) := by
  intro x0 x1
  unfold mgtDrop
  refine Frame.foldl (fun t1 _ => ?_) _ _ ?_
  · exact (mgtRelease_frame _ _).mono rfl
  · exact (State.modYobor_frame _ _ _).mono rfl

/-- What `toAlone` can change. -/
theorem toAlone_frame : ∀ x0, Frame [.sp, .spr, .out] x0 (toAlone x0) := by
  intro x0
  unfold toAlone
  extract_lets +onlyGivenNames -underBinder y1
  try clear_value y1
  extract_lets +onlyGivenNames -underBinder y2
  have hy2 : Frame [.sp, .spr, .out] x0 y2 := Frame.step (Frame.step ((mgtDrop_frame _ _).mono rfl) (mgtDrop_frame _ _) (by rfl)) (mgtDrop_frame _ _) (by rfl)
  try clear_value y2
  refine Frame.step ?_ (updateDemand_frame _) (by rfl)
  exact Frame.upd (by assumption) rfl rfl

/-- What `releaseRemotes` can change. -/
theorem releaseRemotes_frame : ∀ x0, Frame [.src] x0 (releaseRemotes x0) := by
  intro x0
  unfold releaseRemotes
  refine forAll_frame ?_ (fun t1 _ => ?_)
  · exact Frame.refl _ _
  · refine Frame.ite ?_ ?_
    · exact Frame.step ((holdTracked_frame _ _).mono rfl) (State.modSrc_frame _ _ _) (by rfl)
    · exact Frame.refl _ _

/-- What `upLost` can change. -/
theorem upLost_frame : ∀ x0, Frame [.sp, .spr, .out] x0 (upLost x0) := by
  intro x0
  unfold upLost
  split
  · refine Frame.ite ?_ ?_
    · exact Frame.refl _ _
    · exact (toAlone_frame _).mono rfl
  · refine Frame.ite ?_ ?_
    · exact Frame.refl _ _
    · exact Frame.upd (Frame.refl _ _) rfl rfl
  · refine Frame.ite ?_ ?_
    · exact Frame.refl _ _
    · exact Frame.upd (Frame.refl _ _) rfl rfl
  · exact Frame.refl _ _
  · exact Frame.refl _ _

/-- What `downLost` can change. -/
theorem downLost_frame : ∀ x0 x1, Frame [.sp, .spr, .out] x0 (downLost x0 x1) := by
  intro x0 x1
  unfold downLost
  extract_lets +onlyGivenNames -underBinder y1
  try clear_value y1
  extract_lets +onlyGivenNames -underBinder y2
  have hy2 : Frame [.sp, .spr, .out] x0 y2 := (State.modYobor_frame _ _ _).mono rfl
  try clear_value y2
  refine Frame.step ?_ (faultEdge_frame _) (by rfl)
  refine Frame.step ?_ (updateDemand_frame _) (by rfl)
  exact Frame.upd (by assumption) rfl rfl

/-- What `leaveUp` can change. -/
theorem leaveUp_frame : ∀ x0 x1 x2 x3, Frame [.link, .rings, .cnt, .parked, .sp, .spr, .out] x0 (leaveUp x0 x1 x2 x3) := by
  intro x0 x1 x2 x3
  unfold leaveUp
  extract_lets +onlyGivenNames -underBinder y1
  try clear_value y1
  extract_lets +onlyGivenNames -underBinder y2
  have hy2 : Frame [.link, .rings, .cnt, .parked, .sp, .spr, .out] x0 y2 := (State.modYobor_frame _ _ _).mono rfl
  try clear_value y2
  refine Frame.ite ?_ ?_
  · assumption
  · extract_lets +onlyGivenNames -underBinder y3
    have hy3 : Frame [.link, .rings, .cnt, .parked, .sp, .spr, .out] x0 y3 := Frame.step (Frame.step (Frame.step (by assumption) (mgtDrop_frame _ _) (by rfl)) (spnEvent_frame _ _) (by rfl)) (raise_frame _ _ _ _ _ _) (by rfl)
    try clear_value y3
    refine Frame.ite ?_ ?_
    · exact Frame.step (by assumption) (upLost_frame _) (by rfl)
    · exact Frame.step (by assumption) (downLost_frame _ _) (by rfl)

/-- What `blockLockAcquired` can change. -/
theorem blockLockAcquired_frame : ∀ x0 x1, Frame [.sp] x1 (blockLockAcquired x0 x1) := by
  intro x0 x1
  unfold blockLockAcquired
  refine Frame.ite ?_ ?_
  · exact Frame.refl _ _
  · refine Frame.ite ?_ ?_
    all_goals
      exact (State.modYobor_frame _ _ _).mono rfl

/-- What `blockLockLost` can change. -/
theorem blockLockLost_frame : ∀ x0 x1 x2, Frame [.link, .rings, .cnt, .parked, .sp, .spr, .out] x2 (blockLockLost x0 x1 x2) := by
  intro x0 x1 x2
  unfold blockLockLost
  refine Frame.ite ?_ ?_
  · exact Frame.refl _ _
  · extract_lets +onlyGivenNames -underBinder y1
    try clear_value y1
    exact Frame.step ((leaveUp_frame _ _ _ _).mono rfl) (State.modYobor_frame _ _ _) (by rfl)

/-- What `peerSilent` can change. -/
theorem peerSilent_frame : ∀ x0 x1, Frame [.clk, .tb, .link, .rings, .cnt, .parked, .sp, .spr, .out] x1 (peerSilent x0 x1) := by
  intro x0 x1
  unfold peerSilent
  refine Frame.ite ?_ ?_
  · exact Frame.refl _ _
  · extract_lets +onlyGivenNames -underBinder y1
    have hy1 : Frame [.clk, .tb, .link, .rings, .cnt, .parked, .sp, .spr, .out] x1 y1 := (State.advanceTo_frame _ _).mono rfl
    try clear_value y1
    exact Frame.step (Frame.step (by assumption) (leaveUp_frame _ _ _ _) (by rfl)) (State.modYobor_frame _ _ _) (by rfl)

/-- What `helloTx` can change. -/
theorem helloTx_frame : ∀ x0 x1, Frame [.clk, .tb, .sp, .spr, .out] x1 (helloTx x0 x1) := by
  intro x0 x1
  unfold helloTx
  refine Frame.ite ?_ ?_
  · exact Frame.refl _ _
  · extract_lets +onlyGivenNames -underBinder y1
    have hy1 : Frame [.clk, .tb, .sp, .spr, .out] x1 y1 := (State.advanceTo_frame _ _).mono rfl
    try clear_value y1
    extract_lets +onlyGivenNames -underBinder y2
    have hy2 : Frame [.clk, .tb, .sp, .spr, .out] x1 y2 := Frame.step (by assumption) (State.modYobor_frame _ _ _) (by rfl)
    try clear_value y2
    exact Frame.step (by assumption) (sendLink_frame _ _ _ _) (by rfl)

/-- What `helloRx` can change. -/
theorem helloRx_frame : ∀ x0 x1 x2 x3, Frame [.link, .rings, .cnt, .parked, .sp, .spr, .out] x3 (helloRx x0 x1 x2 x3) := by
  intro x0 x1 x2 x3
  unfold helloRx
  refine Frame.ite ?_ ?_
  · exact Frame.refl _ _
  · refine cellActs_frame _ _ _ _ _ (by rfl) ?_
    refine Frame.ite ?_ ?_
    · exact Frame.refl _ _
    · extract_lets +onlyGivenNames -underBinder y1
      have hy1 : Frame [.link, .rings, .cnt, .parked, .sp, .spr, .out] x3 y1 := (State.modYobor_frame _ _ _).mono rfl
      try clear_value y1
      split
      · refine Frame.ite ?_ ?_
        · assumption
        · refine Frame.ite ?_ ?_
          all_goals
            exact Frame.step (by assumption) (State.modYobor_frame _ _ _) (by rfl)
      · refine Frame.ite ?_ ?_
        · assumption
        · exact Frame.step (by assumption) (leaveUp_frame _ _ _ _) (by rfl)
      · assumption
      · assumption
      · assumption

/-- What `cellFramingError` can change. -/
theorem cellFramingError_frame : ∀ x0 x1, Frame [.sp] x1 (cellFramingError x0 x1) := by
  intro x0 x1
  unfold cellFramingError
  refine Frame.ite ?_ ?_
  · exact Frame.refl _ _
  · exact (State.modYobor_frame _ _ _).mono rfl

/-- What `mgtHold` can change. -/
theorem mgtHold_frame : ∀ x0 x1 x2 x3, Frame [.sp, .out] x0 (mgtHold x0 x1 x2 x3) := by
  intro x0 x1 x2 x3
  unfold mgtHold
  extract_lets +onlyGivenNames -underBinder y1
  have hy1 : Frame [.sp, .out] x0 y1 := Frame.step ((State.modYobor_frame _ _ _).mono rfl) (State.modYobor_frame _ _ _) (by rfl)
  try clear_value y1
  refine Frame.ite ?_ ?_
  · exact Frame.step (Frame.step (by assumption) (State.modYobor_frame _ _ _) (by rfl)) (State.emit_frame _ _) (by rfl)
  · assumption

/-- What `flowXoffRx` can change. -/
theorem flowXoffRx_frame : ∀ x0 x1, Frame [.sp] x1 (flowXoffRx x0 x1) := by
  intro x0 x1
  unfold flowXoffRx
  refine Frame.ite ?_ ?_
  · exact (State.modYobor_frame _ _ _).mono rfl
  · exact Frame.refl _ _

/-- What `flowXonRx` can change. -/
theorem flowXonRx_frame : ∀ x0 x1, Frame [.sp, .out] x1 (flowXonRx x0 x1) := by
  intro x0 x1
  unfold flowXonRx
  refine Frame.foldl (fun t1 _ => ?_) _ _ ?_
  · exact Frame.step ((State.emit_frame _ _).mono rfl) (mgtRelease_frame _ _) (by rfl)
  · exact (State.modYobor_frame _ _ _).mono rfl

/-- What `evtCellRx` can change. -/
theorem evtCellRx_frame : ∀ x0 x1 x2, Frame [.glb, .link, .rings, .cnt, .execs, .parked, .quires, .ports, .sp, .spr, .mgt, .bg, .out] x2 (evtCellRx x0 x1 x2) := by
  intro x0 x1 x2
  unfold evtCellRx
  refine Frame.ite ?_ ?_
  · exact Frame.refl _ _
  · refine Frame.trans ?_ (cellActs_frame _ _ _ _ _ (by rfl) ?_)
    · exact (floodOn_frame _ _ _).mono rfl
    · generalize floodOn _ _ _ = t1
      extract_lets +onlyGivenNames -underBinder y2
      try clear_value y2
      extract_lets +onlyGivenNames -underBinder y3
      try clear_value y3
      refine Frame.ite ?_ ?_
      · exact Frame.refl _ _
      · refine Frame.ite ?_ ?_
        · extract_lets +onlyGivenNames -underBinder y4
          try clear_value y4
          extract_lets +onlyGivenNames -underBinder y5
          try clear_value y5
          extract_lets +onlyGivenNames -underBinder y6
          have hy6 : Frame [.glb, .link, .rings, .cnt, .execs, .parked, .quires, .ports, .sp, .spr, .mgt, .bg, .out] t1 y6 := by
            refine forAll_frame ?_ (fun t7 _ => ?_)
            · exact Frame.refl _ _
            · refine Frame.ite ?_ ?_
              · exact (stopQuire_frame _ _ _).mono rfl
              · exact Frame.refl _ _
          try clear_value y6
          exact Frame.step (Frame.step (by assumption) (spnEvent_frame _ _) (by rfl)) (raise_frame _ _ _ _ _ _) (by rfl)
        · refine Frame.ite ?_ ?_
          · exact Frame.refl _ _
          · refine Frame.ite ?_ ?_
            · extract_lets +onlyGivenNames -underBinder y8
              try clear_value y8
              refine Frame.step ?_ (faultEdge_frame _) (by rfl)
              exact Frame.upd (Frame.refl _ _) rfl rfl
            · refine Frame.ite ?_ ?_
              · refine Frame.step ?_ (faultEdge_frame _) (by rfl)
                exact Frame.upd (Frame.refl _ _) rfl rfl
              · exact Frame.refl _ _

/-- What `sendSync` can change. -/
theorem sendSync_frame : ∀ x0, Frame [.spr, .out] x0 (sendSync x0) := by
  intro x0
  unfold sendSync
  extract_lets +onlyGivenNames -underBinder y1
  try clear_value y1
  extract_lets +onlyGivenNames -underBinder y2
  have hy2 : ∀ a0y2 a1y2, Frame [.spr, .out] a0y2 (y2 a0y2 a1y2) := by
    intro a0y2 a1y2
    unfold y2
    refine Frame.ite ?_ ?_
    · exact (sendLink_frame _ _ _ _).mono rfl
    · exact Frame.refl _ _
  try clear_value y2
  extract_lets +onlyGivenNames -underBinder y3
  have hy3 : Frame [.spr, .out] x0 y3 := by
    unfold y3
    refine Frame.trans ?_ (hy2 _ _)
    exact hy2 _ _
  try clear_value y3
  exact Frame.upd (by assumption) rfl rfl

/-- What `syncTx` can change. -/
theorem syncTx_frame : ∀ x0, Frame [.clk, .tb, .spr, .out] x0 (syncTx x0) := by
  intro x0
  unfold syncTx
  refine Frame.ite ?_ ?_
  · exact Frame.refl _ _
  · exact Frame.step ((State.advanceTo_frame _ _).mono rfl) (sendSync_frame _) (by rfl)

/-- What `moveTb` can change. -/
theorem moveTb_frame : ∀ x0 x1, Frame [.tb] x0 (moveTb x0 x1) := by
  intro x0 x1
  unfold moveTb
  exact Frame.upd (Frame.refl _ _) rfl rfl

/-- What `syncCorrect` can change. -/
theorem syncCorrect_frame : ∀ x0 x1, Frame [.tb, .spr] x0 (syncCorrect x0 x1) := by
  intro x0 x1
  unfold syncCorrect
  extract_lets +onlyGivenNames -underBinder y1
  try clear_value y1
  refine Frame.ite ?_ ?_
  · refine Frame.step ?_ (spnEvent_frame _ _) (by rfl)
    refine Frame.step ?_ (moveTb_frame _ _) (by rfl)
    exact Frame.upd (Frame.refl _ _) rfl rfl
  · extract_lets +onlyGivenNames -underBinder y2
    try clear_value y2
    exact (moveTb_frame _ _).mono rfl

/-- What `State.setFwSlot` can change. -/
theorem State.setFwSlot_frame : ∀ x0 x1 x2, Frame [.flash] x0 (State.setFwSlot x0 x1 x2) := by
  intro x0 x1 x2
  unfold State.setFwSlot
  refine Frame.ite ?_ ?_
  · exact Frame.upd (Frame.refl _ _) rfl rfl
  · refine Frame.ite ?_ ?_
    all_goals
      exact Frame.upd (Frame.refl _ _) rfl rfl

/-- What `stageCut` can change. -/
theorem stageCut_frame : ∀ x0 x1, Frame [.flash] x0 (stageCut x0 x1) := by
  intro x0 x1
  unfold stageCut
  refine Frame.ite ?_ ?_
  · exact (State.setFwSlot_frame _ _ _).mono rfl
  · exact Frame.refl _ _

/-- What `undefSpan` can change. -/
theorem undefSpan_frame : ∀ x0 x1 x2 x3, Frame [.page, .draws] x0 (undefSpan x0 x1 x2 x3) := by
  intro x0 x1 x2 x3
  unfold undefSpan
  exact Frame.step ((fillRegion_frame _ _ _ _).mono rfl) (State.draw_frame _) (by rfl)

/-- What `cutExec` can change. -/
theorem cutExec_frame : ∀ x0 x1, Frame [.link, .rings, .cnt, .execs, .parked, .page, .sp, .spr, .flash, .out, .draws] x0 (cutExec x0 x1) := by
  intro x0 x1
  unfold cutExec
  extract_lets +onlyGivenNames -underBinder y1
  have hy1 : Frame [.link, .rings, .cnt, .execs, .parked, .page, .sp, .spr, .flash, .out, .draws] x0 y1 := (stageCut_frame _ _).mono rfl
  try clear_value y1
  extract_lets +onlyGivenNames -underBinder y2
  have hy2 : Frame [.link, .rings, .cnt, .execs, .parked, .page, .sp, .spr, .flash, .out, .draws] x0 y2 := by
    refine Frame.ite ?_ ?_
    · exact Frame.step (by assumption) (undefSpan_frame _ _ _ _) (by rfl)
    · assumption
  try clear_value y2
  exact Frame.step (by assumption) (endExec_frame _ _ _ _) (by rfl)

/-- What `setSpvOp` can change. -/
theorem setSpvOp_frame : ∀ x0 x1, Frame [.link, .rings, .cnt, .execs, .parked, .page, .sp, .spr, .flash, .out, .draws] x0 (setSpvOp x0 x1) := by
  intro x0 x1
  unfold setSpvOp
  extract_lets +onlyGivenNames -underBinder y1
  try clear_value y1
  extract_lets +onlyGivenNames -underBinder y2
  have hy2 : Frame [.link, .rings, .cnt, .execs, .parked, .page, .sp, .spr, .flash, .out, .draws] x0 y2 := Frame.upd (Frame.refl _ _) rfl rfl
  try clear_value y2
  refine Frame.ite ?_ ?_
  · refine Frame.foldl (fun t3 _ => ?_) _ _ ?_
    · exact (cutExec_frame _ _).mono rfl
    · assumption
  · assumption

/-- What `syncRx` can change. -/
theorem syncRx_frame : ∀ x0 x1 x2, Frame [.tb, .link, .rings, .cnt, .execs, .parked, .src, .page, .sp, .spr, .flash, .out, .draws] x2 (syncRx x0 x1 x2) := by
  intro x0 x1 x2
  unfold syncRx
  refine Frame.ite ?_ ?_
  · exact Frame.refl _ _
  · refine cellIn_frame _ _ _ _ _ (by rfl) ?_
    refine Frame.ite ?_ ?_
    · exact Frame.refl _ _
    · extract_lets +onlyGivenNames -underBinder y1
      try clear_value y1
      refine Frame.ite ?_ ?_
      · refine Frame.ite ?_ ?_
        · exact Frame.refl _ _
        · exact Frame.step ((releaseRemotes_frame _).mono rfl) (toAlone_frame _) (by rfl)
      · extract_lets +onlyGivenNames -underBinder y2
        try clear_value y2
        extract_lets +onlyGivenNames -underBinder y3
        have hy3 : Frame [.tb, .link, .rings, .cnt, .execs, .parked, .src, .page, .sp, .spr, .flash, .out, .draws] x2 y3 := (syncCorrect_frame _ _).mono rfl
        try clear_value y3
        extract_lets +onlyGivenNames -underBinder y4
        try clear_value y4
        extract_lets +onlyGivenNames -underBinder y5
        try clear_value y5
        refine Frame.step ?_ (setSpvOp_frame _ _) (by rfl)
        exact Frame.upd (by assumption) rfl rfl

/-- What `syncLoss` can change. -/
theorem syncLoss_frame : ∀ x0, Frame [.clk, .tb, .sp] x0 (syncLoss x0) := by
  intro x0
  unfold syncLoss
  refine Frame.ite ?_ ?_
  · extract_lets +onlyGivenNames -underBinder y1
    have hy1 : Frame [.clk, .tb, .sp] x0 y1 := (State.advanceTo_frame _ _).mono rfl
    try clear_value y1
    exact Frame.upd (by assumption) rfl rfl
  · exact Frame.refl _ _

/-- What `delayReqTx` can change. -/
theorem delayReqTx_frame : ∀ x0, Frame [.clk, .tb, .sp, .spr, .out] x0 (delayReqTx x0) := by
  intro x0
  unfold delayReqTx
  extract_lets +onlyGivenNames -underBinder y1
  try clear_value y1
  refine Frame.ite ?_ ?_
  · exact Frame.refl _ _
  · extract_lets +onlyGivenNames -underBinder y2
    have hy2 : Frame [.clk, .tb, .sp, .spr, .out] x0 y2 := by
      unfold y2
      split
      · exact Frame.refl _ _
      · exact (State.advanceTo_frame _ _).mono rfl
    try clear_value y2
    extract_lets +onlyGivenNames -underBinder y3
    try clear_value y3
    extract_lets +onlyGivenNames -underBinder y4
    have hy4 : Frame [.clk, .tb, .sp, .spr, .out] x0 y4 := Frame.step (by assumption) (State.modYobor_frame _ _ _) (by rfl)
    try clear_value y4
    exact Frame.step (by assumption) (sendLink_frame _ _ _ _) (by rfl)

/-- What `delayReqRx` can change. -/
theorem delayReqRx_frame : ∀ x0 x1 x2 x3, Frame [.sp, .spr, .out] x3 (delayReqRx x0 x1 x2 x3) := by
  intro x0 x1 x2 x3
  unfold delayReqRx
  refine Frame.ite ?_ ?_
  · exact Frame.refl _ _
  · refine cellActs_frame _ _ _ _ _ (by rfl) ?_
    refine Frame.ite ?_ ?_
    · exact (sendLink_frame _ _ _ _).mono rfl
    · exact Frame.refl _ _

/-- What `delayRespRx` can change. -/
theorem delayRespRx_frame : ∀ x0 x1 x2 x3, Frame [.sp] x3 (delayRespRx x0 x1 x2 x3) := by
  intro x0 x1 x2 x3
  unfold delayRespRx
  refine Frame.ite ?_ ?_
  · exact Frame.refl _ _
  · refine cellActs_frame _ _ _ _ _ (by rfl) ?_
    refine Frame.ite ?_ ?_
    · extract_lets +onlyGivenNames -underBinder y1
      try clear_value y1
      exact (State.modYobor_frame _ _ _).mono rfl
    · exact Frame.refl _ _

/-- What `posPublish` can change. -/
theorem posPublish_frame : ∀ x0 x1, Frame [.clk, .tb, .src, .spr, .out] x1 (posPublish x0 x1) := by
  intro x0 x1
  unfold posPublish
  extract_lets +onlyGivenNames -underBinder y1
  try clear_value y1
  extract_lets +onlyGivenNames -underBinder y2
  try clear_value y2
  refine Frame.ite ?_ ?_
  · exact Frame.refl _ _
  · extract_lets +onlyGivenNames -underBinder y3
    have hy3 : Frame [.clk, .tb, .src, .spr, .out] x1 y3 := by
      refine Frame.ite ?_ ?_
      · exact Frame.refl _ _
      · refine Frame.ite ?_ ?_
        all_goals
          exact (State.advanceTo_frame _ _).mono rfl
    try clear_value y3
    exact Frame.step (Frame.step (by assumption) (State.modSrc_frame _ _ _) (by rfl)) (flood_frame _ _ _) (by rfl)

/-- What `takePos` can change. -/
theorem takePos_frame : ∀ x0 x1 x2, Frame [.glb, .link, .rings, .cnt, .execs, .parked, .src, .quires, .ports, .sp, .spr, .mgt, .bg, .out] x0 (takePos x0 x1 x2) := by
  intro x0 x1 x2
  unfold takePos
  extract_lets +onlyGivenNames -underBinder y1
  try clear_value y1
  extract_lets +onlyGivenNames -underBinder y2
  try clear_value y2
  extract_lets +onlyGivenNames -underBinder y3
  try clear_value y3
  extract_lets +onlyGivenNames -underBinder y4
  try clear_value y4
  extract_lets +onlyGivenNames -underBinder y5
  try clear_value y5
  extract_lets +onlyGivenNames -underBinder y6
  try clear_value y6
  extract_lets +onlyGivenNames -underBinder y7
  try clear_value y7
  extract_lets +onlyGivenNames -underBinder y8
  try clear_value y8
  extract_lets +onlyGivenNames -underBinder y9
  try clear_value y9
  extract_lets +onlyGivenNames -underBinder y10
  try clear_value y10
  extract_lets +onlyGivenNames -underBinder y11
  try clear_value y11
  extract_lets +onlyGivenNames -underBinder y12
  try clear_value y12
  extract_lets +onlyGivenNames -underBinder y13
  have hy13 : Frame [.glb, .link, .rings, .cnt, .execs, .parked, .src, .quires, .ports, .sp, .spr, .mgt, .bg, .out] x0 y13 := (holdTracked_frame _ _).mono rfl
  try clear_value y13
  extract_lets +onlyGivenNames -underBinder y14
  have hy14 : Frame [.glb, .link, .rings, .cnt, .execs, .parked, .src, .quires, .ports, .sp, .spr, .mgt, .bg, .out] x0 y14 := by
    refine Frame.ite ?_ ?_
    · refine Frame.foldl (fun t15 _ => ?_) _ _ ?_
      · exact (holdNext_frame _ _).mono rfl
      · assumption
    · assumption
  try clear_value y14
  extract_lets +onlyGivenNames -underBinder y16
  try clear_value y16
  extract_lets +onlyGivenNames -underBinder y17
  try clear_value y17
  extract_lets +onlyGivenNames -underBinder y18
  try clear_value y18
  extract_lets +onlyGivenNames -underBinder y19
  try clear_value y19
  extract_lets +onlyGivenNames -underBinder y20
  have hy20 : Frame [.glb, .link, .rings, .cnt, .execs, .parked, .src, .quires, .ports, .sp, .spr, .mgt, .bg, .out] x0 y20 := Frame.step (by assumption) (State.modSrc_frame _ _ _) (by rfl)
  try clear_value y20
  refine Frame.ite ?_ ?_
  · refine Frame.ite ?_ ?_
    · assumption
    · refine Frame.foldl (fun t21 _ => ?_) _ _ ?_
      · exact (stopQuire_frame _ _ _).mono rfl
      · assumption
  · refine Frame.ite ?_ ?_
    · refine Frame.foldl (fun t22 _ => ?_) _ _ ?_
      · exact (quireReversed_frame _ _).mono rfl
      · assumption
    · refine Frame.ite ?_ ?_
      · refine Frame.foldl (fun t23 _ => ?_) _ _ ?_
        · exact (quireResumes_frame _ _).mono rfl
        · assumption
      · assumption

/-- What `posCellRx` can change. -/
theorem posCellRx_frame : ∀ x0 x1 x2, Frame [.glb, .link, .rings, .cnt, .execs, .parked, .src, .quires, .ports, .sp, .spr, .mgt, .bg, .out] x2 (posCellRx x0 x1 x2) := by
  intro x0 x1 x2
  unfold posCellRx
  refine Frame.ite ?_ ?_
  · exact Frame.refl _ _
  · refine Frame.trans ?_ (cellActs_frame _ _ _ _ _ (by rfl) ?_)
    · exact (floodOn_frame _ _ _).mono rfl
    · generalize floodOn _ _ _ = t1
      refine Frame.ite ?_ ?_
      · exact Frame.refl _ _
      · refine forAll_frame ?_ (fun t2 _ => ?_)
        · exact Frame.refl _ _
        · refine Frame.ite ?_ ?_
          · exact (takePos_frame _ _ _).mono rfl
          · exact Frame.refl _ _

/-- What `dmdTx` can change. -/
theorem dmdTx_frame : ∀ x0, Frame [.clk, .tb, .spr, .out] x0 (dmdTx x0) := by
  intro x0
  unfold dmdTx
  refine Frame.ite ?_ ?_
  · exact Frame.refl _ _
  · extract_lets +onlyGivenNames -underBinder y1
    have hy1 : Frame [.clk, .tb, .spr, .out] x0 y1 := by
      refine Frame.ite ?_ ?_
      · exact Frame.refl _ _
      · exact (State.advanceTo_frame _ _).mono rfl
    try clear_value y1
    extract_lets +onlyGivenNames -underBinder y2
    try clear_value y2
    extract_lets +onlyGivenNames -underBinder y3
    try clear_value y3
    extract_lets +onlyGivenNames -underBinder y4
    have hy4 : Frame [.clk, .tb, .spr, .out] x0 y4 := Frame.upd (by assumption) rfl rfl
    try clear_value y4
    exact Frame.step (by assumption) (sendLink_frame _ _ _ _) (by rfl)

/-- What `dmdRx` can change. -/
theorem dmdRx_frame : ∀ x0 x1 x2, Frame [.sp, .spr] x2 (dmdRx x0 x1 x2) := by
  intro x0 x1 x2
  unfold dmdRx
  refine Frame.ite ?_ ?_
  · exact Frame.refl _ _
  · refine cellIn_frame _ _ _ _ _ (by rfl) ?_
    exact Frame.step ((State.modYobor_frame _ _ _).mono rfl) (updateDemand_frame _) (by rfl)

/-- What `childLost` can change. -/
theorem childLost_frame : ∀ x0 x1, Frame [.clk, .tb, .sp, .spr] x1 (childLost x0 x1) := by
  intro x0 x1
  unfold childLost
  refine Frame.ite ?_ ?_
  · exact Frame.refl _ _
  · exact Frame.step (Frame.step ((State.advanceTo_frame _ _).mono rfl) (State.modYobor_frame _ _ _) (by rfl)) (updateDemand_frame _) (by rfl)

/-! ### Tunnel -/

/-- What `tunnelSend` can change. -/
theorem tunnelSend_frame : ∀ x0 x1, Frame [.cnt, .sp, .spr, .out] x0 (tunnelSend x0 x1) := by
  intro x0 x1
  unfold tunnelSend
  extract_lets +onlyGivenNames -underBinder y1
  try clear_value y1
  extract_lets +onlyGivenNames -underBinder y2
  try clear_value y2
  refine Frame.step ?_ (sendMgt_frame _ _ _ _ _) (by rfl)
  exact Frame.upd (Frame.refl _ _) rfl rfl

/-- What `tunnelOut` can change. -/
theorem tunnelOut_frame : ∀ x0 x1, Frame [.cnt, .sp, .spr, .out] x0 (tunnelOut x0 x1) := by
  intro x0 x1
  unfold tunnelOut
  refine Frame.ite ?_ ?_
  · exact Frame.upd (Frame.refl _ _) rfl rfl
  · exact (tunnelSend_frame _ _).mono rfl

/-- What `startRemote` can change. -/
theorem startRemote_frame : ∀ x0 x1, Frame [.link, .rings, .cnt, .parked, .sp, .spr, .out] x1 (startRemote x0 x1) := by
  intro x0 x1
  unfold startRemote
  split
  · exact (tunnelOut_frame _ _).mono rfl
  · exact (refuse_frame _ _ _).mono rfl

/-- What `bcastOut` can change. -/
theorem bcastOut_frame : ∀ x0 x1, Frame [.cnt, .sp, .spr, .out] x0 (bcastOut x0 x1) := by
  intro x0 x1
  unfold bcastOut
  extract_lets +onlyGivenNames -underBinder y1
  try clear_value y1
  extract_lets +onlyGivenNames -underBinder y2
  try clear_value y2
  extract_lets +onlyGivenNames -underBinder y3
  have hy3 : Frame [.cnt, .sp, .spr, .out] x0 y3 := Frame.upd (Frame.refl _ _) rfl rfl
  try clear_value y3
  refine Frame.foldl (fun t4 _ => ?_) _ _ ?_
  · exact (tunnelOut_frame _ _).mono rfl
  · assumption

/-- What `acceptEntry` can change. -/
theorem acceptEntry_frame : ∀ x0 x1 x2, Frame [.waiting] x0 (acceptEntry x0 x1 x2) := by
  intro x0 x1 x2
  unfold acceptEntry
  extract_lets +onlyGivenNames -underBinder y1
  try clear_value y1
  extract_lets +onlyGivenNames -underBinder y2
  try clear_value y2
  extract_lets +onlyGivenNames -underBinder y3
  try clear_value y3
  extract_lets +onlyGivenNames -underBinder y4
  try clear_value y4
  extract_lets +onlyGivenNames -underBinder y5
  try clear_value y5
  exact Frame.upd (Frame.refl _ _) rfl rfl

/-- What `mgtForward` can change. -/
theorem mgtForward_frame : ∀ x0 x1 x2, Frame [.sp, .out] x0 (mgtForward x0 x1 x2) := by
  intro x0 x1 x2
  unfold mgtForward
  split
  · exact Frame.refl _ _
  · refine Frame.ite ?_ ?_
    · exact Frame.refl _ _
    · refine Frame.ite ?_ ?_
      · exact (mgtHold_frame _ _ _ _).mono rfl
      · exact (State.emit_frame _ _).mono rfl

/-- What `mgtIn` can change. -/
theorem mgtIn_frame {l : List Part} (sp : SpPort) (c : Cell) (kind : Nat) (s : State) (act : State → State)
    (hl : Part.all l [.sp, .out] = true) (ha : Frame l s (act s)) : Frame l s (mgtIn sp c kind s act) := by
  unfold mgtIn
  refine Frame.ite (Frame.refl _ _) (Frame.ite ((mgtForward_frame _ _ _).mono (Part.all_trans hl rfl)) ?_)
  exact cellActs_frame _ _ _ _ _ (Part.all_trans hl rfl) (Frame.ite (Frame.refl _ _) ha)

/-- What `dropPart` can change. -/
theorem dropPart_frame : ∀ x0 x1, Frame [.spr] x0 (dropPart x0 x1) := by
  intro x0 x1
  unfold dropPart
  exact Frame.upd (Frame.refl _ _) rfl rfl

/-- What `assemble` can change. -/
theorem assemble_frame {l : List Part} (s : State) (c : Cell) (kind segs : Nat) (act : State → Bytes → State)
    (hl : Part.all l [.spr] = true) (ha : ∀ t d, Frame l t (act t d)) : Frame l s (assemble s c kind segs act) := by
  unfold assemble
  have h1 : Frame l s (dropPart s (isPart c kind)) := (dropPart_frame _ _).mono (Part.all_trans hl rfl)
  dsimp only
  split
  · exact h1
  · refine Frame.ite (Frame.trans h1 (ha _ _)) (Frame.trans h1 ?_)
    have w : ∀ (t : State) ps, Frame [.spr] t { t with spr := { t.spr with parts := ps } } := fun _ _ => Frame.upd (Frame.refl _ _) rfl rfl
    exact (w _ _).mono (Part.all_trans hl rfl)

/-- What `mgtCmdRx` can change. -/
theorem mgtCmdRx_frame : ∀ x0 x1 x2, Frame [.cnt, .waiting, .sp, .spr, .out] x2 (mgtCmdRx x0 x1 x2) := by
  intro x0 x1 x2
  unfold mgtCmdRx
  refine mgtIn_frame _ _ _ _ _ (by rfl) ?_
  refine assemble_frame _ _ _ _ _ (by rfl) ?_
  intro t1 _
  refine Frame.ite ?_ ?_
  · exact Frame.refl _ _
  · extract_lets +onlyGivenNames -underBinder y2
    try clear_value y2
    extract_lets +onlyGivenNames -underBinder y3
    try clear_value y3
    exact Frame.upd (Frame.refl _ _) rfl rfl

/-- What `tunnelEnds` can change. -/
theorem tunnelEnds_frame : ∀ x0 x1 x2 x3 x4, Frame [.link, .rings, .cnt, .parked, .sp, .spr, .out] x0 (tunnelEnds x0 x1 x2 x3 x4) := by
  intro x0 x1 x2 x3 x4
  unfold tunnelEnds
  extract_lets +onlyGivenNames -underBinder y1
  try clear_value y1
  extract_lets +onlyGivenNames -underBinder y2
  have hy2 : Frame [.link, .rings, .cnt, .parked, .sp, .spr, .out] x0 y2 := Frame.upd (Frame.refl _ _) rfl rfl
  try clear_value y2
  extract_lets +onlyGivenNames -underBinder y3
  have hy3 : Frame [.link, .rings, .cnt, .parked, .sp, .spr, .out] x0 y3 := by
    unfold y3
    split
    · refine Frame.ite ?_ ?_
      · exact Frame.step (by assumption) (bcastAnswer_frame _ _ _ _ _ _) (by rfl)
      · extract_lets +onlyGivenNames -underBinder y4
        have hy4 : Frame [.link, .rings, .cnt, .parked, .sp, .spr, .out] x0 y4 := Frame.step (by assumption) (writeCpl_frame _ _ _ _ _ _ _) (by rfl)
        try clear_value y4
        refine Frame.ite ?_ ?_
        · exact Frame.step (by assumption) (haltRing_frame _ _ _) (by rfl)
        · assumption
    · exact Frame.step (by assumption) (State.emit_frame _ _) (by rfl)
    · assumption
    · assumption
  try clear_value y3
  split
  · assumption
  · refine Frame.step ?_ (tunnelSend_frame _ _) (by rfl)
    exact Frame.upd (by assumption) rfl rfl

/-- What `mgtCplRx` can change. -/
theorem mgtCplRx_frame : ∀ x0 x1 x2, Frame [.link, .rings, .cnt, .parked, .sp, .spr, .out] x2 (mgtCplRx x0 x1 x2) := by
  intro x0 x1 x2
  unfold mgtCplRx
  refine mgtIn_frame _ _ _ _ _ (by rfl) ?_
  split
  · exact Frame.refl _ _
  · extract_lets +onlyGivenNames -underBinder y1
    try clear_value y1
    exact (tunnelEnds_frame _ _ _ _ _).mono rfl

/-- What `mgtEvtRx` can change. -/
theorem mgtEvtRx_frame : ∀ x0 x1 x2, Frame [.link, .rings, .cnt, .parked, .sp, .spr, .out] x2 (mgtEvtRx x0 x1 x2) := by
  intro x0 x1 x2
  unfold mgtEvtRx
  refine mgtIn_frame _ _ _ _ _ (by rfl) ?_
  refine assemble_frame _ _ _ _ _ (by rfl) ?_
  intro t1 _
  refine Frame.ite ?_ ?_
  · exact Frame.refl _ _
  · exact (writeEvent_frame _ _ _ _).mono rfl

/-- What `transferFails` can change. -/
theorem transferFails_frame : ∀ x0 x1 x2, Frame [.sp, .spr, .out] x0 (transferFails x0 x1 x2) := by
  intro x0 x1 x2
  unfold transferFails
  exact (sendMgt_frame _ _ _ _ _).mono rfl

/-- What `mgtRdReqRx` can change. -/
theorem mgtRdReqRx_frame : ∀ x0 x1 x2, Frame [.parked, .sp, .spr, .out, .nextId] x2 (mgtRdReqRx x0 x1 x2) := by
  intro x0 x1 x2
  unfold mgtRdReqRx
  refine mgtIn_frame _ _ _ _ _ (by rfl) ?_
  extract_lets +onlyGivenNames -underBinder y1
  try clear_value y1
  extract_lets +onlyGivenNames -underBinder y2
  try clear_value y2
  extract_lets +onlyGivenNames -underBinder y3
  try clear_value y3
  extract_lets +onlyGivenNames -underBinder y4
  try clear_value y4
  split
  · exact (transferFails_frame _ _ _).mono rfl
  · refine Frame.step ?_ (State.dmaRead_frame _ _ _ _ _) (by rfl)
    exact Frame.upd (Frame.refl _ _) rfl rfl
  · exact (sendMgt_frame _ _ _ _ _).mono rfl

/-- What `relayRead` can change. -/
theorem relayRead_frame : ∀ x0 x1 x2, Frame [.sp, .spr, .out] x0 (relayRead x0 x1 x2) := by
  intro x0 x1 x2
  unfold relayRead
  refine Frame.ite ?_ ?_
  · exact Frame.step ((dropPart_frame _ _).mono rfl) (sendMgt_frame _ _ _ _ _) (by rfl)
  · exact Frame.refl _ _

/-- What `mgtWrReqRx` can change. -/
theorem mgtWrReqRx_frame : ∀ x0 x1 x2, Frame [.sp, .spr, .out] x2 (mgtWrReqRx x0 x1 x2) := by
  intro x0 x1 x2
  unfold mgtWrReqRx
  refine mgtIn_frame _ _ _ _ _ (by rfl) ?_
  extract_lets +onlyGivenNames -underBinder y1
  try clear_value y1
  extract_lets +onlyGivenNames -underBinder y2
  have hy2 : Frame [.sp, .spr, .out] x2 y2 := (dropPart_frame _ _).mono rfl
  try clear_value y2
  refine Frame.ite ?_ ?_
  · exact Frame.step (by assumption) (transferFails_frame _ _ _) (by rfl)
  · exact Frame.upd (by assumption) rfl rfl

/-- What `relayWrite` can change. -/
theorem relayWrite_frame : ∀ x0 x1 x2, Frame [.parked, .sp, .spr, .mgt, .out] x0 (relayWrite x0 x1 x2) := by
  intro x0 x1 x2
  unfold relayWrite
  split
  · exact (transferFails_frame _ _ _).mono rfl
  · exact Frame.step ((State.hostWrite_frame _ _ _).mono rfl) (sendMgt_frame _ _ _ _ _) (by rfl)
  · refine Frame.step ?_ (sendMgt_frame _ _ _ _ _) (by rfl)
    refine Frame.updMem ?_ (Mem.write_wf _ _) id (.inr rfl) (.inl rfl)
    exact Frame.refl _ _

/-- What `mgtWrDataRx` can change. -/
theorem mgtWrDataRx_frame : ∀ x0 x1 x2, Frame [.parked, .sp, .spr, .mgt, .out] x2 (mgtWrDataRx x0 x1 x2) := by
  intro x0 x1 x2
  unfold mgtWrDataRx
  refine mgtIn_frame _ _ _ _ _ (by rfl) ?_
  split
  · exact Frame.refl _ _
  · refine Frame.ite ?_ ?_
    · exact (dropPart_frame _ _).mono rfl
    · extract_lets +onlyGivenNames -underBinder y1
      try clear_value y1
      refine Frame.ite ?_ ?_
      · exact Frame.step ((dropPart_frame _ _).mono rfl) (relayWrite_frame _ _ _) (by rfl)
      · extract_lets +onlyGivenNames -underBinder y2
        try clear_value y2
        exact Frame.upd (Frame.refl _ _) rfl rfl

/-- What `tunnelTimeout` can change. -/
theorem tunnelTimeout_frame : ∀ x0 x1, Frame [.clk, .tb, .link, .rings, .cnt, .parked, .sp, .spr, .out] x1 (tunnelTimeout x0 x1) := by
  intro x0 x1
  unfold tunnelTimeout
  split
  · exact Frame.refl _ _
  · extract_lets +onlyGivenNames -underBinder y1
    have hy1 : Frame [.clk, .tb, .link, .rings, .cnt, .parked, .sp, .spr, .out] x1 y1 := (State.advanceTo_frame _ _).mono rfl
    try clear_value y1
    extract_lets +onlyGivenNames -underBinder y2
    try clear_value y2
    extract_lets +onlyGivenNames -underBinder y3
    have hy3 : Frame [.clk, .tb, .link, .rings, .cnt, .parked, .sp, .spr, .out] x1 y3 := by
      refine Frame.ite ?_ ?_
      · assumption
      · exact Frame.upd (by assumption) rfl rfl
    try clear_value y3
    exact Frame.step (by assumption) (tunnelEnds_frame _ _ _ _ _) (by rfl)

end Sys2Proof.Machine
end

