-- ==== Sys2Proof/Laws/FrameSystem.lean ====
section
/-! SUPPORT. One frame lemma for each operation that answers a state, of the rings, system commands, firmware, boot, the host link and the management controller.
A lemma `x_frame` names the parts of the state that `x` may change; everything else it leaves as it was (`Frame`). -/

set_option Elab.async false

namespace Sys2Proof.Machine

/-! ### Rings -/

/-- What `glbErr` can change. -/
theorem glbErr_frame : ∀ x0 x1, Frame [.glb] x0 (glbErr x0 x1) := by
  intro x0 x1
  unfold glbErr
  exact Frame.upd (Frame.refl _ _) rfl rfl

/-- What `createRing` can change. -/
theorem createRing_frame : ∀ x0 x1, Frame [.rings, .ports] x0 (createRing x0 x1) := by
  intro x0 x1
  unfold createRing
  extract_lets +onlyGivenNames -underBinder y1
  try clear_value y1
  extract_lets +onlyGivenNames -underBinder y2
  have hy2 : Frame [.rings, .ports] x0 y2 := (State.modRing_frame _ _ _).mono rfl
  try clear_value y2
  refine Frame.ite ?_ ?_
  · exact Frame.step (by assumption) (State.modPort_frame _ _ _) (by rfl)
  · assumption

/-- What `ringCreate` can change. -/
theorem ringCreate_frame : ∀ x0 x1 x2, Frame [.link, .rings, .cnt, .waiting, .parked, .ports, .sp, .spr, .out] x2 (ringCreate x0 x1 x2) := by
  intro x0 x1 x2
  unfold ringCreate
  refine plainCmd_frame _ _ _ _ _ _ _ (by rfl) ?_
  exact (createRing_frame _ _).mono rfl

/-- What `resumeRing` can change. -/
theorem resumeRing_frame : ∀ x0 x1, Frame [.rings] x0 (resumeRing x0 x1) := by
  intro x0 x1
  unfold resumeRing
  exact (State.modRing_frame _ _ _).mono rfl

/-- What `enableRing` can change. -/
theorem enableRing_frame : ∀ x0 x1, Frame [.rings, .ports] x0 (enableRing x0 x1) := by
  intro x0 x1
  unfold enableRing
  extract_lets +onlyGivenNames -underBinder y1
  try clear_value y1
  extract_lets +onlyGivenNames -underBinder y2
  try clear_value y2
  split
  · exact (createRing_frame _ _).mono rfl
  · exact (State.modRing_frame _ _ _).mono rfl

/-- What `ringCtrlWrite` can change. -/
theorem ringCtrlWrite_frame : ∀ x0 x1 x2, Frame [.glb, .rings, .ports] x2 (ringCtrlWrite x0 x1 x2) := by
  intro x0 x1 x2
  unfold ringCtrlWrite
  extract_lets +onlyGivenNames -underBinder y1
  try clear_value y1
  extract_lets +onlyGivenNames -underBinder y2
  try clear_value y2
  extract_lets +onlyGivenNames -underBinder y3
  try clear_value y3
  extract_lets +onlyGivenNames -underBinder y4
  try clear_value y4
  extract_lets +onlyGivenNames -underBinder y5
  try clear_value y5
  refine Frame.ite ?_ ?_
  · extract_lets +onlyGivenNames -underBinder y6
    have hy6 : Frame [.glb, .rings, .ports] x2 y6 := (State.modRing_frame _ _ _).mono rfl
    try clear_value y6
    refine Frame.ite ?_ ?_
    · exact Frame.step (by assumption) (enableRing_frame _ _) (by rfl)
    · assumption
  · extract_lets +onlyGivenNames -underBinder y7
    try clear_value y7
    extract_lets +onlyGivenNames -underBinder y8
    have hy8 : Frame [.glb, .rings, .ports] x2 y8 := by
      refine Frame.ite ?_ ?_
      · exact Frame.refl _ _
      · exact (glbErr_frame _ _).mono rfl
    try clear_value y8
    refine Frame.ite ?_ ?_
    · exact Frame.step (by assumption) (resumeRing_frame _ _) (by rfl)
    · assumption

/-- What `ringCfgWrite` can change. -/
theorem ringCfgWrite_frame : ∀ x0 x1 x2, Frame [.glb, .rings] x0 (ringCfgWrite x0 x1 x2) := by
  intro x0 x1 x2
  unfold ringCfgWrite
  extract_lets +onlyGivenNames -underBinder y1
  try clear_value y1
  refine Frame.ite ?_ ?_
  · exact (State.modRing_frame _ _ _).mono rfl
  · refine Frame.ite ?_ ?_
    · exact Frame.refl _ _
    · exact (glbErr_frame _ _).mono rfl

/-- What `ringTailWrite` can change. -/
theorem ringTailWrite_frame : ∀ x0 x1 x2, Frame [.glb, .rings] x2 (ringTailWrite x0 x1 x2) := by
  intro x0 x1 x2
  unfold ringTailWrite
  extract_lets +onlyGivenNames -underBinder y1
  try clear_value y1
  extract_lets +onlyGivenNames -underBinder y2
  try clear_value y2
  refine Frame.ite ?_ ?_
  · exact (glbErr_frame _ _).mono rfl
  · exact (State.modRing_frame _ _ _).mono rfl

/-- What `ringHeadWrite` can change. -/
theorem ringHeadWrite_frame : ∀ x0 x1 x2, Frame [.glb, .rings] x2 (ringHeadWrite x0 x1 x2) := by
  intro x0 x1 x2
  unfold ringHeadWrite
  extract_lets +onlyGivenNames -underBinder y1
  try clear_value y1
  extract_lets +onlyGivenNames -underBinder y2
  try clear_value y2
  extract_lets +onlyGivenNames -underBinder y3
  try clear_value y3
  refine Frame.ite ?_ ?_
  · exact (glbErr_frame _ _).mono rfl
  · exact (State.modRing_frame _ _ _).mono rfl

/-- What `ringTailRead` can change. -/
theorem ringTailRead_frame : ∀ x0 x1, Frame [.out] x1 (ringTailRead x0 x1) := by
  intro x0 x1
  unfold ringTailRead
  exact (State.emit_frame _ _).mono rfl

/-- What `cmdRead` can change. -/
theorem cmdRead_frame : ∀ s c e, Frame [.link, .rings, .cnt, .waiting, .parked, .sp, .spr, .out] s (cmdRead s c e) := by
  intro s c e
  unfold cmdRead
  refine Frame.ite ?_ (Frame.refl _ _)
  split
  · rename_i h
    exact (readEntry_wait_frame h).mono rfl
  · rename_i h
    exact Frame.step (Frame.step ((readEntry_got_frame h).mono rfl) (State.modRing_frame _ _ _) (by rfl)) (acceptEntry_frame _ _ _) (by rfl)

/-- What `cmdFetch` can change. -/
theorem cmdFetch_frame : ∀ x0 x1 x2, Frame [.link, .rings, .cnt, .waiting, .parked, .sp, .spr, .out] x2 (cmdFetch x0 x1 x2) := by
  intro x0 x1 x2
  unfold cmdFetch
  refine Frame.ite ?_ ?_
  · exact (cmdRead_frame _ _ _).mono rfl
  · exact Frame.refl _ _

/-- What `gdmaOver` can change. -/
theorem gdmaOver_frame : ∀ x0 x1 x2 x3 x4, Frame [.link, .rings, .cnt, .parked, .gdma, .out] x0 (gdmaOver x0 x1 x2 x3 x4) := by
  intro x0 x1 x2 x3 x4
  unfold gdmaOver
  extract_lets +onlyGivenNames -underBinder y1
  have hy1 : Frame [.link, .rings, .cnt, .parked, .gdma, .out] x0 y1 := by
    refine Frame.ite ?_ ?_
    · exact Frame.refl _ _
    · exact (writeCpl_frame _ _ _ _ _ _ _).mono rfl
  try clear_value y1
  extract_lets +onlyGivenNames -underBinder y2
  have hy2 : Frame [.link, .rings, .cnt, .parked, .gdma, .out] x0 y2 := Frame.step (by assumption) (State.modRing_frame _ _ _) (by rfl)
  try clear_value y2
  exact Frame.upd (by assumption) rfl rfl

/-- What `State.gdmaRead` can change. -/
theorem State.gdmaRead_frame : ∀ x0 x1 x2 x3 x4 x5, Frame [.parked, .out] x0 (State.gdmaRead x0 x1 x2 x3 x4 x5) := by
  intro x0 x1 x2 x3 x4 x5
  unfold State.gdmaRead
  exact (State.request_frame _ _).mono rfl

/-- What `gdmaStart` can change. -/
theorem gdmaStart_frame : ∀ x0 x1 x2, Frame [.link, .rings, .cnt, .parked, .gdma, .out, .nextId] x0 (gdmaStart x0 x1 x2) := by
  intro x0 x1 x2
  unfold gdmaStart
  extract_lets +onlyGivenNames -underBinder y1
  try clear_value y1
  split
  · extract_lets +onlyGivenNames -underBinder y2
    have hy2 : Frame [.link, .rings, .cnt, .parked, .gdma, .out, .nextId] x0 y2 := (gdmaOver_frame _ _ _ _ _).mono rfl
    try clear_value y2
    refine Frame.ite ?_ ?_
    · exact Frame.step (by assumption) (haltRing_frame _ _ _) (by rfl)
    · assumption
  · extract_lets +onlyGivenNames -underBinder y3
    have hy3 : Frame [.link, .rings, .cnt, .parked, .gdma, .out, .nextId] x0 y3 := Frame.upd (Frame.refl _ _) rfl rfl
    try clear_value y3
    refine Frame.ite ?_ ?_
    · exact Frame.step (by assumption) (State.gdmaRead_frame _ _ _ _ _ _) (by rfl)
    · exact Frame.step (by assumption) (State.hostWrite_frame _ _ _) (by rfl)

/-- What `gdmaDescRead` can change. -/
theorem gdmaDescRead_frame : ∀ s c e, Frame [.link, .rings, .cnt, .parked, .gdma, .sp, .spr, .out, .nextId] s (gdmaDescRead s c e) := by
  intro s c e
  unfold gdmaDescRead
  refine Frame.ite ?_ (Frame.refl _ _)
  split
  · rename_i h
    exact (readEntry_wait_frame h).mono rfl
  · rename_i h
    exact Frame.step ((readEntry_got_frame h).mono rfl) (gdmaStart_frame _ _ _) (by rfl)

/-- What `gdmaDescFetch` can change. -/
theorem gdmaDescFetch_frame : ∀ x0 x1 x2, Frame [.link, .rings, .cnt, .parked, .gdma, .sp, .spr, .out, .nextId] x2 (gdmaDescFetch x0 x1 x2) := by
  intro x0 x1 x2
  unfold gdmaDescFetch
  refine Frame.ite ?_ ?_
  · exact (gdmaDescRead_frame _ _ _).mono rfl
  · exact Frame.refl _ _

/-- What `gdmaDone` can change. -/
theorem gdmaDone_frame : ∀ x0 x1 x2 x3, Frame [.link, .rings, .cnt, .parked, .gdma, .page, .out] x0 (gdmaDone x0 x1 x2 x3) := by
  intro x0 x1 x2 x3
  unfold gdmaDone
  extract_lets +onlyGivenNames -underBinder y1
  try clear_value y1
  extract_lets +onlyGivenNames -underBinder y2
  try clear_value y2
  refine Frame.step ?_ (gdmaOver_frame _ _ _ _ _) (by rfl)
  refine Frame.ite ?_ ?_
  · exact (fillRegion_frame _ _ _ _).mono rfl
  · exact Frame.refl _ _

/-- What `catchwordReread` can change. -/
theorem catchwordReread_frame : ∀ x0 x1 x2, Frame [.clk, .tb, .glb, .link, .rings, .cnt, .execs, .waiting, .parked, .gdma, .quires, .ports, .sp, .spr, .mgt, .bg, .out, .nextId] x2 (catchwordReread x0 x1 x2) := by
  intro x0 x1 x2
  unfold catchwordReread
  refine Frame.ite ?_ ?_
  · exact Frame.refl _ _
  · extract_lets +onlyGivenNames -underBinder y1
    have hy1 : Frame [.clk, .tb, .glb, .link, .rings, .cnt, .execs, .waiting, .parked, .gdma, .quires, .ports, .sp, .spr, .mgt, .bg, .out, .nextId] x2 y1 := (rereadNow_frame _ _).mono rfl
    try clear_value y1
    refine Frame.ite ?_ ?_
    · exact Frame.step (by assumption) (descRead_frame _ _ _) (by rfl)
    · refine Frame.ite ?_ ?_
      · exact Frame.step (by assumption) (cmdRead_frame _ _ _) (by rfl)
      · refine Frame.ite ?_ ?_
        · exact Frame.refl _ _
        · exact Frame.step (by assumption) (gdmaDescRead_frame _ _ _) (by rfl)

/-- What `ringDestroy` can change. -/
theorem ringDestroy_frame : ∀ x0 x1 x2, Frame [.link, .rings, .cnt, .execs, .waiting, .parked, .sp, .spr, .out, .nextId] x2 (ringDestroy x0 x1 x2) := by
  intro x0 x1 x2
  unfold ringDestroy
  extract_lets +onlyGivenNames -underBinder y1
  try clear_value y1
  extract_lets +onlyGivenNames -underBinder y2
  try clear_value y2
  refine command_frame _ _ _ _ _ _ _ _ (by rfl) ?_ ?_
  · exact (complete_frame _ _ _ _).mono rfl
  · exact Frame.step ((beginExec_frame _ _ _ _ _ _).mono rfl) (State.modRing_frame _ _ _) (by rfl)

/-- What `ringResume` can change. -/
theorem ringResume_frame : ∀ x0 x1 x2, Frame [.link, .rings, .cnt, .waiting, .parked, .sp, .spr, .out] x2 (ringResume x0 x1 x2) := by
  intro x0 x1 x2
  unfold ringResume
  extract_lets +onlyGivenNames -underBinder y1
  try clear_value y1
  refine plainCmd_frame _ _ _ _ _ _ _ (by rfl) ?_
  exact (resumeRing_frame _ _).mono rfl

/-- What `ringCloseDone` can change. -/
theorem ringCloseDone_frame : ∀ x0 x1, Frame [.link, .rings, .cnt, .execs, .parked, .ports, .sp, .spr, .out] x1 (ringCloseDone x0 x1) := by
  intro x0 x1
  unfold ringCloseDone
  refine Frame.ite ?_ ?_
  · exact Frame.refl _ _
  · extract_lets +onlyGivenNames -underBinder y1
    have hy1 : Frame [.link, .rings, .cnt, .execs, .parked, .ports, .sp, .spr, .out] x1 y1 := (endAll_frame _ _ _ _).mono rfl
    try clear_value y1
    extract_lets +onlyGivenNames -underBinder y2
    have hy2 : Frame [.link, .rings, .cnt, .execs, .parked, .ports, .sp, .spr, .out] x1 y2 := Frame.step (by assumption) (State.modRing_frame _ _ _) (by rfl)
    try clear_value y2
    refine Frame.ite ?_ ?_
    · exact Frame.step (by assumption) (State.modPort_frame _ _ _) (by rfl)
    · assumption

/-- What `msixHoldoffEnd` can change. -/
theorem msixHoldoffEnd_frame : ∀ x0 x1, Frame [.clk, .tb, .link, .rings, .cnt, .out] x1 (msixHoldoffEnd x0 x1) := by
  intro x0 x1
  unfold msixHoldoffEnd
  extract_lets +onlyGivenNames -underBinder y1
  try clear_value y1
  refine Frame.ite ?_ ?_
  · exact Frame.refl _ _
  · extract_lets +onlyGivenNames -underBinder y2
    have hy2 : Frame [.clk, .tb, .link, .rings, .cnt, .out] x1 y2 := (State.advanceTo_frame _ _).mono rfl
    try clear_value y2
    exact Frame.step (Frame.step (by assumption) (State.modRing_frame _ _ _) (by rfl)) (sendMsix_frame _ _) (by rfl)

/-! ### Sys -/

/-- What `nop` can change. -/
theorem nop_frame : ∀ x0 x1 x2, Frame [.link, .rings, .cnt, .waiting, .parked, .sp, .spr, .out] x2 (nop x0 x1 x2) := by
  intro x0 x1 x2
  unfold nop
  extract_lets +onlyGivenNames -underBinder y1
  have hy1 : ∀ a0y1, Frame [.link, .rings, .cnt, .waiting, .parked, .sp, .spr, .out] a0y1 (y1 a0y1) := by
    intro a0y1
    unfold y1
    exact (complete_frame _ _ _ _).mono rfl
  try clear_value y1
  refine command_frame _ _ _ _ _ _ _ _ (by rfl) ?_ ?_
  · exact hy1 _
  · exact hy1 _

/-- What `getInfo` can change. -/
theorem getInfo_frame : ∀ x0 x1 x2, Frame [.link, .rings, .cnt, .waiting, .parked, .sp, .spr, .mgt, .out] x2 (getInfo x0 x1 x2) := by
  intro x0 x1 x2
  unfold getInfo
  extract_lets +onlyGivenNames -underBinder y1
  try clear_value y1
  exact reportCmd_frame _ _ _ _ _ _ _ _ _ (by rfl)

/-- What `setProfile` can change. -/
theorem setProfile_frame : ∀ x0 x1 x2, Frame [.glb, .link, .rings, .cnt, .waiting, .parked, .sp, .spr, .out] x2 (setProfile x0 x1 x2) := by
  intro x0 x1 x2
  unfold setProfile
  extract_lets +onlyGivenNames -underBinder y1
  try clear_value y1
  extract_lets +onlyGivenNames -underBinder y2
  try clear_value y2
  extract_lets +onlyGivenNames -underBinder y3
  try clear_value y3
  extract_lets +onlyGivenNames -underBinder y4
  try clear_value y4
  refine plainCmd_frame _ _ _ _ _ _ _ (by rfl) ?_
  exact Frame.upd (Frame.refl _ _) rfl rfl

/-- What `selfReset` can change. -/
theorem selfReset_frame : ∀ x0 x1 x2, Frame [.link, .rings, .cnt, .waiting, .parked, .sp, .spr, .rst, .out] x2 (selfReset x0 x1 x2) := by
  intro x0 x1 x2
  unfold selfReset
  refine command_frame _ _ _ _ _ _ _ _ (by rfl) ?_ ?_
  · exact (complete_frame _ _ _ _).mono rfl
  · extract_lets +onlyGivenNames -underBinder y1
    have hy1 : Frame [.link, .rings, .cnt, .waiting, .parked, .sp, .spr, .rst, .out] x2 y1 := (complete_frame _ _ _ _).mono rfl
    try clear_value y1
    exact Frame.upd (by assumption) rfl rfl

/-- What `setTime` can change. -/
theorem setTime_frame : ∀ x0 x1 x2, Frame [.tb, .link, .rings, .cnt, .waiting, .parked, .sp, .spr, .out] x2 (setTime x0 x1 x2) := by
  intro x0 x1 x2
  unfold setTime
  extract_lets +onlyGivenNames -underBinder y1
  try clear_value y1
  extract_lets +onlyGivenNames -underBinder y2
  try clear_value y2
  refine command_frame _ _ _ _ _ _ _ _ (by rfl) ?_ ?_
  · exact (complete_frame _ _ _ _).mono rfl
  · refine Frame.step ?_ (complete_frame _ _ _ _) (by rfl)
    exact Frame.upd (Frame.refl _ _) rfl rfl

/-- What `getCounters` can change. -/
theorem getCounters_frame : ∀ x0 x1 x2, Frame [.link, .rings, .cnt, .waiting, .parked, .sp, .spr, .mgt, .out] x2 (getCounters x0 x1 x2) := by
  intro x0 x1 x2
  unfold getCounters
  extract_lets +onlyGivenNames -underBinder y1
  try clear_value y1
  refine command_frame _ _ _ _ _ _ _ _ (by rfl) ?_ ?_
  · exact (complete_frame _ _ _ _).mono rfl
  · extract_lets +onlyGivenNames -underBinder y2
    have hy2 : Frame [.link, .rings, .cnt, .waiting, .parked, .sp, .spr, .mgt, .out] x2 y2 := (writeOut_frame _ _ _ _).mono rfl
    try clear_value y2
    refine Frame.step ?_ (complete_frame _ _ _ _) (by rfl)
    refine Frame.ite ?_ ?_
    · exact Frame.upd (by assumption) rfl rfl
    · assumption

/-- What `testPattern` can change. -/
theorem testPattern_frame : ∀ x0 x1 x2, Frame [.link, .rings, .cnt, .waiting, .parked, .ports, .sp, .spr, .out] x2 (testPattern x0 x1 x2) := by
  intro x0 x1 x2
  unfold testPattern
  extract_lets +onlyGivenNames -underBinder y1
  try clear_value y1
  extract_lets +onlyGivenNames -underBinder y2
  try clear_value y2
  extract_lets +onlyGivenNames -underBinder y3
  try clear_value y3
  extract_lets +onlyGivenNames -underBinder y4
  try clear_value y4
  extract_lets +onlyGivenNames -underBinder y5
  try clear_value y5
  extract_lets +onlyGivenNames -underBinder y6
  try clear_value y6
  refine plainCmd_frame _ _ _ _ _ _ _ (by rfl) ?_
  exact (State.modPort_frame _ _ _).mono rfl

/-- What `setRoutes` can change. -/
theorem setRoutes_frame : ∀ x0 x1, Frame [.routes, .telRoute] x0 (setRoutes x0 x1) := by
  intro x0 x1
  unfold setRoutes
  extract_lets +onlyGivenNames -underBinder y1
  try clear_value y1
  extract_lets +onlyGivenNames -underBinder y2
  try clear_value y2
  extract_lets +onlyGivenNames -underBinder y3
  try clear_value y3
  refine Frame.ite ?_ ?_
  · exact Frame.refl _ _
  · refine Frame.ite ?_ ?_
    all_goals
      exact Frame.upd (Frame.refl _ _) rfl rfl

/-- What `eventConfig` can change. -/
theorem eventConfig_frame : ∀ x0 x1 x2, Frame [.link, .rings, .cnt, .routes, .telRoute, .waiting, .parked, .sp, .spr, .out] x2 (eventConfig x0 x1 x2) := by
  intro x0 x1 x2
  unfold eventConfig
  extract_lets +onlyGivenNames -underBinder y1
  try clear_value y1
  extract_lets +onlyGivenNames -underBinder y2
  try clear_value y2
  extract_lets +onlyGivenNames -underBinder y3
  try clear_value y3
  extract_lets +onlyGivenNames -underBinder y4
  try clear_value y4
  extract_lets +onlyGivenNames -underBinder y5
  try clear_value y5
  extract_lets +onlyGivenNames -underBinder y6
  have hy6 : ∀ a0y6, Frame [.link, .rings, .cnt, .routes, .telRoute, .waiting, .parked, .sp, .spr, .out] a0y6 (y6 a0y6) := by
    intro a0y6
    unfold y6
    exact (complete_frame _ _ _ _).mono rfl
  try clear_value y6
  refine command_frame _ _ _ _ _ _ _ _ (by rfl) ?_ ?_
  · exact hy6 _
  · exact Frame.step ((setRoutes_frame _ _).mono rfl) (complete_frame _ _ _ _) (by rfl)

/-! ### Firmware -/

/-- What `flashStart` can change. -/
theorem flashStart_frame : ∀ x0 x1, Frame [.flash, .out] x0 (flashStart x0 x1) := by
  intro x0 x1
  unfold flashStart
  extract_lets +onlyGivenNames -underBinder y1
  try clear_value y1
  extract_lets +onlyGivenNames -underBinder y2
  have hy2 : Frame [.flash, .out] x0 y2 := Frame.upd (Frame.refl _ _) rfl rfl
  try clear_value y2
  split
  · exact Frame.step (Frame.step (by assumption) (State.emit_frame _ _) (by rfl)) (State.emit_frame _ _) (by rfl)
  · extract_lets +onlyGivenNames -underBinder y3
    try clear_value y3
    extract_lets +onlyGivenNames -underBinder y4
    have hy4 : Frame [.flash, .out] x0 y4 := Frame.upd (by assumption) rfl rfl
    try clear_value y4
    exact Frame.step (Frame.step (by assumption) (State.emit_frame _ _) (by rfl)) (State.emit_frame _ _) (by rfl)

/-- What `endById` can change. -/
theorem endById_frame : ∀ x0 x1 x2 x3, Frame [.link, .rings, .cnt, .execs, .parked, .sp, .spr, .out] x0 (endById x0 x1 x2 x3) := by
  intro x0 x1 x2 x3
  unfold endById
  split
  · exact (endExec_frame _ _ _ _).mono rfl
  · exact Frame.refl _ _

/-- What `advanceAr` can change. -/
theorem advanceAr_frame : ∀ x0 x1, Frame [.link, .rings, .cnt, .execs, .parked, .sp, .spr, .otp, .out] x0 (advanceAr x0 x1) := by
  intro x0 x1
  unfold advanceAr
  refine Frame.ite ?_ ?_
  · exact (endById_frame _ _ _ _).mono rfl
  · refine Frame.ite ?_ ?_
    · exact (endById_frame _ _ _ _).mono rfl
    · exact Frame.step ((State.modExec_frame _ _ _).mono rfl) (otpStart_frame _ _) (by rfl)

/-- What `flashWriteDone` can change. -/
theorem flashWriteDone_frame : ∀ x0 x1, Frame [.link, .rings, .cnt, .execs, .parked, .sp, .spr, .rst, .flash, .otp, .out] x1 (flashWriteDone x0 x1) := by
  intro x0 x1
  unfold flashWriteDone
  refine Frame.ite ?_ ?_
  · exact Frame.refl _ _
  · split
    · exact Frame.refl _ _
    · extract_lets +onlyGivenNames -underBinder y1
      try clear_value y1
      extract_lets +onlyGivenNames -underBinder y2
      have hy2 : Frame [.link, .rings, .cnt, .execs, .parked, .sp, .spr, .rst, .flash, .otp, .out] x1 y2 := Frame.upd (Frame.refl _ _) rfl rfl
      try clear_value y2
      refine Frame.ite ?_ ?_
      · exact Frame.step (Frame.step (Frame.step (by assumption) (State.setFwSlot_frame _ _ _) (by rfl)) (State.emit_frame _ _) (by rfl)) (endById_frame _ _ _ _) (by rfl)
      · exact Frame.step (Frame.step (by assumption) (State.setFwSlot_frame _ _ _) (by rfl)) (endById_frame _ _ _ _) (by rfl)
    · extract_lets +onlyGivenNames -underBinder y3
      try clear_value y3
      extract_lets +onlyGivenNames -underBinder y4
      have hy4 : Frame [.link, .rings, .cnt, .execs, .parked, .sp, .spr, .rst, .flash, .otp, .out] x1 y4 := Frame.upd (Frame.refl _ _) rfl rfl
      try clear_value y4
      refine Frame.ite ?_ ?_
      · exact Frame.step (by assumption) (endById_frame _ _ _ _) (by rfl)
      · extract_lets +onlyGivenNames -underBinder y5
        try clear_value y5
        extract_lets +onlyGivenNames -underBinder y6
        have hy6 : Frame [.link, .rings, .cnt, .execs, .parked, .sp, .spr, .rst, .flash, .otp, .out] x1 y6 := Frame.upd (by assumption) rfl rfl
        try clear_value y6
        refine Frame.ite ?_ ?_
        · extract_lets +onlyGivenNames -underBinder y7
          try clear_value y7
          extract_lets +onlyGivenNames -underBinder y8
          have hy8 : Frame [.link, .rings, .cnt, .execs, .parked, .sp, .spr, .rst, .flash, .otp, .out] x1 y8 := Frame.upd (by assumption) rfl rfl
          try clear_value y8
          refine Frame.ite ?_ ?_
          · exact Frame.step (by assumption) (advanceAr_frame _ _) (by rfl)
          · exact Frame.step (by assumption) (endById_frame _ _ _ _) (by rfl)
        · exact Frame.step (by assumption) (endById_frame _ _ _ _) (by rfl)

/-- What `flashPauseTimeout` can change. -/
theorem flashPauseTimeout_frame : ∀ x0, Frame [.clk, .tb, .link, .rings, .cnt, .execs, .parked, .sp, .spr, .flash, .out] x0 (flashPauseTimeout x0) := by
  intro x0
  unfold flashPauseTimeout
  split
  · extract_lets +onlyGivenNames -underBinder y1
    have hy1 : Frame [.clk, .tb, .link, .rings, .cnt, .execs, .parked, .sp, .spr, .flash, .out] x0 y1 := (State.advanceTo_frame _ _).mono rfl
    try clear_value y1
    refine Frame.step ?_ (endById_frame _ _ _ _) (by rfl)
    refine Frame.step ?_ (State.setFwSlot_frame _ _ _) (by rfl)
    exact Frame.upd (by assumption) rfl rfl
  · exact Frame.refl _ _

/-- What `fwStage` can change. -/
theorem fwStage_frame : ∀ x0 x1 x2, Frame [.link, .rings, .cnt, .execs, .waiting, .parked, .sp, .spr, .flash, .out, .nextId] x2 (fwStage x0 x1 x2) := by
  intro x0 x1 x2
  unfold fwStage
  extract_lets +onlyGivenNames -underBinder y1
  try clear_value y1
  extract_lets +onlyGivenNames -underBinder y2
  try clear_value y2
  extract_lets +onlyGivenNames -underBinder y3
  try clear_value y3
  extract_lets +onlyGivenNames -underBinder y4
  try clear_value y4
  refine command_frame _ _ _ _ _ _ _ _ (by rfl) ?_ ?_
  · exact (beginRead_frame _ _ _ _ _ _ _).mono rfl
  · extract_lets +onlyGivenNames -underBinder y5
    have hy5 : Frame [.link, .rings, .cnt, .execs, .waiting, .parked, .sp, .spr, .flash, .out, .nextId] x2 y5 := by
      refine Frame.ite ?_ ?_
      · exact Frame.refl _ _
      · exact (State.emit_frame _ _).mono rfl
    try clear_value y5
    exact Frame.step (Frame.step (by assumption) (State.setFwSlot_frame _ _ _) (by rfl)) (beginRead_frame _ _ _ _ _ _ _) (by rfl)

/-- What `fwStaged` can change. -/
theorem fwStaged_frame : ∀ x0 x1 x2, Frame [.link, .rings, .cnt, .execs, .parked, .sp, .spr, .flash, .out] x0 (fwStaged x0 x1 x2) := by
  intro x0 x1 x2
  unfold fwStaged
  extract_lets +onlyGivenNames -underBinder y1
  try clear_value y1
  extract_lets +onlyGivenNames -underBinder y2
  try clear_value y2
  extract_lets +onlyGivenNames -underBinder y3
  try clear_value y3
  refine Frame.ite ?_ ?_
  · exact (endExec_frame _ _ _ _).mono rfl
  · refine Frame.ite ?_ ?_
    · exact Frame.step ((State.setFwSlot_frame _ _ _).mono rfl) (endExec_frame _ _ _ _) (by rfl)
    · refine Frame.ite ?_ ?_
      · exact Frame.step ((State.setFwSlot_frame _ _ _).mono rfl) (endExec_frame _ _ _ _) (by rfl)
      · exact Frame.step ((State.modExec_frame _ _ _).mono rfl) (flashStart_frame _ _) (by rfl)

/-- What `markVerified` can change. -/
theorem markVerified_frame : ∀ x0 x1, Frame [.flash] x0 (markVerified x0 x1) := by
  intro x0 x1
  unfold markVerified
  extract_lets +onlyGivenNames -underBinder y1
  try clear_value y1
  refine Frame.ite ?_ ?_
  · exact (State.setFwSlot_frame _ _ _).mono rfl
  · exact Frame.refl _ _

/-- What `fwVerify` can change. -/
theorem fwVerify_frame : ∀ x0 x1 x2, Frame [.link, .rings, .cnt, .waiting, .parked, .sp, .spr, .flash, .out] x2 (fwVerify x0 x1 x2) := by
  intro x0 x1 x2
  unfold fwVerify
  extract_lets +onlyGivenNames -underBinder y1
  try clear_value y1
  extract_lets +onlyGivenNames -underBinder y2
  try clear_value y2
  extract_lets +onlyGivenNames -underBinder y3
  try clear_value y3
  extract_lets +onlyGivenNames -underBinder y4
  have hy4 : ∀ a0y4, Frame [.link, .rings, .cnt, .waiting, .parked, .sp, .spr, .flash, .out] a0y4 (y4 a0y4) := by
    intro a0y4
    unfold y4
    exact (complete_frame _ _ _ _).mono rfl
  try clear_value y4
  refine command_frame _ _ _ _ _ _ _ _ (by rfl) ?_ ?_
  · exact hy4 _
  · refine Frame.trans ?_ (hy4 _)
    refine Frame.ite ?_ ?_
    · exact (markVerified_frame _ _).mono rfl
    · exact Frame.refl _ _

/-- What `bootImage` can change. -/
theorem bootImage_frame : ∀ x0 x1 x2, Frame [.rst, .flash, .mgt] x0 (bootImage x0 x1 x2) := by
  intro x0 x1 x2
  unfold bootImage
  extract_lets +onlyGivenNames -underBinder y1
  have hy1 : Frame [.rst, .flash, .mgt] x0 y1 := (State.setFwSlot_frame _ _ _).mono rfl
  try clear_value y1
  extract_lets +onlyGivenNames -underBinder y2
  have hy2 : Frame [.rst, .flash, .mgt] x0 y2 := Frame.step (Frame.step (by assumption) (measure_frame _ _ _ _) (by rfl)) (measure_frame _ _ _ _) (by rfl)
  try clear_value y2
  exact Frame.upd (by assumption) rfl rfl

/-- What `selectSlot` can change. -/
theorem selectSlot_frame : ∀ x0 x1 x2 x3, Frame [.execs, .flash, .out, .nextId] x0 (selectSlot x0 x1 x2 x3) := by
  intro x0 x1 x2 x3
  unfold selectSlot
  extract_lets +onlyGivenNames -underBinder y1
  try clear_value y1
  extract_lets +onlyGivenNames -underBinder y2
  try clear_value y2
  exact Frame.step (Frame.step ((markVerified_frame _ _).mono rfl) (beginExec_frame _ _ _ _ _ _) (by rfl)) (flashStart_frame _ _) (by rfl)

/-- What `confirmTrial` can change. -/
theorem confirmTrial_frame : ∀ x0 x1 x2 x3, Frame [.execs, .flash, .out, .nextId] x0 (confirmTrial x0 x1 x2 x3) := by
  intro x0 x1 x2 x3
  unfold confirmTrial
  extract_lets +onlyGivenNames -underBinder y1
  try clear_value y1
  extract_lets +onlyGivenNames -underBinder y2
  try clear_value y2
  exact Frame.step ((beginExec_frame _ _ _ _ _ _).mono rfl) (flashStart_frame _ _) (by rfl)

/-- What `fwActivate` can change. -/
theorem fwActivate_frame : ∀ x0 x1 x2, Frame [.link, .rings, .cnt, .execs, .waiting, .parked, .sp, .spr, .rst, .flash, .mgt, .out, .nextId] x2 (fwActivate x0 x1 x2) := by
  intro x0 x1 x2
  unfold fwActivate
  extract_lets +onlyGivenNames -underBinder y1
  try clear_value y1
  extract_lets +onlyGivenNames -underBinder y2
  try clear_value y2
  extract_lets +onlyGivenNames -underBinder y3
  try clear_value y3
  extract_lets +onlyGivenNames -underBinder y4
  try clear_value y4
  extract_lets +onlyGivenNames -underBinder y5
  try clear_value y5
  extract_lets +onlyGivenNames -underBinder y6
  try clear_value y6
  extract_lets +onlyGivenNames -underBinder y7
  try clear_value y7
  extract_lets +onlyGivenNames -underBinder y8
  try clear_value y8
  refine command_frame _ _ _ _ _ _ _ _ (by rfl) ?_ ?_
  · exact (complete_frame _ _ _ _).mono rfl
  · refine Frame.ite ?_ ?_
    · exact (selectSlot_frame _ _ _ _).mono rfl
    · refine Frame.ite ?_ ?_
      · split
        · exact (confirmTrial_frame _ _ _ _).mono rfl
        · exact Frame.refl _ _
      · exact Frame.step ((complete_frame _ _ _ _).mono rfl) (bootImage_frame _ _ _) (by rfl)

/-- What `fwQuery` can change. -/
theorem fwQuery_frame : ∀ x0 x1 x2, Frame [.link, .rings, .cnt, .waiting, .parked, .sp, .spr, .mgt, .out, .draws] x2 (fwQuery x0 x1 x2) := by
  intro x0 x1 x2
  unfold fwQuery
  extract_lets +onlyGivenNames -underBinder y1
  try clear_value y1
  refine command_frame _ _ _ _ _ _ _ _ (by rfl) ?_ ?_
  · exact (complete_frame _ _ _ _).mono rfl
  · exact Frame.step (Frame.step ((writeOut_frame _ _ _ _).mono rfl) (State.draw_frame _) (by rfl)) (complete_frame _ _ _ _) (by rfl)

/-! ### Boot -/

/-- What `cleared` can change. -/
theorem cleared_frame : ∀ s core, Frame Part.every s (cleared s core) := fun _ _ => Frame.anew rfl rfl rfl (fun _ => rfl)

/-- What `outputsOff` can change. -/
theorem outputsOff_frame : ∀ x0, Frame [.out] x0 (outputsOff x0) := by
  intro x0
  unfold outputsOff
  refine Frame.ite ?_ ?_
  · exact Frame.refl _ _
  · refine Frame.step ?_ (State.emit_frame _ _) (by rfl)
    refine forAll_frame ?_ (fun t1 _ => ?_)
    · exact Frame.refl _ _
    · refine Frame.ite ?_ ?_
      · exact Frame.refl _ _
      · exact Frame.step (Frame.step ((State.emit_frame _ _).mono rfl) (State.emit_frame _ _) (by rfl)) (State.emit_frame _ _) (by rfl)

/-- What `noteSource` can change. -/
theorem noteSource_frame : ∀ x0 x1 x2, Frame [.rst] x0 (noteSource x0 x1 x2) := by
  intro x0 x1 x2
  unfold noteSource
  exact Frame.upd (Frame.refl _ _) rfl rfl

/-- What `enterHeld` can change. -/
theorem enterHeld_frame : ∀ x0 x1, Frame Part.every x0 (enterHeld x0 x1) := by
  intro x0 x1
  unfold enterHeld
  extract_lets +onlyGivenNames -underBinder y1
  have hy1 : Frame Part.every x0 y1 := Frame.step (Frame.step ((outputsOff_frame _).mono rfl) (otpCut_frame _) (by rfl)) (cleared_frame _ _) (by rfl)
  try clear_value y1
  exact Frame.upd (by assumption) rfl rfl

/-- What `assertReset` can change. -/
theorem assertReset_frame : ∀ x0 x1 x2, Frame Part.every x0 (assertReset x0 x1 x2) := by
  intro x0 x1 x2
  unfold assertReset
  exact Frame.step ((noteSource_frame _ _ _).mono rfl) (enterHeld_frame _ _) (by rfl)

/-- What `selfDrive` can change. -/
theorem selfDrive_frame : ∀ x0 x1 x2, Frame Part.every x0 (selfDrive x0 x1 x2) := by
  intro x0 x1 x2
  unfold selfDrive
  extract_lets +onlyGivenNames -underBinder y1
  have hy1 : Frame Part.every x0 y1 := (assertReset_frame _ _ _).mono rfl
  try clear_value y1
  refine Frame.step ?_ (State.emit_frame _ _) (by rfl)
  exact Frame.upd (by assumption) rfl rfl

/-- What `startStretch` can change. -/
theorem startStretch_frame : ∀ x0, Frame [.rst, .out] x0 (startStretch x0) := by
  intro x0
  unfold startStretch
  refine Frame.step ?_ (State.emit_frame _ _) (by rfl)
  exact Frame.upd (Frame.refl _ _) rfl rfl

/-- What `releaseSources` can change. -/
theorem releaseSources_frame : ∀ x0 x1, Frame [.rst, .out] x0 (releaseSources x0 x1) := by
  intro x0 x1
  unfold releaseSources
  extract_lets +onlyGivenNames -underBinder y1
  try clear_value y1
  extract_lets +onlyGivenNames -underBinder y2
  try clear_value y2
  extract_lets +onlyGivenNames -underBinder y3
  have hy3 : Frame [.rst, .out] x0 y3 := Frame.upd (Frame.refl _ _) rfl rfl
  try clear_value y3
  refine Frame.ite ?_ ?_
  · exact Frame.step (by assumption) (startStretch_frame _) (by rfl)
  · assumption

/-- What `vbatPowerOn` can change. -/
theorem vbatPowerOn_frame : ∀ x0, Frame [.rst] x0 (vbatPowerOn x0) := by
  intro x0
  unfold vbatPowerOn
  exact Frame.upd (Frame.refl _ _) rfl rfl

/-- What `corePor` can change. -/
theorem corePor_frame : ∀ x0, Frame Part.every x0 (corePor x0) := by
  intro x0
  unfold corePor
  extract_lets +onlyGivenNames -underBinder y1
  try clear_value y1
  refine Frame.step ?_ (enterHeld_frame _ _) (by rfl)
  exact Frame.upd (Frame.refl _ _) rfl rfl

/-- What `pinReset` can change. -/
theorem pinReset_frame : ∀ x0, Frame Part.every x0 (pinReset x0) := by
  intro x0
  unfold pinReset
  refine Frame.ite ?_ ?_
  · exact Frame.refl _ _
  · exact (assertReset_frame _ _ _).mono rfl

/-- What `watchdogExpiry` can change. -/
theorem watchdogExpiry_frame : ∀ x0, Frame Part.every x0 (watchdogExpiry x0) := by
  intro x0
  unfold watchdogExpiry
  refine Frame.ite ?_ ?_
  · exact (selfDrive_frame _ _ _).mono rfl
  · exact Frame.refl _ _

/-- What `selfResetDrive` can change. -/
theorem selfResetDrive_frame : ∀ x0, Frame Part.every x0 (selfResetDrive x0) := by
  intro x0
  unfold selfResetDrive
  split
  · exact Frame.step ((State.advanceTo_frame _ _).mono rfl) (selfDrive_frame _ _ _) (by rfl)
  · exact Frame.refl _ _

/-- What `selfDriveEnd` can change. -/
theorem selfDriveEnd_frame : ∀ x0, Frame [.clk, .tb, .rst, .out] x0 (selfDriveEnd x0) := by
  intro x0
  unfold selfDriveEnd
  split
  · extract_lets +onlyGivenNames -underBinder y1
    have hy1 : Frame [.clk, .tb, .rst, .out] x0 y1 := (State.advanceTo_frame _ _).mono rfl
    try clear_value y1
    refine Frame.step ?_ (releaseSources_frame _ _) (by rfl)
    refine Frame.step ?_ (State.emit_frame _ _) (by rfl)
    exact Frame.upd (by assumption) rfl rfl
  · exact Frame.refl _ _

/-- What `resetSourceRelease` can change. -/
theorem resetSourceRelease_frame : ∀ x0 x1, Frame [.link, .rst, .out] x1 (resetSourceRelease x0 x1) := by
  intro x0 x1
  unfold resetSourceRelease
  refine Frame.ite ?_ ?_
  · exact Frame.refl _ _
  · split
    · exact Frame.refl _ _
    · exact Frame.refl _ _
    · refine Frame.step ?_ (releaseSources_frame _ _) (by rfl)
      exact Frame.upd (Frame.refl _ _) rfl rfl
    · refine Frame.step ?_ (releaseSources_frame _ _) (by rfl)
      refine Frame.ite ?_ ?_
      · exact Frame.refl _ _
      · exact (State.emit_frame _ _).mono rfl
    · exact (releaseSources_frame _ _).mono rfl
    · exact (releaseSources_frame _ _).mono rfl

/-- What `fuseLoadDone` can change. -/
theorem fuseLoadDone_frame : ∀ x0 x1, Frame [.clk, .tb, .glb, .link, .rings, .cnt, .parked, .sp, .spr, .rst, .otp, .mgt, .out, .draws] x1 (fuseLoadDone x0 x1) := by
  intro x0 x1
  unfold fuseLoadDone
  refine Frame.ite ?_ ?_
  · exact Frame.step (Frame.step ((State.draw_frame _).mono rfl) (State.advanceTo_frame _ _) (by rfl)) (fuseLoad_frame _ _) (by rfl)
  · exact Frame.refl _ _

/-- What `stretchEnd` can change. -/
theorem stretchEnd_frame : ∀ x0 x1 x2 x3, Frame Part.every x3 (stretchEnd x0 x1 x2 x3) := by
  intro x0 x1 x2 x3
  unfold stretchEnd
  refine Frame.ite ?_ ?_
  · extract_lets +onlyGivenNames -underBinder y1
    have hy1 : Frame Part.every x3 y1 := Frame.step (Frame.step ((State.advanceTo_frame _ _).mono rfl) (State.emit_frame _ _) (by rfl)) (State.advance_frame _ _) (by rfl)
    try clear_value y1
    refine Frame.ite ?_ ?_
    · exact Frame.upd (by assumption) rfl rfl
    · exact Frame.step (Frame.step (by assumption) (noteSource_frame _ _ _) (by rfl)) (cleared_frame _ _) (by rfl)
  · exact Frame.refl _ _

/-- What `spnuClockLock` can change. -/
theorem spnuClockLock_frame : ∀ x0, Frame [.rst] x0 (spnuClockLock x0) := by
  intro x0
  unfold spnuClockLock
  refine Frame.ite ?_ ?_
  · exact Frame.upd (Frame.refl _ _) rfl rfl
  · exact Frame.refl _ _

/-- What `enterRecovery` can change. -/
theorem enterRecovery_frame : ∀ x0, Frame [.rst] x0 (enterRecovery x0) := by
  intro x0
  unfold enterRecovery
  exact Frame.upd (Frame.refl _ _) rfl rfl

/-- What `tryBoot` can change. -/
theorem tryBoot_frame : ∀ s r l, Frame [.rst, .flash, .mgt] s (tryBoot s r l) := by
  intro s r l
  induction l generalizing s with
  | nil => exact (enterRecovery_frame _).mono rfl
  | cons a l ih =>
    have w : ∀ (t : State) (x : Rst), Frame [.rst, .flash, .mgt] t { t with rst := x } := fun _ _ => Frame.upd (Frame.refl _ _) rfl rfl
    unfold tryBoot
    refine Frame.ite ?_ (Frame.trans (w _ _) (ih _))
    exact Frame.trans ((bootImage_frame _ _ _).mono rfl) (w _ _)

/-- What `bootFlash` can change. -/
theorem bootFlash_frame : ∀ x0, Frame [.rst, .flash, .mgt] x0 (bootFlash x0) := by
  intro x0
  unfold bootFlash
  extract_lets +onlyGivenNames -underBinder y1
  try clear_value y1
  extract_lets +onlyGivenNames -underBinder y2
  try clear_value y2
  extract_lets +onlyGivenNames -underBinder y3
  have hy3 : Frame [.rst, .flash, .mgt] x0 y3 := by
    refine Frame.ite ?_ ?_
    · exact Frame.upd (Frame.refl _ _) rfl rfl
    · exact Frame.refl _ _
  try clear_value y3
  exact Frame.step (by assumption) (tryBoot_frame _ _ _) (by rfl)

/-- What `bootBySource` can change. -/
theorem bootBySource_frame : ∀ x0, Frame [.rst, .flash, .mgt] x0 (bootBySource x0) := by
  intro x0
  unfold bootBySource
  extract_lets +onlyGivenNames -underBinder y1
  try clear_value y1
  refine Frame.ite ?_ ?_
  · exact (enterRecovery_frame _).mono rfl
  · refine Frame.ite ?_ ?_
    · exact (bootFlash_frame _).mono rfl
    · refine Frame.ite ?_ ?_
      · exact (enterRecovery_frame _).mono rfl
      · exact Frame.upd (Frame.refl _ _) rfl rfl

/-- What `pllLock` can change. -/
theorem pllLock_frame : ∀ x0, Frame [.clk, .tb, .th, .sp, .press, .rst, .flash, .mgt] x0 (pllLock x0) := by
  intro x0
  unfold pllLock
  refine Frame.ite ?_ ?_
  · extract_lets +onlyGivenNames -underBinder y1
    have hy1 : Frame [.clk, .tb, .th, .sp, .press, .rst, .flash, .mgt] x0 y1 := (State.advanceTo_frame _ _).mono rfl
    try clear_value y1
    extract_lets +onlyGivenNames -underBinder y2
    try clear_value y2
    extract_lets +onlyGivenNames -underBinder y3
    try clear_value y3
    extract_lets +onlyGivenNames -underBinder y4
    try clear_value y4
    extract_lets +onlyGivenNames -underBinder y5
    try clear_value y5
    extract_lets +onlyGivenNames -underBinder y6
    try clear_value y6
    extract_lets +onlyGivenNames -underBinder y7
    have hy7 : Frame [.clk, .tb, .th, .sp, .press, .rst, .flash, .mgt] x0 y7 := Frame.upd (by assumption) rfl rfl
    try clear_value y7
    refine Frame.ite ?_ ?_
    · assumption
    · exact Frame.step (Frame.step (by assumption) (measure_frame _ _ _ _) (by rfl)) (bootBySource_frame _) (by rfl)
  · exact Frame.refl _ _

/-- What `mainFirmwareReady` can change. -/
theorem mainFirmwareReady_frame : ∀ x0, Frame [.page, .spr, .rst, .mgt, .bg, .out] x0 (mainFirmwareReady x0) := by
  intro x0
  unfold mainFirmwareReady
  refine Frame.ite ?_ ?_
  · extract_lets +onlyGivenNames -underBinder y1
    have hy1 : Frame [.page, .spr, .rst, .mgt, .bg, .out] x0 y1 := by
      refine Frame.step ?_ (measure_frame _ _ _ _) (by rfl)
      exact Frame.step ((measure_frame _ _ _ _).mono rfl) (measure_frame _ _ _ _) (by rfl)
    try clear_value y1
    refine Frame.step ?_ (faultEdge_frame _) (by rfl)
    refine Frame.upd ?_ rfl (by split <;> rfl)
    assumption
  · exact Frame.refl _ _

/-- What `thermalShutdown` can change. -/
theorem thermalShutdown_frame : ∀ x0 x1, Frame Part.every x1 (thermalShutdown x0 x1) := by
  intro x0 x1
  unfold thermalShutdown
  extract_lets +onlyGivenNames -underBinder y1
  try clear_value y1
  refine Frame.ite ?_ ?_
  · exact Frame.refl _ _
  · refine Frame.ite ?_ ?_
    · extract_lets +onlyGivenNames -underBinder y2
      try clear_value y2
      extract_lets +onlyGivenNames -underBinder y3
      have hy3 : Frame Part.every x1 y3 := Frame.upd (Frame.refl _ _) rfl rfl
      try clear_value y3
      extract_lets +onlyGivenNames -underBinder y4
      have hy4 : Frame Part.every x1 y4 := Frame.step (by assumption) (assertReset_frame _ _ _) (by rfl)
      try clear_value y4
      refine Frame.step ?_ (State.emit_frame _ _) (by rfl)
      exact Frame.upd (by assumption) rfl rfl
    · exact Frame.refl _ _

/-! ### HostLink -/

/-- What `cutGdma` can change. -/
theorem cutGdma_frame : ∀ x0 x1, Frame [.page, .draws] x0 (cutGdma x0 x1) := by
  intro x0 x1
  unfold cutGdma
  extract_lets +onlyGivenNames -underBinder y1
  try clear_value y1
  refine Frame.ite ?_ ?_
  · exact (undefSpan_frame _ _ _ _).mono rfl
  · exact Frame.refl _ _

/-- What `loseCommands` can change. -/
theorem loseCommands_frame : ∀ x0, Frame [.link, .rings, .cnt, .execs, .waiting, .parked, .page, .sp, .spr, .flash, .out, .draws] x0 (loseCommands x0) := by
  intro x0
  unfold loseCommands
  extract_lets +onlyGivenNames -underBinder y1
  try clear_value y1
  extract_lets +onlyGivenNames -underBinder y2
  have hy2 : Frame [.link, .rings, .cnt, .execs, .waiting, .parked, .page, .sp, .spr, .flash, .out, .draws] x0 y2 := Frame.upd (Frame.refl _ _) rfl rfl
  try clear_value y2
  refine Frame.step ?_ (endAll_frame _ _ _ _) (by rfl)
  refine Frame.foldl (fun t3 _ => ?_) _ _ ?_
  · exact (cutExec_frame _ _).mono rfl
  · assumption

/-- What `losePart` can change. -/
theorem losePart_frame : ∀ x0 x1, Frame [.sp, .spr, .out] x0 (losePart x0 x1) := by
  intro x0 x1
  unfold losePart
  refine Frame.ite ?_ ?_
  · exact Frame.step ((dropPart_frame _ _).mono rfl) (transferFails_frame _ _ _) (by rfl)
  · exact Frame.refl _ _

/-- What `linkReset` can change. -/
theorem linkReset_frame : ∀ x0 x1, Frame [.glb, .link, .rings, .parked, .gdma, .ports] x0 (linkReset x0 x1) := by
  intro x0 x1
  unfold linkReset
  extract_lets +onlyGivenNames -underBinder y1
  try clear_value y1
  extract_lets +onlyGivenNames -underBinder y2
  try clear_value y2
  extract_lets +onlyGivenNames -underBinder y3
  try clear_value y3
  exact Frame.upd (Frame.refl _ _) rfl rfl

/-- What `perstAbort` can change. -/
theorem perstAbort_frame : ∀ x0, Frame [.glb, .link, .rings, .cnt, .execs, .parked, .quires, .ports, .sp, .spr, .mgt, .bg, .out] x0 (perstAbort x0) := by
  intro x0
  unfold perstAbort
  refine Frame.ite ?_ ?_
  · refine forAll_frame ?_ (fun t1 _ => ?_)
    · exact Frame.refl _ _
    · refine Frame.ite ?_ ?_
      · exact (abortJob_frame _ _ _).mono rfl
      · exact Frame.refl _ _
  · exact Frame.refl _ _

/-- What `perstSource` can change. -/
theorem perstSource_frame : ∀ x0 x1, Frame Part.every x0 (perstSource x0 x1) := by
  intro x0 x1
  unfold perstSource
  refine Frame.ite ?_ ?_
  · exact Frame.refl _ _
  · extract_lets +onlyGivenNames -underBinder y1
    have hy1 : Frame Part.every x0 y1 := (noteSource_frame _ _ _).mono rfl
    try clear_value y1
    refine Frame.ite ?_ ?_
    · exact Frame.step (by assumption) (enterHeld_frame _ _) (by rfl)
    · assumption

/-- What `hostReset` can change. -/
theorem hostReset_frame : ∀ x0 x1, Frame Part.every x1 (hostReset x0 x1) := by
  intro x0 x1
  unfold hostReset
  extract_lets +onlyGivenNames -underBinder y1
  have hy1 : Frame Part.every x1 y1 := by
    refine Frame.foldl (fun t2 _ => ?_) _ _ ?_
    · exact (cutGdma_frame _ _).mono rfl
    · exact Frame.step ((linkReset_frame _ _).mono rfl) (loseCommands_frame _) (by rfl)
  try clear_value y1
  refine Frame.step ?_ (perstSource_frame _ _) (by rfl)
  refine Frame.step ?_ (perstAbort_frame _) (by rfl)
  refine Frame.foldl (fun t3 _ => ?_) _ _ ?_
  · exact (losePart_frame _ _).mono rfl
  · assumption

/-- What `d3hotEntry` can change. -/
theorem d3hotEntry_frame : ∀ x0, Frame [.link] x0 (d3hotEntry x0) := by
  intro x0
  unfold d3hotEntry
  refine Frame.ite ?_ ?_
  · exact Frame.upd (Frame.refl _ _) rfl rfl
  · exact Frame.refl _ _

/-- What `deliverMsix` can change. -/
theorem deliverMsix_frame : ∀ x0, Frame [.link, .cnt, .out] x0 (deliverMsix x0) := by
  intro x0
  unfold deliverMsix
  refine forAll_frame ?_ (fun t1 _ => ?_)
  · exact Frame.refl _ _
  · extract_lets +onlyGivenNames -underBinder y2
    try clear_value y2
    refine Frame.ite ?_ ?_
    · refine Frame.step ?_ (sendMsix_frame _ _) (by rfl)
      exact Frame.upd (Frame.refl _ _) rfl rfl
    · exact Frame.refl _ _

/-- What `unpark` can change. -/
theorem unpark_frame : ∀ x0 x1, Frame [.link, .rings, .cnt, .parked, .out] x0 (unpark x0 x1) := by
  intro x0 x1
  unfold unpark
  split
  · exact (pushEntry_frame _ _ _ _).mono rfl
  · exact (State.emit_frame _ _).mono rfl

/-- What `d0Return` can change. -/
theorem d0Return_frame : ∀ x0, Frame [.link, .rings, .cnt, .parked, .out] x0 (d0Return x0) := by
  intro x0
  unfold d0Return
  refine Frame.ite ?_ ?_
  · refine Frame.step ?_ (deliverMsix_frame _) (by rfl)
    refine Frame.foldl (fun t1 _ => ?_) _ _ ?_
    · exact (unpark_frame _ _).mono rfl
    · exact Frame.upd (Frame.refl _ _) rfl rfl
  · exact Frame.refl _ _

/-- What `serveConfig` can change. -/
theorem serveConfig_frame : ∀ x0, Frame [.out] x0 (serveConfig x0) := by
  intro x0
  unfold serveConfig
  refine Frame.ite ?_ ?_
  · exact Frame.refl _ _
  · exact (State.emit_frame _ _).mono rfl

/-- What `pcieLinkUp` can change. -/
theorem pcieLinkUp_frame : ∀ x0 x1 x2 x3 x4 x5 x6, Frame [.link, .cnt, .out] x6 (pcieLinkUp x0 x1 x2 x3 x4 x5 x6) := by
  intro x0 x1 x2 x3 x4 x5 x6
  unfold pcieLinkUp
  refine Frame.ite ?_ ?_
  · extract_lets +onlyGivenNames -underBinder y1
    have hy1 : Frame [.link, .cnt, .out] x6 y1 := (serveConfig_frame _).mono rfl
    try clear_value y1
    refine Frame.step ?_ (deliverMsix_frame _) (by rfl)
    exact Frame.upd (by assumption) rfl rfl
  · exact Frame.refl _ _

/-! ### Mgt -/

/-- What `colophonRead` can change. -/
theorem colophonRead_frame : ∀ x0 x1 x2, Frame [.link, .rings, .cnt, .execs, .waiting, .parked, .sp, .spr, .mgt, .out, .nextId, .draws] x2 (colophonRead x0 x1 x2) := by
  intro x0 x1 x2
  unfold colophonRead
  extract_lets +onlyGivenNames -underBinder y1
  try clear_value y1
  extract_lets +onlyGivenNames -underBinder y2
  try clear_value y2
  refine command_frame _ _ _ _ _ _ _ _ (by rfl) ?_ ?_
  · exact (complete_frame _ _ _ _).mono rfl
  · exact Frame.step ((State.draw_frame _).mono rfl) (reportOut_frame _ _ _ _ _ _ _) (by rfl)

/-- What `colophonLog` can change. -/
theorem colophonLog_frame : ∀ x0 x1 x2, Frame [.link, .rings, .cnt, .execs, .waiting, .parked, .sp, .spr, .mgt, .out, .nextId] x2 (colophonLog x0 x1 x2) := by
  intro x0 x1 x2
  unfold colophonLog
  extract_lets +onlyGivenNames -underBinder y1
  try clear_value y1
  extract_lets +onlyGivenNames -underBinder y2
  try clear_value y2
  extract_lets +onlyGivenNames -underBinder y3
  try clear_value y3
  extract_lets +onlyGivenNames -underBinder y4
  try clear_value y4
  extract_lets +onlyGivenNames -underBinder y5
  try clear_value y5
  extract_lets +onlyGivenNames -underBinder y6
  try clear_value y6
  refine command_frame _ _ _ _ _ _ _ _ (by rfl) ?_ ?_
  · exact (complete_frame _ _ _ _).mono rfl
  · exact (reportOut_frame _ _ _ _ _ _ _).mono rfl

/-- What `jtagDebugAttach` can change. -/
theorem jtagDebugAttach_frame : ∀ x0, Frame [.mgt] x0 (jtagDebugAttach x0) := by
  intro x0
  unfold jtagDebugAttach
  refine Frame.ite ?_ ?_
  · exact Frame.refl _ _
  · extract_lets +onlyGivenNames -underBinder y1
    extract_lets +onlyGivenNames -underBinder y2
    have hy2 : Frame [.mgt] x0 y2 := Frame.upd (Frame.refl _ _) rfl rfl
    try clear_value y2
    exact Frame.step (by assumption) (measure_frame _ _ _ _) (by rfl)

/-- What `controlReply` can change. -/
theorem controlReply_frame : ∀ x0 x1 x2 x3, Frame [.out] x0 (controlReply x0 x1 x2 x3) := by
  intro x0 x1 x2 x3
  unfold controlReply
  exact (State.emit_frame _ _).mono rfl

/-- What `setEndpointId` can change. -/
theorem setEndpointId_frame : ∀ x0 x1 x2 x3, Frame [.mgt, .out] x3 (setEndpointId x0 x1 x2 x3) := by
  intro x0 x1 x2 x3
  unfold setEndpointId
  refine Frame.ite ?_ ?_
  · exact Frame.refl _ _
  · refine Frame.ite ?_ ?_
    · exact (controlReply_frame _ _ _ _).mono rfl
    · refine Frame.ite ?_ ?_
      · exact (controlReply_frame _ _ _ _).mono rfl
      · extract_lets +onlyGivenNames -underBinder y1
        extract_lets +onlyGivenNames -underBinder y2
        have hy2 : Frame [.mgt, .out] x3 y2 := by
          refine Frame.ite ?_ ?_
          all_goals
            exact Frame.upd (Frame.refl _ _) rfl rfl
        try clear_value y2
        exact Frame.step (by assumption) (controlReply_frame _ _ _ _) (by rfl)

/-- What `getEndpointId` can change. -/
theorem getEndpointId_frame : ∀ x0 x1, Frame [.out] x1 (getEndpointId x0 x1) := by
  intro x0 x1
  unfold getEndpointId
  refine Frame.ite ?_ ?_
  · exact (controlReply_frame _ _ _ _).mono rfl
  · exact Frame.refl _ _

/-- What `getMctpVersionSupport` can change. -/
theorem getMctpVersionSupport_frame : ∀ x0 x1 x2, Frame [.out, .draws] x2 (getMctpVersionSupport x0 x1 x2) := by
  intro x0 x1 x2
  unfold getMctpVersionSupport
  refine Frame.ite ?_ ?_
  · exact Frame.refl _ _
  · refine Frame.ite ?_ ?_
    · exact Frame.step ((State.draw_frame _).mono rfl) (controlReply_frame _ _ _ _) (by rfl)
    · exact (controlReply_frame _ _ _ _).mono rfl

/-- What `getMessageTypeSupport` can change. -/
theorem getMessageTypeSupport_frame : ∀ x0 x1, Frame [.out] x1 (getMessageTypeSupport x0 x1) := by
  intro x0 x1
  unfold getMessageTypeSupport
  refine Frame.ite ?_ ?_
  · exact (controlReply_frame _ _ _ _).mono rfl
  · exact Frame.refl _ _

/-- What `mctpCmd` can change. -/
theorem mctpCmd_frame : ∀ x0 x1 x2, Frame [.waiting] x2 (mctpCmd x0 x1 x2) := by
  intro x0 x1 x2
  unfold mctpCmd
  refine Frame.ite ?_ ?_
  · exact (acceptEntry_frame _ _ _).mono rfl
  · exact Frame.refl _ _

/-- What `mctpDataWr` can change. -/
theorem mctpDataWr_frame : ∀ x0 x1 x2 x3, Frame [.mgt] x3 (mctpDataWr x0 x1 x2 x3) := by
  intro x0 x1 x2 x3
  unfold mctpDataWr
  refine Frame.ite ?_ ?_
  · exact Frame.refl _ _
  · refine Frame.updMem ?_ (Mem.write_wf _ _) id (.inr rfl) (.inl rfl)
    exact Frame.refl _ _

/-- What `mctpDataRd` can change. -/
theorem mctpDataRd_frame : ∀ x0 x1 x2 x3, Frame [.out] x3 (mctpDataRd x0 x1 x2 x3) := by
  intro x0 x1 x2 x3
  unfold mctpDataRd
  refine Frame.ite ?_ ?_
  · exact Frame.refl _ _
  · exact (State.emit_frame _ _).mono rfl

/-- What `spdmSend` can change. -/
theorem spdmSend_frame : ∀ x0 x1 x2, Frame [.out] x0 (spdmSend x0 x1 x2) := by
  intro x0 x1 x2
  unfold spdmSend
  exact (State.emit_frame _ _).mono rfl

/-- What `spdmError` can change. -/
theorem spdmError_frame : ∀ x0 x1 x2 x3, Frame [.out] x0 (spdmError x0 x1 x2 x3) := by
  intro x0 x1 x2 x3
  unfold spdmError
  exact (spdmSend_frame _ _ _).mono rfl

/-- What `spdm` can change. -/
theorem spdm_frame {l : List Part} (b : MctpBinding) (s : State) (checks : List (Bool × Nat)) (act : State → State)
    (hl : Part.all l [.out] = true) (ha : Frame l s (act s)) : Frame l s (spdm b s checks act) := by
  unfold spdm
  refine Frame.ite (Frame.refl _ _) (Frame.ite ((spdmError_frame _ _ _ _).mono (Part.all_trans hl rfl)) ?_)
  split
  · exact ha
  · exact (spdmError_frame _ _ _ _).mono (Part.all_trans hl rfl)

/-- What `getVersion` can change. -/
theorem getVersion_frame : ∀ x0 x1 x2, Frame [.mgt, .out] x2 (getVersion x0 x1 x2) := by
  intro x0 x1 x2
  unfold getVersion
  extract_lets +onlyGivenNames -underBinder y1
  try clear_value y1
  refine spdm_frame _ _ _ _ (by rfl) ?_
  refine Frame.step ?_ (spdmSend_frame _ _ _) (by rfl)
  exact Frame.upd (Frame.refl _ _) rfl rfl

/-- What `getCapabilities` can change. -/
theorem getCapabilities_frame : ∀ x0 x1 x2, Frame [.mgt, .out, .draws] x2 (getCapabilities x0 x1 x2) := by
  intro x0 x1 x2
  unfold getCapabilities
  extract_lets +onlyGivenNames -underBinder y1
  try clear_value y1
  extract_lets +onlyGivenNames -underBinder y2
  try clear_value y2
  refine spdm_frame _ _ _ _ (by rfl) ?_
  refine Frame.step ?_ (spdmSend_frame _ _ _) (by rfl)
  exact Frame.upd (Frame.refl _ _) rfl rfl

/-- What `negotiateAlgorithms` can change. -/
theorem negotiateAlgorithms_frame : ∀ x0 x1 x2, Frame [.mgt, .out] x2 (negotiateAlgorithms x0 x1 x2) := by
  intro x0 x1 x2
  unfold negotiateAlgorithms
  extract_lets +onlyGivenNames -underBinder y1
  try clear_value y1
  extract_lets +onlyGivenNames -underBinder y2
  try clear_value y2
  refine spdm_frame _ _ _ _ (by rfl) ?_
  refine Frame.step ?_ (spdmSend_frame _ _ _) (by rfl)
  exact Frame.upd (Frame.refl _ _) rfl rfl

/-- What `getDigests` can change. -/
theorem getDigests_frame : ∀ x0 x1 x2, Frame [.mgt, .out] x2 (getDigests x0 x1 x2) := by
  intro x0 x1 x2
  unfold getDigests
  extract_lets +onlyGivenNames -underBinder y1
  try clear_value y1
  refine spdm_frame _ _ _ _ (by rfl) ?_
  refine Frame.step ?_ (spdmSend_frame _ _ _) (by rfl)
  exact Frame.upd (Frame.refl _ _) rfl rfl

/-- What `getCertificate` can change. -/
theorem getCertificate_frame : ∀ x0 x1 x2, Frame [.mgt, .out] x2 (getCertificate x0 x1 x2) := by
  intro x0 x1 x2
  unfold getCertificate
  extract_lets +onlyGivenNames -underBinder y1
  try clear_value y1
  extract_lets +onlyGivenNames -underBinder y2
  try clear_value y2
  extract_lets +onlyGivenNames -underBinder y3
  try clear_value y3
  extract_lets +onlyGivenNames -underBinder y4
  try clear_value y4
  refine spdm_frame _ _ _ _ (by rfl) ?_
  refine Frame.step ?_ (spdmSend_frame _ _ _) (by rfl)
  exact Frame.upd (Frame.refl _ _) rfl rfl

/-- What `challenge` can change. -/
theorem challenge_frame : ∀ x0 x1 x2, Frame [.mgt, .out, .draws] x2 (challenge x0 x1 x2) := by
  intro x0 x1 x2
  unfold challenge
  extract_lets +onlyGivenNames -underBinder y1
  extract_lets +onlyGivenNames -underBinder y2
  extract_lets +onlyGivenNames -underBinder y3
  extract_lets +onlyGivenNames -underBinder y4
  refine spdm_frame _ _ _ _ (by rfl) ?_
  · refine Frame.step ?_ (spdmSend_frame _ _ _) (by rfl)
    extract_lets +onlyGivenNames -underBinder y5
    have hy5 : Frame [.mgt, .out, .draws] x2 y5 := (State.draw_frame _).mono rfl
    exact Frame.upd (by assumption) rfl rfl

/-- What `getMeasurements` can change. -/
theorem getMeasurements_frame : ∀ x0 x1 x2, Frame [.mgt, .out, .draws] x2 (getMeasurements x0 x1 x2) := by
  intro x0 x1 x2
  unfold getMeasurements
  extract_lets +onlyGivenNames -underBinder y1
  extract_lets +onlyGivenNames -underBinder y2
  extract_lets +onlyGivenNames -underBinder y3
  extract_lets +onlyGivenNames -underBinder y4
  extract_lets +onlyGivenNames -underBinder y5
  extract_lets +onlyGivenNames -underBinder y6
  extract_lets +onlyGivenNames -underBinder y7
  extract_lets +onlyGivenNames -underBinder y8
  refine spdm_frame _ _ _ _ (by rfl) ?_
  · refine Frame.step ?_ (spdmSend_frame _ _ _) (by rfl)
    extract_lets +onlyGivenNames -underBinder y9
    have hy9 : Frame [.mgt, .out, .draws] x2 y9 := (State.draw_frame _).mono rfl
    exact Frame.upd (by assumption) rfl rfl

/-- What `spdmUnsupportedRequest` can change. -/
theorem spdmUnsupportedRequest_frame : ∀ x0 x1 x2, Frame [.out] x2 (spdmUnsupportedRequest x0 x1 x2) := by
  intro x0 x1 x2
  unfold spdmUnsupportedRequest
  refine spdm_frame _ _ _ _ (by rfl) ?_
  exact (spdmError_frame _ _ _ _).mono rfl

end Sys2Proof.Machine
end

