-- ==== Sys2Proof/Laws/FramePress.lean ====
section
/-! SUPPORT. One frame lemma for each operation that answers a state, of nozzle health, the press bus, register accesses, enumeration, supplies, waveforms and transfers.
A lemma `x_frame` names the parts of the state that `x` may change; everything else it leaves as it was (`Frame`). -/

set_option Elab.async false

namespace Sys2Proof.Machine

/-! ### Nozzle -/

/-- What `atBoundary` can change. -/
theorem atBoundary_frame : ∀ x0 x1, Frame [.glb, .link, .rings, .cnt, .execs, .parked, .ports, .sp, .spr, .out] x0 (atBoundary x0 x1) := by
  intro x0 x1
  unfold atBoundary
  refine Frame.ite ?_ ?_
  · exact Frame.refl _ _
  · exact (boundaryMonitor_frame _ _ _).mono rfl

/-- What `rvsConfig` can change. -/
theorem rvsConfig_frame : ∀ x0 x1 x2, Frame [.glb, .link, .rings, .cnt, .execs, .waiting, .parked, .ports, .sp, .spr, .out] x2 (rvsConfig x0 x1 x2) := by
  intro x0 x1 x2
  unfold rvsConfig
  extract_lets +onlyGivenNames -underBinder y1
  try clear_value y1
  extract_lets +onlyGivenNames -underBinder y2
  try clear_value y2
  extract_lets +onlyGivenNames -underBinder y3
  try clear_value y3
  refine plainCmd_frame _ _ _ _ _ _ _ (by rfl) ?_
  exact Frame.step ((State.modPort_frame _ _ _).mono rfl) (atBoundary_frame _ _) (by rfl)

/-- What `startLearn` can change. -/
theorem startLearn_frame : ∀ x0 x1 x2 x3, Frame [.link, .rings, .cnt, .execs, .parked, .ports, .sp, .spr, .out, .nextId] x0 (startLearn x0 x1 x2 x3) := by
  intro x0 x1 x2 x3
  unfold startLearn
  extract_lets +onlyGivenNames -underBinder y1
  try clear_value y1
  extract_lets +onlyGivenNames -underBinder y2
  have hy2 : Frame [.link, .rings, .cnt, .execs, .parked, .ports, .sp, .spr, .out, .nextId] x0 y2 := Frame.step ((beginExec_frame _ _ _ _ _ _).mono rfl) (State.modPort_frame _ _ _) (by rfl)
  try clear_value y2
  refine Frame.ite ?_ ?_
  · exact Frame.step (by assumption) (endLearn_frame _ _ _ _) (by rfl)
  · assumption

/-- What `commitLearn` can change. -/
theorem commitLearn_frame : ∀ x0 x1 x2 x3, Frame [.glb, .link, .rings, .cnt, .execs, .parked, .ports, .sp, .spr, .out, .nextId] x0 (commitLearn x0 x1 x2 x3) := by
  intro x0 x1 x2 x3
  unfold commitLearn
  exact Frame.step (Frame.step ((beginExec_frame _ _ _ _ _ _).mono rfl) (State.modPort_frame _ _ _) (by rfl)) (atBoundary_frame _ _) (by rfl)

/-- What `rvsLearn` can change. -/
theorem rvsLearn_frame : ∀ x0 x1 x2, Frame [.glb, .link, .rings, .cnt, .execs, .waiting, .parked, .ports, .sp, .spr, .mgt, .out, .nextId] x2 (rvsLearn x0 x1 x2) := by
  intro x0 x1 x2
  unfold rvsLearn
  extract_lets +onlyGivenNames -underBinder y1
  try clear_value y1
  extract_lets +onlyGivenNames -underBinder y2
  try clear_value y2
  extract_lets +onlyGivenNames -underBinder y3
  try clear_value y3
  extract_lets +onlyGivenNames -underBinder y4
  try clear_value y4
  extract_lets +onlyGivenNames -underBinder y5
  try clear_value y5
  extract_lets +onlyGivenNames -underBinder y6
  try clear_value y6
  extract_lets +onlyGivenNames -underBinder y7
  try clear_value y7
  extract_lets +onlyGivenNames -underBinder y8
  try clear_value y8
  extract_lets +onlyGivenNames -underBinder y9
  try clear_value y9
  extract_lets +onlyGivenNames -underBinder y10
  try clear_value y10
  refine Frame.ite ?_ ?_
  · exact (readCmd_frame _ _ _ _ _ _ _ _ _).mono rfl
  · refine command_frame _ _ _ _ _ _ _ _ (by rfl) ?_ ?_
    · exact (complete_frame _ _ _ _).mono rfl
    · refine Frame.ite ?_ ?_
      · exact (startLearn_frame _ _ _ _).mono rfl
      · refine Frame.ite ?_ ?_
        · exact (commitLearn_frame _ _ _ _).mono rfl
        · refine Frame.ite ?_ ?_
          · exact Frame.step ((abortLearn_frame _ _).mono rfl) (complete_frame _ _ _ _) (by rfl)
          · exact (readOut_frame _ _ _ _ _ _).mono rfl

/-- What `learnLoaded` can change. -/
theorem learnLoaded_frame : ∀ x0 x1 x2, Frame [.link, .rings, .cnt, .execs, .parked, .ports, .sp, .spr, .out] x0 (learnLoaded x0 x1 x2) := by
  intro x0 x1 x2
  unfold learnLoaded
  extract_lets +onlyGivenNames -underBinder y1
  try clear_value y1
  refine dataDone_frame _ _ _ _ _ (by rfl) ?_
  exact Frame.step ((State.modPort_frame _ _ _).mono rfl) (endExec_frame _ _ _ _) (by rfl)

/-- What `nozMapSet` can change. -/
theorem nozMapSet_frame : ∀ x0 x1 x2, Frame [.glb, .link, .rings, .cnt, .execs, .waiting, .parked, .ports, .sp, .spr, .mgt, .out, .nextId] x2 (nozMapSet x0 x1 x2) := by
  intro x0 x1 x2
  unfold nozMapSet
  extract_lets +onlyGivenNames -underBinder y1
  try clear_value y1
  extract_lets +onlyGivenNames -underBinder y2
  try clear_value y2
  extract_lets +onlyGivenNames -underBinder y3
  try clear_value y3
  extract_lets +onlyGivenNames -underBinder y4
  try clear_value y4
  extract_lets +onlyGivenNames -underBinder y5
  try clear_value y5
  extract_lets +onlyGivenNames -underBinder y6
  try clear_value y6
  extract_lets +onlyGivenNames -underBinder y7
  try clear_value y7
  extract_lets +onlyGivenNames -underBinder y8
  try clear_value y8
  refine Frame.ite ?_ ?_
  · exact (readCmd_frame _ _ _ _ _ _ _ _ _).mono rfl
  · refine command_frame _ _ _ _ _ _ _ _ (by rfl) ?_ ?_
    · exact (complete_frame _ _ _ _).mono rfl
    · refine Frame.ite ?_ ?_
      · exact (shadowNow_frame _ _ _ _ _).mono rfl
      · exact Frame.step (Frame.step ((State.modPort_frame _ _ _).mono rfl) (atBoundary_frame _ _) (by rfl)) (complete_frame _ _ _ _) (by rfl)

/-- What `nozMapDone` can change. -/
theorem nozMapDone_frame : ∀ x0 x1 x2, Frame [.link, .rings, .cnt, .execs, .parked, .ports, .sp, .spr, .mgt, .out] x0 (nozMapDone x0 x1 x2) := by
  intro x0 x1 x2
  unfold nozMapDone
  exact (loadDone_frame _ _ _ _).mono rfl

/-- What `nozMapGet` can change. -/
theorem nozMapGet_frame : ∀ x0 x1 x2, Frame [.link, .rings, .cnt, .execs, .waiting, .parked, .sp, .spr, .mgt, .out, .nextId] x2 (nozMapGet x0 x1 x2) := by
  intro x0 x1 x2
  unfold nozMapGet
  extract_lets +onlyGivenNames -underBinder y1
  try clear_value y1
  extract_lets +onlyGivenNames -underBinder y2
  try clear_value y2
  extract_lets +onlyGivenNames -underBinder y3
  try clear_value y3
  extract_lets +onlyGivenNames -underBinder y4
  try clear_value y4
  extract_lets +onlyGivenNames -underBinder y5
  try clear_value y5
  extract_lets +onlyGivenNames -underBinder y6
  try clear_value y6
  extract_lets +onlyGivenNames -underBinder y7
  try clear_value y7
  refine command_frame _ _ _ _ _ _ _ _ (by rfl) ?_ ?_
  · exact (complete_frame _ _ _ _).mono rfl
  · exact (readOut_frame _ _ _ _ _ _).mono rfl

/-- What `wearQuery` can change. -/
theorem wearQuery_frame : ∀ x0 x1 x2, Frame [.glb, .link, .rings, .cnt, .execs, .waiting, .parked, .quires, .reqs, .ports, .th, .sp, .spr, .mgt, .bg, .out, .nextId] x2 (wearQuery x0 x1 x2) := by
  intro x0 x1 x2
  unfold wearQuery
  extract_lets +onlyGivenNames -underBinder y1
  try clear_value y1
  extract_lets +onlyGivenNames -underBinder y2
  try clear_value y2
  extract_lets +onlyGivenNames -underBinder y3
  try clear_value y3
  extract_lets +onlyGivenNames -underBinder y4
  try clear_value y4
  extract_lets +onlyGivenNames -underBinder y5
  try clear_value y5
  extract_lets +onlyGivenNames -underBinder y6
  try clear_value y6
  extract_lets +onlyGivenNames -underBinder y7
  try clear_value y7
  refine command_frame _ _ _ _ _ _ _ _ (by rfl) ?_ ?_
  · exact (complete_frame _ _ _ _).mono rfl
  · extract_lets +onlyGivenNames -underBinder y8
    try clear_value y8
    refine Frame.ite ?_ ?_
    · exact Frame.step ((writeOut_frame _ _ _ _).mono rfl) (complete_frame _ _ _ _) (by rfl)
    · refine Frame.ite ?_ ?_
      · exact (readOut_frame _ _ _ _ _ _).mono rfl
      · exact Frame.step (Frame.step ((beginExec_frame _ _ _ _ _ _).mono rfl) (addCommit_frame _ _ _) (by rfl)) (pumpHead_frame _ _) (by rfl)

/-! ### PressBus -/

/-- What `policyRequests` can change. -/
theorem policyRequests_frame : ∀ x0 x1, Frame [.glb, .link, .rings, .cnt, .execs, .parked, .quires, .reqs, .ports, .sp, .spr, .mgt, .bg, .out] x0 (policyRequests x0 x1) := by
  intro x0 x1
  unfold policyRequests
  extract_lets +onlyGivenNames -underBinder y1
  try clear_value y1
  extract_lets +onlyGivenNames -underBinder y2
  try clear_value y2
  refine forAll_frame ?_ (fun t3 _ => ?_)
  · exact Frame.refl _ _
  · refine Frame.ite ?_ ?_
    · exact (request_frame _ _ _ _).mono rfl
    · refine Frame.ite ?_ ?_
      · exact (request_frame _ _ _ _).mono rfl
      · exact Frame.refl _ _

/-- What `policyWithdraw` can change. -/
theorem policyWithdraw_frame : ∀ x0 x1, Frame [.reqs] x0 (policyWithdraw x0 x1) := by
  intro x0 x1
  unfold policyWithdraw
  refine forAll_frame ?_ (fun t1 _ => ?_)
  · exact Frame.refl _ _
  · exact (withdraw_frame _ _ _).mono rfl

/-- What `canEvent` can change. -/
theorem canEvent_frame : ∀ x0 x1, Frame [.press] x0 (canEvent x0 x1) := by
  intro x0 x1
  unfold canEvent
  exact Frame.upd (Frame.refl _ _) rfl rfl

/-- What `setInterlock` can change. -/
theorem setInterlock_frame : ∀ x0 x1, Frame [.glb, .link, .rings, .cnt, .execs, .parked, .quires, .reqs, .ports, .sp, .spr, .press, .mgt, .bg, .out] x0 (setInterlock x0 x1) := by
  intro x0 x1
  unfold setInterlock
  refine Frame.ite ?_ ?_
  · exact Frame.refl _ _
  · extract_lets +onlyGivenNames -underBinder y1
    try clear_value y1
    extract_lets +onlyGivenNames -underBinder y2
    have hy2 : Frame [.glb, .link, .rings, .cnt, .execs, .parked, .quires, .reqs, .ports, .sp, .spr, .press, .mgt, .bg, .out] x0 y2 := Frame.upd (Frame.refl _ _) rfl rfl
    try clear_value y2
    refine Frame.ite ?_ ?_
    · exact Frame.step (Frame.step (Frame.step (by assumption) (canEvent_frame _ _) (by rfl)) (policyRequests_frame _ _) (by rfl)) (evtStop_frame _ _ _) (by rfl)
    · exact Frame.step (by assumption) (policyWithdraw_frame _ _) (by rfl)

/-- What `pressTimeoutEvent` can change. -/
theorem pressTimeoutEvent_frame : ∀ x0 x1 x2 x3, Frame [.link, .rings, .cnt, .parked, .sp, .spr, .press, .out] x0 (pressTimeoutEvent x0 x1 x2 x3) := by
  intro x0 x1 x2 x3
  unfold pressTimeoutEvent
  exact Frame.step ((canEvent_frame _ _).mono rfl) (raise_frame _ _ _ _ _ _) (by rfl)

/-- What `pressStateTimeout` can change. -/
theorem pressStateTimeout_frame : ∀ x0, Frame [.clk, .tb, .glb, .link, .rings, .cnt, .execs, .parked, .quires, .reqs, .ports, .sp, .spr, .press, .mgt, .bg, .out] x0 (pressStateTimeout x0) := by
  intro x0
  unfold pressStateTimeout
  refine Frame.ite ?_ ?_
  · exact Frame.refl _ _
  · extract_lets +onlyGivenNames -underBinder y1
    have hy1 : Frame [.clk, .tb, .glb, .link, .rings, .cnt, .execs, .parked, .quires, .reqs, .ports, .sp, .spr, .press, .mgt, .bg, .out] x0 y1 := (State.advanceTo_frame _ _).mono rfl
    try clear_value y1
    extract_lets +onlyGivenNames -underBinder y2
    try clear_value y2
    extract_lets +onlyGivenNames -underBinder y3
    have hy3 : Frame [.clk, .tb, .glb, .link, .rings, .cnt, .execs, .parked, .quires, .reqs, .ports, .sp, .spr, .press, .mgt, .bg, .out] x0 y3 := by
      refine Frame.step ?_ (policyRequests_frame _ _) (by rfl)
      exact Frame.upd (by assumption) rfl rfl
    try clear_value y3
    exact Frame.step (Frame.step (by assumption) (faultEdge_frame _) (by rfl)) (pressTimeoutEvent_frame _ _ _ _) (by rfl)

/-- What `pressStateRx` can change. -/
theorem pressStateRx_frame : ∀ x0 x1, Frame [.glb, .link, .rings, .cnt, .execs, .parked, .quires, .reqs, .ports, .sp, .spr, .press, .mgt, .bg, .out] x0 (pressStateRx x0 x1) := by
  intro x0 x1
  unfold pressStateRx
  extract_lets +onlyGivenNames -underBinder y1
  try clear_value y1
  extract_lets +onlyGivenNames -underBinder y2
  try clear_value y2
  extract_lets +onlyGivenNames -underBinder y3
  have hy3 : Frame [.glb, .link, .rings, .cnt, .execs, .parked, .quires, .reqs, .ports, .sp, .spr, .press, .mgt, .bg, .out] x0 y3 := Frame.upd (Frame.refl _ _) rfl rfl
  try clear_value y3
  refine Frame.step ?_ (setInterlock_frame _ _) (by rfl)
  refine Frame.ite ?_ ?_
  · exact Frame.step (Frame.step (Frame.step (by assumption) (policyWithdraw_frame _ _) (by rfl)) (faultEdge_frame _) (by rfl)) (pressTimeoutEvent_frame _ _ _ _) (by rfl)
  · assumption

/-- What `canDrop` can change. -/
theorem canDrop_frame : ∀ x0 x1, Frame [.press] x0 (canDrop x0 x1) := by
  intro x0 x1
  unfold canDrop
  exact (State.modCan_frame _ _ _).mono rfl

/-- What `clashCheck` can change. -/
theorem clashCheck_frame : ∀ x0 x1 x2, Frame [.link, .rings, .cnt, .parked, .sp, .spr, .press, .out] x0 (clashCheck x0 x1 x2) := by
  intro x0 x1 x2
  unfold clashCheck
  split
  · exact Frame.refl _ _
  · extract_lets +onlyGivenNames -underBinder y1
    try clear_value y1
    extract_lets +onlyGivenNames -underBinder y2
    try clear_value y2
    refine Frame.ite ?_ ?_
    · exact Frame.refl _ _
    · extract_lets +onlyGivenNames -underBinder y3
      try clear_value y3
      extract_lets +onlyGivenNames -underBinder y4
      have hy4 : Frame [.link, .rings, .cnt, .parked, .sp, .spr, .press, .out] x0 y4 := Frame.upd (Frame.refl _ _) rfl rfl
      try clear_value y4
      exact Frame.step (Frame.step (by assumption) (canEvent_frame _ _) (by rfl)) (raise_frame _ _ _ _ _ _) (by rfl)

/-- What `pressActs` can change. -/
theorem pressActs_frame : ∀ x0 x1 x2, Frame [.glb, .link, .rings, .cnt, .execs, .parked, .quires, .reqs, .ports, .sp, .spr, .press, .mgt, .bg, .out] x0 (pressActs x0 x1 x2) := by
  intro x0 x1 x2
  unfold pressActs
  refine Frame.ite ?_ ?_
  · exact (pressStateRx_frame _ _).mono rfl
  · extract_lets +onlyGivenNames -underBinder y1
    try clear_value y1
    refine Frame.ite ?_ ?_
    · exact (setInterlock_frame _ _).mono rfl
    · exact Frame.refl _ _

/-- What `pressFrame` can change. -/
theorem pressFrame_frame : ∀ x0 x1 x2, Frame [.glb, .link, .rings, .cnt, .execs, .parked, .quires, .reqs, .ports, .sp, .spr, .press, .mgt, .bg, .out] x0 (pressFrame x0 x1 x2) := by
  intro x0 x1 x2
  unfold pressFrame
  extract_lets +onlyGivenNames -underBinder y1
  try clear_value y1
  refine Frame.ite ?_ ?_
  · extract_lets +onlyGivenNames -underBinder y2
    try clear_value y2
    refine Frame.ite ?_ ?_
    · exact (State.modCan_frame _ _ _).mono rfl
    · exact Frame.step ((State.modCan_frame _ _ _).mono rfl) (pressActs_frame _ _ _) (by rfl)
  · exact (canDrop_frame _ _).mono rfl

/-- What `hostFrame` can change. -/
theorem hostFrame_frame : ∀ x0 x1 x2, Frame [.press] x0 (hostFrame x0 x1 x2) := by
  intro x0 x1 x2
  unfold hostFrame
  split
  · exact (canDrop_frame _ _).mono rfl
  · refine Frame.ite ?_ ?_
    · exact Frame.step ((canDrop_frame _ _).mono rfl) (canEvent_frame _ _) (by rfl)
    · exact (State.modCan_frame _ _ _).mono rfl

/-- What `canFrameRx` can change. -/
theorem canFrameRx_frame : ∀ x0 x1 x2 x3, Frame [.glb, .link, .rings, .cnt, .execs, .parked, .quires, .reqs, .ports, .sp, .spr, .press, .mgt, .bg, .out] x3 (canFrameRx x0 x1 x2 x3) := by
  intro x0 x1 x2 x3
  unfold canFrameRx
  extract_lets +onlyGivenNames -underBinder y1
  try clear_value y1
  refine Frame.ite ?_ ?_
  · exact Frame.refl _ _
  · refine Frame.ite ?_ ?_
    · exact Frame.step ((State.modCan_frame _ _ _).mono rfl) (State.emit_frame _ _) (by rfl)
    · extract_lets +onlyGivenNames -underBinder y2
      have hy2 : Frame [.glb, .link, .rings, .cnt, .execs, .parked, .quires, .reqs, .ports, .sp, .spr, .press, .mgt, .bg, .out] x3 y2 := (State.modCan_frame _ _ _).mono rfl
      try clear_value y2
      refine Frame.ite ?_ ?_
      · exact Frame.step (by assumption) (canDrop_frame _ _) (by rfl)
      · extract_lets +onlyGivenNames -underBinder y3
        have hy3 : Frame [.glb, .link, .rings, .cnt, .execs, .parked, .quires, .reqs, .ports, .sp, .spr, .press, .mgt, .bg, .out] x3 y3 := Frame.step (by assumption) (clashCheck_frame _ _ _) (by rfl)
        try clear_value y3
        refine Frame.ite ?_ ?_
        · exact Frame.step (by assumption) (pressFrame_frame _ _ _) (by rfl)
        · exact Frame.step (by assumption) (hostFrame_frame _ _ _) (by rfl)

/-- What `busOffEvent` can change. -/
theorem busOffEvent_frame : ∀ x0 x1 x2, Frame [.link, .rings, .cnt, .parked, .sp, .spr, .press, .out] x0 (busOffEvent x0 x1 x2) := by
  intro x0 x1 x2
  unfold busOffEvent
  extract_lets +onlyGivenNames -underBinder y1
  try clear_value y1
  exact Frame.step ((canEvent_frame _ _).mono rfl) (raise_frame _ _ _ _ _ _) (by rfl)

/-- What `busOffEntry` can change. -/
theorem busOffEntry_frame : ∀ x0 x1 x2 x3, Frame [.link, .rings, .cnt, .parked, .sp, .spr, .press, .out] x3 (busOffEntry x0 x1 x2 x3) := by
  intro x0 x1 x2 x3
  unfold busOffEntry
  extract_lets +onlyGivenNames -underBinder y1
  try clear_value y1
  refine Frame.ite ?_ ?_
  · exact Frame.refl _ _
  · extract_lets +onlyGivenNames -underBinder y2
    have hy2 : Frame [.link, .rings, .cnt, .parked, .sp, .spr, .press, .out] x3 y2 := (State.modCan_frame _ _ _).mono rfl
    try clear_value y2
    exact Frame.step (Frame.step (by assumption) (faultEdge_frame _) (by rfl)) (busOffEvent_frame _ _ _) (by rfl)

/-- What `rejoin` can change. -/
theorem rejoin_frame : ∀ x0 x1, Frame [.link, .rings, .cnt, .parked, .sp, .spr, .press, .out] x0 (rejoin x0 x1) := by
  intro x0 x1
  unfold rejoin
  extract_lets +onlyGivenNames -underBinder y1
  try clear_value y1
  extract_lets +onlyGivenNames -underBinder y2
  have hy2 : Frame [.link, .rings, .cnt, .parked, .sp, .spr, .press, .out] x0 y2 := by
    refine Frame.ite ?_ ?_
    · exact (busOffEvent_frame _ _ _).mono rfl
    · exact Frame.refl _ _
  try clear_value y2
  exact Frame.step (Frame.step (by assumption) (State.modCan_frame _ _ _) (by rfl)) (faultEdge_frame _) (by rfl)

/-- What `busOffRecovery` can change. -/
theorem busOffRecovery_frame : ∀ x0 x1, Frame [.link, .rings, .cnt, .parked, .sp, .spr, .press, .out] x1 (busOffRecovery x0 x1) := by
  intro x0 x1
  unfold busOffRecovery
  refine Frame.ite ?_ ?_
  · exact (rejoin_frame _ _).mono rfl
  · exact Frame.refl _ _

/-- What `pressSend` can change. -/
theorem pressSend_frame : ∀ x0 x1 x2, Frame [.press] x0 (pressSend x0 x1 x2) := by
  intro x0 x1 x2
  unfold pressSend
  extract_lets +onlyGivenNames -underBinder y1
  have hy1 : ∀ a0y1 a1y1, Frame [.press] a0y1 (y1 a0y1 a1y1) := by
    intro a0y1 a1y1
    unfold y1
    refine Frame.ite ?_ ?_
    · exact (State.modCan_frame _ _ _).mono rfl
    · exact Frame.refl _ _
  try clear_value y1
  refine Frame.trans ?_ (hy1 _ _)
  exact hy1 _ _

/-- What `canTxDone` can change. -/
theorem canTxDone_frame : ∀ x0 x1 x2 x3 x4, Frame [.link, .rings, .cnt, .execs, .parked, .sp, .spr, .press, .out] x4 (canTxDone x0 x1 x2 x3 x4) := by
  intro x0 x1 x2 x3 x4
  unfold canTxDone
  extract_lets +onlyGivenNames -underBinder y1
  try clear_value y1
  refine Frame.ite ?_ ?_
  · exact Frame.refl _ _
  · split
    · exact Frame.refl _ _
    · extract_lets +onlyGivenNames -underBinder y2
      have hy2 : Frame [.link, .rings, .cnt, .execs, .parked, .sp, .spr, .press, .out] x4 y2 := Frame.step ((State.modCan_frame _ _ _).mono rfl) (State.emit_frame _ _) (by rfl)
      try clear_value y2
      refine Frame.ite ?_ ?_
      · split
        · exact Frame.step (by assumption) (endExec_frame _ _ _ _) (by rfl)
        · assumption
      · assumption

/-- What `busSendTimeout` can change. -/
theorem busSendTimeout_frame : ∀ x0 x1, Frame [.clk, .tb, .link, .rings, .cnt, .execs, .parked, .sp, .spr, .press, .out] x1 (busSendTimeout x0 x1) := by
  intro x0 x1
  unfold busSendTimeout
  split
  · exact Frame.refl _ _
  · split
    · extract_lets +onlyGivenNames -underBinder y1
      try clear_value y1
      exact Frame.step (Frame.step ((State.advanceTo_frame _ _).mono rfl) (State.modCan_frame _ _ _) (by rfl)) (endExec_frame _ _ _ _) (by rfl)
    · exact Frame.refl _ _
    · exact Frame.refl _ _
    · exact Frame.refl _ _
    · exact Frame.refl _ _
    · exact Frame.refl _ _
    · exact Frame.refl _ _
    · exact Frame.refl _ _
    · exact Frame.refl _ _
    · exact Frame.refl _ _
    · exact Frame.refl _ _
    · exact Frame.refl _ _
    · exact Frame.refl _ _
    · exact Frame.refl _ _
    · exact Frame.refl _ _
    · exact Frame.refl _ _
    · exact Frame.refl _ _

/-- What `speedDemandTx` can change. -/
theorem speedDemandTx_frame : ∀ x0, Frame [.clk, .tb, .press] x0 (speedDemandTx x0) := by
  intro x0
  unfold speedDemandTx
  refine Frame.ite ?_ ?_
  · exact Frame.refl _ _
  · extract_lets +onlyGivenNames -underBinder y1
    have hy1 : Frame [.clk, .tb, .press] x0 y1 := by
      refine Frame.ite ?_ ?_
      · exact Frame.refl _ _
      · exact (State.advanceTo_frame _ _).mono rfl
    try clear_value y1
    extract_lets +onlyGivenNames -underBinder y2
    have hy2 : Frame [.clk, .tb, .press] x0 y2 := Frame.step (by assumption) (pressSend_frame _ _ _) (by rfl)
    try clear_value y2
    exact Frame.upd (by assumption) rfl rfl

/-- What `statusTx` can change. -/
theorem statusTx_frame : ∀ x0, Frame [.clk, .tb, .press] x0 (statusTx x0) := by
  intro x0
  unfold statusTx
  refine Frame.ite ?_ ?_
  · exact Frame.refl _ _
  · extract_lets +onlyGivenNames -underBinder y1
    have hy1 : Frame [.clk, .tb, .press] x0 y1 := by
      refine Frame.ite ?_ ?_
      · exact Frame.refl _ _
      · exact (State.advanceTo_frame _ _).mono rfl
    try clear_value y1
    extract_lets +onlyGivenNames -underBinder y2
    have hy2 : Frame [.clk, .tb, .press] x0 y2 := Frame.step (by assumption) (pressSend_frame _ _ _) (by rfl)
    try clear_value y2
    exact Frame.upd (by assumption) rfl rfl

/-- What `heartbeatTx` can change. -/
theorem heartbeatTx_frame : ∀ x0, Frame [.clk, .tb, .press] x0 (heartbeatTx x0) := by
  intro x0
  unfold heartbeatTx
  refine Frame.ite ?_ ?_
  · exact Frame.refl _ _
  · extract_lets +onlyGivenNames -underBinder y1
    have hy1 : Frame [.clk, .tb, .press] x0 y1 := (State.advanceTo_frame _ _).mono rfl
    try clear_value y1
    extract_lets +onlyGivenNames -underBinder y2
    have hy2 : Frame [.clk, .tb, .press] x0 y2 := Frame.step (by assumption) (pressSend_frame _ _ _) (by rfl)
    try clear_value y2
    exact Frame.upd (by assumption) rfl rfl

/-- What `stopNAccepted` can change. -/
theorem stopNAccepted_frame : ∀ x0, Frame [.glb, .link, .rings, .cnt, .execs, .parked, .quires, .ports, .sp, .spr, .press, .mgt, .bg, .out] x0 (stopNAccepted x0) := by
  intro x0
  unfold stopNAccepted
  refine Frame.ite ?_ ?_
  · exact Frame.refl _ _
  · refine Frame.step ?_ (evtStop_frame _ _ _) (by rfl)
    refine Frame.step ?_ (stopAll_frame _ _) (by rfl)
    refine Frame.step ?_ (canEvent_frame _ _) (by rfl)
    exact Frame.upd (Frame.refl _ _) rfl rfl

/-- What `stopNReleased` can change. -/
theorem stopNReleased_frame : ∀ x0, Frame [.press] x0 (stopNReleased x0) := by
  intro x0
  unfold stopNReleased
  refine Frame.ite ?_ ?_
  · exact Frame.refl _ _
  · exact Frame.upd (Frame.refl _ _) rfl rfl

/-- What `spdDemPeriod` can change. -/
theorem spdDemPeriod_frame : ∀ x0, Frame [.clk, .tb, .press, .out] x0 (spdDemPeriod x0) := by
  intro x0
  unfold spdDemPeriod
  refine Frame.ite ?_ ?_
  · exact Frame.refl _ _
  · extract_lets +onlyGivenNames -underBinder y1
    have hy1 : Frame [.clk, .tb, .press, .out] x0 y1 := (State.advanceTo_frame _ _).mono rfl
    try clear_value y1
    extract_lets +onlyGivenNames -underBinder y2
    try clear_value y2
    refine Frame.step ?_ (State.emit_frame _ _) (by rfl)
    exact Frame.upd (by assumption) rfl rfl

/-- What `setBus` can change. -/
theorem setBus_frame : ∀ x0 x1, Frame [.link, .rings, .cnt, .parked, .sp, .spr, .press, .out] x0 (setBus x0 x1) := by
  intro x0 x1
  unfold setBus
  extract_lets +onlyGivenNames -underBinder y1
  try clear_value y1
  extract_lets +onlyGivenNames -underBinder y2
  try clear_value y2
  extract_lets +onlyGivenNames -underBinder y3
  try clear_value y3
  extract_lets +onlyGivenNames -underBinder y4
  have hy4 : Frame [.link, .rings, .cnt, .parked, .sp, .spr, .press, .out] x0 y4 := Frame.upd (Frame.refl _ _) rfl rfl
  try clear_value y4
  extract_lets +onlyGivenNames -underBinder y5
  have hy5 : Frame [.link, .rings, .cnt, .parked, .sp, .spr, .press, .out] x0 y5 := Frame.step (by assumption) (State.modCan_frame _ _ _) (by rfl)
  try clear_value y5
  refine Frame.ite ?_ ?_
  · exact Frame.step (Frame.step (by assumption) (State.modCan_frame _ _ _) (by rfl)) (faultEdge_frame _) (by rfl)
  · exact Frame.step (by assumption) (rejoin_frame _ _) (by rfl)

/-- What `busConfig` can change. -/
theorem busConfig_frame : ∀ x0 x1 x2, Frame [.link, .rings, .cnt, .waiting, .parked, .sp, .spr, .press, .out] x2 (busConfig x0 x1 x2) := by
  intro x0 x1 x2
  unfold busConfig
  extract_lets +onlyGivenNames -underBinder y1
  try clear_value y1
  extract_lets +onlyGivenNames -underBinder y2
  try clear_value y2
  refine plainCmd_frame _ _ _ _ _ _ _ (by rfl) ?_
  exact (setBus_frame _ _).mono rfl

/-- What `busFilter` can change. -/
theorem busFilter_frame : ∀ x0 x1 x2, Frame [.link, .rings, .cnt, .waiting, .parked, .sp, .spr, .press, .out] x2 (busFilter x0 x1 x2) := by
  intro x0 x1 x2
  unfold busFilter
  extract_lets +onlyGivenNames -underBinder y1
  try clear_value y1
  extract_lets +onlyGivenNames -underBinder y2
  try clear_value y2
  refine plainCmd_frame _ _ _ _ _ _ _ (by rfl) ?_
  exact (State.modCan_frame _ _ _).mono rfl

/-- What `busSend` can change. -/
theorem busSend_frame : ∀ x0 x1 x2, Frame [.link, .rings, .cnt, .execs, .waiting, .parked, .sp, .spr, .press, .out, .nextId] x2 (busSend x0 x1 x2) := by
  intro x0 x1 x2
  unfold busSend
  extract_lets +onlyGivenNames -underBinder y1
  try clear_value y1
  extract_lets +onlyGivenNames -underBinder y2
  try clear_value y2
  extract_lets +onlyGivenNames -underBinder y3
  try clear_value y3
  extract_lets +onlyGivenNames -underBinder y4
  try clear_value y4
  extract_lets +onlyGivenNames -underBinder y5
  try clear_value y5
  refine command_frame _ _ _ _ _ _ _ _ (by rfl) ?_ ?_
  · exact (complete_frame _ _ _ _).mono rfl
  · extract_lets +onlyGivenNames -underBinder y6
    try clear_value y6
    exact Frame.step ((beginExec_frame _ _ _ _ _ _).mono rfl) (State.modCan_frame _ _ _) (by rfl)

/-- What `busQuery` can change. -/
theorem busQuery_frame : ∀ x0 x1 x2, Frame [.link, .rings, .cnt, .execs, .waiting, .parked, .sp, .spr, .press, .mgt, .out, .nextId] x2 (busQuery x0 x1 x2) := by
  intro x0 x1 x2
  unfold busQuery
  extract_lets +onlyGivenNames -underBinder y1
  try clear_value y1
  extract_lets +onlyGivenNames -underBinder y2
  try clear_value y2
  extract_lets +onlyGivenNames -underBinder y3
  try clear_value y3
  extract_lets +onlyGivenNames -underBinder y4
  try clear_value y4
  extract_lets +onlyGivenNames -underBinder y5
  try clear_value y5
  extract_lets +onlyGivenNames -underBinder y6
  try clear_value y6
  extract_lets +onlyGivenNames -underBinder y7
  try clear_value y7
  extract_lets +onlyGivenNames -underBinder y8
  try clear_value y8
  extract_lets +onlyGivenNames -underBinder y9
  try clear_value y9
  refine command_frame _ _ _ _ _ _ _ _ (by rfl) ?_ ?_
  · exact (complete_frame _ _ _ _).mono rfl
  · refine Frame.ite ?_ ?_
    · exact Frame.step ((State.modCan_frame _ _ _).mono rfl) (reportOut_frame _ _ _ _ _ _ _) (by rfl)
    · exact Frame.step ((writeOut_frame _ _ _ _).mono rfl) (complete_frame _ _ _ _) (by rfl)

/-! ### Regs -/

/-- What `pselWrite` can change. -/
theorem pselWrite_frame : ∀ x0 x1 x2, Frame [.glb] x2 (pselWrite x0 x1 x2) := by
  intro x0 x1 x2
  unfold pselWrite
  extract_lets +onlyGivenNames -underBinder y1
  try clear_value y1
  extract_lets +onlyGivenNames -underBinder y2
  try clear_value y2
  extract_lets +onlyGivenNames -underBinder y3
  have hy3 : Frame [.glb] x2 y3 := Frame.upd (Frame.refl _ _) rfl rfl
  try clear_value y3
  refine Frame.ite ?_ ?_
  · exact Frame.step (by assumption) (glbErr_frame _ _) (by rfl)
  · assumption

/-- What `glbWrite` can change. -/
theorem glbWrite_frame : ∀ x0 x1 x2, Frame [.glb, .link, .cnt, .out] x2 (glbWrite x0 x1 x2) := by
  intro x0 x1 x2
  unfold glbWrite
  split
  · refine Frame.step ?_ (irqPorts_frame _) (by rfl)
    exact Frame.upd (Frame.refl _ _) rfl rfl
  · exact Frame.upd (Frame.refl _ _) rfl rfl
  · exact (pselWrite_frame _ _ _).mono rfl
  · exact (pselWrite_frame _ _ _).mono rfl
  · exact Frame.refl _ _

/-- What `rstWrite` can change. -/
theorem rstWrite_frame : ∀ x0 x1 x2, Frame [.rst] x2 (rstWrite x0 x1 x2) := by
  intro x0 x1 x2
  unfold rstWrite
  split
  · exact Frame.upd (Frame.refl _ _) rfl rfl
  · exact Frame.upd (Frame.refl _ _) rfl rfl
  · exact Frame.refl _ _

/-- What `otpWrite` can change. -/
theorem otpWrite_frame : ∀ x0 x1 x2, Frame [.otp] x2 (otpWrite x0 x1 x2) := by
  intro x0 x1 x2
  unfold otpWrite
  refine Frame.ite ?_ ?_
  · exact (lockSet_frame _ _ _).mono rfl
  · exact Frame.refl _ _

/-- What `thmWrite` can change. -/
theorem thmWrite_frame : ∀ x0 x1 x2, Frame [.th] x2 (thmWrite x0 x1 x2) := by
  intro x0 x1 x2
  unfold thmWrite
  refine Frame.ite ?_ ?_
  · exact Frame.upd (Frame.refl _ _) rfl rfl
  · exact Frame.refl _ _

/-- What `encWrite` can change. -/
theorem encWrite_frame : ∀ x0 x1 x2 x3, Frame [.src] x3 (encWrite x0 x1 x2 x3) := by
  intro x0 x1 x2 x3
  unfold encWrite
  refine Frame.ite ?_ ?_
  · exact (State.modSrc_frame _ _ _).mono rfl
  · exact Frame.refl _ _

/-- What `quireWrite` can change. -/
theorem quireWrite_frame : ∀ x0 x1 x2 x3, Frame [.quires] x3 (quireWrite x0 x1 x2 x3) := by
  intro x0 x1 x2 x3
  unfold quireWrite
  refine Frame.ite ?_ ?_
  · exact (State.modQuire_frame _ _ _).mono rfl
  · exact Frame.refl _ _

/-- What `spnWrite` can change. -/
theorem spnWrite_frame : ∀ x0 x1 x2, Frame [.spr] x2 (spnWrite x0 x1 x2) := by
  intro x0 x1 x2
  unfold spnWrite
  refine Frame.ite ?_ ?_
  · exact Frame.upd (Frame.refl _ _) rfl rfl
  · exact Frame.refl _ _

/-- What `canWrite` can change. -/
theorem canWrite_frame : ∀ x0 x1 x2, Frame [.press] x2 (canWrite x0 x1 x2) := by
  intro x0 x1 x2
  unfold canWrite
  split
  · exact Frame.upd (Frame.refl _ _) rfl rfl
  · exact Frame.upd (Frame.refl _ _) rfl rfl
  · exact Frame.refl _ _

/-- What `ringWrite` can change. -/
theorem ringWrite_frame : ∀ x0 x1 x2 x3, Frame [.glb, .rings, .ports] x3 (ringWrite x0 x1 x2 x3) := by
  intro x0 x1 x2 x3
  unfold ringWrite
  split
  · exact (ringCfgWrite_frame _ _ _).mono rfl
  · exact (ringCfgWrite_frame _ _ _).mono rfl
  · exact (ringCfgWrite_frame _ _ _).mono rfl
  · exact (ringHeadWrite_frame _ _ _).mono rfl
  · exact (ringTailWrite_frame _ _ _).mono rfl
  · exact (ringCtrlWrite_frame _ _ _).mono rfl
  · exact Frame.refl _ _

/-- What `winEventWrite` can change. -/
theorem winEventWrite_frame : ∀ x0 x1 x2, Frame [.glb, .link, .cnt, .ports, .out] x1 (winEventWrite x0 x1 x2) := by
  intro x0 x1 x2
  unfold winEventWrite
  refine Frame.step ?_ (irqPorts_frame _) (by rfl)
  refine Frame.foldl (fun t1 _ => ?_) _ _ ?_
  · exact (State.modPort_frame _ _ _).mono rfl
  · exact Frame.refl _ _

/-- What `winWrite` can change. -/
theorem winWrite_frame : ∀ x0 x1 x2 x3, Frame [.glb, .link, .rings, .cnt, .execs, .parked, .quires, .reqs, .ports, .th, .sp, .spr, .mgt, .bg, .out] x3 (winWrite x0 x1 x2 x3) := by
  intro x0 x1 x2 x3
  unfold winWrite
  split
  · refine Frame.ite ?_ ?_
    · exact (retrain_frame _ _ _).mono rfl
    · exact (pwCtrlWrite_frame _ _ _).mono rfl
  · exact (pwCmpLow_frame _ _ _ _).mono rfl
  · exact (pwCmpStartHigh_frame _ _ _).mono rfl
  · exact (pwCmpLow_frame _ _ _ _).mono rfl
  · exact (pwCmpStopHigh_frame _ _ _).mono rfl
  · exact (pwLateWin_frame _ _ _).mono rfl
  · exact (pwShadow_frame _ _ _ _).mono rfl
  · exact (winEventWrite_frame _ _ _).mono rfl
  · exact (winEventWrite_frame _ _ _).mono rfl
  · refine Frame.ite ?_ ?_
    · exact (pwShadow_frame _ _ _ _).mono rfl
    · exact Frame.refl _ _

/-- What `msixWrite` can change. -/
theorem msixWrite_frame : ∀ x0 x1 x2, Frame [.link, .cnt, .out] x2 (msixWrite x0 x1 x2) := by
  intro x0 x1 x2
  unfold msixWrite
  extract_lets +onlyGivenNames -underBinder y1
  try clear_value y1
  extract_lets +onlyGivenNames -underBinder y2
  try clear_value y2
  refine Frame.ite ?_ ?_
  · refine Frame.step ?_ (deliverMsix_frame _) (by rfl)
    exact Frame.upd (Frame.refl _ _) rfl rfl
  · extract_lets +onlyGivenNames -underBinder y3
    try clear_value y3
    exact Frame.upd (Frame.refl _ _) rfl rfl

/-- What `registerWrite` can change. -/
theorem registerWrite_frame : ∀ x0 x1 x2, Frame [.glb, .link, .rings, .cnt, .execs, .parked, .src, .quires, .reqs, .ports, .th, .sp, .spr, .press, .rst, .otp, .mgt, .bg, .out] x2 (registerWrite x0 x1 x2) := by
  intro x0 x1 x2
  unfold registerWrite
  extract_lets +onlyGivenNames -underBinder y1
  try clear_value y1
  refine Frame.ite ?_ ?_
  · exact (glbErr_frame _ _).mono rfl
  · split
    · exact (glbErr_frame _ _).mono rfl
    · exact (glbWrite_frame _ _ _).mono rfl
    · exact (rstWrite_frame _ _ _).mono rfl
    · exact (otpWrite_frame _ _ _).mono rfl
    · exact (thmWrite_frame _ _ _).mono rfl
    · exact (encWrite_frame _ _ _ _).mono rfl
    · exact (quireWrite_frame _ _ _ _).mono rfl
    · exact (spnWrite_frame _ _ _).mono rfl
    · exact (canWrite_frame _ _ _).mono rfl
    · exact Frame.refl _ _
    · exact (ringWrite_frame _ _ _ _).mono rfl
    · exact (winWrite_frame _ _ _ _).mono rfl
    · exact (winWrite_frame _ _ _ _).mono rfl
    · exact (msixWrite_frame _ _ _).mono rfl
    · exact Frame.refl _ _

/-- What `wideAccess` can change. -/
theorem wideAccess_frame : ∀ x0 x1 x2 x3, Frame [.link, .cnt, .out] x3 (wideAccess x0 x1 x2 x3) := by
  intro x0 x1 x2 x3
  unfold wideAccess
  refine Frame.ite ?_ ?_
  · refine Frame.ite ?_ ?_
    · exact Frame.step ((msixWrite_frame _ _ _).mono rfl) (msixWrite_frame _ _ _) (by rfl)
    · exact Frame.refl _ _
  · exact Frame.step ((State.emit_frame _ _).mono rfl) (State.emit_frame _ _) (by rfl)

/-- What `barAccessInvalid` can change. -/
theorem barAccessInvalid_frame : ∀ x0 x1 x2 x3 x4, Frame [.glb, .link, .cnt, .out] x4 (barAccessInvalid x0 x1 x2 x3 x4) := by
  intro x0 x1 x2 x3 x4
  unfold barAccessInvalid
  refine Frame.ite ?_ ?_
  · refine Frame.ite ?_ ?_
    · exact (wideAccess_frame _ _ _ _).mono rfl
    · exact Frame.refl _ _
  · extract_lets +onlyGivenNames -underBinder y1
    have hy1 : Frame [.glb, .link, .cnt, .out] x4 y1 := (glbErr_frame _ _).mono rfl
    try clear_value y1
    refine Frame.ite ?_ ?_
    · assumption
    · exact Frame.step (by assumption) (State.emit_frame _ _) (by rfl)

/-- What `answer` can change. -/
theorem answer_frame : ∀ x0 x1 x2, Frame [.out] x0 (answer x0 x1 x2) := by
  intro x0 x1 x2
  unfold answer
  exact (State.emit_frame _ _).mono rfl

/-- What `pwStatusRead` can change. -/
theorem pwStatusRead_frame : ∀ x0 x1, Frame [.out] x1 (pwStatusRead x0 x1) := by
  intro x0 x1
  unfold pwStatusRead
  exact (answer_frame _ _ _).mono rfl

/-- What `encRawLoRead` can change. -/
theorem encRawLoRead_frame : ∀ x0 x1, Frame [.src, .out] x1 (encRawLoRead x0 x1) := by
  intro x0 x1
  unfold encRawLoRead
  extract_lets +onlyGivenNames -underBinder y1
  try clear_value y1
  extract_lets +onlyGivenNames -underBinder y2
  try clear_value y2
  exact Frame.step ((State.modSrc_frame _ _ _).mono rfl) (answer_frame _ _ _) (by rfl)

/-- What `quireLowHalfRead` can change. -/
theorem quireLowHalfRead_frame : ∀ x0 x1 x2, Frame [.quires, .out] x2 (quireLowHalfRead x0 x1 x2) := by
  intro x0 x1 x2
  unfold quireLowHalfRead
  extract_lets +onlyGivenNames -underBinder y1
  try clear_value y1
  exact Frame.step ((State.modQuire_frame _ _ _).mono rfl) (answer_frame _ _ _) (by rfl)

/-- What `glbTbLoRead` can change. -/
theorem glbTbLoRead_frame : ∀ x0, Frame [.glb, .out] x0 (glbTbLoRead x0) := by
  intro x0
  unfold glbTbLoRead
  refine Frame.step ?_ (answer_frame _ _ _) (by rfl)
  exact Frame.upd (Frame.refl _ _) rfl rfl

/-! ### SpineEnum -/

/-- What `State.modEnum` can change. -/
theorem State.modEnum_frame : ∀ x0 x1, Frame [.sp] x0 (State.modEnum x0 x1) := by
  intro x0 x1
  unfold State.modEnum
  exact Frame.upd (Frame.refl _ _) rfl rfl

/-- What `startEnum` can change. -/
theorem startEnum_frame : ∀ x0 x1 x2 x3, Frame [.sp] x0 (startEnum x0 x1 x2 x3) := by
  intro x0 x1 x2 x3
  unfold startEnum
  exact Frame.upd (Frame.refl _ _) rfl rfl

/-- What `sendProbe` can change. -/
theorem sendProbe_frame : ∀ x0 x1, Frame [.sp, .spr, .out] x0 (sendProbe x0 x1) := by
  intro x0 x1
  unfold sendProbe
  exact Frame.step ((State.modEnum_frame _ _).mono rfl) (sendLink_frame _ _ _ _) (by rfl)

/-- What `versionHold` can change. -/
theorem versionHold_frame : ∀ x0 x1, Frame [.link, .rings, .cnt, .parked, .sp, .spr, .out] x0 (versionHold x0 x1) := by
  intro x0 x1
  unfold versionHold
  extract_lets +onlyGivenNames -underBinder y1
  try clear_value y1
  extract_lets +onlyGivenNames -underBinder y2
  have hy2 : ∀ a0y2 a1y2, Frame [.link, .rings, .cnt, .parked, .sp, .spr, .out] a0y2 (y2 a0y2 a1y2) := by
    intro a0y2 a1y2
    unfold y2
    exact Frame.step ((spnEvent_frame _ _).mono rfl) (raise_frame _ _ _ _ _ _) (by rfl)
  try clear_value y2
  extract_lets +onlyGivenNames -underBinder y3
  try clear_value y3
  extract_lets +onlyGivenNames -underBinder y4
  have hy4 : Frame [.link, .rings, .cnt, .parked, .sp, .spr, .out] x0 y4 := Frame.upd (Frame.refl _ _) rfl rfl
  try clear_value y4
  refine Frame.ite ?_ ?_
  · refine Frame.trans ?_ (hy2 _ _)
    assumption
  · refine Frame.ite ?_ ?_
    · refine Frame.trans ?_ (hy2 _ _)
      assumption
    · assumption

/-- What `enumEnd` can change. -/
theorem enumEnd_frame : ∀ x0 x1, Frame [.link, .rings, .cnt, .execs, .parked, .page, .sp, .spr, .flash, .out, .draws] x0 (enumEnd x0 x1) := by
  intro x0 x1
  unfold enumEnd
  extract_lets +onlyGivenNames -underBinder y1
  try clear_value y1
  extract_lets +onlyGivenNames -underBinder y2
  try clear_value y2
  extract_lets +onlyGivenNames -underBinder y3
  try clear_value y3
  extract_lets +onlyGivenNames -underBinder y4
  try clear_value y4
  extract_lets +onlyGivenNames -underBinder y5
  have hy5 : Frame [.link, .rings, .cnt, .execs, .parked, .page, .sp, .spr, .flash, .out, .draws] x0 y5 := by
    refine Frame.step ?_ (spnEvent_frame _ _) (by rfl)
    exact Frame.upd (Frame.refl _ _) rfl rfl
  try clear_value y5
  refine Frame.ite ?_ ?_
  · extract_lets +onlyGivenNames -underBinder y6
    try clear_value y6
    extract_lets +onlyGivenNames -underBinder y7
    have hy7 : Frame [.link, .rings, .cnt, .execs, .parked, .page, .sp, .spr, .flash, .out, .draws] x0 y7 := by
      refine Frame.step ?_ (versionHold_frame _ _) (by rfl)
      refine Frame.step ?_ (setSpvOp_frame _ _) (by rfl)
      exact Frame.upd (by assumption) rfl rfl
    try clear_value y7
    extract_lets +onlyGivenNames -underBinder y8
    have hy8 : Frame [.link, .rings, .cnt, .execs, .parked, .page, .sp, .spr, .flash, .out, .draws] x0 y8 := Frame.step (Frame.step (Frame.step (by assumption) (faultEdge_frame _) (by rfl)) (updateDemand_frame _) (by rfl)) (sendSync_frame _) (by rfl)
    try clear_value y8
    exact Frame.step (by assumption) (endAll_frame _ _ _ _) (by rfl)
  · exact Frame.step (Frame.step (by assumption) (sendLink_frame _ _ _ _) (by rfl)) (updateDemand_frame _) (by rfl)

/-- What `noMember` can change. -/
theorem noMember_frame : ∀ x0 x1, Frame [.sp, .spr] x0 (noMember x0 x1) := by
  intro x0 x1
  unfold noMember
  extract_lets +onlyGivenNames -underBinder y1
  try clear_value y1
  refine Frame.step ?_ (State.modYobor_frame _ _ _) (by rfl)
  exact Frame.upd (Frame.refl _ _) rfl rfl

/-- What `enumB` can change. -/
theorem enumB_frame : ∀ x0, Frame [.link, .rings, .cnt, .execs, .parked, .page, .sp, .spr, .flash, .out, .draws] x0 (enumB x0) := by
  intro x0
  unfold enumB
  refine Frame.ite ?_ ?_
  · exact (sendProbe_frame _ _).mono rfl
  · split
    · exact Frame.step ((noMember_frame _ _).mono rfl) (enumEnd_frame _ _) (by rfl)
    · exact Frame.refl _ _

/-- What `enumA` can change. -/
theorem enumA_frame : ∀ x0, Frame [.link, .rings, .cnt, .execs, .parked, .page, .sp, .spr, .flash, .out, .draws] x0 (enumA x0) := by
  intro x0
  unfold enumA
  refine Frame.ite ?_ ?_
  · exact (sendProbe_frame _ _).mono rfl
  · exact Frame.step ((noMember_frame _ _).mono rfl) (enumB_frame _) (by rfl)

/-- What `enumNext` can change. -/
theorem enumNext_frame : ∀ x0, Frame [.link, .rings, .cnt, .execs, .parked, .page, .sp, .spr, .flash, .out, .draws] x0 (enumNext x0) := by
  intro x0
  unfold enumNext
  split
  · exact Frame.refl _ _
  · split
    · exact (enumB_frame _).mono rfl
    · exact (enumEnd_frame _ _).mono rfl
    · exact (enumEnd_frame _ _).mono rfl

/-- What `enumTimedOut` can change. -/
theorem enumTimedOut_frame : ∀ x0 x1, Frame [.link, .rings, .cnt, .execs, .parked, .page, .sp, .spr, .flash, .out, .draws] x0 (enumTimedOut x0 x1) := by
  intro x0 x1
  unfold enumTimedOut
  split
  · exact Frame.refl _ _
  · exact Frame.step (Frame.step ((noMember_frame _ _).mono rfl) (State.modEnum_frame _ _) (by rfl)) (enumNext_frame _) (by rfl)

/-- What `afterLink` can change. -/
theorem afterLink_frame : ∀ x0 x1 x2, Frame [.link, .rings, .cnt, .execs, .parked, .page, .sp, .spr, .flash, .out, .draws] x1 (afterLink x0 x1 x2) := by
  intro x0 x1 x2
  unfold afterLink
  refine Frame.ite ?_ ?_
  · exact (enumTimedOut_frame _ _).mono rfl
  · exact Frame.refl _ _

/-- What `enuProbeRx` can change. -/
theorem enuProbeRx_frame : ∀ x0 x1 x2, Frame [.sp, .spr, .out] x2 (enuProbeRx x0 x1 x2) := by
  intro x0 x1 x2
  unfold enuProbeRx
  refine Frame.ite ?_ ?_
  · exact Frame.refl _ _
  · refine cellIn_frame _ _ _ _ _ (by rfl) ?_
    refine Frame.ite ?_ ?_
    · exact Frame.refl _ _
    · extract_lets +onlyGivenNames -underBinder y1
      try clear_value y1
      extract_lets +onlyGivenNames -underBinder y2
      try clear_value y2
      extract_lets +onlyGivenNames -underBinder y3
      try clear_value y3
      extract_lets +onlyGivenNames -underBinder y4
      try clear_value y4
      extract_lets +onlyGivenNames -underBinder y5
      have hy5 : Frame [.sp, .spr, .out] x2 y5 := Frame.upd (Frame.refl _ _) rfl rfl
      try clear_value y5
      extract_lets +onlyGivenNames -underBinder y6
      have hy6 : ∀ a0y6, Frame [.sp, .spr, .out] x2 (y6 a0y6) := by
        intro a0y6
        unfold y6
        exact Frame.step (by assumption) (sendLink_frame _ _ _ _) (by rfl)
      try clear_value y6
      refine Frame.ite ?_ ?_
      · exact hy6 _
      · refine Frame.ite ?_ ?_
        · exact hy6 _
        · exact Frame.step (by assumption) (sendLink_frame _ _ _ _) (by rfl)

/-- What `enuReplyRx` can change. -/
theorem enuReplyRx_frame : ∀ x0 x1 x2, Frame [.link, .rings, .cnt, .execs, .parked, .page, .sp, .spr, .flash, .out, .draws] x2 (enuReplyRx x0 x1 x2) := by
  intro x0 x1 x2
  unfold enuReplyRx
  refine cellIn_frame _ _ _ _ _ (by rfl) ?_
  split
  · exact Frame.refl _ _
  · refine Frame.ite ?_ ?_
    · exact Frame.refl _ _
    · refine Frame.ite ?_ ?_
      · exact (enumTimedOut_frame _ _).mono rfl
      · extract_lets +onlyGivenNames -underBinder y1
        have hy1 : Frame [.link, .rings, .cnt, .execs, .parked, .page, .sp, .spr, .flash, .out, .draws] x2 y1 := (State.modEnum_frame _ _).mono rfl
        try clear_value y1
        exact Frame.step (by assumption) (sendLink_frame _ _ _ _) (by rfl)

/-- What `enuAssignRx` can change. -/
theorem enuAssignRx_frame : ∀ x0 x1 x2, Frame [.link, .rings, .cnt, .execs, .parked, .page, .sp, .spr, .flash, .out, .draws] x2 (enuAssignRx x0 x1 x2) := by
  intro x0 x1 x2
  unfold enuAssignRx
  refine Frame.ite ?_ ?_
  · exact Frame.refl _ _
  · refine cellIn_frame _ _ _ _ _ (by rfl) ?_
    refine Frame.ite ?_ ?_
    · exact Frame.refl _ _
    · extract_lets +onlyGivenNames -underBinder y1
      try clear_value y1
      extract_lets +onlyGivenNames -underBinder y2
      have hy2 : Frame [.link, .rings, .cnt, .execs, .parked, .page, .sp, .spr, .flash, .out, .draws] x2 y2 := by
        refine Frame.step ?_ (setSpvOp_frame _ _) (by rfl)
        exact Frame.upd (Frame.refl _ _) rfl rfl
      try clear_value y2
      exact Frame.step (Frame.step (by assumption) (startEnum_frame _ _ _ _) (by rfl)) (enumA_frame _) (by rfl)

/-- What `enuDoneRx` can change. -/
theorem enuDoneRx_frame : ∀ x0 x1 x2, Frame [.link, .rings, .cnt, .execs, .parked, .page, .sp, .spr, .flash, .out, .draws] x2 (enuDoneRx x0 x1 x2) := by
  intro x0 x1 x2
  unfold enuDoneRx
  refine cellIn_frame _ _ _ _ _ (by rfl) ?_
  split
  · exact Frame.refl _ _
  · split
    · exact Frame.refl _ _
    · refine Frame.ite ?_ ?_
      · exact Frame.refl _ _
      · extract_lets +onlyGivenNames -underBinder y1
        try clear_value y1
        extract_lets +onlyGivenNames -underBinder y2
        try clear_value y2
        extract_lets +onlyGivenNames -underBinder y3
        have hy3 : Frame [.link, .rings, .cnt, .execs, .parked, .page, .sp, .spr, .flash, .out, .draws] x2 y3 := (State.modYobor_frame _ _ _).mono rfl
        try clear_value y3
        exact Frame.step (Frame.step (by assumption) (State.modEnum_frame _ _) (by rfl)) (enumNext_frame _) (by rfl)

/-- What `enuRefuseRx` can change. -/
theorem enuRefuseRx_frame : ∀ x0 x1 x2, Frame [.link, .rings, .cnt, .execs, .parked, .page, .sp, .spr, .flash, .out, .draws] x2 (enuRefuseRx x0 x1 x2) := by
  intro x0 x1 x2
  unfold enuRefuseRx
  refine cellIn_frame _ _ _ _ _ (by rfl) ?_
  split
  · exact Frame.refl _ _
  · refine Frame.ite ?_ ?_
    · exact Frame.refl _ _
    · extract_lets +onlyGivenNames -underBinder y1
      have hy1 : Frame [.link, .rings, .cnt, .execs, .parked, .page, .sp, .spr, .flash, .out, .draws] x2 y1 := Frame.step ((leaveUp_frame _ _ _ _).mono rfl) (noMember_frame _ _) (by rfl)
      try clear_value y1
      exact Frame.step (Frame.step (by assumption) (State.modEnum_frame _ _) (by rfl)) (enumNext_frame _) (by rfl)

/-- What `enuProbeTimeout` can change. -/
theorem enuProbeTimeout_frame : ∀ x0 x1, Frame [.clk, .tb, .link, .rings, .cnt, .execs, .parked, .page, .sp, .spr, .flash, .out, .draws] x1 (enuProbeTimeout x0 x1) := by
  intro x0 x1
  unfold enuProbeTimeout
  split
  · exact Frame.refl _ _
  · refine Frame.ite ?_ ?_
    · exact Frame.refl _ _
    · exact Frame.step ((State.advanceTo_frame _ _).mono rfl) (enumTimedOut_frame _ _) (by rfl)

/-- What `setSpine` can change. -/
theorem setSpine_frame : ∀ x0 x1, Frame [.sp, .spr, .out] x0 (setSpine x0 x1) := by
  intro x0 x1
  unfold setSpine
  extract_lets +onlyGivenNames -underBinder y1
  try clear_value y1
  refine Frame.step ?_ (updateDemand_frame _) (by rfl)
  refine Frame.step ?_ (faultEdge_frame _) (by rfl)
  exact Frame.upd (Frame.refl _ _) rfl rfl

/-- What `spineConfig` can change. -/
theorem spineConfig_frame : ∀ x0 x1 x2, Frame [.link, .rings, .cnt, .waiting, .parked, .sp, .spr, .out] x2 (spineConfig x0 x1 x2) := by
  intro x0 x1 x2
  unfold spineConfig
  refine plainCmd_frame _ _ _ _ _ _ _ (by rfl) ?_
  exact (setSpine_frame _ _).mono rfl

/-- What `enumerateTree` can change. -/
theorem enumerateTree_frame : ∀ x0 x1 x2, Frame [.link, .rings, .cnt, .execs, .parked, .page, .sp, .spr, .flash, .out, .nextId, .draws] x0 (enumerateTree x0 x1 x2) := by
  intro x0 x1 x2
  unfold enumerateTree
  extract_lets +onlyGivenNames -underBinder y1
  have hy1 : Frame [.link, .rings, .cnt, .execs, .parked, .page, .sp, .spr, .flash, .out, .nextId, .draws] x0 y1 := (beginExec_frame _ _ _ _ _ _).mono rfl
  try clear_value y1
  extract_lets +onlyGivenNames -underBinder y2
  try clear_value y2
  extract_lets +onlyGivenNames -underBinder y3
  have hy3 : Frame [.link, .rings, .cnt, .execs, .parked, .page, .sp, .spr, .flash, .out, .nextId, .draws] x0 y3 := Frame.upd (by assumption) rfl rfl
  try clear_value y3
  exact Frame.step (Frame.step (by assumption) (startEnum_frame _ _ _ _) (by rfl)) (enumA_frame _) (by rfl)

/-- What `spineEnumerate` can change. -/
theorem spineEnumerate_frame : ∀ x0 x1 x2, Frame [.link, .rings, .cnt, .execs, .waiting, .parked, .page, .sp, .spr, .flash, .out, .nextId, .draws] x2 (spineEnumerate x0 x1 x2) := by
  intro x0 x1 x2
  unfold spineEnumerate
  refine command_frame _ _ _ _ _ _ _ _ (by rfl) ?_ ?_
  · exact (complete_frame _ _ _ _).mono rfl
  · exact (enumerateTree_frame _ _ _).mono rfl

/-- What `spineQuery` can change. -/
theorem spineQuery_frame : ∀ x0 x1 x2, Frame [.link, .rings, .cnt, .waiting, .parked, .sp, .spr, .mgt, .out] x2 (spineQuery x0 x1 x2) := by
  intro x0 x1 x2
  unfold spineQuery
  extract_lets +onlyGivenNames -underBinder y1
  try clear_value y1
  exact reportCmd_frame _ _ _ _ _ _ _ _ _ (by rfl)

/-- What `remoteEncBind` can change. -/
theorem remoteEncBind_frame : ∀ x0 x1 x2, Frame [.link, .rings, .cnt, .waiting, .parked, .src, .sp, .spr, .out] x2 (remoteEncBind x0 x1 x2) := by
  intro x0 x1 x2
  unfold remoteEncBind
  extract_lets +onlyGivenNames -underBinder y1
  try clear_value y1
  extract_lets +onlyGivenNames -underBinder y2
  try clear_value y2
  refine plainCmd_frame _ _ _ _ _ _ _ (by rfl) ?_
  exact Frame.step ((holdTracked_frame _ _).mono rfl) (State.modSrc_frame _ _ _) (by rfl)

/-! ### Supply -/

/-- What `writeSafeFall` can change. -/
theorem writeSafeFall_frame : ∀ x0 x1 x2, Frame [.glb, .link, .rings, .cnt, .execs, .parked, .quires, .reqs, .ports, .th, .sp, .spr, .flash, .otp, .mgt, .bg, .out, .draws] x0 (writeSafeFall x0 x1 x2) := by
  intro x0 x1 x2
  unfold writeSafeFall
  extract_lets +onlyGivenNames -underBinder y1
  try clear_value y1
  extract_lets +onlyGivenNames -underBinder y2
  try clear_value y2
  extract_lets +onlyGivenNames -underBinder y3
  have hy3 : Frame [.glb, .link, .rings, .cnt, .execs, .parked, .quires, .reqs, .ports, .th, .sp, .spr, .flash, .otp, .mgt, .bg, .out, .draws] x0 y3 := by
    refine Frame.step ?_ (supplyEvent_frame _ _ _ _ _ _) (by rfl)
    exact Frame.upd (Frame.refl _ _) rfl rfl
  try clear_value y3
  extract_lets +onlyGivenNames -underBinder y4
  have hy4 : Frame [.glb, .link, .rings, .cnt, .execs, .parked, .quires, .reqs, .ports, .th, .sp, .spr, .flash, .otp, .mgt, .bg, .out, .draws] x0 y4 := Frame.step (by assumption) (otpSupplyLow_frame _) (by rfl)
  try clear_value y4
  extract_lets +onlyGivenNames -underBinder y5
  try clear_value y5
  extract_lets +onlyGivenNames -underBinder y6
  have hy6 : Frame [.glb, .link, .rings, .cnt, .execs, .parked, .quires, .reqs, .ports, .th, .sp, .spr, .flash, .otp, .mgt, .bg, .out, .draws] x0 y6 := by
    refine Frame.ite ?_ ?_
    · exact Frame.upd (by assumption) rfl rfl
    · assumption
  try clear_value y6
  refine forAll_frame ?_ (fun t7 _ => ?_)
  · assumption
  · exact (pumpHead_frame _ _).mono rfl

/-- What `writeSafeRise` can change. -/
theorem writeSafeRise_frame : ∀ x0 x1 x2, Frame [.link, .rings, .cnt, .parked, .sp, .spr, .flash, .out] x0 (writeSafeRise x0 x1 x2) := by
  intro x0 x1 x2
  unfold writeSafeRise
  refine Frame.step ?_ (supplyEvent_frame _ _ _ _ _ _) (by rfl)
  exact Frame.upd (Frame.refl _ _) rfl rfl

/-- What `writeSafeEdge` can change. -/
theorem writeSafeEdge_frame : ∀ x0 x1 x2 x3, Frame [.glb, .link, .rings, .cnt, .execs, .parked, .quires, .reqs, .ports, .th, .sp, .spr, .flash, .otp, .mgt, .bg, .out, .draws] x1 (writeSafeEdge x0 x1 x2 x3) := by
  intro x0 x1 x2 x3
  unfold writeSafeEdge
  refine Frame.ite ?_ ?_
  · exact Frame.refl _ _
  · refine Frame.ite ?_ ?_
    · exact (writeSafeFall_frame _ _ _).mono rfl
    · exact (writeSafeRise_frame _ _ _).mono rfl

/-- What `setComparator` can change. -/
theorem setComparator_frame : ∀ x0 x1 x2, Frame [.th] x0 (setComparator x0 x1 x2) := by
  intro x0 x1 x2
  unfold setComparator
  split
  all_goals
    exact Frame.upd (Frame.refl _ _) rfl rfl

/-- What `writeSafeChange` can change. -/
theorem writeSafeChange_frame : ∀ x0 x1 x2 x3, Frame [.glb, .link, .rings, .cnt, .execs, .parked, .quires, .reqs, .ports, .th, .sp, .spr, .flash, .otp, .mgt, .bg, .out, .draws] x3 (writeSafeChange x0 x1 x2 x3) := by
  intro x0 x1 x2 x3
  unfold writeSafeChange
  exact Frame.step ((setComparator_frame _ _ _).mono rfl) (writeSafeEdge_frame _ _ _ _) (by rfl)

/-- What `vppPresenceChange` can change. -/
theorem vppPresenceChange_frame : ∀ x0 x1, Frame [.glb, .link, .rings, .cnt, .execs, .parked, .quires, .reqs, .ports, .th, .sp, .spr, .flash, .otp, .mgt, .bg, .out, .draws] x1 (vppPresenceChange x0 x1) := by
  intro x0 x1
  unfold vppPresenceChange
  refine Frame.step ?_ (writeSafeEdge_frame _ _ _ _) (by rfl)
  exact Frame.upd (Frame.refl _ _) rfl rfl

/-! ### Wave -/

/-- What `waveLoad` can change. -/
theorem waveLoad_frame : ∀ x0 x1 x2, Frame [.link, .rings, .cnt, .execs, .waiting, .parked, .ports, .sp, .spr, .mgt, .out, .nextId] x2 (waveLoad x0 x1 x2) := by
  intro x0 x1 x2
  unfold waveLoad
  extract_lets +onlyGivenNames -underBinder y1
  try clear_value y1
  refine Frame.ite ?_ ?_
  · refine plainCmd_frame _ _ _ _ _ _ _ (by rfl) ?_
    exact Frame.step ((State.modPort_frame _ _ _).mono rfl) (measureData_frame _ _ _ _) (by rfl)
  · exact (readCmd_frame _ _ _ _ _ _ _ _ _).mono rfl

/-- What `waveDone` can change. -/
theorem waveDone_frame : ∀ x0 x1 x2, Frame [.link, .rings, .cnt, .execs, .parked, .ports, .sp, .spr, .mgt, .out] x0 (waveDone x0 x1 x2) := by
  intro x0 x1 x2
  unfold waveDone
  extract_lets +onlyGivenNames -underBinder y1
  try clear_value y1
  extract_lets +onlyGivenNames -underBinder y2
  try clear_value y2
  extract_lets +onlyGivenNames -underBinder y3
  try clear_value y3
  extract_lets +onlyGivenNames -underBinder y4
  try clear_value y4
  extract_lets +onlyGivenNames -underBinder y5
  try clear_value y5
  refine dataDone_frame _ _ _ _ _ (by rfl) ?_
  exact Frame.step (Frame.step ((State.modPort_frame _ _ _).mono rfl) (measureData_frame _ _ _ _) (by rfl)) (endExec_frame _ _ _ _) (by rfl)

/-- What `levelMapLoad` can change. -/
theorem levelMapLoad_frame : ∀ x0 x1 x2, Frame [.link, .rings, .cnt, .execs, .waiting, .parked, .ports, .sp, .spr, .mgt, .out, .nextId] x2 (levelMapLoad x0 x1 x2) := by
  intro x0 x1 x2
  unfold levelMapLoad
  extract_lets +onlyGivenNames -underBinder y1
  try clear_value y1
  extract_lets +onlyGivenNames -underBinder y2
  try clear_value y2
  refine command_frame _ _ _ _ _ _ _ _ (by rfl) ?_ ?_
  · exact (complete_frame _ _ _ _).mono rfl
  · exact (shadowNow_frame _ _ _ _ _).mono rfl

/-- What `waveTcompLoad` can change. -/
theorem waveTcompLoad_frame : ∀ x0 x1 x2, Frame [.link, .rings, .cnt, .execs, .waiting, .parked, .sp, .spr, .out, .nextId] x2 (waveTcompLoad x0 x1 x2) := by
  intro x0 x1 x2
  unfold waveTcompLoad
  extract_lets +onlyGivenNames -underBinder y1
  try clear_value y1
  extract_lets +onlyGivenNames -underBinder y2
  try clear_value y2
  extract_lets +onlyGivenNames -underBinder y3
  try clear_value y3
  exact (readCmd_frame _ _ _ _ _ _ _ _ _).mono rfl

/-- What `tcompDone` can change. -/
theorem tcompDone_frame : ∀ x0 x1 x2, Frame [.link, .rings, .cnt, .execs, .parked, .ports, .sp, .spr, .mgt, .out] x0 (tcompDone x0 x1 x2) := by
  intro x0 x1 x2
  unfold tcompDone
  extract_lets +onlyGivenNames -underBinder y1
  try clear_value y1
  extract_lets +onlyGivenNames -underBinder y2
  try clear_value y2
  extract_lets +onlyGivenNames -underBinder y3
  try clear_value y3
  exact (loadDone_frame _ _ _ _).mono rfl

/-- What `levelMapTransfer` can change. -/
theorem levelMapTransfer_frame : ∀ x0 x1 x2, Frame [.ports, .out] x2 (levelMapTransfer x0 x1 x2) := by
  intro x0 x1 x2
  unfold levelMapTransfer
  extract_lets +onlyGivenNames -underBinder y1
  try clear_value y1
  extract_lets +onlyGivenNames -underBinder y2
  try clear_value y2
  refine Frame.ite ?_ ?_
  · exact (sendMap_frame _ _ _).mono rfl
  · exact Frame.refl _ _

/-! ### Transfer -/

/-- What `finishRead` can change. -/
theorem finishRead_frame : ∀ x0 x1 x2, Frame [.glb, .link, .rings, .cnt, .execs, .parked, .quires, .reqs, .ports, .tiles, .masks, .page, .th, .sp, .spr, .flash, .mgt, .bg, .out] x0 (finishRead x0 x1 x2) := by
  intro x0 x1 x2
  unfold finishRead
  split
  · exact (headmemWriteDone_frame _ _ _).mono rfl
  · exact (profileDone_frame _ _ _).mono rfl
  · exact (waveDone_frame _ _ _).mono rfl
  · exact (tcompDone_frame _ _ _).mono rfl
  · exact (tileDone_frame _ _ _ _).mono rfl
  · exact (nucDone_frame _ _ _).mono rfl
  · exact (delayDone_frame _ _ _).mono rfl
  · exact (tileDone_frame _ _ _ _).mono rfl
  · exact (nozMapDone_frame _ _ _).mono rfl
  · exact (learnLoaded_frame _ _ _).mono rfl
  · exact (fwStaged_frame _ _ _).mono rfl
  · exact (loopbackDone_frame _ _ _).mono rfl
  · exact (pageFillDone_frame _ _ _).mono rfl
  · exact Frame.refl _ _

/-- What `execTransferred` can change. -/
theorem execTransferred_frame : ∀ x0 x1 x2, Frame [.glb, .link, .rings, .cnt, .execs, .parked, .quires, .reqs, .ports, .tiles, .masks, .page, .th, .sp, .spr, .flash, .mgt, .bg, .out] x0 (execTransferred x0 x1 x2) := by
  intro x0 x1 x2
  unfold execTransferred
  refine Frame.ite ?_ ?_
  · exact (finishRead_frame _ _ _).mono rfl
  · exact (endExec_frame _ _ _ _).mono rfl

/-- What `dmaTransferDone` can change. -/
theorem dmaTransferDone_frame : ∀ x0 x1 x2, Frame [.glb, .link, .rings, .cnt, .execs, .parked, .gdma, .quires, .reqs, .ports, .tiles, .masks, .page, .th, .sp, .spr, .flash, .mgt, .bg, .out] x2 (dmaTransferDone x0 x1 x2) := by
  intro x0 x1 x2
  unfold dmaTransferDone
  split
  · exact (execTransferred_frame _ _ _).mono rfl
  · exact (gdmaDone_frame _ _ _ _).mono rfl
  · exact (relayRead_frame _ _ _).mono rfl
  · exact Frame.refl _ _

/-- What `mgtRdDataRx` can change. -/
theorem mgtRdDataRx_frame : ∀ x0 x1 x2, Frame [.glb, .link, .rings, .cnt, .execs, .parked, .quires, .reqs, .ports, .tiles, .masks, .page, .th, .sp, .spr, .flash, .mgt, .bg, .out] x2 (mgtRdDataRx x0 x1 x2) := by
  intro x0 x1 x2
  unfold mgtRdDataRx
  refine mgtIn_frame _ _ _ _ _ (by rfl) ?_
  split
  · exact Frame.refl _ _
  · extract_lets +onlyGivenNames -underBinder y1
    try clear_value y1
    refine Frame.ite ?_ ?_
    · exact Frame.refl _ _
    · refine Frame.ite ?_ ?_
      · exact (finishRead_frame _ _ _).mono rfl
      · exact (State.modExec_frame _ _ _).mono rfl

/-- What `mgtWrAckRx` can change. -/
theorem mgtWrAckRx_frame : ∀ x0 x1 x2, Frame [.link, .rings, .cnt, .execs, .parked, .page, .sp, .spr, .flash, .out, .draws] x2 (mgtWrAckRx x0 x1 x2) := by
  intro x0 x1 x2
  unfold mgtWrAckRx
  refine mgtIn_frame _ _ _ _ _ (by rfl) ?_
  split
  · exact Frame.refl _ _
  · refine Frame.ite ?_ ?_
    · exact (cutExec_frame _ _).mono rfl
    · refine Frame.ite ?_ ?_
      · exact Frame.refl _ _
      · refine Frame.ite ?_ ?_
        · exact (endExec_frame _ _ _ _).mono rfl
        · exact (State.modExec_frame _ _ _).mono rfl

/-- What `entryReadFails` can change. -/
theorem entryReadFails_frame : ∀ x0 x1, Frame [.rings] x0 (entryReadFails x0 x1) := by
  intro x0 x1
  unfold entryReadFails
  exact Frame.step ((State.modRing_frame _ _ _).mono rfl) (haltRing_frame _ _ _) (by rfl)

/-- What `bandReadFails` can change. -/
theorem bandReadFails_frame : ∀ x0 x1, Frame [.link, .rings, .cnt, .parked, .ports, .out] x0 (bandReadFails x0 x1) := by
  intro x0 x1
  unfold bandReadFails
  split
  · exact Frame.refl _ _
  · extract_lets +onlyGivenNames -underBinder y1
    try clear_value y1
    extract_lets +onlyGivenNames -underBinder y2
    try clear_value y2
    extract_lets +onlyGivenNames -underBinder y3
    have hy3 : Frame [.link, .rings, .cnt, .parked, .ports, .out] x0 y3 := Frame.step ((writeCpl_frame _ _ _ _ _ _ _).mono rfl) (haltRing_frame _ _ _) (by rfl)
    try clear_value y3
    exact Frame.step (Frame.step (by assumption) (State.modPort_frame _ _ _) (by rfl)) (retireReady_frame _ _) (by rfl)

/-- What `gdmaFails` can change. -/
theorem gdmaFails_frame : ∀ x0 x1, Frame [.link, .rings, .cnt, .parked, .gdma, .page, .out, .draws] x0 (gdmaFails x0 x1) := by
  intro x0 x1
  unfold gdmaFails
  split
  · exact Frame.refl _ _
  · extract_lets +onlyGivenNames -underBinder y1
    try clear_value y1
    exact Frame.step (Frame.step (Frame.step ((State.draw_frame _).mono rfl) (cutGdma_frame _ _) (by rfl)) (gdmaOver_frame _ _ _ _ _) (by rfl)) (haltRing_frame _ _ _) (by rfl)

/-- What `entryWriteFails` can change. -/
theorem entryWriteFails_frame : ∀ x0 x1, Frame [.rings] x0 (entryWriteFails x0 x1) := by
  intro x0 x1
  unfold entryWriteFails
  refine Frame.ite ?_ ?_
  · exact (State.modRing_frame _ _ _).mono rfl
  · exact Frame.refl _ _

/-- What `transferFault` can change. -/
theorem transferFault_frame : ∀ x0 x1, Frame [.link, .rings, .cnt, .execs, .parked, .gdma, .ports, .page, .sp, .spr, .flash, .out, .draws] x0 (transferFault x0 x1) := by
  intro x0 x1
  unfold transferFault
  split
  · split
    · exact (cutExec_frame _ _).mono rfl
    · exact Frame.step ((dropPart_frame _ _).mono rfl) (transferFails_frame _ _ _) (by rfl)
    · exact Frame.refl _ _
  · exact (entryReadFails_frame _ _).mono rfl
  · exact (bandReadFails_frame _ _).mono rfl
  · exact (gdmaFails_frame _ _).mono rfl
  · exact (entryWriteFails_frame _ _).mono rfl

/-- What `dmaFault` can change. -/
theorem dmaFault_frame : ∀ x0 x1, Frame [.glb, .link, .rings, .cnt, .execs, .parked, .gdma, .ports, .page, .sp, .spr, .flash, .out, .draws] x1 (dmaFault x0 x1) := by
  intro x0 x1
  unfold dmaFault
  refine Frame.step ?_ (transferFault_frame _ _) (by rfl)
  refine Frame.step ?_ (glbErr_frame _ _) (by rfl)
  exact Frame.upd (Frame.refl _ _) rfl rfl

end Sys2Proof.Machine
end

