-- ==== Sys2Proof/Laws/PerInstr.lean ====
section
/-! SUPPORT. The family Row: the decoder of opcodes (R375) gives back every command from its opcode, header and parameters. One lemma per
constructor of Instr. -/

namespace Sys2Proof.Laws.Row

/-- Where a row is a command, its opcode decodes to it. -/
def Statement (i : Instr) : Prop :=
  ∀ op h p, Machine.opcodeOf i = some (op, h, p) → commandOf op h p = some i

theorem nop (h : CmdHdr) (p : Params) : Statement (.nop h p) := by
  intro op h' p' e; cases e; rfl

theorem getInfo (h : CmdHdr) (p : Params) : Statement (.getInfo h p) := by
  intro op h' p' e; cases e; rfl

theorem setProfile (h : CmdHdr) (p : Params) : Statement (.setProfile h p) := by
  intro op h' p' e; cases e; rfl

theorem selfReset (h : CmdHdr) (p : Params) : Statement (.selfReset h p) := by
  intro op h' p' e; cases e; rfl

theorem setTime (h : CmdHdr) (p : Params) : Statement (.setTime h p) := by
  intro op h' p' e; cases e; rfl

theorem getCounters (h : CmdHdr) (p : Params) : Statement (.getCounters h p) := by
  intro op h' p' e; cases e; rfl

theorem ringCreate (h : CmdHdr) (p : Params) : Statement (.ringCreate h p) := by
  intro op h' p' e; cases e; rfl

theorem ringDestroy (h : CmdHdr) (p : Params) : Statement (.ringDestroy h p) := by
  intro op h' p' e; cases e; rfl

theorem ringResume (h : CmdHdr) (p : Params) : Statement (.ringResume h p) := by
  intro op h' p' e; cases e; rfl

theorem portOpen (h : CmdHdr) (p : Params) : Statement (.portOpen h p) := by
  intro op h' p' e; cases e; rfl

theorem portClose (h : CmdHdr) (p : Params) : Statement (.portClose h p) := by
  intro op h' p' e; cases e; rfl

theorem portConfig (h : CmdHdr) (p : Params) : Statement (.portConfig h p) := by
  intro op h' p' e; cases e; rfl

theorem portQuery (h : CmdHdr) (p : Params) : Statement (.portQuery h p) := by
  intro op h' p' e; cases e; rfl

theorem headmemRead (h : CmdHdr) (p : Params) : Statement (.headmemRead h p) := by
  intro op h' p' e; cases e; rfl

theorem headmemWrite (h : CmdHdr) (p : Params) : Statement (.headmemWrite h p) := by
  intro op h' p' e; cases e; rfl

theorem heaterSet (h : CmdHdr) (p : Params) : Statement (.heaterSet h p) := by
  intro op h' p' e; cases e; rfl

theorem headProfileLoad (h : CmdHdr) (p : Params) : Statement (.headProfileLoad h p) := by
  intro op h' p' e; cases e; rfl

theorem encConfig (h : CmdHdr) (p : Params) : Statement (.encConfig h p) := by
  intro op h' p' e; cases e; rfl

theorem encQuery (h : CmdHdr) (p : Params) : Statement (.encQuery h p) := by
  intro op h' p' e; cases e; rfl

theorem encPreset (h : CmdHdr) (p : Params) : Statement (.encPreset h p) := by
  intro op h' p' e; cases e; rfl

theorem quireBind (h : CmdHdr) (p : Params) : Statement (.quireBind h p) := by
  intro op h' p' e; cases e; rfl

theorem sosConfig (h : CmdHdr) (p : Params) : Statement (.sosConfig h p) := by
  intro op h' p' e; cases e; rfl

theorem jobDefine (h : CmdHdr) (p : Params) : Statement (.jobDefine h p) := by
  intro op h' p' e; cases e; rfl

theorem jobArm (h : CmdHdr) (p : Params) : Statement (.jobArm h p) := by
  intro op h' p' e; cases e; rfl

theorem jobStop (h : CmdHdr) (p : Params) : Statement (.jobStop h p) := by
  intro op h' p' e; cases e; rfl

theorem jobAbort (h : CmdHdr) (p : Params) : Statement (.jobAbort h p) := by
  intro op h' p' e; cases e; rfl

theorem jobQuery (h : CmdHdr) (p : Params) : Statement (.jobQuery h p) := by
  intro op h' p' e; cases e; rfl

theorem demandConfig (h : CmdHdr) (p : Params) : Statement (.demandConfig h p) := by
  intro op h' p' e; cases e; rfl

theorem tableCommit (h : CmdHdr) (p : Params) : Statement (.tableCommit h p) := by
  intro op h' p' e; cases e; rfl

theorem waveLoad (h : CmdHdr) (p : Params) : Statement (.waveLoad h p) := by
  intro op h' p' e; cases e; rfl

theorem levelMapLoad (h : CmdHdr) (p : Params) : Statement (.levelMapLoad h p) := by
  intro op h' p' e; cases e; rfl

theorem waveTcompLoad (h : CmdHdr) (p : Params) : Statement (.waveTcompLoad h p) := by
  intro op h' p' e; cases e; rfl

theorem fireOffsetSet (h : CmdHdr) (p : Params) : Statement (.fireOffsetSet h p) := by
  intro op h' p' e; cases e; rfl

theorem screenLoad (h : CmdHdr) (p : Params) : Statement (.screenLoad h p) := by
  intro op h' p' e; cases e; rfl

theorem nucLoad (h : CmdHdr) (p : Params) : Statement (.nucLoad h p) := by
  intro op h' p' e; cases e; rfl

theorem delayLoad (h : CmdHdr) (p : Params) : Statement (.delayLoad h p) := by
  intro op h' p' e; cases e; rfl

theorem maskLoad (h : CmdHdr) (p : Params) : Statement (.maskLoad h p) := by
  intro op h' p' e; cases e; rfl

theorem stitchConfig (h : CmdHdr) (p : Params) : Statement (.stitchConfig h p) := by
  intro op h' p' e; cases e; rfl

theorem deckleSet (h : CmdHdr) (p : Params) : Statement (.deckleSet h p) := by
  intro op h' p' e; cases e; rfl

theorem nozMapSet (h : CmdHdr) (p : Params) : Statement (.nozMapSet h p) := by
  intro op h' p' e; cases e; rfl

theorem nozMapGet (h : CmdHdr) (p : Params) : Statement (.nozMapGet h p) := by
  intro op h' p' e; cases e; rfl

theorem rvsConfig (h : CmdHdr) (p : Params) : Statement (.rvsConfig h p) := by
  intro op h' p' e; cases e; rfl

theorem rvsLearn (h : CmdHdr) (p : Params) : Statement (.rvsLearn h p) := by
  intro op h' p' e; cases e; rfl

theorem compConfig (h : CmdHdr) (p : Params) : Statement (.compConfig h p) := by
  intro op h' p' e; cases e; rfl

theorem wearQuery (h : CmdHdr) (p : Params) : Statement (.wearQuery h p) := by
  intro op h' p' e; cases e; rfl

theorem thermLimits (h : CmdHdr) (p : Params) : Statement (.thermLimits h p) := by
  intro op h' p' e; cases e; rfl

theorem thermQuery (h : CmdHdr) (p : Params) : Statement (.thermQuery h p) := by
  intro op h' p' e; cases e; rfl

theorem sensorSubstitute (h : CmdHdr) (p : Params) : Statement (.sensorSubstitute h p) := by
  intro op h' p' e; cases e; rfl

theorem supplyQuery (h : CmdHdr) (p : Params) : Statement (.supplyQuery h p) := by
  intro op h' p' e; cases e; rfl

theorem spineConfig (h : CmdHdr) (p : Params) : Statement (.spineConfig h p) := by
  intro op h' p' e; cases e; rfl

theorem spineEnumerate (h : CmdHdr) (p : Params) : Statement (.spineEnumerate h p) := by
  intro op h' p' e; cases e; rfl

theorem spineQuery (h : CmdHdr) (p : Params) : Statement (.spineQuery h p) := by
  intro op h' p' e; cases e; rfl

theorem remoteEncBind (h : CmdHdr) (p : Params) : Statement (.remoteEncBind h p) := by
  intro op h' p' e; cases e; rfl

theorem busConfig (h : CmdHdr) (p : Params) : Statement (.busConfig h p) := by
  intro op h' p' e; cases e; rfl

theorem busFilter (h : CmdHdr) (p : Params) : Statement (.busFilter h p) := by
  intro op h' p' e; cases e; rfl

theorem busSend (h : CmdHdr) (p : Params) : Statement (.busSend h p) := by
  intro op h' p' e; cases e; rfl

theorem busQuery (h : CmdHdr) (p : Params) : Statement (.busQuery h p) := by
  intro op h' p' e; cases e; rfl

theorem otpRead (h : CmdHdr) (p : Params) : Statement (.otpRead h p) := by
  intro op h' p' e; cases e; rfl

theorem otpProgram (h : CmdHdr) (p : Params) : Statement (.otpProgram h p) := by
  intro op h' p' e; cases e; rfl

theorem otpSeal (h : CmdHdr) (p : Params) : Statement (.otpSeal h p) := by
  intro op h' p' e; cases e; rfl

theorem otpMarginCheck (h : CmdHdr) (p : Params) : Statement (.otpMarginCheck h p) := by
  intro op h' p' e; cases e; rfl

theorem otpLock (h : CmdHdr) (p : Params) : Statement (.otpLock h p) := by
  intro op h' p' e; cases e; rfl

theorem fwStage (h : CmdHdr) (p : Params) : Statement (.fwStage h p) := by
  intro op h' p' e; cases e; rfl

theorem fwVerify (h : CmdHdr) (p : Params) : Statement (.fwVerify h p) := by
  intro op h' p' e; cases e; rfl

theorem fwActivate (h : CmdHdr) (p : Params) : Statement (.fwActivate h p) := by
  intro op h' p' e; cases e; rfl

theorem fwQuery (h : CmdHdr) (p : Params) : Statement (.fwQuery h p) := by
  intro op h' p' e; cases e; rfl

theorem colophonRead (h : CmdHdr) (p : Params) : Statement (.colophonRead h p) := by
  intro op h' p' e; cases e; rfl

theorem colophonLog (h : CmdHdr) (p : Params) : Statement (.colophonLog h p) := by
  intro op h' p' e; cases e; rfl

theorem loopback (h : CmdHdr) (p : Params) : Statement (.loopback h p) := by
  intro op h' p' e; cases e; rfl

theorem testPattern (h : CmdHdr) (p : Params) : Statement (.testPattern h p) := by
  intro op h' p' e; cases e; rfl

theorem eventConfig (h : CmdHdr) (p : Params) : Statement (.eventConfig h p) := by
  intro op h' p' e; cases e; rfl

theorem backgroundConfig (h : CmdHdr) (p : Params) : Statement (.backgroundConfig h p) := by
  intro op h' p' e; cases e; rfl

theorem pageAlloc (h : CmdHdr) (p : Params) : Statement (.pageAlloc h p) := by
  intro op h' p' e; cases e; rfl

theorem pageFree (h : CmdHdr) (p : Params) : Statement (.pageFree h p) := by
  intro op h' p' e; cases e; rfl

theorem pageFill (h : CmdHdr) (p : Params) : Statement (.pageFill h p) := by
  intro op h' p' e; cases e; rfl

theorem pageQuery (h : CmdHdr) (p : Params) : Statement (.pageQuery h p) := by
  intro op h' p' e; cases e; rfl

theorem registerWrite (off : BitVec 24) (v : U32) : Statement (.registerWrite off v) := by
  intro op h' p' e; cases e

theorem barAccessInvalid (write : Bool) (off : BitVec 24) (a : Access) : Statement (.barAccessInvalid write off a) := by
  intro op h' p' e; cases e

theorem ringCtrlEnable (r : Fin 64) (v : U32) : Statement (.ringCtrlEnable r v) := by
  intro op h' p' e; cases e

theorem ringCtrlResume (r : Fin 64) (v : U32) : Statement (.ringCtrlResume r v) := by
  intro op h' p' e; cases e

theorem ringTailDoorbell (r : Fin 64) (v : U32) : Statement (.ringTailDoorbell r v) := by
  intro op h' p' e; cases e

theorem ringHeadReturn (r : Fin 64) (v : U32) : Statement (.ringHeadReturn r v) := by
  intro op h' p' e; cases e

theorem ringTailRead (r : Fin 64) : Statement (.ringTailRead r) := by
  intro op h' p' e; cases e

theorem pwStatusRead (w : Win) : Statement (.pwStatusRead w) := by
  intro op h' p' e; cases e

theorem pwCmpLowWrite (w : Win) (c : CmpSel) (v : U32) : Statement (.pwCmpLowWrite w c v) := by
  intro op h' p' e; cases e

theorem pwCmpStartHighWrite (w : Win) (v : U32) : Statement (.pwCmpStartHighWrite w v) := by
  intro op h' p' e; cases e

theorem pwCmpStopHighWrite (w : Win) (v : U32) : Statement (.pwCmpStopHighWrite w v) := by
  intro op h' p' e; cases e

theorem pwLateWinWrite (w : Win) (v : U32) : Statement (.pwLateWinWrite w v) := by
  intro op h' p' e; cases e

theorem pwFracOfsWrite (w : Win) (i : Fin 8) (v : U32) : Statement (.pwFracOfsWrite w i v) := by
  intro op h' p' e; cases e

theorem pwLevelCapWrite (w : Win) (v : U32) : Statement (.pwLevelCapWrite w v) := by
  intro op h' p' e; cases e

theorem pwCtrlRetrain (w : Win) (htrOff armClear : Bool) : Statement (.pwCtrlRetrain w htrOff armClear) := by
  intro op h' p' e; cases e

theorem encRawLoRead (n : Fin 4) : Statement (.encRawLoRead n) := by
  intro op h' p' e; cases e

theorem quireLowHalfRead (q : Fin 8) (pr : QuirePair) : Statement (.quireLowHalfRead q pr) := by
  intro op h' p' e; cases e

theorem glbTbLoRead : Statement .glbTbLoRead := by
  intro op h' p' e; cases e

theorem mgtMeasW0Read (n : Fin 8) : Statement (.mgtMeasW0Read n) := by
  intro op h' p' e; cases e

theorem encoderEdge (n : Fin 4) (ch : Chan) (level : Bool) (x : Pulse) (clash : Bool) : Statement (.encoderEdge n ch level x clash) := by
  intro op h' p' e; cases e

theorem indexEdge (n : Fin 4) (level : Bool) (x : Pulse) : Statement (.indexEdge n level x) := by
  intro op h' p' e; cases e

theorem serialFrameStart (n : Fin 4) (idle : Bool) : Statement (.serialFrameStart n idle) := by
  intro op h' p' e; cases e

theorem serialFrameEnd (n : Fin 4) (f : SerialFrame) : Statement (.serialFrameEnd n f) := by
  intro op h' p' e; cases e

theorem encStall (n : Fin 16) : Statement (.encStall n) := by
  intro op h' p' e; cases e

theorem remoteLost (n : Fin 16) : Statement (.remoteLost n) := by
  intro op h' p' e; cases e

theorem lineDue (p : Fin 32) : Statement (.lineDue p) := by
  intro op h' p' e; cases e

theorem lineDecision (p : Fin 32) : Statement (.lineDecision p) := by
  intro op h' p' e; cases e

theorem headLatch (p : Fin 32) (badWords : List Nat) : Statement (.headLatch p badWords) := by
  intro op h' p' e; cases e

theorem playbackStart (p : Fin 32) (c : Chan) (eccBad : Bool) : Statement (.playbackStart p c eccBad) := by
  intro op h' p' e; cases e

theorem playbackEnd (p : Fin 32) (c : Chan) : Statement (.playbackEnd p c) := by
  intro op h' p' e; cases e

theorem probeCaptureEnd (p : Fin 32) (samples : List Int) : Statement (.probeCaptureEnd p samples) := by
  intro op h' p' e; cases e

theorem sosEdge (i : Fin 4) (rising : Bool) (held : Nat) : Statement (.sosEdge i rising held) := by
  intro op h' p' e; cases e

theorem arbiterRequest (src : ReqSource) (sc : ReqScope) (k : ReqKind) : Statement (.arbiterRequest src sc k) := by
  intro op h' p' e; cases e

theorem arbiterWithdraw (src : ReqSource) (sc : ReqScope) : Statement (.arbiterWithdraw src sc) := by
  intro op h' p' e; cases e

theorem bankSwap (q : Fin 8) : Statement (.bankSwap q) := by
  intro op h' p' e; cases e

theorem shadowCopy (p : Fin 32) : Statement (.shadowCopy p) := by
  intro op h' p' e; cases e

theorem quireDrainEnd (q : Fin 8) : Statement (.quireDrainEnd q) := by
  intro op h' p' e; cases e

theorem portDrainEnd (p : Fin 32) : Statement (.portDrainEnd p) := by
  intro op h' p' e; cases e

theorem imageDescFetch (p : Fin 32) (entry : BitVec 256) : Statement (.imageDescFetch p entry) := by
  intro op h' p' e; cases e

theorem bandStaged (p : Fin 32) (data : Bytes) : Statement (.bandStaged p data) := by
  intro op h' p' e; cases e

theorem descRetire (p : Fin 32) : Statement (.descRetire p) := by
  intro op h' p' e; cases e

theorem lineDecode (p : Fin 32) (data : Bytes) (read : PageRead) : Statement (.lineDecode p data read) := by
  intro op h' p' e; cases e

theorem lineScreen (p : Fin 32) : Statement (.lineScreen p) := by
  intro op h' p' e; cases e

theorem tapRefresh (p : Fin 32) : Statement (.tapRefresh p) := by
  intro op h' p' e; cases e

theorem demandEval : Statement .demandEval := by
  intro op h' p' e; cases e

theorem pageTrainingDone (ok : Bool) (rate : Nat) (gib : Nat) : Statement (.pageTrainingDone ok rate gib) := by
  intro op h' p' e; cases e

theorem gdmaDescFetch (c : Fin 8) (entry : BitVec 256) : Statement (.gdmaDescFetch c entry) := by
  intro op h' p' e; cases e

theorem cmdFetch (c : Fin 8) (entry : BitVec 512) : Statement (.cmdFetch c entry) := by
  intro op h' p' e; cases e

theorem catchwordReread (r : Fin 64) (entry : BitVec 512) : Statement (.catchwordReread r entry) := by
  intro op h' p' e; cases e

theorem dmaFault (t : DmaTarget) : Statement (.dmaFault t) := by
  intro op h' p' e; cases e

theorem ringCloseDone (r : Fin 64) : Statement (.ringCloseDone r) := by
  intro op h' p' e; cases e

theorem msixHoldoffEnd (r : Fin 64) : Statement (.msixHoldoffEnd r) := by
  intro op h' p' e; cases e

theorem telemetrySnapshot : Statement .telemetrySnapshot := by
  intro op h' p' e; cases e

theorem hostReset (c : HostResetCause) : Statement (.hostReset c) := by
  intro op h' p' e; cases e

theorem d3hotEntry : Statement .d3hotEntry := by
  intro op h' p' e; cases e

theorem d0Return : Statement .d0Return := by
  intro op h' p' e; cases e

theorem pcieLinkUp (gen : Nat) (width : Nat) (x : HostSettings) : Statement (.pcieLinkUp gen width x) := by
  intro op h' p' e; cases e

theorem headPresenceChange (p : Fin 32) (x : HeldLevel) : Statement (.headPresenceChange p x) := by
  intro op h' p' e; cases e

theorem portBringupDone (p : Fin 32) (till : Nat) : Statement (.portBringupDone p till) := by
  intro op h' p' e; cases e

theorem backChannelStatus (p : Fin 32) (frame : BitVec 64) : Statement (.backChannelStatus p frame) := by
  intro op h' p' e; cases e

theorem headmemReply (p : Fin 32) (head data : Bytes) (crc : U32) : Statement (.headmemReply p head data crc) := by
  intro op h' p' e; cases e

theorem linkLost (p : Fin 32) : Statement (.linkLost p) := by
  intro op h' p' e; cases e

theorem linkBlockEnd (p : Fin 32) : Statement (.linkBlockEnd p) := by
  intro op h' p' e; cases e

theorem levelMapTransfer (p : Fin 32) (c : Chan) : Statement (.levelMapTransfer p c) := by
  intro op h' p' e; cases e

theorem learnTimeLimit (p : Fin 32) : Statement (.learnTimeLimit p) := by
  intro op h' p' e; cases e

theorem learnSwap (p : Fin 32) : Statement (.learnSwap p) := by
  intro op h' p' e; cases e

theorem monitorReset (p : Fin 32) : Statement (.monitorReset p) := by
  intro op h' p' e; cases e

theorem wearCommitPeriodic (p : Fin 32) : Statement (.wearCommitPeriodic p) := by
  intro op h' p' e; cases e

theorem hkRoundEnd (rd : HkRound) : Statement (.hkRoundEnd rd) := by
  intro op h' p' e; cases e

theorem thermalShutdown (die : List Int) : Statement (.thermalShutdown die) := by
  intro op h' p' e; cases e

theorem writeSafeChange (c : Comparator) (high : Bool) (mv : Nat) : Statement (.writeSafeChange c high mv) := by
  intro op h' p' e; cases e

theorem blockLockAcquired (sp : SpPort) : Statement (.blockLockAcquired sp) := by
  intro op h' p' e; cases e

theorem blockLockLost (sp : SpPort) (errors : Bool) : Statement (.blockLockLost sp errors) := by
  intro op h' p' e; cases e

theorem peerSilent (sp : SpPort) : Statement (.peerSilent sp) := by
  intro op h' p' e; cases e

theorem helloTx (sp : SpPort) : Statement (.helloTx sp) := by
  intro op h' p' e; cases e

theorem helloRx (sp : SpPort) (x : HelloSeen) : Statement (.helloRx sp x) := by
  intro op h' p' e; cases e

theorem cellFramingError (sp : SpPort) : Statement (.cellFramingError sp) := by
  intro op h' p' e; cases e

theorem flowXoffRx (sp : SpPort) : Statement (.flowXoffRx sp) := by
  intro op h' p' e; cases e

theorem flowXonRx (sp : SpPort) : Statement (.flowXonRx sp) := by
  intro op h' p' e; cases e

theorem evtCellRx (sp : SpPort) (cell : Cell) : Statement (.evtCellRx sp cell) := by
  intro op h' p' e; cases e

theorem syncTx : Statement .syncTx := by
  intro op h' p' e; cases e

theorem syncRx (sp : SpPort) (cell : Cell) : Statement (.syncRx sp cell) := by
  intro op h' p' e; cases e

theorem syncLoss : Statement .syncLoss := by
  intro op h' p' e; cases e

theorem delayReqTx : Statement .delayReqTx := by
  intro op h' p' e; cases e

theorem delayReqRx (sp : SpPort) (cell : Cell) (turn : U32) : Statement (.delayReqRx sp cell turn) := by
  intro op h' p' e; cases e

theorem delayRespRx (sp : SpPort) (cell : Cell) (rtt : Nat) : Statement (.delayRespRx sp cell rtt) := by
  intro op h' p' e; cases e

theorem posPublish (n : Fin 4) : Statement (.posPublish n) := by
  intro op h' p' e; cases e

theorem posCellRx (sp : SpPort) (cell : Cell) : Statement (.posCellRx sp cell) := by
  intro op h' p' e; cases e

theorem dmdTx : Statement .dmdTx := by
  intro op h' p' e; cases e

theorem dmdRx (sp : SpPort) (cell : Cell) : Statement (.dmdRx sp cell) := by
  intro op h' p' e; cases e

theorem childLost (sp : SpPort) : Statement (.childLost sp) := by
  intro op h' p' e; cases e

theorem mgtCmdRx (sp : SpPort) (cell : Cell) : Statement (.mgtCmdRx sp cell) := by
  intro op h' p' e; cases e

theorem mgtCplRx (sp : SpPort) (cell : Cell) : Statement (.mgtCplRx sp cell) := by
  intro op h' p' e; cases e

theorem mgtEvtRx (sp : SpPort) (cell : Cell) : Statement (.mgtEvtRx sp cell) := by
  intro op h' p' e; cases e

theorem mgtRdReqRx (sp : SpPort) (cell : Cell) : Statement (.mgtRdReqRx sp cell) := by
  intro op h' p' e; cases e

theorem mgtRdDataRx (sp : SpPort) (cell : Cell) : Statement (.mgtRdDataRx sp cell) := by
  intro op h' p' e; cases e

theorem mgtWrReqRx (sp : SpPort) (cell : Cell) : Statement (.mgtWrReqRx sp cell) := by
  intro op h' p' e; cases e

theorem mgtWrDataRx (sp : SpPort) (cell : Cell) : Statement (.mgtWrDataRx sp cell) := by
  intro op h' p' e; cases e

theorem mgtWrAckRx (sp : SpPort) (cell : Cell) : Statement (.mgtWrAckRx sp cell) := by
  intro op h' p' e; cases e

theorem tunnelTimeout (ttag : BitVec 16) : Statement (.tunnelTimeout ttag) := by
  intro op h' p' e; cases e

theorem enuProbeRx (sp : SpPort) (cell : Cell) : Statement (.enuProbeRx sp cell) := by
  intro op h' p' e; cases e

theorem enuReplyRx (sp : SpPort) (cell : Cell) : Statement (.enuReplyRx sp cell) := by
  intro op h' p' e; cases e

theorem enuAssignRx (sp : SpPort) (cell : Cell) : Statement (.enuAssignRx sp cell) := by
  intro op h' p' e; cases e

theorem enuDoneRx (sp : SpPort) (cell : Cell) : Statement (.enuDoneRx sp cell) := by
  intro op h' p' e; cases e

theorem enuRefuseRx (sp : SpPort) (cell : Cell) : Statement (.enuRefuseRx sp cell) := by
  intro op h' p' e; cases e

theorem enuProbeTimeout (sp : SpPort) : Statement (.enuProbeTimeout sp) := by
  intro op h' p' e; cases e

theorem canFrameRx (c : Fin 2) (x : CanHeard) : Statement (.canFrameRx c x) := by
  intro op h' p' e; cases e

theorem pressStateTimeout : Statement .pressStateTimeout := by
  intro op h' p' e; cases e

theorem busOffEntry (c : Fin 2) (tec : Nat) (rec : Nat) : Statement (.busOffEntry c tec rec) := by
  intro op h' p' e; cases e

theorem busOffRecovery (c : Fin 2) : Statement (.busOffRecovery c) := by
  intro op h' p' e; cases e

theorem speedDemandTx : Statement .speedDemandTx := by
  intro op h' p' e; cases e

theorem statusTx : Statement .statusTx := by
  intro op h' p' e; cases e

theorem heartbeatTx : Statement .heartbeatTx := by
  intro op h' p' e; cases e

theorem canTxDone (x : CanSent) : Statement (.canTxDone x) := by
  intro op h' p' e; cases e

theorem busSendTimeout (id : Nat) : Statement (.busSendTimeout id) := by
  intro op h' p' e; cases e

theorem stopNAccepted : Statement .stopNAccepted := by
  intro op h' p' e; cases e

theorem stopNReleased : Statement .stopNReleased := by
  intro op h' p' e; cases e

theorem spdDemPeriod : Statement .spdDemPeriod := by
  intro op h' p' e; cases e

theorem vbatPowerOn : Statement .vbatPowerOn := by
  intro op h' p' e; cases e

theorem corePor : Statement .corePor := by
  intro op h' p' e; cases e

theorem pinReset : Statement .pinReset := by
  intro op h' p' e; cases e

theorem watchdogExpiry : Statement .watchdogExpiry := by
  intro op h' p' e; cases e

theorem selfResetDrive : Statement .selfResetDrive := by
  intro op h' p' e; cases e

theorem selfDriveEnd : Statement .selfDriveEnd := by
  intro op h' p' e; cases e

theorem resetSourceRelease (src : ResetSource) : Statement (.resetSourceRelease src) := by
  intro op h' p' e; cases e

theorem fuseLoadDone (refOk : Bool) : Statement (.fuseLoadDone refOk) := by
  intro op h' p' e; cases e

theorem stretchEnd (pinHigh : Bool) (straps : BitVec 5) (testEn : Bool) : Statement (.stretchEnd pinHigh straps testEn) := by
  intro op h' p' e; cases e

theorem pllLock : Statement .pllLock := by
  intro op h' p' e; cases e

theorem spnuClockLock : Statement .spnuClockLock := by
  intro op h' p' e; cases e

theorem mainFirmwareReady : Statement .mainFirmwareReady := by
  intro op h' p' e; cases e

theorem otpMarginRecheck (aged : List OtpAged) : Statement (.otpMarginRecheck aged) := by
  intro op h' p' e; cases e

theorem scrubStep (loc : ScrubLoc) (bad : Bool) : Statement (.scrubStep loc bad) := by
  intro op h' p' e; cases e

theorem dacCalibration (p : Fin 32) (c : Chan) : Statement (.dacCalibration p c) := by
  intro op h' p' e; cases e

theorem senseAdcCalibration (p : Fin 32) : Statement (.senseAdcCalibration p) := by
  intro op h' p' e; cases e

theorem jtagDebugAttach : Statement .jtagDebugAttach := by
  intro op h' p' e; cases e

theorem setEndpointId (b : MctpBinding) (op : BitVec 2) (eid : BitVec 8) : Statement (.setEndpointId b op eid) := by
  intro op h' p' e; cases e

theorem getEndpointId (b : MctpBinding) : Statement (.getEndpointId b) := by
  intro op h' p' e; cases e

theorem getMctpVersionSupport (b : MctpBinding) (msgType : BitVec 8) : Statement (.getMctpVersionSupport b msgType) := by
  intro op h' p' e; cases e

theorem getMessageTypeSupport (b : MctpBinding) : Statement (.getMessageTypeSupport b) := by
  intro op h' p' e; cases e

theorem mctpCmd (b : MctpBinding) (entry : BitVec 512) : Statement (.mctpCmd b entry) := by
  intro op h' p' e; cases e

theorem mctpDataWr (b : MctpBinding) (ofs : U32) (data : Bytes) : Statement (.mctpDataWr b ofs data) := by
  intro op h' p' e; cases e

theorem mctpDataRd (b : MctpBinding) (ofs : U32) (len : BitVec 8) : Statement (.mctpDataRd b ofs len) := by
  intro op h' p' e; cases e

theorem getVersion (b : MctpBinding) (req : Bytes) : Statement (.getVersion b req) := by
  intro op h' p' e; cases e

theorem getCapabilities (b : MctpBinding) (req : Bytes) : Statement (.getCapabilities b req) := by
  intro op h' p' e; cases e

theorem negotiateAlgorithms (b : MctpBinding) (req : Bytes) : Statement (.negotiateAlgorithms b req) := by
  intro op h' p' e; cases e

theorem getDigests (b : MctpBinding) (req : Bytes) : Statement (.getDigests b req) := by
  intro op h' p' e; cases e

theorem getCertificate (b : MctpBinding) (req : Bytes) : Statement (.getCertificate b req) := by
  intro op h' p' e; cases e

theorem challenge (b : MctpBinding) (req : Bytes) : Statement (.challenge b req) := by
  intro op h' p' e; cases e

theorem getMeasurements (b : MctpBinding) (req : Bytes) : Statement (.getMeasurements b req) := by
  intro op h' p' e; cases e

theorem spdmUnsupportedRequest (b : MctpBinding) (req : Bytes) : Statement (.spdmUnsupportedRequest b req) := by
  intro op h' p' e; cases e

theorem dmaTransferDone (id : Nat) (data : Bytes) : Statement (.dmaTransferDone id data) := by
  intro op h' p' e; cases e

theorem headI2cTransferDone (p : Fin 32) (ack : Bool) (data : Bytes) : Statement (.headI2cTransferDone p ack data) := by
  intro op h' p' e; cases e

theorem otpPulseEnd (blown : Bool) (weak : Bool) : Statement (.otpPulseEnd blown weak) := by
  intro op h' p' e; cases e

theorem flashWriteDone (ok : Bool) : Statement (.flashWriteDone ok) := by
  intro op h' p' e; cases e

theorem flashPauseTimeout : Statement .flashPauseTimeout := by
  intro op h' p' e; cases e

theorem vppPresenceChange (present : Bool) : Statement (.vppPresenceChange present) := by
  intro op h' p' e; cases e

end Sys2Proof.Laws.Row
end

