-- ==== Sys2Proof/Laws/State.lean ====
section
/-! SUPPORT. What each named update of the state does to each of its fields, and to the entries of its arrays. -/

namespace Sys2Proof.Machine

variable (s : State)

/-! ### Entries of a fixed array -/

@[simp] theorem look_upd_self {α : Type} {n : Nat} (v : Vector α n) (i : Fin n) (f : α → α) : look (upd v i f) i = f (look v i) := by
  simp [look, upd]

theorem look_upd_ne {α : Type} {n : Nat} (v : Vector α n) {i j : Fin n} (f : α → α) (h : i ≠ j) : look (upd v i f) j = look v j := by
  have h' : i.1 ≠ j.1 := fun e => h (Fin.ext e)
  simp [look, upd, Vector.getElem_set_ne, h']

theorem look_upd {α : Type} {n : Nat} (v : Vector α n) (i j : Fin n) (f : α → α) :
    look (upd v i f) j = if i = j then f (look v j) else look v j := by
  by_cases h : i = j
  · subst h; simp
  · simp [h, look_upd_ne]

@[simp] theorem look_replicate {α : Type} {n : Nat} (a : α) (i : Fin n) : look (Vector.replicate n a) i = a := by simp [look]

/-! ### advance -/

@[simp] theorem advance_pending (n : Nat) : (s.advance n).pending = s.pending := rfl
@[simp] theorem advance_clk (n : Nat) : (s.advance n).clk = s.clk + n := rfl
@[simp] theorem advance_tb (n : Nat) : (s.advance n).tb = s.tb + n := rfl
@[simp] theorem advance_glb (n : Nat) : (s.advance n).glb = s.glb := rfl
@[simp] theorem advance_link (n : Nat) : (s.advance n).link = s.link := rfl
@[simp] theorem advance_rings (n : Nat) : (s.advance n).rings = s.rings := rfl
@[simp] theorem advance_cnt (n : Nat) : (s.advance n).cnt = s.cnt := rfl
@[simp] theorem advance_routes (n : Nat) : (s.advance n).routes = s.routes := rfl
@[simp] theorem advance_telRoute (n : Nat) : (s.advance n).telRoute = s.telRoute := rfl
@[simp] theorem advance_execs (n : Nat) : (s.advance n).execs = s.execs := rfl
@[simp] theorem advance_waiting (n : Nat) : (s.advance n).waiting = s.waiting := rfl
@[simp] theorem advance_resuming (n : Nat) : (s.advance n).resuming = s.resuming := rfl
@[simp] theorem advance_parked (n : Nat) : (s.advance n).parked = s.parked := rfl
@[simp] theorem advance_gdma (n : Nat) : (s.advance n).gdma = s.gdma := rfl
@[simp] theorem advance_src (n : Nat) : (s.advance n).src = s.src := rfl
@[simp] theorem advance_quires (n : Nat) : (s.advance n).quires = s.quires := rfl
@[simp] theorem advance_reqs (n : Nat) : (s.advance n).reqs = s.reqs := rfl
@[simp] theorem advance_sos (n : Nat) : (s.advance n).sos = s.sos := rfl
@[simp] theorem advance_ports (n : Nat) : (s.advance n).ports = s.ports := rfl
@[simp] theorem advance_tiles (n : Nat) : (s.advance n).tiles = s.tiles := rfl
@[simp] theorem advance_masks (n : Nat) : (s.advance n).masks = s.masks := rfl
@[simp] theorem advance_page (n : Nat) : (s.advance n).page = s.page := rfl
@[simp] theorem advance_th (n : Nat) : (s.advance n).th = s.th := rfl
@[simp] theorem advance_sp (n : Nat) : (s.advance n).sp = s.sp := rfl
@[simp] theorem advance_spr (n : Nat) : (s.advance n).spr = s.spr := rfl
@[simp] theorem advance_press (n : Nat) : (s.advance n).press = s.press := rfl
@[simp] theorem advance_rst (n : Nat) : (s.advance n).rst = s.rst := rfl
@[simp] theorem advance_flash (n : Nat) : (s.advance n).flash = s.flash := rfl
@[simp] theorem advance_otp (n : Nat) : (s.advance n).otp = s.otp := rfl
@[simp] theorem advance_mgt (n : Nat) : (s.advance n).mgt = s.mgt := rfl
@[simp] theorem advance_bg (n : Nat) : (s.advance n).bg = s.bg := rfl
@[simp] theorem advance_out (n : Nat) : (s.advance n).out = s.out := rfl
@[simp] theorem advance_nextId (n : Nat) : (s.advance n).nextId = s.nextId := rfl
@[simp] theorem advance_draws (n : Nat) : (s.advance n).draws = s.draws := rfl
@[simp] theorem advance_ring (n : Nat) (i : Fin 64) : (s.advance n).ring i = s.ring i := rfl
@[simp] theorem advance_source (n : Nat) (i : Fin 16) : (s.advance n).source i = s.source i := rfl
@[simp] theorem advance_quire (n : Nat) (i : Fin 8) : (s.advance n).quire i = s.quire i := rfl
@[simp] theorem advance_port (n : Nat) (i : Fin 32) : (s.advance n).port i = s.port i := rfl
@[simp] theorem advance_yobor (n : Nat) (d : SpPort) : (s.advance n).yobor d = s.yobor d := by cases d <;> rfl
@[simp] theorem advance_cores (n : Nat) : (s.advance n).cores = s.cores := rfl

/-! ### advanceTo -/

@[simp] theorem advanceTo_pending (t : Nat) : (s.advanceTo t).pending = s.pending := rfl
@[simp] theorem advanceTo_clk (t : Nat) : (s.advanceTo t).clk = s.clk + (t - s.clk) := rfl
@[simp] theorem advanceTo_tb (t : Nat) : (s.advanceTo t).tb = s.tb + (t - s.clk) := rfl
@[simp] theorem advanceTo_glb (t : Nat) : (s.advanceTo t).glb = s.glb := rfl
@[simp] theorem advanceTo_link (t : Nat) : (s.advanceTo t).link = s.link := rfl
@[simp] theorem advanceTo_rings (t : Nat) : (s.advanceTo t).rings = s.rings := rfl
@[simp] theorem advanceTo_cnt (t : Nat) : (s.advanceTo t).cnt = s.cnt := rfl
@[simp] theorem advanceTo_routes (t : Nat) : (s.advanceTo t).routes = s.routes := rfl
@[simp] theorem advanceTo_telRoute (t : Nat) : (s.advanceTo t).telRoute = s.telRoute := rfl
@[simp] theorem advanceTo_execs (t : Nat) : (s.advanceTo t).execs = s.execs := rfl
@[simp] theorem advanceTo_waiting (t : Nat) : (s.advanceTo t).waiting = s.waiting := rfl
@[simp] theorem advanceTo_resuming (t : Nat) : (s.advanceTo t).resuming = s.resuming := rfl
@[simp] theorem advanceTo_parked (t : Nat) : (s.advanceTo t).parked = s.parked := rfl
@[simp] theorem advanceTo_gdma (t : Nat) : (s.advanceTo t).gdma = s.gdma := rfl
@[simp] theorem advanceTo_src (t : Nat) : (s.advanceTo t).src = s.src := rfl
@[simp] theorem advanceTo_quires (t : Nat) : (s.advanceTo t).quires = s.quires := rfl
@[simp] theorem advanceTo_reqs (t : Nat) : (s.advanceTo t).reqs = s.reqs := rfl
@[simp] theorem advanceTo_sos (t : Nat) : (s.advanceTo t).sos = s.sos := rfl
@[simp] theorem advanceTo_ports (t : Nat) : (s.advanceTo t).ports = s.ports := rfl
@[simp] theorem advanceTo_tiles (t : Nat) : (s.advanceTo t).tiles = s.tiles := rfl
@[simp] theorem advanceTo_masks (t : Nat) : (s.advanceTo t).masks = s.masks := rfl
@[simp] theorem advanceTo_page (t : Nat) : (s.advanceTo t).page = s.page := rfl
@[simp] theorem advanceTo_th (t : Nat) : (s.advanceTo t).th = s.th := rfl
@[simp] theorem advanceTo_sp (t : Nat) : (s.advanceTo t).sp = s.sp := rfl
@[simp] theorem advanceTo_spr (t : Nat) : (s.advanceTo t).spr = s.spr := rfl
@[simp] theorem advanceTo_press (t : Nat) : (s.advanceTo t).press = s.press := rfl
@[simp] theorem advanceTo_rst (t : Nat) : (s.advanceTo t).rst = s.rst := rfl
@[simp] theorem advanceTo_flash (t : Nat) : (s.advanceTo t).flash = s.flash := rfl
@[simp] theorem advanceTo_otp (t : Nat) : (s.advanceTo t).otp = s.otp := rfl
@[simp] theorem advanceTo_mgt (t : Nat) : (s.advanceTo t).mgt = s.mgt := rfl
@[simp] theorem advanceTo_bg (t : Nat) : (s.advanceTo t).bg = s.bg := rfl
@[simp] theorem advanceTo_out (t : Nat) : (s.advanceTo t).out = s.out := rfl
@[simp] theorem advanceTo_nextId (t : Nat) : (s.advanceTo t).nextId = s.nextId := rfl
@[simp] theorem advanceTo_draws (t : Nat) : (s.advanceTo t).draws = s.draws := rfl
@[simp] theorem advanceTo_ring (t : Nat) (i : Fin 64) : (s.advanceTo t).ring i = s.ring i := rfl
@[simp] theorem advanceTo_source (t : Nat) (i : Fin 16) : (s.advanceTo t).source i = s.source i := rfl
@[simp] theorem advanceTo_quire (t : Nat) (i : Fin 8) : (s.advanceTo t).quire i = s.quire i := rfl
@[simp] theorem advanceTo_port (t : Nat) (i : Fin 32) : (s.advanceTo t).port i = s.port i := rfl
@[simp] theorem advanceTo_yobor (t : Nat) (d : SpPort) : (s.advanceTo t).yobor d = s.yobor d := by cases d <;> rfl
@[simp] theorem advanceTo_cores (t : Nat) : (s.advanceTo t).cores = s.cores := rfl

/-! ### modRing -/

@[simp] theorem modRing_pending (r : Fin 64) (f : Ring → Ring) : (s.modRing r f).pending = s.pending := rfl
@[simp] theorem modRing_clk (r : Fin 64) (f : Ring → Ring) : (s.modRing r f).clk = s.clk := rfl
@[simp] theorem modRing_tb (r : Fin 64) (f : Ring → Ring) : (s.modRing r f).tb = s.tb := rfl
@[simp] theorem modRing_glb (r : Fin 64) (f : Ring → Ring) : (s.modRing r f).glb = s.glb := rfl
@[simp] theorem modRing_link (r : Fin 64) (f : Ring → Ring) : (s.modRing r f).link = s.link := rfl
@[simp] theorem modRing_rings (r : Fin 64) (f : Ring → Ring) : (s.modRing r f).rings = upd s.rings r f := rfl
@[simp] theorem modRing_cnt (r : Fin 64) (f : Ring → Ring) : (s.modRing r f).cnt = s.cnt := rfl
@[simp] theorem modRing_routes (r : Fin 64) (f : Ring → Ring) : (s.modRing r f).routes = s.routes := rfl
@[simp] theorem modRing_telRoute (r : Fin 64) (f : Ring → Ring) : (s.modRing r f).telRoute = s.telRoute := rfl
@[simp] theorem modRing_execs (r : Fin 64) (f : Ring → Ring) : (s.modRing r f).execs = s.execs := rfl
@[simp] theorem modRing_waiting (r : Fin 64) (f : Ring → Ring) : (s.modRing r f).waiting = s.waiting := rfl
@[simp] theorem modRing_resuming (r : Fin 64) (f : Ring → Ring) : (s.modRing r f).resuming = s.resuming := rfl
@[simp] theorem modRing_parked (r : Fin 64) (f : Ring → Ring) : (s.modRing r f).parked = s.parked := rfl
@[simp] theorem modRing_gdma (r : Fin 64) (f : Ring → Ring) : (s.modRing r f).gdma = s.gdma := rfl
@[simp] theorem modRing_src (r : Fin 64) (f : Ring → Ring) : (s.modRing r f).src = s.src := rfl
@[simp] theorem modRing_quires (r : Fin 64) (f : Ring → Ring) : (s.modRing r f).quires = s.quires := rfl
@[simp] theorem modRing_reqs (r : Fin 64) (f : Ring → Ring) : (s.modRing r f).reqs = s.reqs := rfl
@[simp] theorem modRing_sos (r : Fin 64) (f : Ring → Ring) : (s.modRing r f).sos = s.sos := rfl
@[simp] theorem modRing_ports (r : Fin 64) (f : Ring → Ring) : (s.modRing r f).ports = s.ports := rfl
@[simp] theorem modRing_tiles (r : Fin 64) (f : Ring → Ring) : (s.modRing r f).tiles = s.tiles := rfl
@[simp] theorem modRing_masks (r : Fin 64) (f : Ring → Ring) : (s.modRing r f).masks = s.masks := rfl
@[simp] theorem modRing_page (r : Fin 64) (f : Ring → Ring) : (s.modRing r f).page = s.page := rfl
@[simp] theorem modRing_th (r : Fin 64) (f : Ring → Ring) : (s.modRing r f).th = s.th := rfl
@[simp] theorem modRing_sp (r : Fin 64) (f : Ring → Ring) : (s.modRing r f).sp = s.sp := rfl
@[simp] theorem modRing_spr (r : Fin 64) (f : Ring → Ring) : (s.modRing r f).spr = s.spr := rfl
@[simp] theorem modRing_press (r : Fin 64) (f : Ring → Ring) : (s.modRing r f).press = s.press := rfl
@[simp] theorem modRing_rst (r : Fin 64) (f : Ring → Ring) : (s.modRing r f).rst = s.rst := rfl
@[simp] theorem modRing_flash (r : Fin 64) (f : Ring → Ring) : (s.modRing r f).flash = s.flash := rfl
@[simp] theorem modRing_otp (r : Fin 64) (f : Ring → Ring) : (s.modRing r f).otp = s.otp := rfl
@[simp] theorem modRing_mgt (r : Fin 64) (f : Ring → Ring) : (s.modRing r f).mgt = s.mgt := rfl
@[simp] theorem modRing_bg (r : Fin 64) (f : Ring → Ring) : (s.modRing r f).bg = s.bg := rfl
@[simp] theorem modRing_out (r : Fin 64) (f : Ring → Ring) : (s.modRing r f).out = s.out := rfl
@[simp] theorem modRing_nextId (r : Fin 64) (f : Ring → Ring) : (s.modRing r f).nextId = s.nextId := rfl
@[simp] theorem modRing_draws (r : Fin 64) (f : Ring → Ring) : (s.modRing r f).draws = s.draws := rfl
@[simp] theorem modRing_ring_self (r : Fin 64) (f : Ring → Ring) : (s.modRing r f).ring r = f (s.ring r) := look_upd_self ..
theorem modRing_ring_ne (r : Fin 64) (f : Ring → Ring) {i : Fin 64} (h : r ≠ i) : (s.modRing r f).ring i = s.ring i := look_upd_ne _ _ h
theorem modRing_ring (r : Fin 64) (f : Ring → Ring) (i : Fin 64) : (s.modRing r f).ring i = if r = i then f (s.ring i) else s.ring i := look_upd ..
@[simp] theorem modRing_source (r : Fin 64) (f : Ring → Ring) (i : Fin 16) : (s.modRing r f).source i = s.source i := rfl
@[simp] theorem modRing_quire (r : Fin 64) (f : Ring → Ring) (i : Fin 8) : (s.modRing r f).quire i = s.quire i := rfl
@[simp] theorem modRing_port (r : Fin 64) (f : Ring → Ring) (i : Fin 32) : (s.modRing r f).port i = s.port i := rfl
@[simp] theorem modRing_yobor (r : Fin 64) (f : Ring → Ring) (d : SpPort) : (s.modRing r f).yobor d = s.yobor d := by cases d <;> rfl
@[simp] theorem modRing_ns (r : Fin 64) (f : Ring → Ring) : (s.modRing r f).ns = s.ns := rfl
@[simp] theorem modRing_cores (r : Fin 64) (f : Ring → Ring) : (s.modRing r f).cores = s.cores := rfl

/-! ### modSrc -/

@[simp] theorem modSrc_pending (n : Fin 16) (f : Source → Source) : (s.modSrc n f).pending = s.pending := rfl
@[simp] theorem modSrc_clk (n : Fin 16) (f : Source → Source) : (s.modSrc n f).clk = s.clk := rfl
@[simp] theorem modSrc_tb (n : Fin 16) (f : Source → Source) : (s.modSrc n f).tb = s.tb := rfl
@[simp] theorem modSrc_glb (n : Fin 16) (f : Source → Source) : (s.modSrc n f).glb = s.glb := rfl
@[simp] theorem modSrc_link (n : Fin 16) (f : Source → Source) : (s.modSrc n f).link = s.link := rfl
@[simp] theorem modSrc_rings (n : Fin 16) (f : Source → Source) : (s.modSrc n f).rings = s.rings := rfl
@[simp] theorem modSrc_cnt (n : Fin 16) (f : Source → Source) : (s.modSrc n f).cnt = s.cnt := rfl
@[simp] theorem modSrc_routes (n : Fin 16) (f : Source → Source) : (s.modSrc n f).routes = s.routes := rfl
@[simp] theorem modSrc_telRoute (n : Fin 16) (f : Source → Source) : (s.modSrc n f).telRoute = s.telRoute := rfl
@[simp] theorem modSrc_execs (n : Fin 16) (f : Source → Source) : (s.modSrc n f).execs = s.execs := rfl
@[simp] theorem modSrc_waiting (n : Fin 16) (f : Source → Source) : (s.modSrc n f).waiting = s.waiting := rfl
@[simp] theorem modSrc_resuming (n : Fin 16) (f : Source → Source) : (s.modSrc n f).resuming = s.resuming := rfl
@[simp] theorem modSrc_parked (n : Fin 16) (f : Source → Source) : (s.modSrc n f).parked = s.parked := rfl
@[simp] theorem modSrc_gdma (n : Fin 16) (f : Source → Source) : (s.modSrc n f).gdma = s.gdma := rfl
@[simp] theorem modSrc_src (n : Fin 16) (f : Source → Source) : (s.modSrc n f).src = upd s.src n f := rfl
@[simp] theorem modSrc_quires (n : Fin 16) (f : Source → Source) : (s.modSrc n f).quires = s.quires := rfl
@[simp] theorem modSrc_reqs (n : Fin 16) (f : Source → Source) : (s.modSrc n f).reqs = s.reqs := rfl
@[simp] theorem modSrc_sos (n : Fin 16) (f : Source → Source) : (s.modSrc n f).sos = s.sos := rfl
@[simp] theorem modSrc_ports (n : Fin 16) (f : Source → Source) : (s.modSrc n f).ports = s.ports := rfl
@[simp] theorem modSrc_tiles (n : Fin 16) (f : Source → Source) : (s.modSrc n f).tiles = s.tiles := rfl
@[simp] theorem modSrc_masks (n : Fin 16) (f : Source → Source) : (s.modSrc n f).masks = s.masks := rfl
@[simp] theorem modSrc_page (n : Fin 16) (f : Source → Source) : (s.modSrc n f).page = s.page := rfl
@[simp] theorem modSrc_th (n : Fin 16) (f : Source → Source) : (s.modSrc n f).th = s.th := rfl
@[simp] theorem modSrc_sp (n : Fin 16) (f : Source → Source) : (s.modSrc n f).sp = s.sp := rfl
@[simp] theorem modSrc_spr (n : Fin 16) (f : Source → Source) : (s.modSrc n f).spr = s.spr := rfl
@[simp] theorem modSrc_press (n : Fin 16) (f : Source → Source) : (s.modSrc n f).press = s.press := rfl
@[simp] theorem modSrc_rst (n : Fin 16) (f : Source → Source) : (s.modSrc n f).rst = s.rst := rfl
@[simp] theorem modSrc_flash (n : Fin 16) (f : Source → Source) : (s.modSrc n f).flash = s.flash := rfl
@[simp] theorem modSrc_otp (n : Fin 16) (f : Source → Source) : (s.modSrc n f).otp = s.otp := rfl
@[simp] theorem modSrc_mgt (n : Fin 16) (f : Source → Source) : (s.modSrc n f).mgt = s.mgt := rfl
@[simp] theorem modSrc_bg (n : Fin 16) (f : Source → Source) : (s.modSrc n f).bg = s.bg := rfl
@[simp] theorem modSrc_out (n : Fin 16) (f : Source → Source) : (s.modSrc n f).out = s.out := rfl
@[simp] theorem modSrc_nextId (n : Fin 16) (f : Source → Source) : (s.modSrc n f).nextId = s.nextId := rfl
@[simp] theorem modSrc_draws (n : Fin 16) (f : Source → Source) : (s.modSrc n f).draws = s.draws := rfl
@[simp] theorem modSrc_ring (n : Fin 16) (f : Source → Source) (i : Fin 64) : (s.modSrc n f).ring i = s.ring i := rfl
@[simp] theorem modSrc_source_self (n : Fin 16) (f : Source → Source) : (s.modSrc n f).source n = f (s.source n) := look_upd_self ..
theorem modSrc_source_ne (n : Fin 16) (f : Source → Source) {i : Fin 16} (h : n ≠ i) : (s.modSrc n f).source i = s.source i := look_upd_ne _ _ h
theorem modSrc_source (n : Fin 16) (f : Source → Source) (i : Fin 16) : (s.modSrc n f).source i = if n = i then f (s.source i) else s.source i := look_upd ..
@[simp] theorem modSrc_quire (n : Fin 16) (f : Source → Source) (i : Fin 8) : (s.modSrc n f).quire i = s.quire i := rfl
@[simp] theorem modSrc_port (n : Fin 16) (f : Source → Source) (i : Fin 32) : (s.modSrc n f).port i = s.port i := rfl
@[simp] theorem modSrc_yobor (n : Fin 16) (f : Source → Source) (d : SpPort) : (s.modSrc n f).yobor d = s.yobor d := by cases d <;> rfl
@[simp] theorem modSrc_ns (n : Fin 16) (f : Source → Source) : (s.modSrc n f).ns = s.ns := rfl
@[simp] theorem modSrc_cores (n : Fin 16) (f : Source → Source) : (s.modSrc n f).cores = s.cores := rfl

/-! ### modQuire -/

@[simp] theorem modQuire_pending (q : Fin 8) (f : Quire → Quire) : (s.modQuire q f).pending = s.pending := rfl
@[simp] theorem modQuire_clk (q : Fin 8) (f : Quire → Quire) : (s.modQuire q f).clk = s.clk := rfl
@[simp] theorem modQuire_tb (q : Fin 8) (f : Quire → Quire) : (s.modQuire q f).tb = s.tb := rfl
@[simp] theorem modQuire_glb (q : Fin 8) (f : Quire → Quire) : (s.modQuire q f).glb = s.glb := rfl
@[simp] theorem modQuire_link (q : Fin 8) (f : Quire → Quire) : (s.modQuire q f).link = s.link := rfl
@[simp] theorem modQuire_rings (q : Fin 8) (f : Quire → Quire) : (s.modQuire q f).rings = s.rings := rfl
@[simp] theorem modQuire_cnt (q : Fin 8) (f : Quire → Quire) : (s.modQuire q f).cnt = s.cnt := rfl
@[simp] theorem modQuire_routes (q : Fin 8) (f : Quire → Quire) : (s.modQuire q f).routes = s.routes := rfl
@[simp] theorem modQuire_telRoute (q : Fin 8) (f : Quire → Quire) : (s.modQuire q f).telRoute = s.telRoute := rfl
@[simp] theorem modQuire_execs (q : Fin 8) (f : Quire → Quire) : (s.modQuire q f).execs = s.execs := rfl
@[simp] theorem modQuire_waiting (q : Fin 8) (f : Quire → Quire) : (s.modQuire q f).waiting = s.waiting := rfl
@[simp] theorem modQuire_resuming (q : Fin 8) (f : Quire → Quire) : (s.modQuire q f).resuming = s.resuming := rfl
@[simp] theorem modQuire_parked (q : Fin 8) (f : Quire → Quire) : (s.modQuire q f).parked = s.parked := rfl
@[simp] theorem modQuire_gdma (q : Fin 8) (f : Quire → Quire) : (s.modQuire q f).gdma = s.gdma := rfl
@[simp] theorem modQuire_src (q : Fin 8) (f : Quire → Quire) : (s.modQuire q f).src = s.src := rfl
@[simp] theorem modQuire_quires (q : Fin 8) (f : Quire → Quire) : (s.modQuire q f).quires = upd s.quires q f := rfl
@[simp] theorem modQuire_reqs (q : Fin 8) (f : Quire → Quire) : (s.modQuire q f).reqs = s.reqs := rfl
@[simp] theorem modQuire_sos (q : Fin 8) (f : Quire → Quire) : (s.modQuire q f).sos = s.sos := rfl
@[simp] theorem modQuire_ports (q : Fin 8) (f : Quire → Quire) : (s.modQuire q f).ports = s.ports := rfl
@[simp] theorem modQuire_tiles (q : Fin 8) (f : Quire → Quire) : (s.modQuire q f).tiles = s.tiles := rfl
@[simp] theorem modQuire_masks (q : Fin 8) (f : Quire → Quire) : (s.modQuire q f).masks = s.masks := rfl
@[simp] theorem modQuire_page (q : Fin 8) (f : Quire → Quire) : (s.modQuire q f).page = s.page := rfl
@[simp] theorem modQuire_th (q : Fin 8) (f : Quire → Quire) : (s.modQuire q f).th = s.th := rfl
@[simp] theorem modQuire_sp (q : Fin 8) (f : Quire → Quire) : (s.modQuire q f).sp = s.sp := rfl
@[simp] theorem modQuire_spr (q : Fin 8) (f : Quire → Quire) : (s.modQuire q f).spr = s.spr := rfl
@[simp] theorem modQuire_press (q : Fin 8) (f : Quire → Quire) : (s.modQuire q f).press = s.press := rfl
@[simp] theorem modQuire_rst (q : Fin 8) (f : Quire → Quire) : (s.modQuire q f).rst = s.rst := rfl
@[simp] theorem modQuire_flash (q : Fin 8) (f : Quire → Quire) : (s.modQuire q f).flash = s.flash := rfl
@[simp] theorem modQuire_otp (q : Fin 8) (f : Quire → Quire) : (s.modQuire q f).otp = s.otp := rfl
@[simp] theorem modQuire_mgt (q : Fin 8) (f : Quire → Quire) : (s.modQuire q f).mgt = s.mgt := rfl
@[simp] theorem modQuire_bg (q : Fin 8) (f : Quire → Quire) : (s.modQuire q f).bg = s.bg := rfl
@[simp] theorem modQuire_out (q : Fin 8) (f : Quire → Quire) : (s.modQuire q f).out = s.out := rfl
@[simp] theorem modQuire_nextId (q : Fin 8) (f : Quire → Quire) : (s.modQuire q f).nextId = s.nextId := rfl
@[simp] theorem modQuire_draws (q : Fin 8) (f : Quire → Quire) : (s.modQuire q f).draws = s.draws := rfl
@[simp] theorem modQuire_ring (q : Fin 8) (f : Quire → Quire) (i : Fin 64) : (s.modQuire q f).ring i = s.ring i := rfl
@[simp] theorem modQuire_source (q : Fin 8) (f : Quire → Quire) (i : Fin 16) : (s.modQuire q f).source i = s.source i := rfl
@[simp] theorem modQuire_quire_self (q : Fin 8) (f : Quire → Quire) : (s.modQuire q f).quire q = f (s.quire q) := look_upd_self ..
theorem modQuire_quire_ne (q : Fin 8) (f : Quire → Quire) {i : Fin 8} (h : q ≠ i) : (s.modQuire q f).quire i = s.quire i := look_upd_ne _ _ h
theorem modQuire_quire (q : Fin 8) (f : Quire → Quire) (i : Fin 8) : (s.modQuire q f).quire i = if q = i then f (s.quire i) else s.quire i := look_upd ..
@[simp] theorem modQuire_port (q : Fin 8) (f : Quire → Quire) (i : Fin 32) : (s.modQuire q f).port i = s.port i := rfl
@[simp] theorem modQuire_yobor (q : Fin 8) (f : Quire → Quire) (d : SpPort) : (s.modQuire q f).yobor d = s.yobor d := by cases d <;> rfl
@[simp] theorem modQuire_ns (q : Fin 8) (f : Quire → Quire) : (s.modQuire q f).ns = s.ns := rfl
@[simp] theorem modQuire_cores (q : Fin 8) (f : Quire → Quire) : (s.modQuire q f).cores = s.cores := rfl

/-! ### modPort -/

@[simp] theorem modPort_pending (p : Fin 32) (f : Port → Port) : (s.modPort p f).pending = s.pending := rfl
@[simp] theorem modPort_clk (p : Fin 32) (f : Port → Port) : (s.modPort p f).clk = s.clk := rfl
@[simp] theorem modPort_tb (p : Fin 32) (f : Port → Port) : (s.modPort p f).tb = s.tb := rfl
@[simp] theorem modPort_glb (p : Fin 32) (f : Port → Port) : (s.modPort p f).glb = s.glb := rfl
@[simp] theorem modPort_link (p : Fin 32) (f : Port → Port) : (s.modPort p f).link = s.link := rfl
@[simp] theorem modPort_rings (p : Fin 32) (f : Port → Port) : (s.modPort p f).rings = s.rings := rfl
@[simp] theorem modPort_cnt (p : Fin 32) (f : Port → Port) : (s.modPort p f).cnt = s.cnt := rfl
@[simp] theorem modPort_routes (p : Fin 32) (f : Port → Port) : (s.modPort p f).routes = s.routes := rfl
@[simp] theorem modPort_telRoute (p : Fin 32) (f : Port → Port) : (s.modPort p f).telRoute = s.telRoute := rfl
@[simp] theorem modPort_execs (p : Fin 32) (f : Port → Port) : (s.modPort p f).execs = s.execs := rfl
@[simp] theorem modPort_waiting (p : Fin 32) (f : Port → Port) : (s.modPort p f).waiting = s.waiting := rfl
@[simp] theorem modPort_resuming (p : Fin 32) (f : Port → Port) : (s.modPort p f).resuming = s.resuming := rfl
@[simp] theorem modPort_parked (p : Fin 32) (f : Port → Port) : (s.modPort p f).parked = s.parked := rfl
@[simp] theorem modPort_gdma (p : Fin 32) (f : Port → Port) : (s.modPort p f).gdma = s.gdma := rfl
@[simp] theorem modPort_src (p : Fin 32) (f : Port → Port) : (s.modPort p f).src = s.src := rfl
@[simp] theorem modPort_quires (p : Fin 32) (f : Port → Port) : (s.modPort p f).quires = s.quires := rfl
@[simp] theorem modPort_reqs (p : Fin 32) (f : Port → Port) : (s.modPort p f).reqs = s.reqs := rfl
@[simp] theorem modPort_sos (p : Fin 32) (f : Port → Port) : (s.modPort p f).sos = s.sos := rfl
@[simp] theorem modPort_ports (p : Fin 32) (f : Port → Port) : (s.modPort p f).ports = upd s.ports p f := rfl
@[simp] theorem modPort_tiles (p : Fin 32) (f : Port → Port) : (s.modPort p f).tiles = s.tiles := rfl
@[simp] theorem modPort_masks (p : Fin 32) (f : Port → Port) : (s.modPort p f).masks = s.masks := rfl
@[simp] theorem modPort_page (p : Fin 32) (f : Port → Port) : (s.modPort p f).page = s.page := rfl
@[simp] theorem modPort_th (p : Fin 32) (f : Port → Port) : (s.modPort p f).th = s.th := rfl
@[simp] theorem modPort_sp (p : Fin 32) (f : Port → Port) : (s.modPort p f).sp = s.sp := rfl
@[simp] theorem modPort_spr (p : Fin 32) (f : Port → Port) : (s.modPort p f).spr = s.spr := rfl
@[simp] theorem modPort_press (p : Fin 32) (f : Port → Port) : (s.modPort p f).press = s.press := rfl
@[simp] theorem modPort_rst (p : Fin 32) (f : Port → Port) : (s.modPort p f).rst = s.rst := rfl
@[simp] theorem modPort_flash (p : Fin 32) (f : Port → Port) : (s.modPort p f).flash = s.flash := rfl
@[simp] theorem modPort_otp (p : Fin 32) (f : Port → Port) : (s.modPort p f).otp = s.otp := rfl
@[simp] theorem modPort_mgt (p : Fin 32) (f : Port → Port) : (s.modPort p f).mgt = s.mgt := rfl
@[simp] theorem modPort_bg (p : Fin 32) (f : Port → Port) : (s.modPort p f).bg = s.bg := rfl
@[simp] theorem modPort_out (p : Fin 32) (f : Port → Port) : (s.modPort p f).out = s.out := rfl
@[simp] theorem modPort_nextId (p : Fin 32) (f : Port → Port) : (s.modPort p f).nextId = s.nextId := rfl
@[simp] theorem modPort_draws (p : Fin 32) (f : Port → Port) : (s.modPort p f).draws = s.draws := rfl
@[simp] theorem modPort_ring (p : Fin 32) (f : Port → Port) (i : Fin 64) : (s.modPort p f).ring i = s.ring i := rfl
@[simp] theorem modPort_source (p : Fin 32) (f : Port → Port) (i : Fin 16) : (s.modPort p f).source i = s.source i := rfl
@[simp] theorem modPort_quire (p : Fin 32) (f : Port → Port) (i : Fin 8) : (s.modPort p f).quire i = s.quire i := rfl
@[simp] theorem modPort_port_self (p : Fin 32) (f : Port → Port) : (s.modPort p f).port p = f (s.port p) := look_upd_self ..
theorem modPort_port_ne (p : Fin 32) (f : Port → Port) {i : Fin 32} (h : p ≠ i) : (s.modPort p f).port i = s.port i := look_upd_ne _ _ h
theorem modPort_port (p : Fin 32) (f : Port → Port) (i : Fin 32) : (s.modPort p f).port i = if p = i then f (s.port i) else s.port i := look_upd ..
@[simp] theorem modPort_yobor (p : Fin 32) (f : Port → Port) (d : SpPort) : (s.modPort p f).yobor d = s.yobor d := by cases d <;> rfl
@[simp] theorem modPort_ns (p : Fin 32) (f : Port → Port) : (s.modPort p f).ns = s.ns := rfl
@[simp] theorem modPort_cores (p : Fin 32) (f : Port → Port) : (s.modPort p f).cores = s.cores := rfl

/-! ### emit -/

@[simp] theorem emit_pending (o : Out) : (s.emit o).pending = s.pending := rfl
@[simp] theorem emit_clk (o : Out) : (s.emit o).clk = s.clk := rfl
@[simp] theorem emit_tb (o : Out) : (s.emit o).tb = s.tb := rfl
@[simp] theorem emit_glb (o : Out) : (s.emit o).glb = s.glb := rfl
@[simp] theorem emit_link (o : Out) : (s.emit o).link = s.link := rfl
@[simp] theorem emit_rings (o : Out) : (s.emit o).rings = s.rings := rfl
@[simp] theorem emit_cnt (o : Out) : (s.emit o).cnt = s.cnt := rfl
@[simp] theorem emit_routes (o : Out) : (s.emit o).routes = s.routes := rfl
@[simp] theorem emit_telRoute (o : Out) : (s.emit o).telRoute = s.telRoute := rfl
@[simp] theorem emit_execs (o : Out) : (s.emit o).execs = s.execs := rfl
@[simp] theorem emit_waiting (o : Out) : (s.emit o).waiting = s.waiting := rfl
@[simp] theorem emit_resuming (o : Out) : (s.emit o).resuming = s.resuming := rfl
@[simp] theorem emit_parked (o : Out) : (s.emit o).parked = s.parked := rfl
@[simp] theorem emit_gdma (o : Out) : (s.emit o).gdma = s.gdma := rfl
@[simp] theorem emit_src (o : Out) : (s.emit o).src = s.src := rfl
@[simp] theorem emit_quires (o : Out) : (s.emit o).quires = s.quires := rfl
@[simp] theorem emit_reqs (o : Out) : (s.emit o).reqs = s.reqs := rfl
@[simp] theorem emit_sos (o : Out) : (s.emit o).sos = s.sos := rfl
@[simp] theorem emit_ports (o : Out) : (s.emit o).ports = s.ports := rfl
@[simp] theorem emit_tiles (o : Out) : (s.emit o).tiles = s.tiles := rfl
@[simp] theorem emit_masks (o : Out) : (s.emit o).masks = s.masks := rfl
@[simp] theorem emit_page (o : Out) : (s.emit o).page = s.page := rfl
@[simp] theorem emit_th (o : Out) : (s.emit o).th = s.th := rfl
@[simp] theorem emit_sp (o : Out) : (s.emit o).sp = s.sp := rfl
@[simp] theorem emit_spr (o : Out) : (s.emit o).spr = s.spr := rfl
@[simp] theorem emit_press (o : Out) : (s.emit o).press = s.press := rfl
@[simp] theorem emit_rst (o : Out) : (s.emit o).rst = s.rst := rfl
@[simp] theorem emit_flash (o : Out) : (s.emit o).flash = s.flash := rfl
@[simp] theorem emit_otp (o : Out) : (s.emit o).otp = s.otp := rfl
@[simp] theorem emit_mgt (o : Out) : (s.emit o).mgt = s.mgt := rfl
@[simp] theorem emit_bg (o : Out) : (s.emit o).bg = s.bg := rfl
@[simp] theorem emit_out (o : Out) : (s.emit o).out = o :: s.out := rfl
@[simp] theorem emit_nextId (o : Out) : (s.emit o).nextId = s.nextId := rfl
@[simp] theorem emit_draws (o : Out) : (s.emit o).draws = s.draws := rfl
@[simp] theorem emit_ring (o : Out) (i : Fin 64) : (s.emit o).ring i = s.ring i := rfl
@[simp] theorem emit_source (o : Out) (i : Fin 16) : (s.emit o).source i = s.source i := rfl
@[simp] theorem emit_quire (o : Out) (i : Fin 8) : (s.emit o).quire i = s.quire i := rfl
@[simp] theorem emit_port (o : Out) (i : Fin 32) : (s.emit o).port i = s.port i := rfl
@[simp] theorem emit_yobor (o : Out) (d : SpPort) : (s.emit o).yobor d = s.yobor d := by cases d <;> rfl
@[simp] theorem emit_ns (o : Out) : (s.emit o).ns = s.ns := rfl
@[simp] theorem emit_cores (o : Out) : (s.emit o).cores = s.cores := rfl

/-! ### draw -/

@[simp] theorem draw_pending : (s.draw).pending = s.pending := rfl
@[simp] theorem draw_clk : (s.draw).clk = s.clk := rfl
@[simp] theorem draw_tb : (s.draw).tb = s.tb := rfl
@[simp] theorem draw_glb : (s.draw).glb = s.glb := rfl
@[simp] theorem draw_link : (s.draw).link = s.link := rfl
@[simp] theorem draw_rings : (s.draw).rings = s.rings := rfl
@[simp] theorem draw_cnt : (s.draw).cnt = s.cnt := rfl
@[simp] theorem draw_routes : (s.draw).routes = s.routes := rfl
@[simp] theorem draw_telRoute : (s.draw).telRoute = s.telRoute := rfl
@[simp] theorem draw_execs : (s.draw).execs = s.execs := rfl
@[simp] theorem draw_waiting : (s.draw).waiting = s.waiting := rfl
@[simp] theorem draw_resuming : (s.draw).resuming = s.resuming := rfl
@[simp] theorem draw_parked : (s.draw).parked = s.parked := rfl
@[simp] theorem draw_gdma : (s.draw).gdma = s.gdma := rfl
@[simp] theorem draw_src : (s.draw).src = s.src := rfl
@[simp] theorem draw_quires : (s.draw).quires = s.quires := rfl
@[simp] theorem draw_reqs : (s.draw).reqs = s.reqs := rfl
@[simp] theorem draw_sos : (s.draw).sos = s.sos := rfl
@[simp] theorem draw_ports : (s.draw).ports = s.ports := rfl
@[simp] theorem draw_tiles : (s.draw).tiles = s.tiles := rfl
@[simp] theorem draw_masks : (s.draw).masks = s.masks := rfl
@[simp] theorem draw_page : (s.draw).page = s.page := rfl
@[simp] theorem draw_th : (s.draw).th = s.th := rfl
@[simp] theorem draw_sp : (s.draw).sp = s.sp := rfl
@[simp] theorem draw_spr : (s.draw).spr = s.spr := rfl
@[simp] theorem draw_press : (s.draw).press = s.press := rfl
@[simp] theorem draw_rst : (s.draw).rst = s.rst := rfl
@[simp] theorem draw_flash : (s.draw).flash = s.flash := rfl
@[simp] theorem draw_otp : (s.draw).otp = s.otp := rfl
@[simp] theorem draw_mgt : (s.draw).mgt = s.mgt := rfl
@[simp] theorem draw_bg : (s.draw).bg = s.bg := rfl
@[simp] theorem draw_out : (s.draw).out = s.out := rfl
@[simp] theorem draw_nextId : (s.draw).nextId = s.nextId := rfl
@[simp] theorem draw_draws : (s.draw).draws = s.draws + 1 := rfl
@[simp] theorem draw_ring (i : Fin 64) : (s.draw).ring i = s.ring i := rfl
@[simp] theorem draw_source (i : Fin 16) : (s.draw).source i = s.source i := rfl
@[simp] theorem draw_quire (i : Fin 8) : (s.draw).quire i = s.quire i := rfl
@[simp] theorem draw_port (i : Fin 32) : (s.draw).port i = s.port i := rfl
@[simp] theorem draw_yobor (d : SpPort) : (s.draw).yobor d = s.yobor d := by cases d <;> rfl
@[simp] theorem draw_ns : (s.draw).ns = s.ns := rfl
@[simp] theorem draw_cores : (s.draw).cores = s.cores := rfl

end Sys2Proof.Machine
end

