-- ==== Sys2Proof/Laws/Report.lean ====
section
/-! SUPPORT. Reporting leaves the device alone: sending, ring entries, interrupts, events and completions change nothing of `State.device`
(12_host_rings.md R339, R344; 13_commands_events.md R363, R364, R374, R379). -/

namespace Sys2Proof.Machine

variable (s : State)

@[simp] theorem emit_device (o : Out) : (s.emit o).device = s.device := rfl

@[simp] theorem modRing_device (r : Fin 64) (f : Ring → Ring) : (s.modRing r f).device = s.device := rfl

@[simp] theorem cnt_device (c : Counters) : ({ s with cnt := c } : State).device = s.device := rfl

@[simp] theorem execs_device (l : List Exec) : ({ s with execs := l } : State).device = s.device := rfl

@[simp] theorem waiting_device (l : List Waiting) : ({ s with waiting := l } : State).device = s.device := rfl

@[simp] theorem parked_device (l : List Parked) : ({ s with parked := l } : State).device = s.device := rfl

@[simp] theorem msixPend_device (b : BitVec 64) : ({ s with link := { s.link with msixPend := b } } : State).device = s.device := rfl

@[simp] theorem bcasts_device (l : List Broadcast) : ({ s with spr := { s.spr with bcasts := l } } : State).device = s.device := rfl

@[simp] theorem mgtOut_device (p : SpPort) (l : Yobor → List (Option SpPort × Cell)) :
    (s.modYobor p fun y => { y with mgtOut := l y }).device = s.device := by cases p <;> rfl

@[simp] theorem takeSeq_device (typ : Fin 6) : (takeSeq s typ).1.device = s.device := rfl

@[simp] theorem sendMsix_device (v : Nat) : (sendMsix s v).device = s.device := by
  unfold sendMsix; dsimp only; split
  · rfl
  · split <;> simp

@[simp] theorem ringIrq_device (r : Fin 64) (f : Bool) : (ringIrq s r f).device = s.device := by
  unfold ringIrq; dsimp only; split
  · rfl
  · split <;> simp

@[simp] theorem pushEntry_device (r : Fin 64) (e : Bytes) (f : Bool) : (pushEntry s r e f).device = s.device := by
  unfold pushEntry; dsimp only; split
  · rfl
  · split
    · simp
    · split <;> simp

@[simp] theorem haltRing_device (r : Fin 64) (st : Nat) : (haltRing s r st).device = s.device := rfl

@[simp] theorem putCell_device (sp : SpPort) (m : Bool) (c : Cell) : (putCell s sp m c).device = s.device := by
  unfold putCell; split <;> simp

@[simp] theorem sendOne_device (sp : SpPort) (typ : Fin 6) (dst : Nat) (p : Bytes) : (sendOne s sp typ dst p).device = s.device := by
  simp only [sendOne, putCell_device]; rfl

theorem mgtSegs_device (fuel n : Nat) : ∀ (s : State) (sp : SpPort) (dst kind ttag : Nat) (bs : Bytes),
    (mgtSegs fuel n s sp dst kind ttag bs).device = s.device := by
  induction fuel generalizing n with
  | zero => intros; rfl
  | succ m ih => intros; unfold mgtSegs; split <;> simp [ih]

@[simp] theorem sendMgt_device (dst kind ttag : Nat) (bs : Bytes) : (sendMgt s dst kind ttag bs).device = s.device := by
  unfold sendMgt; split
  · rfl
  · split
    · rfl
    · split <;> simp [mgtSegs_device]

@[simp] theorem writeEvent_device (code sev : Nat) (e : Bytes) : (writeEvent s code sev e).device = s.device := by
  unfold writeEvent; dsimp only; split
  · rfl
  · split
    · rfl
    · split <;> simp

/-- Raising an event changes nothing of the device. -/
@[simp] theorem raise_device (code kind index sev : Nat) (data : Bytes) : (raise s code kind index sev data).device = s.device := by
  unfold raise; dsimp only; split <;> simp

@[simp] theorem writeCpl_device (r : Fin 64) (tag st node res : Nat) (n : Bool) : (writeCpl s r tag st node res n).device = s.device := by
  unfold writeCpl; dsimp only; split <;> simp

@[simp] theorem countCpl_device (st : Nat) : (countCpl s st).device = s.device := rfl

@[simp] theorem bcastAnswer_device (h : CmdHdr) (node st res : Nat) (t : Bool) : (bcastAnswer s h node st res t).device = s.device := by
  unfold bcastAnswer; split
  · dsimp only; split
    · simp
    · split <;> simp
  all_goals rfl

/-- Completing a command changes nothing of the device. -/
@[simp] theorem complete_device (h : CmdHdr) (st res : Nat) : (complete s h st res).device = s.device := by
  unfold complete; dsimp only; split
  · split <;> simp
  all_goals simp

/-- Refusing a command changes nothing of the device. -/
@[simp] theorem refuse_device (h : CmdHdr) (st : Nat) : (refuse s h st).device = s.device := by
  unfold refuse; dsimp only; split
  · split <;> simp
  all_goals simp

/-- Two states with the same device agree in every field outside the traces of reporting. -/
theorem device_fields {s t : State} (h : t.device = s.device) :
    t.pending = s.pending ∧ t.clk = s.clk ∧ t.tb = s.tb ∧ t.glb = s.glb ∧ t.routes = s.routes ∧ t.src = s.src ∧ t.quires = s.quires ∧
    t.reqs = s.reqs ∧ t.sos = s.sos ∧ t.ports = s.ports ∧ t.tiles = s.tiles ∧ t.masks = s.masks ∧ t.page = s.page ∧ t.th = s.th ∧
    t.press = s.press ∧ t.rst = s.rst ∧ t.flash = s.flash ∧ t.otp = s.otp ∧ t.mgt = s.mgt ∧ t.bg = s.bg ∧ t.draws = s.draws :=
  ⟨congrArg (a₁ := t.device) (a₂ := s.device) State.pending h,
   congrArg (a₁ := t.device) (a₂ := s.device) State.clk h,
   congrArg (a₁ := t.device) (a₂ := s.device) State.tb h,
   congrArg (a₁ := t.device) (a₂ := s.device) State.glb h,
   congrArg (a₁ := t.device) (a₂ := s.device) State.routes h,
   congrArg (a₁ := t.device) (a₂ := s.device) State.src h,
   congrArg (a₁ := t.device) (a₂ := s.device) State.quires h,
   congrArg (a₁ := t.device) (a₂ := s.device) State.reqs h,
   congrArg (a₁ := t.device) (a₂ := s.device) State.sos h,
   congrArg (a₁ := t.device) (a₂ := s.device) State.ports h,
   congrArg (a₁ := t.device) (a₂ := s.device) State.tiles h,
   congrArg (a₁ := t.device) (a₂ := s.device) State.masks h,
   congrArg (a₁ := t.device) (a₂ := s.device) State.page h,
   congrArg (a₁ := t.device) (a₂ := s.device) State.th h,
   congrArg (a₁ := t.device) (a₂ := s.device) State.press h,
   congrArg (a₁ := t.device) (a₂ := s.device) State.rst h,
   congrArg (a₁ := t.device) (a₂ := s.device) State.flash h,
   congrArg (a₁ := t.device) (a₂ := s.device) State.otp h,
   congrArg (a₁ := t.device) (a₂ := s.device) State.mgt h,
   congrArg (a₁ := t.device) (a₂ := s.device) State.bg h,
   congrArg (a₁ := t.device) (a₂ := s.device) State.draws h⟩

end Sys2Proof.Machine
end

