-- ==== Sys2Proof/WellFormed.lean ====
section
/-! DEFINITION. Well-formed commands and happenings: what the outside world can bring about at all. A command entry's parameters are
not restricted here: the controller itself checks them and answers with a status (13_commands_events.md R371). -/

namespace Sys2Proof

/-- A multiple of `n`. -/
def alignedTo (n v : Nat) : Bool := v % n == 0

/-- A value from `lo` to `hi`. -/
def within (lo hi v : Int) : Bool := decide (lo ≤ v) && decide (v ≤ hi)

/-- Strictly rising numbers below `n`. -/
def risingBelow (n : Nat) : List Nat → Bool
  | [] => true
  | [a] => decide (a < n)
  | a :: b :: t => decide (a < b) && risingBelow n (b :: t)

/-- A STOP has a cause code of R98. -/
def kindWf : ReqKind → Bool
  | .stop cause => cause != 0
  | .inhibit => true
  | .cap _ => true

/-- A housekeeping round: 64 thermistor sums and 8 auxiliary sums of sixteen 12-bit conversions, 8 die sensors, 20 supplies (R257, R274). -/
def roundWf (rd : HkRound) : Bool :=
  decide (rd.th.length = 64) && decide (rd.die.length = 8) && decide (rd.supply.length = 20) && decide (rd.aux.length = 8) &&
  rd.th.all (fun v => decide (v ≤ 65520)) && rd.aux.all (fun v => decide (v ≤ 65520)) && rd.die.all (within (-32768) 32767) &&
  rd.supply.all (fun v => decide (v < 65536))

/-- A CAN frame: an 11-bit identifier unless extended; 0 to 8 bytes, or an FD length; remote frames are classic and carry no data (R315). -/
def frameWf (f : CanFrame) : Bool :=
  (f.ext || decide (f.id.toNat < 2048)) && (f.fd || !f.brs) && (!f.rtr || (!f.fd && f.data.isEmpty)) &&
  (decide (f.data.length ≤ 8) || (f.fd && [12, 16, 20, 24, 32, 48, 64].contains f.data.length))

/-- A scrub report: a word of 64 nozzles is numbered below 128. -/
def locWf : ScrubLoc → Bool
  | .lineWord _ _ word _ => decide (word < 128)
  | .clean _ _ | .lineOther _ | .bankWord _ _ _ _ | .tile _ _ _ | .tileFree _ | .wave _ _ _ _ | .pageRegion _ _ _ | .pageStaged _ _
  | .pageFree _ | .sram _ _ => true

/-- RequestResponseCode of an SPDM message: its second byte (DSP0274). -/
def requestCode (req : Bytes) : Option Nat :=
  match req with
  | _ :: c :: _ => some c.toNat
  | _ => none

/-- A command or happening that can occur. Log entry 79: DEDUCED. -/
def Instr.wf : Instr → Bool
  | .registerWrite off _ => alignedTo 4 off.toNat
  | .barAccessInvalid _ _ a => [1, 2, 4, 8].contains a.size
  | .remoteLost n => decide (4 ≤ n.1)
  | .headLatch _ badWords => risingBelow 128 badWords
  | .probeCaptureEnd _ samples => decide (samples.length ≤ 100) && samples.all (within (-2048) 2047)
  | .arbiterRequest _ _ k => kindWf k
  | .bandStaged _ data => decide (data.length ≤ 0x4000000)
  | .lineDecode _ data _ => decide (data.length ≤ 0x4000000)
  | .pageTrainingDone ok rate gib => !ok || (decide (3200 ≤ rate) && decide (rate ≤ 8533) && [8, 16, 24, 32].contains gib)
  | .pcieLinkUp gen width x =>
    decide (1 ≤ gen) && decide (gen ≤ 5) && [1, 2, 4, 8].contains width && [128, 256, 512].contains x.mps &&
    [128, 256, 512, 1024, 2048, 4096].contains x.mrrs
  | .headmemReply _ head data _ => decide (head.length = 3) && decide (data.length ≤ 64)
  | .hkRoundEnd rd => roundWf rd
  | .thermalShutdown die => decide (die.length = 8) && die.all (within (-32768) 32767)
  | .writeSafeChange _ _ mv => decide (mv < 65536)
  | .childLost sp => sp != .u
  | .enuProbeTimeout sp => sp != .u
  | .canFrameRx _ x => frameWf x.frame
  | .busOffEntry _ tec recv => decide (256 ≤ tec) && decide (recv ≤ 255)
  | .otpMarginRecheck aged => risingBelow 1024 (aged.map fun x => x.word.1)
  | .scrubStep loc _ => locWf loc
  | .mctpDataWr _ _ data => decide (1 ≤ data.length) && decide (data.length ≤ 48)
  | .mctpDataRd _ _ len => decide (1 ≤ len.toNat) && decide (len.toNat ≤ 48)
  | .getVersion _ req => requestCode req == some 0x84
  | .getCapabilities _ req => requestCode req == some 0xE1
  | .negotiateAlgorithms _ req => requestCode req == some 0xE3
  | .getDigests _ req => requestCode req == some 0x81
  | .getCertificate _ req => requestCode req == some 0x82
  | .challenge _ req => requestCode req == some 0x83
  | .getMeasurements _ req => requestCode req == some 0xE0
  | .spdmUnsupportedRequest _ req => match requestCode req with
    | some c => !([0x84, 0xE1, 0xE3, 0x81, 0x82, 0x83, 0xE0].contains c)
    | none => false
  | .headI2cTransferDone _ _ data => decide (data.length ≤ 64)
  | .nop _ _ | .getInfo _ _ | .setProfile _ _ | .selfReset _ _ | .setTime _ _ | .getCounters _ _ | .ringCreate _ _ | .ringDestroy _ _
  | .ringResume _ _ | .portOpen _ _ | .portClose _ _ | .portConfig _ _ | .portQuery _ _ | .headmemRead _ _ | .headmemWrite _ _
  | .heaterSet _ _ | .headProfileLoad _ _ | .encConfig _ _ | .encQuery _ _ | .encPreset _ _ | .quireBind _ _ | .sosConfig _ _
  | .jobDefine _ _ | .jobArm _ _ | .jobStop _ _ | .jobAbort _ _ | .jobQuery _ _ | .demandConfig _ _ | .tableCommit _ _ | .waveLoad _ _
  | .levelMapLoad _ _ | .waveTcompLoad _ _ | .fireOffsetSet _ _ | .screenLoad _ _ | .nucLoad _ _ | .delayLoad _ _ | .maskLoad _ _
  | .stitchConfig _ _ | .deckleSet _ _ | .nozMapSet _ _ | .nozMapGet _ _ | .rvsConfig _ _ | .rvsLearn _ _ | .compConfig _ _ | .wearQuery _ _
  | .thermLimits _ _ | .thermQuery _ _ | .sensorSubstitute _ _ | .supplyQuery _ _ | .spineConfig _ _ | .spineEnumerate _ _ | .spineQuery _ _
  | .remoteEncBind _ _ | .busConfig _ _ | .busFilter _ _ | .busSend _ _ | .busQuery _ _ | .otpRead _ _ | .otpProgram _ _ | .otpSeal _ _
  | .otpMarginCheck _ _ | .otpLock _ _ | .fwStage _ _ | .fwVerify _ _ | .fwActivate _ _ | .fwQuery _ _ | .colophonRead _ _
  | .colophonLog _ _ | .loopback _ _ | .testPattern _ _ | .eventConfig _ _ | .backgroundConfig _ _ | .pageAlloc _ _ | .pageFree _ _
  | .pageFill _ _ | .pageQuery _ _ | .ringCtrlEnable _ _ | .ringCtrlResume _ _ | .ringTailDoorbell _ _ | .ringHeadReturn _ _
  | .ringTailRead _ | .pwStatusRead _ | .pwCmpLowWrite _ _ _ | .pwCmpStartHighWrite _ _ | .pwCmpStopHighWrite _ _ | .pwLateWinWrite _ _
  | .pwFracOfsWrite _ _ _ | .pwLevelCapWrite _ _ | .pwCtrlRetrain _ _ _ | .encRawLoRead _ | .quireLowHalfRead _ _ | .glbTbLoRead
  | .mgtMeasW0Read _ | .encoderEdge _ _ _ _ _ | .indexEdge _ _ _ | .serialFrameStart _ _ | .serialFrameEnd _ _ | .encStall _ | .lineDue _
  | .lineDecision _ | .playbackStart _ _ _ | .playbackEnd _ _ | .sosEdge _ _ _ | .arbiterWithdraw _ _ | .bankSwap _ | .shadowCopy _
  | .quireDrainEnd _ | .portDrainEnd _ | .imageDescFetch _ _ | .descRetire _ | .lineScreen _ | .tapRefresh _ | .demandEval
  | .gdmaDescFetch _ _ | .cmdFetch _ _ | .catchwordReread _ _ | .dmaFault _ | .ringCloseDone _ | .msixHoldoffEnd _ | .telemetrySnapshot
  | .hostReset _ | .d3hotEntry | .d0Return | .headPresenceChange _ _ | .portBringupDone _ _ | .backChannelStatus _ _ | .linkLost _
  | .linkBlockEnd _ | .levelMapTransfer _ _ | .learnTimeLimit _ | .learnSwap _ | .monitorReset _ | .wearCommitPeriodic _
  | .blockLockAcquired _ | .blockLockLost _ _ | .peerSilent _ | .helloTx _ | .helloRx _ _ | .cellFramingError _ | .flowXoffRx _
  | .flowXonRx _ | .evtCellRx _ _ | .syncTx | .syncRx _ _ | .syncLoss | .delayReqTx | .delayReqRx _ _ _ | .delayRespRx _ _ _ | .posPublish _
  | .posCellRx _ _ | .dmdTx | .dmdRx _ _ | .mgtCmdRx _ _ | .mgtCplRx _ _ | .mgtEvtRx _ _ | .mgtRdReqRx _ _ | .mgtRdDataRx _ _
  | .mgtWrReqRx _ _ | .mgtWrDataRx _ _ | .mgtWrAckRx _ _ | .tunnelTimeout _ | .enuProbeRx _ _ | .enuReplyRx _ _ | .enuAssignRx _ _
  | .enuDoneRx _ _ | .enuRefuseRx _ _ | .pressStateTimeout | .busOffRecovery _ | .speedDemandTx | .statusTx | .heartbeatTx | .canTxDone _
  | .busSendTimeout _ | .stopNAccepted | .stopNReleased | .spdDemPeriod | .vbatPowerOn | .corePor | .pinReset | .watchdogExpiry
  | .selfResetDrive | .selfDriveEnd | .resetSourceRelease _ | .fuseLoadDone _ | .stretchEnd _ _ _ | .pllLock | .spnuClockLock
  | .mainFirmwareReady | .dacCalibration _ _ | .senseAdcCalibration _ | .jtagDebugAttach | .setEndpointId _ _ _ | .getEndpointId _
  | .getMctpVersionSupport _ _ | .getMessageTypeSupport _ | .mctpCmd _ _ | .dmaTransferDone _ _ | .otpPulseEnd _ _ | .flashWriteDone _
  | .flashPauseTimeout | .vppPresenceChange _ => true

end Sys2Proof
end

