-- ==== Sys2Proof/Tests/Slice0.lean ====
section
/-! SUPPORT. Tests: small states, a witness for the hypotheses of every clause of every statement, ill-formed terms that WellFormed refuses,
and worked examples of the spec. -/

open Sys2Proof Sys2Proof.Machine

namespace Sys2Proof.Tests

set_option Elab.async false

/-! ### Small states -/

/-- A running controller: READY, with all 32 ports and every control core up. -/
def wBase : State := { State.reset with
  rst := { Rst.reset with seq := .ready, stage := 3, asserted := [], pllLocked := true }, otp := { Otp.reset with ports32 := true },
  clk := 100, tb := 100, out := [.pinRstN true, .pwmOff], nextId := 9, draws := 4 }

/-- With rings: a command ring and its completion ring, an ABSENT one set up for creation, one of a bad size, and a HALTED one. -/
def wRings : State :=
  ((((wBase.modRing 32 fun g => { g with st := .active, size := 16, pair := 40, base := 0x1000 }).modRing 40
    fun g => { g with st := .active, size := 16, base := 0x2000, tail := 3, irqEn := true }).modRing 33
    fun g => { g with size := 16, base := 0x3000 }).modRing 34 fun g => { g with size := 17 }).modRing 35
    fun g => { g with st := .halted, size := 16, pair := 40, haltCode := 9 }

/-- A bank with one nozzle, and the banks of a port. -/
def wBank : Bank :=
  { ents := [(128, 0)], curves := [], tile := 0, xOfs := 0, yOfs := 0, delays := [0], deckFirst := 0, deckLast := 0,
    stitch := ⟨false, 0, 0, 0, 0, 0, 0, 1, 0, 0, 0⟩,
    comp := { mode := 0, airOut := false, weakOut := false, radius := 1, w1 := 0, w2 := 0, vol := [] }, cap := 7, frac := .replicate 8 0, host := [],
    chA := { rows := [], keepwet := none, tcomp := [], sensor := 2, hyst := 16, rankGain := 0x4000 },
    chB := { rows := [], keepwet := none, tcomp := [], sensor := 2, hyst := 16, rankGain := 0x4000 } }

def wBanks : Banks := { live := wBank, shadow := wBank, old := none, heldW := [], hurt := [], poison := [], written := [], pend := false, tcompA := false, tcompB := false }

/-- Port 4 is IDLE with banks and shows in window A; quire 2, with that port, is ARMED at boundary 8, one line late at most. -/
def wQuire : State :=
  ({ wBase with glb := { Glb.reset with pselA := 4 } }.modPort 4 fun x => { x with st := .idle, banks := some wBanks }).modQuire 2
    fun q => { q with st := .armed, ports := 16, active := 0, pitch := 0x100000, cmpStart := 8, anchor := 8, lateWin := 1 }

/-- Source 1 is incremental, in a given state; its B input changed at 200. -/
def wSource (st : SrcState) : State :=
  wBase.modSrc 1 fun y => { y with st := st, lastB := some 200, cfg := { SrcCfg.reset with mode := .incremental } }

/-- Source 1 has an index period of 100 counts and this residue. -/
def wIndex (residue : Nat) : State :=
  (wSource .tracking).modSrc 1 fun y => { y with residue := residue, cfg := { y.cfg with indexPeriod := 100 } }

/-- Source 1 has moved. -/
def wMoving : State :=
  (wSource .tracking).modSrc 1 fun y => { y with speed := 65536, edges := [(100, 100, 256), (50, 50, 0)], base := some (256, 100), mark := 256, raw := 256 }

/-- Source 2 is BiSS C, ACQUIRING, with a frame in progress or none. -/
def wSerial (frame : Option Nat) : State :=
  wBase.modSrc 2 fun y => { y with st := .acquiring, frameAt := frame, nextFrame := 500,
                                   cfg := { SrcCfg.reset with mode := .bissC, serBits := 8, crcWidth := 1, crcPoly := 1, clkKhz := 1000, serPeriod := 20000 } }

/-- A BiSS C frame of position 5 with no error and no warning, with its CRC of width 1. -/
def wFrame : SerialFrame := { started := true, bits := 5, nE := true, nW := true, errBit := false, crc := 0 }

/-- Remote source 4 is bound to source 1 of node 3. -/
def wRemote : State := wBase.modSrc 4 fun y => { y with bound := some (3, 1), cellAt := 50, st := .tracking }

/-- Port 4 prints for quire 2, whose source 0 stands at boundary 8. -/
def wPrint : State :=
  ((wQuire.modPort 4 fun x => { x with st := .printing, nextK := 8 }).modQuire 2
    fun q => { q with st := .printing, active := 16, running := true, started := true, origin := 0 }).modSrc 0
    fun y => { y with st := .tracking, cfg := { SrcCfg.reset with mode := .incremental }, raw := 0x8000, mark := 0x8000, tracked := 0x8000 }

/-- A playback of channel A, and an undecided line of port 4 with it. -/
def wAPlay : Play := { ch := .a, groups := 1, start := 1000, slot := 0, segs := [(0, 2)], samples := 2, gain := 0x4000, rank := 0x4000, phase := 0 }

def wALine : Line :=
  { k := 8, idx := 0, prevEnd := 0, mapBank := false, flyleaf := false, down := false, cap := 7, first := 1000, latchAt := 500, decideAt := 800, late := false,
    dec := none, latched := false, miss := [], codes := some [3], plays := [wAPlay], probe := none, img := none, windowAt := none }

/-- Port 4 prints with the line in flight: undecided, fired, suppressed, playing. -/
def wLine : State := wPrint.modPort 4 fun x => { x with lines := [wALine] }
def wFired : State := wPrint.modPort 4 fun x => { x with lines := [{ wALine with dec := some (.fire 3) }] }
def wSuppressed : State := wPrint.modPort 4 fun x => { x with lines := [{ wALine with dec := some .suppress }] }
def wRunning : State := wPrint.modPort 4 fun x => { x with lines := [{ wALine with dec := some (.fire 3), plays := [{ wAPlay with phase := 1 }] }] }

/-- Port 4 prints with a probe of nozzle 5 whose playback has ended. -/
def wProbeLine : Line := { wALine with dec := some (.fire 3), latched := true, plays := [{ wAPlay with phase := 2 }], probe := some (5, true) }
def wProbed : State := wPrint.modPort 4 fun x => { x with lines := [wProbeLine] }

/-- A source of requests. -/
def wSrc : ReqSource := .interlock

/-- A stored job without flyleaf whose forward swaths input 1 gates. -/
def wJob : Job :=
  { through := false, halt := false, stopPort := false, bidir := false, truncStop := false, flyleaf := 0, maxRate := 100000, flight := 0, policy := 0,
    sosFwd := 1, sosRev := 255, swathLines := 10, swaths := 0, firstFwd := 100, firstRev := 100, jobId := 1 }

/-- Quire 3 waits, ARMED, for a swath that input 1 gates. -/
def wScan : State :=
  { (wBase.modQuire 3 fun q => { q with st := .armed, scan := true, pitch := 0x100000, job := some wJob, anchor := 100 }) with
    sos := upd wBase.sos 1 fun o => { o with enable := true, winHi := 0x10000 } }

/-- The swap of port 4 is pending. -/
def wPend : State := wQuire.modPort 4 fun x => { x with banks := some { wBanks with pend := true } }

/-- Port 4's next boundary is 9, which the source does not reach; its first line is held back for the boundary before, or not. -/
def wNext (ahead : Bool) : State := wPrint.modPort 4 fun x => { x with nextK := 9, dat := { x.dat with ahead := ahead } }

/-- The fired line's slot has an uncorrectable sample. -/
def wHurt : State :=
  wFired.modPort 4 fun x => { x with chA := { x.chA with slots := [(0, { start := 0, samples := 2, segs := [(0, 2)] })], hurt := [1] } }

/-- Port 4 has swapped, and an old bank governs lines before line 0; quire 2 draws lines, or not. -/
def wOldBank : OldBank := { bank := { wBank with cap := 3 }, from_ := 0, mapBank := false, entryA := 0, entryB := 0 }
def wOldBanks : Banks := { wBanks with old := some wOldBank }
def wOld : State := wQuire.modPort 4 fun x => { x with banks := some wOldBanks }
def wOldDue : State := wPrint.modPort 4 fun x => { x with banks := some wOldBanks, nextK := -5 }
def wHeldBanks : Banks := { wOldBanks with heldW := [.reg 0 0] }
def wHeld : State := wQuire.modPort 4 fun x => { x with banks := some wHeldBanks }

/-- Quire 2 is BOUND with a stored job; the image ring of port 4 is ACTIVE with an entry posted, and paired with completion ring 40. -/
def wFetch : State :=
  ((((wQuire.modQuire 2 fun q => { q with st := .bound, job := some wJob }).modRing 4
    fun g => { g with st := .active, size := 16, pair := 40, base := 0x1000, tail := 1 }).modRing 40
    fun g => { g with st := .active, size := 16, base := 0x2000 }).modPort 4
    fun x => { x with cfg := some { form := 0, nrl := true, depth := 3, nozzles := 1, errLimit := 0, laneRate := 100 } })

/-- A band of two lines, and port 4 with it fetched. -/
def wADesc : Desc :=
  { kind := 1, ns := false, notify := false, tag := 7, lines := 2, len := 64, addr := 0x4000, region := 0, ofs := 0, reps := 1, startJ := 0, decoded := 0,
    byteOfs := 0, run := 0, runRep := false, broken := false, staged := false, retired := false, ringless := false, starts := [], firedN := 0,
    lostN := 0, data := [] }

def wBand : State :=
  { (wFetch.modPort 4 fun x => { x with dat := { x.dat with descs := [wADesc] } }) with page := { PageStore.reset with st := .ready, gib := 4 } }

def wBandOver : State :=
  wFetch.modPort 4 fun x => { x with dat := { x.dat with settled := 2, descs := [{ wADesc with decoded := 2, firedN := 1, notify := true }] } }

/-- Port 4 prints; its band stands inside a blank run, or a line waits to be screened. -/
def wRun : State := wPrint.modPort 4 fun x => { x with dat := { x.dat with descs := [{ wADesc with run := 1 }] }, cfg := (wFetch.port 4).cfg }
def wQueued : State := wPrint.modPort 4 fun x => { x with dat := { x.dat with queue := [{ j := 0, bytes := [5], levels := none, sat := false }] }, cfg := (wFetch.port 4).cfg }

/-- A band that the page store cannot take whole. -/
def wHuge : State :=
  { (wFetch.modPort 4 fun x => { x with dat := { x.dat with descs := [{ wADesc with len := 2 ^ 40 }] } }) with
      page := { PageStore.reset with st := .ready, gib := 4 } }

/-- The link is up. -/
def wLink : State := { wRings with link := { HostLink.reset with up := true, rate := 5, width := 16, msixEn := true, msixVMask := .replicate 64 false } }

/-- Ring 40 has an entry during its holdoff. -/
def wHoldoff : State := wLink.modRing 40 fun g => { g with arrived := true, holdUntil := 900, holdoff := 3, vector := 5 }

/-- Region 5 of one block; general DMA ring 56 with a descriptor posted, and with its transfer under way. -/
def wRegion : Region := { blocks := 1, mem := .empty, bad := [] }
def wGdma : State :=
  { (wRings.modRing 56 fun g => { g with st := .active, size := 16, pair := 40, tail := 1 }) with
    page := { PageStore.reset with st := .ready, gib := 4, regions := [(5, wRegion)] } }
def wGdmaRun : State :=
  { wGdma with gdma := [(56, 0x800000000040000000000005000701000001, 9)] }

/-- A command of ring 32 that waits for its transfer: of host data, or of its read-out. -/
def wHdr : CmdHdr := { src := .ring 32, tag := 3, flags := 0, bcast := false }
def wExec : Exec := { id := 7, op := 0x0501, h := wHdr, p := 0, subj := [], wait := .dma, data := [9], need := 1, acks := 0 }
def wReadIn : State := { wRings with execs := [wExec] }
/-- A TABLE_COMMIT waits for the swap of port 4, whose quire 2 is ARMED. -/
def wSwap : State := { wPend with execs := [{ wExec with op := 0x0407, wait := .swap 16 0 none 4 }] }
def wReadOut : State := { wRings with execs := [{ wExec with need := 0 }] }

/-- The profile of a HIF-C head with one nozzle; port 4 IDLE with such a head, its link up. -/
def wProfile : Profile :=
  { gen := 3, model := 1, nozzles := 1, depths := 14, sense := true, th1 := false, laneMax := 3125, tMinjet := 160, tColdWarn := 200, tWarn := 800,
    tLimit := 960, tAbs := 1120, tHyst := 32, capLevel := 3, htrKp := 0, htrKi := 0, htrMax := 0, thCurve := [], noz := [0] }
def wHifC : State := wQuire.modPort 4 fun x => { x with profile := some wProfile, link := { x.link with up := true } }

/-- A status frame: lanes in lock, 25 °C and no second sensor. -/
def wStatus : BitVec 64 :=
  let b : Bytes := [0x9C, 0, 0x1E, 0x90, 0x01, 0x00, 0x80]
  BitVec.ofNat 64 (rdLE (b ++ [crc8 b]))

/-- A PORT_OPEN of port 4 whose identity check has passed. -/
def wOpenExec : Exec := { id := 7, op := 0x0201, h := wHdr, p := 4, subj := [], wait := .bringup true, data := [], need := 0, acks := 0 }
def wOpening : State :=
  { (wRings.modPort 4 fun x => { x with st := .opening, profile := some wProfile, cfg := (wFetch.port 4).cfg }) with execs := [wOpenExec] }

/-- The link of port 4, a HIF-C port, takes its steps: lanes in lock, attempts, its state, the commands in execution. -/
def wRetrainExec : Exec := { wExec with op := 0x0203, p := 4, wait := .retrain }
def wTrain (lanes train : Nat) (st : PState) (es : List Exec) : State :=
  { (wHifC.modPort 4 fun x => { x with st := st, link := { x.link with lanes := lanes, train := train } }) with execs := es }

/-- Port 4 with an access to head memory under way: as a request frame, or over I²C. -/
def wAccess (frame : Bool) : State :=
  wHifC.modPort 4 fun x => { x with hm := [{ why := .status, write := false, addr := 0, left := 1, data := [], more := [], done := 0, sent := some frame }] }

/-- Channel A of port 4 has new rows for the head. -/
def wMapDue : State := wQuire.modPort 4 fun x => { x with chA := { x.chA with mapDue := true } }

/-- Port 4 learns, or has a staged set that is to go live. -/
def wALearn : Learn := { id := 3, wantP := true, wantK := false, count := 8, until_ := 5000, colP := [], colK := [] }
def wLearn : State := wQuire.modPort 4 fun x => { x with rvs := { x.rvs with learn := some wALearn } }
def wStaged : State := wQuire.modPort 4 fun x => { x with rvs := { x.rvs with swapDue := true, staging := some .reset } }

/-- The stretch runs. -/
def wStretch : State := { wBase with rst := { Rst.reset with seq := .stretch, asserted := [], stretchAt := 40 } }

/-- What a housekeeping round measures. -/
def wRound : HkRound := { th := [], die := [400], aux := [], supply := [800] }

/-- Node 3 of a spine tree, MEMBER: SPNU and SPNA are UP, SPNB trains; the nodes 4 to 6 lie behind SPNA. -/
def wSpine (st : SpState) : State :=
  { wRings with sp := { wRings.sp with
      st := st, nodeId := 3, depth := 1, spvOp := 3, epoch := 9, last := 6,
      u := { wRings.sp.u with link := .up, locked := true, lastHello := 50, peer := 1 },
      a := { wRings.sp.a with link := .up, locked := true, lastHello := 50, peer := 4, lo := 4, hi := 6 },
      b := { wRings.sp.b with link := .training, locked := true } } }

/-- The same node, ALONE, as a root. -/
def wRoot : State := { wSpine .alone with rst := { wBase.rst with straps := 0x10 }, sp := { (wSpine .alone).sp with u := { wBase.sp.u with link := .down } } }

/-- A cell of a type with a payload, from one node to another. -/
def wCell (typ src dst : Nat) (payload : Bytes) : Cell := mkCell typ 3 .u src dst 0 0 payload

/-- Node 3 with source 4 bound to source 1 of node 3's peer; the root of a tree, with nodes 2 to 6 behind SPNA. -/
def wRemoteMember : State := (wSpine .member).modSrc 4 fun y => { y with bound := some (3, 1), cellAt := 50, st := .acquiring }
def wTree : State :=
  { wRoot with sp := { wRoot.sp with
      st := .synced, nodeId := 1, depth := 0, last := 6, a := { wRoot.sp.a with lo := 2 } } }

/-- Node 3 listens to STOP events for quire 2, which is ARMED. -/
def wStopped : State := { wSpine .member with quires := wQuire.quires, ports := wQuire.ports, sp := { (wSpine .member).sp with evtIn := 4 } }

/-- Node 3 waits for the CPL of a command that it sent to node 4, from ring 32; its due instant is 900. -/
def wSent : Tunnelled := { ttag := 5, node := 4, h := wHdr, deadline := 900, bcast := false }
def wTunnel : State := { wSpine .member with spr := { (wSpine .member).spr with tunnel := [wSent] } }

/-- A partly received message from node 4. -/
def wPart (kind nextSeg : Nat) (data : Bytes) : MgtPart := { src := 4, kind := kind, ttag := 5, data := data, nextSeg := nextSeg, addr := 0x1000, len := 16 }
def wParted (kind nextSeg : Nat) (data : Bytes) : State := { wTunnel with spr := { wTunnel.spr with parts := [wPart kind nextSeg data] } }

/-- An MGT cell of node 4 to node 3, with TTAG 5. -/
def wMgt (kind seg : Nat) (payload : Bytes) : Cell :=
  wCell 4 4 3 ([BitVec.ofNat 8 kind, BitVec.ofNat 8 seg, 5, 0] ++ payload)

/-- Node 3 runs a command that node 4 sent; it reads host data over the tunnel. -/
def wTunnelExec : Exec := { wExec with h := { wHdr with src := .tunnel 4 5 }, data := [], need := 64, acks := 0 }
def wTunnelRun : State := { wSpine .member with execs := [wTunnelExec] }

/-- Enumeration on node 3: SPNA is in progress, with an ID assigned to it or not. -/
def wEnum (assigned : Option Nat) : Enum :=
  { sp := .a, next := 4, assigned := assigned, sentAt := 100, refused := 0, tooDeep := false, version := false, timedOut := 0, nodes := 1,
    spvMin := 3, spvMinId := 3, bigP := 64, wasSynced := false }
def wEnumerating (assigned : Option Nat) : State := { wSpine .joining with sp := { (wSpine .joining).sp with enum := some (wEnum assigned) } }
/-- The same with SPNB in progress, the last port. -/
def wLastPort (assigned : Option Nat) : State :=
  { wSpine .joining with sp := { (wSpine .joining).sp with enum := some { wEnum assigned with sp := .b }, b := { (wSpine .joining).sp.b with link := .up } } }

/-- Controller A is on the bus and sends press messages of station 5; the press's station is 6. Filter 0 passes every standard frame. -/
def wCan : Can :=
  { wBase.press.canA with mode := .classic, st := .errorActive, pressMsgs := true, autoRec := true, filters := .replicate 16 ⟨true, false, 0, 0⟩ }
def wPress : State :=
  { wQuire with press := { wQuire.press with canA := wCan, idBase := 1, station := 5, pressStation := 6, psTimeout := 10, sdTx := 1, sdPeriod := 5, hbPeriod := 20 } }
def wCanFrame : CanFrame := { id := 0x123, ext := false, fd := false, brs := false, rtr := false, data := [1, 2] }
def wPressFrame (typ : Nat) (data : Bytes) : CanFrame :=
  { id := BitVec.ofNat 29 (pressId 1 typ 6), ext := true, fd := false, brs := false, rtr := false, data := data }
/-- Controller A with frames that wait: a press message, or a host frame of command 7. -/
def wPressWait : State := { wPress with press := { wPress.press with canA := { wCan with press := [(4, [])] } } }
def wSendExec : Exec := { wExec with op := 0x0A03, wait := .can 900 }
def wHostWait : State := { wPress with execs := [wSendExec], press := { wPress.press with canA := { wCan with host := [(7, wCanFrame)] } } }

/-- An OTP operation on word 600 whose pulse ends at 900; a flash write of a staged image, paused or not. -/
def wOtpJob (pulses : Nat) : OtpJob :=
  { id := 7, targets := [⟨600, 1, 0⟩], bit := 0, pulses := pulses, blown := 0, most := 1, torn := false, steps := 0, crc := 0, region := 7, used := 0,
    checked := true, lock := none, due := 900 }
def wOtp (pulses : Nat) : State :=
  { wRings with otp := { wRings.otp with job := some (wOtpJob pulses) }, execs := [{ wExec with op := 0x0B02, wait := .otp }] }
def wFlash (pausedAt : Option Nat) : State :=
  { wRings with flash := { wRings.flash with job := some (.stage 7 1 [1, 2]), pausedAt := pausedAt }, execs := [{ wExec with op := 0x0C01, wait := .flash }] }
/-- The link is up and the device key is there; SPDM has come to its algorithms. -/
def wKey : State := { wLink with mgt := { wLink.mgt with keyReady := true } }
def wSpdm : State := { wKey with mgt := { wKey.mgt with spdmVersion := true, spdmCaps := true, spdmAlgs := true } }

/-- The flash writes a boot record; the controller boots, with its clocks locked. -/
def wRecord : BootRec := { seq := 5, active := 1, previous := 0, trial := true, limit := 3 }
def wWriting : State := { wFlash none with flash := { (wFlash none).flash with job := some (.record 7 false wRecord true false) } }
def wBooting : State := { wKey with rst := { wKey.rst with seq := .boot } }

/-! ### Commands -/

/-- The parameters of a command: fields by their offset and value. -/
def par (l : List (Nat × Nat)) : Params := BitVec.ofNat 448 (l.foldl (fun n e => n + e.2 * 2 ^ (8 * (e.1 - 8))) 0)

/-- Supplies, OTP locks and memory let everything through; port 4 is CLOSED with a profile and a configuration. -/
def wOpen : State :=
  { (wGdma.modPort 4 fun x => { x with profile := some wProfile, cfg := (wFetch.port 4).cfg, prsHigh := false }) with
      th := { wGdma.th with wsVdd := true, wsVddio := true }, otp := { wGdma.otp with progLock := 0, readLock := 0 } }
/-- Port 4 is IDLE with banks and one nozzle. -/
def wHead : State := wOpen.modPort 4 fun x => { x with st := .idle, banks := some wBanks }
/-- Quire 2, of port 4, is BOUND with a THROUGH job of source 0, which tracks. -/
def wArm : State :=
  (wHead.modQuire 2 fun q => { q with
    st := .bound, ports := 16, pitch := 0x100000, lateWin := 1, job := some { wJob with through := true, sosFwd := 255, swathLines := 0, firstFwd := 0, firstRev := 0, maxRate := 1000 } }).modSrc 0
    fun y => { y with st := .tracking, cfg := { SrcCfg.reset with mode := .incremental } }
/-- The controller runs slot 1 on trial. -/
def wTrial : State :=
  { wHead with rst := { wHead.rst with trial := true, slot := 1 }, flash := { wHead.flash with rec0 := some wRecord, running := some [1] } }
/-- Port 4 has a staged set of signatures; its sensor 0 is faulty. -/
def wStagedHead : State := wHead.modPort 4 fun x => { x with rvs := { x.rvs with stagedLoad := true, staging := some .reset } }
def wFaulty : State :=
  (wHead.modPort 4 fun x => { x with therm := { x.therm with s0 := { x.therm.s0 with faulty := true } } }).modPort 5 fun x => { x with st := .idle, profile := some wProfile }
/-- Threshold tile 1 and mask tile 1 are there. -/
def wTile (depth : Nat) : Tile := { depth := depth, w := 16, h := 16, data := [], damaged := false }
def wTiles : State := { wHead with tiles := [(1, wTile 2)], masks := [(1, wTile 0)] }
/-- The log of measurements has an entry. -/
def wLogged : State := { wHead with mgt := { wHead.mgt with log := [[1]] } }
/-- Every OTP word of region 3 is blank. -/
def wBlank : State := { wHead with otp := { wHead.otp with words := (List.range 16).map fun i => (224 + i, ⟨0, 0⟩) } }
theorem blank_within (b : BitVec 73) : (OtpWord.mk 0 0).within b = true := by simp [OtpWord.within]
theorem blank_status : programStatus wBlank.otp 3 3 5 = 0 := by
  have e : wBlank.otp.word (otpBase 3 + 3) = ⟨0, 0⟩ := by decide +kernel
  have f : wordSealed (wBlank.otp.word (otpBase 3 + otpSize 3 - 1)).m0 = false := by decide +kernel
  simp only [programStatus, e, f, blank_within]
  simp [wordSealed]
theorem blank_fields : fld (par [(8, 3), (10, 3), (16, 5)]) 8 1 = 3 ∧ fld (par [(8, 3), (10, 3), (16, 5)]) 10 2 = 3 ∧
    BitVec.ofNat 64 (fld (par [(8, 3), (10, 3), (16, 5)]) 16 8) = 5 := by decide +kernel

/-! ### Witnesses of the statements for every command -/

theorem witness_StepNeverStops : ∃ s : State, s.pending = [] ∧ (s.cores = false ∨ s.waiting = []) := ⟨.reset, by decide +kernel⟩
theorem witness_CommandsStartInOrder :
    (∃ s : State, s.cores = false) ∧ (∃ s : State, s.cores = true ∧ mustWait s 0x0101 wHdr 0 = true) ∧
    (∃ s : State, s.cores = true ∧ mustWait s 0x0501 wHdr 0 = false ∧ s.romOnly = true ∧ 0x0501 ∉ romOps) ∧
    ∃ s : State, ∃ h, mayStart s 0x0001 h 0 = true ∧ flagsBad h = true :=
  ⟨⟨.reset, by decide +kernel⟩, ⟨{ wRings with execs := List.replicate 32 wExec }, by decide +kernel⟩,
   ⟨{ wRings with rst := { wRings.rst with seq := .recovery } }, by decide +kernel⟩, wRings, { wHdr with flags := 4 }, by decide +kernel⟩
theorem witness_DryRunMovesNothing : ∃ i op h p, opcodeOf i = some (op, h, p) ∧ isDry h = true :=
  ⟨.nop { wHdr with flags := 8 } 0, 1, { wHdr with flags := 8 }, 0, by decide +kernel⟩
def wFull : State := wRings.modRing 48 fun g => { g with st := .active, size := 16, base := 0x5000, tail := 15 }
theorem witness_RingEntriesAreWritten :
    (∃ s r, ((s : State).ring r).st = .active ∧ s.link.d3hot = false ∧ (s.ring r).full = false) ∧
    (∃ s r, ((s : State).ring r).st = .active ∧ s.link.d3hot = false ∧ (s.ring r).full = true) ∧
    (∃ s r, ((s : State).ring r).st = .absent) ∧ (∃ s r, ((s : State).ring r).st = .active ∧ s.link.d3hot = true) ∧
    ∃ (s : State) (r : Fin 64) (code sev : Nat), let route := look s.routes (finOf 8 (by decide) (code / 4096 + 7))
      route.disable.getLsbD (code % 4096 - 1) = false ∧ route.minSev ≤ sev ∧ routeRing s route.ring = some r ∧ (s.ring r).st ≠ .closing ∧
      s.link.d3hot = false ∧ (s.ring r).full = true :=
  ⟨⟨wRings, 40, by decide +kernel⟩, ⟨wFull, 48, by decide +kernel⟩, ⟨.reset, 0, by decide +kernel⟩,
   ⟨{ wRings with link := { wRings.link with d3hot := true } }, 40, by decide +kernel⟩, wFull, 48, 0x1001, 0, by decide +kernel⟩
theorem witness_OpcodesNameCommands : ∃ op h p i, Sys2Proof.commandOf op h p = some i ∧ opcodeOf i = some (op, h, p) :=
  ⟨1, wHdr, 0, .nop wHdr 0, by decide +kernel⟩
theorem witness_StagingWindowKeepsData : ∃ s b c, ∃ (ofs : U32) (data : Bytes) (len : BitVec 8),
    s.mgt.sram.wf = true ∧ mctpUp s b = true ∧ mctpUp s c = true ∧ len.toNat = data.length ∧ 1 ≤ data.length ∧ data.length ≤ 48 ∧ ofs.toNat + data.length ≤ s.window :=
  ⟨wKey, .smbus, .vdm, 16, [1, 0, 3], 3, by decide +kernel⟩
theorem witness_MemoriesStayCanonical : ∃ s t : State, s.memoriesWf = true ∧ step s = .next t := ⟨.reset, State.reset.advance 1, rfl, rfl⟩
theorem witness_TimeNeverRunsBack : ∃ c s t, exec c s = .next t := ⟨.corePor, .reset, _, rfl⟩
theorem witness_ResetsSetRouting : ∃ s : State, s.drivesRst = false := ⟨wBase, by decide +kernel⟩
theorem witness_OtpLockSetsBits : ∃ h p s, starts s 0x0B05 h p [(8, 1), (9, 1)] = true := ⟨wHdr, par [(8, 5)], wHead, by decide +kernel⟩
theorem witness_SmallPitchIsRefused : ∃ h p s, mayStart s 0x0304 h p = true ∧ flagsBad h = false ∧
    undefSet p [(8, 1), (9, 1), (10, 1), (12, 4), (16, 4), (24, 8)] = false ∧ rsv (fld p 9 1) 0x03 = false ∧ bit (fld p 9 1) 0 = false ∧
    fld p 16 4 < 0x10000 := ⟨wHdr, par [(8, 1), (12, 1), (16, 0xFFFF)], wHead, by decide +kernel⟩
/-- Every command can be refused: with a reserved bit of FLAGS, at a controller in READY. -/
theorem witness_refusals : ∀ op ∈ [0x0001, 0x0002, 0x0003, 0x0004, 0x0005, 0x0006, 0x0101, 0x0102, 0x0103, 0x0201, 0x0202, 0x0203, 0x0204, 0x0205,
    0x0206, 0x0207, 0x0208, 0x0301, 0x0302, 0x0303, 0x0304, 0x0305, 0x0401, 0x0402, 0x0403, 0x0404, 0x0405, 0x0406, 0x0407, 0x0501, 0x0502, 0x0503,
    0x0504, 0x0601, 0x0602, 0x0603, 0x0604, 0x0605, 0x0606, 0x0701, 0x0702, 0x0703, 0x0704, 0x0705, 0x0706, 0x0801, 0x0802, 0x0803, 0x0804, 0x0901,
    0x0902, 0x0903, 0x0904, 0x0A01, 0x0A02, 0x0A03, 0x0A04, 0x0B01, 0x0B02, 0x0B03, 0x0B04, 0x0B05, 0x0C01, 0x0C02, 0x0C03, 0x0C04, 0x0D01, 0x0D02,
    0x0E01, 0x0E02, 0x0E03, 0x0E04, 0x0F01, 0x0F02, 0x0F03, 0x0F04],
    mayStart wHead op { wHdr with flags := 4 } 0 = true ∧ flagsBad { wHdr with flags := 4 } = true := by decide +kernel

/-! ### Witnesses of the command statements, one per clause -/

theorem witness_SystemDiagAndPageCommandsAnswer_1 :
  (∃ (h : CmdHdr) (p : Params) (s : State),
    starts s 0x0001 h p [] = true ∧ firstBad [] = 0) :=
  ⟨wHdr, par [], wHead, by decide +kernel⟩

theorem witness_SystemDiagAndPageCommandsAnswer_2 :
  (∃ (h : CmdHdr) (p : Params) (s : State),
    let addr := fld p 16 8
    starts s 0x0002 h p [(16, 8)] = true ∧ firstBad ((addrChecks s h addr 64)) = 0) :=
  ⟨wHdr, par [(16, 4096)], wHead, by decide +kernel⟩

theorem witness_SystemDiagAndPageCommandsAnswer_3 :
  (∃ (h : CmdHdr) (p : Params) (s : State),
    let f := fld p 8 1
    let lay := fld p 9 1
    let cap := fld p 10 1 = 1
    let off := fun (b o : Nat) => !(bit f b) && fld p o 1 != 0
    starts s 0x0003 h p [(8, 1), (9, 1), (10, 1), (11, 1)] = true ∧ firstBad [(rsv f 0x07 || f == 0 || off 0 9 || off 1 10 || off 2 11 || decide (2 < lay) || decide (1 < fld p 10 1) || decide (1 < fld p 11 1), stBadParam),
      (bit f 0 && decide (lay ≠ s.glb.layout.toNat) && layoutHeld s lay, stBadState),
      (bit f 1 && decide cap && decide (s.aggregateCap true < s.admitted), stCapacity)] = 0) :=
  ⟨wHdr, par [(8, 2), (10, 1)], wHead, by decide +kernel⟩

theorem witness_SystemDiagAndPageCommandsAnswer_4 :
  (∃ (h : CmdHdr) (p : Params) (s : State),
    starts s 0x0004 h p [(8, 1), (9, 1), (12, 4)] = true ∧ firstBad [(fld p 8 1 != 0xA5 || rsv (fld p 9 1) 0x01, stBadParam), (decide (1000000 < fld p 12 4), stRange),
      (!(bit (fld p 9 1) 0) && s.anyBeyond, stBadState)] = 0) :=
  ⟨wHdr, par [(8, 165)], wHead, by decide +kernel⟩

theorem witness_SystemDiagAndPageCommandsAnswer_5 :
  (∃ (h : CmdHdr) (p : Params) (s : State),
    let adj := fld p 8 1 = 1
    let new : Int := (s.tb : Int) + 4 * sfld p 16 8
    starts s 0x0005 h p [(8, 1), (16, 8)] = true ∧ firstBad [(decide (1 < fld p 8 1), stBadParam), (decide adj && decide (new < 0), stRange),
      ((!s.isRoot && s.sp.st != .alone) || s.anyBeyond, stBadState)] = 0) :=
  ⟨wHdr, par [(16, 1000)], wHead, by decide +kernel⟩

theorem witness_SystemDiagAndPageCommandsAnswer_6 :
  (∃ (h : CmdHdr) (p : Params) (s : State),
    let addr := fld p 16 8
    starts s 0x0006 h p [(8, 1), (16, 8)] = true ∧ firstBad (((rsv (fld p 8 1) 0x01, stBadParam) :: addrChecks s h addr 64)) = 0) :=
  ⟨wHdr, par [(16, 4096)], wHead, by decide +kernel⟩

theorem witness_SystemDiagAndPageCommandsAnswer_7 :
  (∃ (h : CmdHdr) (p : Params) (s : State),
    let reg := fld p 8 1 = 1
    let n := fld p 10 2
    let len := fld p 12 4
    starts s 0x0E01 h p [(8, 1), (9, 1), (10, 2), (12, 4), (16, 8), (24, 8), (32, 4)] = true ∧ firstBad [(decide (1 < fld p 8 1) || rsv (fld p 9 1) 0x01 || (!reg && (n != 0 || fld p 32 4 != 0)), stBadParam),
      (outLen h len 64 1048576 || (reg && badSpan s n (fld p 32 4) (if mislen h len then 0 else len)) || beyond s h (fld p 16 8) len || beyond s h (fld p 24 8) len, stRange),
      (misaddr h (fld p 16 8) || misaddr h (fld p 24 8) || mislen h len || (reg && fld p 32 4 % 64 != 0), stAlign),
      (reg && decide (s.page.st ≠ .ready), stBadState), (reg && s.fillsOf n != 0, stBusy)] = 0) :=
  ⟨wHdr, par [(12, 64), (16, 4096), (24, 8192)], wHead, by decide +kernel⟩

theorem witness_SystemDiagAndPageCommandsAnswer_8 :
  (∃ (h : CmdHdr) (p : Params) (s : State),
    let r := portNo (fld p 8 1)
    let x := s.port r
    let set := fld p 9 1 = 1
    let kind := fld p 10 1
    let level := fld p 11 1
    let step := fld p 12 2
    starts s 0x0E02 h p [(8, 1), (9, 1), (10, 1), (11, 1), (12, 2), (16, 4)] = true ∧ firstBad [(decide (1 < fld p 9 1) || decide (2 < kind) || (!(decide set) && (kind != 0 || level != 0 || step != 0 || fld p 16 4 != 0)) ||
      (kind == 2 && level != 0) || (kind != 1 && step != 0), stBadParam),
      (portBad s (fld p 8 1) || (decide set && out (fld p 16 4) 1 16777215), stRange), (decide (x.st ≠ .idle) || !(quireIdle s r), stBadState),
      (decide set && ((kind != 2 && out level 1 (topLevel x.depth)) || (kind == 1 && out step 2 8192)), stBadParam)] = 0) :=
  ⟨wHdr, par [(8, 4), (9, 1), (11, 1), (16, 10)], wHead, by decide +kernel⟩

theorem witness_SystemDiagAndPageCommandsAnswer_9 :
  (∃ (h : CmdHdr) (p : Params) (s : State),
    let g := fld p 8 1
    let read := bit (fld p 9 1) 0
    let ring := fld p 10 1
    let sev := fld p 11 1
    let dis := fld p 12 2
    starts s 0x0E03 h p [(8, 1), (9, 1), (10, 1), (11, 1), (12, 2)] = true ∧ firstBad [(rsv (fld p 9 1) 0x01 || (read && (ring != 0 || sev != 0 || dis != 0)) || (g == 15 && (sev != 0 || dis != 0)), stBadParam),
      ((out g 0 8 && g != 15) || (out ring 48 55 && ring != 0xFF && ring != 0) || decide (4 < sev), stRange), (read && g == 0, stBadParam)] = 0) :=
  ⟨wHdr, par [(8, 1), (10, 48), (11, 1)], wHead, by decide +kernel⟩

theorem witness_SystemDiagAndPageCommandsAnswer_10 :
  (∃ (h : CmdHdr) (p : Params) (s : State),
    let sh := fld p 8 1
    let f := fld p 9 1
    let addr := fld p 16 8
    starts s 0x0E04 h p [(8, 1), (9, 1), (10, 2), (12, 4), (16, 8)] = true ∧ firstBad [((decide (2 < sh) && sh != 0xFF) || rsv f 0x01 || (!(bit f 0) && fld p 12 4 != 0), stBadParam),
      ((fld p 10 2 != 0 && out (fld p 10 2) 10 10000) || (addr != 0 && beyond s h addr 64), stRange), (misaddr h addr, stAlign)] = 0) :=
  ⟨wHdr, par [(8, 1)], wHead, by decide +kernel⟩

theorem witness_SystemDiagAndPageCommandsAnswer_11 :
  (∃ (h : CmdHdr) (p : Params) (s : State),
    let addr := fld p 40 8
    let len := fld p 48 4
    starts s 0x0D01 h p [(8, 32), (40, 8), (48, 4)] = true ∧ firstBad [(wrongLen h len 640 || beyond s h addr len, stRange), (misaddr h addr || mislen h len, stAlign), (!s.mgt.keyReady, stNotSupported)] = 0) :=
  ⟨wHdr, par [(40, 4096), (48, 640)], wKey, by decide +kernel⟩

theorem witness_SystemDiagAndPageCommandsAnswer_12 :
  (∃ (h : CmdHdr) (p : Params) (s : State),
    let first := fld p 8 4
    let n := fld p 12 2
    let addr := fld p 16 8
    let len := fld p 24 4
    let held := s.mgt.log.length
    starts s 0x0D02 h p [(8, 4), (12, 2), (16, 8), (24, 4)] = true ∧ firstBad [(decide (4095 < first) || out n 1 64 || wrongLen h len (64 * n) || beyond s h addr len, stRange), (misaddr h addr || mislen h len, stAlign),
      (decide (held ≤ first), stRange)] = 0) :=
  ⟨wHdr, par [(12, 1), (16, 4096), (24, 64)], wLogged, by decide +kernel⟩

theorem witness_SystemDiagAndPageCommandsAnswer_13 :
  (∃ (h : CmdHdr) (p : Params) (s : State),
    starts s 0x0101 h p [(8, 1), (9, 1), (10, 1), (11, 1), (12, 4), (16, 8), (24, 1)] = true ∧ firstBad (((rsv (fld p 9 1) 0x01, stBadParam) :: planChecks s (planOf p) ++ [((s.ring (ringNo (fld p 8 1))).exists_, stBadState)])) = 0) :=
  ⟨wHdr, par [(8, 33), (11, 40), (12, 16), (16, 12288)], wHead, by decide +kernel⟩

theorem witness_SystemDiagAndPageCommandsAnswer_14 :
  (∃ (h : CmdHdr) (p : Params) (s : State),
    let r := ringNo (fld p 8 1)
    let st := (s.ring r).st
    starts s 0x0102 h p [(8, 1)] = true ∧ firstBad [(noRing s (fld p 8 1), stRange), (decide (st ≠ .active) && decide (st ≠ .halted), stBadState), (imageBusy s r.1, stBadState),
      (decide (40 ≤ r.1) && decide (r.1 < 48) && paired s r.1, stBusy)] = 0) :=
  ⟨wHdr, par [(8, 32)], wHead, by decide +kernel⟩

theorem witness_SystemDiagAndPageCommandsAnswer_15 :
  (∃ (h : CmdHdr) (p : Params) (s : State),
    let r := ringNo (fld p 8 1)
    starts s 0x0103 h p [(8, 1)] = true ∧ firstBad [(noRing s (fld p 8 1), stRange), (decide ((s.ring r).st ≠ .halted), stBadState)] = 0) :=
  ⟨wHdr, par [(8, 35)], wHead, by decide +kernel⟩

theorem witness_SystemDiagAndPageCommandsAnswer_16 :
  (∃ (h : CmdHdr) (p : Params) (s : State),
    let n := fld p 8 4
    starts s 0x0F01 h p [(8, 4)] = true ∧ firstBad [(out n 1 (if s.page.st = .ready then s.page.usable else 15360), stRange),
      (decide (s.page.st ≠ .ready), stBadState),
      (decide (s.freeBlocks < n) || decide (65535 ≤ s.page.regions.length), stCapacity)] = 0) :=
  ⟨wHdr, par [(8, 3)], wHead, by decide +kernel⟩

theorem witness_SystemDiagAndPageCommandsAnswer_17 :
  (∃ (h : CmdHdr) (p : Params) (s : State),
    let n := fld p 8 2
    starts s 0x0F02 h p [(8, 2)] = true ∧ firstBad [((s.region n).isNone, stRange), (s.fillPending n, stBusy)] = 0) :=
  ⟨wHdr, par [(8, 5)], wHead, by decide +kernel⟩

theorem witness_SystemDiagAndPageCommandsAnswer_18 :
  (∃ (h : CmdHdr) (p : Params) (s : State),
    let n := fld p 8 2
    let len := fld p 24 4
    let addr := fld p 16 8
    starts s 0x0F03 h p [(8, 2), (10, 1), (12, 4), (16, 8), (24, 4)] = true ∧ firstBad [(rsv (fld p 10 1) 0x01, stBadParam), (badSpan s n (fld p 12 4) (if mislen h len then 0 else len) || beyond s h addr len, stRange),
      (misaddr h addr || mislen h len || fld p 12 4 % 64 != 0, stAlign), (decide (s.page.st ≠ .ready), stBadState),
      (s.fillsOf n != 0, stBusy)] = 0) :=
  ⟨wHdr, par [(8, 5), (16, 4096), (24, 64)], wHead, by decide +kernel⟩

theorem witness_SystemDiagAndPageCommandsAnswer_19 :
  (∃ (h : CmdHdr) (p : Params) (s : State),
    let n := fld p 8 2
    let addr := fld p 16 8
    starts s 0x0F04 h p [(8, 2), (16, 8)] = true ∧ firstBad (((n != 0 && (s.region n).isNone, stRange) :: addrChecks s h addr 64)) = 0) :=
  ⟨wHdr, par [(8, 5), (16, 4096)], wHead, by decide +kernel⟩

theorem witness_PortAndHeadCommandsAnswer_1 :
  (∃ (h : CmdHdr) (p : Params) (s : State),
    let r := portNo (fld p 8 1)
    let x := s.port r
    starts s 0x0201 h p [(8, 1)] = true ∧ firstBad [(portBad s (fld p 8 1), stRange),
      (!(decide (x.st = .closed) && x.profile.isSome && x.cfg.isSome) && decide (x.st ≠ .fault), stBadState)] = 0) :=
  ⟨wHdr, par [(8, 4)], wOpen, by decide +kernel⟩

theorem witness_PortAndHeadCommandsAnswer_2 :
  (∃ (h : CmdHdr) (p : Params) (s : State),
    let r := portNo (fld p 8 1)
    let st := (s.port r).st
    starts s 0x0202 h p [(8, 1)] = true ∧ firstBad [(portBad s (fld p 8 1), stRange), (decide (st ≠ .opening ∧ st ≠ .idle ∧ st ≠ .fault), stBadState)] = 0) :=
  ⟨wHdr, par [(8, 4)], wHead, by decide +kernel⟩

theorem witness_PortAndHeadCommandsAnswer_3 :
  (∃ (h : CmdHdr) (p : Params) (s : State),
    let r := portNo (fld p 8 1)
    let x := s.port r
    let c := portCfgOf p
    let lr := match x.profile with
      | some f => ((laneRange f.gen).1, min (laneRange f.gen).2 f.laneMax)
      | none => (10, 3125)
    let depths := match x.profile with
      | some f => f.depths &&& rdAt x.ident 6 1
      | none => 0
    starts s 0x0203 h p [(8, 1), (9, 1), (10, 1), (11, 1), (12, 2), (14, 1), (16, 2)] = true ∧ firstBad [(decide (2 < c.form) || rsv (fld p 10 1) 0x01 || (c.depth != 2 && c.depth != 3), stBadParam),
      (portBad s (fld p 8 1) || out c.nozzles 1 8192 || out c.laneRate lr.1 lr.2, stRange),
      (decide (x.st ≠ .closed ∧ x.st ≠ .idle), stBadState),
      (decide (x.st = .idle) && (c.nozzles != rdAt x.ident 4 2 || !(bit depths (c.depth - 2))), stBadParam)] = 0) :=
  ⟨wHdr, par [(8, 4), (11, 3), (12, 1), (16, 1250)], wOpen, by decide +kernel⟩

theorem witness_PortAndHeadCommandsAnswer_4 :
  (∃ (h : CmdHdr) (p : Params) (s : State),
    let addr := fld p 16 8
    starts s 0x0204 h p [(8, 1), (16, 8)] = true ∧ firstBad [(portBad s (fld p 8 1) || beyond s h addr 64, stRange), (misaddr h addr, stAlign)] = 0) :=
  ⟨wHdr, par [(8, 4), (16, 4096)], wHead, by decide +kernel⟩

theorem witness_PortAndHeadCommandsAnswer_5 :
  (∃ (h : CmdHdr) (p : Params) (s : State),
    let r := portNo (fld p 8 1)
    let x := s.port r
    let mode := fld p 9 1
    let sp := sfld p 12 2
    let lim := match x.profile with
      | some f => (f.tWarn, f.htrMax)
      | none => (32768, 1023)
    starts s 0x0207 h p [(8, 1), (9, 1), (10, 1), (12, 2), (14, 2)] = true ∧ firstBad [(decide (2 < mode ∨ 2 < fld p 10 1) || (mode != 1 && fld p 12 2 != 0) || (mode != 2 && fld p 14 2 != 0), stBadParam),
      (portBad s (fld p 8 1) || (mode == 1 && decide (sp < -640 ∨ lim.1 ≤ sp)) || (mode == 2 && decide (lim.2 < fld p 14 2)), stRange),
      (decide (x.st = .closed), stBadState)] = 0) :=
  ⟨wHdr, par [(8, 4)], wHead, by decide +kernel⟩

theorem witness_PortAndHeadCommandsAnswer_6 :
  (∃ (h : CmdHdr) (p : Params) (s : State),
    let r := portNo (fld p 8 1)
    let x := s.port r
    starts s 0x0205 h p [(8, 1), (9, 1), (10, 2), (12, 2), (16, 8)] = true ∧ firstBad ((headMemChecks s h p ++ [(decide (x.st = .opening), stBusy), (x.prsHigh, stHeadAbsent)])) = 0) :=
  ⟨wHdr, par [(8, 4), (12, 16), (16, 4096)], wHead, by decide +kernel⟩

theorem witness_PortAndHeadCommandsAnswer_7 :
  (∃ (h : CmdHdr) (p : Params) (s : State),
    let r := portNo (fld p 8 1)
    let x := s.port r
    starts s 0x0206 h p [(8, 1), (9, 1), (10, 2), (12, 2), (16, 8)] = true ∧ firstBad ((headMemChecks s h p ++ [(decide (x.st = .closed ∨ x.st = .opening), stBadState), (decide (fld p 10 2 < 0x0100), stLocked),
      (!s.writeSafe, stSupplyLow), (x.prsHigh, stHeadAbsent)])) = 0) :=
  ⟨wHdr, par [(8, 4), (10, 256), (12, 16), (16, 4096)], wHead, by decide +kernel⟩

theorem witness_PortAndHeadCommandsAnswer_8 :
  (∃ (h : CmdHdr) (p : Params) (s : State),
    let addr := fld p 16 8
    let len := fld p 24 4
    starts s 0x0208 h p [(8, 1), (9, 1), (16, 8), (24, 4)] = true ∧ firstBad [(rsv (fld p 9 1) 0x01, stBadParam), (portBad s (fld p 8 1) || outLen h len 128 (64 + 8192) || beyond s h addr len, stRange),
      (misaddr h addr || mislen h len, stAlign), (decide ((s.port (portNo (fld p 8 1))).st ≠ .closed), stBadState)] = 0) :=
  ⟨wHdr, par [(8, 4), (16, 4096), (24, 128)], wOpen, by decide +kernel⟩

theorem witness_PositionAndJobCommandsAnswer_1 :
  (∃ (h : CmdHdr) (p : Params) (s : State),
    let n := srcNo (fld p 8 1)
    starts s 0x0301 h p [(8, 1), (9, 1), (10, 1), (11, 1), (12, 2), (14, 1), (15, 1), (16, 4), (20, 4), (24, 1), (25, 1), (26, 1), (28, 2), (30, 2), (32, 4), (36, 4), (40, 4), (44, 4)] = true ∧ firstBad [(cfgBadParam p, stBadParam), (cfgRange p, stRange), (s.srcBusy n, stBadState)] = 0) :=
  ⟨wHdr, par [(8, 1), (9, 1), (12, 16)], wHead, by decide +kernel⟩

theorem witness_PositionAndJobCommandsAnswer_2 :
  (∃ (h : CmdHdr) (p : Params) (s : State),
    let addr := fld p 16 8
    starts s 0x0302 h p [(8, 1), (16, 8)] = true ∧ firstBad (((decide (15 < fld p 8 1), stRange) :: addrChecks s h addr 64)) = 0) :=
  ⟨wHdr, par [(16, 4096)], wHead, by decide +kernel⟩

theorem witness_PositionAndJobCommandsAnswer_3 :
  (∃ (h : CmdHdr) (p : Params) (s : State),
    let n := srcNo (fld p 8 1)
    let x := s.source n
    starts s 0x0303 h p [(8, 1), (9, 1), (16, 8)] = true ∧ firstBad [(decide (1 < fld p 9 1), stBadParam), (decide (3 < fld p 8 1), stRange), (fld p 16 1 != 0, stRange),
      (decide (x.st = .disabled) || s.srcBusy n, stBadState),
      (fld p 9 1 == 1 && (decide (x.cfg.mode ≠ .incremental) || x.cfg.indexPeriod == 0), stBadParam)] = 0) :=
  ⟨wHdr, par [(8, 1), (16, 512)], wSource .acquiring, by decide +kernel⟩

theorem witness_PositionAndJobCommandsAnswer_4 :
  (∃ (h : CmdHdr) (p : Params) (s : State),
    let f := fld p 9 1
    let n := quireNo (fld p 8 1)
    let mask := fld p 12 4
    let scan := bit f 1
    let st := (s.quire n).st
    let unbind := bit f 0
    let taken := (idx 32).any fun r => mask.testBit r.1 && (match s.quireOf r with
      | some q => q != n
      | none => false)
    starts s 0x0304 h p [(8, 1), (9, 1), (10, 1), (12, 4), (16, 4), (24, 8)] = true ∧ firstBad [(rsv f 0x03 || (unbind && (scan || fld p 10 1 + mask + fld p 16 4 + fld p 24 8 != 0)), stBadParam),
      (decide (7 < fld p 8 1), stRange),
      (!unbind && (decide (15 < fld p 10 1) || decide (fld p 16 4 < 0x10000) || badPorts s mask scan), stRange),
      (decide (st ≠ .unbound ∧ st ≠ .bound) || (!unbind && taken), stBadState),
      (!unbind && (mask == 0 || trackMismatch s (srcNo (fld p 10 1)) scan), stBadParam)] = 0) :=
  ⟨wHdr, par [(8, 1), (10, 1), (12, 32), (16, 65536)], wSource .tracking, by decide +kernel⟩

theorem witness_PositionAndJobCommandsAnswer_5 :
  (∃ (h : CmdHdr) (p : Params) (s : State),
    let i := fld p 8 1
    let lo := BitVec.ofNat 64 (fld p 16 8)
    let hi := BitVec.ofNat 64 (fld p 24 8)
    starts s 0x0305 h p [(8, 1), (9, 1), (10, 2), (12, 4), (16, 8), (24, 8)] = true ∧ firstBad [(rsv (fld p 9 1) 0x03, stBadParam),
      (decide (3 < i) || out (fld p 10 2) 10 10000 || decide (4000000000 < fld p 12 4) ||
      decide (posDiff (hi.setWidth 56) (lo.setWidth 56) < 0), stRange),
      (sosInUse s i, stBadState)] = 0) :=
  ⟨wHdr, par [(8, 1), (9, 1), (10, 10), (24, 65536)], wHead, by decide +kernel⟩

theorem witness_PositionAndJobCommandsAnswer_6 :
  (∃ (h : CmdHdr) (p : Params) (s : State),
    let n := quireNo (fld p 8 1)
    let st := (s.quire n).st
    starts s 0x0401 h p [(8, 1), (9, 1), (10, 2), (12, 4), (16, 4), (20, 1), (21, 1), (22, 1), (24, 4), (28, 4), (32, 8), (40, 8), (48, 4)] = true ∧ firstBad [(rsv (fld p 9 1) 0x1F || decide (2 < fld p 20 1), stBadParam),
      (decide (7 < fld p 8 1) || out (fld p 12 4) 1 250000 || decide (1000000000 < fld p 16 4) || badSos (fld p 21 1) || badSos (fld p 22 1) ||
      decide (16777215 < fld p 24 4), stRange),
      (decide (st ≠ .unbound ∧ st ≠ .bound), stBadState)] = 0) :=
  ⟨wHdr, par [(8, 1), (12, 1000), (21, 255), (22, 255)], wHead, by decide +kernel⟩

theorem witness_PositionAndJobCommandsAnswer_7 :
  (∃ (h : CmdHdr) (p : Params) (s : State),
    let f := fld p 9 1
    let qi := quireNo (fld p 8 1)
    let q := s.quire qi
    let ps := s.portsOf qi
    let j := q.job.getD (jobOf 0)
    let valid := bit f 0
    let atNext := bit f 1
    let start := if atNext then s.quireNext qi else sfld p 16 8
    let e := sfld p 24 8
    let x := s.source q.source
    let n := if q.scan then 0 else s.behindBy qi start
    starts s 0x0402 h p [(8, 1), (9, 1), (16, 8), (24, 8)] = true ∧ firstBad [(rsv f 0x03 || (atNext && fld p 16 8 != 0) || (!valid && fld p 24 8 != 0), stBadParam),
      (decide (7 < fld p 8 1), stRange),
      (decide (q.st ≠ .bound) || q.job.isNone || (ps.any fun r => (s.port r).st != .idle) || (!j.through && s.page.st != .ready), stBadState),
      (!(paceFits q j) || (q.scan && (atNext || fld p 16 8 != 0)) || (valid && stopRefused q j start e) || sosOff s j, stBadParam),
      (decide (x.st = .disabled ∨ x.st = .acquiring ∨ x.st = .fault) || s.srcBi q.source != q.scan, stPosFault),
      (ps.any (headHot s), stTempInhibit),
      (overCapacity s ps j.maxRate, stCapacity), (overLink s ps j.maxRate, stLinkLimit),
      (ps.any fun r => !((s.port r).fits86 (some j.maxRate)), stRange), (ps.any fun r => (s.port r).poisoned, stPortFault),
      (decide ((q.lateWin : Int) < n), stCompareBehind)] = 0) :=
  ⟨wHdr, par [(8, 2), (16, 8)], wArm, by decide +kernel⟩

theorem witness_PositionAndJobCommandsAnswer_8 :
  (∃ (h : CmdHdr) (p : Params) (s : State),
    let qi := quireNo (fld p 8 1)
    let mode := fld p 9 1
    let q := s.quire qi
    starts s 0x0403 h p [(8, 1), (9, 1), (16, 8)] = true ∧ firstBad [(decide (2 < mode) || (mode != 1 && fld p 16 8 != 0), stBadParam), (decide (7 < fld p 8 1), stRange),
      (!q.st.stoppable, stBadState), (mode == 2 && !q.scan, stBadParam)] = 0) :=
  ⟨wHdr, par [(8, 2)], wQuire, by decide +kernel⟩

theorem witness_PositionAndJobCommandsAnswer_9 :
  (∃ (h : CmdHdr) (p : Params) (s : State),
    let qi := quireNo (fld p 8 1)
    let q := s.quire qi
    starts s 0x0404 h p [(8, 1)] = true ∧ firstBad [(decide (7 < fld p 8 1), stRange), (decide (q.st = .unbound), stBadState)] = 0) :=
  ⟨wHdr, par [(8, 2)], wQuire, by decide +kernel⟩

theorem witness_PositionAndJobCommandsAnswer_10 :
  (∃ (h : CmdHdr) (p : Params) (s : State),
    let addr := fld p 16 8
    starts s 0x0405 h p [(8, 1), (16, 8)] = true ∧ firstBad (((decide (7 < fld p 8 1), stRange) :: addrChecks s h addr 64)) = 0) :=
  ⟨wHdr, par [(8, 2), (16, 4096)], wQuire, by decide +kernel⟩

theorem witness_PositionAndJobCommandsAnswer_11 :
  (∃ (h : CmdHdr) (p : Params) (s : State),
    let qi := quireNo (fld p 8 1)
    starts s 0x0406 h p [(8, 1), (9, 1), (10, 2), (12, 4), (16, 4), (20, 4), (24, 8)] = true ∧ firstBad [(rsv (fld p 9 1) 0x01, stBadParam),
      (decide (7 < fld p 8 1) || out (fld p 12 4) 1000 60000000 || decide (fld p 12 4 ≤ fld p 16 4) || decide (2 ^ 48 ≤ fld p 24 8), stRange),
      (decide ((s.quire qi).st = .unbound), stBadState)] = 0) :=
  ⟨wHdr, par [(8, 2), (12, 2000), (16, 1000)], wQuire, by decide +kernel⟩

theorem witness_PositionAndJobCommandsAnswer_12 :
  (∃ (h : CmdHdr) (p : Params) (s : State),
    let mask := fld p 8 4
    let ps := portsIn mask
    starts s 0x0407 h p [(8, 4)] = true ∧ firstBad [(badPorts s mask false || commitRange s ps, stRange),
      (ps.any fun r => (s.port r).st == .closed, stBadState), (mask == 0, stBadParam), (commitPoison s ps, stPortFault)] = 0) :=
  ⟨wHdr, par [(8, 16)], wHead, by decide +kernel⟩

theorem witness_WaveAndTableCommandsAnswer_1 :
  (∃ (h : CmdHdr) (p : Params) (s : State),
    let fields := [(8, 1), (9, 1), (10, 1), (11, 1), (12, 2), (14, 2), (16, 8), (24, 4), (28, 1), (32, 32)]
    bit (fld p 11 1) 1 = true ∧ starts s 0x0501 h p fields = true ∧ firstBad ((waveChecks s h p)) = 0) :=
  ⟨wHdr, par [(8, 4), (10, 3), (11, 2)], wHead, by decide +kernel⟩

theorem witness_WaveAndTableCommandsAnswer_2 :
  (∃ (h : CmdHdr) (p : Params) (s : State),
    let fields := [(8, 1), (9, 1), (10, 1), (11, 1), (12, 2), (14, 2), (16, 8), (24, 4), (28, 1), (32, 32)]
    bit (fld p 11 1) 1 = false ∧ starts s 0x0501 h p fields = true ∧ firstBad ((waveChecks s h p)) = 0) :=
  ⟨wHdr, par [(8, 4), (10, 3), (14, 16), (16, 4096), (24, 64), (28, 1), (34, 16)], wHead, by decide +kernel⟩

theorem witness_WaveAndTableCommandsAnswer_3 :
  (∃ (h : CmdHdr) (p : Params) (s : State),
    let r := portNo (fld p 8 1)
    let top := topLevel (s.port r).depth
    starts s 0x0502 h p [(8, 1), (9, 1), (10, 1), (12, 8)] = true ∧ firstBad [(portBad s (fld p 8 1) || decide (1 < fld p 9 1) || (decide (15 < fld p 10 1) && fld p 10 1 != 0xFF), stRange),
      (decide ((s.port r).st = .closed), stBadState),
      ((List.range 8).any fun i => decide (top < i) && fld p (12 + i) 1 != 0, stBadParam)] = 0) :=
  ⟨wHdr, par [(8, 4), (10, 3)], wHead, by decide +kernel⟩

theorem witness_WaveAndTableCommandsAnswer_4 :
  (∃ (h : CmdHdr) (p : Params) (s : State),
    let r := portNo (fld p 8 1)
    let addr := fld p 16 8
    let len := fld p 24 4
    starts s 0x0503 h p [(8, 1), (9, 1), (10, 1), (11, 1), (12, 2), (14, 2), (16, 8), (24, 4), (28, 1)] = true ∧ firstBad [(decide (2 < fld p 11 1) || rsv (fld p 28 1) 0x01, stBadParam),
      (portBad s (fld p 8 1) || decide (1 < fld p 9 1) || out (fld p 10 1) 1 8 || decide (320 < fld p 12 2) || wrongLen h len 64 ||
      beyond s h addr len, stRange),
      (misaddr h addr || mislen h len, stAlign), (decide ((s.port r).st = .closed), stBadState)] = 0) :=
  ⟨wHdr, par [(8, 4), (10, 1), (16, 4096), (24, 64)], wHead, by decide +kernel⟩

theorem witness_WaveAndTableCommandsAnswer_5 :
  (∃ (h : CmdHdr) (p : Params) (s : State),
    let r := portNo (fld p 8 1)
    starts s 0x0504 h p [(8, 1), (9, 1), (12, 16)] = true ∧ firstBad [((List.range 8).any fun i => !(bit (fld p 9 1) i) && fld p (12 + 2 * i) 2 != 0, stBadParam), (portBad s (fld p 8 1), stRange),
      (decide ((s.port r).st = .closed), stBadState)] = 0) :=
  ⟨wHdr, par [(8, 4), (9, 1), (12, 8)], wHead, by decide +kernel⟩

theorem witness_WaveAndTableCommandsAnswer_6 :
  (∃ (h : CmdHdr) (p : Params) (s : State),
    let t := fld p 9 1
    let n := tileBytes false (fld p 10 1) (fld p 12 2) (fld p 14 2)
    let addr := fld p 16 8
    let len := fld p 24 4
    fld p 8 1 = 0 ∧ starts s 0x0601 h p [(8, 1), (9, 1), (10, 1), (11, 1), (12, 2), (14, 2), (16, 8), (24, 4), (28, 2), (30, 2), (32, 1)] = true ∧ firstBad [((fld p 10 1 != 2 && fld p 10 1 != 3) || fld p 11 1 != 0 || fld p 28 4 != 0 || rsv (fld p 32 1) 0x01, stBadParam),
      (out t 1 63 || out (fld p 12 2) 1 4096 || out (fld p 14 2) 1 4096 || decide (0x100000 < n) || wrongLen h len (up64 n) ||
      beyond s h addr len, stRange),
      (misaddr h addr || mislen h len, stAlign), (tileUsed s t && !(tileDamaged s false t), stBusy),
      (decide (poolSize false < poolTaken s false + poolUnits false n), stCapacity)] = 0) :=
  ⟨wHdr, par [(8, 0), (9, 1), (10, 2), (12, 16), (14, 16), (16, 4096), (24, 1024)], wHead, by decide +kernel⟩

theorem witness_WaveAndTableCommandsAnswer_7 :
  (∃ (h : CmdHdr) (p : Params) (s : State),
    let t := fld p 9 1
    let r := portNo (fld p 11 1)
    fld p 8 1 = 1 ∧ starts s 0x0601 h p [(8, 1), (9, 1), (10, 1), (11, 1), (12, 2), (14, 2), (16, 8), (24, 4), (28, 2), (30, 2), (32, 1)] = true ∧ firstBad [(fld p 10 1 != 0 || fld p 12 4 != 0 || fld p 16 8 != 0 || fld p 24 4 != 0 || fld p 32 1 != 0, stBadParam),
      (decide (63 < t) || portBad s (fld p 11 1) || (t != 0 && (s.tileOf false t).isNone), stRange),
      (decide ((s.port r).st = .closed), stBadState),
      (match s.tileOf false t with
      | some x => t != 0 && x.depth != (s.port r).depth
      | none => false, stBadParam)] = 0) :=
  ⟨wHdr, par [(8, 1), (9, 0), (11, 4)], wHead, by decide +kernel⟩

theorem witness_WaveAndTableCommandsAnswer_8 :
  (∃ (h : CmdHdr) (p : Params) (s : State),
    let t := fld p 9 1
    fld p 8 1 = 2 ∧ starts s 0x0601 h p [(8, 1), (9, 1), (10, 1), (11, 1), (12, 2), (14, 2), (16, 8), (24, 4), (28, 2), (30, 2), (32, 1)] = true ∧ firstBad [(fld p 10 1 != 0 || fld p 11 1 != 0 || fld p 12 4 != 0 || fld p 16 8 != 0 || fld p 24 8 != 0 || fld p 32 1 != 0, stBadParam),
      (out t 1 63 || (s.tileOf false t).isNone, stRange), (tileUsed s t, stBusy)] = 0) :=
  ⟨wHdr, par [(8, 2), (9, 1)], wTiles, by decide +kernel⟩

theorem witness_WaveAndTableCommandsAnswer_9 :
  (∃ (h : CmdHdr) (p : Params) (s : State),
    2 < fld p 8 1 ∧ mayStart s 0x0601 h p = true) :=
  ⟨wHdr, par [(8, 3)], wHead, by decide +kernel⟩

theorem witness_WaveAndTableCommandsAnswer_10 :
  (∃ (h : CmdHdr) (p : Params) (s : State),
    let r := portNo (fld p 8 1)
    let curves := fld p 9 1 = 1
    let first := fld p 10 2
    let n := fld p 12 2
    let addr := fld p 16 8
    let len := fld p 24 4
    starts s 0x0602 h p [(8, 1), (9, 1), (10, 2), (12, 2), (14, 1), (16, 8), (24, 4)] = true ∧ firstBad [(decide (1 < fld p 9 1) || rsv (fld p 14 1) 0x01, stBadParam),
      (portBad s (fld p 8 1) || n == 0 || decide ((if curves then 16 else (s.port r).nozzles) < first + n) ||
      wrongLen h len (up64 (if curves then n * 256 else n * 2)) || beyond s h addr len, stRange),
      (misaddr h addr || mislen h len, stAlign), (decide ((s.port r).st = .closed), stBadState)] = 0) :=
  ⟨wHdr, par [(8, 4), (12, 1), (16, 4096), (24, 64)], wHead, by decide +kernel⟩

theorem witness_WaveAndTableCommandsAnswer_11 :
  (∃ (h : CmdHdr) (p : Params) (s : State),
    let r := portNo (fld p 8 1)
    let n := fld p 12 2
    let addr := fld p 16 8
    let len := fld p 24 4
    starts s 0x0603 h p [(8, 1), (9, 1), (10, 2), (12, 2), (16, 8), (24, 4)] = true ∧ firstBad [(rsv (fld p 9 1) 0x01, stBadParam),
      (portBad s (fld p 8 1) || n == 0 || decide ((s.port r).nozzles < fld p 10 2 + n) || wrongLen h len (up64 (n * 2)) || beyond s h addr len,
      stRange),
      (misaddr h addr || mislen h len, stAlign), (decide ((s.port r).st = .closed), stBadState)] = 0) :=
  ⟨wHdr, par [(8, 4), (12, 1), (16, 4096), (24, 64)], wHead, by decide +kernel⟩

theorem witness_WaveAndTableCommandsAnswer_12 :
  (∃ (h : CmdHdr) (p : Params) (s : State),
    let t := fld p 9 1
    let n := tileBytes true 0 (fld p 12 2) (fld p 14 2)
    let addr := fld p 16 8
    let len := fld p 24 4
    fld p 8 1 = 0 ∧ starts s 0x0604 h p [(8, 1), (9, 1), (10, 1), (12, 2), (14, 2), (16, 8), (24, 4)] = true ∧ firstBad [(rsv (fld p 10 1) 0x01, stBadParam),
      (out t 1 63 || out (fld p 12 2) 1 4096 || out (fld p 14 2) 1 4096 || decide (0x100000 < n) || wrongLen h len (up64 n) ||
      beyond s h addr len, stRange),
      (misaddr h addr || mislen h len, stAlign), (maskUsed s t && !(tileDamaged s true t), stBusy),
      (decide (poolSize true < poolTaken s true + poolUnits true n), stCapacity)] = 0) :=
  ⟨wHdr, par [(8, 0), (9, 1), (12, 16), (14, 16), (16, 4096), (24, 256)], wHead, by decide +kernel⟩

theorem witness_WaveAndTableCommandsAnswer_13 :
  (∃ (h : CmdHdr) (p : Params) (s : State),
    let t := fld p 9 1
    fld p 8 1 = 1 ∧ starts s 0x0604 h p [(8, 1), (9, 1), (10, 1)] = true ∧ firstBad [(rsv (fld p 10 1) 0x01, stBadParam), (out t 1 63 || (s.tileOf true t).isNone, stRange), (maskUsed s t, stBusy)] = 0) :=
  ⟨wHdr, par [(8, 1), (9, 1)], wTiles, by decide +kernel⟩

theorem witness_WaveAndTableCommandsAnswer_14 :
  (∃ (h : CmdHdr) (p : Params) (s : State),
    1 < fld p 8 1 ∧ mayStart s 0x0604 h p = true) :=
  ⟨wHdr, par [(8, 2)], wHead, by decide +kernel⟩

theorem witness_WaveAndTableCommandsAnswer_15 :
  (∃ (h : CmdHdr) (p : Params) (s : State),
    let r := portNo (fld p 8 1)
    let x := stitchOf p
    let missing := fun (t : Nat) => t != 0 && (s.tileOf true t).isNone
    starts s 0x0605 h p [(8, 1), (9, 1), (10, 1), (11, 1), (12, 2), (14, 2), (16, 2), (18, 1), (19, 1), (20, 2), (22, 2), (24, 2)] = true ∧ firstBad [(rsv (fld p 9 1) 0x01 || (x.leftWidth == 0 && x.leftTile != 0) || (x.rightWidth == 0 && x.rightTile != 0) ||
      (!x.passEn && (x.passTile != 0 || x.passes != 0 || fld p 20 2 != 0 || x.passX != 0 || x.passY != 0)), stBadParam),
      (portBad s (fld p 8 1) || decide (1024 < x.leftWidth) || decide (1024 < x.rightWidth) || (x.passEn && out x.passes 1 16) ||
      decide (x.advance < -8192) || decide (8192 < x.advance) || missing x.leftTile || missing x.rightTile || missing x.passTile, stRange),
      (decide ((s.port r).st = .closed), stBadState),
      ((x.leftWidth != 0 && x.leftTile == 0) || (x.rightWidth != 0 && x.rightTile == 0) || (x.passEn && x.passTile == 0), stBadParam)] = 0) :=
  ⟨wHdr, par [(8, 4)], wHead, by decide +kernel⟩

theorem witness_WaveAndTableCommandsAnswer_16 :
  (∃ (h : CmdHdr) (p : Params) (s : State),
    let r := portNo (fld p 8 1)
    starts s 0x0606 h p [(8, 1), (12, 2), (14, 2)] = true ∧ firstBad [(portBad s (fld p 8 1) || decide (8191 < fld p 12 2) || decide (8191 < fld p 14 2) || decide (fld p 14 2 < fld p 12 2), stRange),
      (decide ((s.port r).st = .closed), stBadState)] = 0) :=
  ⟨wHdr, par [(8, 4), (14, 5)], wHead, by decide +kernel⟩

theorem witness_WaveAndTableCommandsAnswer_17 :
  (∃ (h : CmdHdr) (p : Params) (s : State),
    let r := portNo (fld p 8 1)
    let c := compOf p
    starts s 0x0705 h p [(8, 1), (9, 1), (10, 1), (11, 1), (12, 1), (13, 1), (16, 8)] = true ∧ firstBad [(decide (2 < c.mode) || rsv (fld p 10 1) 0x03 || (c.radius == 1 && c.w2 != 0), stBadParam),
      (portBad s (fld p 8 1) || out c.radius 1 2, stRange), (decide ((s.port r).st = .closed), stBadState),
      (volBad c.vol (topLevel (s.port r).depth), stBadParam)] = 0) :=
  ⟨wHdr, par [(8, 4), (11, 1), (17, 1), (18, 2), (19, 3), (20, 4), (21, 5), (22, 6), (23, 7)], wHead, by decide +kernel⟩

theorem witness_NozzleAndThermalCommandsAnswer_1 :
  (∃ (h : CmdHdr) (p : Params) (s : State),
    let r := portNo (fld p 8 1)
    let x := s.port r
    let op := fld p 9 1
    let n := fld p 12 2
    let addr := fld p 16 8
    let len := fld p 24 4
    let fields := [(8, 1), (9, 1), (10, 2), (12, 2), (14, 1), (15, 1), (16, 8), (24, 4)]
    let checks :=
      [(decide (2 < op) || rsv (fld p 15 1) 0x01 || (op != 1 && fld p 14 1 != 0) || (op != 0 && (addr != 0 || len != 0)), stBadParam),
      (portBad s (fld p 8 1) || out n 1 8192 || decide (x.nozzles < fld p 10 2 + n) ||
      (op == 0 && (wrongLen h len (up64 n) || beyond s h addr len)), stRange),
      (op == 0 && (misaddr h addr || mislen h len), stAlign), (decide (x.st = .closed), stBadState),
      (op == 1 && hostBad (fld p 14 1), stBadParam)]
    op = 0 ∧ starts s 0x0701 h p fields = true ∧ firstBad (checks) = 0) :=
  ⟨wHdr, par [(8, 4), (12, 1), (16, 4096), (24, 64)], wHead, by decide +kernel⟩

theorem witness_NozzleAndThermalCommandsAnswer_2 :
  (∃ (h : CmdHdr) (p : Params) (s : State),
    let r := portNo (fld p 8 1)
    let x := s.port r
    let op := fld p 9 1
    let n := fld p 12 2
    let addr := fld p 16 8
    let len := fld p 24 4
    let fields := [(8, 1), (9, 1), (10, 2), (12, 2), (14, 1), (15, 1), (16, 8), (24, 4)]
    let checks :=
      [(decide (2 < op) || rsv (fld p 15 1) 0x01 || (op != 1 && fld p 14 1 != 0) || (op != 0 && (addr != 0 || len != 0)), stBadParam),
      (portBad s (fld p 8 1) || out n 1 8192 || decide (x.nozzles < fld p 10 2 + n) ||
      (op == 0 && (wrongLen h len (up64 n) || beyond s h addr len)), stRange),
      (op == 0 && (misaddr h addr || mislen h len), stAlign), (decide (x.st = .closed), stBadState),
      (op == 1 && hostBad (fld p 14 1), stBadParam)]
    op = 1 ∧ starts s 0x0701 h p fields = true ∧ firstBad (checks) = 0) :=
  ⟨wHdr, par [(8, 4), (9, 1), (12, 1)], wHead, by decide +kernel⟩

theorem witness_NozzleAndThermalCommandsAnswer_3 :
  (∃ (h : CmdHdr) (p : Params) (s : State),
    let r := portNo (fld p 8 1)
    let x := s.port r
    let op := fld p 9 1
    let n := fld p 12 2
    let addr := fld p 16 8
    let len := fld p 24 4
    let fields := [(8, 1), (9, 1), (10, 2), (12, 2), (14, 1), (15, 1), (16, 8), (24, 4)]
    let checks :=
      [(decide (2 < op) || rsv (fld p 15 1) 0x01 || (op != 1 && fld p 14 1 != 0) || (op != 0 && (addr != 0 || len != 0)), stBadParam),
      (portBad s (fld p 8 1) || out n 1 8192 || decide (x.nozzles < fld p 10 2 + n) ||
      (op == 0 && (wrongLen h len (up64 n) || beyond s h addr len)), stRange),
      (op == 0 && (misaddr h addr || mislen h len), stAlign), (decide (x.st = .closed), stBadState),
      (op == 1 && hostBad (fld p 14 1), stBadParam)]
    op ≠ 0 ∧ op ≠ 1 ∧ starts s 0x0701 h p fields = true ∧ firstBad (checks) = 0) :=
  ⟨wHdr, par [(8, 4), (9, 2), (12, 1)], wHead, by decide +kernel⟩

theorem witness_NozzleAndThermalCommandsAnswer_4 :
  (∃ (h : CmdHdr) (p : Params) (s : State),
    let r := portNo (fld p 8 1)
    let x := s.port r
    let what := fld p 9 1
    let n := fld p 12 2
    let addr := fld p 16 8
    let len := fld p 24 4
    let need := if what = 5 then 64 else if what = 4 then up64 (8 * n) else up64 n
    starts s 0x0702 h p [(8, 1), (9, 1), (10, 2), (12, 2), (14, 1), (16, 8), (24, 4)] = true ∧ firstBad [(decide (5 < what) || rsv (fld p 14 1) 0x01 || (what == 5 && fld p 10 4 != 0), stBadParam),
      (portBad s (fld p 8 1) || (what != 5 && (out n 1 8192 || decide (x.nozzles < fld p 10 2 + n))) || wrongLen h len need ||
      beyond s h addr len, stRange),
      (misaddr h addr || mislen h len, stAlign), (decide (x.st = .closed), stBadState)] = 0) :=
  ⟨wHdr, par [(8, 4), (9, 5), (16, 4096), (24, 64)], wHead, by decide +kernel⟩

theorem witness_NozzleAndThermalCommandsAnswer_5 :
  (∃ (h : CmdHdr) (p : Params) (s : State),
    let r := portNo (fld p 8 1)
    let x := s.port r
    let c := rvsOf p
    starts s 0x0703 h p [(8, 1), (9, 1), (10, 1), (11, 1), (12, 1), (13, 1), (14, 2), (16, 1), (17, 1), (18, 1), (19, 1)] = true ∧ firstBad [(rsv (fld p 9 1) 0x01, stBadParam),
      (portBad s (fld p 8 1) || out c.k 1 8 || out c.n c.k 8 || out c.recover 1 32 || decide (2047 < c.noiseFloor), stRange),
      (decide (x.st = .closed), stBadState),
      (c.enable && !x.canSense, stNotSupported),
      (decide (c.weakAmp ≤ c.clogAmp) || bit c.levels 0 || decide (2 ^ (topLevel x.depth + 1) ≤ c.levels), stBadParam)] = 0) :=
  ⟨wHdr, par [(8, 4), (9, 1), (10, 1), (11, 2), (12, 1), (13, 2), (16, 1), (19, 2)], wHead, by decide +kernel⟩

theorem witness_NozzleAndThermalCommandsAnswer_6 :
  (∃ (h : CmdHdr) (p : Params) (s : State),
    let r := portNo (fld p 8 1)
    let x := s.port r
    let op := fld p 9 1
    let addr := fld p 16 8
    let len := fld p 24 4
    let start := op == 0
    let data := op == 3 || op == 4
    let busy := x.rvs.learn.isSome || x.rvs.staged
    let fields := [(8, 1), (9, 1), (10, 1), (11, 1), (12, 4), (16, 8), (24, 4), (28, 1)]
    let checks :=
      [(decide (4 < op) || rsv (fld p 28 1) 0x01 || rsv (fld p 10 1) 0x03 || (!start && fld p 10 6 != 0) ||
      (!data && (addr != 0 || len != 0)), stBadParam),
      (portBad s (fld p 8 1) || (start && (out (fld p 11 1) 4 64 || out (fld p 12 4) 1 3600)) ||
      (data && (wrongLen h len (up64 (64 + 16 * x.nozzles)) || beyond s h addr len)), stRange),
      (data && (misaddr h addr || mislen h len), stAlign), (decide (x.st = .closed), stBadState),
      (op == 1 && (!x.rvs.staged || x.rvs.learn.isSome), stBadState), ((start || op == 3) && busy, stBusy),
      (start && fld p 10 1 == 0, stBadParam)]
    op = 0 ∧ starts s 0x0704 h p fields = true ∧ firstBad (checks) = 0) :=
  ⟨wHdr, par [(8, 4), (10, 1), (11, 4), (12, 1)], wHead, by decide +kernel⟩

theorem witness_NozzleAndThermalCommandsAnswer_7 :
  (∃ (h : CmdHdr) (p : Params) (s : State),
    let r := portNo (fld p 8 1)
    let x := s.port r
    let op := fld p 9 1
    let addr := fld p 16 8
    let len := fld p 24 4
    let start := op == 0
    let data := op == 3 || op == 4
    let busy := x.rvs.learn.isSome || x.rvs.staged
    let fields := [(8, 1), (9, 1), (10, 1), (11, 1), (12, 4), (16, 8), (24, 4), (28, 1)]
    let checks :=
      [(decide (4 < op) || rsv (fld p 28 1) 0x01 || rsv (fld p 10 1) 0x03 || (!start && fld p 10 6 != 0) ||
      (!data && (addr != 0 || len != 0)), stBadParam),
      (portBad s (fld p 8 1) || (start && (out (fld p 11 1) 4 64 || out (fld p 12 4) 1 3600)) ||
      (data && (wrongLen h len (up64 (64 + 16 * x.nozzles)) || beyond s h addr len)), stRange),
      (data && (misaddr h addr || mislen h len), stAlign), (decide (x.st = .closed), stBadState),
      (op == 1 && (!x.rvs.staged || x.rvs.learn.isSome), stBadState), ((start || op == 3) && busy, stBusy),
      (start && fld p 10 1 == 0, stBadParam)]
    op = 1 ∧ starts s 0x0704 h p fields = true ∧ firstBad (checks) = 0) :=
  ⟨wHdr, par [(8, 4), (9, 1)], wStagedHead, by decide +kernel⟩

theorem witness_NozzleAndThermalCommandsAnswer_8 :
  (∃ (h : CmdHdr) (p : Params) (s : State),
    let r := portNo (fld p 8 1)
    let x := s.port r
    let op := fld p 9 1
    let addr := fld p 16 8
    let len := fld p 24 4
    let start := op == 0
    let data := op == 3 || op == 4
    let busy := x.rvs.learn.isSome || x.rvs.staged
    let fields := [(8, 1), (9, 1), (10, 1), (11, 1), (12, 4), (16, 8), (24, 4), (28, 1)]
    let checks :=
      [(decide (4 < op) || rsv (fld p 28 1) 0x01 || rsv (fld p 10 1) 0x03 || (!start && fld p 10 6 != 0) ||
      (!data && (addr != 0 || len != 0)), stBadParam),
      (portBad s (fld p 8 1) || (start && (out (fld p 11 1) 4 64 || out (fld p 12 4) 1 3600)) ||
      (data && (wrongLen h len (up64 (64 + 16 * x.nozzles)) || beyond s h addr len)), stRange),
      (data && (misaddr h addr || mislen h len), stAlign), (decide (x.st = .closed), stBadState),
      (op == 1 && (!x.rvs.staged || x.rvs.learn.isSome), stBadState), ((start || op == 3) && busy, stBusy),
      (start && fld p 10 1 == 0, stBadParam)]
    op = 2 ∧ starts s 0x0704 h p fields = true ∧ firstBad (checks) = 0) :=
  ⟨wHdr, par [(8, 4), (9, 2)], wHead, by decide +kernel⟩

theorem witness_NozzleAndThermalCommandsAnswer_9 :
  (∃ (h : CmdHdr) (p : Params) (s : State),
    let r := portNo (fld p 8 1)
    let x := s.port r
    let op := fld p 9 1
    let addr := fld p 16 8
    let len := fld p 24 4
    let start := op == 0
    let data := op == 3 || op == 4
    let busy := x.rvs.learn.isSome || x.rvs.staged
    let fields := [(8, 1), (9, 1), (10, 1), (11, 1), (12, 4), (16, 8), (24, 4), (28, 1)]
    let checks :=
      [(decide (4 < op) || rsv (fld p 28 1) 0x01 || rsv (fld p 10 1) 0x03 || (!start && fld p 10 6 != 0) ||
      (!data && (addr != 0 || len != 0)), stBadParam),
      (portBad s (fld p 8 1) || (start && (out (fld p 11 1) 4 64 || out (fld p 12 4) 1 3600)) ||
      (data && (wrongLen h len (up64 (64 + 16 * x.nozzles)) || beyond s h addr len)), stRange),
      (data && (misaddr h addr || mislen h len), stAlign), (decide (x.st = .closed), stBadState),
      (op == 1 && (!x.rvs.staged || x.rvs.learn.isSome), stBadState), ((start || op == 3) && busy, stBusy),
      (start && fld p 10 1 == 0, stBadParam)]
    op = 3 ∧ starts s 0x0704 h p fields = true ∧ firstBad (checks) = 0) :=
  ⟨wHdr, par [(8, 4), (9, 3), (16, 4096), (24, 128)], wHead, by decide +kernel⟩

theorem witness_NozzleAndThermalCommandsAnswer_10 :
  (∃ (h : CmdHdr) (p : Params) (s : State),
    let r := portNo (fld p 8 1)
    let x := s.port r
    let op := fld p 9 1
    let addr := fld p 16 8
    let len := fld p 24 4
    let start := op == 0
    let data := op == 3 || op == 4
    let busy := x.rvs.learn.isSome || x.rvs.staged
    let fields := [(8, 1), (9, 1), (10, 1), (11, 1), (12, 4), (16, 8), (24, 4), (28, 1)]
    let checks :=
      [(decide (4 < op) || rsv (fld p 28 1) 0x01 || rsv (fld p 10 1) 0x03 || (!start && fld p 10 6 != 0) ||
      (!data && (addr != 0 || len != 0)), stBadParam),
      (portBad s (fld p 8 1) || (start && (out (fld p 11 1) 4 64 || out (fld p 12 4) 1 3600)) ||
      (data && (wrongLen h len (up64 (64 + 16 * x.nozzles)) || beyond s h addr len)), stRange),
      (data && (misaddr h addr || mislen h len), stAlign), (decide (x.st = .closed), stBadState),
      (op == 1 && (!x.rvs.staged || x.rvs.learn.isSome), stBadState), ((start || op == 3) && busy, stBusy),
      (start && fld p 10 1 == 0, stBadParam)]
    op ≠ 0 ∧ op ≠ 1 ∧ op ≠ 2 ∧ op ≠ 3 ∧ starts s 0x0704 h p fields = true ∧ firstBad (checks) = 0) :=
  ⟨wHdr, par [(8, 4), (9, 4), (16, 4096), (24, 128)], wHead, by decide +kernel⟩

theorem witness_NozzleAndThermalCommandsAnswer_11 :
  (∃ (h : CmdHdr) (p : Params) (s : State),
    let r := portNo (fld p 8 1)
    let x := s.port r
    let op := fld p 9 1
    let n := fld p 12 2
    let addr := fld p 16 8
    let len := fld p 24 4
    let need := if op = 0 then 64 else if op = 1 then up64 (8 * n) else 0
    starts s 0x0706 h p [(8, 1), (9, 1), (10, 2), (12, 2), (14, 1), (16, 8), (24, 4)] = true ∧ firstBad [(decide (2 < op) || rsv (fld p 14 1) 0x01 || (op != 1 && fld p 10 4 != 0) || (op == 2 && (addr != 0 || len != 0)), stBadParam),
      (portBad s (fld p 8 1) || (op == 1 && (out n 1 8192 || decide (x.nozzles < fld p 10 2 + n))) || wrongLen h len need ||
      beyond s h addr len, stRange),
      (misaddr h addr || mislen h len, stAlign), (decide (x.st = .closed), stBadState),
      (op == 2 && !s.writeSafe, stSupplyLow), (op == 2 && x.prsHigh, stHeadAbsent)] = 0) :=
  ⟨wHdr, par [(8, 4), (16, 4096), (24, 64)], wHead, by decide +kernel⟩

theorem witness_NozzleAndThermalCommandsAnswer_12 :
  (∃ (h : CmdHdr) (p : Params) (s : State),
    let warn := sfld p 12 2
    let lim := sfld p 14 2
    let amb := fld p 17 1
    starts s 0x0801 h p [(8, 2), (10, 2), (12, 2), (14, 2), (16, 1), (17, 1), (24, 32)] = true ∧ firstBad [(amb == 0xFF && fld p 24 32 != 0, stBadParam),
      (out (fld p 8 2) 16 1000 || decide (60000 < fld p 10 2) || decide (warn < -640 ∨ 2160 < warn ∨ lim < warn + 16 ∨ 2320 < lim) ||
      fld p 16 1 == 0 || (amb != 0xFF && decide (7 < amb)), stRange),
      (amb != 0xFF && !(rising ((ambCurveOf p).map (·.1))), stBadParam)] = 0) :=
  ⟨wHdr, par [(8, 100), (12, 800), (14, 960), (16, 1), (17, 255)], wHead, by decide +kernel⟩

theorem witness_NozzleAndThermalCommandsAnswer_13 :
  (∃ (h : CmdHdr) (p : Params) (s : State),
    let op := fld p 8 1
    let addr := fld p 16 8
    starts s 0x0802 h p [(8, 1), (16, 8)] = true ∧ firstBad [(decide (1 < op), stBadParam), (beyond s h addr 256, stRange), (misaddr h addr, stAlign),
      (op == 1 && (idx 32).any fun r => (s.port r).st.busy, stBadState)] = 0) :=
  ⟨wHdr, par [(16, 4096)], wHead, by decide +kernel⟩

theorem witness_NozzleAndThermalCommandsAnswer_14 :
  (∃ (h : CmdHdr) (p : Params) (s : State),
    let r := portNo (fld p 8 1)
    let i := fld p 9 1
    let clear := fld p 10 1 == 1
    let x := s.port r
    let y := x.sensor i
    let u := substOf p
    starts s 0x0803 h p [(8, 1), (9, 1), (10, 1), (11, 1), (12, 1), (13, 1), (14, 2)] = true ∧ firstBad [(decide (1 < i ∨ 1 < fld p 10 1 ∨ 1 < fld p 11 1 ∨ 1 < u.sensor) || (clear && (fld p 11 1 != 0 || fld p 14 2 != 0)) ||
      ((clear || u.ambient) && fld p 12 2 != 0), stBadParam),
      (portBad s (fld p 8 1) || portBad s u.port || decide (u.ofs < -320 ∨ 320 < u.ofs), stRange),
      (decide (x.st = .closed) || (if clear then y.subst.isNone else !y.faulty || !(x.sensorsUsed.contains i)), stBadState),
      (!clear && substBad s p, stBadParam)] = 0) :=
  ⟨wHdr, par [(8, 4), (9, 0), (11, 0), (12, 5), (13, 0)], wFaulty, by decide +kernel⟩

theorem witness_NozzleAndThermalCommandsAnswer_15 :
  (∃ (h : CmdHdr) (p : Params) (s : State),
    let addr := fld p 16 8
    starts s 0x0804 h p [(16, 8)] = true ∧ firstBad ((addrChecks s h addr 64)) = 0) :=
  ⟨wHdr, par [(16, 4096)], wHead, by decide +kernel⟩

theorem witness_SpineBusOtpAndFirmwareCommandsAnswer_1 :
  (∃ (h : CmdHdr) (p : Params) (s : State),
    starts s 0x0901 h p [(8, 1), (9, 1), (10, 1), (11, 1), (12, 1), (14, 2), (16, 4), (20, 2), (24, 4)] = true ∧ firstBad [(rsv (fld p 8 1) 0x03 || rsv (fld p 9 1) 0x07 || rsv (fld p 12 1) 0x0F || (!s.isRoot && fld p 16 4 != 0), stBadParam),
      (out (fld p 14 2) 128 4096 || (s.isRoot && out (fld p 16 4) 500 12000) || decide (0xFFE < fld p 20 2) || out (fld p 24 4) 1 60000, stRange)] = 0) :=
  ⟨wHdr, par [(14, 128), (24, 100)], wHead, by decide +kernel⟩

theorem witness_SpineBusOtpAndFirmwareCommandsAnswer_2 :
  (∃ (h : CmdHdr) (p : Params) (s : State),
    starts s 0x0902 h p [] = true ∧ firstBad [(!s.isRoot, stBadState), (s.sp.st == .joining, stBusy)] = 0) :=
  ⟨wHdr, par [], wRoot, by decide +kernel⟩

theorem witness_SpineBusOtpAndFirmwareCommandsAnswer_3 :
  (∃ (h : CmdHdr) (p : Params) (s : State),
    let addr := fld p 16 8
    starts s 0x0903 h p [(16, 8)] = true ∧ firstBad ((addrChecks s h addr 64)) = 0) :=
  ⟨wHdr, par [(16, 4096)], wHead, by decide +kernel⟩

theorem witness_SpineBusOtpAndFirmwareCommandsAnswer_4 :
  (∃ (h : CmdHdr) (p : Params) (s : State),
    let n := srcNo (fld p 8 1)
    let unbind := bit (fld p 9 1) 0
    starts s 0x0904 h p [(8, 1), (9, 1), (10, 2), (12, 1)] = true ∧ firstBad [(rsv (fld p 9 1) 0x01 || (unbind && (fld p 10 2 != 0 || fld p 12 1 != 0)), stBadParam),
      (out (fld p 8 1) 4 15 || (!unbind && out (fld p 10 2) 1 0xFFE) || decide (3 < fld p 12 1), stRange), (s.srcBusy n, stBadState),
      (!unbind && s.sp.nodeId != 0 && fld p 10 2 == s.sp.nodeId, stBadParam)] = 0) :=
  ⟨wHdr, par [(8, 4), (10, 3), (12, 1)], wHead, by decide +kernel⟩

theorem witness_SpineBusOtpAndFirmwareCommandsAnswer_5 :
  (∃ (h : CmdHdr) (p : Params) (s : State),
    let f := fld p 10 1
    let mode := fld p 9 1
    starts s 0x0A01 h p [(8, 1), (9, 1), (10, 1), (12, 4), (16, 4), (20, 1), (24, 2), (26, 2), (28, 2), (30, 1), (31, 1), (32, 2), (34, 2), (36, 2), (38, 1)] = true ∧ firstBad [(decide (3 < mode) || rsv f 0x07 || decide (2 < fld p 30 1) || rsv (fld p 38 1) 0x0F || (decide (mode < 2) && fld p 16 4 != 0) ||
      (!(bit f 2) && fld p 20 1 != 0), stBadParam),
      (busRange p, stRange), (fld p 26 2 == fld p 28 2 || (bit f 2 && mode != 2) || busRate p, stBadParam)] = 0) :=
  ⟨wHdr, par [(9, 1), (10, 1), (12, 1), (13, 59), (14, 20), (15, 1), (26, 1), (28, 2), (31, 10), (34, 10), (36, 100)], wHead, by decide +kernel⟩

theorem witness_SpineBusOtpAndFirmwareCommandsAnswer_6 :
  (∃ (h : CmdHdr) (p : Params) (s : State),
    let f := fld p 10 1
    let top := if bit f 1 then 2 ^ 29 else 2 ^ 11
    starts s 0x0A02 h p [(8, 1), (9, 1), (10, 1), (12, 4), (16, 4)] = true ∧ firstBad [(rsv f 0x03 || decide (top ≤ fld p 12 4) || decide (top ≤ fld p 16 4), stBadParam), (decide (1 < fld p 8 1) || decide (15 < fld p 9 1), stRange)] = 0) :=
  ⟨wHdr, par [(9, 3), (10, 1), (12, 291), (16, 2047)], wHead, by decide +kernel⟩

theorem witness_SpineBusOtpAndFirmwareCommandsAnswer_7 :
  (∃ (h : CmdHdr) (p : Params) (s : State),
    let c := finOf 2 (by decide) (fld p 8 1)
    let f := fld p 9 1
    let k := s.can c
    let len := fld p 10 1
    let ext := bit f 0
    starts s 0x0A03 h p [(8, 1), (9, 1), (10, 1), (12, 4), (16, 2), (24, 32)] = true ∧ firstBad [(rsv f 0x07 || (bit f 2 && !(bit f 1)) || !(canLen (bit f 1) len) || (len < 32 && fld p (24 + len) (32 - len) != 0), stBadParam),
      (decide (1 < fld p 8 1) || decide ((if ext then 2 ^ 29 else 2 ^ 11) ≤ fld p 12 4) || out (fld p 16 2) 1 10000, stRange),
      (decide (k.mode = .off) || decide (k.mode = .listen) || k.isOff, stBadState), (decide (8 ≤ k.host.length), stBusy),
      ((ext && fld p 12 4 / 65536 == s.press.idBase.toNat) || (bit f 1 && decide (k.mode = .classic)), stBadParam)] = 0) :=
  ⟨wHdr, par [(10, 2), (12, 291), (16, 10), (24, 7)], wPress, by decide +kernel⟩

theorem witness_SpineBusOtpAndFirmwareCommandsAnswer_8 :
  (∃ (h : CmdHdr) (p : Params) (s : State),
    let rx := fld p 9 1 == 1
    let max_ := fld p 10 1
    let addr := fld p 16 8
    let len := fld p 24 4
    let need := if rx then 64 * max_ else 64
    starts s 0x0A04 h p [(8, 1), (9, 1), (10, 1), (16, 8), (24, 4)] = true ∧ firstBad [(decide (1 < fld p 9 1) || (!rx && max_ != 0), stBadParam),
      (decide (1 < fld p 8 1) || (rx && out max_ 1 64) || wrongLen h len need || beyond s h addr len, stRange),
      (misaddr h addr || mislen h len, stAlign)] = 0) :=
  ⟨wHdr, par [(16, 4096), (24, 64)], wHead, by decide +kernel⟩

theorem witness_SpineBusOtpAndFirmwareCommandsAnswer_9 :
  (∃ (h : CmdHdr) (p : Params) (s : State),
    let r := fld p 8 1
    let n := fld p 12 2
    let addr := fld p 16 8
    starts s 0x0B01 h p [(8, 1), (9, 1), (10, 2), (12, 2), (16, 8)] = true ∧ firstBad [(decide (2 < fld p 9 1), stBadParam),
      (decide (7 < r) || out n 1 16 || decide (otpSize r < fld p 10 2 + n) || beyond s h addr (up64 (16 * n)), stRange),
      (misaddr h addr, stAlign), (s.otp.readLock.getLsbD r, stLocked)] = 0) :=
  ⟨wHdr, par [(8, 7), (12, 1), (16, 4096)], wHead, by decide +kernel⟩

theorem witness_SpineBusOtpAndFirmwareCommandsAnswer_10 :
  (∃ (h : CmdHdr) (p : Params) (s : State),
    let r := fld p 8 1
    let i := fld p 10 2
    let data := BitVec.ofNat 64 (fld p 16 8)
    let inside := decide (r ≤ 7) && decide (i < otpSize r)
    let st := if inside then programStatus s.otp r i data else 0
    starts s 0x0B02 h p [(8, 56)] = true ∧ firstBad [(decide (r ≤ 7) && s.otp.progLock.getLsbD r, stLocked),
      (undefSet p [(8, 1), (10, 2), (16, 8)] || (inside && programBad r i data), stBadParam),
      (st == stOtpSealed, stOtpSealed), (st == stOtpConflict, stOtpConflict), (!s.writeSafe, stSupplyLow), (!inside, stRange)] = 0) :=
  ⟨wHdr, par [(8, 3), (10, 3), (16, 5)], wBlank, by decide +kernel, by
    obtain ⟨h1, h2, h3⟩ := blank_fields
    simp only [h1, h2, h3, blank_status]
    decide +kernel⟩

theorem witness_SpineBusOtpAndFirmwareCommandsAnswer_11 :
  (∃ (h : CmdHdr) (p : Params) (s : State),
    let r := fld p 8 1
    let f := fld p 9 1
    let used := fld p 10 2
    let noLock := bit f 0
    let rd := bit f 1
    let o := s.otp
    let mapW := otpBase r + otpSize r - 2
    let locked := o.locked r
    let hasRd := (o.lockBits r).getLsbD 1
    let done := decide (o.stateOf r = 2) && !noLock && locked && (!rd || hasRd)
    starts s 0x0B03 h p [(8, 1), (9, 1), (10, 2)] = true ∧ firstBad [(rsv f 0x03 || (noLock && rd) || r == 4 || r == 5, stBadParam), (decide (7 < r) || out used 1 (otpSize r - 2), stRange),
      (o.incomplete r, stBadState), (locked && !noLock && rd && !hasRd, stOtpSealed), (!done && o.progLock.getLsbD r, stLocked),
      (!s.writeSafe, stSupplyLow),
      (!done && wordSealed (o.word mapW).m0 && decide ((o.read mapW).data ≠ mapData r used), stOtpConflict)] = 0) :=
  ⟨wHdr, par [(8, 7), (9, 1), (10, 4)], wHead, by decide +kernel⟩

theorem witness_SpineBusOtpAndFirmwareCommandsAnswer_12 :
  (∃ (h : CmdHdr) (p : Params) (s : State),
    let r := fld p 8 1
    starts s 0x0B04 h p [(8, 1)] = true ∧ firstBad [(decide (7 < r) && r != 0xFF, stRange)] = 0) :=
  ⟨wHdr, par [(8, 7)], wHead, by decide +kernel⟩

theorem witness_SpineBusOtpAndFirmwareCommandsAnswer_13 :
  (∃ (h : CmdHdr) (p : Params) (s : State),
    starts s 0x0B05 h p [(8, 1), (9, 1)] = true ∧ firstBad [] = 0) :=
  ⟨wHdr, par [(8, 1)], wHead, by decide +kernel⟩

theorem witness_SpineBusOtpAndFirmwareCommandsAnswer_14 :
  (∃ (h : CmdHdr) (p : Params) (s : State),
    let n := fld p 8 1
    let len := fld p 12 4
    let addr := fld p 16 8
    starts s 0x0C01 h p [(8, 1), (9, 1), (12, 4), (16, 8)] = true ∧ firstBad [(rsv (fld p 9 1) 0x01, stBadParam), (decide (2 < n) || outLen h len 512 0x300000 || beyond s h addr len, stRange),
      (misaddr h addr || mislen h len, stAlign),
      (if n = 2 then !s.romOnly else (s.fwSlot n).st == .running, stBadState), (!s.writeSafe, stSupplyLow)] = 0) :=
  ⟨wHdr, par [(8, 1), (12, 512), (16, 4096)], wHead, by decide +kernel⟩

theorem witness_SpineBusOtpAndFirmwareCommandsAnswer_15 :
  (∃ (h : CmdHdr) (p : Params) (s : State),
    let n := fld p 8 1
    starts s 0x0C02 h p [(8, 1)] = true ∧ firstBad [(decide (2 < n), stRange)] = 0) :=
  ⟨wHdr, par [(8, 1)], wHead, by decide +kernel⟩

theorem witness_SpineBusOtpAndFirmwareCommandsAnswer_16 :
  (∃ (h : CmdHdr) (p : Params) (s : State),
    let op := fld p 8 1
    let n := fld p 9 1
    let f := fld p 10 1
    let lim := fld p 11 1
    let slot := if op = 2 then 2 else n
    let st := if op = 1 then 0 else fwStatus s (s.fwSlot slot)
    let ar := decide (op = 1) && bit f 1
    starts s 0x0C03 h p [(8, 1), (9, 1), (10, 1), (11, 1)] = true ∧ firstBad [(decide (2 < op) || (op != 0 && n != 0) || rsv f (if op = 0 then 1 else if op = 1 then 2 else 0) || (!(op == 0 && bit f 0) && lim != 0), stBadParam),
      (decide (1 < n) || (op == 0 && bit f 0 && out lim 1 15), stRange),
      ((op == 1 && !s.onTrial) || (op == 2 && !s.romOnly), stBadState), (st != 0, st), (op != 2 && !s.writeSafe, stSupplyLow),
      (ar && s.otp.progLock.getLsbD 5, stLocked)] = 0) :=
  ⟨wHdr, par [(8, 1)], wTrial, by decide +kernel⟩

theorem witness_SpineBusOtpAndFirmwareCommandsAnswer_17 :
  (∃ (h : CmdHdr) (p : Params) (s : State),
    let addr := fld p 16 8
    starts s 0x0C04 h p [(16, 8)] = true ∧ firstBad ((addrChecks s h addr 64)) = 0) :=
  ⟨wHdr, par [(16, 4096)], wHead, by decide +kernel⟩

/-! ### Witnesses of the statements about the happenings -/

theorem witness_RingRegistersAct :
  (∃ (s : State) (r : Fin 64) (v : U32),
    let g := s.ring r
    let n := v.toNat % 65536
    produced r.1 = false ∧ g.st ≠ .absent ∧ n < g.size.toNat) ∧
  (∃ (s : State) (r : Fin 64) (v : U32),
    let g := s.ring r
    let n := v.toNat % 65536
    (produced r.1 = true ∨ g.st = .absent ∨ g.size.toNat ≤ n)) ∧
  (∃ (s : State) (r : Fin 64) (v : U32),
    let g := s.ring r
    let n := v.toNat % 65536
    produced r.1 = true ∧ g.st ≠ .absent ∧ n < g.size.toNat ∧ (n + g.size.toNat - g.head) % g.size.toNat ≤ g.used) ∧
  (∃ (s : State) (r : Fin 64) (v : U32),
    let g := s.ring r
    let n := v.toNat % 65536
    (produced r.1 = false ∨ g.st = .absent ∨ g.size.toNat ≤ n ∨ g.used < (n + g.size.toNat - g.head) % g.size.toNat)) ∧
  (∃ (s : State) (r : Fin 64) (v : U32),
    let g := s.ring r
    let plan : RingPlan := ⟨r.1, v.getLsbD 2, v.toNat / 2 ^ 8 % 64, v.toNat / 2 ^ 16 % 64, g.size.toNat, g.base.toNat, v.toNat / 2 ^ 24⟩
    g.st = .absent ∧ v.getLsbD 0 = true ∧ firstBad (planChecks s plan) = 0) ∧
  (∃ (s : State) (r : Fin 64) (v : U32),
    let g := s.ring r
    let plan : RingPlan := ⟨r.1, v.getLsbD 2, v.toNat / 2 ^ 8 % 64, v.toNat / 2 ^ 16 % 64, g.size.toNat, g.base.toNat, v.toNat / 2 ^ 24⟩
    g.st = .absent ∧ v.getLsbD 0 = true ∧ firstBad (planChecks s plan) ≠ 0) ∧
  (∃ (s : State) (r : Fin 64) (v : U32),
    let g := s.ring r
    g.st = .halted ∧ v.getLsbD 1 = true ∧ v.extractLsb' 24 8 = g.holdoff ∧ v.extractLsb' 16 6 = g.pair ∧ v.extractLsb' 8 6 = g.vector ∧ v.getLsbD 2 = g.irqEn) :=
  ⟨⟨wRings, 32, 15, by decide +kernel⟩,
   ⟨wRings, 32, 16, by decide +kernel⟩,
   ⟨wRings, 40, 3, by decide +kernel⟩,
   ⟨wRings, 40, 4, by decide +kernel⟩,
   ⟨wRings, 33, 0x280001, by decide +kernel⟩,
   ⟨wRings, 34, 0x280001, by decide +kernel⟩,
   ⟨wRings, 35, 0x280002, by decide +kernel⟩⟩

theorem witness_RegisterWritesFollowAccess :
  (∃ (off : BitVec 24),
    (off.toNat % 4 ≠ 0 ∨ blockOf off.toNat = none)) ∧
  (∃ (s : State) (r : Fin 64),
    (s.ring r).st = .absent) ∧
  (∃ (off : BitVec 24),
    off.toNat % 4 = 0 ∧ (blockOf off.toNat = some .mgt ∨ blockOf off.toNat = some .pba)) :=
  ⟨⟨0xFFFFFC, by decide +kernel⟩,
   ⟨wRings, 63, by decide +kernel⟩,
   ⟨0x8004, by decide +kernel⟩⟩

theorem witness_BadAccessesSetOneBit :
  (∃ (off : BitVec 24) (size : Nat),
    (size ≠ 4 ∧ size ≠ 8 ∨ off.toNat % 4 ≠ 0 ∨ blockOf off.toNat = none ∨ size = 8 ∧ (off.toNat % 8 ≠ 0 ∨ blockOf off.toNat ≠ some .msix ∧ blockOf off.toNat ≠ some .pba))) ∧
  (∃ (off : BitVec 24) (size : Nat),
    size = 8 ∧ off.toNat % 8 = 0 ∧ (blockOf off.toNat = some .msix ∨ blockOf off.toNat = some .pba)) ∧
  (∃ (off : BitVec 24) (size : Nat),
    size = 8 ∧ off.toNat % 8 = 0 ∧ blockOf off.toNat = some .msix) ∧
  (∃ (off : BitVec 24) (size : Nat),
    size = 8 ∧ off.toNat % 8 = 0 ∧ blockOf off.toNat = some .pba) ∧
  (∃ (off : BitVec 24) (size : Nat),
    size = 4 ∧ off.toNat % 4 = 0 ∧ blockOf off.toNat ≠ none) :=
  ⟨⟨0x8000, 8, by decide +kernel⟩,
   ⟨0x30008, 8, by decide +kernel⟩,
   ⟨0x30008, 8, by decide +kernel⟩,
   ⟨0x31000, 8, by decide +kernel⟩,
   ⟨0x8000, 4, by decide +kernel⟩⟩


theorem witness_WindowWritesAct :
  (∃ (s : State) (w : Win),
    s.winQuire w = none) ∧
  (∃ (s : State) (w : Win) (q : Fin 8),
    s.winQuire w = some q) ∧
  (∃ (s : State) (w : Win) (q : Fin 8),
    s.winQuire w = some q) ∧
  (∃ (s : State) (w : Win) (v : U32) (q : Fin 8),
    s.winQuire w = some q ∧ (s.quire q).st = .armed ∧ (s.quire q).scan = false ∧ s.behindBy q (s.staged w .start v) ≤ 0) ∧
  (∃ (s : State) (w : Win) (v : U32) (q : Fin 8),
    s.winQuire w = some q ∧ (s.quire q).st = .armed ∧ (s.quire q).scan = false ∧ ((s.quire q).lateWin : Int) < s.behindBy q (s.staged w .start v) ∧ 0 < s.behindBy q (s.staged w .start v)) ∧
  (∃ (s : State) (w : Win) (q : Fin 8),
    s.winQuire w = some q ∧ ((s.quire q).st ≠ .armed ∨ (s.quire q).scan = true)) ∧
  (∃ (s : State) (w : Win) (q : Fin 8),
    s.winQuire w = some q ∧ ((s.quire q).st = .armed ∨ (s.quire q).st = .flyleaf ∨ (s.quire q).st = .printing ∨ (s.quire q).st = .suspended)) ∧
  (∃ (s : State) (w : Win) (q : Fin 8),
    s.winQuire w = some q ∧ (s.quire q).st.stoppable = false) ∧
  (∃ (s : State) (w : Win) (p : Fin 32),
    s.winTargets w = [p] ∧ (s.port p).st = .closed) ∧
  (∃ (s : State) (w : Win) (p : Fin 32) (b : Banks),
    s.winTargets w = [p] ∧ (s.port p).st ≠ .closed ∧ (s.port p).banks = some b ∧ b.old = none) ∧
  (∃ (s : State) (w : Win) (p : Fin 32) (b : Banks),
    s.winTargets w = [p] ∧ (s.port p).st ≠ .closed ∧ (s.port p).banks = some b ∧ b.old = none) ∧
  (∃ (s : State) (w : Win) (p : Fin 32) (b : Banks),
    s.winTargets w = [p] ∧ (s.port p).st ≠ .closed ∧ (s.port p).banks = some b ∧ b.old ≠ none) ∧
  (∃ (s : State) (w : Win) (p : Fin 32),
    s.winTargets w = [p] ∧ (s.port p).st = .idle ∧ (s.port p).hm = []) ∧
  (∃ (s : State) (w : Win) (v : U32) (p : Fin 32),
    s.winTargets w = [p] ∧ (s.port p).st = .idle ∧ v.getLsbD 0 = false ∧ v.getLsbD 1 = false) :=
  ⟨⟨wRings, .a, by decide +kernel⟩,
   ⟨wQuire, .a, 2, by decide +kernel⟩,
   ⟨wQuire, .a, 2, by decide +kernel⟩,
   ⟨wQuire, .a, 5, 2, by decide +kernel⟩,
   ⟨wQuire, .a, 0x80000000, 2, by decide +kernel⟩,
   ⟨(wQuire.modQuire 2 fun x => { x with st := .bound }), .a, 2, by decide +kernel⟩,
   ⟨wQuire, .a, 2, by decide +kernel⟩,
   ⟨(wQuire.modQuire 2 fun x => { x with st := .bound }), .a, 2, by decide +kernel⟩,
   ⟨wBase, .a, 0, by decide +kernel⟩,
   ⟨wQuire, .a, 4, wBanks, by decide +kernel⟩,
   ⟨wQuire, .a, 4, wBanks, by decide +kernel⟩,
   ⟨wOld, .a, 4, wOldBanks, by decide +kernel⟩,
   ⟨wQuire, .a, 4, by decide +kernel⟩,
   ⟨wQuire, .a, 0, 4, by decide +kernel⟩⟩

theorem witness_EncoderEdgesCount :
  (∃ (s : State) (n : Fin 4) (ch : Chan) (level : Bool),
    let i := srcNo n.1
    let x := s.source i
    let cur := match ch with | .a => x.levelA | .b => x.levelB
    cur = level) ∧
  (∃ (s : State) (n : Fin 4) (ch : Chan) (level : Bool),
    let i := srcNo n.1
    let x := s.source i
    let cur := match ch with | .a => x.levelA | .b => x.levelB
    cur ≠ level ∧ x.cfg.mode ≠ .incremental) ∧
  (∃ (s : State) (n : Fin 4) (ch : Chan) (level : Bool) (held : Nat),
    let i := srcNo n.1
    let x := s.source i
    let cur := match ch with | .a => x.levelA | .b => x.levelB
    cur ≠ level ∧ x.cfg.mode = .incremental ∧ 0 < held ∧ held < 8 * (x.cfg.glitch + 1)) ∧
  (∃ (s : State) (n : Fin 4) (ch : Chan) (level : Bool) (held : Nat),
    let i := srcNo n.1
    let x := s.source i
    let cur := match ch with | .a => x.levelA | .b => x.levelB
    cur ≠ level ∧ x.cfg.mode = .incremental ∧ held = 0) ∧
  (∃ (s : State) (n : Fin 4) (ch : Chan) (level : Bool) (stamp : Nat) (held : Nat) (clash : Bool),
    let i := srcNo n.1
    let x := s.source i
    let cur := match ch with | .a => x.levelA | .b => x.levelB
    let other := match ch with | .a => x.lastB | .b => x.lastA
    let apart := other.all (fun o => decide (o + 8 ≤ stamp) || decide (stamp + 8 ≤ o))
    cur ≠ level ∧ x.cfg.mode = .incremental ∧ 8 * (x.cfg.glitch + 1) ≤ held ∧ apart = true ∧ clash = false ∧ (x.st = .disabled ∨ x.st = .acquiring ∨ x.st = .fault)) ∧
  (∃ (s : State) (n : Fin 4) (ch : Chan) (level : Bool) (stamp : Nat) (held : Nat) (clash : Bool),
    let i := srcNo n.1
    let x := s.source i
    let cur := match ch with | .a => x.levelA | .b => x.levelB
    let other := match ch with | .a => x.lastB | .b => x.lastA
    let apart := other.all (fun o => decide (o + 8 ≤ stamp) || decide (stamp + 8 ≤ o))
    let down := x.downBy ch level
    let raw := posAdd x.raw (if down then -256 else 256)
    cur ≠ level ∧ x.cfg.mode = .incremental ∧ 8 * (x.cfg.glitch + 1) ≤ held ∧ apart = true ∧ clash = false ∧ x.st = .tracking ∧ 0 < x.sign * posDiff raw x.mark) ∧
  (∃ (s : State) (n : Fin 4) (ch : Chan) (level : Bool) (held : Nat) (clash : Bool),
    let i := srcNo n.1
    let x := s.source i
    let cur := match ch with | .a => x.levelA | .b => x.levelB
    cur ≠ level ∧ x.cfg.mode = .incremental ∧ 8 * (x.cfg.glitch + 1) ≤ held ∧ clash = true) ∧
  (∃ (s : State) (n : Fin 4) (ch : Chan) (level : Bool) (stamp : Nat) (held : Nat) (clash : Bool),
    let i := srcNo n.1
    let x := s.source i
    let cur := match ch with | .a => x.levelA | .b => x.levelB
    let other := match ch with | .a => x.lastB | .b => x.lastA
    let apart := other.all (fun o => decide (o + 8 ≤ stamp) || decide (stamp + 8 ≤ o))
    cur ≠ level ∧ x.cfg.mode = .incremental ∧ 8 * (x.cfg.glitch + 1) ≤ held ∧ apart = false ∧ clash = false) :=
  ⟨⟨wSource .tracking, 1, .a, false, by decide +kernel⟩,
   ⟨wBase, 1, .b, true, by decide +kernel⟩,
   ⟨wSource .tracking, 1, .a, true, 15, by decide +kernel⟩,
   ⟨wSource .tracking, 1, .a, true, 0, by decide +kernel⟩,
   ⟨wSource .acquiring, 1, .a, true, 208, 16, false, by decide +kernel⟩,
   ⟨wSource .tracking, 1, .a, true, 208, 16, false, by decide +kernel⟩,
   ⟨wSource .tracking, 1, .a, true, 16, true, by decide +kernel⟩,
   ⟨wSource .tracking, 1, .a, true, 207, 16, false, by decide +kernel⟩⟩

theorem witness_IndexEdgesCheck :
  (∃ (s : State) (n : Fin 4) (level : Bool),
    let i := srcNo n.1
    let x := s.source i
    x.levelZ = level) ∧
  (∃ (s : State) (n : Fin 4) (level : Bool),
    let i := srcNo n.1
    let x := s.source i
    x.levelZ ≠ level ∧ (x.cfg.mode ≠ .incremental ∨ x.cfg.indexPeriod = 0)) ∧
  (∃ (s : State) (n : Fin 4) (level : Bool) (held : Nat),
    let i := srcNo n.1
    let x := s.source i
    x.levelZ ≠ level ∧ x.cfg.mode = .incremental ∧ x.cfg.indexPeriod ≠ 0 ∧ 0 < held ∧ held < 8 * (x.cfg.glitch + 1)) ∧
  (∃ (s : State) (n : Fin 4) (level : Bool) (held : Nat),
    let i := srcNo n.1
    let x := s.source i
    let accepted := x.levelZ ≠ level ∧ x.cfg.mode = .incremental ∧ x.cfg.indexPeriod ≠ 0 ∧ 8 * (x.cfg.glitch + 1) ≤ held
    accepted ∧ (level = false ∨ x.moveDir = true)) ∧
  (∃ (s : State) (n : Fin 4) (level : Bool) (held : Nat) (pos : Pos),
    let i := srcNo n.1
    let x := s.source i
    let accepted := x.levelZ ≠ level ∧ x.cfg.mode = .incremental ∧ x.cfg.indexPeriod ≠ 0 ∧ 8 * (x.cfg.glitch + 1) ≤ held
    accepted ∧ level = true ∧ x.moveDir = false ∧ x.presetPend = some pos) ∧
  (∃ (s : State) (n : Fin 4) (level : Bool) (held : Nat),
    let i := srcNo n.1
    let x := s.source i
    let d := x.indexError
    let accepted := x.levelZ ≠ level ∧ x.cfg.mode = .incremental ∧ x.cfg.indexPeriod ≠ 0 ∧ 8 * (x.cfg.glitch + 1) ≤ held
    accepted ∧ level = true ∧ x.moveDir = false ∧ x.presetPend = none ∧ d.natAbs ≤ x.cfg.indexTol) ∧
  (∃ (s : State) (n : Fin 4) (level : Bool) (held : Nat),
    let i := srcNo n.1
    let x := s.source i
    let d := x.indexError
    let accepted := x.levelZ ≠ level ∧ x.cfg.mode = .incremental ∧ x.cfg.indexPeriod ≠ 0 ∧ 8 * (x.cfg.glitch + 1) ≤ held
    accepted ∧ level = true ∧ x.moveDir = false ∧ x.presetPend = none ∧ x.cfg.indexTol < d.natAbs ∧ x.misplaceRun < 2) :=
  ⟨⟨wIndex 3, 1, false, by decide +kernel⟩,
   ⟨wSource .tracking, 1, true, by decide +kernel⟩,
   ⟨wIndex 3, 1, true, 15, by decide +kernel⟩,
   ⟨((wIndex 3).modSrc 1 fun y => { y with levelZ := true }), 1, false, 16, by decide +kernel⟩,
   ⟨((wIndex 3).modSrc 1 fun y => { y with presetPend := some 512 }), 1, true, 16, 512, by decide +kernel⟩,
   ⟨wIndex 98, 1, true, 16, by decide +kernel⟩,
   ⟨wIndex 3, 1, true, 16, by decide +kernel⟩⟩

theorem witness_SerialFramesRead :
  (∃ (s : State) (n : Fin 4),
    let i := srcNo n.1
    let x := s.source i
    (x.cfg.mode = .ssi ∨ x.cfg.mode = .bissC) ∧ x.st ≠ .disabled ∧ x.frameAt = none) ∧
  (∃ (s : State) (n : Fin 4),
    let i := srcNo n.1
    let x := s.source i
    (x.cfg.mode = .off ∨ x.cfg.mode = .incremental ∨ x.st = .disabled ∨ x.frameAt.isSome = true)) ∧
  (∃ (s : State) (n : Fin 4),
    let i := srcNo n.1
    let x := s.source i
    x.frameAt = none) ∧
  (∃ (s : State) (n : Fin 4) (f : SerialFrame) (t0 : Nat),
    let i := srcNo n.1
    let x := s.source i
    x.frameAt = some t0 ∧ x.cfg.mode = .bissC ∧ x.st ≠ .disabled ∧ f.started = true ∧ crcMatches x.cfg f = false ∧ x.badRun < 2) ∧
  (∃ (s : State) (n : Fin 4) (f : SerialFrame) (t0 : Nat),
    let i := srcNo n.1
    let x := s.source i
    x.frameAt = some t0 ∧ x.cfg.mode = .bissC ∧ f.started = true ∧ crcMatches x.cfg f = true ∧ f.nE = true ∧ f.nW = true ∧ x.cfg.gray = false ∧ x.presetNext = none ∧ x.st = .acquiring) :=
  ⟨⟨wSerial none, 2, by decide +kernel⟩,
   ⟨wSerial (some 90), 2, by decide +kernel⟩,
   ⟨wSerial none, 2, by decide +kernel⟩,
   ⟨wSerial (some 90), 2, { wFrame with crc := 1 }, 90, by decide +kernel⟩,
   ⟨wSerial (some 90), 2, wFrame, 90, by decide +kernel⟩⟩

theorem witness_SilentSourcesFault :
  (∃ (s : State) (n : Fin 16) (e : Nat × Nat × Pos),
    let x := s.source n
    n.1 < 4 ∧ x.st = .tracking ∧ x.speed ≠ 0 ∧ x.edges.head? = some e) ∧
  (∃ (s : State) (n : Fin 16),
    let x := s.source n
    (4 ≤ n.1 ∨ x.st ≠ .tracking ∨ x.speed = 0)) ∧
  (∃ (s : State) (n : Fin 16),
    let x := s.source n
    4 ≤ n.1 ∧ x.bound ≠ none ∧ x.st ≠ .fault) ∧
  (∃ (s : State) (n : Fin 16),
    let x := s.source n
    4 ≤ n.1 ∧ x.bound ≠ none ∧ x.st ≠ .fault ∧ s.boundTo n = []) ∧
  (∃ (s : State) (n : Fin 16),
    let x := s.source n
    (n.1 < 4 ∨ x.bound = none ∨ x.st = .fault)) :=
  ⟨⟨wMoving, 1, (100, 100, 256), by decide +kernel⟩,
   ⟨wSource .tracking, 1, by decide +kernel⟩,
   ⟨wRemote, 4, by decide +kernel⟩,
   ⟨wRemote, 4, by decide +kernel⟩,
   ⟨wSource .tracking, 1, by decide +kernel⟩⟩

theorem witness_LinesBecomeDue :
  (∃ (s : State) (p : Fin 32),
    s.quireOf p = none) ∧
  (∃ (s : State) (p : Fin 32) (q : Fin 8),
    let x := s.port p
    s.quireOf p = some q ∧ mayFire (s.quire q) x (s.source (s.quire q).source) p = false) ∧
  (∃ (s : State) (p : Fin 32) (q : Fin 8),
    let x := s.port p
    s.quireOf p = some q ∧ s.crossing (s.quire q) (s.leadPs (s.quire q) p) x.nextK = none ∧ (x.dat.ahead = false ∨ s.crossing (s.quire q) (s.leadPs (s.quire q) p) (x.nextK - (s.quire q).dir) = none)) ∧
  (∃ (s : State) (p : Fin 32) (q : Fin 8) (c : Nat),
    let x := s.port p
    s.quireOf p = some q ∧ mayFire (s.quire q) x (s.source (s.quire q).source) p = true ∧ x.dat.ahead = true ∧ s.crossing (s.quire q) (s.leadPs (s.quire q) p) x.nextK = none ∧ s.crossing (s.quire q) (s.leadPs (s.quire q) p) (x.nextK - (s.quire q).dir) = some c) ∧
  (∃ (s : State) (p : Fin 32) (q : Fin 8) (c : Nat),
    let x := s.port p
    s.quireOf p = some q ∧ mayFire (s.quire q) x (s.source (s.quire q).source) p = true ∧ s.crossing (s.quire q) (s.leadPs (s.quire q) p) x.nextK = some c ∧ (x.dat.ahead = false ∨ s.crossing (s.quire q) (s.leadPs (s.quire q) p) (x.nextK - (s.quire q).dir) = none)) ∧
  (∃ (s : State) (p : Fin 32) (q : Fin 8) (c : Nat) (c0 : Nat),
    let x := s.port p
    s.quireOf p = some q ∧ mayFire (s.quire q) x (s.source (s.quire q).source) p = true ∧ x.dat.ahead = true ∧ s.crossing (s.quire q) (s.leadPs (s.quire q) p) x.nextK = some c ∧ s.crossing (s.quire q) (s.leadPs (s.quire q) p) (x.nextK - (s.quire q).dir) = some c0) ∧
  (∃ (s : State) (p : Fin 32),
    let x := s.port p
    x.banks ≠ none) :=
  ⟨⟨wQuire, 5, by decide +kernel⟩,
   ⟨wQuire, 4, 2, by decide +kernel⟩,
   ⟨wNext false, 4, 2, by decide +kernel⟩,
   ⟨wNext true, 4, 2, 100, by decide +kernel⟩,
   ⟨wPrint, 4, 2, 100, by decide +kernel⟩,
   ⟨(wPrint.modPort 4 fun x => { x with dat := { x.dat with ahead := true } }), 4, 2, 100, 100, by decide +kernel⟩,
   ⟨wPrint, 4, by decide +kernel⟩⟩

theorem witness_LinesAreDecided :
  (∃ (s : State) (p : Fin 32),
    let x := s.port p
    x.lines.find? (fun l => l.dec.isNone) = none) ∧
  (∃ (s : State) (p : Fin 32) (l : Line),
    let x := s.port p
    x.lines.find? (fun l => l.dec.isNone) = some l) ∧
  (∃ (s : State) (p : Fin 32) (l : Line),
    let x := s.port p
    x.lines = [l] ∧ l.dec = none ∧ l.latched = false) :=
  ⟨⟨wQuire, 4, by decide +kernel⟩,
   ⟨wLine, 4, wALine, by decide +kernel⟩,
   ⟨wLine, 4, wALine, by decide +kernel⟩⟩

theorem witness_LatchesAndPlaybacks :
  (∃ (s : State) (p : Fin 32),
    let x := s.port p
    x.lines = []) ∧
  (∃ (s : State) (p : Fin 32) (l : Line),
    let x := s.port p
    x.lines.find? (fun l => !l.latched) = some l) ∧
  (∃ (s : State) (p : Fin 32) (c : Chan) (l : Line) (q : Play) (cap : Nat),
    let x := s.port p
    firstPlay x c 0 = some (l, q) ∧ l.dec = some (.fire cap) ∧ (x.chan c).firstHurt q.slot false = none) ∧
  (∃ (s : State) (p : Fin 32) (c : Chan) (l : Line) (q : Play),
    let x := s.port p
    firstPlay x c 0 = some (l, q) ∧ l.dec = some .suppress) ∧
  (∃ (s : State) (p : Fin 32) (c : Chan) (ecc : Bool) (l : Line) (q : Play) (cap : Nat) (i : Nat),
    let x := s.port p
    firstPlay x c 0 = some (l, q) ∧ l.dec = some (.fire cap) ∧ (x.chan c).firstHurt q.slot ecc = some i) ∧
  (∃ (s : State) (p : Fin 32) (c : Chan) (l : Line) (q : Play),
    let x := s.port p
    firstPlay x c 1 = some (l, q)) :=
  ⟨⟨wBase, 4, by decide +kernel⟩,
   ⟨wLine, 4, wALine, by decide +kernel⟩,
   ⟨wFired, 4, .a, { wALine with dec := some (.fire 3) }, wAPlay, 3, by decide +kernel⟩,
   ⟨wSuppressed, 4, .a, { wALine with dec := some .suppress }, wAPlay, by decide +kernel⟩,
   ⟨wHurt, 4, .a, false, { wALine with dec := some (.fire 3) }, wAPlay, 3, 1, by decide +kernel⟩,
   ⟨wRunning, 4, .a, { wALine with dec := some (.fire 3), plays := [{ wAPlay with phase := 1 }] }, { wAPlay with phase := 1 }, by decide +kernel⟩⟩

theorem witness_CapturesAreJudged :
  (∃ (s : State) (p : Fin 32),
    let x := s.port p
    let found := x.lines.find? fun l => l.probe.isSome && l.dec.isSome && l.plays.all fun q => q.phase == 2
    found = none) ∧
  (∃ (s : State) (p : Fin 32) (l : Line) (i : Nat) (k : Bool),
    let x := s.port p
    let found := x.lines.find? fun l => l.probe.isSome && l.dec.isSome && l.plays.all fun q => q.phase == 2
    found = some l ∧ l.probe = some (i, k)) ∧
  (∃ (s : State) (p : Fin 32) (samples : List Int) (l : Line) (i : Nat) (k : Bool),
    let x := s.port p
    let found := x.lines.find? fun l => l.probe.isSome && l.dec.isSome && l.plays.all fun q => q.phase == 2
    found = some l ∧ l.probe = some (i, k) ∧ (samples.length ≠ 100 ∨ x.st ≠ .printing)) :=
  ⟨⟨wLine, 4, by decide +kernel⟩,
   ⟨wProbed, 4, wProbeLine, 5, true, by decide +kernel⟩,
   ⟨wProbed, 4, [2047], wProbeLine, 5, true, by decide +kernel⟩⟩

theorem witness_ArbiterRequests :
  (∃ (s : State) (sc : ReqScope) (k : ReqKind),
    (match k with | .stop _ => false | .inhibit | .cap _ => true) = true ∧ ((idx 32).all fun p => !(s.covers sc p) || (s.port p).lines.all fun l => l.dec.isSome || decide (s.clk ≤ l.decideAt)) = true) ∧
  (∃ (s : State) (q : Fin 8),
    ((s.quire q).st = .armed ∨ (s.quire q).st = .flyleaf ∨ (s.quire q).st = .printing ∨ (s.quire q).st = .suspended)) ∧
  (∃ (s : State) (q : Fin 8),
    (s.quire q).st = .stopping) ∧
  (∃ (s : State) (q : Fin 8),
    ((s.quire q).st = .unbound ∨ (s.quire q).st = .bound ∨ (s.quire q).st = .fault)) ∧
  (∃ (s : State) (p : Fin 32),
    s.quireOf p = none) ∧
  (∃ (s : State) (sc : ReqScope),
    s.scopeRuns sc = true) ∧
  (∃ (s : State) (sc : ReqScope),
    s.scopeRuns sc = false) :=
  ⟨⟨wLine, .port 4, .cap 3, by decide +kernel⟩,
   ⟨wPrint, 2, by decide +kernel⟩,
   ⟨(wQuire.modQuire 2 fun x => { x with st := .stopping }), 2, by decide +kernel⟩,
   ⟨wBase, 2, by decide +kernel⟩,
   ⟨wBase, 4, by decide +kernel⟩,
   ⟨wPrint, .quire 2, by decide +kernel⟩,
   ⟨wBase, .quire 2, by decide +kernel⟩⟩

theorem witness_ScanEdgesOpenSwaths :
  (∃ (s : State) (i : Fin 4),
    ((idx 8).all fun q => !((s.quire q).gatedBy i)) = true) ∧
  (∃ (s : State) (i : Fin 4) (rising : Bool) (held : Nat) (q : Fin 8),
    ((idx 8).all fun r => (s.quire r).gatedBy i == (r == q)) = true ∧ sosFits s (s.quire q) i rising held = false) ∧
  (∃ (s : State) (i : Fin 4) (rising : Bool) (held : Nat) (q : Fin 8),
    ((idx 8).all fun r => (s.quire r).gatedBy i == (r == q)) = true ∧ sosFits s (s.quire q) i rising held = true ∧ (s.quire q).gate = false ∧ ((s.quire q).st = .armed ∨ (s.quire q).st = .suspended)) :=
  ⟨⟨wBase, 1, by decide +kernel⟩,
   ⟨wScan, 1, false, 100, 3, by decide +kernel⟩,
   ⟨wScan, 1, true, 100, 3, by decide +kernel⟩⟩

theorem witness_BanksSwapAndCopy :
  (∃ (s : State) (q : Fin 8),
    ((s.quire q).st = .suspended ∨ s.swapSets q = [] ∧ ((s.activeOf q).all fun p => (s.port p).dat.queue.isEmpty) = true)) ∧
  (∃ (s : State) (q : Fin 8),
    (s.quire q).st ≠ .suspended) ∧
  (∃ (s : State) (q : Fin 8) (m : U32),
    (s.quire q).st ≠ .suspended ∧ s.activeOf q = [] ∧ s.swapSets q = [m]) ∧
  (∃ (s : State) (p : Fin 32),
    ((s.port p).banks.bind fun b => b.old) = none) ∧
  (∃ (s : State) (p : Fin 32) (b : Banks) (o : OldBank),
    (s.port p).banks = some b ∧ b.old = some o ∧ copyReady s p o.from_ = true ∧ b.heldW = []) ∧
  (∃ (s : State) (p : Fin 32) (b : Banks) (o : OldBank),
    (s.port p).banks = some b ∧ b.old = some o ∧ copyReady s p o.from_ = true ∧ b.heldW ≠ []) ∧
  (∃ (s : State) (p : Fin 32) (b : Banks) (o : OldBank),
    (s.port p).banks = some b ∧ b.old = some o ∧ copyReady s p o.from_ = false) :=
  ⟨⟨(wQuire.modQuire 2 fun x => { x with st := .suspended }), 2, by decide +kernel⟩,
   ⟨wPend, 2, by decide +kernel⟩,
   ⟨wSwap, 2, 16, by decide +kernel⟩,
   ⟨wQuire, 4, by decide +kernel⟩,
   ⟨wOld, 4, wOldBanks, wOldBank, by decide +kernel⟩,
   ⟨wHeld, 4, wHeldBanks, wOldBank, by decide +kernel⟩,
   ⟨wOldDue, 4, wOldBanks, wOldBank, by decide +kernel⟩⟩

theorem witness_DrainsEnd :
  (∃ (s : State) (p : Fin 32),
    drained s p = false) ∧
  (∃ (s : State) (p : Fin 32),
    drained s p = true ∧ (s.port p).st = .draining ∧ s.quireOf p ≠ none) ∧
  (∃ (s : State) (q : Fin 8),
    (s.quire q).st ≠ .stopping) ∧
  (∃ (s : State) (q : Fin 8),
    ((s.portsOf q).any fun p => (s.port p).st.busy && !(drained s p)) = true) ∧
  (∃ (s : State) (q : Fin 8),
    (s.quire q).st = .stopping ∧ ((s.portsOf q).all fun p => !((s.port p).st.busy) || drained s p) = true) :=
  ⟨⟨wLine, 4, by decide +kernel⟩,
   ⟨(wPrint.modPort 4 fun x => { x with st := .draining, playEnd := 900 }), 4, by decide +kernel⟩,
   ⟨wPrint, 2, by decide +kernel⟩,
   ⟨wLine, 2, by decide +kernel⟩,
   ⟨(wQuire.modQuire 2 fun x => { x with st := .stopping, cause := 14 }), 2, by decide +kernel⟩⟩

theorem witness_DescriptorsAreFetched :
  (∃ (s : State) (p : Fin 32),
    let r := ringNo p.1
    let g := s.ring r
    (g.rereads ≠ 0 ∨ (mayRead s r = false ∨ mayFetch s p = false) ∧ mayPurge s p = false)) ∧
  (∃ (s : State) (p : Fin 32) (e : BitVec 256),
    let r := ringNo p.1
    let g := s.ring r
    g.rereads = 0 ∧ mayRead s r = true ∧ mayFetch s p = true ∧ answersNow s p e = false ∧ entryCw e ≠ catchword g.fetchPass) ∧
  (∃ (s : State) (p : Fin 32) (e : BitVec 256),
    let x := s.port p
    let r := ringNo p.1
    let g := s.ring r
    g.rereads = 0 ∧ mayRead s r = true ∧ mayFetch s p = true ∧ x.dat.purge = 0 ∧ descBad s x e = 0 ∧ entryCw e = catchword g.fetchPass ∧ gdmaField e 0 1 = 1 ∧ (descOf e 0).count ≠ 0 ∧ x.dat.descs = [] ∧ x.dat.settled = 0 ∧ 0 ≤ x.dat.endJ) ∧
  (∃ (s : State) (p : Fin 32) (e : BitVec 256),
    let x := s.port p
    let r := ringNo p.1
    let g := s.ring r
    g.rereads = 0 ∧ mayRead s r = true ∧ mayFetch s p = true ∧ x.dat.purge = 0 ∧ descBad s x e ≠ 0 ∧ entryCw e = catchword g.fetchPass ∧ cplRoom s r 1 = true ∧ x.dat.descs = []) ∧
  (∃ (s : State) (p : Fin 32) (b : Desc),
    let x := s.port p
    x.dat.descs = [b] ∧ b.kind = 1 ∧ b.staged = false ∧ s.buffered p = true ∧ s.page.st = .ready ∧ s.link.d3hot = false ∧ x.dat.owed = [] ∧ b.data = [] ∧ b.len ≠ 0 ∧ b.len ≤ stageRoom s p * 0x200000 ∧ b.retired = false ∧ b.notify = false ∧ b.ringless = false ∧ b.over x.dat.settled = false) ∧
  (∃ (s : State) (p : Fin 32) (b : Desc),
    let x := s.port p
    x.dat.descs = [b] ∧ b.kind = 1 ∧ b.staged = false ∧ s.buffered p = true ∧ s.page.st = .ready ∧ s.link.d3hot = false ∧ x.dat.owed = [] ∧ 0 < stageRoom s p ∧ b.data.length + stageRoom s p * 0x200000 < b.len ∧ b.retired = false ∧ b.over x.dat.settled = false) ∧
  (∃ (s : State) (p : Fin 32),
    let x := s.port p
    (x.dat.descs.find? (fun d => d.kind == 1 && !d.staged) = none ∨ s.buffered p = false ∨ s.page.st ≠ .ready ∨ s.link.d3hot = true ∨ stageRoom s p = 0)) ∧
  (∃ (s : State) (p : Fin 32),
    let x := s.port p
    x.dat.descs = [] ∧ x.dat.owed = []) ∧
  (∃ (s : State) (p : Fin 32) (d : Desc) (n : Nat),
    let x := s.port p
    let r := ringNo p.1
    x.dat.descs = [] ∧ x.dat.owed = [(d, n)] ∧ cplRoom s r 1 = true) ∧
  (∃ (s : State) (p : Fin 32) (d : Desc),
    let x := s.port p
    let r := ringNo p.1
    x.dat.descs = [d] ∧ x.dat.owed = [] ∧ d.retired = false ∧ d.kind = 1 ∧ d.staged = false ∧ d.ringless = false ∧ d.over x.dat.settled = true ∧ d.notify = true ∧ cplRoom s r 1 = true) :=
  ⟨⟨wFetch, 5, by decide +kernel⟩,
   ⟨wFetch, 4, 0x400000000040000000020000000702000001, by decide +kernel⟩,
   ⟨wFetch, 4, 0x400000000040000000020000000701000001, by decide +kernel⟩,
   ⟨wFetch, 4, 0x01000007, by decide +kernel⟩,
   ⟨wBand, 4, wADesc, by decide +kernel⟩,
   ⟨wHuge, 4, { wADesc with len := 2 ^ 40 }, by decide +kernel⟩,
   ⟨wFetch, 4, by decide +kernel⟩,
   ⟨wBase, 4, by decide +kernel⟩,
   ⟨(wFetch.modPort 4 fun x => { x with dat := { x.dat with owed := [(wADesc, 1)] } }), 4, wADesc, 1, by decide +kernel⟩,
   ⟨wBandOver, 4, { wADesc with decoded := 2, firedN := 1, notify := true }, by decide +kernel⟩⟩

theorem witness_LinesAreDecodedAndScreened :
  (∃ (s : State) (p : Fin 32),
    let x := s.port p
    (mayDecode s p = false ∨ s.lineRoom p = false ∨ x.dat.patOn = false ∧ x.dat.current = none)) ∧
  (∃ (s : State) (p : Fin 32) (d : Desc),
    let x := s.port p
    mayDecode s p = true ∧ s.lineRoom p = true ∧ x.dat.patOn = false ∧ x.dat.current = some d ∧ x.dat.descs = [d] ∧ ¬(d.kind = 1 ∧ d.fromStore = false ∧ s.buffered p = true) ∧ d.broken = false ∧ 0 < d.run ∧ d.decoded + 1 < d.count ∧ (d.decoded + 1) % d.lines ≠ 0 ∧ tooLate s p (d.startJ + d.decoded).toNat = false ∧ 0 ≤ d.startJ) ∧
  (∃ (s : State) (p : Fin 32),
    let x := s.port p
    x.dat.ahead = true) ∧
  (∃ (s : State) (p : Fin 32),
    let x := s.port p
    x.dat.ahead = false ∧ (x.dat.queue = [] ∨ mayDecode s p = false)) ∧
  (∃ (s : State) (p : Fin 32) (l : ImgLine) (rest : List ImgLine) (qi : Fin 8) (b : Banks),
    let x := s.port p
    x.dat.ahead = false ∧ x.dat.queue = l :: rest ∧ mayDecode s p = true ∧ s.quireOf p = some qi ∧ x.banks = some b) :=
  ⟨⟨wPrint, 4, by decide +kernel⟩,
   ⟨wRun, 4, { wADesc with run := 1 }, by decide +kernel⟩,
   ⟨(wPrint.modPort 4 fun x => { x with dat := { x.dat with ahead := true } }), 4, by decide +kernel⟩,
   ⟨wPrint, 4, by decide +kernel⟩,
   ⟨wQueued, 4, { j := 0, bytes := [5], levels := none, sat := false }, [], 2, wBanks, by decide +kernel⟩⟩

theorem witness_DemandIsEvaluated :
  (∃ (s : State),
    s.page.st = .training) ∧
  (∃ (s : State),
    s.page.st ≠ .training) :=
  ⟨⟨{ wBase with page := { PageStore.reset with st := .training } }, by decide +kernel⟩,
   ⟨wBase, by decide +kernel⟩⟩

theorem witness_RingEngineRuns :
  (∃ (s : State) (c : Fin 8),
    ((s.ring (ringNo (32 + c.1))).rereads ≠ 0 ∨ mayRead s (ringNo (32 + c.1)) = false ∨ s.cores = false)) ∧
  (∃ (s : State) (c : Fin 8) (e : BitVec 512),
    (s.ring (ringNo (32 + c.1))).rereads = 0 ∧ mayRead s (ringNo (32 + c.1)) = true ∧ s.cores = true ∧ s.execs.length < 32 ∧ ownDestroy s (ringNo (32 + c.1)) = false ∧ cplRoom s (ringNo (32 + c.1)) (slotsFor s (ringNo (32 + c.1)) e) = true ∧ entryCw e = catchword (s.ring (ringNo (32 + c.1))).fetchPass) ∧
  (∃ (s : State) (r : Fin 64),
    (s.ring r).rereads = 0) ∧
  (∃ (s : State) (r : Fin 64),
    32 ≤ r.1 ∧ r.1 < 40 ∧ (s.ring r).rereads ≠ 0 ∧ mayRead s r = true) ∧
  (∃ (s : State) (c : Fin 8) (e : BitVec 256),
    (s.ring (ringNo (56 + c.1))).rereads = 0 ∧ mayRead s (ringNo (56 + c.1)) = true ∧ (s.gdma.any fun x => x.1 == 56 + c.1) = false ∧ gdmaBad s e = 0 ∧ entryCw e = catchword (s.ring (ringNo (56 + c.1))).fetchPass ∧ (bit (gdmaField e 1 1) 1 = false ∨ cplRoom s (ringNo (56 + c.1)) 1 = true)) ∧
  (∃ (s : State) (c : Fin 8),
    mayRead s (ringNo (56 + c.1)) = false) ∧
  (∃ (s : State) (r : Fin 64),
    ((s.ring r).st ≠ .closing ∨ ringHolds s r = true)) ∧
  (∃ (s : State) (r : Fin 64),
    (s.ring r).st = .closing ∧ ringHolds s r = false) ∧
  (∃ (s : State) (r : Fin 64),
    ((s.ring r).arrived = false ∨ (s.ring r).st = .absent)) ∧
  (∃ (s : State) (r : Fin 64),
    (s.ring r).arrived = true ∧ (s.ring r).st ≠ .absent ∧ s.link.msixEn = true ∧ s.link.d3hot = false ∧ s.link.msixMask = false ∧ look s.link.msixVMask (finOf 64 (by decide) (s.ring r).vector.toNat) = false) :=
  ⟨⟨wRings, 1, by decide +kernel⟩,
   ⟨(wRings.modRing 32 fun g => { g with tail := 1 }), 0, 0x701000001, by decide +kernel⟩,
   ⟨wRings, 32, by decide +kernel⟩,
   ⟨(wRings.modRing 32 fun g => { g with tail := 1, rereads := 3, rereadAt := 500 }), 32, by decide +kernel⟩,
   ⟨wGdma, 0, 0x800000000040000000000005000701000001, by decide +kernel⟩,
   ⟨wBase, 0, by decide +kernel⟩,
   ⟨wRings, 32, by decide +kernel⟩,
   ⟨(wRings.modRing 32 fun g => { g with st := .closing }), 32, by decide +kernel⟩,
   ⟨wRings, 40, by decide +kernel⟩,
   ⟨wHoldoff, 40, by decide +kernel⟩⟩

theorem witness_TransfersEnd :
  (∃ (s : State) (id : Nat),
    ownTransfer s id = none ∧ relayOf s id = none) ∧
  (∃ (s : State) (r : Fin 64),
    (s.ring r).st = .active) ∧
  (∃ (s : State) (id : Nat),
    ownTransfer s id = none ∧ s.gdma.find? (fun g => g.2.2 == id) = none ∧ relayOf s id = none) ∧
  (∃ (s : State) (id : Nat) (e : Exec),
    ownTransfer s id = some e ∧ e.need = 0) ∧
  (∃ (s : State) (id : Nat) (e : Exec),
    ownTransfer s id = some e ∧ e.need ≠ 0) ∧
  (∃ (s : State) (id : Nat) (e : BitVec 256) (r : Nat) (g : Region),
    ownTransfer s id = none ∧ s.gdma.find? (fun g => g.2.2 == id) = some (r, e, id) ∧ gdmaField e 0 1 = 1 ∧ bit (gdmaField e 1 1) 1 = false ∧ s.region (gdmaField e 6 2) = some g) ∧
  (∃ (s : State),
    s.rst.seq ≠ .ready) ∧
  (∃ (s : State),
    s.rst.seq = .ready ∧ s.telRoute = 0) :=
  ⟨⟨wRings, 7, by decide +kernel⟩,
   ⟨wRings, 32, by decide +kernel⟩,
   ⟨wRings, 7, by decide +kernel⟩,
   ⟨wReadOut, 7, { wExec with need := 0 }, by decide +kernel⟩,
   ⟨wReadIn, 7, wExec, by decide +kernel⟩,
   ⟨wGdmaRun, 9, 0x800000000040000000000005000701000001, 56, wRegion, by decide +kernel⟩,
   ⟨({ wBase with rst := Rst.reset }), by decide +kernel⟩,
   ⟨wBase, by decide +kernel⟩⟩

theorem witness_HostLinkResets :
  (∃ (s : State) (c : HostResetCause),
    (s.execs.all fun e => e.wait != .dma && e.wait != .ringClose) = true ∧ s.spr.parts = [] ∧ s.gdma = [] ∧ s.glb.abortOnPerst = false ∧ (c ≠ .perst ∨ s.rst.seq ≠ .stretch)) ∧
  (∃ (s : State),
    (s.execs.all fun e => e.wait != .dma && e.wait != .ringClose) = true ∧ s.spr.parts = [] ∧ s.gdma = [] ∧ s.glb.abortOnPerst = true) ∧
  (∃ (s : State),
    s.execs = [] ∧ s.spr.parts = [] ∧ s.gdma = [] ∧ s.glb.abortOnPerst = false ∧ s.rst.seq = .stretch) ∧
  (∃ (s : State),
    s.link.up = true) ∧
  (∃ (s : State),
    s.link.up = false) ∧
  (∃ (s : State),
    s.link.d3hot = false) ∧
  (∃ (s : State),
    s.link.d3hot = true) ∧
  (∃ (s : State),
    s.link.d3hot = true ∧ s.parked = [] ∧ s.link.msixPend = 0) ∧
  (∃ (s : State),
    s.islands = true ∧ s.link.perstLow = false) ∧
  (∃ (s : State),
    (s.islands = false ∨ s.link.perstLow = true)) :=
  ⟨⟨wLink, .perst, by decide +kernel⟩,
   ⟨{ wLink with glb := { wLink.glb with abortOnPerst := true } }, by decide +kernel⟩,
   ⟨wStretch, by decide +kernel⟩,
   ⟨wLink, by decide +kernel⟩,
   ⟨wBase, by decide +kernel⟩,
   ⟨wBase, by decide +kernel⟩,
   ⟨{ wLink with link := { wLink.link with d3hot := true } }, by decide +kernel⟩,
   ⟨({ wLink with link := { wLink.link with d3hot := true } }), by decide +kernel⟩,
   ⟨wBase, by decide +kernel⟩,
   ⟨{ wBase with rst := Rst.reset }, by decide +kernel⟩⟩

theorem witness_HeadPortsFollowTheLink :
  (∃ (held : Nat),
    held < 4000000) ∧
  (∃ (held : Nat),
    4000000 ≤ held) ∧
  (∃ (s : State) (p : Fin 32) (held : Nat),
    let x := s.port p
    4000000 ≤ held ∧ x.st = .closed ∧ x.hm = []) ∧
  (∃ (s : State) (p : Fin 32) (held : Nat),
    let x := s.port p
    4000000 ≤ held ∧ (x.st = .idle ∨ x.st = .armed ∨ x.st = .printing ∨ x.st = .draining) ∧ x.prsHigh = false ∧ x.hm = []) ∧
  (∃ (s : State) (p : Fin 32),
    let x := s.port p
    x.link.train = 0) ∧
  (∃ (s : State) (p : Fin 32),
    let x := s.port p
    x.link.train ≠ 0 ∧ x.linkOutcome = none) ∧
  (∃ (s : State) (p : Fin 32),
    let x := s.port p
    x.link.train ≠ 0 ∧ x.linkOutcome.isSome = true ∧ openExec s p = none ∧ retrainExec s p = none ∧ x.st ≠ .idle) ∧
  (∃ (s : State) (p : Fin 32),
    let x := s.port p
    x.link.train ≠ 0 ∧ x.linkOutcome = some true ∧ openExec s p = none ∧ retrainExec s p = none ∧ x.st = .idle) ∧
  (∃ (s : State) (p : Fin 32) (e : Exec),
    let x := s.port p
    x.link.train ≠ 0 ∧ x.linkOutcome = some true ∧ openExec s p = none ∧ retrainExec s p = some e ∧ x.st = .idle) ∧
  (∃ (s : State) (p : Fin 32),
    let x := s.port p
    x.link.train ≠ 0 ∧ x.linkOutcome = some false ∧ openExec s p = none ∧ retrainExec s p = none ∧ x.st = .idle) ∧
  (∃ (s : State) (p : Fin 32) (e : Exec),
    let x := s.port p
    x.link.train ≠ 0 ∧ x.linkOutcome = some false ∧ openExec s p = some e) ∧
  (∃ (s : State) (p : Fin 32) (e : Exec),
    let x := s.port p
    x.link.train ≠ 0 ∧ x.linkOutcome = some true ∧ openExec s p = some e ∧ x.hm = []) ∧
  (∃ (s : State) (p : Fin 32),
    let x := s.port p
    (x.gen ≠ 3 ∨ x.st = .closed ∨ x.st = .opening ∨ x.link.up = false)) ∧
  (∃ (s : State) (p : Fin 32),
    let x := s.port p
    x.gen = 3 ∧ (x.st = .idle ∨ x.st = .armed ∨ x.st = .printing ∨ x.st = .draining) ∧ x.link.up = true ∧ x.hm = []) ∧
  (∃ (s : State) (p : Fin 32),
    let x := s.port p
    (x.st = .closed ∨ x.st.busy = true ∧ x.link.blockLines < 1024)) ∧
  (∃ (s : State) (p : Fin 32),
    let x := s.port p
    x.st.busy = true ∧ 1024 ≤ x.link.blockLines) ∧
  (∃ (s : State) (p : Fin 32),
    let x := s.port p
    x.st ≠ .closed ∧ x.st.busy = false) :=
  ⟨⟨3999999, by decide +kernel⟩,
   ⟨4000000, by decide +kernel⟩,
   ⟨wBase, 4, 4000000, by decide +kernel⟩,
   ⟨(wPrint.modPort 4 fun y => { y with prsHigh := false }), 4, 4000000, by decide +kernel⟩,
   ⟨wQuire, 4, by decide +kernel⟩,
   ⟨wTrain 0 1 .opening [], 4, by decide +kernel⟩,
   ⟨wTrain 0 2 .opening [], 4, by decide +kernel⟩,
   ⟨wTrain 15 1 .idle [], 4, by decide +kernel⟩,
   ⟨wTrain 15 1 .idle [wRetrainExec], 4, wRetrainExec, by decide +kernel⟩,
   ⟨wTrain 0 2 .idle [], 4, by decide +kernel⟩,
   ⟨wTrain 0 2 .opening [wOpenExec], 4, wOpenExec, by decide +kernel⟩,
   ⟨wTrain 15 1 .opening [wOpenExec], 4, wOpenExec, by decide +kernel⟩,
   ⟨wQuire, 4, by decide +kernel⟩,
   ⟨wHifC, 4, by decide +kernel⟩,
   ⟨wLine, 4, by decide +kernel⟩,
   ⟨(wPrint.modPort 4 fun y => { y with link := { y.link with blockLines := 1024, errs := 3 } }), 4, by decide +kernel⟩,
   ⟨wQuire, 4, by decide +kernel⟩⟩

theorem witness_HeadStatusAndMemory :
  (∃ (s : State) (p : Fin 32),
    let x := s.port p
    (x.gen ≠ 3 ∨ x.st = .closed)) ∧
  (∃ (s : State) (p : Fin 32) (f : BitVec 64),
    let x := s.port p
    x.gen = 3 ∧ x.st ≠ .closed ∧ f.toNat % 256 = 0x9C ∧ (crc8 ((bytesOf 8 f).take 7)).toNat = f.toNat / 2 ^ 56 ∧ bits (rdAt (bytesOf 8 f) 2 1) 0 0 = 0 ∧ bits (rdAt (bytesOf 8 f) 2 1) 5 5 = 0 ∧ x.therm.absSeen = false ∧ ((frameTemps x (frameT (rdAt (bytesOf 8 f) 3 2)) (frameT (rdAt (bytesOf 8 f) 5 2))).all fun t => (x.profile.map fun q => decide (t.2 < q.tAbs)).getD true) = true) ∧
  (∃ (s : State) (p : Fin 32) (k28 : Byte) (kind : Byte),
    let x := s.port p
    ((x.hm.head?.bind fun j => j.sent) ≠ some true ∨ k28 ≠ 0x9C ∨ kind ≠ 2)) ∧
  (∃ (s : State) (p : Fin 32) (status : Byte) (data : Bytes) (crc : U32),
    let x := s.port p
    (x.hm.head?.bind fun j => j.sent) = some true ∧ crc32 ([0x9C, 2, status] ++ data) = crc) ∧
  (∃ (s : State) (p : Fin 32) (status : Byte) (data : Bytes) (crc : U32),
    let x := s.port p
    (x.hm.head?.bind fun j => j.sent) = some true ∧ crc32 ([0x9C, 2, status] ++ data) ≠ crc) ∧
  (∃ (s : State) (p : Fin 32),
    let x := s.port p
    (x.hm.head?.bind fun j => j.sent) ≠ some false) ∧
  (∃ (s : State) (p : Fin 32),
    let x := s.port p
    (x.hm.head?.bind fun j => j.sent) = some false) ∧
  (∃ (s : State) (p : Fin 32) (c : Chan) (b : Banks),
    let x := s.port p
    (x.chan c).mapDue = true ∧ x.banks = some b ∧ b.pend = false ∧ (x.st = .idle ∨ x.st.busy = true) ∧ (x.lines.all fun l => l.mapBank == x.link.mapBank) = true) ∧
  (∃ (s : State) (p : Fin 32) (c : Chan),
    let x := s.port p
    (x.chan c).mapDue = false) :=
  ⟨⟨wQuire, 4, by decide +kernel⟩,
   ⟨wHifC, 4, wStatus, by decide +kernel⟩,
   ⟨wBase, 4, 0x9C, 2, by decide +kernel⟩,
   ⟨wAccess true, 4, 0, [7], crc32 [0x9C, 2, 0, 7], by decide +kernel⟩,
   ⟨wAccess true, 4, 0, [7], crc32 [0x9C, 2, 0, 7] + 1, by decide +kernel⟩,
   ⟨wBase, 4, by decide +kernel⟩,
   ⟨wAccess false, 4, by decide +kernel⟩,
   ⟨wMapDue, 4, .a, wBanks, by decide +kernel⟩,
   ⟨wQuire, 4, .a, by decide +kernel⟩⟩

theorem witness_LearningAndWear :
  (∃ (s : State) (p : Fin 32),
    let x := s.port p
    x.rvs.learn = none) ∧
  (∃ (s : State) (p : Fin 32) (l : Learn),
    let x := s.port p
    x.rvs.learn = some l ∧ s.execs.all (fun e => e.id != l.id) = true) ∧
  (∃ (s : State) (p : Fin 32),
    let x := s.port p
    x.rvs.swapDue = false) ∧
  (∃ (s : State) (p : Fin 32) (g : SigSet),
    let x := s.port p
    x.rvs.swapDue = true ∧ x.rvs.staging = some g) ∧
  (∃ (s : State) (p : Fin 32),
    let x := s.port p
    x.rvs.monReset = []) ∧
  (∃ (s : State) (p : Fin 32),
    let x := s.port p
    x.rvs.monReset ≠ []) ∧
  (∃ (s : State) (p : Fin 32),
    let x := s.port p
    (x.st = .closed ∨ s.th.enforce = true)) ∧
  (∃ (s : State) (p : Fin 32),
    let x := s.port p
    x.st ≠ .closed ∧ s.th.enforce = false ∧ x.hm = []) :=
  ⟨⟨wQuire, 4, by decide +kernel⟩,
   ⟨wLearn, 4, wALearn, by decide +kernel⟩,
   ⟨wQuire, 4, by decide +kernel⟩,
   ⟨wStaged, 4, SigSet.reset, by decide +kernel⟩,
   ⟨wQuire, 4, by decide +kernel⟩,
   ⟨(wQuire.modPort 4 fun y => { y with rvs := { y.rvs with monReset := [(0, 1)] } }), 4, by decide +kernel⟩,
   ⟨wBase, 4, by decide +kernel⟩,
   ⟨wQuire, 4, by decide +kernel⟩⟩

theorem witness_ResetsClearTheBlock :
  (∃ (s : State),
    s.drivesRst = false) ∧
  (∃ (s : State),
    s.drivesRst = true) ∧
  (∃ (s : State),
    s.rst.seq = .ready) ∧
  (∃ (s : State),
    s.rst.seq ≠ .ready) ∧
  (∃ (s : State) (u : Nat),
    s.rst.selfAt = some u) ∧
  (∃ (s : State),
    s.rst.selfAt = none) ∧
  (∃ (s : State) (die : List Int),
    s.rst.asserted.contains .thermal = false ∧ 2480 ≤ hottest die) ∧
  (∃ (s : State) (die : List Int),
    (s.rst.asserted.contains .thermal = true ∨ hottest die < 2480 ∧ hottest die ≤ s.th.dieLimit)) :=
  ⟨⟨wLine, by decide +kernel⟩,
   ⟨({ wLine with rst := { wLine.rst with driveEnd := some 700 } }), by decide +kernel⟩,
   ⟨wLine, by decide +kernel⟩,
   ⟨({ wBase with rst := Rst.reset }), by decide +kernel⟩,
   ⟨({ wLine with rst := { wLine.rst with selfAt := some 700 } }), 700, by decide +kernel⟩,
   ⟨wBase, by decide +kernel⟩,
   ⟨wLine, [2480], by decide +kernel⟩,
   ⟨wLine, [2320], by decide +kernel⟩⟩

theorem witness_ReleaseAndBoot :
  (∃ (s : State) (src : ResetSource),
    s.rst.asserted.contains src = false) ∧
  (∃ (s : State) (src : ResetSource),
    s.rst.seq = .held ∧ s.rst.asserted = [src] ∧ (src = .corePor ∨ src = .pinExt)) ∧
  (∃ (s : State),
    s.rst.driveEnd ≠ none ∧ (s.rst.asserted = [.watchdog] ∨ s.rst.asserted = [.selfReset]) ∧ s.rst.seq = .held) ∧
  (∃ (s : State),
    s.rst.driveEnd = none) ∧
  (∃ (s : State),
    s.rst.seq = .stretch ∧ s.rst.loadDone = false) ∧
  (∃ (s : State),
    (s.rst.seq ≠ .stretch ∨ s.rst.loadDone = true)) ∧
  (∃ (s : State),
    s.rst.seq = .stretch ∧ s.rst.loadDone = true) ∧
  (∃ (s : State),
    (s.rst.seq ≠ .stretch ∨ s.rst.loadDone = false)) ∧
  (∃ (s : State),
    s.rst.seq = .boot ∧ s.clkFromSpine = true ∧ s.isRoot = false ∧ s.rst.spnuLocked = false) ∧
  (∃ (s : State),
    (s.rst.seq ≠ .boot ∨ s.clkFromSpine = false ∨ s.isRoot = true ∨ s.rst.spnuLocked = true)) ∧
  (∃ (s : State),
    s.rst.seq = .boot ∧ s.rst.pllLocked = false ∧ (s.rst.spnuLocked = true ∨ s.clkFromSpine = false)) ∧
  (∃ (s : State),
    (s.rst.seq ≠ .boot ∨ s.rst.pllLocked = true ∨ (s.rst.spnuLocked = false ∧ s.clkFromSpine = true))) ∧
  (∃ (s : State),
    s.rst.seq = .boot ∧ s.rst.stage = 3 ∧ s.rst.testEn = false) ∧
  (∃ (s : State),
    (s.rst.seq ≠ .boot ∨ s.rst.stage ≠ 3 ∨ s.rst.testEn = true)) :=
  ⟨⟨wLine, .perst, by decide +kernel⟩,
   ⟨({ State.reset with clk := 50 }), .corePor, by decide +kernel⟩,
   ⟨({ wBase with rst := { Rst.reset with asserted := [.watchdog], driveEnd := some 700 } }), by decide +kernel⟩,
   ⟨wBase, by decide +kernel⟩,
   ⟨wStretch, by decide +kernel⟩,
   ⟨wBase, by decide +kernel⟩,
   ⟨({ wStretch with rst := { wStretch.rst with loadDone := true } }), by decide +kernel⟩,
   ⟨wStretch, by decide +kernel⟩,
   ⟨({ wBase with rst := { Rst.reset with seq := .boot, stage := 1, straps := 8 } }), by decide +kernel⟩,
   ⟨wBase, by decide +kernel⟩,
   ⟨({ wBase with rst := { Rst.reset with seq := .boot, bootAt := 50 } }), by decide +kernel⟩,
   ⟨wBase, by decide +kernel⟩,
   ⟨({ wBase with rst := { Rst.reset with seq := .boot, stage := 3, pllLocked := true } }), by decide +kernel⟩,
   ⟨wBase, by decide +kernel⟩⟩

theorem witness_TemperatureAndSupply :
  (∃ (s : State),
    s.rst.pllLocked = false) ∧
  (∃ (s : State),
    s.rst.pllLocked = true) ∧
  (∃ (s : State) (high : Bool),
    high = s.th.wsVdd) ∧
  (∃ (s : State),
    s.inReset = false ∧ s.writeSafe = true ∧ s.th.wsVdd = true ∧ s.otp.job = none ∧ s.flash.job = none ∧ ((idx 32).all fun p => (s.port p).hm == []) = true) ∧
  (∃ (s : State),
    s.inReset = false ∧ s.th.wsVdd = false ∧ s.th.wsVddio = true ∧ (s.th.vppPresent = false ∨ s.th.wsVpp = true)) ∧
  (∃ (s : State),
    (s.inReset = true ∨ s.th.wsVdd = false ∨ s.th.wsVddio = false ∨ s.th.vppPresent = false)) ∧
  (∃ (s : State),
    (s.inReset = true ∨ s.th.wsVdd = false ∨ s.th.wsVddio = false ∨ s.th.wsVpp = true)) :=
  ⟨⟨({ wBase with rst := Rst.reset }), by decide +kernel⟩,
   ⟨wBase, by decide +kernel⟩,
   ⟨wBase, true, by decide +kernel⟩,
   ⟨wBase, by decide +kernel⟩,
   ⟨({ wBase with th := { wBase.th with wsVdd := false } }), by decide +kernel⟩,
   ⟨wBase, by decide +kernel⟩,
   ⟨({ wBase with th := { wBase.th with wsVpp := true } }), by decide +kernel⟩⟩

theorem witness_SpineLinksTrain :
  (∃ (s : State) (sp : SpPort),
    let y := s.yobor sp
    (s.islands = false ∨ y.locked = true)) ∧
  (∃ (s : State) (sp : SpPort),
    let y := s.yobor sp
    s.islands = true ∧ y.locked = false ∧ (sp ≠ .u ∨ s.isRoot = false)) ∧
  (∃ (s : State) (sp : SpPort),
    let y := s.yobor sp
    s.islands = true ∧ y.locked = false ∧ s.isRoot = true ∧ sp = .u) ∧
  (∃ (s : State) (sp : SpPort),
    let y := s.yobor sp
    y.locked = false) ∧
  (∃ (s : State) (sp : SpPort),
    let y := s.yobor sp
    y.locked = true ∧ y.link ≠ .up) ∧
  (∃ (s : State) (sp : SpPort),
    let y := s.yobor sp
    y.locked = true ∧ y.link = .up ∧ sp ≠ .u ∧ s.enumOn sp = none) ∧
  (∃ (s : State) (sp : SpPort),
    let y := s.yobor sp
    y.link ≠ .up) ∧
  (∃ (s : State) (sp : SpPort),
    let y := s.yobor sp
    y.link = .up ∧ s.enumOn sp = none) ∧
  (∃ (s : State) (sp : SpPort),
    let y := s.yobor sp
    y.link = .down) ∧
  (∃ (s : State) (sp : SpPort),
    let y := s.yobor sp
    y.link ≠ .down) ∧
  (∃ (s : State) (sp : SpPort),
    let y := s.yobor sp
    y.locked = false) ∧
  (∃ (s : State) (sp : SpPort) (cell : Cell),
    let y := s.yobor sp
    y.locked = true ∧ cellGood cell = false) ∧
  (∃ (s : State) (sp : SpPort) (cell : Cell) (blocks : Nat),
    let y := s.yobor sp
    y.locked = true ∧ y.link = .training ∧ blocks < 1024 ∧ cellGood cell = true ∧ cellAt cell 0 1 = 165 ∧ spoken cell = true ∧ cellAt cell 8 1 = 0) ∧
  (∃ (s : State) (sp : SpPort) (cell : Cell) (blocks : Nat),
    let y := s.yobor sp
    y.locked = true ∧ y.link = .training ∧ 1024 ≤ blocks ∧ cellGood cell = true ∧ cellAt cell 0 1 = 165 ∧ spoken cell = true ∧ cellAt cell 8 1 = 0 ∧ rolesFit sp cell = true) ∧
  (∃ (s : State) (sp : SpPort) (cell : Cell) (blocks : Nat),
    let y := s.yobor sp
    y.locked = true ∧ y.link = .training ∧ 1024 ≤ blocks ∧ cellGood cell = true ∧ cellAt cell 0 1 = 165 ∧ spoken cell = true ∧ cellAt cell 8 1 = 0 ∧ rolesFit sp cell = false) ∧
  (∃ (s : State) (sp : SpPort),
    let y := s.yobor sp
    y.locked = false) ∧
  (∃ (s : State) (sp : SpPort),
    let y := s.yobor sp
    y.locked = true) ∧
  (∃ (s : State) (sp : SpPort),
    let y := s.yobor sp
    y.link = .up) ∧
  (∃ (s : State) (sp : SpPort),
    let y := s.yobor sp
    y.link ≠ .up) :=
  ⟨⟨wSpine .member, .b, by decide +kernel⟩,
   ⟨wBase, .a, by decide +kernel⟩,
   ⟨wRoot, .u, by decide +kernel⟩,
   ⟨wBase, .a, by decide +kernel⟩,
   ⟨wSpine .member, .b, by decide +kernel⟩,
   ⟨wSpine .member, .a, by decide +kernel⟩,
   ⟨wSpine .member, .b, by decide +kernel⟩,
   ⟨wSpine .member, .a, by decide +kernel⟩,
   ⟨wBase, .a, by decide +kernel⟩,
   ⟨wSpine .member, .b, by decide +kernel⟩,
   ⟨wBase, .a, by decide +kernel⟩,
   ⟨wSpine .member, .b, 5, by decide +kernel⟩,
   ⟨wSpine .member, .b, wCell 5 4 0xFFF [0, 0], 1023, by decide +kernel⟩,
   ⟨wSpine .member, .b, wCell 5 4 0xFFF [0, 0], 1024, by decide +kernel⟩,
   ⟨wSpine .member, .b, wCell 5 4 0xFFF [0, 1], 1024, by decide +kernel⟩,
   ⟨wBase, .a, by decide +kernel⟩,
   ⟨wSpine .member, .b, by decide +kernel⟩,
   ⟨wSpine .member, .a, by decide +kernel⟩,
   ⟨wSpine .member, .b, by decide +kernel⟩⟩

theorem witness_SpineTimeIsKept :
  (∃ (s : State),
    (s.islands = false ∨ s.syncs = false)) ∧
  (∃ (s : State),
    s.islands = true ∧ s.syncs = true) ∧
  (∃ (s : State) (sp : SpPort),
    (sp ≠ .u ∨ s.sp.st = .alone ∨ s.isRoot = true ∨ s.sp.u.link ≠ .up)) ∧
  (∃ (s : State) (cell : Cell),
    (s.sp.st = .member ∨ s.sp.st = .synced ∨ s.sp.st = .lost) ∧ s.isRoot = false ∧ s.sp.u.link = .up ∧ cellGood cell = true ∧ cellAt cell 0 1 = 161 ∧ spoken cell = true ∧ cellAt cell 8 1 = 0 ∧ cellAt cell 9 1 ≠ s.sp.epoch ∧ cellAt cell 9 1 ≠ epochBefore s.sp.epoch) ∧
  (∃ (s : State) (cell : Cell),
    s.sp.st = .lost ∧ s.isRoot = false ∧ s.sp.u.link = .up ∧ cellGood cell = true ∧ cellAt cell 0 1 = 161 ∧ spoken cell = true ∧ cellAt cell 8 1 = 0 ∧ cellAt cell 9 1 = s.sp.epoch) ∧
  (∃ (s : State) (cell : Cell),
    s.sp.st = .member ∧ s.isRoot = false ∧ s.sp.u.link = .up ∧ cellGood cell = true ∧ cellAt cell 0 1 = 161 ∧ spoken cell = true ∧ cellAt cell 8 1 = 0 ∧ cellAt cell 9 1 = s.sp.epoch) ∧
  (∃ (s : State) (cell : Cell),
    let ofs := fun (cell : Cell) => ((cellAt cell 12 8 * 1000 + cellAt cell 20 2 * 1000 / 65536 + s.sp.u.delayPs : Nat) : Int) - (s.tb * 250 : Nat)
    s.sp.st = .synced ∧ s.isRoot = false ∧ s.sp.u.link = .up ∧ cellGood cell = true ∧ cellAt cell 0 1 = 161 ∧ spoken cell = true ∧ cellAt cell 8 1 = 0 ∧ cellAt cell 9 1 = s.sp.epoch ∧ s.spr.firstSync = false ∧ ((ofs cell).natAbs ≤ 1000000 ∨ s.remoteBusy = true)) ∧
  (∃ (s : State),
    (s.isRoot = true ∨ (s.sp.st ≠ .member ∧ s.sp.st ≠ .synced))) ∧
  (∃ (s : State),
    s.isRoot = false ∧ (s.sp.st = .member ∨ s.sp.st = .synced)) ∧
  (∃ (s : State),
    s.sp.u.link = .down) ∧
  (∃ (s : State),
    s.sp.u.link ≠ .down) ∧
  (∃ (s : State) (sp : SpPort),
    (s.yobor sp).link = .down) ∧
  (∃ (s : State) (sp : SpPort) (cell : Cell),
    (s.yobor sp).link ≠ .down ∧ cellGood cell = true ∧ cellAt cell 0 1 = 161 ∧ spoken cell = true ∧ cellAt cell 8 1 = 1) ∧
  (∃ (s : State) (sp : SpPort),
    (sp ≠ .u ∨ s.sp.u.link = .down)) ∧
  (∃ (s : State) (cell : Cell),
    s.sp.u.link ≠ .down ∧ cellGood cell = true ∧ cellAt cell 0 1 = 161 ∧ spoken cell = true ∧ cellAt cell 8 1 = 2 ∧ cellAt cell 9 1 = s.sp.u.tseq) :=
  ⟨⟨wBase, by decide +kernel⟩,
   ⟨wSpine .member, by decide +kernel⟩,
   ⟨wSpine .member, .a, by decide +kernel⟩,
   ⟨wSpine .synced, wCell 1 1 0xFFF [0, 3], by decide +kernel⟩,
   ⟨({ wSpine .lost with tb := 4000 }), wCell 1 1 0xFFF ([0, 9, 3, 0] ++ le 8 1000), by decide +kernel⟩,
   ⟨({ wSpine .member with tb := 4000, spr := { (wSpine .member).spr with syncRun := 7 } }), wCell 1 1 0xFFF ([0, 9, 3, 0] ++ le 8 1001), by decide +kernel⟩,
   ⟨({ wSpine .synced with tb := 4000, clk := 50000, spr := { (wSpine .synced).spr with firstSync := false } }), wCell 1 1 0xFFF ([0, 9, 3, 0] ++ le 8 1500), by decide +kernel⟩,
   ⟨wBase, by decide +kernel⟩,
   ⟨wSpine .synced, by decide +kernel⟩,
   ⟨wBase, by decide +kernel⟩,
   ⟨({ wSpine .member with sp := { (wSpine .member).sp with u := { (wSpine .member).sp.u with reqAt := some 90, reqs := 8, tseq := 255 } } }), by decide +kernel⟩,
   ⟨wBase, .a, by decide +kernel⟩,
   ⟨wSpine .member, .a, wCell 1 4 0xFFF [1, 7], by decide +kernel⟩,
   ⟨wSpine .member, .a, by decide +kernel⟩,
   ⟨wSpine .member, wCell 1 1 0xFFF ([2, 0, 0, 0] ++ le 4 100), by decide +kernel⟩⟩

theorem witness_SpineCellsAreTaken :
  (∃ (s : State) (n : Fin 4),
    (s.sp.nodeId = 0 ∨ s.sp.posOut.getLsbD n.1 = false)) ∧
  (∃ (s : State) (n : Fin 4),
    s.sp.nodeId ≠ 0 ∧ s.sp.posOut.getLsbD n.1 = true) ∧
  (∃ (s : State) (sp : SpPort),
    (s.yobor sp).link ≠ .up) ∧
  (∃ (s : State) (sp : SpPort) (cell : Cell),
    (s.yobor sp).link = .up ∧ (cellGood cell = false ∨ s.sp.st = .alone)) ∧
  (∃ (s : State) (sp : SpPort) (cell : Cell),
    (s.yobor sp).link = .up ∧ s.sp.st ≠ .alone ∧ cellGood cell = true ∧ cellAt cell 0 1 = 162 ∧ spoken cell = true) ∧
  (∃ (s : State),
    (s.sp.nodeId = 0 ∨ s.isRoot = true ∨ s.sp.u.link ≠ .up)) ∧
  (∃ (s : State),
    s.sp.nodeId ≠ 0 ∧ s.isRoot = false ∧ s.sp.u.link = .up) ∧
  (∃ (s : State) (sp : SpPort),
    (sp = .u ∨ (s.yobor sp).lo = 0)) ∧
  (∃ (s : State) (sp : SpPort) (cell : Cell),
    sp ≠ .u ∧ (s.yobor sp).lo ≠ 0 ∧ (s.yobor sp).link = .up ∧ cellGood cell = true ∧ cellAt cell 0 1 = 163 ∧ spoken cell = true) ∧
  (∃ (s : State) (sp : SpPort),
    (sp = .u ∨ (s.yobor sp).lo = 0 ∨ (s.yobor sp).childLost = true)) ∧
  (∃ (s : State) (sp : SpPort),
    sp ≠ .u ∧ (s.yobor sp).lo ≠ 0 ∧ (s.yobor sp).childLost = false) ∧
  (∃ (s : State) (sp : SpPort),
    (s.yobor sp).link ≠ .up) ∧
  (∃ (s : State) (sp : SpPort) (cell : Cell),
    let taken := fun (sp : SpPort) (cell : Cell) => (s.yobor sp).link == .up && s.sp.st != .alone && cellGood cell && cellAt cell 0 1 == 160 && (cellDst cell == 4095 || (cellDst cell == s.sp.nodeId && s.sp.nodeId != 0))
    taken sp cell = true ∧ spoken cell = true ∧ cellAt cell 8 1 = 1) ∧
  (∃ (s : State) (sp : SpPort) (cell : Cell),
    let taken := fun (sp : SpPort) (cell : Cell) => (s.yobor sp).link == .up && s.sp.st != .alone && cellGood cell && cellAt cell 0 1 == 160 && (cellDst cell == 4095 || (cellDst cell == s.sp.nodeId && s.sp.nodeId != 0))
    taken sp cell = true ∧ s.isRoot = true ∧ cellSpv cell = 3 ∧ cellAt cell 8 1 = 2) ∧
  (∃ (s : State) (sp : SpPort) (cell : Cell),
    let taken := fun (sp : SpPort) (cell : Cell) => (s.yobor sp).link == .up && s.sp.st != .alone && cellGood cell && cellAt cell 0 1 == 160 && (cellDst cell == 4095 || (cellDst cell == s.sp.nodeId && s.sp.nodeId != 0))
    taken sp cell = true ∧ s.isRoot = true ∧ cellSpv cell = 3 ∧ cellAt cell 8 1 = 3) :=
  ⟨⟨wSpine .member, 1, by decide +kernel⟩,
   ⟨({ wSpine .member with sp := { (wSpine .member).sp with posOut := 2 } }), 1, by decide +kernel⟩,
   ⟨wSpine .member, .b, by decide +kernel⟩,
   ⟨wSpine .member, .u, 5, by decide +kernel⟩,
   ⟨wRemoteMember, .u, wCell 2 3 0xFFF ([0x21, 0] ++ le 6 0x500), by decide +kernel⟩,
   ⟨wBase, by decide +kernel⟩,
   ⟨wSpine .member, by decide +kernel⟩,
   ⟨wSpine .member, .b, by decide +kernel⟩,
   ⟨wSpine .member, .a, wCell 3 4 0xFFF ([1, 2, 3, 0, 1, 0, 4, 0]), by decide +kernel⟩,
   ⟨wSpine .member, .u, by decide +kernel⟩,
   ⟨wSpine .member, .a, by decide +kernel⟩,
   ⟨wSpine .member, .b, by decide +kernel⟩,
   ⟨wStopped, .u, wCell 0 1 0xFFF [1, 2, 4], by decide +kernel⟩,
   ⟨wTree, .a, wCell 0 5 0xFFF [2], by decide +kernel⟩,
   ⟨wTree, .a, wCell 0 5 0xFFF [3], by decide +kernel⟩⟩

theorem witness_TunnelMessagesArrive :
  (∃ (s : State) (sp : SpPort),
    (s.yobor sp).link ≠ .up) ∧
  (∃ (s : State) (sp : SpPort) (cell : Cell),
    let kind := cellAt cell 8 1
    let seg := cellAt cell 9 1
    let here := (s.yobor sp).link == .up && cellGood cell && cellAt cell 0 1 == 164 && spoken cell && s.sp.st != .alone && cellDst cell != 4095 && cellDst cell == s.sp.nodeId
    here = true ∧ kind = 0 ∧ seg = 0) ∧
  (∃ (s : State) (sp : SpPort) (cell : Cell),
    let kind := cellAt cell 8 1
    let seg := cellAt cell 9 1
    let here := (s.yobor sp).link == .up && cellGood cell && cellAt cell 0 1 == 164 && spoken cell && s.sp.st != .alone && cellDst cell != 4095 && cellDst cell == s.sp.nodeId
    let part := s.spr.parts.find? (isPart cell kind)
    here = true ∧ kind = 0 ∧ seg ≠ 0 ∧ part.all (fun m => m.nextSeg != seg) = true) ∧
  (∃ (s : State) (sp : SpPort) (cell : Cell),
    let kind := cellAt cell 8 1
    let seg := cellAt cell 9 1
    let here := (s.yobor sp).link == .up && cellGood cell && cellAt cell 0 1 == 164 && spoken cell && s.sp.st != .alone && cellDst cell != 4095 && cellDst cell == s.sp.nodeId
    let part := s.spr.parts.find? (isPart cell kind)
    here = true ∧ kind = 0 ∧ seg = 3 ∧ part.any (fun m => m.nextSeg == 3) = true ∧ s.cores = true) ∧
  (∃ (s : State) (sp : SpPort) (cell : Cell),
    let kind := cellAt cell 8 1
    let tt := cellAt cell 10 2
    let here := (s.yobor sp).link == .up && cellGood cell && cellAt cell 0 1 == 164 && spoken cell && s.sp.st != .alone && cellDst cell != 4095 && cellDst cell == s.sp.nodeId
    here = true ∧ kind = 1 ∧ s.spr.tunnel.find? (fun x => x.ttag == tt && x.node == cellSrc cell) = none) ∧
  (∃ (s : State) (sp : SpPort) (cell : Cell) (x : Tunnelled),
    let kind := cellAt cell 8 1
    let tt := cellAt cell 10 2
    let here := (s.yobor sp).link == .up && cellGood cell && cellAt cell 0 1 == 164 && spoken cell && s.sp.st != .alone && cellDst cell != 4095 && cellDst cell == s.sp.nodeId
    here = true ∧ kind = 1 ∧ s.spr.tunnel.find? (fun x => x.ttag == tt && x.node == cellSrc cell) = some x ∧ s.spr.heldBack.find? (fun w => w.target == x.node) = none) ∧
  (∃ (s : State) (sp : SpPort) (cell : Cell),
    let kind := cellAt cell 8 1
    let seg := cellAt cell 9 1
    let here := (s.yobor sp).link == .up && cellGood cell && cellAt cell 0 1 == 164 && spoken cell && s.sp.st != .alone && cellDst cell != 4095 && cellDst cell == s.sp.nodeId
    here = true ∧ kind = 2 ∧ seg = 0) ∧
  (∃ (s : State) (sp : SpPort) (cell : Cell),
    let kind := cellAt cell 8 1
    let seg := cellAt cell 9 1
    let here := (s.yobor sp).link == .up && cellGood cell && cellAt cell 0 1 == 164 && spoken cell && s.sp.st != .alone && cellDst cell != 4095 && cellDst cell == s.sp.nodeId
    let part := s.spr.parts.find? (isPart cell kind)
    here = true ∧ kind = 2 ∧ seg = 1 ∧ part.any (fun m => m.nextSeg == 1) = true) ∧
  (∃ (s : State) (sp : SpPort) (cell : Cell),
    let kind := cellAt cell 8 1
    let tt := cellAt cell 10 2
    let here := (s.yobor sp).link == .up && cellGood cell && cellAt cell 0 1 == 164 && spoken cell && s.sp.st != .alone && cellDst cell != 4095 && cellDst cell == s.sp.nodeId
    here = true ∧ kind = 3 ∧ cellSpv cell = 3 ∧ tunnelHost s (cellSrc cell) tt = some true) ∧
  (∃ (s : State) (sp : SpPort) (cell : Cell),
    let kind := cellAt cell 8 1
    let tt := cellAt cell 10 2
    let here := (s.yobor sp).link == .up && cellGood cell && cellAt cell 0 1 == 164 && spoken cell && s.sp.st != .alone && cellDst cell != 4095 && cellDst cell == s.sp.nodeId
    here = true ∧ kind = 3 ∧ cellSpv cell = 3 ∧ tunnelHost s (cellSrc cell) tt = none) ∧
  (∃ (s : State) (sp : SpPort) (cell : Cell),
    let kind := cellAt cell 8 1
    let tt := cellAt cell 10 2
    let here := (s.yobor sp).link == .up && cellGood cell && cellAt cell 0 1 == 164 && spoken cell && s.sp.st != .alone && cellDst cell != 4095 && cellDst cell == s.sp.nodeId
    here = true ∧ kind = 5 ∧ cellSpv cell = 3 ∧ (tunnelHost s (cellSrc cell) tt).isSome = true) ∧
  (∃ (s : State) (sp : SpPort) (cell : Cell),
    let kind := cellAt cell 8 1
    let here := (s.yobor sp).link == .up && cellGood cell && cellAt cell 0 1 == 164 && spoken cell && s.sp.st != .alone && cellDst cell != 4095 && cellDst cell == s.sp.nodeId
    here = true ∧ kind = 6 ∧ cellSpv cell = 3 ∧ s.spr.parts.find? (isPart cell 5) = none) ∧
  (∃ (s : State) (sp : SpPort) (cell : Cell) (m : MgtPart),
    let kind := cellAt cell 8 1
    let seg := cellAt cell 9 1
    let here := (s.yobor sp).link == .up && cellGood cell && cellAt cell 0 1 == 164 && spoken cell && s.sp.st != .alone && cellDst cell != 4095 && cellDst cell == s.sp.nodeId
    here = true ∧ kind = 6 ∧ cellSpv cell = 3 ∧ s.spr.parts.find? (isPart cell 5) = some m ∧ m.nextSeg = seg ∧ m.len ≤ m.data.length + 16 ∧ tunnelHost s m.src m.ttag = some true) ∧
  (∃ (s : State) (sp : SpPort) (cell : Cell),
    let kind := cellAt cell 8 1
    let here := (s.yobor sp).link == .up && cellGood cell && cellAt cell 0 1 == 164 && spoken cell && s.sp.st != .alone && cellDst cell != 4095 && cellDst cell == s.sp.nodeId
    here = true ∧ (kind = 4 ∨ kind = 7) ∧ tunnelTransfer s cell = none) ∧
  (∃ (s : State) (sp : SpPort) (cell : Cell) (e : Exec),
    let kind := cellAt cell 8 1
    let seg := cellAt cell 9 1
    let here := (s.yobor sp).link == .up && cellGood cell && cellAt cell 0 1 == 164 && spoken cell && s.sp.st != .alone && cellDst cell != 4095 && cellDst cell == s.sp.nodeId
    here = true ∧ kind = 4 ∧ cellSpv cell = 3 ∧ tunnelTransfer s cell = some e ∧ e.data.length + 16 < e.need ∧ seg = e.data.length % 4096 / 16) ∧
  (∃ (s : State) (sp : SpPort) (cell : Cell) (e : Exec),
    let kind := cellAt cell 8 1
    let here := (s.yobor sp).link == .up && cellGood cell && cellAt cell 0 1 == 164 && spoken cell && s.sp.st != .alone && cellDst cell != 4095 && cellDst cell == s.sp.nodeId
    here = true ∧ kind = 7 ∧ cellSpv cell = 3 ∧ tunnelTransfer s cell = some e ∧ rdAt (segBytes cell) 0 2 = 0 ∧ e.need = 0 ∧ 2 ≤ e.acks) ∧
  (∃ (s : State) (sp : SpPort) (cell : Cell) (e : Exec),
    let kind := cellAt cell 8 1
    let here := (s.yobor sp).link == .up && cellGood cell && cellAt cell 0 1 == 164 && spoken cell && s.sp.st != .alone && cellDst cell != 4095 && cellDst cell == s.sp.nodeId
    here = true ∧ kind = 7 ∧ cellSpv cell = 3 ∧ tunnelTransfer s cell = some e ∧ rdAt (segBytes cell) 0 2 = 0 ∧ e.need = 0 ∧ e.acks ≤ 1) ∧
  (∃ (s : State) (ttag : BitVec 16),
    s.spr.tunnel.find? (fun x => x.ttag == ttag.toNat) = none) ∧
  (∃ (s : State) (ttag : BitVec 16) (x : Tunnelled),
    s.spr.tunnel.find? (fun x => x.ttag == ttag.toNat) = some x ∧ s.spr.heldBack.find? (fun w => w.target == x.node) = none ∧ x.h.src ≠ .lost) :=
  ⟨⟨wSpine .member, .b, by decide +kernel⟩,
   ⟨wSpine .member, .a, wMgt 0 0 [0, 0, 0, 1], by decide +kernel⟩,
   ⟨wParted 0 1 (le 16 1), .a, wMgt 0 2 [], by decide +kernel⟩,
   ⟨wParted 0 3 (le 48 1), .a, wMgt 0 3 [], by decide +kernel⟩,
   ⟨wSpine .member, .a, wMgt 1 0 (le 16 0), by decide +kernel⟩,
   ⟨wTunnel, .a, wMgt 1 0 (le 16 0), wSent, by decide +kernel⟩,
   ⟨wTunnel, .a, wMgt 2 0 [0x01, 0x02], by decide +kernel⟩,
   ⟨wParted 2 1 (le 16 0x1001), .a, wMgt 2 1 [], by decide +kernel⟩,
   ⟨wTunnel, .a, wMgt 3 0 (le 8 0x2000 ++ le 4 64), by decide +kernel⟩,
   ⟨wSpine .member, .a, wMgt 3 0 (le 8 0x2000 ++ le 4 64), by decide +kernel⟩,
   ⟨wTunnel, .a, wMgt 5 0 (le 8 0x2000 ++ le 4 16), by decide +kernel⟩,
   ⟨wTunnel, .a, wMgt 6 0 (le 16 7), by decide +kernel⟩,
   ⟨wParted 5 0 [], .a, wMgt 6 0 (le 16 7), wPart 5 0 [], by decide +kernel⟩,
   ⟨wTunnel, .a, wMgt 4 0 (le 16 7), by decide +kernel⟩,
   ⟨wTunnelRun, .a, wMgt 4 0 (le 16 7), wTunnelExec, by decide +kernel⟩,
   ⟨(wTunnelRun.modExec 7 fun x => { x with need := 0, acks := 3 }), .a, wMgt 7 0 (le 2 0), { wTunnelExec with need := 0, acks := 3 }, by decide +kernel⟩,
   ⟨(wTunnelRun.modExec 7 fun x => { x with need := 0, acks := 1 }), .a, wMgt 7 0 (le 2 0), { wTunnelExec with need := 0, acks := 1 }, by decide +kernel⟩,
   ⟨wTunnel, 6, by decide +kernel⟩,
   ⟨wTunnel, 5, wSent, by decide +kernel⟩⟩

theorem witness_NodesAreEnumerated :
  (∃ (s : State) (sp : SpPort),
    (sp ≠ .u ∨ (s.yobor sp).link ≠ .up)) ∧
  (∃ (s : State) (sp : SpPort) (cell : Cell),
    let cmd := cellAt cell 8 1
    let ok := (s.yobor sp).link == .up && cellGood cell && cellAt cell 0 1 == 165 && spoken cell
    ok = true ∧ sp = .u ∧ cmd = 1) ∧
  (∃ (s : State),
    (s.isRoot = true ∨ s.sp.st = .joining)) ∧
  (∃ (s : State) (sp : SpPort) (cell : Cell),
    let cmd := cellAt cell 8 1
    let ok := (s.yobor sp).link == .up && cellGood cell && cellAt cell 0 1 == 165 && spoken cell
    ok = true ∧ sp = .u ∧ s.isRoot = false ∧ s.sp.st ≠ .joining ∧ cmd = 3 ∧ s.sp.a.link = .up) ∧
  (∃ (s : State) (sp : SpPort) (cell : Cell),
    let ok := (s.yobor sp).link == .up && cellGood cell && cellAt cell 0 1 == 165 && spoken cell
    s.enumOn sp = none ∧ ok = true) ∧
  (∃ (s : State) (sp : SpPort) (cell : Cell) (e : Enum),
    let cmd := cellAt cell 8 1
    let ok := (s.yobor sp).link == .up && cellGood cell && cellAt cell 0 1 == 165 && spoken cell
    ok = true ∧ s.enumOn sp = some e ∧ e.assigned = none ∧ cmd = 2 ∧ cellAt cell 9 1 = s.sp.epoch ∧ e.next < 0xFFF) ∧
  (∃ (s : State) (sp : SpPort) (cell : Cell) (e : Enum) (id : Nat),
    let cmd := cellAt cell 8 1
    let ok := (s.yobor sp).link == .up && cellGood cell && cellAt cell 0 1 == 165 && spoken cell
    ok = true ∧ s.enumOn sp = some e ∧ sp = .b ∧ e.assigned = some id ∧ cmd = 4 ∧ cellAt cell 9 1 = s.sp.epoch ∧ s.isRoot = false) ∧
  (∃ (s : State) (sp : SpPort) (cell : Cell) (e : Enum) (id : Nat),
    let cmd := cellAt cell 8 1
    let ok := (s.yobor sp).link == .up && cellGood cell && cellAt cell 0 1 == 165 && spoken cell
    ok = true ∧ s.enumOn sp = some e ∧ sp = .a ∧ e.assigned = some id ∧ cmd = 4 ∧ cellAt cell 9 1 = s.sp.epoch ∧ s.sp.b.link = .up) ∧
  (∃ (s : State) (sp : SpPort) (cell : Cell) (e : Enum),
    let cmd := cellAt cell 8 1
    let ok := (s.yobor sp).link == .up && cellGood cell && cellAt cell 0 1 == 165 && spoken cell
    ok = true ∧ s.enumOn sp = some e ∧ sp = .a ∧ e.assigned = none ∧ cmd = 5 ∧ s.sp.b.link = .up) ∧
  (∃ (s : State) (sp : SpPort) (e : Enum),
    s.enumOn sp = some e ∧ e.assigned.isSome = true) ∧
  (∃ (s : State) (sp : SpPort) (e : Enum),
    s.enumOn sp = some e ∧ e.assigned = none ∧ sp = .b ∧ s.isRoot = false) :=
  ⟨⟨wSpine .member, .a, by decide +kernel⟩,
   ⟨wSpine .alone, .u, wCell 5 1 0xFFF ([1, 9, 3, 0] ++ le 2 1 ++ [0, 0] ++ le 4 8000 ++ le 4 64), by decide +kernel⟩,
   ⟨wRoot, by decide +kernel⟩,
   ⟨wSpine .alone, .u, wCell 5 1 0xFFF ([3, 9, 3, 1] ++ le 2 7), by decide +kernel⟩,
   ⟨((wEnumerating none).modYobor .b fun y => { y with link := .up }), .b, wCell 5 1 0xFFF [2, 9], by decide +kernel⟩,
   ⟨wEnumerating none, .a, wCell 5 1 0xFFF [2, 9, 0x32], wEnum none, by decide +kernel⟩,
   ⟨wLastPort (some 7), .b, wCell 5 7 0xFFF ([4, 9, 3, 0] ++ le 2 8 ++ le 2 2 ++ le 4 128), { wEnum (some 7) with sp := .b }, 7, by decide +kernel⟩,
   ⟨((wEnumerating (some 4)).modYobor .b fun y => { y with link := .up }), .a, wCell 5 4 0xFFF ([4, 9, 3, 0] ++ le 2 6 ++ le 2 3 ++ le 4 128), wEnum (some 4), 4, by decide +kernel⟩,
   ⟨((wEnumerating none).modYobor .b fun y => { y with link := .up }), .a, wCell 5 4 0xFFF [5, 9, 1], wEnum none, by decide +kernel⟩,
   ⟨wEnumerating (some 4), .a, wEnum (some 4), by decide +kernel⟩,
   ⟨wLastPort none, .b, { wEnum none with sp := .b }, by decide +kernel⟩⟩

theorem witness_CanFramesAreTaken :
  (∃ (s : State) (c : Fin 2),
    let k := s.can c
    (k.mode = .off ∨ k.isOff = true)) ∧
  (∃ (s : State) (c : Fin 2) (f : CanFrame),
    let k := s.can c
    k.mode = .classic ∧ k.isOff = false ∧ f.fd = true) ∧
  (∃ (s : State) (c : Fin 2) (f : CanFrame),
    let k := s.can c
    let on := k.mode != .off && !k.isOff && !(f.fd && k.mode == .classic)
    on = true ∧ f.rtr = true) ∧
  (∃ (s : State) (c : Fin 2) (f : CanFrame) (i : Fin 16),
    let k := s.can c
    let on := k.mode != .off && !k.isOff && !(f.fd && k.mode == .classic)
    let hit := (idx 16).find? fun i => (look k.filters i).passes f
    on = true ∧ f.rtr = false ∧ s.isPress f = false ∧ hit = some i ∧ k.fifo.length < 64) ∧
  (∃ (s : State) (c : Fin 2) (f : CanFrame),
    let k := s.can c
    let on := k.mode != .off && !k.isOff && !(f.fd && k.mode == .classic)
    let hit := (idx 16).find? fun i => (look k.filters i).passes f
    on = true ∧ f.rtr = false ∧ s.isPress f = false ∧ hit = none) ∧
  (∃ (s : State) (c : Fin 2) (f : CanFrame) (i : Fin 16),
    let k := s.can c
    let on := k.mode != .off && !k.isOff && !(f.fd && k.mode == .classic)
    let hit := (idx 16).find? fun i => (look k.filters i).passes f
    on = true ∧ f.rtr = false ∧ s.isPress f = false ∧ hit = some i ∧ 64 ≤ k.fifo.length) ∧
  (∃ (s : State) (c : Fin 2) (f : CanFrame),
    let k := s.can c
    let on := k.mode != .off && !k.isOff && !(f.fd && k.mode == .classic)
    let copy := (s.can (otherCan c)).seen.any (sameMessage f)
    on = true ∧ f.rtr = false ∧ s.isPress f = true ∧ f.id.toNat / 4096 % 16 = 2 ∧ f.id.toNat % 4096 = s.press.pressStation.toNat ∧ pressFrameBad 2 f = false ∧ copy = false ∧ s.press.timeout = false ∧ bit (rdAt f.data 4 1) 0 = s.press.interlock) ∧
  (∃ (s : State) (c : Fin 2) (f : CanFrame),
    let k := s.can c
    let on := k.mode != .off && !k.isOff && !(f.fd && k.mode == .classic)
    let copy := (s.can (otherCan c)).seen.any (sameMessage f)
    on = true ∧ f.rtr = false ∧ s.isPress f = true ∧ f.id.toNat / 4096 % 16 = 0 ∧ f.id.toNat % 4096 = s.press.pressStation.toNat ∧ pressFrameBad 0 f = false ∧ copy = false ∧ (rdAt f.data 0 1 == 1) = s.press.interlock) ∧
  (∃ (s : State) (c : Fin 2) (f : CanFrame),
    let k := s.can c
    let on := k.mode != .off && !k.isOff && !(f.fd && k.mode == .classic)
    let copy := (s.can (otherCan c)).seen.any (sameMessage f)
    on = true ∧ f.rtr = false ∧ s.isPress f = true ∧ (f.id.toNat / 4096 % 16 = 0 ∨ f.id.toNat / 4096 % 16 = 2) ∧ f.id.toNat % 4096 = s.press.pressStation.toNat ∧ pressFrameBad (f.id.toNat / 4096 % 16) f = false ∧ copy = true) :=
  ⟨⟨wBase, 1, by decide +kernel⟩,
   ⟨wPress, 0, { wCanFrame with fd := true }, by decide +kernel⟩,
   ⟨wPress, 0, { wCanFrame with rtr := true }, by decide +kernel⟩,
   ⟨wPress, 0, wCanFrame, 0, by decide +kernel⟩,
   ⟨wPress, 0, { wCanFrame with ext := true }, by decide +kernel⟩,
   ⟨(wPress.modCan 0 fun x => { x with fifo := List.replicate 64 { f := wCanFrame, filter := 0, tb := 0 } }), 0, wCanFrame, 0, by decide +kernel⟩,
   ⟨wPress, 0, wPressFrame 2 [1, 7, 9, 0, 0, 0, 0, 0], by decide +kernel⟩,
   ⟨wPress, 0, wPressFrame 0 [0, 0, 5, 0, 0, 0, 0, 0], by decide +kernel⟩,
   ⟨(wPress.modCan 1 fun x => { x with seen := [wPressFrame 0 [0, 0, 5, 0, 0, 0, 0, 0]] }), 0, wPressFrame 0 [0, 0, 5, 0, 0, 0, 0, 0], by decide +kernel⟩⟩

theorem witness_PressBusSends :
  (∃ (s : State),
    let sends := s.press.canA.sends || s.press.canB.sends
    (s.sdSender = false ∨ s.press.sdPeriod = 0 ∨ sends = false)) ∧
  (∃ (s : State),
    let sends := s.press.canA.sends || s.press.canB.sends
    s.sdSender = true ∧ s.press.sdPeriod ≠ 0 ∧ sends = true) ∧
  (∃ (s : State),
    let sends := s.press.canA.sends || s.press.canB.sends
    (s.press.station = 0 ∨ sends = false)) ∧
  (∃ (s : State),
    let sends := s.press.canA.sends || s.press.canB.sends
    s.press.station ≠ 0 ∧ sends = true) ∧
  (∃ (s : State),
    let sends := s.press.canA.sends || s.press.canB.sends
    (s.press.station = 0 ∨ s.press.hbPeriod = 0 ∨ sends = false)) ∧
  (∃ (s : State),
    let sends := s.press.canA.sends || s.press.canB.sends
    s.press.station ≠ 0 ∧ s.press.hbPeriod ≠ 0 ∧ sends = true) ∧
  (∃ (s : State) (c : Fin 2),
    ((s.can c).active = false ∨ s.canFront c = none)) ∧
  (∃ (s : State) (c : Fin 2) (typ : Nat) (f : CanFrame),
    (s.can c).active = true ∧ s.canFront c = some (typ, false, f)) ∧
  (∃ (s : State) (c : Fin 2) (id : Nat) (f : CanFrame),
    (s.can c).active = true ∧ s.canFront c = some (id, true, f) ∧ s.execs.find? (fun x => x.id == id) = none) ∧
  (∃ (s : State) (c : Fin 2) (e : Exec) (f : CanFrame),
    (s.can c).active = true ∧ s.canFront c = some (e.id, true, f) ∧ s.execs.find? (fun x => x.id == e.id) = some e) ∧
  (∃ (s : State) (id : Nat),
    s.execs.find? (fun x => x.id == id) = none) ∧
  (∃ (s : State) (id : Nat) (e : Exec),
    s.execs.find? (fun x => x.id == id) = some e ∧ (∀ due, e.wait ≠ .can due)) ∧
  (∃ (s : State) (id : Nat) (e : Exec) (due : Nat),
    s.execs.find? (fun x => x.id == id) = some e ∧ e.wait = .can due) ∧
  (∃ (s : State),
    (s.press.psTimeout = 0 ∨ s.press.timeout = true ∨ s.inReset = true)) ∧
  (∃ (s : State),
    s.press.psTimeout ≠ 0 ∧ s.press.timeout = false ∧ s.inReset = false) ∧
  (∃ (s : State) (c : Fin 2),
    ((s.can c).mode = .off ∨ (s.can c).mode = .listen ∨ (s.can c).isOff = true)) ∧
  (∃ (s : State) (c : Fin 2),
    ((s.can c).mode = .classic ∨ (s.can c).mode = .fd) ∧ (s.can c).isOff = false) ∧
  (∃ (s : State) (c : Fin 2),
    (s.can c).st ≠ .recovering) ∧
  (∃ (s : State) (c : Fin 2),
    (s.can c).st = .recovering ∧ (s.can c).mode ≠ .off) ∧
  (∃ (s : State),
    (s.press.stopLow = true ∨ s.inReset = true)) ∧
  (∃ (s : State),
    s.press.stopLow = false ∧ s.inReset = false) ∧
  (∃ (s : State),
    s.inReset = false) ∧
  (∃ (s : State),
    s.inReset = true) ∧
  (∃ (s : State),
    s.inReset = false) :=
  ⟨⟨wBase, by decide +kernel⟩,
   ⟨wPress, by decide +kernel⟩,
   ⟨wBase, by decide +kernel⟩,
   ⟨wPress, by decide +kernel⟩,
   ⟨wBase, by decide +kernel⟩,
   ⟨wPress, by decide +kernel⟩,
   ⟨wPress, 0, by decide +kernel⟩,
   ⟨wPressWait, 0, 4, wPressWait.pressOut wCan 4 [], by decide +kernel⟩,
   ⟨{ wHostWait with execs := [] }, 0, 7, wCanFrame, by decide +kernel⟩,
   ⟨wHostWait, 0, wSendExec, wCanFrame, by decide +kernel⟩,
   ⟨wHostWait, 8, by decide +kernel⟩,
   ⟨wReadIn, 7, wExec, by decide +kernel, by intro due h; cases h⟩,
   ⟨wHostWait, 7, wSendExec, 900, by decide +kernel⟩,
   ⟨wBase, by decide +kernel⟩,
   ⟨wPress, by decide +kernel⟩,
   ⟨wBase, 0, by decide +kernel⟩,
   ⟨wPress, 0, by decide +kernel⟩,
   ⟨wPress, 0, by decide +kernel⟩,
   ⟨(wPress.modCan 0 fun x => { x with st := .recovering }), 0, by decide +kernel⟩,
   ⟨({ wBase with press := { wBase.press with stopLow := true } }), by decide +kernel⟩,
   ⟨{ wQuire with press := { wQuire.press with stopLow := false } }, by decide +kernel⟩,
   ⟨({ wBase with press := { wBase.press with stopLow := true } }), by decide +kernel⟩,
   ⟨State.reset, by decide +kernel⟩,
   ⟨({ wBase with press := { wBase.press with stopLow := true } }), by decide +kernel⟩⟩

theorem witness_SlowWorkRuns :
  (∃ (s : State),
    s.otp.job = none) ∧
  (∃ (s : State) (j : OtpJob) (tg : OtpTarget),
    s.otp.job = some j ∧ j.targets.head? = some tg ∧ j.pulses < 4) ∧
  (∃ (s : State) (j : OtpJob),
    s.otp.job = some j ∧ 4 ≤ j.pulses) ∧
  (∃ (s : State),
    s.rst.seq ≠ .ready) ∧
  (∃ (s : State),
    s.rst.seq = .ready) ∧
  (∃ (s : State),
    (s.flash.pausedAt.isSome = true ∨ s.flash.job = none)) ∧
  (∃ (s : State) (id : Nat) (n : Nat) (img : Bytes),
    s.flash.pausedAt = none ∧ s.flash.job = some (.stage id n img) ∧ n < 2) ∧
  (∃ (s : State) (ok : Bool) (id : Nat) (n : Nat) (img : Bytes),
    s.flash.pausedAt = none ∧ s.flash.job = some (.stage id n img) ∧ ok = true) ∧
  (∃ (s : State) (id : Nat) (copy : Bool) (clear : Bool) (advance : Bool) (r : BootRec),
    s.flash.pausedAt = none ∧ s.flash.job = some (.record id copy r clear advance)) ∧
  (∃ (s : State),
    (s.flash.job = none ∨ s.flash.pausedAt = none)) ∧
  (∃ (s : State) (id : Nat) (n : Nat) (u : Nat) (img : Bytes),
    s.flash.job = some (.stage id n img) ∧ s.flash.pausedAt = some u ∧ n < 2) ∧
  (∃ (s : State),
    s.commandReady = false) ∧
  (∃ (s : State),
    s.bgRuns = false) ∧
  (∃ (s : State) (p : Fin 32) (c : Chan),
    (s.bgRuns = false ∨ (s.port p).opened = false ∨ quietSpan s (s.port p) c 6400 = false)) ∧
  (∃ (s : State) (p : Fin 32),
    (s.bgRuns = false ∨ (s.port p).opened = false ∨ (s.port p).gen ≠ 3 ∨ senseFree (s.port p) = false)) ∧
  (∃ (s : State) (a : Fin 6),
    s.bgRuns = true ∧ (a ≠ 5 ∨ s.page.st = .ready)) ∧
  (∃ (s : State),
    s.commandReady = true) ∧
  (∃ (s : State) (p : Fin 32) (c : Chan),
    s.bgRuns = true ∧ (s.port p).opened = true ∧ quietSpan s (s.port p) c 6400 = true) ∧
  (∃ (s : State) (p : Fin 32),
    s.bgRuns = true ∧ (s.port p).opened = true ∧ (s.port p).gen = 3 ∧ senseFree (s.port p) = true) ∧
  (∃ (s : State),
    (s.otp.debugLock = true ∨ s.islands = false)) ∧
  (∃ (s : State),
    s.otp.debugLock = false ∧ s.islands = true) :=
  ⟨⟨wBase, by decide +kernel⟩,
   ⟨wOtp 2, wOtpJob 2, ⟨600, 1, 0⟩, by decide +kernel⟩,
   ⟨wOtp 4, wOtpJob 4, by decide +kernel⟩,
   ⟨State.reset, by decide +kernel⟩,
   ⟨wBase, by decide +kernel⟩,
   ⟨wFlash (some 100), by decide +kernel⟩,
   ⟨wFlash none, 7, 1, [1, 2], by decide +kernel⟩,
   ⟨wFlash none, true, 7, 1, [1, 2], by decide +kernel⟩,
   ⟨wWriting, 7, false, true, false, wRecord, by decide +kernel⟩,
   ⟨wBase, by decide +kernel⟩,
   ⟨wFlash (some 100), 7, 1, 100, [1, 2], by decide +kernel⟩,
   ⟨State.reset, by decide +kernel⟩,
   ⟨State.reset, by decide +kernel⟩,
   ⟨State.reset, 4, .a, by decide +kernel⟩,
   ⟨State.reset, 4, by decide +kernel⟩,
   ⟨wBase, 2, by decide +kernel⟩,
   ⟨wBase, by decide +kernel⟩,
   ⟨wQuire, 4, .a, by decide +kernel⟩,
   ⟨wHifC, 4, by decide +kernel⟩,
   ⟨State.reset, by decide +kernel⟩,
   ⟨({ wBase with otp := { wBase.otp with debugLock := false } }), by decide +kernel⟩⟩

theorem witness_MctpMessagesAreAnswered :
  (∃ (s : State) (b : MctpBinding),
    mctpUp s b = false) ∧
  (∃ (s : State) (b : MctpBinding) (op : BitVec 2) (eid : BitVec 8),
    mctpUp s b = true ∧ op.toNat < 2 ∧ eid ≠ 0 ∧ eid ≠ 0xFF) ∧
  (∃ (s : State) (b : MctpBinding) (op : BitVec 2) (eid : BitVec 8),
    mctpUp s b = true ∧ (2 ≤ op.toNat ∨ eid = 0 ∨ eid = 0xFF)) ∧
  (∃ (s : State) (b : MctpBinding),
    mctpUp s b = true) ∧
  (∃ (s : State) (b : MctpBinding),
    mctpUp s b = true ∧ s.cores = true) ∧
  (∃ (s : State) (b : MctpBinding),
    (mctpUp s b = false ∨ s.cores = false)) ∧
  (∃ (s : State) (b : MctpBinding) (ofs : U32) (data : Bytes),
    mctpUp s b = true ∧ 1 ≤ data.length ∧ data.length ≤ 48 ∧ ofs.toNat + data.length ≤ s.window) ∧
  (∃ (s : State) (b : MctpBinding) (ofs : U32) (data : Bytes),
    (mctpUp s b = false ∨ data.length = 0 ∨ 48 < data.length ∨ s.window < ofs.toNat + data.length)) ∧
  (∃ (s : State) (b : MctpBinding) (ofs : U32) (len : BitVec 8),
    mctpUp s b = true ∧ 1 ≤ len.toNat ∧ len.toNat ≤ 48 ∧ ofs.toNat + len.toNat ≤ s.window) ∧
  (∃ (s : State) (b : MctpBinding) (ofs : U32) (len : BitVec 8),
    (mctpUp s b = false ∨ len.toNat = 0 ∨ 48 < len.toNat ∨ s.window < ofs.toNat + len.toNat)) ∧
  (∃ (s : State) (b : MctpBinding),
    mctpUp s b = true ∧ s.rst.seq ≠ .ready) ∧
  (∃ (s : State) (b : MctpBinding) (req : Bytes),
    let on := mctpUp s b && s.rst.seq == .ready
    on = true ∧ 4 ≤ req.length ∧ rdAt req 0 1 = 0x10) ∧
  (∃ (s : State) (b : MctpBinding) (req : Bytes),
    let on := mctpUp s b && s.rst.seq == .ready
    on = true ∧ 4 ≤ req.length ∧ rdAt req 0 1 = 0x12 ∧ s.mgt.spdmVersion = true) ∧
  (∃ (s : State) (b : MctpBinding) (req : Bytes),
    let on := mctpUp s b && s.rst.seq == .ready
    on = true ∧ 32 ≤ req.length ∧ rdAt req 0 1 = 0x12 ∧ s.mgt.spdmCaps = true) ∧
  (∃ (s : State) (b : MctpBinding) (req : Bytes),
    let on := mctpUp s b && s.rst.seq == .ready
    on = true ∧ 4 ≤ req.length ∧ rdAt req 0 1 = 0x12 ∧ s.mgt.spdmAlgs = true) ∧
  (∃ (s : State) (b : MctpBinding) (req : Bytes),
    let on := mctpUp s b && s.rst.seq == .ready
    on = true ∧ 8 ≤ req.length ∧ rdAt req 0 1 = 0x12 ∧ s.mgt.spdmAlgs = true ∧ rdAt req 2 1 = 0 ∧ rdAt req 4 2 < s.certChain.length) ∧
  (∃ (s : State) (b : MctpBinding) (req : Bytes),
    let on := mctpUp s b && s.rst.seq == .ready
    on = true ∧ 36 ≤ req.length ∧ rdAt req 0 1 = 0x12 ∧ s.mgt.spdmAlgs = true ∧ rdAt req 2 1 = 0 ∧ (rdAt req 3 1 = 0 ∨ rdAt req 3 1 = 1 ∨ rdAt req 3 1 = 255) ∧ s.mgt.keyReady = true) ∧
  (∃ (s : State) (b : MctpBinding) (req : Bytes),
    let on := mctpUp s b && s.rst.seq == .ready
    on = true ∧ 4 ≤ req.length ∧ rdAt req 0 1 = 0x12 ∧ s.mgt.spdmAlgs = true ∧ bit (rdAt req 2 1) 0 = false ∧ (rdAt req 3 1 ≤ 8 ∨ rdAt req 3 1 = 255)) ∧
  (∃ (s : State) (b : MctpBinding) (req : Bytes),
    let on := mctpUp s b && s.rst.seq == .ready
    on = true ∧ 37 ≤ req.length ∧ rdAt req 0 1 = 0x12 ∧ s.mgt.spdmAlgs = true ∧ bit (rdAt req 2 1) 0 = true ∧ rdAt req 36 1 = 0 ∧ (rdAt req 3 1 ≤ 8 ∨ rdAt req 3 1 = 255) ∧ s.mgt.keyReady = true) ∧
  (∃ (s : State) (b : MctpBinding),
    let on := mctpUp s b && s.rst.seq == .ready
    on = true) :=
  ⟨⟨State.reset, .smbus, by decide +kernel⟩,
   ⟨wKey, .vdm, 1, 9, by decide +kernel⟩,
   ⟨wKey, .vdm, 1, 0, by decide +kernel⟩,
   ⟨wKey, .vdm, by decide +kernel⟩,
   ⟨wKey, .vdm, by decide +kernel⟩,
   ⟨State.reset, .smbus, by decide +kernel⟩,
   ⟨wKey, .smbus, 16, [1, 2, 3], by decide +kernel⟩,
   ⟨wKey, .smbus, 16, [], by decide +kernel⟩,
   ⟨wKey, .smbus, 16, 4, by decide +kernel⟩,
   ⟨wKey, .smbus, 16, 49, by decide +kernel⟩,
   ⟨wBooting, .smbus, by decide +kernel⟩,
   ⟨wKey, .smbus, [0x10, 0x84, 0, 0], by decide +kernel⟩,
   ⟨wSpdm, .smbus, [0x12, 0xE1, 0, 0], by decide +kernel⟩,
   ⟨wSpdm, .smbus, [0x12, 0xE3] ++ zeros 30, by decide +kernel⟩,
   ⟨wSpdm, .smbus, [0x12, 0x81, 0, 0], by decide +kernel⟩,
   ⟨wSpdm, .smbus, [0x12, 0x82, 0, 0, 0, 0, 0, 0], by decide +kernel⟩,
   ⟨wSpdm, .smbus, [0x12, 0x83] ++ zeros 34, by decide +kernel⟩,
   ⟨wSpdm, .smbus, [0x12, 0xE0, 0, 0xFF], by decide +kernel⟩,
   ⟨wSpdm, .smbus, [0x12, 0xE0, 1, 0xFF] ++ zeros 33, by decide +kernel⟩,
   ⟨wSpdm, .smbus, by decide +kernel⟩⟩

/-! ### Every check of WellFormed refuses an ill-formed term -/

def wGoodRound : HkRound := { th := .replicate 64 100, die := .replicate 8 100, supply := .replicate 20 100, aux := .replicate 8 100 }

theorem test_wf_accepts : (Instr.registerWrite 0x14 0).wf = true ∧ (Instr.hkRoundEnd wGoodRound).wf = true ∧
    (Instr.canFrameRx 0 ⟨{ id := 5, ext := false, fd := false, brs := false, rtr := false, data := [1] }, 0⟩).wf = true ∧
    (Instr.pcieLinkUp 5 8 ⟨512, 512, true, false⟩).wf = true ∧ (Instr.getVersion .smbus [0x10, 0x84, 0, 0]).wf = true := by decide +kernel
theorem test_wf_refuses_registers : (Instr.registerWrite 0x15 0).wf = false ∧ (Instr.barAccessInvalid true 0 ⟨3, 0⟩).wf = false := by decide +kernel
theorem test_wf_refuses_position : (Instr.remoteLost 3).wf = false := by decide +kernel
theorem test_wf_refuses_fire : (Instr.headLatch 4 [7, 7]).wf = false ∧ (Instr.headLatch 4 [128]).wf = false ∧
    (Instr.probeCaptureEnd 4 [2048]).wf = false ∧ (Instr.probeCaptureEnd 4 (.replicate 101 0)).wf = false ∧
    (Instr.arbiterRequest .interlock (.quire 2) (.stop 0)).wf = false := by decide +kernel
theorem test_wf_refuses_training : (Instr.pageTrainingDone true 3199 8).wf = false ∧ (Instr.pageTrainingDone true 8534 8).wf = false ∧
    (Instr.pageTrainingDone true 4000 9).wf = false := by decide +kernel
theorem test_wf_refuses_link : (Instr.pcieLinkUp 6 8 ⟨512, 512, true, false⟩).wf = false ∧
    (Instr.pcieLinkUp 0 8 ⟨512, 512, true, false⟩).wf = false ∧ (Instr.pcieLinkUp 5 3 ⟨512, 512, true, false⟩).wf = false ∧
    (Instr.pcieLinkUp 5 8 ⟨1024, 512, true, false⟩).wf = false ∧ (Instr.pcieLinkUp 5 8 ⟨512, 64, true, false⟩).wf = false := by decide +kernel
theorem test_wf_refuses_head : (Instr.headmemReply 4 [0x9C, 2] [] 0).wf = false ∧ (Instr.headmemReply 4 [0x9C, 2, 0] (.replicate 65 0) 0).wf = false ∧
    (Instr.headI2cTransferDone 4 true (.replicate 65 0)).wf = false := by decide +kernel
theorem test_wf_refuses_round : (Instr.hkRoundEnd { wGoodRound with th := [] }).wf = false ∧ (Instr.hkRoundEnd { wGoodRound with die := [] }).wf = false ∧
    (Instr.hkRoundEnd { wGoodRound with supply := [] }).wf = false ∧ (Instr.hkRoundEnd { wGoodRound with aux := .replicate 8 65521 }).wf = false ∧
    (Instr.hkRoundEnd { wGoodRound with th := .replicate 64 65521 }).wf = false ∧ (Instr.hkRoundEnd { wGoodRound with aux := [] }).wf = false ∧
    (Instr.hkRoundEnd { wGoodRound with die := .replicate 8 32768 }).wf = false ∧
    (Instr.hkRoundEnd { wGoodRound with supply := .replicate 20 65536 }).wf = false := by decide +kernel
theorem test_wf_refuses_supply : (Instr.thermalShutdown []).wf = false ∧ (Instr.thermalShutdown (.replicate 8 40000)).wf = false ∧
    (Instr.writeSafeChange .vpp true 65536).wf = false := by decide +kernel
theorem test_wf_refuses_spine : (Instr.childLost .u).wf = false ∧ (Instr.enuProbeTimeout .u).wf = false := by decide +kernel
theorem test_wf_refuses_can : (Instr.canFrameRx 0 ⟨{ id := 2048, ext := false, fd := false, brs := false, rtr := false, data := [] }, 0⟩).wf = false ∧
    (Instr.canFrameRx 0 ⟨{ id := 5, ext := false, fd := false, brs := true, rtr := false, data := [] }, 0⟩).wf = false ∧
    (Instr.canFrameRx 0 ⟨{ id := 5, ext := false, fd := false, brs := false, rtr := true, data := [1] }, 0⟩).wf = false ∧
    (Instr.canFrameRx 0 ⟨{ id := 5, ext := false, fd := true, brs := false, rtr := false, data := .replicate 13 0 }, 0⟩).wf = false ∧
    (Instr.canFrameRx 0 ⟨{ id := 5, ext := false, fd := false, brs := false, rtr := false, data := .replicate 12 0 }, 0⟩).wf = false ∧
    (Instr.busOffEntry 0 255 0).wf = false ∧ (Instr.busOffEntry 0 256 256).wf = false := by decide +kernel
theorem test_wf_refuses_otp : (Instr.otpMarginRecheck [⟨5, 0, 0⟩, ⟨5, 1, 1⟩]).wf = false := by decide +kernel
theorem test_wf_refuses_scrub : (Instr.scrubStep (.lineWord 4 0 128 0) true).wf = false := by decide +kernel
theorem test_wf_refuses_mctp : (Instr.mctpDataWr .smbus 0 []).wf = false ∧ (Instr.mctpDataWr .smbus 0 (.replicate 49 0)).wf = false ∧
    (Instr.mctpDataRd .smbus 0 0).wf = false ∧ (Instr.mctpDataRd .smbus 0 49).wf = false := by decide +kernel
theorem test_wf_refuses_spdm : (Instr.getVersion .smbus [0x10, 0xE1]).wf = false ∧ (Instr.getCapabilities .smbus [0x10, 0x84]).wf = false ∧
    (Instr.negotiateAlgorithms .smbus []).wf = false ∧ (Instr.getDigests .smbus [0x10]).wf = false ∧
    (Instr.getCertificate .smbus [0x10, 0x81]).wf = false ∧ (Instr.challenge .smbus [0x10, 0x82]).wf = false ∧
    (Instr.getMeasurements .smbus [0x10, 0x83]).wf = false ∧ (Instr.spdmUnsupportedRequest .smbus [0x10, 0x84]).wf = false ∧
    (Instr.spdmUnsupportedRequest .smbus [0x10]).wf = false := by decide +kernel
/-- The bound of a band is the GDMA limit; a list one byte longer is refused. -/
theorem test_wf_refuses_band (data : Bytes) (h : 0x4000000 < data.length) :
    (Instr.bandStaged 4 data).wf = false ∧ (Instr.lineDecode 4 data .clean).wf = false := by
  simp [Instr.wf]; omega

/-! ### The spec's worked examples -/

/-- 00_scope.md, reading the formats: −3.5 counts and −12.5 °C. -/
theorem test_formats : sgn 64 0xFFFFFFFFFFFFFC80 = -896 ∧ sgn 16 0xFF38 = -200 ∧ sgn 16 0x0190 = 400 := by decide +kernel
/-- 04_data_path.md, one SCREEN8 line: the repeat token, then the literal token. -/
theorem test_nrl_tokens : tokens 8 105 [0xE1, 0x00, 0x04, 0x11, 0x2C, 0x47, 0x62, 0x7D] =
    some (List.replicate 100 0x00 ++ [0x11, 0x2C, 0x47, 0x62, 0x7D]) := by decide +kernel
/-- The same example: the header 0x0100_01F4 covers 500 blank lines, 0x0200_0003 three copies of the line above. -/
theorem test_nrl_headers : decodeNext true 4 [0xF4, 0x01, 0x00, 0x01] 64 1000 none = .line [0, 0, 0, 0] 4 499 false ∧
    decodeNext true 4 [0x03, 0x00, 0x00, 0x02] 64 1000 (some [9, 9, 9, 9]) = .line [9, 9, 9, 9] 4 2 true := by decide +kernel
/-- 05_screening.md, one clogged nozzle: nozzles 998 to 1,002, here 0 to 4, with nozzle 2 out. -/
def wComp (mode : Nat) : Comp :=
  { mode := mode, airOut := false, weakOut := false, radius := 2, w1 := 96, w2 := 32, vol := [0, 20, 38, 55, 70, 84, 97, 109] }
def wClog (mode : Nat) (outs : List Bool) (last : Nat) : ScreenCtx :=
  { bank := { wBank with comp := wComp mode, cap := 5, deckLast := last }, nozzles := 5, depth := 3, nominal := 40000, pass := false, swath := 0,
    outs := outs, tile := none, masks := [] }
theorem test_level_redistribution :
    (let r := levelStage (wClog 2 [false, false, true, false, false] 4) [2, 4, 5, 3, 0]
     (outStage (wClog 2 [false, false, true, false, false] 4) r.1, r.2)) = ([5, 5, 0, 5, 0], false) ∧
    (levelStage (wClog 2 [false, false, true, false, false] 4) [5, 5, 5, 5, 4]).2 = true := by decide +kernel
theorem test_contone_redistribution :
    (let x := wClog 1 [false, false, true, false, false] 4
     outStage x (contoneStage x [90, 120, 200, 100, 60])) = [115, 195, 0, 175, 85] ∧
    (let x := wClog 1 [false, false, true, false, false] 3
     (outStage x (contoneStage x [90, 120, 200, 100, 0])).head?) = some 140 := by decide +kernel
/-- 09_thermal_supply.md, a hot head: code 1,598 on the curve of the example is 52.0 °C. -/
theorem test_thermistor : onCurve [(1432, 960), (1640, 800)] 1598 = some 832 := by decide +kernel
/-- 11_press_bus.md, the root reports a data limit: the high time of SPD_DEM for a demand of 40,353. -/
theorem test_spd_dem : spdHighOf 40353 = 123149 := by decide +kernel
/-- 13_commands_events.md R375: JOB_ARM is opcode 0x0402, and 0x0703 is RVS_CONFIG. -/
theorem test_opcodes : Sys2Proof.commandOf 0x0402 wHdr 0 = some (.jobArm wHdr 0) ∧ Sys2Proof.commandOf 0x0703 wHdr 0 = some (.rvsConfig wHdr 0) ∧
    Sys2Proof.commandOf 0x0007 wHdr 0 = none := by decide +kernel
/-- NOP completes with OK in the completion ring: one entry at its tail (13_commands_events.md R383, R363). -/
theorem test_nop_completes : (match exec (.nop wHdr 0) wHead with | .next t => (t.ring 40).tail | _ => 0) = 4 := by decide +kernel
/-- A step with an empty queue on the reset state takes one phase. -/
theorem test_idle : (match step State.reset with | .next t => t.clk | _ => 0) = 1 := by decide +kernel
/-- No row of the table gives bits, so no word spells a command. -/
theorem test_table_words : Sys2Proof.decodeTableWord 8 0x41 = none := rfl

end Sys2Proof.Tests
end

section
/-! PROOFS. The pitch of a binding (02_position.md R68, R78; the order of refusals of 13_commands_events.md R371). -/

namespace Sys2Proof.Machine

/-! ### The list of refusals -/

/-- A refusal that does not hold leaves the status to the ones behind it. -/
theorem firstBad_cons_of_false {b : Bool} (hb : b = false) (st : Nat) (t : List (Bool × Nat)) : firstBad ((b, st) :: t) = firstBad t := by
  simp [firstBad, hb]

/-- A refusal that holds gives the status, whatever stands behind it. -/
theorem firstBad_cons_of_true {b : Bool} (hb : b = true) (st : Nat) (t : List (Bool × Nat)) : firstBad ((b, st) :: t) = st := by
  simp [firstBad, hb]

/-- Two refusals with one status: that is the status as soon as either holds. -/
theorem firstBad_cons_same_status (a : Bool) {b : Bool} (hb : b = true) (st : Nat) (t : List (Bool × Nat)) :
    firstBad ((a, st) :: (b, st) :: t) = st := by
  cases a with
  | true => exact firstBad_cons_of_true rfl st _
  | false => rw [firstBad_cons_of_false rfl, firstBad_cons_of_true hb]

/-- A command of class I that acts at once, when no reserved bit or byte of its entry is set, is refused with the first status of its
rule's list (R371). -/
theorem plainCmd_refuses {op : Nat} {h : CmdHdr} {p : Params} {s : State} {fields : List (Nat × Nat)} {checks : List (Bool × Nat)}
    {act : State → State} {st : Nat} (hs : mayStart s op h p = true) (hf : flagsBad h = false) (hu : undefSet p fields = false)
    (hb : firstBad checks = st + 1) : plainCmd op h p s fields checks act = refuse s h (st + 1) := by
  unfold plainCmd
  refine command_refuses hs ?_
  rw [firstBad_cons_of_false (by rw [hf, hu]; rfl), hb]

/-! ### QUIRE_BIND (R68, R78) -/

/-- The row QUIRE_BIND means the command `quireBind`. -/
theorem exec_quireBind (h : CmdHdr) (p : Params) (s : State) : exec (.quireBind h p) s = .next (quireBind h p s) := rfl

/-- A binding with a pitch below one count is refused with RANGE. Before the pitch come only the encoding of FLAGS, which is good here, and
the number of the quire, whose refusal is RANGE too. -/
theorem quireBind_refuses_small_pitch {h : CmdHdr} {p : Params} {s : State} (hs : mayStart s 0x0304 h p = true) (hf : flagsBad h = false)
    (hu : undefSet p [(8, 1), (9, 1), (10, 1), (12, 4), (16, 4), (24, 8)] = false) (hr : rsv (fld p 9 1) 0x03 = false)
    (hbind : bit (fld p 9 1) 0 = false) (hpitch : fld p 16 4 < 0x10000) : quireBind h p s = refuse s h stRange := by
  unfold quireBind
  refine plainCmd_refuses hs hf hu ?_
  rw [firstBad_cons_of_false (by simp [hr, hbind])]
  exact firstBad_cons_same_status _ (by simp [hbind, hpitch]) stRange _

/-- Settles O14: QUIRE_BIND with a LINE_PITCH below one count completes with RANGE (02_position.md R68). -/
theorem smallPitchIsRefused : Obligations.SmallPitchIsRefused := by
  intro h p s hs hf hu hr hbind hpitch
  rw [exec_quireBind, quireBind_refuses_small_pitch hs hf hu hr hbind hpitch]

end Sys2Proof.Machine
end

section
/-! PROOFS. The entries that the controller writes on a ring (12_host_rings.md R337, R344 to R346, R360): one equation per answer of
`pushEntry`, and what of the rings an interrupt leaves alone. -/

namespace Sys2Proof.Machine

variable {s : State} {r : Fin 64} {e : Bytes} {force : Bool}

/-! ### What an interrupt does to the rings (R339) -/

/-- An MSI-X message changes no ring. -/
@[simp] theorem sendMsix_ring (s : State) (v : Nat) (i : Fin 64) : (sendMsix s v).ring i = s.ring i := by
  obtain h | h := (sendMsix_frame s v).rings
  · cases h
  · simp only [State.ring, h]

/-- The interrupt of a ring changes of all rings only the holdoff of its own: the instant it runs until, and its mark. -/
theorem ringIrq_ring (s : State) (r : Fin 64) (force : Bool) : ∃ (hold : Nat) (mark : Bool), ∀ i,
    (ringIrq s r force).ring i = if r = i then { s.ring i with holdUntil := hold, arrived := mark } else s.ring i := by
  unfold ringIrq; dsimp only; split
  · refine ⟨(s.ring r).holdUntil, (s.ring r).arrived, fun i => ?_⟩
    split
    · next h => subst h; rfl
    · rfl
  · split
    · refine ⟨s.clk + (s.ring r).holdoff.toNat * usPh, false, fun i => ?_⟩
      by_cases h : r = i <;> simp [modRing_ring, h]
    · refine ⟨(s.ring r).holdUntil, true, fun i => ?_⟩
      by_cases h : r = i <;> simp [modRing_ring, h]

/-- The interrupt of a ring takes back nothing that has left the block. -/
theorem mem_ringIrq_out {o : Out} (h : o ∈ s.out) : o ∈ (ringIrq s r force).out :=
  (ringIrq_frame s r force).sent.subset h

/-! ### The answers of `pushEntry` -/

/-- The entry as it leaves the block: the catchword of the ring's pass stands in byte 4 (R346). -/
def Ring.stamped (g : Ring) (e : Bytes) : Bytes := e.take 4 ++ [BitVec.ofNat 8 (catchword g.pass)] ++ e.drop 5

/-- The ring with its tail one slot on; behind the last slot it is 0, and the next pass begins (R345). -/
def Ring.nextSlot (g : Ring) : Ring :=
  { g with tail := if g.tail + 1 = g.size.toNat then 0 else g.tail + 1
           pass := if g.tail + 1 = g.size.toNat then g.pass + 1 else g.pass }

/-- The state after an entry has gone to the slot at the tail, before its interrupt (R346). -/
def appendEntry (s : State) (r : Fin 64) (e : Bytes) : State :=
  (s.emit (.ringWrite r.1 (s.ring r).tail ((s.ring r).base.toNat + entrySize r.1 * (s.ring r).tail) ((s.ring r).stamped e))).modRing r
    fun _ => (s.ring r).nextSlot

/-- Only what a change makes of the ring as it stands matters. -/
theorem modRing_congr {f f' : Ring → Ring} (h : f (s.ring r) = f' (s.ring r)) : s.modRing r f = s.modRing r f' := by
  unfold State.ring look at h
  simp only [State.modRing, upd, h]

/-- A ring in ACTIVE or HALTED is neither ABSENT nor CLOSING. -/
theorem takes_of_active_or_halted {st : RingState} (h : st = .active ∨ st = .halted) : ¬(st = .absent ∨ st = .closing) := by
  rcases h with rfl | rfl <;> decide

/-- An ABSENT or CLOSING ring takes no entry (R360). -/
theorem pushEntry_of_absent_or_closing (h : (s.ring r).st = .absent ∨ (s.ring r).st = .closing) : pushEntry s r e force = s := by
  unfold pushEntry; exact if_pos h

/-- In D3hot the entry waits for D0 (R337). -/
theorem pushEntry_of_d3hot (h : ¬((s.ring r).st = .absent ∨ (s.ring r).st = .closing)) (hd : s.link.d3hot = true) :
    pushEntry s r e force = { s with parked := s.parked ++ [.entry r.1 e force] } := by
  unfold pushEntry; exact (if_neg h).trans (if_pos hd)

/-- A full ring only counts the entry (R344; log entry 74 for a ring that is no event ring). -/
theorem pushEntry_of_full (h : ¬((s.ring r).st = .absent ∨ (s.ring r).st = .closing)) (hd : s.link.d3hot = false)
    (hf : (s.ring r).full = true) : pushEntry s r e force = s.modRing r fun x => { x with dropped := sat32 x.dropped 1 } := by
  simp only [pushEntry, if_neg h, hd, hf]; rfl

/-- A ring with room takes the entry, and its interrupt follows (R346, R339). -/
theorem pushEntry_of_room (h : ¬((s.ring r).st = .absent ∨ (s.ring r).st = .closing)) (hd : s.link.d3hot = false)
    (hf : (s.ring r).full = false) : pushEntry s r e force = ringIrq (appendEntry s r e) r force := by
  simp only [pushEntry, if_neg h, hd, hf]
  exact congrArg (ringIrq · r force) (modRing_congr rfl)

/-! ### The entry that is appended -/

/-- The entry is among what has left the block. -/
theorem mem_appendEntry_out (s : State) (r : Fin 64) (e : Bytes) :
    .ringWrite r.1 (s.ring r).tail ((s.ring r).base.toNat + entrySize r.1 * (s.ring r).tail) ((s.ring r).stamped e) ∈
      (appendEntry s r e).out :=
  List.mem_cons_self

/-- Of the rings, only the one that takes the entry changes, by its tail and pass. -/
theorem appendEntry_ring (s : State) (r : Fin 64) (e : Bytes) (i : Fin 64) :
    (appendEntry s r e).ring i = if r = i then (s.ring r).nextSlot else s.ring i := by
  simp only [appendEntry, modRing_ring, emit_ring]

/-- A ring with room that takes an entry steps to its next slot; of all rings nothing else changes but its holdoff. -/
theorem pushEntry_ring_of_room (h : ¬((s.ring r).st = .absent ∨ (s.ring r).st = .closing)) (hd : s.link.d3hot = false)
    (hf : (s.ring r).full = false) : ∃ (hold : Nat) (mark : Bool), ∀ i, (pushEntry s r e force).ring i =
      if r = i then { (s.ring r).nextSlot with holdUntil := hold, arrived := mark } else s.ring i := by
  obtain ⟨hold, mark, hr⟩ := ringIrq_ring (appendEntry s r e) r force
  refine ⟨hold, mark, fun i => ?_⟩
  rw [pushEntry_of_room h hd hf, hr, appendEntry_ring]
  by_cases hi : r = i <;> simp only [hi, if_true, if_false]

/-! ### Events on a full ring (R344, R379) -/

/-- The ring that a route names exists. -/
theorem routeRing_exists {v : Byte} (h : routeRing s v = some r) : (s.ring r).st ≠ .absent := by
  have hx : (s.ring r).exists_ = true := by
    unfold routeRing at h
    split at h
    · have hp := List.find?_some h
      simp only [Bool.and_eq_true] at hp
      exact hp.2
    · split at h
      · next hv => cases h; exact hv.2.2
      · cases h
  simpa [Ring.exists_] using hx

/-- An event that its route lets through goes to the ring of the route; where that ring is full, outside D3hot, it counts as dropped. -/
theorem writeEvent_of_route {code sev : Nat} {route : Route} (hroute : look s.routes (finOf 8 (by decide) (code / 4096 + 7)) = route)
    (hdis : route.disable.getLsbD (code % 4096 - 1) = false) (hsev : route.minSev ≤ sev) (hring : routeRing s route.ring = some r)
    (hd : s.link.d3hot = false) (hf : (s.ring r).full = true) : writeEvent s code sev e =
      { pushEntry s r e false with
        cnt := { (pushEntry s r e false).cnt with dropped := sat32 (pushEntry s r e false).cnt.dropped 1 } } := by
  simp [writeEvent, hroute, hdis, Nat.not_lt.mpr hsev, hring, hd, hf]

/-- Settles O7: the cases of `pushEntry`, and for an event on a full ring the count of R344. That a full ring of any kind counts in
RING_DROPPED, where the spec speaks of event rings, is the model's choice (log entry 74). -/
theorem ringEntriesAreWritten : Obligations.RingEntriesAreWritten := by
  intro s r e force
  refine ⟨fun hst hd hf => ⟨_, rfl, ?_⟩, fun hst hd hf => ?_, pushEntry_of_absent_or_closing, fun hst hd => ?_, ?_⟩
  · have hst := takes_of_active_or_halted hst
    obtain ⟨hold, mark, hr⟩ := pushEntry_ring_of_room (e := e) (force := force) hst hd hf
    have hself := (hr r).trans (if_pos rfl)
    refine ⟨?_, by rw [hself]; rfl, by rw [hself]; rfl, by rw [hself]; rfl, by rw [hself]; rfl, pushEntry_device s r e force,
      fun m hm => (hr m).trans (if_neg hm.symm)⟩
    rw [pushEntry_of_room hst hd hf]
    exact mem_ringIrq_out (mem_appendEntry_out s r e)
  · exact pushEntry_of_full (takes_of_active_or_halted hst) hd hf
  · exact pushEntry_of_d3hot (takes_of_active_or_halted hst) hd
  · intro code sev route hdis hsev hring hclosing hd hf
    have hst : ¬((s.ring r).st = .absent ∨ (s.ring r).st = .closing) := not_or.mpr ⟨routeRing_exists hring, hclosing⟩
    rw [writeEvent_of_route rfl hdis hsev hring hd hf, pushEntry_of_full hst hd hf]
    rfl

end Sys2Proof.Machine
end

section
/-! PROOFS. The locks of OTP_LOCK (15_otp_trust.md R424, R449): the command and the register write set the same bits. -/

namespace Sys2Proof.Machine

/-! ### The word of OTP_LOCK: program locks in bits 7:0, read locks in bits 15:8 -/

/-- A field of one byte is below 256. -/
theorem fld_one_lt (p : Params) (o : Nat) : fld p o 1 < 256 := Nat.mod_lt _ (by decide)

/-- Bits 7:0 of the word are the program locks named. -/
theorem lockWord_prog (prog rd : Nat) : (BitVec.ofNat 32 (prog + 256 * rd)).extractLsb' 0 8 = BitVec.ofNat 8 prog := by
  apply BitVec.eq_of_toNat_eq
  simp only [BitVec.extractLsb'_toNat, BitVec.toNat_ofNat, Nat.shiftRight_zero]
  omega

/-- Bits 15:8 of the word are the read locks named. -/
theorem lockWord_read {prog : Nat} (hprog : prog < 256) (rd : Nat) :
    (BitVec.ofNat 32 (prog + 256 * rd)).extractLsb' 8 8 = BitVec.ofNat 8 rd := by
  apply BitVec.eq_of_toNat_eq
  simp only [BitVec.extractLsb'_toNat, BitVec.toNat_ofNat, Nat.shiftRight_eq_div_pow]
  omega

/-! ### The two ways to set the locks -/

/-- A write of the register OTP_LOCK sets the locks whose bits its word holds. -/
theorem otpWrite_lockWord {prog : Nat} (hprog : prog < 256) (rd : Nat) (s : State) :
    otpWrite 0x004 (BitVec.ofNat 32 (prog + 256 * rd)) s = lockSet s (BitVec.ofNat 8 prog) (BitVec.ofNat 8 rd) := by
  simp only [otpWrite, if_true, lockWord_prog, lockWord_read hprog]

/-- The row OTP_LOCK means the command `otpLock`. -/
theorem exec_otpLock (h : CmdHdr) (p : Params) (s : State) : exec (.otpLock h p) s = .next (otpLock h p s) := rfl

/-- An OTP_LOCK that starts sets the locks it names and completes with OK; its RESULT is what the locks then are. -/
theorem otpLock_completes {h : CmdHdr} {p : Params} {s : State} (hs : starts s 0x0B05 h p [(8, 1), (9, 1)] = true) :
    let t := lockSet s (BitVec.ofNat 8 (fld p 8 1)) (BitVec.ofNat 8 (fld p 9 1))
    otpLock h p s = complete t h stOk (t.otp.progLock.toNat + 256 * t.otp.readLock.toNat) := by
  unfold otpLock
  exact command_acts hs rfl

/-- Settles O13: the command and the register write both come to `lockSet`, whose locks are those that were set and the ones named. -/
theorem otpLockSetsBits : Obligations.OtpLockSetsBits := by
  intro h p s hs
  refine ⟨?_, otpWrite_lockWord (fld_one_lt p 8) _ s⟩
  rw [exec_otpLock, otpLock_completes hs]
  rfl

end Sys2Proof.Machine
end

section
/-! PROOFS. What every row of the table can touch, and what follows for all of them at once: no meaning stops, time and the queue (O2, O11),
the memories' canonical form over a step (O10), and the frames of the happenings (O59, O60). -/

set_option Elab.async false

namespace Sys2Proof.Machine

/-! ### The parts that a row can touch -/

/-- The parts of the state that a happening can touch; a command entry or a reset can reach any of them. -/
def touches : Instr → List Part
  | .registerWrite .. => [.glb, .link, .rings, .cnt, .execs, .parked, .src, .quires, .reqs, .ports, .th, .sp, .spr, .press, .rst, .otp, .mgt, .bg, .out]
  | .barAccessInvalid .. => [.glb, .link, .cnt, .out]
  | .ringCtrlEnable .. => [.glb, .rings, .ports]
  | .ringCtrlResume .. => [.glb, .rings, .ports]
  | .ringTailDoorbell .. => [.glb, .rings]
  | .ringHeadReturn .. => [.glb, .rings]
  | .ringTailRead .. => [.out]
  | .pwStatusRead .. => [.out]
  | .pwCmpLowWrite .. => [.glb]
  | .pwCmpStartHighWrite .. => [.link, .rings, .cnt, .parked, .quires, .ports, .sp, .spr, .out]
  | .pwCmpStopHighWrite .. => [.glb, .link, .rings, .cnt, .execs, .parked, .quires, .ports, .sp, .spr, .mgt, .bg, .out]
  | .pwLateWinWrite .. => [.quires]
  | .pwFracOfsWrite .. => [.ports]
  | .pwLevelCapWrite .. => [.ports]
  | .pwCtrlRetrain .. => [.glb, .link, .rings, .cnt, .execs, .parked, .quires, .reqs, .ports, .th, .sp, .spr, .mgt, .bg, .out]
  | .encRawLoRead .. => [.src, .out]
  | .quireLowHalfRead .. => [.quires, .out]
  | .glbTbLoRead => [.glb, .out]
  | .mgtMeasW0Read .. => [.mgt, .out]
  | .encoderEdge .. => [.clk, .tb, .glb, .link, .rings, .cnt, .execs, .parked, .src, .quires, .ports, .sp, .spr, .mgt, .bg, .out]
  | .indexEdge .. => [.clk, .tb, .glb, .link, .rings, .cnt, .execs, .parked, .src, .quires, .ports, .sp, .spr, .mgt, .bg, .out]
  | .serialFrameStart .. => [.clk, .tb, .src, .out]
  | .serialFrameEnd .. => [.clk, .tb, .glb, .link, .rings, .cnt, .execs, .parked, .src, .quires, .ports, .sp, .spr, .mgt, .bg, .out]
  | .encStall .. => [.clk, .tb, .link, .rings, .cnt, .parked, .src, .sp, .spr, .out]
  | .remoteLost .. => [.clk, .tb, .glb, .link, .rings, .cnt, .execs, .parked, .src, .quires, .ports, .sp, .spr, .mgt, .bg, .out]
  | .lineDue .. => [.clk, .tb, .glb, .link, .rings, .cnt, .execs, .parked, .quires, .reqs, .ports, .sp, .spr, .mgt, .bg, .out]
  | .lineDecision .. => [.clk, .tb, .glb, .link, .rings, .cnt, .execs, .parked, .quires, .ports, .sp, .spr, .mgt, .bg, .out]
  | .headLatch .. => [.clk, .tb, .glb, .link, .rings, .cnt, .parked, .ports, .sp, .spr, .out]
  | .playbackStart .. => [.clk, .tb, .glb, .link, .rings, .cnt, .execs, .parked, .quires, .ports, .sp, .spr, .mgt, .bg, .out]
  | .playbackEnd .. => [.clk, .tb, .glb, .link, .cnt, .ports, .out]
  | .probeCaptureEnd .. => [.clk, .tb, .glb, .link, .rings, .cnt, .execs, .parked, .ports, .sp, .spr, .out]
  | .sosEdge .. => [.glb, .link, .rings, .cnt, .execs, .parked, .quires, .sos, .ports, .sp, .spr, .mgt, .bg, .out]
  | .arbiterRequest .. => [.glb, .link, .rings, .cnt, .execs, .parked, .quires, .reqs, .ports, .sp, .spr, .mgt, .bg, .out]
  | .arbiterWithdraw .. => [.reqs]
  | .bankSwap .. => [.glb, .link, .rings, .cnt, .execs, .parked, .ports, .sp, .spr, .mgt, .bg, .out]
  | .shadowCopy .. => [.link, .rings, .cnt, .execs, .parked, .ports, .sp, .spr, .mgt, .out]
  | .quireDrainEnd .. => [.clk, .tb, .glb, .link, .rings, .cnt, .execs, .parked, .quires, .ports, .sp, .spr, .out]
  | .portDrainEnd .. => [.clk, .tb, .glb, .link, .rings, .cnt, .parked, .ports, .sp, .spr, .out]
  | .imageDescFetch .. => [.glb, .link, .rings, .cnt, .execs, .parked, .quires, .ports, .sp, .spr, .mgt, .bg, .out]
  | .bandStaged .. => [.link, .rings, .cnt, .parked, .ports, .bg, .out]
  | .descRetire .. => [.link, .rings, .cnt, .parked, .ports, .out]
  | .lineDecode .. => [.glb, .link, .rings, .cnt, .parked, .ports, .page, .sp, .spr, .bg, .out]
  | .lineScreen .. => [.glb, .link, .rings, .cnt, .parked, .quires, .ports, .sp, .spr, .out]
  | .tapRefresh .. => [.ports]
  | .demandEval => [.clk, .tb, .link, .rings, .cnt, .parked, .ports, .th, .sp, .spr, .out]
  | .pageTrainingDone .. => [.page, .bg]
  | .gdmaDescFetch .. => [.link, .rings, .cnt, .parked, .gdma, .sp, .spr, .out, .nextId]
  | .cmdFetch .. => [.link, .rings, .cnt, .waiting, .parked, .sp, .spr, .out]
  | .catchwordReread .. => [.clk, .tb, .glb, .link, .rings, .cnt, .execs, .waiting, .parked, .gdma, .quires, .ports, .sp, .spr, .mgt, .bg, .out, .nextId]
  | .dmaFault .. => [.glb, .link, .rings, .cnt, .execs, .parked, .gdma, .ports, .page, .sp, .spr, .flash, .out, .draws]
  | .ringCloseDone .. => [.link, .rings, .cnt, .execs, .parked, .ports, .sp, .spr, .out]
  | .msixHoldoffEnd .. => [.clk, .tb, .link, .rings, .cnt, .out]
  | .telemetrySnapshot => [.clk, .tb, .link, .rings, .cnt, .parked, .ports, .bg, .out]
  | .d3hotEntry => [.link]
  | .d0Return => [.link, .rings, .cnt, .parked, .out]
  | .pcieLinkUp .. => [.link, .cnt, .out]
  | .headPresenceChange .. => [.glb, .link, .rings, .cnt, .execs, .parked, .quires, .reqs, .ports, .th, .sp, .spr, .mgt, .bg, .out]
  | .portBringupDone .. => [.clk, .tb, .glb, .link, .rings, .cnt, .execs, .parked, .quires, .reqs, .ports, .th, .sp, .spr, .mgt, .bg, .out]
  | .backChannelStatus .. => [.glb, .link, .rings, .cnt, .execs, .parked, .quires, .ports, .th, .sp, .spr, .mgt, .bg, .out]
  | .headmemReply .. => [.glb, .link, .rings, .cnt, .execs, .parked, .quires, .reqs, .ports, .th, .sp, .spr, .mgt, .bg, .out]
  | .linkLost .. => [.clk, .tb, .glb, .link, .rings, .cnt, .execs, .parked, .quires, .reqs, .ports, .th, .sp, .spr, .mgt, .bg, .out]
  | .linkBlockEnd .. => [.clk, .tb, .ports]
  | .levelMapTransfer .. => [.ports, .out]
  | .learnTimeLimit .. => [.clk, .tb, .link, .rings, .cnt, .execs, .parked, .ports, .sp, .spr, .out]
  | .learnSwap .. => [.glb, .link, .rings, .cnt, .execs, .parked, .ports, .sp, .spr, .out]
  | .monitorReset .. => [.glb, .link, .rings, .cnt, .parked, .ports, .sp, .spr, .out]
  | .wearCommitPeriodic .. => [.clk, .tb, .glb, .link, .rings, .cnt, .execs, .parked, .quires, .reqs, .ports, .th, .sp, .spr, .mgt, .bg, .out]
  | .hkRoundEnd .. => [.clk, .tb, .glb, .link, .rings, .cnt, .execs, .parked, .quires, .reqs, .ports, .page, .th, .sp, .spr, .mgt, .bg, .out]
  | .writeSafeChange .. => [.glb, .link, .rings, .cnt, .execs, .parked, .quires, .reqs, .ports, .th, .sp, .spr, .flash, .otp, .mgt, .bg, .out, .draws]
  | .blockLockAcquired .. => [.sp]
  | .blockLockLost .. => [.link, .rings, .cnt, .execs, .parked, .page, .sp, .spr, .flash, .out, .draws]
  | .peerSilent .. => [.clk, .tb, .link, .rings, .cnt, .execs, .parked, .page, .sp, .spr, .flash, .out, .draws]
  | .helloTx .. => [.clk, .tb, .sp, .spr, .out]
  | .helloRx .. => [.link, .rings, .cnt, .execs, .parked, .page, .sp, .spr, .flash, .out, .draws]
  | .cellFramingError .. => [.sp]
  | .flowXoffRx .. => [.sp]
  | .flowXonRx .. => [.sp, .out]
  | .evtCellRx .. => [.glb, .link, .rings, .cnt, .execs, .parked, .quires, .ports, .sp, .spr, .mgt, .bg, .out]
  | .syncTx => [.clk, .tb, .spr, .out]
  | .syncRx .. => [.tb, .link, .rings, .cnt, .execs, .parked, .src, .page, .sp, .spr, .flash, .out, .draws]
  | .syncLoss => [.clk, .tb, .sp]
  | .delayReqTx => [.clk, .tb, .sp, .spr, .out]
  | .delayReqRx .. => [.sp, .spr, .out]
  | .delayRespRx .. => [.sp]
  | .posPublish .. => [.clk, .tb, .src, .spr, .out]
  | .posCellRx .. => [.glb, .link, .rings, .cnt, .execs, .parked, .src, .quires, .ports, .sp, .spr, .mgt, .bg, .out]
  | .dmdTx => [.clk, .tb, .spr, .out]
  | .dmdRx .. => [.sp, .spr]
  | .childLost .. => [.clk, .tb, .sp, .spr]
  | .mgtCmdRx .. => [.cnt, .waiting, .sp, .spr, .out]
  | .mgtCplRx .. => [.link, .rings, .cnt, .parked, .sp, .spr, .out]
  | .mgtEvtRx .. => [.link, .rings, .cnt, .parked, .sp, .spr, .out]
  | .mgtRdReqRx .. => [.parked, .sp, .spr, .out, .nextId]
  | .mgtRdDataRx .. => [.glb, .link, .rings, .cnt, .execs, .parked, .quires, .reqs, .ports, .tiles, .masks, .page, .th, .sp, .spr, .flash, .mgt, .bg, .out]
  | .mgtWrReqRx .. => [.sp, .spr, .out]
  | .mgtWrDataRx .. => [.parked, .sp, .spr, .mgt, .out]
  | .mgtWrAckRx .. => [.link, .rings, .cnt, .execs, .parked, .page, .sp, .spr, .flash, .out, .draws]
  | .tunnelTimeout .. => [.clk, .tb, .link, .rings, .cnt, .parked, .sp, .spr, .out]
  | .enuProbeRx .. => [.sp, .spr, .out]
  | .enuReplyRx .. => [.link, .rings, .cnt, .execs, .parked, .page, .sp, .spr, .flash, .out, .draws]
  | .enuAssignRx .. => [.link, .rings, .cnt, .execs, .parked, .page, .sp, .spr, .flash, .out, .draws]
  | .enuDoneRx .. => [.link, .rings, .cnt, .execs, .parked, .page, .sp, .spr, .flash, .out, .draws]
  | .enuRefuseRx .. => [.link, .rings, .cnt, .execs, .parked, .page, .sp, .spr, .flash, .out, .draws]
  | .enuProbeTimeout .. => [.clk, .tb, .link, .rings, .cnt, .execs, .parked, .page, .sp, .spr, .flash, .out, .draws]
  | .canFrameRx .. => [.glb, .link, .rings, .cnt, .execs, .parked, .quires, .reqs, .ports, .sp, .spr, .press, .mgt, .bg, .out]
  | .pressStateTimeout => [.clk, .tb, .glb, .link, .rings, .cnt, .execs, .parked, .quires, .reqs, .ports, .sp, .spr, .press, .mgt, .bg, .out]
  | .busOffEntry .. => [.link, .rings, .cnt, .parked, .sp, .spr, .press, .out]
  | .busOffRecovery .. => [.link, .rings, .cnt, .parked, .sp, .spr, .press, .out]
  | .speedDemandTx => [.clk, .tb, .press]
  | .statusTx => [.clk, .tb, .press]
  | .heartbeatTx => [.clk, .tb, .press]
  | .canTxDone .. => [.link, .rings, .cnt, .execs, .parked, .sp, .spr, .press, .out]
  | .busSendTimeout .. => [.clk, .tb, .link, .rings, .cnt, .execs, .parked, .sp, .spr, .press, .out]
  | .stopNAccepted => [.glb, .link, .rings, .cnt, .execs, .parked, .quires, .ports, .sp, .spr, .press, .mgt, .bg, .out]
  | .stopNReleased => [.press]
  | .spdDemPeriod => [.clk, .tb, .press, .out]
  | .vbatPowerOn => [.rst]
  | .selfDriveEnd => [.clk, .tb, .rst, .out]
  | .resetSourceRelease .. => [.link, .rst, .out]
  | .fuseLoadDone .. => [.clk, .tb, .glb, .link, .rings, .cnt, .parked, .sp, .spr, .rst, .otp, .mgt, .out, .draws]
  | .pllLock => [.clk, .tb, .th, .sp, .press, .rst, .flash, .mgt]
  | .spnuClockLock => [.rst]
  | .mainFirmwareReady => [.page, .spr, .rst, .mgt, .bg, .out]
  | .otpMarginRecheck .. => [.clk, .tb, .link, .rings, .cnt, .parked, .sp, .spr, .otp, .out]
  | .scrubStep .. => [.glb, .link, .rings, .cnt, .execs, .parked, .quires, .ports, .tiles, .masks, .page, .sp, .spr, .mgt, .bg, .out]
  | .dacCalibration .. => [.ports, .bg]
  | .senseAdcCalibration .. => [.ports, .bg]
  | .jtagDebugAttach => [.mgt]
  | .setEndpointId .. => [.mgt, .out]
  | .getEndpointId .. => [.out]
  | .getMctpVersionSupport .. => [.out, .draws]
  | .getMessageTypeSupport .. => [.out]
  | .mctpCmd .. => [.waiting]
  | .mctpDataWr .. => [.mgt]
  | .mctpDataRd .. => [.out]
  | .getVersion .. => [.mgt, .out]
  | .getCapabilities .. => [.mgt, .out, .draws]
  | .negotiateAlgorithms .. => [.mgt, .out]
  | .getDigests .. => [.mgt, .out]
  | .getCertificate .. => [.mgt, .out]
  | .challenge .. => [.mgt, .out, .draws]
  | .getMeasurements .. => [.mgt, .out, .draws]
  | .spdmUnsupportedRequest .. => [.out]
  | .dmaTransferDone .. => [.glb, .link, .rings, .cnt, .execs, .parked, .gdma, .quires, .reqs, .ports, .tiles, .masks, .page, .th, .sp, .spr, .flash, .mgt, .bg, .out]
  | .headI2cTransferDone .. => [.glb, .link, .rings, .cnt, .execs, .parked, .quires, .reqs, .ports, .th, .sp, .spr, .mgt, .bg, .out]
  | .otpPulseEnd .. => [.clk, .tb, .link, .rings, .cnt, .execs, .parked, .sp, .spr, .otp, .out]
  | .flashWriteDone .. => [.link, .rings, .cnt, .execs, .parked, .sp, .spr, .rst, .flash, .otp, .out]
  | .flashPauseTimeout => [.clk, .tb, .link, .rings, .cnt, .execs, .parked, .sp, .spr, .flash, .out]
  | .vppPresenceChange .. => [.glb, .link, .rings, .cnt, .execs, .parked, .quires, .reqs, .ports, .th, .sp, .spr, .flash, .otp, .mgt, .bg, .out, .draws]
  | _ => Part.every

/-- A bank swap at the quire's boundary. -/
theorem bankSwap_step (q : Fin 8) (s : State) : ∃ t, exec (.bankSwap q) s = .next t ∧ Frame (touches (.bankSwap q)) s t :=
  ⟨_, rfl, Frame.ite (Frame.refl _ _) (swapPrinting_frame _ _ _)⟩

/-- The copy to the shadow bank, where there is an old bank. -/
theorem shadowCopy_step (p : Fin 32) (s : State) : ∃ t, exec (.shadowCopy p) s = .next t ∧ Frame (touches (.shadowCopy p)) s t := by
  refine ⟨_, rfl, ?_⟩
  split
  · split
    · exact Frame.ite (copyShadow_frame _ _) (Frame.refl _ _)
    · exact Frame.refl _ _
  · exact Frame.refl _ _

/-- A quire leaves STOPPING when the last playback has ended. -/
theorem quireDrainEnd_step (q : Fin 8) (s : State) :
    ∃ t, exec (.quireDrainEnd q) s = .next t ∧ Frame (touches (.quireDrainEnd q)) s t :=
  ⟨_, rfl, Frame.ite (Frame.step ((State.advanceTo_frame _ _).mono rfl) (quireLeaves_frame _ _) rfl) (Frame.refl _ _)⟩

/-- A drained port goes idle. -/
theorem portDrainEnd_step (p : Fin 32) (s : State) :
    ∃ t, exec (.portDrainEnd p) s = .next t ∧ Frame (touches (.portDrainEnd p)) s t :=
  ⟨_, rfl, Frame.ite (Frame.step ((State.advanceTo_frame _ _).mono rfl) (portIdle_frame _ _ _) rfl) (Frame.refl _ _)⟩

/-- A learning run that reaches its limit ends. -/
theorem learnTimeLimit_step (p : Fin 32) (s : State) :
    ∃ t, exec (.learnTimeLimit p) s = .next t ∧ Frame (touches (.learnTimeLimit p)) s t := by
  refine ⟨_, rfl, ?_⟩
  split
  · exact Frame.step ((State.advanceTo_frame _ _).mono rfl) (endLearn_frame _ _ _ _) rfl
  · exact Frame.refl _ _

/-- Signatures that are due are swapped. -/
theorem learnSwap_step (p : Fin 32) (s : State) : ∃ t, exec (.learnSwap p) s = .next t ∧ Frame (touches (.learnSwap p)) s t :=
  ⟨_, rfl, Frame.ite ((swapSignatures_frame _ _ _).mono rfl) (Frame.refl _ _)⟩

/-- A monitor reset that is due. -/
theorem monitorReset_step (p : Fin 32) (s : State) : ∃ t, exec (.monitorReset p) s = .next t ∧ Frame (touches (.monitorReset p)) s t :=
  ⟨_, rfl, Frame.ite (Frame.refl _ _) ((resetMonitor_frame _ _ _).mono rfl)⟩

/-- A line is screened after the deadline of a first line that has been crossed. -/
theorem lineScreen_step (p : Fin 32) (s : State) : ∃ t, exec (.lineScreen p) s = .next t ∧ Frame (touches (.lineScreen p)) s t :=
  ⟨_, rfl, Frame.step ((crossFirst_frame _ _).mono rfl) (lineScreen_frame _ _) rfl⟩

/-- What follows from the loss of block lock. -/
theorem blockLockLost_step (sp : SpPort) (errors : Bool) (s : State) :
    ∃ t, exec (.blockLockLost sp errors) s = .next t ∧ Frame (touches (.blockLockLost sp errors)) s t :=
  ⟨_, rfl, Frame.step ((blockLockLost_frame _ _ _).mono rfl) (afterLink_frame _ _ _) rfl⟩

/-- What follows from a silent peer. -/
theorem peerSilent_step (sp : SpPort) (s : State) :
    ∃ t, exec (.peerSilent sp) s = .next t ∧ Frame (touches (.peerSilent sp)) s t :=
  ⟨_, rfl, Frame.step ((peerSilent_frame _ _).mono rfl) (afterLink_frame _ _ _) rfl⟩

/-- What follows from a HELLO. -/
theorem helloRx_step (sp : SpPort) (x : HelloSeen) (s : State) :
    ∃ t, exec (.helloRx sp x) s = .next t ∧ Frame (touches (.helloRx sp x)) s t :=
  ⟨_, rfl, Frame.step ((helloRx_frame _ _ _ _).mono rfl) (afterLink_frame _ _ _) rfl⟩

/-- Every row answers a next state that differs in the parts it touches alone: its operation's frame, case by case. -/
theorem exec_frame (c : Instr) (s : State) : ∃ t, exec c s = .next t ∧ Frame (touches c) s t := by
  cases c with
  | nop _ _ => exact ⟨_, rfl, (nop_frame _ _ _).mono rfl⟩
  | getInfo _ _ => exact ⟨_, rfl, (getInfo_frame _ _ _).mono rfl⟩
  | setProfile _ _ => exact ⟨_, rfl, (setProfile_frame _ _ _).mono rfl⟩
  | selfReset _ _ => exact ⟨_, rfl, (selfReset_frame _ _ _).mono rfl⟩
  | setTime _ _ => exact ⟨_, rfl, (setTime_frame _ _ _).mono rfl⟩
  | getCounters _ _ => exact ⟨_, rfl, (getCounters_frame _ _ _).mono rfl⟩
  | ringCreate _ _ => exact ⟨_, rfl, (ringCreate_frame _ _ _).mono rfl⟩
  | ringDestroy _ _ => exact ⟨_, rfl, (ringDestroy_frame _ _ _).mono rfl⟩
  | ringResume _ _ => exact ⟨_, rfl, (ringResume_frame _ _ _).mono rfl⟩
  | portOpen _ _ => exact ⟨_, rfl, (portOpen_frame _ _ _).mono rfl⟩
  | portClose _ _ => exact ⟨_, rfl, (portClose_frame _ _ _).mono rfl⟩
  | portConfig _ _ => exact ⟨_, rfl, (portConfig_frame _ _ _).mono rfl⟩
  | portQuery _ _ => exact ⟨_, rfl, (portQuery_frame _ _ _).mono rfl⟩
  | headmemRead _ _ => exact ⟨_, rfl, (headmemRead_frame _ _ _).mono rfl⟩
  | headmemWrite _ _ => exact ⟨_, rfl, (headmemWrite_frame _ _ _).mono rfl⟩
  | heaterSet _ _ => exact ⟨_, rfl, (heaterSet_frame _ _ _).mono rfl⟩
  | headProfileLoad _ _ => exact ⟨_, rfl, (headProfileLoad_frame _ _ _).mono rfl⟩
  | encConfig _ _ => exact ⟨_, rfl, (encConfig_frame _ _ _).mono rfl⟩
  | encQuery _ _ => exact ⟨_, rfl, (encQuery_frame _ _ _).mono rfl⟩
  | encPreset _ _ => exact ⟨_, rfl, (encPreset_frame _ _ _).mono rfl⟩
  | quireBind _ _ => exact ⟨_, rfl, (quireBind_frame _ _ _).mono rfl⟩
  | sosConfig _ _ => exact ⟨_, rfl, (sosConfig_frame _ _ _).mono rfl⟩
  | jobDefine _ _ => exact ⟨_, rfl, (jobDefine_frame _ _ _).mono rfl⟩
  | jobArm _ _ => exact ⟨_, rfl, (jobArm_frame _ _ _).mono rfl⟩
  | jobStop _ _ => exact ⟨_, rfl, (jobStop_frame _ _ _).mono rfl⟩
  | jobAbort _ _ => exact ⟨_, rfl, (jobAbort_frame _ _ _).mono rfl⟩
  | jobQuery _ _ => exact ⟨_, rfl, (jobQuery_frame _ _ _).mono rfl⟩
  | demandConfig _ _ => exact ⟨_, rfl, (demandConfig_frame _ _ _).mono rfl⟩
  | tableCommit _ _ => exact ⟨_, rfl, (tableCommit_frame _ _ _).mono rfl⟩
  | waveLoad _ _ => exact ⟨_, rfl, (waveLoad_frame _ _ _).mono rfl⟩
  | levelMapLoad _ _ => exact ⟨_, rfl, (levelMapLoad_frame _ _ _).mono rfl⟩
  | waveTcompLoad _ _ => exact ⟨_, rfl, (waveTcompLoad_frame _ _ _).mono rfl⟩
  | fireOffsetSet _ _ => exact ⟨_, rfl, (fireOffsetSet_frame _ _ _).mono rfl⟩
  | screenLoad _ _ => exact ⟨_, rfl, (screenLoad_frame _ _ _).mono rfl⟩
  | nucLoad _ _ => exact ⟨_, rfl, (nucLoad_frame _ _ _).mono rfl⟩
  | delayLoad _ _ => exact ⟨_, rfl, (delayLoad_frame _ _ _).mono rfl⟩
  | maskLoad _ _ => exact ⟨_, rfl, (maskLoad_frame _ _ _).mono rfl⟩
  | stitchConfig _ _ => exact ⟨_, rfl, (stitchConfig_frame _ _ _).mono rfl⟩
  | deckleSet _ _ => exact ⟨_, rfl, (deckleSet_frame _ _ _).mono rfl⟩
  | nozMapSet _ _ => exact ⟨_, rfl, (nozMapSet_frame _ _ _).mono rfl⟩
  | nozMapGet _ _ => exact ⟨_, rfl, (nozMapGet_frame _ _ _).mono rfl⟩
  | rvsConfig _ _ => exact ⟨_, rfl, (rvsConfig_frame _ _ _).mono rfl⟩
  | rvsLearn _ _ => exact ⟨_, rfl, (rvsLearn_frame _ _ _).mono rfl⟩
  | compConfig _ _ => exact ⟨_, rfl, (compConfig_frame _ _ _).mono rfl⟩
  | wearQuery _ _ => exact ⟨_, rfl, (wearQuery_frame _ _ _).mono rfl⟩
  | thermLimits _ _ => exact ⟨_, rfl, (thermLimits_frame _ _ _).mono rfl⟩
  | thermQuery _ _ => exact ⟨_, rfl, (thermQuery_frame _ _ _).mono rfl⟩
  | sensorSubstitute _ _ => exact ⟨_, rfl, (sensorSubstitute_frame _ _ _).mono rfl⟩
  | supplyQuery _ _ => exact ⟨_, rfl, (supplyQuery_frame _ _ _).mono rfl⟩
  | spineConfig _ _ => exact ⟨_, rfl, (spineConfig_frame _ _ _).mono rfl⟩
  | spineEnumerate _ _ => exact ⟨_, rfl, (spineEnumerate_frame _ _ _).mono rfl⟩
  | spineQuery _ _ => exact ⟨_, rfl, (spineQuery_frame _ _ _).mono rfl⟩
  | remoteEncBind _ _ => exact ⟨_, rfl, (remoteEncBind_frame _ _ _).mono rfl⟩
  | busConfig _ _ => exact ⟨_, rfl, (busConfig_frame _ _ _).mono rfl⟩
  | busFilter _ _ => exact ⟨_, rfl, (busFilter_frame _ _ _).mono rfl⟩
  | busSend _ _ => exact ⟨_, rfl, (busSend_frame _ _ _).mono rfl⟩
  | busQuery _ _ => exact ⟨_, rfl, (busQuery_frame _ _ _).mono rfl⟩
  | otpRead _ _ => exact ⟨_, rfl, (otpRead_frame _ _ _).mono rfl⟩
  | otpProgram _ _ => exact ⟨_, rfl, (otpProgram_frame _ _ _).mono rfl⟩
  | otpSeal _ _ => exact ⟨_, rfl, (otpSeal_frame _ _ _).mono rfl⟩
  | otpMarginCheck _ _ => exact ⟨_, rfl, (otpMarginCheck_frame _ _ _).mono rfl⟩
  | otpLock _ _ => exact ⟨_, rfl, (otpLock_frame _ _ _).mono rfl⟩
  | fwStage _ _ => exact ⟨_, rfl, (fwStage_frame _ _ _).mono rfl⟩
  | fwVerify _ _ => exact ⟨_, rfl, (fwVerify_frame _ _ _).mono rfl⟩
  | fwActivate _ _ => exact ⟨_, rfl, (fwActivate_frame _ _ _).mono rfl⟩
  | fwQuery _ _ => exact ⟨_, rfl, (fwQuery_frame _ _ _).mono rfl⟩
  | colophonRead _ _ => exact ⟨_, rfl, (colophonRead_frame _ _ _).mono rfl⟩
  | colophonLog _ _ => exact ⟨_, rfl, (colophonLog_frame _ _ _).mono rfl⟩
  | loopback _ _ => exact ⟨_, rfl, (loopback_frame _ _ _).mono rfl⟩
  | testPattern _ _ => exact ⟨_, rfl, (testPattern_frame _ _ _).mono rfl⟩
  | eventConfig _ _ => exact ⟨_, rfl, (eventConfig_frame _ _ _).mono rfl⟩
  | backgroundConfig _ _ => exact ⟨_, rfl, (backgroundConfig_frame _ _ _).mono rfl⟩
  | pageAlloc _ _ => exact ⟨_, rfl, (pageAlloc_frame _ _ _).mono rfl⟩
  | pageFree _ _ => exact ⟨_, rfl, (pageFree_frame _ _ _).mono rfl⟩
  | pageFill _ _ => exact ⟨_, rfl, (pageFill_frame _ _ _).mono rfl⟩
  | pageQuery _ _ => exact ⟨_, rfl, (pageQuery_frame _ _ _).mono rfl⟩
  | registerWrite _ _ => exact ⟨_, rfl, (registerWrite_frame _ _ _).mono rfl⟩
  | barAccessInvalid _ _ _ => exact ⟨_, rfl, (barAccessInvalid_frame _ _ _ _ _).mono rfl⟩
  | ringCtrlEnable _ _ => exact ⟨_, rfl, (ringCtrlWrite_frame _ _ _).mono rfl⟩
  | ringCtrlResume _ _ => exact ⟨_, rfl, (ringCtrlWrite_frame _ _ _).mono rfl⟩
  | ringTailDoorbell _ _ => exact ⟨_, rfl, (ringTailWrite_frame _ _ _).mono rfl⟩
  | ringHeadReturn _ _ => exact ⟨_, rfl, (ringHeadWrite_frame _ _ _).mono rfl⟩
  | ringTailRead _ => exact ⟨_, rfl, (ringTailRead_frame _ _).mono rfl⟩
  | pwStatusRead _ => exact ⟨_, rfl, (pwStatusRead_frame _ _).mono rfl⟩
  | pwCmpLowWrite _ _ _ => exact ⟨_, rfl, (pwCmpLow_frame _ _ _ _).mono rfl⟩
  | pwCmpStartHighWrite _ _ => exact ⟨_, rfl, (pwCmpStartHigh_frame _ _ _).mono rfl⟩
  | pwCmpStopHighWrite _ _ => exact ⟨_, rfl, (pwCmpStopHigh_frame _ _ _).mono rfl⟩
  | pwLateWinWrite _ _ => exact ⟨_, rfl, (pwLateWin_frame _ _ _).mono rfl⟩
  | pwFracOfsWrite _ _ _ => exact ⟨_, rfl, (pwShadow_frame _ _ _ _).mono rfl⟩
  | pwLevelCapWrite _ _ => exact ⟨_, rfl, (pwShadow_frame _ _ _ _).mono rfl⟩
  | pwCtrlRetrain _ _ _ => exact ⟨_, rfl, (retrain_frame _ _ _).mono rfl⟩
  | encRawLoRead _ => exact ⟨_, rfl, (encRawLoRead_frame _ _).mono rfl⟩
  | quireLowHalfRead _ _ => exact ⟨_, rfl, (quireLowHalfRead_frame _ _ _).mono rfl⟩
  | glbTbLoRead => exact ⟨_, rfl, (glbTbLoRead_frame _).mono rfl⟩
  | mgtMeasW0Read _ => exact ⟨_, rfl, (mgtMeasW0Read_frame _ _).mono rfl⟩
  | encoderEdge _ _ _ _ _ => exact ⟨_, rfl, (encoderEdge_frame _ _ _ _ _ _ _).mono rfl⟩
  | indexEdge _ _ _ => exact ⟨_, rfl, (indexEdge_frame _ _ _ _ _).mono rfl⟩
  | serialFrameStart _ _ => exact ⟨_, rfl, (serialFrameStart_frame _ _ _).mono rfl⟩
  | serialFrameEnd _ _ => exact ⟨_, rfl, (serialFrameEnd_frame _ _ _).mono rfl⟩
  | encStall _ => exact ⟨_, rfl, (encStall_frame _ _).mono rfl⟩
  | remoteLost _ => exact ⟨_, rfl, (remoteLost_frame _ _).mono rfl⟩
  | lineDue _ => exact ⟨_, rfl, (lineDue_frame _ _).mono rfl⟩
  | lineDecision _ => exact ⟨_, rfl, (lineDecision_frame _ _).mono rfl⟩
  | headLatch _ _ => exact ⟨_, rfl, (headLatch_frame _ _ _).mono rfl⟩
  | playbackStart _ _ _ => exact ⟨_, rfl, (playbackStart_frame _ _ _ _).mono rfl⟩
  | playbackEnd _ _ => exact ⟨_, rfl, (playbackEnd_frame _ _ _).mono rfl⟩
  | probeCaptureEnd _ _ => exact ⟨_, rfl, (probeCaptureEnd_frame _ _ _).mono rfl⟩
  | sosEdge _ _ _ => exact ⟨_, rfl, (sosEdge_frame _ _ _ _).mono rfl⟩
  | arbiterRequest _ _ _ => exact ⟨_, rfl, (request_frame _ _ _ _).mono rfl⟩
  | arbiterWithdraw _ _ => exact ⟨_, rfl, (withdraw_frame _ _ _).mono rfl⟩
  | bankSwap _ => exact bankSwap_step _ _
  | shadowCopy _ => exact shadowCopy_step _ _
  | quireDrainEnd _ => exact quireDrainEnd_step _ _
  | portDrainEnd _ => exact portDrainEnd_step _ _
  | imageDescFetch _ _ => exact ⟨_, rfl, (imageDescFetch_frame _ _ _).mono rfl⟩
  | bandStaged _ _ => exact ⟨_, rfl, (bandStaged_frame _ _ _).mono rfl⟩
  | descRetire _ => exact ⟨_, rfl, (retireReady_frame _ _).mono rfl⟩
  | lineDecode _ _ _ => exact ⟨_, rfl, (lineDecode_frame _ _ _ _).mono rfl⟩
  | lineScreen _ => exact lineScreen_step _ _
  | tapRefresh _ => exact ⟨_, rfl, (tapPort_frame _ _).mono rfl⟩
  | demandEval => exact ⟨_, rfl, (demandEval_frame _).mono rfl⟩
  | pageTrainingDone _ _ _ => exact ⟨_, rfl, (pageTrainingDone_frame _ _ _ _).mono rfl⟩
  | gdmaDescFetch _ _ => exact ⟨_, rfl, (gdmaDescFetch_frame _ _ _).mono rfl⟩
  | cmdFetch _ _ => exact ⟨_, rfl, (cmdFetch_frame _ _ _).mono rfl⟩
  | catchwordReread _ _ => exact ⟨_, rfl, (catchwordReread_frame _ _ _).mono rfl⟩
  | dmaFault _ => exact ⟨_, rfl, (dmaFault_frame _ _).mono rfl⟩
  | ringCloseDone _ => exact ⟨_, rfl, (ringCloseDone_frame _ _).mono rfl⟩
  | msixHoldoffEnd _ => exact ⟨_, rfl, (msixHoldoffEnd_frame _ _).mono rfl⟩
  | telemetrySnapshot => exact ⟨_, rfl, (telemetrySnapshot_frame _).mono rfl⟩
  | hostReset _ => exact ⟨_, rfl, (hostReset_frame _ _).mono rfl⟩
  | d3hotEntry => exact ⟨_, rfl, (d3hotEntry_frame _).mono rfl⟩
  | d0Return => exact ⟨_, rfl, (d0Return_frame _).mono rfl⟩
  | pcieLinkUp _ _ _ => exact ⟨_, rfl, (pcieLinkUp_frame _ _ _ _ _ _ _).mono rfl⟩
  | headPresenceChange _ _ => exact ⟨_, rfl, (presence_frame _ _ _ _).mono rfl⟩
  | portBringupDone _ _ => exact ⟨_, rfl, (bringupDone_frame _ _ _).mono rfl⟩
  | backChannelStatus _ _ => exact ⟨_, rfl, (statusFrame_frame _ _ _).mono rfl⟩
  | headmemReply _ _ _ _ => exact ⟨_, rfl, (headReply_frame _ _ _).mono rfl⟩
  | linkLost _ => exact ⟨_, rfl, (linkLost_frame _ _).mono rfl⟩
  | linkBlockEnd _ => exact ⟨_, rfl, (blockEnd_frame _ _).mono rfl⟩
  | levelMapTransfer _ _ => exact ⟨_, rfl, (levelMapTransfer_frame _ _ _).mono rfl⟩
  | learnTimeLimit _ => exact learnTimeLimit_step _ _
  | learnSwap _ => exact learnSwap_step _ _
  | monitorReset _ => exact monitorReset_step _ _
  | wearCommitPeriodic _ => exact ⟨_, rfl, (wearPeriodic_frame _ _).mono rfl⟩
  | hkRoundEnd _ => exact ⟨_, rfl, (hkRound_frame _ _).mono rfl⟩
  | thermalShutdown _ => exact ⟨_, rfl, (thermalShutdown_frame _ _).mono rfl⟩
  | writeSafeChange _ _ _ => exact ⟨_, rfl, (writeSafeChange_frame _ _ _ _).mono rfl⟩
  | blockLockAcquired _ => exact ⟨_, rfl, (blockLockAcquired_frame _ _).mono rfl⟩
  | blockLockLost _ _ => exact blockLockLost_step _ _ _
  | peerSilent _ => exact peerSilent_step _ _
  | helloTx _ => exact ⟨_, rfl, (helloTx_frame _ _).mono rfl⟩
  | helloRx _ _ => exact helloRx_step _ _ _
  | cellFramingError _ => exact ⟨_, rfl, (cellFramingError_frame _ _).mono rfl⟩
  | flowXoffRx _ => exact ⟨_, rfl, (flowXoffRx_frame _ _).mono rfl⟩
  | flowXonRx _ => exact ⟨_, rfl, (flowXonRx_frame _ _).mono rfl⟩
  | evtCellRx _ _ => exact ⟨_, rfl, (evtCellRx_frame _ _ _).mono rfl⟩
  | syncTx => exact ⟨_, rfl, (syncTx_frame _).mono rfl⟩
  | syncRx _ _ => exact ⟨_, rfl, (syncRx_frame _ _ _).mono rfl⟩
  | syncLoss => exact ⟨_, rfl, (syncLoss_frame _).mono rfl⟩
  | delayReqTx => exact ⟨_, rfl, (delayReqTx_frame _).mono rfl⟩
  | delayReqRx _ _ _ => exact ⟨_, rfl, (delayReqRx_frame _ _ _ _).mono rfl⟩
  | delayRespRx _ _ _ => exact ⟨_, rfl, (delayRespRx_frame _ _ _ _).mono rfl⟩
  | posPublish _ => exact ⟨_, rfl, (posPublish_frame _ _).mono rfl⟩
  | posCellRx _ _ => exact ⟨_, rfl, (posCellRx_frame _ _ _).mono rfl⟩
  | dmdTx => exact ⟨_, rfl, (dmdTx_frame _).mono rfl⟩
  | dmdRx _ _ => exact ⟨_, rfl, (dmdRx_frame _ _ _).mono rfl⟩
  | childLost _ => exact ⟨_, rfl, (childLost_frame _ _).mono rfl⟩
  | mgtCmdRx _ _ => exact ⟨_, rfl, (mgtCmdRx_frame _ _ _).mono rfl⟩
  | mgtCplRx _ _ => exact ⟨_, rfl, (mgtCplRx_frame _ _ _).mono rfl⟩
  | mgtEvtRx _ _ => exact ⟨_, rfl, (mgtEvtRx_frame _ _ _).mono rfl⟩
  | mgtRdReqRx _ _ => exact ⟨_, rfl, (mgtRdReqRx_frame _ _ _).mono rfl⟩
  | mgtRdDataRx _ _ => exact ⟨_, rfl, (mgtRdDataRx_frame _ _ _).mono rfl⟩
  | mgtWrReqRx _ _ => exact ⟨_, rfl, (mgtWrReqRx_frame _ _ _).mono rfl⟩
  | mgtWrDataRx _ _ => exact ⟨_, rfl, (mgtWrDataRx_frame _ _ _).mono rfl⟩
  | mgtWrAckRx _ _ => exact ⟨_, rfl, (mgtWrAckRx_frame _ _ _).mono rfl⟩
  | tunnelTimeout _ => exact ⟨_, rfl, (tunnelTimeout_frame _ _).mono rfl⟩
  | enuProbeRx _ _ => exact ⟨_, rfl, (enuProbeRx_frame _ _ _).mono rfl⟩
  | enuReplyRx _ _ => exact ⟨_, rfl, (enuReplyRx_frame _ _ _).mono rfl⟩
  | enuAssignRx _ _ => exact ⟨_, rfl, (enuAssignRx_frame _ _ _).mono rfl⟩
  | enuDoneRx _ _ => exact ⟨_, rfl, (enuDoneRx_frame _ _ _).mono rfl⟩
  | enuRefuseRx _ _ => exact ⟨_, rfl, (enuRefuseRx_frame _ _ _).mono rfl⟩
  | enuProbeTimeout _ => exact ⟨_, rfl, (enuProbeTimeout_frame _ _).mono rfl⟩
  | canFrameRx _ _ => exact ⟨_, rfl, (canFrameRx_frame _ _ _ _).mono rfl⟩
  | pressStateTimeout => exact ⟨_, rfl, (pressStateTimeout_frame _).mono rfl⟩
  | busOffEntry _ _ _ => exact ⟨_, rfl, (busOffEntry_frame _ _ _ _).mono rfl⟩
  | busOffRecovery _ => exact ⟨_, rfl, (busOffRecovery_frame _ _).mono rfl⟩
  | speedDemandTx => exact ⟨_, rfl, (speedDemandTx_frame _).mono rfl⟩
  | statusTx => exact ⟨_, rfl, (statusTx_frame _).mono rfl⟩
  | heartbeatTx => exact ⟨_, rfl, (heartbeatTx_frame _).mono rfl⟩
  | canTxDone _ => exact ⟨_, rfl, (canTxDone_frame _ _ _ _ _).mono rfl⟩
  | busSendTimeout _ => exact ⟨_, rfl, (busSendTimeout_frame _ _).mono rfl⟩
  | stopNAccepted => exact ⟨_, rfl, (stopNAccepted_frame _).mono rfl⟩
  | stopNReleased => exact ⟨_, rfl, (stopNReleased_frame _).mono rfl⟩
  | spdDemPeriod => exact ⟨_, rfl, (spdDemPeriod_frame _).mono rfl⟩
  | vbatPowerOn => exact ⟨_, rfl, (vbatPowerOn_frame _).mono rfl⟩
  | corePor => exact ⟨_, rfl, (corePor_frame _).mono rfl⟩
  | pinReset => exact ⟨_, rfl, (pinReset_frame _).mono rfl⟩
  | watchdogExpiry => exact ⟨_, rfl, (watchdogExpiry_frame _).mono rfl⟩
  | selfResetDrive => exact ⟨_, rfl, (selfResetDrive_frame _).mono rfl⟩
  | selfDriveEnd => exact ⟨_, rfl, (selfDriveEnd_frame _).mono rfl⟩
  | resetSourceRelease _ => exact ⟨_, rfl, (resetSourceRelease_frame _ _).mono rfl⟩
  | fuseLoadDone _ => exact ⟨_, rfl, (fuseLoadDone_frame _ _).mono rfl⟩
  | stretchEnd _ _ _ => exact ⟨_, rfl, (stretchEnd_frame _ _ _ _).mono rfl⟩
  | pllLock => exact ⟨_, rfl, (pllLock_frame _).mono rfl⟩
  | spnuClockLock => exact ⟨_, rfl, (spnuClockLock_frame _).mono rfl⟩
  | mainFirmwareReady => exact ⟨_, rfl, (mainFirmwareReady_frame _).mono rfl⟩
  | otpMarginRecheck _ => exact ⟨_, rfl, (otpMarginRecheck_frame _ _).mono rfl⟩
  | scrubStep _ _ => exact ⟨_, rfl, (scrubStep_frame _ _ _).mono rfl⟩
  | dacCalibration _ _ => exact ⟨_, rfl, (dacCalibration_frame _ _ _).mono rfl⟩
  | senseAdcCalibration _ => exact ⟨_, rfl, (senseAdcCalibration_frame _ _).mono rfl⟩
  | jtagDebugAttach => exact ⟨_, rfl, (jtagDebugAttach_frame _).mono rfl⟩
  | setEndpointId _ _ _ => exact ⟨_, rfl, (setEndpointId_frame _ _ _ _).mono rfl⟩
  | getEndpointId _ => exact ⟨_, rfl, (getEndpointId_frame _ _).mono rfl⟩
  | getMctpVersionSupport _ _ => exact ⟨_, rfl, (getMctpVersionSupport_frame _ _ _).mono rfl⟩
  | getMessageTypeSupport _ => exact ⟨_, rfl, (getMessageTypeSupport_frame _ _).mono rfl⟩
  | mctpCmd _ _ => exact ⟨_, rfl, (mctpCmd_frame _ _ _).mono rfl⟩
  | mctpDataWr _ _ _ => exact ⟨_, rfl, (mctpDataWr_frame _ _ _ _).mono rfl⟩
  | mctpDataRd _ _ _ => exact ⟨_, rfl, (mctpDataRd_frame _ _ _ _).mono rfl⟩
  | getVersion _ _ => exact ⟨_, rfl, (getVersion_frame _ _ _).mono rfl⟩
  | getCapabilities _ _ => exact ⟨_, rfl, (getCapabilities_frame _ _ _).mono rfl⟩
  | negotiateAlgorithms _ _ => exact ⟨_, rfl, (negotiateAlgorithms_frame _ _ _).mono rfl⟩
  | getDigests _ _ => exact ⟨_, rfl, (getDigests_frame _ _ _).mono rfl⟩
  | getCertificate _ _ => exact ⟨_, rfl, (getCertificate_frame _ _ _).mono rfl⟩
  | challenge _ _ => exact ⟨_, rfl, (challenge_frame _ _ _).mono rfl⟩
  | getMeasurements _ _ => exact ⟨_, rfl, (getMeasurements_frame _ _ _).mono rfl⟩
  | spdmUnsupportedRequest _ _ => exact ⟨_, rfl, (spdmUnsupportedRequest_frame _ _ _).mono rfl⟩
  | dmaTransferDone _ _ => exact ⟨_, rfl, (dmaTransferDone_frame _ _ _).mono rfl⟩
  | headI2cTransferDone _ _ _ => exact ⟨_, rfl, (i2cDone_frame _ _ _ _).mono rfl⟩
  | otpPulseEnd _ _ => exact ⟨_, rfl, (otpPulseEnd_frame _ _ _).mono rfl⟩
  | flashWriteDone _ => exact ⟨_, rfl, (flashWriteDone_frame _ _).mono rfl⟩
  | flashPauseTimeout => exact ⟨_, rfl, (flashPauseTimeout_frame _).mono rfl⟩
  | vppPresenceChange _ => exact ⟨_, rfl, (vppPresenceChange_frame _ _).mono rfl⟩

/-- What a row does not touch is as it was. -/
theorem exec_untouched (c : Instr) (s : State) : ∃ t, exec c s = .next t ∧ Part.back (touches c) s t = s :=
  (exec_frame c s).imp fun _ ⟨he, hf⟩ => ⟨he, hf.back⟩

/-- The next state of a row, as its frame has it. -/
theorem frame_of_exec {c : Instr} {s t : State} (h : exec c s = .next t) : Frame Part.every s t := by
  obtain ⟨u, hu, hf⟩ := exec_frame c s
  cases hu.symm.trans h
  exact hf.mono (by cases c <;> rfl)

/-- The next state of a row, by what its operation comes to. -/
theorem exec_of {c : Instr} {s u t : State} (he : exec c s = .next u) (h : u = t) : exec c s = .next t := h ▸ he

/-! ### The idle step -/

/-- A waiting command that has left the list runs as its row does, with a mark while it runs. -/
theorem runWaiting_frame {w : Waiting} {s t : State} (h : runWaiting w s = .next t) : Frame Part.every s t := by
  unfold runWaiting at h
  split at h
  · cases h
    exact (refuse_frame _ _ _).mono rfl
  · rename_i i _
    split at h
    · cases h
      exact (refuse_frame _ _ _).mono rfl
    · have mark : Frame Part.every s { s with resuming := true } := Frame.upd (Frame.refl _ _) rfl rfl
      split at h <;> cases h
      rename_i u hu
      exact Frame.upd (mark.trans (frame_of_exec hu)) rfl rfl

/-- So does one that starts: here, through the tunnel, or on every node. -/
theorem startWaiting_frame {w : Waiting} {s t : State} (h : startWaiting w s = .next t) : Frame Part.every s t := by
  unfold startWaiting at h
  split at h
  · cases h
    exact (startRemote_frame _ _).mono rfl
  · split at h
    · split at h
      · have tree : Frame Part.every s (if s.rootOfTree then bcastOut s w else s) :=
          Frame.ite ((bcastOut_frame _ _).mono rfl) (Frame.refl _ _)
        exact tree.trans (runWaiting_frame h)
      · cases h
        exact (refuse_frame _ _ _).mono rfl
    · exact runWaiting_frame h

/-- A step without a pending command. -/
theorem idle_frame {s t : State} (h : idle s = .next t) : Frame Part.every s t := by
  have phase : Frame Part.every s (s.advance 1) := (State.advance_frame _ _).mono rfl
  unfold idle at h
  split at h
  · split at h
    · rename_i rest _
      have taken : Frame Part.every s { s with waiting := rest } := Frame.upd (Frame.refl _ _) rfl rfl
      exact taken.trans (startWaiting_frame h)
    · cases h
      exact phase
  · cases h
    exact phase

/-! ### The statements -/

/-- Settles O11: every meaning runs in the frame of its row. -/
theorem timeNeverRunsBack : Obligations.TimeNeverRunsBack := by
  intro c s t h
  have hf := frame_of_exec h
  exact ⟨hf.time, hf.sent, hf.pendingSame⟩

/-- Settles O10: the memories stay canonical in every frame, that of the idle step included. -/
theorem memoriesStayCanonical : Obligations.MemoriesStayCanonical := by
  intro s t hm h
  unfold step at h
  split at h
  · exact (frame_of_exec h).mems hm
  · exact (idle_frame h).mems hm

/-- Nothing that waits can start on an empty list. -/
theorem nextStart_nil (s : State) : nextStart s [] [] = none := rfl

/-- Settles O2: every row has its next state, and an idle step with nothing to start takes one phase. -/
theorem stepNeverStops : Obligations.StepNeverStops := by
  refine ⟨fun c s => (exec_frame c s).imp fun _ h => h.1, fun s hp hi => ?_⟩
  unfold step
  rw [hp]
  unfold idle
  dsimp only
  rcases hi with hc | hw
  · rw [if_neg (by simp [hc])]
  · rw [hw, nextStart_nil, ite_self]

/-- Settles O1: the step takes the front of the queue. -/
theorem stepRunsFrontCommand : Obligations.StepRunsFrontCommand := fun _ _ _ => rfl

/-- Settles O59: each row leaves alone what it does not touch. -/
theorem confinedHappeningsFrame : Obligations.ConfinedHappeningsFrame := by
  unfold Obligations.ConfinedHappeningsFrame
  repeat' apply And.intro
  all_goals
    intros
    exact exec_untouched _ _

/-- Settles O60: each row leaves alone what it does not touch. -/
theorem wideHappeningsFrame : Obligations.WideHappeningsFrame := by
  unfold Obligations.WideHappeningsFrame
  repeat' apply And.intro
  all_goals
    intros
    exact exec_untouched _ _

end Sys2Proof.Machine
end

section
/-! PROOFS. How every command starts, whatever it is (13_commands_events.md R362, R365 to R371; 14_reset_boot.md R402): each command row runs in
the shared frame `command`, with a dry run that only reports or asks for its data (O5, O6); opcodes (O8); core POR (O3, O4). -/

set_option Elab.async false

namespace Sys2Proof.Machine

/-! ### What asking for host data leaves alone -/

@[simp] theorem request_device (s : State) (l : List Out) : (s.request l).device = s.device := by
  have sent : ∀ (l : List Out) (t : State), (l.foldl State.emit t).device = t.device := by
    intro l
    induction l with
    | nil => exact fun _ => rfl
    | cons o l ih => exact fun t => ih (t.emit o)
  unfold State.request
  split
  · simp
  · exact sent l s

@[simp] theorem readIn_device (s : State) (id : Nat) (h : CmdHdr) (addr len : Nat) (ns : Bool) :
    (readIn s id h addr len ns).device = s.device := by
  have asked : ∀ (l : List Nat) (f : Nat → Bytes) (n k t : Nat) (u : State),
      (l.foldl (fun u i => sendMgt u n k t (f i)) u).device = u.device := by
    intro l f n k t
    induction l with
    | nil => exact fun _ => rfl
    | cons i l ih => exact fun u => (ih _).trans (sendMgt_device u n k t (f i))
  unfold readIn
  split
  · exact request_device _ _
  · exact asked _ _ _ _ _ _
  all_goals rfl

@[simp] theorem beginExec_device (s : State) (op : Nat) (h : CmdHdr) (p : Params) (w : Wait) (need : Nat) :
    (beginExec s op h p w need).device = s.device := rfl

@[simp] theorem beginRead_device (s : State) (op : Nat) (h : CmdHdr) (p : Params) (addr len : Nat) (ns : Bool) :
    (beginRead s op h p addr len ns).device = s.device := by
  unfold beginRead
  split <;> simp

/-! ### Every command row is a command of the shared frame -/

/-- The row means a command of the shared frame, whose dry run leaves the device alone. -/
def RunsCommand (i : Instr) (s : State) (op : Nat) (h : CmdHdr) (p : Params) : Prop :=
  ∃ fields checks dry act, exec i s = .next (command op h p s fields checks dry act) ∧ (dry s).device = s.device

section
variable {i : Instr} {s : State} {op : Nat} {h : CmdHdr} {p : Params} {fields : List (Nat × Nat)} {checks : List (Bool × Nat)}

/-- A dry run that only completes. -/
theorem RunsCommand.of_completes {st res : State → Nat} {act : State → State} {u : State} (he : exec i s = .next u)
    (hu : u = command op h p s fields checks (fun t => complete t h (st t) (res t)) act) : RunsCommand i s op h p :=
  ⟨_, _, _, _, hu ▸ he, complete_device _ _ _ _⟩

theorem RunsCommand.of_plain {act : State → State} (he : exec i s = .next (plainCmd op h p s fields checks act)) :
    RunsCommand i s op h p :=
  .of_completes he rfl

theorem RunsCommand.of_report {addr : Nat} {data : State → Bytes} {res : State → Nat}
    (he : exec i s = .next (reportCmd op h p s fields checks addr data res)) : RunsCommand i s op h p :=
  .of_completes he rfl

/-- A dry run that reads its host data. -/
theorem RunsCommand.of_reads {addr len : Nat} {ns : Bool} {act : State → State} {u : State} (he : exec i s = .next u)
    (hu : u = command op h p s fields checks (fun t => beginRead t op h p addr len ns) act) : RunsCommand i s op h p :=
  ⟨_, _, _, _, hu ▸ he, beginRead_device _ _ _ _ _ _ _⟩

theorem RunsCommand.of_read {addr len : Nat} {ns : Bool} (he : exec i s = .next (readCmd op h p s fields checks addr len ns)) :
    RunsCommand i s op h p :=
  .of_reads he rfl

end

/-- WAVE_LOAD frees a slot or reads samples. -/
theorem waveLoad_runs (h : CmdHdr) (p : Params) (s : State) : RunsCommand (.waveLoad h p) s 0x0501 h p := by
  by_cases free : bit (fld p 11 1) 1 = true
  · exact .of_plain (congrArg Host.Outcome.next (if_pos free))
  · exact .of_read (congrArg Host.Outcome.next (if_neg free))

/-- SCREEN_LOAD: load, select, free, or no such operation. -/
theorem screenLoad_runs (h : CmdHdr) (p : Params) (s : State) : RunsCommand (.screenLoad h p) s 0x0601 h p := by
  have he : exec (.screenLoad h p) s = .next (screenLoad h p s) := rfl
  unfold screenLoad at he
  split at he
  · exact .of_read he
  · split at he
    · exact .of_completes he (screenLoadSelect.eq_1 h p s)
    · split at he
      · exact .of_plain he
      · exact .of_plain he

/-- MASK_LOAD: load, free, or no such operation. -/
theorem maskLoad_runs (h : CmdHdr) (p : Params) (s : State) : RunsCommand (.maskLoad h p) s 0x0604 h p := by
  have he : exec (.maskLoad h p) s = .next (maskLoad h p s) := rfl
  unfold maskLoad at he
  split at he
  · exact .of_read he
  · split at he
    · exact .of_plain he
    · exact .of_plain he

/-- NOZ_MAP_SET reads states, or acts at once. -/
theorem nozMapSet_runs (h : CmdHdr) (p : Params) (s : State) : RunsCommand (.nozMapSet h p) s 0x0701 h p := by
  by_cases data : fld p 9 1 = 0
  · exact .of_read (congrArg Host.Outcome.next (if_pos data))
  · exact .of_completes rfl (if_neg data)

/-- RVS_LEARN reads a signature set, or acts at once. -/
theorem rvsLearn_runs (h : CmdHdr) (p : Params) (s : State) : RunsCommand (.rvsLearn h p) s 0x0704 h p := by
  by_cases data : fld p 9 1 = 3
  · exact .of_read (congrArg Host.Outcome.next (if_pos data))
  · exact .of_completes rfl (if_neg data)

/-- For every command of the table. -/
theorem runsCommand_of_opcode (i : Instr) (s : State) :
    match opcodeOf i with
    | some (op, h, p) => RunsCommand i s op h p
    | none => True := by
  cases i with
  | nop h p => exact .of_completes rfl (nop.eq_1 h p s)
  | getInfo h p => exact .of_report rfl
  | setProfile h p => exact .of_plain rfl
  | selfReset h p => exact .of_completes rfl (selfReset.eq_1 h p s)
  | setTime h p => exact .of_completes rfl (setTime.eq_1 h p s)
  | getCounters h p => exact .of_completes rfl (getCounters.eq_1 h p s)
  | ringCreate h p => exact .of_plain rfl
  | ringDestroy h p => exact .of_completes rfl (ringDestroy.eq_1 h p s)
  | ringResume h p => exact .of_plain rfl
  | portOpen h p => exact .of_completes rfl (portOpen.eq_1 h p s)
  | portClose h p => exact .of_completes rfl (portClose.eq_1 h p s)
  | portConfig h p => exact .of_completes rfl (portConfig.eq_1 h p s)
  | portQuery h p => exact .of_report rfl
  | headmemRead h p => exact .of_completes rfl (headmemRead.eq_1 h p s)
  | headmemWrite h p => exact .of_read rfl
  | heaterSet h p => exact .of_plain rfl
  | headProfileLoad h p => exact .of_read rfl
  | encConfig h p => exact .of_plain rfl
  | encQuery h p => exact .of_report rfl
  | encPreset h p => exact .of_plain rfl
  | quireBind h p => exact .of_plain rfl
  | sosConfig h p => exact .of_plain rfl
  | jobDefine h p => exact .of_plain rfl
  | jobArm h p => exact .of_completes rfl (jobArm.eq_1 h p s)
  | jobStop h p => exact .of_completes rfl (jobStop.eq_1 h p s)
  | jobAbort h p => exact .of_completes rfl (jobAbort.eq_1 h p s)
  | jobQuery h p => exact .of_report rfl
  | demandConfig h p => exact .of_plain rfl
  | tableCommit h p => exact .of_completes rfl (tableCommit.eq_1 h p s)
  | waveLoad h p => exact waveLoad_runs h p s
  | levelMapLoad h p => exact .of_completes rfl (levelMapLoad.eq_1 h p s)
  | waveTcompLoad h p => exact .of_read rfl
  | fireOffsetSet h p => exact .of_completes rfl (fireOffsetSet.eq_1 h p s)
  | screenLoad h p => exact screenLoad_runs h p s
  | nucLoad h p => exact .of_read rfl
  | delayLoad h p => exact .of_read rfl
  | maskLoad h p => exact maskLoad_runs h p s
  | stitchConfig h p => exact .of_completes rfl (stitchConfig.eq_1 h p s)
  | deckleSet h p => exact .of_completes rfl (deckleSet.eq_1 h p s)
  | nozMapSet h p => exact nozMapSet_runs h p s
  | nozMapGet h p => exact .of_completes rfl (nozMapGet.eq_1 h p s)
  | rvsConfig h p => exact .of_plain rfl
  | rvsLearn h p => exact rvsLearn_runs h p s
  | compConfig h p => exact .of_completes rfl (compConfig.eq_1 h p s)
  | wearQuery h p => exact .of_completes rfl (wearQuery.eq_1 h p s)
  | thermLimits h p => exact .of_plain rfl
  | thermQuery h p => exact .of_completes rfl (thermQuery.eq_1 h p s)
  | sensorSubstitute h p => exact .of_plain rfl
  | supplyQuery h p => exact .of_report rfl
  | spineConfig h p => exact .of_plain rfl
  | spineEnumerate h p => exact .of_completes rfl (spineEnumerate.eq_1 h p s)
  | spineQuery h p => exact .of_report rfl
  | remoteEncBind h p => exact .of_plain rfl
  | busConfig h p => exact .of_plain rfl
  | busFilter h p => exact .of_plain rfl
  | busSend h p => exact .of_completes rfl (busSend.eq_1 h p s)
  | busQuery h p => exact .of_completes rfl (busQuery.eq_1 h p s)
  | otpRead h p => exact .of_report rfl
  | otpProgram h p => exact .of_completes rfl (otpProgram.eq_1 h p s)
  | otpSeal h p => exact .of_completes rfl (otpSeal.eq_1 h p s)
  | otpMarginCheck h p => exact .of_completes rfl (otpMarginCheck.eq_1 h p s)
  | otpLock h p => exact .of_completes rfl (otpLock.eq_1 h p s)
  | fwStage h p => exact .of_reads rfl (fwStage.eq_1 h p s)
  | fwVerify h p => exact .of_completes rfl (fwVerify.eq_1 h p s)
  | fwActivate h p => exact .of_completes rfl (fwActivate.eq_1 h p s)
  | fwQuery h p => exact .of_completes rfl (fwQuery.eq_1 h p s)
  | colophonRead h p => exact .of_completes rfl (colophonRead.eq_1 h p s)
  | colophonLog h p => exact .of_completes rfl (colophonLog.eq_1 h p s)
  | loopback h p => exact .of_read rfl
  | testPattern h p => exact .of_plain rfl
  | eventConfig h p => exact .of_completes rfl (eventConfig.eq_1 h p s)
  | backgroundConfig h p => exact .of_completes rfl (backgroundConfig.eq_1 h p s)
  | pageAlloc h p => exact .of_completes rfl (pageAlloc.eq_1 h p s)
  | pageFree h p => exact .of_completes rfl (pageFree.eq_1 h p s)
  | pageFill h p => exact .of_read rfl
  | pageQuery h p => exact .of_report rfl
  | _ => exact trivial

/-- The command that an opcode names runs in the shared frame. -/
theorem runsCommand {i : Instr} {op : Nat} {h : CmdHdr} {p : Params} (hi : opcodeOf i = some (op, h, p)) (s : State) :
    RunsCommand i s op h p := by
  have := runsCommand_of_opcode i s
  rwa [hi] at this

/-! ### The statements -/

/-- Settles O5, by the ways a command of the shared frame can go. -/
theorem commandsStartInOrder : Obligations.CommandsStartInOrder := by
  intro i op h p s hi
  obtain ⟨fields, checks, dry, act, he, -⟩ := runsCommand hi s
  rw [he]
  refine ⟨fun hc => ?_, fun hc hw => ?_, fun hc hw hr ho => ?_, fun hs hf => ?_⟩
  · rw [command_noCores hc]
  · rw [command_waits hc hw]
  · rw [command_rom hc hw hr (by simpa using ho)]
  · rw [command_refuses hs (st := stBadParam - 1) (firstBad_cons_of_true (by simp [hf]) _ _)]
    rfl

/-- Settles O6: a dry run waits, is refused, or reports; none of them reaches the device. -/
theorem dryRunMovesNothing : Obligations.DryRunMovesNothing := by
  intro i op h p s hi hd
  obtain ⟨fields, checks, dry, act, he, hdev⟩ := runsCommand hi s
  refine ⟨_, he, ?_⟩
  rcases command_cases op h p s fields checks dry act with e | e | ⟨st, e⟩ | ⟨-, e⟩ | ⟨hn, -⟩
  · rw [e]
  · rw [e, waiting_device]
  · rw [e, refuse_device]
  · rw [e, hdev]
  · exact absurd (hd.symm.trans hn) (by decide)

/-- Settles O8: the table of opcodes, read both ways. -/
theorem opcodesNameCommands : Obligations.OpcodesNameCommands := by
  refine ⟨fun op h p i hc => ?_, fun op h p i hi => ?_⟩
  · unfold commandOf at hc
    split at hc <;> cases hc <;> rfl
  · cases i <;> cases hi <;> rfl

/-- Settles O3: the reset values of the fields. -/
theorem resetState : Obligations.ResetState := by
  have ring (r : Fin 64) : State.reset.ring r = .reset := look_replicate _ r
  have source (n : Fin 16) : State.reset.source n = .reset := look_replicate _ n
  have port (p : Fin 32) : State.reset.port p = .reset := look_replicate _ p
  have quire (q : Fin 8) : State.reset.quire q = .reset := look_replicate _ q
  have can (c : Fin 2) : State.reset.can c = .reset := by unfold State.can; split <;> rfl
  refine ⟨rfl, rfl, rfl, rfl, rfl, rfl, fun r => ?_, fun n => ?_, fun p => ?_, fun q => ?_, rfl, rfl, fun c => ?_,
    fun n => look_replicate _ n, rfl, rfl, fun g => look_replicate _ g, rfl⟩
  · rw [ring]; rfl
  · rw [source]; rfl
  · rw [port]; rfl
  · rw [quire]; rfl
  · rw [can]; rfl

/-- Settles O4: nothing is listed in either memory. -/
theorem resetMemoriesCanonical : Obligations.ResetMemoriesCanonical := rfl

end Sys2Proof.Machine
end

section
/-! PROOFS. MCTP and SPDM (15_otp_trust.md R440 to R442): the staging window (O9), control, vendor and SPDM messages (O58). -/

set_option Elab.async false

namespace Sys2Proof.Machine

/-! ### The vendor messages (R441) -/

/-- Data of 1 to 48 bytes that fit the window are stored. -/
theorem mctpDataWr_stores {b : MctpBinding} {ofs : U32} {data : Bytes} {s : State} (hb : mctpUp s b = true) (h1 : 1 ≤ data.length)
    (h48 : data.length ≤ 48) (hw : ofs.toNat + data.length ≤ s.window) :
    mctpDataWr b ofs data s = { s with mgt := { s.mgt with sram := s.mgt.sram.write ofs.toNat data } } := by
  unfold mctpDataWr
  rw [if_neg]
  simp only [hb, out, Bool.not_true, Bool.false_or, Bool.or_eq_true, decide_eq_true_eq]
  omega

/-- All other data are not. -/
theorem mctpDataWr_ignores {b : MctpBinding} {ofs : U32} {data : Bytes} {s : State}
    (h : mctpUp s b = false ∨ data.length = 0 ∨ 48 < data.length ∨ s.window < ofs.toNat + data.length) : mctpDataWr b ofs data s = s := by
  unfold mctpDataWr
  rw [if_pos]
  rcases h with h | h | h | h <;> simp [h, out]

/-- 1 to 48 bytes inside the window are answered. -/
theorem mctpDataRd_answers {b : MctpBinding} {ofs : U32} {len : Byte} {s : State} (hb : mctpUp s b = true) (h1 : 1 ≤ len.toNat)
    (h48 : len.toNat ≤ 48) (hw : ofs.toNat + len.toNat ≤ s.window) :
    mctpDataRd b ofs len s = s.emit (.mctpReply (isVdm b) (vendorMsg 4 (s.mgt.sram.bytes ofs.toNat len.toNat))) := by
  unfold mctpDataRd
  rw [if_neg]
  simp only [hb, out, Bool.not_true, Bool.false_or, Bool.or_eq_true, decide_eq_true_eq]
  omega

/-- Nothing else is. -/
theorem mctpDataRd_ignores {b : MctpBinding} {ofs : U32} {len : Byte} {s : State}
    (h : mctpUp s b = false ∨ len.toNat = 0 ∨ 48 < len.toNat ∨ s.window < ofs.toNat + len.toNat) : mctpDataRd b ofs len s = s := by
  unfold mctpDataRd
  rw [if_pos]
  rcases h with h | h | h | h <;> simp [h, out]

/-- Settles O9: what was written is read back, by the laws of the sparse memory. -/
theorem stagingWindowKeepsData : Obligations.StagingWindowKeepsData := by
  intro s b c ofs data len hwf hb hc hlen h1 h48 hw
  refine ⟨_, exec_of rfl (mctpDataWr_stores hb h1 h48 hw), ?_, fun a ha => Mem.read_write_outside data hwf ha, rfl⟩
  have stored := mctpDataRd_answers (b := c) (ofs := ofs) (len := len)
    (s := { s with mgt := { s.mgt with sram := s.mgt.sram.write ofs.toNat data } }) hc (by omega) (by omega) (hlen ▸ hw)
  refine exec_of rfl (stored.trans ?_)
  rw [hlen]
  exact congrArg (fun d => State.emit _ (.mctpReply (isVdm c) (vendorMsg 4 d))) (Mem.bytes_write data ofs.toNat hwf)

/-! ### The responder (R442) -/

/-- A binding that is not up answers nothing. -/
theorem spdm_off {b : MctpBinding} {s : State} (hb : mctpUp s b = false) (checks : List (Bool × Nat)) (act : State → State) :
    spdm b s checks act = s := by
  simp [spdm, hb]

/-- Before READY every request is answered by ERROR Busy. -/
theorem spdm_busy {b : MctpBinding} {s : State} (hb : mctpUp s b = true) (hr : s.rst.seq ≠ .ready) (checks : List (Bool × Nat))
    (act : State → State) : spdm b s checks act = s.emit (.mctpReply (isVdm b) [5, 0x12, 0x7F, 3, 0]) := by
  simp [spdm, hb, hr, spdmError, spdmSend]

/-- In READY a request that no check refuses is answered. -/
theorem spdm_acts {b : MctpBinding} {s : State} (hon : (mctpUp s b && s.rst.seq == .ready) = true) {checks : List (Bool × Nat)}
    (hc : firstBad checks = 0) (act : State → State) : spdm b s checks act = act s := by
  simp only [Bool.and_eq_true, beq_iff_eq] at hon
  simp [spdm, hon, hc]

/-- A request of its length and version, in its turn, passes the common checks. -/
theorem spdmChecks_pass {req : Bytes} {len : Nat} {turn : Bool} (hl : len ≤ req.length) (hv : rdAt req 0 1 = 0x12) (ht : turn = true)
    (more : List (Bool × Nat)) : firstBad (spdmChecks req len turn ++ more) = firstBad more := by
  simp [spdmChecks, firstBad, hl, hv, ht]

/-- An SPDM answer is one message. -/
theorem spdmSend_spec (s : State) (b : MctpBinding) (msg : Bytes) : spdmSend s b msg = s.emit (.mctpReply (isVdm b) (5 :: msg)) := rfl

/-! ### Control messages (R440) -/

/-- Set Endpoint ID with a usable EID assigns it to the binding. -/
theorem setEndpointId_assigns {s : State} {b : MctpBinding} {op : BitVec 2} {eid : Byte} (hb : mctpUp s b = true) (ho : op.toNat < 2)
    (h0 : eid ≠ 0) (hF : eid ≠ 0xFF) : setEndpointId b op eid s =
      controlReply (if isVdm b then { s with mgt := { s.mgt with vdmEid := some eid } } else { s with mgt := { s.mgt with smbEid := some eid } })
        b 1 [0, 0, eid, 0] := by
  unfold setEndpointId
  have h3 : op ≠ 3 := by
    rintro rfl
    exact absurd ho (by decide)
  rw [if_neg (by simp [hb]), if_neg (fun h => h3 h.1), if_neg (by rintro (h | h | h) <;> [omega; exact h0 h; exact hF h])]

/-- Any other Set Endpoint ID only answers. -/
theorem setEndpointId_refuses {s : State} {b : MctpBinding} {op : BitVec 2} {eid : Byte} (hb : mctpUp s b = true)
    (h : 2 ≤ op.toNat ∨ eid = 0 ∨ eid = 0xFF) : ∃ body, setEndpointId b op eid s = controlReply s b 1 body := by
  unfold setEndpointId
  rw [if_neg (by simp [hb])]
  split
  · exact ⟨_, rfl⟩
  · exact ⟨_, rfl⟩

/-- A command entry waits, as one of MCTP. -/
theorem mctpCmd_waits {s : State} {b : MctpBinding} (e : BitVec 512) (hb : mctpUp s b = true) (hc : s.cores = true) :
    mctpCmd b e s = acceptEntry s (.mctp (isVdm b)) e := by
  simp [mctpCmd, hb, hc]

/-- Settles O58, message by message. -/
theorem mctpMessagesAreAnswered : Obligations.MctpMessagesAreAnswered := by
  intro s b on rest
  refine ⟨?_, ?_, ?_, ?_, ?_, ?_, ?_, ?_, ?_, ?_, ?_, ?_, ?_, ?_, ?_, ?_, ?_, ?_, ?_, ?_⟩
  · intro op eid ty req hb
    refine ⟨exec_of rfl ?_, exec_of rfl ?_, exec_of rfl ?_, exec_of rfl ?_, exec_of rfl ?_, exec_of rfl ?_⟩
    · simp [setEndpointId, hb]
    · simp [getEndpointId, hb]
    · simp [getMctpVersionSupport, hb]
    · simp [getMessageTypeSupport, hb]
    · unfold getVersion
      exact spdm_off hb _ _
    · unfold spdmUnsupportedRequest
      exact spdm_off hb _ _
  · intro op eid hb ho h0 hF
    refine ⟨_, exec_of rfl (setEndpointId_assigns hb ho h0 hF), ?_⟩
    cases b <;> exact ⟨rfl, rfl, rfl⟩
  · intro op eid hb h
    obtain ⟨body, hs⟩ := setEndpointId_refuses hb h
    exact ⟨_, exec_of rfl hs, rfl, rfl, rfl⟩
  · intro ty hb
    refine ⟨⟨_, exec_of rfl (if_pos hb), rfl, rfl, rfl⟩, ?_, ⟨_, exec_of rfl (if_pos hb), rfl, rfl, rfl⟩⟩
    refine ⟨_, exec_of rfl (if_neg (by simp [hb])), ?_⟩
    split <;> exact ⟨rfl, rfl, rfl⟩
  · intro e hb hc
    refine ⟨_, exec_of rfl (mctpCmd_waits e hb hc), ?_⟩
    simp [acceptEntry]
  · intro e h
    refine exec_of rfl (if_neg ?_)
    rcases h with h | h <;> simp [h]
  · intro ofs data hb h1 h48 hw
    exact exec_of rfl (mctpDataWr_stores hb h1 h48 hw)
  · intro ofs data h
    exact exec_of rfl (mctpDataWr_ignores h)
  · intro ofs len hb h1 h48 hw
    exact exec_of rfl (mctpDataRd_answers hb h1 h48 hw)
  · intro ofs len h
    exact exec_of rfl (mctpDataRd_ignores h)
  · intro req hb hr
    exact ⟨exec_of rfl ((getVersion.eq_1 b req s).trans (spdm_busy hb hr _ _)),
      exec_of rfl ((challenge.eq_1 b req s).trans (spdm_busy hb hr _ _)),
      exec_of rfl ((spdmUnsupportedRequest.eq_1 b req s).trans (spdm_busy hb hr _ _))⟩
  · intro req hon hl hv
    exact ⟨_, exec_of rfl ((getVersion.eq_1 b req s).trans (spdm_acts hon (by simp [firstBad, hl, hv]) _)), rfl, rfl, rfl, rfl, rfl, rfl, rfl⟩
  · intro req hon hl hv ht
    exact ⟨_, exec_of rfl ((getCapabilities.eq_1 b req s).trans (spdm_acts hon (spdmChecks_pass hl hv ht []) _)), rfl, rfl, rfl, rfl, rfl⟩
  · intro req hon hl hv ht
    exact ⟨_, exec_of rfl ((negotiateAlgorithms.eq_1 b req s).trans (spdm_acts hon (spdmChecks_pass hl hv ht []) _)), rfl, rfl, rfl, rfl⟩
  · intro req hon hl hv ht
    exact ⟨_, exec_of rfl ((getDigests.eq_1 b req s).trans (spdm_acts hon (spdmChecks_pass hl hv ht []) _)), rfl, rfl, rfl⟩
  · intro req hon hl hv ht h2 ho
    refine ⟨_, exec_of rfl ((getCertificate.eq_1 b req s).trans (spdm_acts hon ((spdmChecks_pass hl hv ht _).trans ?_) _)), rfl, rfl, rfl⟩
    simp [firstBad, h2, ho]
  · intro req hon hl hv ht h2 hk hkey
    refine ⟨_, exec_of rfl ((challenge.eq_1 b req s).trans (spdm_acts hon ((spdmChecks_pass hl hv ht _).trans ?_) _)), rfl, rfl, rfl, rfl, rfl⟩
    rcases hk with hk | hk | hk <;> simp [firstBad, h2, hk, hkey]
  · intro req hon hl hv ht hs hk
    refine ⟨_, exec_of rfl ((getMeasurements.eq_1 b req s).trans (spdm_acts hon ((spdmChecks_pass (by simpa [hs] using hl) hv ht _).trans ?_) _)), rfl, rfl, rfl⟩
    rcases hk with hk | hk <;> simp [firstBad, hs, hk, out]
  · intro req hon hl hv ht hs h36 hk hkey
    refine ⟨_, exec_of rfl ((getMeasurements.eq_1 b req s).trans (spdm_acts hon ((spdmChecks_pass (by simpa [hs] using hl) hv ht _).trans ?_) _)), rfl, rfl, rfl, if_pos hs⟩
    rcases hk with hk | hk <;> simp [firstBad, hs, hk, h36, hkey, out]
  · intro req hon
    exact exec_of rfl ((spdmUnsupportedRequest.eq_1 b req s).trans (spdm_acts hon rfl _))

end Sys2Proof.Machine
end

section
/-! PROOFS. The commands of the table, by groups (O15 to O20): each one runs in the shared frame of a command (`answers_of_command`), with its
rule's refusals in their order and its own effect. -/

set_option Elab.async false

namespace Sys2Proof.Machine

/-! ### From a command's definition to its answer -/

section
variable {i : Instr} {s t u : State} {op : Nat} {h : CmdHdr} {p : Params} {fields : List (Nat × Nat)} {checks : List (Bool × Nat)}

/-- A row answers as its operation does, which is a command of the shared frame. -/
theorem answers_by {dry act : State → State} (he : exec i s = .next u) (hu : u = command op h p s fields checks dry act) (ht : act s = t) :
    answers i s op h p fields checks t :=
  answers_of_command (exec_of he hu) ht

/-- One that acts at once and completes with OK. -/
theorem answers_of_plain {act : State → State} (he : exec i s = .next u) (hu : u = plainCmd op h p s fields checks act)
    (ht : complete (act s) h stOk 0 = t) : answers i s op h p fields checks t :=
  answers_by he hu ht

/-- One that writes a record. -/
theorem answers_of_report {addr : Nat} {data : State → Bytes} {res : State → Nat} (he : exec i s = .next u)
    (hu : u = reportCmd op h p s fields checks addr data res)
    (ht : complete (writeOut s h addr (data s)) h (outSt s h) (res s) = t) : answers i s op h p fields checks t :=
  answers_by he hu ht

/-- One that begins to read its host data. -/
theorem answers_of_read {addr len : Nat} {ns : Bool} (he : exec i s = .next u)
    (hu : u = readCmd op h p s fields checks addr len ns) (ht : beginRead s op h p addr len ns = t) :
    answers i s op h p fields checks t :=
  answers_by he hu ht

/-- An operation that a rule does not list is refused with BAD_PARAM. -/
theorem exec_unlisted {act : State → State} (he : exec i s = .next u) (hu : u = plainCmd op h p s [] [(true, stBadParam)] act)
    (hs : mayStart s op h p = true) : exec i s = .next (refuse s h stBadParam) := by
  refine exec_of he (hu.trans ?_)
  have bad : firstBad ((flagsBad h || undefSet p [], stBadParam) :: [(true, stBadParam)]) = stBadParam - 1 + 1 :=
    firstBad_cons_same_status _ rfl stBadParam _
  exact command_refuses hs bad

end

/-! ### The groups -/

/-- Settles O15: one command after another. -/
theorem systemDiagAndPageCommandsAnswer : Obligations.SystemDiagAndPageCommandsAnswer := by
  intro h p s
  refine ⟨?_, ?_, ?_, ?_, ?_, ?_, ?_, ?_, ?_, ?_, ?_, ?_, ?_, ?_, ?_, ?_, ?_, ?_, ?_⟩
  · exact answers_by rfl (nop.eq_1 h p s) rfl
  · exact answers_of_report rfl (getInfo.eq_1 h p s) rfl
  · exact answers_of_plain rfl (setProfile.eq_1 h p s) rfl
  · exact answers_by rfl (selfReset.eq_1 h p s) rfl
  · exact answers_by rfl (setTime.eq_1 h p s) rfl
  · exact answers_by rfl (getCounters.eq_1 h p s) rfl
  · exact answers_of_read rfl (loopback.eq_1 h p s) rfl
  · exact answers_of_plain rfl (testPattern.eq_1 h p s) rfl
  · exact answers_by rfl (eventConfig.eq_1 h p s) rfl
  · exact answers_by rfl (backgroundConfig.eq_1 h p s) rfl
  · exact answers_by rfl (colophonRead.eq_1 h p s) rfl
  · exact answers_by rfl (colophonLog.eq_1 h p s) rfl
  · exact answers_of_plain rfl (ringCreate.eq_1 h p s) rfl
  · exact answers_by rfl (ringDestroy.eq_1 h p s) rfl
  · exact answers_of_plain rfl (ringResume.eq_1 h p s) rfl
  · exact answers_by rfl (pageAlloc.eq_1 h p s) rfl
  · exact answers_by rfl (pageFree.eq_1 h p s) rfl
  · exact answers_of_read rfl (pageFill.eq_1 h p s) rfl
  · exact answers_of_report rfl (pageQuery.eq_1 h p s) rfl

/-- Settles O16: one command after another. -/
theorem portAndHeadCommandsAnswer : Obligations.PortAndHeadCommandsAnswer := by
  intro h p s
  refine ⟨?_, ?_, ?_, ?_, ?_, ?_, ?_, ?_⟩
  · exact answers_by rfl (portOpen.eq_1 h p s) rfl
  · exact answers_by rfl (portClose.eq_1 h p s) rfl
  · exact answers_by rfl (portConfig.eq_1 h p s) rfl
  · exact answers_of_report rfl (portQuery.eq_1 h p s) rfl
  · exact answers_of_plain rfl (heaterSet.eq_1 h p s) rfl
  · exact answers_by rfl (headmemRead.eq_1 h p s) rfl
  · exact answers_of_read rfl (headmemWrite.eq_1 h p s) rfl
  · exact answers_of_read rfl (headProfileLoad.eq_1 h p s) rfl

/-- Settles O17: one command after another. -/
theorem positionAndJobCommandsAnswer : Obligations.PositionAndJobCommandsAnswer := by
  intro h p s
  refine ⟨?_, ?_, ?_, ?_, ?_, ?_, ?_, ?_, ?_, ?_, ?_, ?_⟩
  · exact answers_of_plain rfl (encConfig.eq_1 h p s) rfl
  · exact answers_of_report rfl (encQuery.eq_1 h p s) rfl
  · exact answers_of_plain rfl (encPreset.eq_1 h p s) rfl
  · exact answers_of_plain rfl (quireBind.eq_1 h p s) rfl
  · exact answers_of_plain rfl (sosConfig.eq_1 h p s) rfl
  · exact answers_of_plain rfl (jobDefine.eq_1 h p s) rfl
  · exact answers_by rfl (jobArm.eq_1 h p s) rfl
  · exact answers_by rfl (jobStop.eq_1 h p s) rfl
  · exact answers_by rfl (jobAbort.eq_1 h p s) rfl
  · exact answers_of_report rfl (jobQuery.eq_1 h p s) rfl
  · exact answers_of_plain rfl (demandConfig.eq_1 h p s) rfl
  · exact answers_by rfl (tableCommit.eq_1 h p s) rfl

/-- Settles O20: one command after another. -/
theorem spineBusOtpAndFirmwareCommandsAnswer : Obligations.SpineBusOtpAndFirmwareCommandsAnswer := by
  intro h p s
  refine ⟨?_, ?_, ?_, ?_, ?_, ?_, ?_, ?_, ?_, ?_, ?_, ?_, ?_, ?_, ?_, ?_, ?_⟩
  · exact answers_of_plain rfl (spineConfig.eq_1 h p s) rfl
  · exact answers_by rfl (spineEnumerate.eq_1 h p s) rfl
  · exact answers_of_report rfl (spineQuery.eq_1 h p s) rfl
  · exact answers_of_plain rfl (remoteEncBind.eq_1 h p s) rfl
  · exact answers_of_plain rfl (busConfig.eq_1 h p s) rfl
  · exact answers_of_plain rfl (busFilter.eq_1 h p s) rfl
  · exact answers_by rfl (busSend.eq_1 h p s) rfl
  · exact answers_by rfl (busQuery.eq_1 h p s) rfl
  · exact answers_of_report rfl (otpRead.eq_1 h p s) rfl
  · exact answers_by rfl (otpProgram.eq_1 h p s) rfl
  · exact answers_by rfl (otpSeal.eq_1 h p s) rfl
  · exact answers_by rfl (otpMarginCheck.eq_1 h p s) rfl
  · exact answers_by rfl (otpLock.eq_1 h p s) rfl
  · exact answers_by rfl (fwStage.eq_1 h p s) rfl
  · exact answers_by rfl (fwVerify.eq_1 h p s) rfl
  · exact answers_by rfl (fwActivate.eq_1 h p s) rfl
  · exact answers_by rfl (fwQuery.eq_1 h p s) rfl

/-- SCREEN_LOAD by its operation. -/
theorem screenLoad_select {h : CmdHdr} {p : Params} {s : State} (hop : fld p 8 1 = 1) : screenLoad h p s = screenLoadSelect h p s := by
  rw [screenLoad, if_neg (by omega), if_pos hop]

theorem screenLoad_free {h : CmdHdr} {p : Params} {s : State} (hop : fld p 8 1 = 2) : screenLoad h p s = screenLoadFree h p s := by
  rw [screenLoad, if_neg (by omega), if_neg (by omega), if_pos hop]

theorem screenLoad_unlisted {h : CmdHdr} {p : Params} {s : State} (hop : 2 < fld p 8 1) :
    screenLoad h p s = plainCmd 0x0601 h p s [] [(true, stBadParam)] id := by
  rw [screenLoad, if_neg (by omega), if_neg (by omega), if_neg (by omega)]

/-- MASK_LOAD by its operation. -/
theorem maskLoad_free {h : CmdHdr} {p : Params} {s : State} (hop : fld p 8 1 = 1) : maskLoad h p s = maskLoadFree h p s := by
  rw [maskLoad, if_neg (by omega), if_pos hop]

theorem maskLoad_unlisted {h : CmdHdr} {p : Params} {s : State} (hop : 1 < fld p 8 1) :
    maskLoad h p s = plainCmd 0x0604 h p s [] [(true, stBadParam)] id := by
  rw [maskLoad, if_neg (by omega), if_neg (by omega)]

/-- Settles O18: one command after another, and SCREEN_LOAD and MASK_LOAD by their operation. -/
theorem waveAndTableCommandsAnswer : Obligations.WaveAndTableCommandsAnswer := by
  intro h p s
  refine ⟨⟨fun free => ?_, fun load => ?_⟩, ?_, ?_, ?_, fun load => ?_, fun select => ?_, fun free => ?_, fun unlisted => ?_, ?_, ?_,
    fun load => ?_, fun free => ?_, fun unlisted => ?_, ?_, ?_, ?_⟩
  · exact answers_of_plain rfl (if_pos free) rfl
  · exact answers_of_read rfl (if_neg (by simp [load])) rfl
  · exact answers_by rfl (levelMapLoad.eq_1 h p s) rfl
  · exact answers_of_read rfl (waveTcompLoad.eq_1 h p s) rfl
  · exact answers_by rfl (fireOffsetSet.eq_1 h p s) rfl
  · exact answers_of_read rfl ((if_pos load).trans (screenLoadLoad.eq_1 h p s)) rfl
  · exact answers_by rfl ((screenLoad_select select).trans (screenLoadSelect.eq_1 h p s)) rfl
  · exact answers_of_plain rfl ((screenLoad_free free).trans (screenLoadFree.eq_1 h p s)) rfl
  · exact exec_unlisted rfl (screenLoad_unlisted unlisted)
  · exact answers_of_read rfl (nucLoad.eq_1 h p s) rfl
  · exact answers_of_read rfl (delayLoad.eq_1 h p s) rfl
  · exact answers_of_read rfl ((if_pos load).trans (maskLoadLoad.eq_1 h p s)) rfl
  · exact answers_of_plain rfl ((maskLoad_free free).trans (maskLoadFree.eq_1 h p s)) rfl
  · exact exec_unlisted rfl (maskLoad_unlisted unlisted)
  · exact answers_by rfl (stitchConfig.eq_1 h p s) rfl
  · exact answers_by rfl (deckleSet.eq_1 h p s) rfl
  · exact answers_by rfl (compConfig.eq_1 h p s) rfl

/-- Settles O19: one command after another, and NOZ_MAP_SET and RVS_LEARN by their operation. -/
theorem nozzleAndThermalCommandsAnswer : Obligations.NozzleAndThermalCommandsAnswer := by
  intro h p s
  refine ⟨⟨fun data => ?_, fun host => ?_, fun hd hh => ?_⟩, ?_, ?_,
    ⟨fun start => ?_, fun commit => ?_, fun abort => ?_, fun load => ?_, fun h0 h1 h2 h3 => ?_⟩, ?_, ?_, ?_, ?_, ?_⟩
  · exact answers_of_read rfl (if_pos data) rfl
  · exact answers_by rfl (if_neg (by omega)) (if_pos host)
  · exact answers_by rfl (if_neg hd) (if_neg hh)
  · exact answers_by rfl (nozMapGet.eq_1 h p s) rfl
  · exact answers_of_plain rfl (rvsConfig.eq_1 h p s) rfl
  · exact answers_by rfl (if_neg (by omega)) (if_pos (beq_iff_eq.mpr start))
  · exact answers_by rfl (if_neg (by omega)) ((if_neg (by simp [commit])).trans (if_pos commit))
  · exact answers_by rfl (if_neg (by omega)) ((if_neg (by simp [abort])).trans ((if_neg (by omega)).trans (if_pos abort)))
  · exact answers_of_read rfl (if_pos load) rfl
  · exact answers_by rfl (if_neg h3) ((if_neg (by simp [h0])).trans ((if_neg h1).trans (if_neg h2)))
  · exact answers_by rfl (wearQuery.eq_1 h p s) rfl
  · exact answers_of_plain rfl (thermLimits.eq_1 h p s) rfl
  · exact answers_by rfl (thermQuery.eq_1 h p s) rfl
  · exact answers_of_plain rfl (sensorSubstitute.eq_1 h p s) rfl
  · exact answers_of_report rfl (supplyQuery.eq_1 h p s) rfl

end Sys2Proof.Machine
end

section
/-! PROOFS. The registers of the rings (12_host_rings.md R341, R342, R345, R346, R354): O21. -/

set_option Elab.async false

namespace Sys2Proof.Machine

/-! ### Fields of a register word -/

/-- The low half of a word. -/
theorem low16_toNat (v : U32) : (v.extractLsb' 0 16).toNat = v.toNat % 65536 := by simp [BitVec.extractLsb'_toNat]

/-- A byte-aligned field of a word. -/
theorem field_toNat (v : U32) (i n : Nat) : (v.extractLsb' i n).toNat = v.toNat / 2 ^ i % 2 ^ n := by
  rw [BitVec.extractLsb'_toNat, Nat.shiftRight_eq_div_pow]

/-- The top byte of a word needs no reduction. -/
theorem topByte_toNat (v : U32) : (v.extractLsb' 24 8).toNat = v.toNat / 2 ^ 24 := by
  rw [field_toNat]
  omega

/-- A ring exists unless it is ABSENT. -/
theorem exists_iff (g : Ring) : g.exists_ = true ↔ g.st ≠ .absent := by simp [Ring.exists_]

theorem ringNo_val (r : Fin 64) : ringNo r.1 = r := Fin.ext (Nat.mod_eq_of_lt r.2)

/-! ### Doorbells and returns (R342) -/

/-- A doorbell that names a slot of a host-produced ring moves its tail. -/
theorem ringTailWrite_moves {s : State} {r : Fin 64} {v : U32} (hp : produced r.1 = false) (hg : (s.ring r).st ≠ .absent)
    (hn : v.toNat % 65536 < (s.ring r).size.toNat) :
    ringTailWrite r v s = s.modRing r fun x => { x with tail := v.toNat % 65536 } := by
  unfold ringTailWrite
  simp only [low16_toNat]
  rw [if_neg (by simp [hp, (exists_iff _).2 hg, hn])]

/-- Any other doorbell is an error. -/
theorem ringTailWrite_errs {s : State} {r : Fin 64} {v : U32}
    (h : produced r.1 = true ∨ (s.ring r).st = .absent ∨ (s.ring r).size.toNat ≤ v.toNat % 65536) : ringTailWrite r v s = glbErr s 1 := by
  unfold ringTailWrite
  simp only [low16_toNat]
  rw [if_pos (by rcases h with h | h | h <;> simp [h, Ring.exists_])]

/-- A return of slots in use of a controller-produced ring moves its head. -/
theorem ringHeadWrite_moves {s : State} {r : Fin 64} {v : U32} (hp : produced r.1 = true) (hg : (s.ring r).st ≠ .absent)
    (hn : v.toNat % 65536 < (s.ring r).size.toNat)
    (hb : (v.toNat % 65536 + (s.ring r).size.toNat - (s.ring r).head) % (s.ring r).size.toNat ≤ (s.ring r).used) :
    ringHeadWrite r v s = s.modRing r fun x => { x with head := v.toNat % 65536 } := by
  unfold ringHeadWrite
  simp only [low16_toNat]
  have hmax : max (s.ring r).size.toNat 1 = (s.ring r).size.toNat := Nat.max_eq_left (by omega)
  rw [if_neg (by simp [hp, (exists_iff _).2 hg, hn, hmax, hb])]

/-- Any other return is an error. -/
theorem ringHeadWrite_errs {s : State} {r : Fin 64} {v : U32}
    (h : produced r.1 = false ∨ (s.ring r).st = .absent ∨ (s.ring r).size.toNat ≤ v.toNat % 65536 ∨
      (s.ring r).used < (v.toNat % 65536 + (s.ring r).size.toNat - (s.ring r).head) % (s.ring r).size.toNat) :
    ringHeadWrite r v s = glbErr s 1 := by
  unfold ringHeadWrite
  simp only [low16_toNat]
  by_cases hn : (s.ring r).size.toNat ≤ v.toNat % 65536
  · rw [if_pos (by simp [hn])]
  · have hmax : max (s.ring r).size.toNat 1 = (s.ring r).size.toNat := Nat.max_eq_left (by omega)
    rw [hmax, if_pos (by rcases h with h | h | h | h <;> simp [h, Ring.exists_])]

/-! ### RING_CTRL (R341, R354) -/

/-- The plan that a write of RING_CTRL makes with the stored base and size. -/
def ctrlPlan (r : Fin 64) (v : U32) (g : Ring) : RingPlan :=
  ⟨r.1, v.getLsbD 2, v.toNat / 2 ^ 8 % 64, v.toNat / 2 ^ 16 % 64, g.size.toNat, g.base.toNat, v.toNat / 2 ^ 24⟩

/-- The fields that a write of RING_CTRL stores. -/
def ctrlFields (v : U32) (g : Ring) : Ring :=
  { g with holdoff := v.extractLsb' 24 8, pair := v.extractLsb' 16 6, vector := v.extractLsb' 8 6, irqEn := v.getLsbD 2 }

/-- The checks of a plan look at no more of a ring than whether it exists. -/
theorem planChecks_modRing (s : State) (r : Fin 64) {f : Ring → Ring} (hf : (f (s.ring r)).st = (s.ring r).st) (g : RingPlan) :
    planChecks (s.modRing r f) g = planChecks s g := by
  have hx : ((s.modRing r f).ring (ringNo g.pair)).exists_ = (s.ring (ringNo g.pair)).exists_ := by
    rw [modRing_ring]
    split
    · next h => subst h; simp [Ring.exists_, hf]
    · rfl
  unfold planChecks
  rw [hx]
  rfl

/-- Setting ENABLE on an ABSENT ring runs the checks of its plan. -/
theorem ringCtrlWrite_enables {s : State} {r : Fin 64} {v : U32} (hg : (s.ring r).st = .absent) (hv : v.getLsbD 0 = true) :
    ringCtrlWrite r v s = match firstBad (planChecks s (ctrlPlan r v (s.ring r))) with
      | 0 => createRing (s.modRing r (ctrlFields v)) (ctrlPlan r v (s.ring r))
      | st + 1 => (s.modRing r (ctrlFields v)).modRing r fun x => { x with haltCode := st + 1 } := by
  unfold ringCtrlWrite
  simp only [hg, hv, if_true]
  change enableRing (s.modRing r (ctrlFields v)) r = _
  have hplan : (⟨r.1, ((s.modRing r (ctrlFields v)).ring r).irqEn, ((s.modRing r (ctrlFields v)).ring r).vector.toNat,
      ((s.modRing r (ctrlFields v)).ring r).pair.toNat, ((s.modRing r (ctrlFields v)).ring r).size.toNat,
      ((s.modRing r (ctrlFields v)).ring r).base.toNat, ((s.modRing r (ctrlFields v)).ring r).holdoff.toNat⟩ : RingPlan) =
      ctrlPlan r v (s.ring r) := by
    simp only [modRing_ring_self, ctrlFields, ctrlPlan, field_toNat v 16 6, field_toNat v 8 6, topByte_toNat, Nat.reducePow]
  unfold enableRing
  simp only [hplan]
  rw [planChecks_modRing s r (f := ctrlFields v) rfl] <;> rfl

/-- The ring that a plan makes with a word's fields. -/
theorem createRing_ctrlPlan (s : State) (r : Fin 64) (v : U32) (g : Ring) :
    (createRing s (ctrlPlan r v g)).ring r =
        { Ring.reset with base := g.base, size := g.size, holdoff := v.extractLsb' 24 8, pair := v.extractLsb' 16 6,
                          vector := v.extractLsb' 8 6, irqEn := v.getLsbD 2, st := .active } ∧
      (∀ m, m ≠ r → (createRing s (ctrlPlan r v g)).ring m = s.ring m) ∧
      (32 ≤ r.1 → createRing s (ctrlPlan r v g) = { s with rings := (createRing s (ctrlPlan r v g)).rings }) := by
  have hh : BitVec.ofNat 8 (v.toNat / 2 ^ 24) = v.extractLsb' 24 8 := by rw [← topByte_toNat, BitVec.ofNat_toNat, BitVec.setWidth_eq]
  have hp : BitVec.ofNat 6 (v.toNat / 2 ^ 16 % 64) = v.extractLsb' 16 6 := by
    rw [show 64 = 2 ^ 6 from rfl, ← field_toNat v 16 6, BitVec.ofNat_toNat, BitVec.setWidth_eq]
  have hc : BitVec.ofNat 6 (v.toNat / 2 ^ 8 % 64) = v.extractLsb' 8 6 := by
    rw [show 64 = 2 ^ 6 from rfl, ← field_toNat v 8 6, BitVec.ofNat_toNat, BitVec.setWidth_eq]
  have made (m : Fin 64) : (createRing s (ctrlPlan r v g)).ring m = if r = m then
      { Ring.reset with base := g.base, size := g.size, holdoff := v.extractLsb' 24 8, pair := v.extractLsb' 16 6,
                        vector := v.extractLsb' 8 6, irqEn := v.getLsbD 2, st := .active } else s.ring m := by
    unfold createRing
    simp only [ctrlPlan, ringNo_val, hh, hp, hc, BitVec.ofNat_toNat, BitVec.setWidth_eq]
    split
    · rw [modPort_ring, modRing_ring]
    · rw [modRing_ring]
  refine ⟨by rw [made, if_pos rfl], fun m hm => by rw [made, if_neg (Ne.symm hm)], fun h32 => ?_⟩
  unfold createRing
  rw [if_neg (show ¬ (ctrlPlan r v g).ring < 32 from Nat.not_lt.mpr h32)]
  rfl

/-- Setting RESUME on a HALTED ring whose other fields stay makes it ACTIVE. -/
theorem ringCtrlWrite_resumes {s : State} {r : Fin 64} {v : U32} (hg : (s.ring r).st = .halted) (hv : v.getLsbD 1 = true)
    (hh : v.extractLsb' 24 8 = (s.ring r).holdoff) (hp : v.extractLsb' 16 6 = (s.ring r).pair)
    (hc : v.extractLsb' 8 6 = (s.ring r).vector) (hi : v.getLsbD 2 = (s.ring r).irqEn) :
    ringCtrlWrite r v s = s.modRing r fun x => { x with st := .active, haltCode := 0, rereads := 0 } := by
  unfold ringCtrlWrite
  simp only [hg, hv, hh, hp, hc, hi, beq_self_eq_true, Bool.and_self, if_true, reduceCtorEq, if_false]
  unfold resumeRing State.modRing
  have hl : (s.rings[r.1]).st = .halted := hg
  simp only [upd, hl, if_true]

/-- Settles O21, register by register. -/
theorem ringRegistersAct : Obligations.RingRegistersAct := by
  intro s r v g n plan
  refine ⟨fun hp hg hn => ?_, fun h => ?_, fun hp hg hn hb => ?_, fun h => ?_, rfl, fun hg hv hc => ?_, fun hg hv hc => ?_,
    fun hg hv hh hp hc hi => exec_of rfl (ringCtrlWrite_resumes hg hv hh hp hc hi)⟩
  · exact exec_of rfl (ringTailWrite_moves hp hg hn)
  · exact exec_of rfl (ringTailWrite_errs h)
  · exact exec_of rfl (ringHeadWrite_moves hp hg hn hb)
  · exact exec_of rfl (ringHeadWrite_errs h)
  · have he : ringCtrlWrite r v s = createRing (s.modRing r (ctrlFields v)) plan := by
      rw [ringCtrlWrite_enables hg hv]
      change (match firstBad (planChecks s plan) with | 0 => _ | st + 1 => _) = _
      rw [hc]
      rfl
    obtain ⟨hself, hother, hrest⟩ := createRing_ctrlPlan (s.modRing r (ctrlFields v)) r v g
    refine ⟨_, exec_of rfl he, hself, fun m hm => ?_, fun h32 => ?_⟩
    · exact (hother m hm).trans (modRing_ring_ne _ _ _ (Ne.symm hm))
    · exact congrArg (fun t : State => { t with rings := s.rings }) (hrest h32)
  · obtain ⟨st, hst⟩ := Nat.exists_eq_succ_of_ne_zero hc
    have he : ringCtrlWrite r v s = (s.modRing r (ctrlFields v)).modRing r fun x => { x with haltCode := st + 1 } := by
      rw [ringCtrlWrite_enables hg hv]
      change (match firstBad (planChecks s plan) with | 0 => _ | st + 1 => _) = _
      rw [hst]
    refine ⟨_, exec_of rfl he, ?_, fun r' hr => ?_, rfl⟩
    · rw [hst, modRing_ring_self, modRing_ring_self]
      rfl
    · rw [modRing_ring_ne _ _ _ (Ne.symm hr), modRing_ring_ne _ _ _ (Ne.symm hr)]

end Sys2Proof.Machine
end

section
/-! PROOFS. Host accesses to BAR 0 (00_scope.md R6; 12_host_rings.md R338; 02_position.md R74): O22, O23, O24. -/

set_option Elab.async false

namespace Sys2Proof.Machine

/-! ### The block and the place of an offset -/

/-- An offset below 16 MiB as a bit vector is itself. -/
theorem offset_toNat {n : Nat} (h : n < 2 ^ 24) : (BitVec.ofNat 24 n).toNat = n := by
  rw [BitVec.toNat_ofNat, Nat.mod_eq_of_lt h]

/-- The block depends on the page of the offset only, outside the two structures of MSI-X. -/
theorem blockOf_enc {n : Nat} (h : n / 0x1000 = 4) : blockOf n = some .enc := by simp [blockOf, h]

theorem blockOf_quire {n : Nat} (h : n / 0x1000 = 5) : blockOf n = some .quire := by simp [blockOf, h]

theorem blockOf_ring {n : Nat} (h : n / 0x1000 = 16) : blockOf n = some .ring := by simp [blockOf, h]

/-! ### Register writes (R6, R338) -/

/-- A write that is not aligned, or outside the blocks, only sets GLB_ERR.ACCESS. -/
theorem registerWrite_bad {off : BitVec 24} {v : U32} {s : State} (h : off.toNat % 4 ≠ 0 ∨ blockOf off.toNat = none) :
    registerWrite off v s = glbErr s 3 := by
  unfold registerWrite
  by_cases ha : off.toNat % 4 ≠ 0
  · exact if_pos ha
  · have hb := h.resolve_left ha
    rw [if_neg ha]
    simp only [hb]

/-- The blocks MGT and PBA are read-only. -/
theorem registerWrite_readOnly {off : BitVec 24} {v : U32} {s : State} (ha : off.toNat % 4 = 0)
    (hb : blockOf off.toNat = some .mgt ∨ blockOf off.toNat = some .pba) : registerWrite off v s = s := by
  unfold registerWrite
  rw [if_neg (by omega)]
  rcases hb with hb | hb <;> simp only [hb]

/-- A write into a position source's registers. -/
theorem registerWrite_enc (n : Fin 4) {k : Nat} (hk : k % 4 = 0) (hlt : k < 0x400) (v : U32) (s : State) :
    registerWrite (BitVec.ofNat 24 (0x4000 + k + 0x400 * n.1)) v s = encWrite (srcNo n.1) k v s := by
  have hn := n.2
  have hb : blockOf (0x4000 + k + 0x400 * n.1) = some .enc := blockOf_enc (by omega)
  have hsrc : (0x4000 + k + 0x400 * n.1) % 0x1000 / 0x400 = n.1 := by omega
  have hoff : (0x4000 + k + 0x400 * n.1) % 0x1000 % 0x400 = k := by omega
  unfold registerWrite
  rw [offset_toNat (by omega), if_neg (by omega)]
  simp only [hb, hsrc, hoff]
  rfl

/-- A write into a quire's registers. -/
theorem registerWrite_quire (q : Fin 8) {k : Nat} (hk : k % 4 = 0) (hlt : k < 0x200) (v : U32) (s : State) :
    registerWrite (BitVec.ofNat 24 (0x5000 + k + 0x200 * q.1)) v s = quireWrite q k v s := by
  have hq := q.2
  have hb : blockOf (0x5000 + k + 0x200 * q.1) = some .quire := blockOf_quire (by omega)
  have hno : quireNo ((0x5000 + k + 0x200 * q.1) % 0x1000 / 0x200) = q := Fin.ext (by show _ % 8 = _; omega)
  have hoff : (0x5000 + k + 0x200 * q.1) % 0x1000 % 0x200 = k := by omega
  unfold registerWrite
  rw [offset_toNat (by omega), if_neg (by omega)]
  simp only [hb, hno, hoff]

/-- A write into a ring's registers. -/
theorem registerWrite_ring (r : Fin 64) {k : Nat} (hk : k % 4 = 0) (hlt : k < 0x40) (v : U32) (s : State) :
    registerWrite (BitVec.ofNat 24 (0x10000 + k + 0x40 * r.1)) v s = ringWrite r k v s := by
  have hr := r.2
  have hb : blockOf (0x10000 + k + 0x40 * r.1) = some .ring := blockOf_ring (by omega)
  have hno : ringNo ((0x10000 + k + 0x40 * r.1) % 0x1000 / 0x40) = r := Fin.ext (by show _ % 64 = _; omega)
  have hoff : (0x10000 + k + 0x40 * r.1) % 0x1000 % 0x40 = k := by omega
  unfold registerWrite
  rw [offset_toNat (by omega), if_neg (by omega)]
  simp only [hb, hno, hoff]

/-- The port selection of window A. -/
theorem pselWrite_a (v : U32) (s : State) : pselWrite .a v s = { s with glb := { s.glb with
    pselA := v.setWidth 5, bcastA := v.getLsbD 31, err := if s.partPorts ≤ v.toNat % 32 then s.glb.err ||| 1 else s.glb.err } } := by
  unfold pselWrite
  simp only [BitVec.toNat_setWidth]
  split
  · rfl
  · rfl

/-- RING_SIZE of an ABSENT ring. -/
theorem ringWrite_size {r : Fin 64} {v : U32} {s : State} (h : (s.ring r).st = .absent) :
    ringWrite r 8 v s = s.modRing r fun g => { g with size := v.setWidth 17 } := by
  simp [ringWrite, ringCfgWrite, h]

/-- Settles O22: a write to a register of a block, row by row; the arrays of registers by the block's own lemma. -/
theorem registerWritesFollowAccess : Obligations.RegisterWritesFollowAccess := by
  unfold Obligations.RegisterWritesFollowAccess
  intro s v
  refine ⟨fun off h => exec_of rfl (registerWrite_bad h), rfl, rfl, exec_of rfl (pselWrite_a v s), rfl, rfl, rfl, rfl,
    fun n => exec_of rfl (registerWrite_enc n (k := 0x80) (by decide) (by decide) v s),
    fun q => exec_of rfl (registerWrite_quire q (k := 0x70) (by decide) (by decide) v s), rfl, rfl, rfl, fun r h => ?_,
    fun off ha hb => exec_of rfl (registerWrite_readOnly ha hb)⟩
  exact exec_of rfl ((registerWrite_ring r (k := 8) (by decide) (by decide) v s).trans (ringWrite_size h))

/-! ### Accesses of other sizes (R338) -/

/-- What BAR 0 does not accept: another size, a place that is not aligned or in no block, or eight bytes outside the structures of MSI-X. -/
theorem accessOk_eq_false {off size : Nat} (h : size ≠ 4 ∧ size ≠ 8 ∨ off % 4 ≠ 0 ∨ blockOf off = none ∨
    size = 8 ∧ (off % 8 ≠ 0 ∨ blockOf off ≠ some .msix ∧ blockOf off ≠ some .pba)) : accessOk off size = false := by
  unfold accessOk
  rcases h with ⟨h4, h8⟩ | ha | hb | ⟨h8, h | ⟨hm, hp⟩⟩
  · simp [h4, h8]
  · have : off % 8 ≠ 0 := by omega
    simp [ha, this]
  · simp [hb]
  · simp [h8, h]
  · simp [h8, hm, hp]

/-- Eight aligned bytes of the structures of MSI-X are accepted. -/
theorem accessOk_wide {off : Nat} (ha : off % 8 = 0) (hb : blockOf off = some .msix ∨ blockOf off = some .pba) : accessOk off 8 = true := by
  unfold accessOk
  rcases hb with hb | hb <;> simp [ha, hb]

/-- Four aligned bytes of a block are accepted. -/
theorem accessOk_word {off : Nat} (ha : off % 4 = 0) (hb : blockOf off ≠ none) : accessOk off 4 = true := by
  simp [accessOk, ha, Option.isSome_iff_ne_none, hb]

/-- An access that is not accepted. -/
theorem barAccessInvalid_bad {write : Bool} {off : BitVec 24} {size : Nat} {v : BitVec 64} {s : State} (h : accessOk off.toNat size = false) :
    barAccessInvalid write off size v s = if write then glbErr s 3 else (glbErr s 3).emit (.readData off.toNat 0) := by
  unfold barAccessInvalid
  simp [h]

/-- An access of eight bytes that is accepted. -/
theorem barAccessInvalid_wide {write : Bool} {off : BitVec 24} {v : BitVec 64} {s : State} (ha : off.toNat % 8 = 0)
    (hb : blockOf off.toNat = some .msix ∨ blockOf off.toNat = some .pba) :
    barAccessInvalid write off 8 v s = wideAccess write off.toNat v s := by
  unfold barAccessInvalid
  rw [if_pos (accessOk_wide ha hb), if_pos rfl]

/-- The PBA takes no write. -/
theorem wideAccess_pba {off : Nat} {v : BitVec 64} {s : State} (hb : blockOf off = some .pba) : wideAccess true off v s = s := by
  simp [wideAccess, hb]

/-- An access of four bytes that is accepted is no access of this row. -/
theorem barAccessInvalid_word {write : Bool} {off : BitVec 24} {v : BitVec 64} {s : State} (ha : off.toNat % 4 = 0)
    (hb : blockOf off.toNat ≠ none) : barAccessInvalid write off 4 v s = s := by
  unfold barAccessInvalid
  rw [if_pos (accessOk_word ha hb), if_neg (by decide)]

/-- Settles O23: the accesses that BAR 0 accepts, and what it does with the others. -/
theorem badAccessesSetOneBit : Obligations.BadAccessesSetOneBit := by
  unfold Obligations.BadAccessesSetOneBit
  intro s off size v
  refine ⟨fun h => ⟨exec_of rfl (barAccessInvalid_bad (accessOk_eq_false h)), exec_of rfl (barAccessInvalid_bad (accessOk_eq_false h))⟩,
    ?_, ?_, ?_, ?_⟩
  · rintro rfl ha hb
    exact exec_of rfl (barAccessInvalid_wide ha hb)
  · rintro rfl ha hb
    exact exec_of rfl ((barAccessInvalid_wide ha (.inl hb)).trans (if_pos hb))
  · rintro rfl ha hb
    exact exec_of rfl ((barAccessInvalid_wide ha (.inr hb)).trans (wideAccess_pba hb))
  · rintro rfl ha hb
    exact ⟨exec_of rfl (barAccessInvalid_word ha hb), exec_of rfl (barAccessInvalid_word ha hb)⟩

/-- Settles O24: each of these reads is the answer and the registers that it latches. -/
theorem latchingReads : Obligations.LatchingReads := by
  unfold Obligations.LatchingReads
  intro s
  refine ⟨fun n => rfl, fun q pr => rfl, rfl, fun n => rfl, fun w => ?_⟩
  cases w <;> rfl

end Sys2Proof.Machine
end

section
/-! PROOFS. Port windows (03_fire_timing.md R85, R88 to R90; 05_screening.md R155): O25 fails. -/

set_option Elab.async false

namespace Sys2Proof.Machine

/-- Banks whose shadow bank is poisoned by the fractional offset of line 0 (table 8 of R164). -/
def fracPoisoned : Banks := { Banks.fresh 1 2 with poison := [(8, 0x60)] }

/-- Port 0 shows in window A, is IDLE and has those banks. -/
def fracPoisonedPort : State := State.reset.modPort 0 fun x => { x with st := .idle, banks := some fracPoisoned }

/-- Refutes O25: a write of PW_FRAC_OFS takes the entry that it writes out of the shadow bank's poison (R144), so the banks do change in more
than the shadow bank and what has been written. -/
theorem not_windowWritesAct : ¬ Obligations.WindowWritesAct := by
  unfold Obligations.WindowWritesAct
  intro h
  obtain ⟨-, -, -, -, -, -, -, -, -, hfrac, -⟩ := h fracPoisonedPort .a 0
  obtain ⟨t, he, -, -, b, hb, -, -, hrest, -⟩ := hfrac 0 0 fracPoisoned rfl (by decide) rfl rfl
  obtain rfl : pwShadow .a 0x60 0 fracPoisonedPort = t := by injection he
  have hcured : ((pwShadow .a 0x60 0 fracPoisonedPort).port 0).banks.map (·.poison) = some [] := rfl
  have hkept : b.poison = [(8, 0x60)] := congrArg Banks.poison hrest
  rw [hb, Option.map_some, hkept] at hcured
  simp at hcured

end Sys2Proof.Machine
end

section
/-! PROOFS. Position sources (02_position.md R43 to R66): O26, O27, O28, O29, and what raising an event leaves alone. -/

set_option Elab.async false

namespace Sys2Proof.Machine

/-! ### What an event leaves alone, and what it counts (R364, R379) -/

section
variable (s : State) (code kind index sev : Nat) (data : Bytes)

@[simp] theorem raise_clk : (raise s code kind index sev data).clk = s.clk := (raise_frame ..).clk.resolve_left (by decide)
@[simp] theorem raise_tb : (raise s code kind index sev data).tb = s.tb := (raise_frame ..).tb.resolve_left (by decide)
@[simp] theorem raise_src : (raise s code kind index sev data).src = s.src := (raise_frame ..).src.resolve_left (by decide)
@[simp] theorem raise_quires : (raise s code kind index sev data).quires = s.quires := (raise_frame ..).quires.resolve_left (by decide)
@[simp] theorem raise_ports : (raise s code kind index sev data).ports = s.ports := (raise_frame ..).ports.resolve_left (by decide)

@[simp] theorem raise_source (n : Fin 16) : (raise s code kind index sev data).source n = s.source n := congrArg (look · n) (raise_src ..)
@[simp] theorem raise_quire (q : Fin 8) : (raise s code kind index sev data).quire q = s.quire q := congrArg (look · q) (raise_quires ..)
@[simp] theorem raise_port (p : Fin 32) : (raise s code kind index sev data).port p = s.port p := congrArg (look · p) (raise_ports ..)

end

/-- Messages count among the messages only. -/
@[simp] theorem sendMsix_events (s : State) (v : Nat) : (sendMsix s v).cnt.events = s.cnt.events := by
  unfold sendMsix
  extract_lets
  split
  · rfl
  · split <;> rfl

@[simp] theorem ringIrq_events (s : State) (r : Fin 64) (f : Bool) : (ringIrq s r f).cnt.events = s.cnt.events := by
  unfold ringIrq
  extract_lets
  split
  · rfl
  · split
    · exact sendMsix_events ..
    · rfl

@[simp] theorem pushEntry_events (s : State) (r : Fin 64) (e : Bytes) (f : Bool) : (pushEntry s r e f).cnt.events = s.cnt.events := by
  unfold pushEntry
  extract_lets
  split
  · rfl
  · split
    · rfl
    · split
      · rfl
      · exact ringIrq_events ..

@[simp] theorem writeEvent_events (s : State) (code sev : Nat) (e : Bytes) : (writeEvent s code sev e).cnt.events = s.cnt.events := by
  unfold writeEvent
  extract_lets
  split
  · rfl
  · split
    · rfl
    · extract_lets
      split <;> exact pushEntry_events ..

@[simp] theorem sendMgt_cnt (s : State) (dst kind ttag : Nat) (bs : Bytes) : (sendMgt s dst kind ttag bs).cnt = s.cnt :=
  (sendMgt_frame ..).cnt.resolve_left (by decide)

/-- Every event counts once. -/
theorem raise_events (s : State) (code kind index sev : Nat) (data : Bytes) :
    (raise s code kind index sev data).cnt.events = sat32 s.cnt.events 1 := by
  unfold raise
  extract_lets
  split
  · rw [sendMgt_cnt, writeEvent_events]
  · rw [writeEvent_events]

/-! ### Edges of A and B (R43, R44, R60) -/

/-- A pulse that no sample showed changes nothing. -/
theorem countGlitch_unseen {s : State} {n : Fin 16} {held : Nat} (h : held = 0) : countGlitch s n held = s := if_pos h

/-- One that a sample showed is counted. -/
theorem countGlitch_seen {s : State} {n : Fin 16} {held : Nat} (h : 0 < held) :
    countGlitch s n held = s.modSrc n fun y => { y with cnt := { y.cnt with glitch := min (y.cnt.glitch + 1) 255 } } :=
  if_neg (by omega)

/-- The level of an input. -/
def Source.level (x : Source) : Chan → Bool
  | .a => x.levelA
  | .b => x.levelB

/-- The stamp of the last change of the other input. -/
def Source.lastOther (x : Source) : Chan → Option Nat
  | .a => x.lastB
  | .b => x.lastA

/-- The input has a new level since `stamp`. -/
def Source.withLevel (x : Source) (ch : Chan) (level : Bool) (stamp : Nat) : Source :=
  match ch with
  | .a => { x with levelA := level, lastA := some stamp }
  | .b => { x with levelB := level, lastB := some stamp }

section
variable {s : State} {n : Fin 4} {ch : Chan} {level : Bool} {stamp held : Nat} {clash : Bool}

/-- A change of A or B is seen already, not counted in this mode, too short, or accepted. -/
theorem encoderEdge_eq (n : Fin 4) (ch : Chan) (level : Bool) (stamp held : Nat) (clash : Bool) (s : State) :
    encoderEdge n ch level stamp held clash s =
      if (s.source (srcNo n.1)).level ch = level then s
      else if (s.source (srcNo n.1)).cfg.mode ≠ .incremental then
        s.modSrc (srcNo n.1) fun y => match ch with
          | .a => { y with levelA := level }
          | .b => { y with levelB := level }
      else if held < 8 * ((s.source (srcNo n.1)).cfg.glitch + 1) then countGlitch s (srcNo n.1) held
      else acceptEdge s (srcNo n.1) ch level stamp clash := by
  cases ch <;> rfl

theorem encoderEdge_short (hc : (s.source (srcNo n.1)).level ch ≠ level) (hm : (s.source (srcNo n.1)).cfg.mode = .incremental)
    (hg : held < 8 * ((s.source (srcNo n.1)).cfg.glitch + 1)) :
    encoderEdge n ch level stamp held clash s = countGlitch s (srcNo n.1) held := by
  rw [encoderEdge_eq, if_neg hc, if_neg (not_not_intro hm), if_pos hg]

theorem encoderEdge_accepted (hc : (s.source (srcNo n.1)).level ch ≠ level) (hm : (s.source (srcNo n.1)).cfg.mode = .incremental)
    (hg : 8 * ((s.source (srcNo n.1)).cfg.glitch + 1) ≤ held) :
    encoderEdge n ch level stamp held clash s = acceptEdge s (srcNo n.1) ch level stamp clash := by
  rw [encoderEdge_eq, if_neg hc, if_neg (not_not_intro hm), if_neg (by omega)]

end

/-- The three outcomes of an accepted change: a clash that is known, one that shows now, a count. -/
theorem acceptEdge_eq (s : State) (n : Fin 16) (ch : Chan) (level : Bool) (stamp : Nat) (clash : Bool) :
    acceptEdge s n ch level stamp clash =
      let now := s.advanceTo (stamp + (s.source n).cfg.actsAfter)
      if clash then faultNow (now.modSrc n fun y => y.withLevel ch level stamp) n 5
      else if closeBy stamp ((s.source n).lastOther ch) then faultNow (now.modSrc n fun y => y.takeBack.withLevel ch level stamp) n 5
      else srcMoved ((holdTracked now n).modSrc n fun y => (y.count ((s.source n).downBy ch level)).withLevel ch level stamp) n stamp := by
  cases ch <;> rfl

/-- Stamps are close unless they lie 2 ns apart. -/
theorem closeBy_eq (stamp : Nat) (o : Option Nat) :
    closeBy stamp o = !(o.all fun t => decide (t + 8 ≤ stamp) || decide (stamp + 8 ≤ t)) := by
  cases o with
  | none => rfl
  | some t =>
    simp only [closeBy, Option.all_some, Bool.not_or, ← decide_not, Nat.not_le]

theorem withLevel_raw (x : Source) (ch : Chan) (l : Bool) (t : Nat) : (x.withLevel ch l t).raw = x.raw := by cases ch <;> rfl
theorem withLevel_mark (x : Source) (ch : Chan) (l : Bool) (t : Nat) : (x.withLevel ch l t).mark = x.mark := by cases ch <;> rfl
theorem withLevel_st (x : Source) (ch : Chan) (l : Bool) (t : Nat) : (x.withLevel ch l t).st = x.st := by cases ch <;> rfl
theorem withLevel_moveDir (x : Source) (ch : Chan) (l : Bool) (t : Nat) : (x.withLevel ch l t).moveDir = x.moveDir := by cases ch <;> rfl
theorem withLevel_trackDir (x : Source) (ch : Chan) (l : Bool) (t : Nat) : (x.withLevel ch l t).trackDir = x.trackDir := by
  cases ch <;> rfl

/-- A source that is DISABLED, ACQUIRING or in FAULT does not follow the raw position (R71). -/
theorem srcMoved_stays {s : State} {n : Fin 16} {t : Nat}
    (h : (s.source n).st = .disabled ∨ (s.source n).st = .acquiring ∨ (s.source n).st = .fault) : srcMoved s n t = s := by
  unfold srcMoved
  rcases h with h | h | h <;> simp only [h]

/-- What an advancing edge does to a source. -/
def Source.follow (x : Source) (t adv : Nat) : Source :=
  { x.advanceEdge t x.raw with
    st := .tracking, adv := adv, pubEdge := true, tracked := if 0 < x.sign * posDiff x.raw x.tracked then x.raw else x.tracked }

/-- A TRACKING source follows a raw position ahead of its mark. -/
theorem srcMoved_advances {s : State} {n : Fin 16} {t : Nat} (h : (s.source n).st = .tracking)
    (ha : 0 < (s.source n).sign * posDiff (s.source n).raw (s.source n).mark) :
    ∃ adv, srcMoved s n t = (holdTracked s n).modSrc n fun x => x.follow t adv := by
  have hadv : ∃ adv, srcMoved s n t = advanceSrc s n t adv := by
    unfold srcMoved
    simp only [h, ha, if_true]
    exact ⟨_, rfl⟩
  obtain ⟨adv, hadv⟩ := hadv
  refine ⟨adv, hadv.trans ?_⟩
  unfold advanceSrc
  rw [h]
  exact if_neg (by decide)

/-- What a count makes of a source: its raw position, direction and the level; and, where it advances a TRACKING source, its mark. -/
theorem count_raw (x : Source) (down : Bool) : (x.count down).raw = posAdd x.raw (if down then -256 else 256) := by cases down <;> rfl

theorem holdTracked_source_self (s : State) (n : Fin 16) :
    (holdTracked s n).source n = { s.source n with tracked := s.trackedNow n } := modSrc_source_self ..

theorem holdTracked_source_ne (s : State) {n m : Fin 16} (h : n ≠ m) : (holdTracked s n).source m = s.source m := modSrc_source_ne _ _ _ h

/-- The source of R44 counts. -/
theorem source_counted (s : State) (n : Fin 16) (ch : Chan) (down level : Bool) (t : Nat) :
    ((holdTracked s n).modSrc n fun y => (y.count down).withLevel ch level t).source n =
      ({ s.source n with tracked := s.trackedNow n }.count down).withLevel ch level t := by
  rw [modSrc_source_self, holdTracked_source_self]

/-- Settles O26: the outcomes of a change of A or B one by one; a count is followed or not as the source's state has it. -/
theorem encoderEdgesCount : Obligations.EncoderEdgesCount := by
  unfold Obligations.EncoderEdgesCount
  intro s n ch level stamp held clash i x cur other apart down raw now
  have hcur : cur = x.level ch := by cases ch <;> rfl
  have hother : other = x.lastOther ch := by cases ch <;> rfl
  have hclose : closeBy stamp (x.lastOther ch) = !apart := hother ▸ closeBy_eq stamp other
  have haccept : acceptEdge s i ch level stamp clash = if clash then faultNow (now.modSrc i fun y => y.withLevel ch level stamp) i 5
      else if closeBy stamp (x.lastOther ch) then faultNow (now.modSrc i fun y => y.takeBack.withLevel ch level stamp) i 5
      else srcMoved ((holdTracked now i).modSrc i fun y => (y.count down).withLevel ch level stamp) i stamp :=
    acceptEdge_eq ..
  have hsrc := source_counted now i ch down level stamp
  clear_value cur apart
  subst hcur
  rw [hclose] at haccept
  refine ⟨fun h => ?_, fun hc hm => ?_, fun hc hm h0 hg => ?_, fun hc hm h0 => ?_, fun hc hm hg ha hcl hst => ?_,
    fun hc hm hg ha hcl hst hpos => ?_, fun hc hm hg hcl => ?_, fun hc hm hg ha hcl => ?_⟩
  · exact exec_of rfl ((encoderEdge_eq ..).trans (if_pos h))
  · exact exec_of rfl (((encoderEdge_eq ..).trans (if_neg hc)).trans (if_pos hm))
  · exact exec_of rfl ((encoderEdge_short hc hm hg).trans (countGlitch_seen h0))
  · exact exec_of rfl ((encoderEdge_short hc hm (show held < 8 * (x.cfg.glitch + 1) by omega)).trans (countGlitch_unseen h0))
  · have hcount := (encoderEdge_accepted hc hm hg).trans (haccept.trans ((if_neg (by simp [hcl])).trans (if_neg (by simp [ha]))))
    refine ⟨_, exec_of rfl (hcount.trans (srcMoved_stays ?_)), ?_⟩
    · rw [hsrc, withLevel_st]
      exact hst
    · rw [hsrc, withLevel_raw, withLevel_moveDir, withLevel_st, withLevel_mark, count_raw]
      refine ⟨rfl, rfl, rfl, rfl, rfl, fun m hmi => ?_⟩
      rw [modSrc_source_ne _ _ _ hmi.symm, holdTracked_source_ne _ hmi.symm]
      rfl
  · have hcount := (encoderEdge_accepted hc hm hg).trans (haccept.trans ((if_neg (by simp [hcl])).trans (if_neg (by simp [ha]))))
    obtain ⟨adv, hadv⟩ := srcMoved_advances (t := stamp) (by rw [hsrc, withLevel_st]; exact hst)
      (by rw [hsrc, withLevel_raw, withLevel_mark, Source.sign, withLevel_trackDir, count_raw]; exact hpos)
    refine ⟨_, exec_of rfl (hcount.trans hadv), ?_⟩
    rw [modSrc_source_self, holdTracked_source_self, hsrc]
    refine ⟨?_, ?_, ?_, rfl, rfl, fun m hmi => ?_⟩
    · exact (withLevel_raw ..).trans (count_raw ..)
    · exact (withLevel_raw ..).trans (count_raw ..)
    · exact withLevel_moveDir ..
    · rw [modSrc_source_ne _ _ _ hmi.symm, holdTracked_source_ne _ hmi.symm, modSrc_source_ne _ _ _ hmi.symm, holdTracked_source_ne _ hmi.symm]
      rfl
  · refine exec_of rfl ((encoderEdge_accepted hc hm hg).trans (haccept.trans ((if_pos hcl).trans ?_)))
    cases ch <;> rfl
  · refine exec_of rfl ((encoderEdge_accepted hc hm hg).trans (haccept.trans ((if_neg (by simp [hcl])).trans ((if_pos (by simp [ha])).trans ?_))))
    cases ch <;> rfl

/-! ### Edges of Z (R45, R61 to R63) -/

section
variable {s : State} {n : Fin 4} {level : Bool} {stamp held : Nat}

/-- The source when an accepted change of Z acts. -/
def indexActs (s : State) (i : Fin 16) (level : Bool) (stamp : Nat) : State :=
  (s.advanceTo (stamp + (s.source i).cfg.actsAfter)).modSrc i fun y => { y with levelZ := level }

/-- A change of Z is seen already, not counted in this mode, too short, or accepted. -/
theorem indexEdge_eq (n : Fin 4) (level : Bool) (stamp held : Nat) (s : State) :
    indexEdge n level stamp held s =
      let i := srcNo n.1
      let x := s.source i
      if x.levelZ = level then s
      else if x.cfg.mode ≠ .incremental ∨ x.cfg.indexPeriod = 0 then s.modSrc i fun y => { y with levelZ := level }
      else if held < 8 * (x.cfg.glitch + 1) then countGlitch s i held
      else if !level || x.moveDir then indexActs s i level stamp
      else match x.presetPend with
        | some pos => applyPreset (indexActs s i level stamp) i pos
        | none => indexCheck (indexActs s i level stamp) i := rfl

theorem indexEdge_short (hl : (s.source (srcNo n.1)).levelZ ≠ level) (hm : (s.source (srcNo n.1)).cfg.mode = .incremental)
    (hp : (s.source (srcNo n.1)).cfg.indexPeriod ≠ 0) (hg : held < 8 * ((s.source (srcNo n.1)).cfg.glitch + 1)) :
    indexEdge n level stamp held s = countGlitch s (srcNo n.1) held := by
  rw [indexEdge_eq, if_neg hl, if_neg (by simp [hm, hp]), if_pos hg]

theorem indexEdge_accepted (h : (s.source (srcNo n.1)).levelZ ≠ level ∧ (s.source (srcNo n.1)).cfg.mode = .incremental ∧
      (s.source (srcNo n.1)).cfg.indexPeriod ≠ 0 ∧ 8 * ((s.source (srcNo n.1)).cfg.glitch + 1) ≤ held) :
    indexEdge n level stamp held s =
      if !level || (s.source (srcNo n.1)).moveDir then indexActs s (srcNo n.1) level stamp
      else match (s.source (srcNo n.1)).presetPend with
        | some pos => applyPreset (indexActs s (srcNo n.1) level stamp) (srcNo n.1) pos
        | none => indexCheck (indexActs s (srcNo n.1) level stamp) (srcNo n.1) := by
  obtain ⟨hl, hm, hp, hg⟩ := h
  rw [indexEdge_eq, if_neg hl, if_neg (by simp [hm, hp]), if_neg (by omega)]

/-- A rising index during increasing movement is looked at. -/
theorem indexEdge_checks (h : (s.source (srcNo n.1)).levelZ ≠ level ∧ (s.source (srcNo n.1)).cfg.mode = .incremental ∧
      (s.source (srcNo n.1)).cfg.indexPeriod ≠ 0 ∧ 8 * ((s.source (srcNo n.1)).cfg.glitch + 1) ≤ held) (hl : level = true)
    (hd : (s.source (srcNo n.1)).moveDir = false) (hp : (s.source (srcNo n.1)).presetPend = none) :
    indexEdge n level stamp held s = indexCheck (indexActs s (srcNo n.1) level stamp) (srcNo n.1) := by
  rw [indexEdge_accepted h, if_neg (by simp [hl, hd]), hp]

end

/-- Two changes of one source are one. -/
theorem modSrc_modSrc (s : State) (n : Fin 16) (f g : Source → Source) : (s.modSrc n f).modSrc n g = s.modSrc n fun y => g (f y) := by
  simp [State.modSrc, upd]

/-- An index within the tolerance is taken out of the raw position and the mark; nothing but the source changes. -/
theorem indexCheck_corrects {s : State} {n : Fin 16} (h : (s.source n).indexError.natAbs ≤ (s.source n).cfg.indexTol) :
    ∃ f : Source → Source, indexCheck s n = s.modSrc n f ∧
      (f (s.source n)).raw = posAdd (s.source n).raw (-(256 * (s.source n).indexError)) ∧
      (f (s.source n)).mark = posAdd (s.source n).mark (-(256 * (s.source n).indexError)) ∧ (f (s.source n)).misplaceRun = 0 ∧
      (f (s.source n)).cnt.indexLast = (s.source n).indexError ∧ (f (s.source n)).levelZ = (s.source n).levelZ ∧
      (f (s.source n)).cnt.corrected =
        if (s.source n).indexError = 0 then (s.source n).cnt.corrected else min ((s.source n).cnt.corrected + 1) 65535 := by
  unfold indexCheck
  simp only [h, if_true]
  by_cases hd : (s.source n).indexError = 0
  · simp only [hd, if_true, modSrc_modSrc]
    exact ⟨_, rfl, by simp [posAdd], by simp [posAdd], rfl, rfl, rfl, rfl⟩
  · simp only [hd, if_false, encEvent, holdTracked, modSrc_modSrc]
    exact ⟨_, rfl, rfl, rfl, rfl, rfl, rfl, rfl⟩

/-- One beyond it is counted, and reported; up to the second in a row that is all. -/
theorem indexCheck_misplaced {s : State} {n : Fin 16} (h : (s.source n).cfg.indexTol < (s.source n).indexError.natAbs)
    (hr : (s.source n).misplaceRun < 2) :
    ∃ (f : Source → Source) (data : Bytes), indexCheck s n = raise (s.modSrc n f) evIndexMisplaced kSource n.1 2 data ∧
      (f (s.source n)).raw = (s.source n).raw ∧
      (f (s.source n)).cnt.indexLast = (s.source n).indexError ∧ (f (s.source n)).misplaceRun = (s.source n).misplaceRun + 1 ∧
      (f (s.source n)).cnt.misplaced = min ((s.source n).cnt.misplaced + 1) 65535 ∧ (f (s.source n)).st = (s.source n).st := by
  have hrun : min ((s.source n).misplaceRun + 1) 3 = (s.source n).misplaceRun + 1 := by omega
  unfold indexCheck
  simp only [if_neg (Nat.not_le.2 h), encEvent, modSrc_modSrc, modSrc_source_self, hrun]
  rw [if_neg (by omega)]
  exact ⟨_, _, rfl, rfl, rfl, hrun, rfl, rfl⟩

/-- Settles O27: a change of Z by what becomes of it; an index that is looked at by its distance. -/
theorem indexEdgesCheck : Obligations.IndexEdgesCheck := by
  unfold Obligations.IndexEdgesCheck
  intro s n level stamp held i x d later now accepted
  have hnow : indexActs s i level stamp = now := rfl
  have hsrc : now.source i = { x with levelZ := level } := modSrc_source_self ..
  have herr : (now.source i).indexError = d := by rw [hsrc]; rfl
  refine ⟨fun h => exec_of rfl (if_pos h), fun hl h => exec_of rfl ((if_neg hl).trans (if_pos h)), fun hl hm hp h0 hg => ?_,
    fun ha h => ?_, fun pos ha hl hd hp => ?_, fun ha hl hd hp htol => ?_, fun ha hl hd hp htol hr => ?_⟩
  · exact exec_of rfl ((indexEdge_short hl hm hp hg).trans (countGlitch_seen h0))
  · exact exec_of rfl ((indexEdge_accepted ha).trans (if_pos (by rcases h with h | h <;> simp [h, x, i])))
  · refine exec_of rfl ((indexEdge_accepted ha).trans ((if_neg (by simp [hl, hd, x, i])).trans ?_))
    rw [hp]
    rfl
  · obtain ⟨f, hy, hraw, hmark, hrun, hlast, hz, hcor⟩ := indexCheck_corrects (s := now) (n := i) (by rw [herr, hsrc]; exact htol)
    rw [herr] at hraw hmark hlast hcor
    rw [hsrc] at hraw hmark hrun hlast hz hcor
    refine ⟨_, exec_of rfl ((indexEdge_checks ha hl hd hp).trans hy), ?_⟩
    rw [modSrc_source_self, hsrc]
    exact ⟨hraw, hmark, hrun, hlast, hcor, hz.trans hl, rfl, fun m hm => by
      rw [modSrc_source_ne _ _ _ hm.symm]; exact modSrc_source_ne _ _ _ hm.symm⟩
  · obtain ⟨f, data, hy, hraw, hlast, hrun, hmis, hst⟩ :=
      indexCheck_misplaced (s := now) (n := i) (by rw [herr, hsrc]; exact htol) (by rw [hsrc]; exact hr)
    rw [herr] at hlast
    rw [hsrc] at hraw hlast hrun hmis hst
    refine ⟨_, exec_of rfl ((indexEdge_checks ha hl hd hp).trans hy), ?_⟩
    rw [raise_source, modSrc_source_self, raise_events, raise_quires, raise_ports, hsrc]
    exact ⟨hraw, hlast, hrun, hmis, hst, rfl, rfl, rfl⟩

/-! ### Serial frames (R46 to R52) -/

section
variable {s : State} {n : Fin 4}

/-- A frame starts: the clock is driven, and the next start is set. -/
theorem serialFrameStart_starts {idle : Bool} (hm : (s.source (srcNo n.1)).cfg.mode = .ssi ∨ (s.source (srcNo n.1)).cfg.mode = .bissC)
    (hst : (s.source (srcNo n.1)).st ≠ .disabled) (hf : (s.source (srcNo n.1)).frameAt = none) :
    serialFrameStart n idle s = ((s.advanceTo (s.source (srcNo n.1)).nextFrame).modSrc (srcNo n.1) fun y =>
      { y with frameAt := some (s.advanceTo (s.source (srcNo n.1)).nextFrame).clk, lineIdle := idle,
               nextFrame := (s.advanceTo (s.source (srcNo n.1)).nextFrame).clk + 4 * y.cfg.serPeriod }).emit (.encClock n.1) :=
  if_pos ⟨hm, hst, Option.isNone_iff_eq_none.2 hf⟩

/-- None starts in another mode, in DISABLED, or while one is in progress. -/
theorem serialFrameStart_waits {idle : Bool} (h : (s.source (srcNo n.1)).cfg.mode = .off ∨ (s.source (srcNo n.1)).cfg.mode = .incremental ∨
      (s.source (srcNo n.1)).st = .disabled ∨ (s.source (srcNo n.1)).frameAt.isSome = true) : serialFrameStart n idle s = s := by
  refine if_neg fun ⟨hm, hst, hf⟩ => ?_
  rcases h with h | h | h | h
  · exact absurd hm (by rw [← srcNo, h]; decide)
  · exact absurd hm (by rw [← srcNo, h]; decide)
  · exact hst h
  · rw [Option.isNone_iff_eq_none] at hf
    rw [srcNo, hf] at h
    cases h

/-- The state in which the frame in progress ends. -/
def frameEnds (s : State) (i : Fin 16) (t0 : Nat) : State :=
  (s.advanceTo (t0 + (s.source i).cfg.framePh)).modSrc i fun y => { y with frameAt := none }

/-- The end of a frame of an enabled BiSS C source that answered: bad or sound by its CRC. -/
theorem serialFrameEnd_bissC {f : SerialFrame} {t0 : Nat} (hf : (s.source (srcNo n.1)).frameAt = some t0)
    (hm : (s.source (srcNo n.1)).cfg.mode = .bissC) (hst : (s.source (srcNo n.1)).st ≠ .disabled) (h : f.started = true) :
    serialFrameEnd n f s =
      if crcMatches (s.source (srcNo n.1)).cfg f then
        soundFrame (frameEnds s (srcNo n.1) t0) (srcNo n.1) f (t0 - 4 * (s.source (srcNo n.1)).cfg.serLatency)
      else badFrame (frameEnds s (srcNo n.1) t0) (srcNo n.1) 1 := by
  have hbody : serialFrameEnd n f s = match (s.source (srcNo n.1)).frameAt with
      | none => s
      | some t0 =>
        if (s.source (srcNo n.1)).st = .disabled then frameEnds s (srcNo n.1) t0
        else if (s.source (srcNo n.1)).cfg.mode = .bissC && !f.started then badFrame (frameEnds s (srcNo n.1) t0) (srcNo n.1) 3
        else if (s.source (srcNo n.1)).cfg.mode = .ssi && !(s.source (srcNo n.1)).lineIdle then
          badFrame (frameEnds s (srcNo n.1) t0) (srcNo n.1) 3
        else if (s.source (srcNo n.1)).cfg.mode = .bissC && !(crcMatches (s.source (srcNo n.1)).cfg f) then
          badFrame (frameEnds s (srcNo n.1) t0) (srcNo n.1) 1
        else soundFrame (frameEnds s (srcNo n.1) t0) (srcNo n.1) f (t0 - 4 * (s.source (srcNo n.1)).cfg.serLatency) := rfl
  rw [hbody, hf]
  cases hcrc : crcMatches (s.source (srcNo n.1)).cfg f <;> simp [hm, hst, h]

end

/-- A frame with a bad CRC counts; before the third in a row that is all. -/
theorem badFrame_counts {s : State} {n : Fin 16} (h : (s.source n).badRun < 2) :
    badFrame s n 1 = s.modSrc n fun x => { x with badRun := x.badRun + 1, cnt := { x.cnt with crc := min (x.cnt.crc + 1) 255 } } := by
  have hrun : (s.source n).badRun + 1 < 3 := by omega
  unfold badFrame
  simp only [modSrc_source_self, if_neg (Nat.not_le.2 hrun)]
  rfl

/-- The first good reading of an ACQUIRING BiSS C source. -/
theorem soundFrame_first {s : State} {n : Fin 16} {f : SerialFrame} {t : Nat} (hm : (s.source n).cfg.mode = .bissC) (hE : f.nE = true)
    (hW : f.nW = true) (hg : (s.source n).cfg.gray = false) (hst : (s.source n).st = .acquiring) :
    soundFrame s n f t = s.modSrc n fun x => { x with badRun := 0, warn := false }.firstReading (f.bits.toNat % 2 ^ (s.source n).cfg.serBits) := by
  unfold soundFrame goodReading
  simp [hm, hE, hW, hg, hst, modSrc_modSrc]

/-- Settles O28: a frame starts, is bad by its CRC, or gives the first reading. -/
theorem serialFramesRead : Obligations.SerialFramesRead := by
  unfold Obligations.SerialFramesRead
  intro s n i x
  have hends : ∀ t0, (frameEnds s i t0).source i = { x with frameAt := none } := fun t0 => modSrc_source_self ..
  refine ⟨fun idle hm hst hf => ?_, fun idle h => exec_of rfl (serialFrameStart_waits h), fun f hf => ?_,
    fun f t0 hf hm hst h hcrc hrun => ?_, fun f t0 hf hm h hcrc hE hW hg hp hst => ?_⟩
  · refine ⟨_, exec_of rfl (serialFrameStart_starts hm hst hf), ?_⟩
    rw [emit_source, modSrc_source_self]
    exact ⟨(show s.clk + (x.nextFrame - s.clk) = max s.clk x.nextFrame by omega), rfl, rfl, rfl, rfl, fun m hmi => modSrc_source_ne _ _ _ hmi.symm⟩
  · refine exec_of rfl ?_
    show (match x.frameAt with | none => s | some t0 => _) = s
    rw [hf]
  · have hend := (serialFrameEnd_bissC hf hm hst h).trans (if_neg (by simp [hcrc, x, i]))
    refine ⟨_, exec_of rfl (hend.trans (badFrame_counts (by rw [hends]; exact hrun))), ?_⟩
    rw [modSrc_source_self, hends]
    exact ⟨rfl, rfl, rfl, rfl, rfl, rfl⟩
  · have hend := (serialFrameEnd_bissC hf hm (by simp [hst, x, i]) h).trans (if_pos hcrc)
    have hsrc := hends t0
    refine ⟨_, exec_of rfl (hend.trans (soundFrame_first (by rw [hsrc]; exact hm) hE hW (by rw [hsrc]; exact hg) (by rw [hsrc]; exact hst))), ?_⟩
    rw [modSrc_source_self, hsrc]
    simp only [Source.firstReading, hst, hp, true_or, if_true, Option.getD_none, true_and]
    rfl

/-! ### Sources that fall silent (R59, R66) -/

/-- A source that stalls stops where it is (R59). -/
def stallNow (s : State) (n : Fin 16) (at_ : Nat) : State :=
  (encEvent (holdTracked (s.advanceTo at_) n) n 8).modSrc n fun y =>
    { y with st := .stalled, speed := 0, edges := [], base := none, undo := none }

/-- The source after that. -/
theorem stallNow_source (s : State) (n : Fin 16) (at_ : Nat) : (stallNow s n at_).source n =
    { s.source n with
      tracked := (s.advanceTo at_).trackedNow n, st := .stalled, speed := 0, edges := [], base := none, undo := none,
      cnt := { (s.source n).cnt with event := (s.source n).cnt.event ||| 8 } } := by
  unfold stallNow encEvent
  rw [modSrc_source_self, modSrc_source_self, holdTracked_source_self]
  rfl

/-- A TRACKING local source in movement stalls, which is reported. -/
theorem encStall_stalls {s : State} {n : Fin 16} {e : Nat × Nat × Pos} (hn : n.1 < 4) (hst : (s.source n).st = .tracking)
    (hs : (s.source n).speed ≠ 0) (he : (s.source n).edges.head? = some e) :
    encStall n s = encFaultEvent (stallNow s n (e.1 + (s.source n).stallAfter)) n 2 4 := by
  obtain ⟨l, hl⟩ := List.head?_eq_some_iff.1 he
  unfold encStall
  simp only [hl]
  exact if_pos ⟨hn, hst, hs⟩

/-- No other source does. -/
theorem encStall_stays {s : State} {n : Fin 16} (h : 4 ≤ n.1 ∨ (s.source n).st ≠ .tracking ∨ (s.source n).speed = 0) : encStall n s = s := by
  unfold encStall
  cases hl : (s.source n).edges with
  | nil => simp only [hl]
  | cons e l =>
    simp only [hl]
    refine if_neg fun ⟨hn, hst, hs⟩ => ?_
    rcases h with h | h | h
    · omega
    · exact h hst
    · exact hs h

/-- A bound remote source without a cell faults. -/
theorem remoteLost_faults {s : State} {n : Fin 16} (hn : 4 ≤ n.1) (hb : (s.source n).bound ≠ none) (hst : (s.source n).st ≠ .fault) :
    remoteLost n s = sourceFault (s.advanceTo ((s.source n).cellAt + 64000)) n 8 :=
  if_pos ⟨hn, Option.isSome_iff_ne_none.2 hb, hst⟩

/-- The fault of a source that no quire is bound to stops nothing. -/
theorem sourceFault_alone {s : State} {n : Fin 16} {cause : Nat} (h : s.boundTo n = []) :
    sourceFault s n cause =
      encFaultEvent (encEvent ((holdTracked s n).modSrc n fun x => { x with st := .fault, cause := cause }) n 4) n 3 cause := by
  have hkeep : (encFaultEvent (encEvent ((holdTracked s n).modSrc n fun x => { x with st := .fault, cause := cause }) n 4) n 3 cause).boundTo n
      = s.boundTo n := by
    unfold State.boundTo State.quire encFaultEvent
    rw [raise_quires]
    rfl
  unfold sourceFault
  extract_lets s1 s2
  rw [show s2.boundTo n = [] from hkeep.trans h]
  rfl

/-- Settles O29: stalls and lost remote sources. -/
theorem silentSourcesFault : Obligations.SilentSourcesFault := by
  unfold Obligations.SilentSourcesFault
  intro s n x
  refine ⟨fun e hn hst hs he => ?_, fun h => exec_of rfl (encStall_stays h), fun hn hb hst => exec_of rfl (remoteLost_faults hn hb hst),
    fun hn hb hst h => ?_, fun h => exec_of rfl (if_neg fun ⟨hn, hb, hst⟩ => ?_)⟩
  · refine ⟨_, exec_of rfl (encStall_stalls hn hst hs he), ?_⟩
    unfold encFaultEvent
    rw [raise_source, raise_clk, raise_quires, raise_ports, stallNow_source]
    exact ⟨rfl, rfl, rfl, rfl, rfl, (show s.clk + (e.1 + x.stallAfter - s.clk) = max s.clk (e.1 + x.stallAfter) by omega), rfl, rfl⟩
  · refine ⟨_, exec_of rfl ((remoteLost_faults hn hb hst).trans (sourceFault_alone h)), ?_⟩
    unfold encFaultEvent encEvent
    rw [raise_source, raise_clk, raise_quires, raise_ports, modSrc_source_self, modSrc_source_self, holdTracked_source_self]
    exact ⟨rfl, rfl, rfl, rfl, (show s.clk + (x.cellAt + 64000 - s.clk) = max s.clk (x.cellAt + 64000) by omega), rfl, rfl⟩
  · rcases h with h | h | h
    · omega
    · rw [show (s.source n).bound = none from h] at hb
      cases hb
    · exact hst h

end Sys2Proof.Machine
end

section
/-! PROOFS. One port's operations: what they leave of the port, and that they leave the other ports alone. -/

set_option Elab.async false

namespace Sys2Proof.Machine

/-- From `s` to `t` no port but `p` changes, and of `p` what `π` shows stays. -/
structure PortKeeps {α : Type} (π : Port → α) (p : Fin 32) (s t : State) : Prop where
  others : ∀ r, r ≠ p → t.port r = s.port r
  kept : π (t.port p) = π (s.port p)

namespace PortKeeps
variable {α β : Type} {π : Port → α} {p : Fin 32} {s t u : State}

theorem refl (π : Port → α) (p : Fin 32) (s : State) : PortKeeps π p s s := ⟨fun _ _ => rfl, rfl⟩

theorem trans (h : PortKeeps π p s t) (g : PortKeeps π p t u) : PortKeeps π p s u :=
  ⟨fun r hr => (g.others r hr).trans (h.others r hr), g.kept.trans h.kept⟩

/-- An operation that changes no port. -/
theorem of_ports (h : t.ports = s.ports) : PortKeeps π p s t :=
  ⟨fun r _ => congrArg (look · r) h, congrArg (fun v => π (look v p)) h⟩

/-- A change of the port itself. -/
theorem modPort (s : State) {f : Port → Port} (h : π (f (s.port p)) = π (s.port p)) : PortKeeps π p s (s.modPort p f) :=
  ⟨fun _ hr => modPort_port_ne _ _ _ hr.symm, (congrArg π (modPort_port_self ..)).trans h⟩

/-- What stays under a finer view stays under a coarser one. -/
theorem map (g : α → β) (h : PortKeeps π p s t) : PortKeeps (fun x => g (π x)) p s t := ⟨h.others, congrArg g h.kept⟩

/-- A list of steps. -/
theorem foldl {γ : Type} {f : State → γ → State} (h : ∀ t a, PortKeeps π p t (f t a)) :
    ∀ (l : List γ) (s : State), PortKeeps π p s (l.foldl f s)
  | [], s => refl π p s
  | a :: l, s => (h s a).trans (foldl h l (f s a))

end PortKeeps

section
variable {α : Type} (π : Port → α) (p r : Fin 32) (s : State)

theorem irqPorts_keeps : PortKeeps π p s (irqPorts s) := .of_ports ((irqPorts_frame s).ports.resolve_left (by decide))

theorem raise_keeps (code kind index sev : Nat) (data : Bytes) : PortKeeps π p s (raise s code kind index sev data) := .of_ports (raise_ports ..)

theorem faultEdge_keeps : PortKeeps π p s (faultEdge s) := .of_ports ((faultEdge_frame s).ports.resolve_left (by decide))

end

/-! ### Words to the head (R201 to R204) -/

/-- A port without what sending words changes: the lanes, the words that wait, the count of late ones, and the events. -/
def Port.wordless (x : Port) : Port :=
  { x with link := { x.link with laneA := 0, laneB := 0, segLate := 0, words := [] }, win := { x.win with event := 0 } }

theorem setPwEvent_keeps {s : State} {p : Fin 32} (m : Nat) : PortKeeps Port.wordless p s (setPwEvent s p m) :=
  (PortKeeps.modPort s rfl).trans (irqPorts_keeps ..)

theorem sendWord_keeps (s : State) (p : Fin 32) (w : LinkWord) (at_ : Nat) : PortKeeps Port.wordless p s (sendWord s p w at_) := by
  unfold sendWord
  extract_lets x c s1 late till s2
  have h : PortKeeps Port.wordless p s s2 :=
    (PortKeeps.of_ports rfl : PortKeeps Port.wordless p s s1).trans (PortKeeps.modPort s1 rfl)
  split
  · exact h.trans (setPwEvent_keeps 8)
  · exact h

theorem sendWords_keeps (till : Nat) (latch : Option Nat) (p : Fin 32) :
    ∀ (s : State) (l : List LinkWord), PortKeeps Port.wordless p s (sendWords till latch p s l)
  | s, [] => PortKeeps.refl ..
  | s, w :: l => by
    unfold sendWords
    extract_lets x c at_ fits kept
    split
    · exact (sendWord_keeps ..).trans (sendWords_keeps till latch p _ l)
    · exact (PortKeeps.modPort s rfl).trans (sendWords_keeps till latch p _ l)

theorem flushWords_keeps (s : State) (p : Fin 32) (till : Nat) (latch : Option Nat) :
    PortKeeps Port.wordless p s (flushWords s p till latch) := (PortKeeps.modPort s rfl).trans (sendWords_keeps ..)

theorem headWord_keeps (s : State) (p : Fin 32) (c : Chan) (type payload more at_ : Nat) :
    PortKeeps Port.wordless p s (headWord s p c type payload more at_) := (PortKeeps.modPort s rfl).trans (flushWords_keeps ..)

theorem latchWord_keeps (s : State) (p : Fin 32) (bank : Bool) (at_ : Nat) : PortKeeps Port.wordless p s (latchWord s p bank at_) :=
  ((flushWords_keeps s p at_ (some at_)).trans (sendWord_keeps ..)).trans (flushWords_keeps ..)

theorem segWords_keeps (p : Fin 32) (c : Chan) (start : Nat) :
    ∀ (s : State) (l : List (Nat × Nat)), PortKeeps Port.wordless p s (segWords s p c start l)
  | s, [] => PortKeeps.refl ..
  | s, [_] => headWord_keeps ..
  | s, (_, to_) :: (f2, t2) :: l => by
    unfold segWords
    split
    · exact (headWord_keeps ..).trans (segWords_keeps p c start _ _)
    · exact ((headWord_keeps ..).trans (headWord_keeps ..)).trans (segWords_keeps p c start _ _)

/-! ### The data of a port (R110, R128) -/

/-- A port without its image data. -/
def Port.dataless (x : Port) : Port := { x with dat := DataPath.reset }

theorem retireOne_keeps {α : Type} (π : Port → α) (s : State) (p r : Fin 32) (d : Desc) (st res : Nat) :
    PortKeeps π r s (retireOne s p d st res) := .of_ports ((retireOne_frame ..).ports.resolve_left (by decide))

theorem retireReady_keeps (s : State) (p : Fin 32) : PortKeeps Port.dataless p s (retireReady s p) := by
  have howed : (retireOwed s p (s.port p).dat.owed).1.ports = s.ports := (retireOwed_frame ..).ports.resolve_left (by decide)
  unfold retireReady
  extract_lets o t d r
  have ht : PortKeeps Port.dataless p s t := (PortKeeps.of_ports howed).trans (PortKeeps.modPort _ rfl)
  split
  · exact ht
  · have hr : r.1.ports = t.ports := (retireList_frame ..).ports.resolve_left (by decide)
    exact ht.trans ((PortKeeps.of_ports hr).trans (PortKeeps.modPort _ rfl))

theorem settleLine_keeps (s : State) (p : Fin 32) (l : Line) : PortKeeps Port.dataless p s (settleLine s p l) := by
  unfold settleLine
  split
  · exact PortKeeps.refl ..
  · exact (PortKeeps.modPort s rfl).trans (retireReady_keeps ..)

/-! ### States of a port (R215) -/

theorem sendCodes_keeps {α : Type} (π : Port → α) (s : State) (p r : Fin 32) (codes : List Nat) (from_ : Nat) :
    PortKeeps π r s (sendCodes s p codes from_) := .of_ports ((sendCodes_frame ..).ports.resolve_left (by decide))

theorem stateChanged_keeps (s : State) (p : Fin 32) (old new : PState) (cause : Nat) :
    PortKeeps Port.wordless p s (stateChanged s p old new cause) := (setPwEvent_keeps 1).trans (raise_keeps ..)

end Sys2Proof.Machine
end

section
/-! PROOFS. Lines from due to drained (01_architecture.md R19, R20; 03_fire_timing.md R80 to R84; 06_waveforms.md R177 to R190; 07_head_ports.md
R203 to R207): O30, O31, O32. -/

set_option Elab.async false

namespace Sys2Proof.Machine

/-! ### When a line is due (R80, R132) -/

section
variable {s : State} {p : Fin 32} {q : Fin 8}

theorem lineDue_unbound (h : s.quireOf p = none) : lineDue p s = s := by
  unfold lineDue
  rw [h]

/-- A port of a quire that may draw its next line: the crossing decides. -/
theorem lineDue_bound (h : s.quireOf p = some q) : lineDue p s =
    if !(mayFire (s.quire q) (s.port p) (s.source (s.quire q).source) p) then s
    else match s.crossing (s.quire q) (s.leadPs (s.quire q) p) (s.port p).nextK with
      | none => crossFirst s p
      | some t =>
        let s1 := if (s.port p).dat.ahead then
            (match s.crossing (s.quire q) (s.leadPs (s.quire q) p) ((s.port p).nextK - (s.quire q).dir) with
              | some t0 => firstDeadline (s.advanceTo (s.dueInstant (s.quire q).source t0)) q p
              | none => s) else s
        lineComes (s1.advanceTo (s.dueInstant (s.quire q).source t)) q p (s.port p).nextK := by
  unfold lineDue
  rw [h] <;> rfl

theorem crossFirst_bound (h : s.quireOf p = some q) : crossFirst s p =
    if !(s.port p).dat.ahead || !(mayFire (s.quire q) (s.port p) (s.source (s.quire q).source) p) then s
    else match s.crossing (s.quire q) (s.leadPs (s.quire q) p) ((s.port p).nextK - (s.quire q).dir) with
      | some t => if t ≤ s.clk then firstDeadline s q p else s
      | none => s := by
  unfold crossFirst
  rw [h] <;> rfl

theorem lineDue_idle (h : s.quireOf p = some q) (hm : mayFire (s.quire q) (s.port p) (s.source (s.quire q).source) p = false) :
    lineDue p s = s := (lineDue_bound h).trans (if_pos (by simp [hm]))

/-- Without a crossing of its own boundary or of the one before, no line comes. -/
theorem lineDue_uncrossed (h : s.quireOf p = some q)
    (hc : s.crossing (s.quire q) (s.leadPs (s.quire q) p) (s.port p).nextK = none)
    (ha : (s.port p).dat.ahead = false ∨ s.crossing (s.quire q) (s.leadPs (s.quire q) p) ((s.port p).nextK - (s.quire q).dir) = none) :
    lineDue p s = s := by
  have hfirst : crossFirst s p = s := by
    rw [crossFirst_bound h]
    rcases ha with ha | ha
    · exact if_pos (by simp [ha])
    · rw [ha]
      exact ite_self s
  rw [lineDue_bound h, hc]
  exact (ite_congr rfl (fun _ => rfl) fun _ => hfirst).trans (ite_self s)

/-- The boundary before a first line is crossed: its deadline. -/
theorem lineDue_before {c : Nat} (h : s.quireOf p = some q) (hm : mayFire (s.quire q) (s.port p) (s.source (s.quire q).source) p = true)
    (ha : (s.port p).dat.ahead = true) (hc : s.crossing (s.quire q) (s.leadPs (s.quire q) p) (s.port p).nextK = none)
    (h0 : s.crossing (s.quire q) (s.leadPs (s.quire q) p) ((s.port p).nextK - (s.quire q).dir) = some c) :
    lineDue p s = if c ≤ s.clk then firstDeadline s q p else s := by
  rw [lineDue_bound h, if_neg (by simp [hm]), hc]
  show crossFirst s p = _
  rw [crossFirst_bound h, if_neg (by simp [hm, ha]), h0]

/-- The line's own boundary is crossed. -/
theorem lineDue_crossed {c : Nat} (h : s.quireOf p = some q) (hm : mayFire (s.quire q) (s.port p) (s.source (s.quire q).source) p = true)
    (hc : s.crossing (s.quire q) (s.leadPs (s.quire q) p) (s.port p).nextK = some c)
    (ha : (s.port p).dat.ahead = false ∨ s.crossing (s.quire q) (s.leadPs (s.quire q) p) ((s.port p).nextK - (s.quire q).dir) = none) :
    lineDue p s = lineComes (s.advanceTo (s.dueInstant (s.quire q).source c)) q p (s.port p).nextK := by
  rw [lineDue_bound h, if_neg (by simp [hm]), hc]
  rcases ha with ha | ha
  · simp only [ha, Bool.false_eq_true, if_false]
  · simp only [ha, ite_self]

/-- Both are. -/
theorem lineDue_both {c c0 : Nat} (h : s.quireOf p = some q) (hm : mayFire (s.quire q) (s.port p) (s.source (s.quire q).source) p = true)
    (ha : (s.port p).dat.ahead = true) (hc : s.crossing (s.quire q) (s.leadPs (s.quire q) p) (s.port p).nextK = some c)
    (h0 : s.crossing (s.quire q) (s.leadPs (s.quire q) p) ((s.port p).nextK - (s.quire q).dir) = some c0) :
    lineDue p s = lineComes ((firstDeadline (s.advanceTo (s.dueInstant (s.quire q).source c0)) q p).advanceTo
      (s.dueInstant (s.quire q).source c)) q p (s.port p).nextK := by
  rw [lineDue_bound h, if_neg (by simp [hm]), hc]
  simp only [ha, if_true, h0]

end

/-! ### Committing a line (R80, R486) -/

/-- A port without what reading its temperatures moves: the entries in use, of its channels and of its old bank. -/
def Port.cold (x : Port) : Port := { x with banks := none, chA := Channel.reset, chB := Channel.reset }

theorem modChan_cold (x : Port) (c : Chan) (f : Channel → Channel) : (x.modChan c f).cold = x.cold := by cases c <;> rfl

theorem modChan_banks (x : Port) (c : Chan) (f : Channel → Channel) : (x.modChan c f).banks = x.banks := by cases c <;> rfl

theorem setEntry_cold (x : Port) (g : Int) (c : Chan) (n : Nat) : (x.setEntry g c n).cold = x.cold := by
  unfold Port.setEntry
  split
  · rfl
  · exact modChan_cold ..

theorem setEntry_banks (x : Port) (g : Int) (c : Chan) (n : Nat) : (x.setEntry g c n).banks.isSome = x.banks.isSome := by
  unfold Port.setEntry
  split
  · exact Option.isSome_map
  · rw [modChan_banks]

theorem readTemp_cold (x : Port) (b : Bank) (g : Int) (c : Chan) : (x.readTemp b g c).cold = x.cold := by
  unfold Port.readTemp
  split
  · rw [modChan_cold, setEntry_cold]
  · split <;> exact setEntry_cold ..

theorem readTemp_banks (x : Port) (b : Bank) (g : Int) (c : Chan) : (x.readTemp b g c).banks.isSome = x.banks.isSome := by
  unfold Port.readTemp
  split
  · rw [modChan_banks, setEntry_banks]
  · split <;> exact setEntry_banks ..

/-- The line at boundary `k` takes its codes. -/
def Port.withCodes (x : Port) (k : Int) (codes : List Nat) : Port :=
  { x with lines := x.lines.map fun m => if m.k = k then { m with codes := some codes } else m }

/-- The stream of a line that is in flight, with a sound line store. -/
theorem streamLine_line {s : State} {qi : Fin 8} {p : Fin 32} {k : Int} {from_ : Nat} (hb : (s.port p).banks.isSome = true)
    (hl : ∃ l ∈ (s.port p).lines, l.k = k) :
    ∃ codes, streamLine s qi p k [] from_ = sendCodes (s.modPort p fun y => y.withCodes k codes) p codes from_ := by
  obtain ⟨b, hb⟩ := Option.isSome_iff_exists.1 hb
  obtain ⟨l, hl⟩ : ∃ l, (s.port p).lines.find? (fun l => l.k == k) = some l := by
    obtain ⟨l, hmem, hk⟩ := hl
    exact Option.isSome_iff_exists.1 (List.find?_isSome.2 ⟨l, hmem, by simp [hk]⟩)
  unfold streamLine
  simp only [hb, hl, List.filter_nil, ite_self, List.foldl_nil]
  exact ⟨_, rfl⟩

/-- The port when its temperatures have been read for a line. -/
def Port.warmed (x : Port) (b : Bank) (g : Int) : Port := (x.readTemp b g .a).readTemp b g .b

theorem warmed_cold (x : Port) (b : Bank) (g : Int) : (x.warmed b g).cold = x.cold := (readTemp_cold ..).trans (readTemp_cold ..)

theorem warmed_banks (x : Port) (b : Bank) (g : Int) : (x.warmed b g).banks.isSome = x.banks.isSome :=
  (readTemp_banks ..).trans (readTemp_banks ..)

/-- The port with one more line in flight. -/
def Port.withLine (x : Port) (dir : Int) (l : Line) : Port :=
  { x with
    lines := x.lines ++ [l], nextK := l.k + dir, playEnd := max x.playEnd l.playsEnd,
    link := { x.link with streamEnd := l.latchAt + x.latchPh + x.streamPh, blockLines := x.link.blockLines + 1, next := none },
    win := { x.win with lastDue := some l.k } }

/-- Committing a line: the temperatures are read, the line is in flight, and its stream begins where nothing is to come before it. -/
theorem commitLine_eq {s : State} {qi : Fin 8} {p : Fin 32} {k : Int} {due : Nat} {bs : Banks} (hb : (s.port p).banks = some bs) :
    ∃ (x : Port) (l : Line), x = (s.port p).warmed (bs.at_ ((s.quire qi).lineG k)) ((s.quire qi).lineG k) ∧
      l = lineOf s (s.quire qi) x (bs.at_ ((s.quire qi).lineG k)) k due x.link.streamEnd ∧
      commitLine s qi p k due = if l.codes.isNone && (x.lines.all fun m => m.latched)
        then streamLine (s.modPort p fun _ => x.withLine (s.quire qi).dir l) qi p k [] (x.link.streamEnd - x.streamPh)
        else s.modPort p fun _ => x.withLine (s.quire qi).dir l := by
  refine ⟨_, _, rfl, rfl, ?_⟩
  unfold commitLine
  simp only [hb]
  rfl

/-- What a committed line shows. -/
theorem lineOf_fields (s : State) (q : Quire) (x : Port) (b : Bank) (k : Int) (due e : Nat) :
    (lineOf s q x b k due e).k = k ∧ (lineOf s q x b k due e).dec = none ∧ (lineOf s q x b k due e).latched = false ∧
      (lineOf s q x b k due e).codes = match x.link.next with
        | some (m, cs) => if m = k then some cs else none
        | none => none := ⟨rfl, rfl, rfl, rfl⟩

/-- The last line keeps what codes do not show. -/
theorem withCodes_getLast (x : Port) (k : Int) (codes : List Nat) {ls : List Line} {l : Line} (h : x.lines = ls ++ [l]) (hk : l.k = k) :
    (x.withCodes k codes).lines.getLast? = some { l with codes := some codes } := by
  simp [Port.withCodes, h, hk]

/-- The stream is one thing that leaves, on HIF-C with its SOF before it. -/
theorem sendCodes_out_length (s : State) (p : Fin 32) (codes : List Nat) (from_ : Nat) :
    (sendCodes s p codes from_).out.length = s.out.length + if (s.port p).gen = 3 then 2 else 1 := by
  unfold sendCodes
  extract_lets x
  by_cases h : x.gen = 3
  · rw [if_pos h, if_pos h]
    rfl
  · rw [if_neg h, if_neg h]
    rfl

/-- The port after a line has been committed, and what has left. -/
theorem commitLine_lines {s : State} {q : Fin 8} {p : Fin 32} {k : Int} {due : Nat} (hb : (s.port p).banks ≠ none) :
    (∀ r, r ≠ p → (commitLine s q p k due).port r = s.port r) ∧ ((commitLine s q p k due).port p).nextK = k + (s.quire q).dir ∧
      ((commitLine s q p k due).port p).win.lastDue = some k ∧
      ((commitLine s q p k due).port p).lines.length = (s.port p).lines.length + 1 ∧
      ∃ l : Line, ((commitLine s q p k due).port p).lines.getLast? = some l ∧ l.k = k ∧ l.dec = none ∧ l.latched = false ∧
        (∀ cs, (s.port p).link.next = some (k, cs) → (commitLine s q p k due).out = s.out ∧ l.codes = some cs) ∧
        ((s.port p).link.next = none → (s.port p).lines.all (fun l => l.latched) = true →
          (commitLine s q p k due).out.length = s.out.length + (if (s.port p).gen = 3 then 2 else 1) ∧ l.codes.isSome = true) ∧
        ((s.port p).link.next = none → (s.port p).lines.all (fun l => l.latched) = false →
          (commitLine s q p k due).out = s.out ∧ l.codes = none) := by
  obtain ⟨bs, hbs⟩ := Option.ne_none_iff_exists'.1 hb
  obtain ⟨x, l, hx, hl, hcommit⟩ := commitLine_eq (k := k) (qi := q) (due := due) hbs
  have hcold : x.cold = (s.port p).cold := hx ▸ warmed_cold ..
  have hnext : x.link.next = (s.port p).link.next := (congrArg (fun y : Port => y.link.next) hcold :)
  have hlines : x.lines = (s.port p).lines := (congrArg Port.lines hcold :)
  have hgen : x.gen = (s.port p).gen := (congrArg Port.gen hcold :)
  have hsome : x.banks.isSome = true := by rw [hx, warmed_banks, hbs]; rfl
  obtain ⟨hk, hdec, hlat, hcodes⟩ := hl ▸ lineOf_fields s (s.quire q) x (bs.at_ ((s.quire q).lineG k)) k due x.link.streamEnd
  rw [hcommit, ← hnext, ← hlines, ← hgen]
  by_cases hstream : (l.codes.isNone && (x.lines.all fun m => m.latched)) = true
  · obtain ⟨hnone, hall⟩ := Bool.and_eq_true_iff.1 hstream
    have hport := modPort_port_self s p fun _ => x.withLine (s.quire q).dir l
    obtain ⟨codes, hcs⟩ := streamLine_line (s := s.modPort p fun _ => x.withLine (s.quire q).dir l) (qi := q) (p := p) (k := k)
      (from_ := x.link.streamEnd - x.streamPh) (by rw [hport]; exact hsome) (by rw [hport]; exact ⟨l, by simp [Port.withLine], hk⟩)
    have hsent := sendCodes_keeps (fun y => y) (s := (s.modPort p fun _ => x.withLine (s.quire q).dir l).modPort p fun y => y.withCodes k codes)
      p p codes (x.link.streamEnd - x.streamPh)
    rw [if_pos hstream, hcs, hsent.kept, modPort_port_self, modPort_port_self, sendCodes_out_length, modPort_port_self, modPort_port_self]
    refine ⟨fun r hr => ?_, congrArg (· + (s.quire q).dir) hk, congrArg some hk, by simp [Port.withCodes, Port.withLine], _,
      withCodes_getLast _ k codes rfl hk, hk, hdec, hlat, fun cs h => ?_, fun hn hall => ⟨rfl, rfl⟩, fun hn hall' => ?_⟩
    · rw [hsent.others r hr, modPort_port_ne _ _ _ hr.symm, modPort_port_ne _ _ _ hr.symm]
    · rw [hcodes, h] at hnone
      simp at hnone
    · rw [hall] at hall'
      cases hall'
  · rw [if_neg hstream, modPort_port_self]
    refine ⟨fun r hr => modPort_port_ne _ _ _ hr.symm, congrArg (· + (s.quire q).dir) hk, congrArg some hk, by simp [Port.withLine], l,
      by simp [Port.withLine], hk, hdec, hlat, fun cs h => ⟨rfl, ?_⟩, fun hn hall => ?_, fun hn hall => ⟨rfl, ?_⟩⟩
    · rw [hcodes, h]
      exact if_pos rfl
    · refine absurd ?_ hstream
      rw [hcodes, hn, hall]
      rfl
    · rw [hcodes, hn]

/-- Settles O30: a line comes by the crossings of its own boundary and the one before, and what committing it adds. -/
theorem linesBecomeDue : Obligations.LinesBecomeDue := by
  unfold Obligations.LinesBecomeDue
  intro s p x
  refine ⟨fun h => exec_of rfl (lineDue_unbound h), fun q h hm => exec_of rfl (lineDue_idle h hm),
    fun q h hc ha => exec_of rfl (lineDue_uncrossed h hc ha), fun q c h hm ha hc h0 => exec_of rfl (lineDue_before h hm ha hc h0),
    fun q c h hm hc ha => exec_of rfl (lineDue_crossed h hm hc ha), fun q c c0 h hm ha hc h0 => exec_of rfl (lineDue_both h hm ha hc h0),
    fun q k due hb => ?_⟩
  obtain ⟨hothers, hnext, hlast, hlen, l, hget, hk, hdec, hlat, hheld, hsend, hwait⟩ := commitLine_lines (q := q) (k := k) (due := due) hb
  refine ⟨hnext, hlast, hothers, (commitLine_frame ..).quires.resolve_left (by decide), hlen, ?_, fun cs h => ?_, fun hn hall => ?_,
    fun hn hall => ?_⟩
  · rw [hget, Option.map_some, hk, hdec, hlat]
  · rw [hget]
    exact hheld cs h
  · rw [hget]
    exact hsend hn hall
  · rw [hget]
    exact hwait hn hall

end Sys2Proof.Machine
end

section
/-! PROOFS. Decisions, latches and playbacks (01_architecture.md R19, R20; 03_fire_timing.md R84; 06_waveforms.md R177, R178, R189, R190;
07_head_ports.md R203, R205, R207): O31, O32. -/

set_option Elab.async false

namespace Sys2Proof.Machine

/-! ### The decision of a line (R19, R84) -/

/-- What a line is decided to do. -/
def State.decision (s : State) (p : Fin 32) (l : Line) : Decision :=
  if (s.port p).st != .printing || s.inhibited p then .suppress else .fire (s.capUnder p l.cap)

/-- The line when it has been decided. -/
def Line.decided (l : Line) (d : Decision) : Line :=
  { l with dec := some d, plays := if d = .suppress then l.plays.map fun q => { q with phase := 2 } else l.plays,
           probe := if d = .suppress then none else l.probe }

/-- Among the lines in flight the undecided ones at its boundary are replaced, and what is over leaves. -/
def Port.linesAfter (x : Port) (l : Line) (d : Decision) : List Line :=
  (x.lines.map fun m => if m.k = l.k ∧ m.dec.isNone then l.decided d else m).filter fun m => !m.over

theorem decideOne_lines (s : State) (p : Fin 32) (l : Line) :
    ((decideOne s p l).port p).lines = (s.port p).linesAfter l (s.decision p l) ∧ ∀ r, r ≠ p → (decideOne s p l).port r = s.port r := by
  unfold decideOne
  extract_lets +onlyGivenNames x stopped dec l1 s1 s2 fires s3
  have h1 : (s1.port p).lines = (s.port p).lines.map fun m => if m.k = l.k ∧ m.dec.isNone then l.decided (s.decision p l) else m :=
    (congrArg Port.lines (modPort_port_self ..) :)
  have h2 : PortKeeps Port.lines p s1 s2 := by
    unfold s2
    split
    · exact (PortKeeps.foldl (fun t q => headWord_keeps ..) l.plays s1).map Port.lines
    · exact PortKeeps.refl ..
  have h3 : PortKeeps Port.lines p s2 s3 := by
    unfold s3
    split
    · exact PortKeeps.refl ..
    · split
      · exact PortKeeps.refl ..
      · extract_lets t t1 t2
        have ht : PortKeeps Port.lines p s2 t := .of_ports rfl
        have ht1 : PortKeeps Port.lines p t t1 := by
          unfold t1
          split
          · exact PortKeeps.modPort _ rfl
          · exact PortKeeps.refl ..
        have ht2 : PortKeeps Port.lines p t1 t2 := by
          unfold t2
          split
          · exact (setPwEvent_keeps _).map Port.lines
          · exact PortKeeps.refl ..
        exact ((ht.trans ht1).trans ht2).trans ((settleLine_keeps ..).map Port.lines)
  have h : PortKeeps Port.lines p s1 s3 := h2.trans h3
  refine ⟨?_, fun r hr => ?_⟩
  · rw [modPort_port_self]
    exact congrArg (List.filter fun m => !m.over) (h.kept.trans h1)
  · rw [modPort_port_ne _ _ _ hr.symm, h.others r hr]
    exact modPort_port_ne _ _ _ hr.symm

/-- A line whose codes are not in the head is not over. -/
theorem over_eq_false {l : Line} (h : l.latched = false) : l.over = false := by simp [Line.over, h]

/-- Settles O31: the first undecided line is decided, and how. -/
theorem linesAreDecided : Obligations.LinesAreDecided := by
  unfold Obligations.LinesAreDecided
  intro s p x
  refine ⟨fun h => exec_of rfl ?_, fun l h => exec_of rfl ?_, fun l hx hd hl => ?_⟩
  · unfold lineDecision
    rw [h]
  · unfold lineDecision
    rw [h]
  · have hover : (l.decided (s.decision p l)).over = false := over_eq_false hl
    rw [(decideOne_lines s p l).1, Port.linesAfter, show (s.port p).lines = [l] from hx]
    simp only [List.map_cons, List.map_nil, hd, Option.isNone_none, and_self, if_true, List.filter_cons, hover, Bool.not_false,
      List.filter_nil]
    have hdec : s.decision p l = if x.st = .printing ∧ s.inhibited p = false then .fire (s.capUnder p l.cap) else .suppress := by
      by_cases hst : (s.port p).st = .printing <;> by_cases hi : s.inhibited p = true <;> simp [State.decision, x, hst, hi]
    rw [← hdec]
    rfl

/-! ### Latches (R203, R205) -/

/-- The stream of a line leaves the other ports and the configuration alone. -/
theorem streamLine_keeps (s : State) (qi : Fin 8) (p : Fin 32) (k : Int) (bad : List Nat) (from_ : Nat) :
    PortKeeps Port.cfg p s (streamLine s qi p k bad from_) := by
  unfold streamLine
  extract_lets +onlyGivenNames q x
  split
  · exact PortKeeps.refl ..
  · extract_lets fly ws line miss codes s1 s2
    have h1 : PortKeeps Port.cfg p s s1 :=
      PortKeeps.foldl (fun t w => ((setPwEvent_keeps _).map Port.cfg).trans (raise_keeps ..)) ws s
    have h2 : PortKeeps Port.cfg p s1 s2 := PortKeeps.modPort _ (by cases line <;> rfl)
    exact (h1.trans h2).trans (sendCodes_keeps ..)

/-- What comes with a line's LATCH: its words go out, and the next line's stream may begin. -/
def atLatch (s : State) (p : Fin 32) (bad : List Nat) (l : Line) : State :=
  let s1 := latchWord (s.advanceTo l.latchAt) p l.mapBank l.latchAt
  match s1.quireOf p with
  | none => s1
  | some qi =>
    if streams (s1.quire qi) (s1.port p) l.k then
      streamLine s1 qi p (l.k + (s1.quire qi).dir) bad (l.latchAt + (s1.port p).latchPh)
    else s1

/-- The port when a line's codes are in the head. -/
def Port.latch (x : Port) (l : Line) : Port :=
  Port.dropOver { x with
    lines := x.lines.map (fun m => if m.k = l.k then { m with latched := true } else m),
    link := { x.link with headPend := l.codes.getD (List.replicate x.nozzles 0), latchK := some l.k } }

theorem headLatch_latches {s : State} {p : Fin 32} {bad : List Nat} {l : Line} (h : (s.port p).lines.find? (fun l => !l.latched) = some l) :
    headLatch p bad s = (atLatch s p bad l).modPort p fun x => x.latch l := by
  unfold headLatch
  simp only [h]
  rfl

theorem atLatch_keeps (s : State) (p : Fin 32) (bad : List Nat) (l : Line) : PortKeeps Port.cfg p s (atLatch s p bad l) := by
  unfold atLatch
  extract_lets s1
  have h1 : PortKeeps Port.cfg p s s1 :=
    (PortKeeps.of_ports (advanceTo_ports ..)).trans ((latchWord_keeps ..).map Port.cfg)
  split
  · exact h1
  · split
    · exact h1.trans (streamLine_keeps ..)
    · exact h1

theorem atLatch_clk (s : State) (p : Fin 32) (bad : List Nat) (l : Line) : (atLatch s p bad l).clk = max s.clk l.latchAt := by
  have h1 : (latchWord (s.advanceTo l.latchAt) p l.mapBank l.latchAt).clk = max s.clk l.latchAt := by
    rw [(latchWord_frame ..).clk.resolve_left (by decide), advanceTo_clk]
    omega
  unfold atLatch
  extract_lets s1
  split
  · exact h1
  · split
    · exact ((streamLine_frame ..).clk.resolve_left (by decide)).trans h1
    · exact h1

theorem headLatch_quires (p : Fin 32) (bad : List Nat) (s : State) : (headLatch p bad s).quires = s.quires :=
  (headLatch_frame ..).quires.resolve_left (by decide)

/-! ### Playbacks (R177, R178, R189, R190) -/

/-- The filtered output of a playback of these samples. -/
def Play.output (q : Play) (ys : List Int) : List Int :=
  filteredOut (finOf 20 (by decide) q.start) (ys.map fun y => scale y q.gain q.rank)

/-- The words of a PLAY are out, its first segment's and those between the segments among them. -/
def playWords (s : State) (p : Fin 32) (c : Chan) (l : Line) (q : Play) (cap : Nat) : State :=
  let s1 := headWord (senseSwitch s p c none) p c 1 (if l.flyleaf then 8 else cap) q.groups q.start
  match q.segs with
  | [] => s1
  | (f, t) :: rest => segWords (headWord s1 p c 2 0 0 (q.start + 20 * f)) p c q.start ((f, t) :: rest)

/-- The port when its pending codes have become the active ones and the channel has taken the line's gain. -/
def Port.play (x : Port) (c : Chan) (gain : Nat) : Port :=
  (fun (z : Port) => { z with link := { z.link with headActive := z.link.headPend } }) (x.modChan c fun z => { z with lastGain := gain })

/-- A PLAY with these samples is under way. -/
def playing (s : State) (p : Fin 32) (c : Chan) (l : Line) (q : Play) (cap : Nat) (ys : List Int) : State :=
  ((setPlay (playWords s p c l q cap) p l.k c q.start 1).modPort p fun y => y.play c q.gain).emit
    (.play p.1 c q.groups q.slot q.start (q.output ys) (finOf 20 (by decide) q.start))

/-- The damage of a slot's sample `i` is noted. -/
def Port.noteHurt (x : Port) (c : Chan) (slot i : Nat) : Port :=
  x.modChan c fun z => match assoc slot z.slots with
    | some w => z.damage (w.start + i)
    | none => z

theorem startPlay_sound {s : State} {p : Fin 32} {c : Chan} {l : Line} {q : Play} {cap : Nat} {ecc : Bool}
    (h : ((s.port p).chan c).firstHurt q.slot ecc = none) :
    startPlay s p c l q cap ecc = playing s p c l q cap (((s.port p).chan c).samplesOf q.slot) := by
  unfold startPlay
  simp only [h]
  rfl

theorem startPlay_hurt {s : State} {p : Fin 32} {c : Chan} {l : Line} {q : Play} {cap i : Nat} {ecc : Bool}
    (h : ((s.port p).chan c).firstHurt q.slot ecc = some i) :
    startPlay s p c l q cap ecc =
      waveFault ((playing s p c l q cap ((((s.port p).chan c).samplesOf q.slot).take i)).modPort p fun y => y.noteHurt c q.slot i) p c := by
  unfold startPlay
  simp only [h]
  rfl

/-- A port without what words and the sense switch change. -/
def Port.senseless (x : Port) : Port := { x.wordless with link := { x.wordless.link with sense := none } }

theorem playWords_keeps (s : State) (p : Fin 32) (c : Chan) (l : Line) (q : Play) (cap : Nat) :
    PortKeeps Port.senseless p s (playWords s p c l q cap) := by
  have hword : ∀ {t u : State}, PortKeeps Port.wordless p t u → PortKeeps Port.senseless p t u :=
    fun h => h.map fun x => { x with link := { x.link with sense := none } }
  unfold playWords
  extract_lets s1
  have h1 : PortKeeps Port.senseless p s s1 := (PortKeeps.modPort s rfl).trans (hword (headWord_keeps ..))
  split
  · exact h1
  · exact h1.trans (hword ((headWord_keeps ..).trans (segWords_keeps ..)))

/-- What a PLAY leaves of the port: all but the lines, words, sense switch, active codes and the channels' gains. -/
def Port.playless (x : Port) : Port :=
  { x.senseless with link := { x.senseless.link with headActive := [] }, lines := [], chA := Channel.reset, chB := Channel.reset }

theorem play_playless (x : Port) (c : Chan) (gain : Nat) : (x.play c gain).playless = x.playless := by cases c <;> rfl

theorem noteHurt_st (x : Port) (c : Chan) (slot i : Nat) : (x.noteHurt c slot i).st = x.st := by cases c <;> rfl

theorem playing_keeps (s : State) (p : Fin 32) (c : Chan) (l : Line) (q : Play) (cap : Nat) (ys : List Int) :
    PortKeeps Port.playless p s (playing s p c l q cap ys) := by
  have hwords : PortKeeps Port.playless p s (playWords s p c l q cap) := (playWords_keeps s p c l q cap).map Port.playless
  have hset : PortKeeps Port.playless p (playWords s p c l q cap) (setPlay (playWords s p c l q cap) p l.k c q.start 1) :=
    PortKeeps.modPort _ rfl
  have hplay := PortKeeps.modPort (p := p) (f := fun y => y.play c q.gain) (setPlay (playWords s p c l q cap) p l.k c q.start 1)
    (play_playless ..)
  exact ((hwords.trans hset).trans hplay).trans (PortKeeps.of_ports (emit_ports ..))

theorem playing_st (s : State) (p : Fin 32) (c : Chan) (l : Line) (q : Play) (cap : Nat) (ys : List Int) :
    ((playing s p c l q cap ys).port p).st = (s.port p).st := ((playing_keeps s p c l q cap ys).map Port.st).kept

/-- A PLAY takes no time, and touches no quire. -/
theorem playing_frame (s : State) (p : Fin 32) (c : Chan) (l : Line) (q : Play) (cap : Nat) (ys : List Int) :
    (playing s p c l q cap ys).clk = s.clk ∧ (playing s p c l q cap ys).quires = s.quires := by
  have hwords : Frame [.glb, .link, .cnt, .ports, .out] s (playWords s p c l q cap) := by
    unfold playWords
    extract_lets s1
    have h1 : Frame [.glb, .link, .cnt, .ports, .out] s s1 := ((senseSwitch_frame ..).mono (by decide)).trans (headWord_frame ..)
    split
    · exact h1
    · exact h1.trans ((headWord_frame ..).trans (segWords_frame ..))
  exact ⟨hwords.clk.resolve_left (by decide), hwords.quires.resolve_left (by decide)⟩

/-- The port during it. -/
theorem playing_port (s : State) (p : Fin 32) (c : Chan) (l : Line) (q : Play) (cap : Nat) (ys : List Int) :
    ((playing s p c l q cap ys).port p).link.headActive = (s.port p).link.headPend ∧
      (((playing s p c l q cap ys).port p).chan c).lastGain = q.gain := by
  have hpend : ((playWords s p c l q cap).port p).link.headPend = (s.port p).link.headPend :=
    (congrArg (fun x : Port => x.link.headPend) (playWords_keeps s p c l q cap).kept :)
  unfold playing setPlay
  rw [emit_port, modPort_port_self, modPort_port_self]
  exact ⟨by cases c <;> exact hpend, by cases c <;> rfl⟩

/-- A start instant with a decided line. -/
theorem playbackStart_fires {s : State} {p : Fin 32} {c : Chan} {ecc : Bool} {l : Line} {q : Play} {cap : Nat}
    (h : firstPlay (s.port p) c 0 = some (l, q)) (hd : l.dec = some (.fire cap)) :
    playbackStart p c ecc s = startPlay (s.advanceTo q.start) p c l q cap ecc := by
  unfold playbackStart
  rw [h]
  simp only [hd]

theorem playbackStart_suppressed {s : State} {p : Fin 32} {c : Chan} {ecc : Bool} {l : Line} {q : Play}
    (h : firstPlay (s.port p) c 0 = some (l, q)) (hd : l.dec = some .suppress) : playbackStart p c ecc s = s.advanceTo q.start := by
  unfold playbackStart
  rw [h]
  simp only [hd]

/-- No line, no playback. -/
theorem firstPlay_nil {x : Port} (h : x.lines = []) (c : Chan) (phase : Nat) : firstPlay x c phase = none := by
  rw [firstPlay, h]
  rfl

/-- A port that is open and not yet in FAULT faults with the cause given (R216). -/
theorem portFault_faults {s : State} {p : Fin 32} {cause : Nat}
    (h : (s.port p).st = .idle ∨ (s.port p).st.inJob = true ∨ (s.port p).st = .draining) :
    ((portFault s p cause).port p).st = .fault ∧ ((portFault s p cause).port p).cause = cause := by
  have hend : ∀ (u : State) (f : Port → Port) (old : PState), (f (u.port p)).st = .fault → (f (u.port p)).cause = cause →
      ((stateChanged (faultEdge (u.modPort p f)) p old .fault cause).port p).st = .fault ∧
        ((stateChanged (faultEdge (u.modPort p f)) p old .fault cause).port p).cause = cause := by
    intro u f old hst hcause
    have hk := ((faultEdge_keeps Port.wordless p (u.modPort p f)).trans (stateChanged_keeps _ p old .fault cause)).kept
    rw [modPort_port_self] at hk
    exact ⟨(congrArg Port.st hk :).trans hst, (congrArg Port.cause hk :).trans hcause⟩
  unfold portFault
  cases hst : (s.port p).st <;> simp only [hst, PState.inJob, reduceCtorEq, Bool.false_eq_true, or_self] at h ⊢ <;> exact hend _ _ _ rfl rfl

/-- A damaged playback leaves the state of the port to the fault. -/
theorem waveFault_faults {s : State} {p : Fin 32} {c : Chan}
    (h : (s.port p).st = .idle ∨ (s.port p).st.inJob = true ∨ (s.port p).st = .draining) :
    ((waveFault s p c).port p).st = .fault ∧ ((waveFault s p c).port p).cause = 4 := by
  unfold waveFault dropPlays
  refine portFault_faults ?_
  rw [modPort_port_self, emit_port, modPort_port_self]
  exact h

/-- Settles O32: latch, start and end of playbacks, each by the line that it finds. -/
theorem latchesAndPlaybacks : Obligations.LatchesAndPlaybacks := by
  unfold Obligations.LatchesAndPlaybacks
  intro s p c x
  refine ⟨fun bad ecc h => ⟨exec_of rfl ?_, exec_of rfl ?_, exec_of rfl ?_⟩, fun bad l h => ?_, fun l q cap h hd hh => ?_,
    fun ecc l q h hd => exec_of rfl (playbackStart_suppressed h hd), fun ecc l q cap i h hd hh => ?_, fun l q h => exec_of rfl ?_⟩
  · simp only [headLatch, show (s.port p).lines = [] from h, List.find?_nil]
  · simp only [playbackStart, firstPlay_nil (show (s.port p).lines = [] from h)]
  · simp only [playbackEnd, firstPlay_nil (show (s.port p).lines = [] from h)]
  · have hk := atLatch_keeps s p bad l
    have hnoz : ((atLatch s p bad l).port p).nozzles = x.nozzles := by
      unfold Port.nozzles
      rw [hk.kept]
    refine ⟨_, exec_of rfl (headLatch_latches h), ?_, ?_, ?_, ?_, fun r hr => (modPort_port_ne _ _ _ hr.symm).trans (hk.others r hr)⟩
    · exact (modPort_clk ..).trans (atLatch_clk ..)
    · rw [modPort_port_self, ← hnoz]
      rfl
    · rw [modPort_port_self]
      rfl
    · rw [← headLatch_latches h, headLatch_quires]
  · have hrun := (playbackStart_fires (ecc := false) h hd).trans (startPlay_sound (s := s.advanceTo q.start) hh)
    obtain ⟨hclk, hquires⟩ := playing_frame (s.advanceTo q.start) p c l q cap ((x.chan c).samplesOf q.slot)
    obtain ⟨hactive, hgain⟩ := playing_port (s.advanceTo q.start) p c l q cap ((x.chan c).samplesOf q.slot)
    refine ⟨_, exec_of rfl hrun, hclk.trans ?_, hactive, hgain, hquires, (playing_keeps ..).others, rfl⟩
    rw [advanceTo_clk]
    omega
  · obtain ⟨u, hu⟩ : ∃ u, u = (playing (s.advanceTo q.start) p c l q cap (((x.chan c).samplesOf q.slot).take i)).modPort p fun y =>
        y.noteHurt c q.slot i := ⟨_, rfl⟩
    have hrun : playbackStart p c ecc s = waveFault u p c :=
      hu ▸ (playbackStart_fires (ecc := ecc) h hd).trans (startPlay_hurt (s := s.advanceTo q.start) hh)
    have hst : (u.port p).st = x.st := by rw [hu, modPort_port_self, noteHurt_st, playing_st, advanceTo_port]
    have hclk : u.clk = max s.clk q.start := by
      rw [hu, modPort_clk, (playing_frame ..).1, advanceTo_clk]
      omega
    exact ⟨u, exec_of rfl hrun, hclk, hst, by rw [hu]; rfl, fun hx => waveFault_faults (by rw [hst]; exact hx)⟩
  · simp only [playbackEnd, show firstPlay (s.port p) c 1 = some (l, q) from h]

end Sys2Proof.Machine
end

section
/-! PROOFS. The stop arbiter, start-of-scan edges, swaps and the ends of drains (01_architecture.md R15 to R21; 03_fire_timing.md R93 to R99;
05_screening.md R143, R144; 07_head_ports.md R215): O34, O35, O36, O37. -/

set_option Elab.async false

namespace Sys2Proof.Machine

/-! ### Steps over every index -/

/-- A list of steps none of which changes the state. -/
theorem foldl_fixed {α σ : Type} {f : σ → α → σ} {s : σ} : ∀ (l : List α), (∀ a ∈ l, f s a = s) → l.foldl f s = s
  | [], _ => rfl
  | a :: l, h => by
    rw [List.foldl_cons, h a List.mem_cons_self]
    exact foldl_fixed l fun b hb => h b (List.mem_cons_of_mem a hb)

/-- A list of steps that all keep what `π` shows. -/
theorem foldl_keeps {α σ β : Type} {f : σ → α → σ} {π : σ → β} (l : List α) (h : ∀ s, ∀ a ∈ l, π (f s a) = π s) (s : σ) :
    π (l.foldl f s) = π s := by
  induction l generalizing s with
  | nil => rfl
  | cons a l ih =>
    rw [List.foldl_cons, ih fun s b hb => h s b (List.mem_cons_of_mem a hb), h s a List.mem_cons_self]

/-- Steps over every index of which one alone acts. -/
theorem foldl_single {α σ : Type} [DecidableEq α] {g : σ → α → σ} {a : α} : ∀ (l : List α), l.Nodup → a ∈ l → ∀ s,
    l.foldl (fun t b => if b = a then g t b else t) s = g s a
  | b :: l, hn, hm, s => by
    obtain ⟨hb, hl⟩ := List.nodup_cons.1 hn
    by_cases hba : b = a
    · subst hba
      rw [List.foldl_cons, if_pos rfl]
      exact foldl_fixed l fun c hc => if_neg fun (e : c = b) => hb (e ▸ hc)
    · rw [List.foldl_cons, if_neg hba]
      exact foldl_single l hl ((List.mem_cons.1 hm).resolve_left fun e => hba e.symm) s

theorem forAll_fixed {n : Nat} {f : State → Fin n → State} {s : State} (h : ∀ i, f s i = s) : forAll s f = s :=
  foldl_fixed _ fun i _ => h i

theorem forAll_single {n : Nat} {g : State → Fin n → State} {s : State} (a : Fin n) :
    forAll s (fun t i => if i = a then g t i else t) = g s a :=
  foldl_single (idx n) (List.nodup_finRange n) (List.mem_finRange a) s

/-! ### Requests (R19 to R21) -/

/-- Where no undecided line has passed its decision instant, none is decided. -/
theorem decidePast_none {s : State} {p : Fin 32}
    (h : ((s.port p).lines.all fun l => l.dec.isSome || decide (s.clk ≤ l.decideAt)) = true) : decidePast s p = s := by
  have hnil : ((s.port p).lines.filter fun l => l.dec.isNone && decide (l.decideAt < s.clk)) = [] := by
    refine List.filter_eq_nil_iff.2 fun l hl => ?_
    have := List.all_eq_true.1 h l hl
    simp only [Bool.or_eq_true, decide_eq_true_eq, Bool.and_eq_true, not_and, not_lt] at this ⊢
    intro hd
    rcases this with hs | hs
    · rw [Option.isNone_iff_eq_none] at hd
      rw [hd] at hs
      cases hs
    · exact hs
  unfold decidePast
  rw [hnil]
  rfl

/-- An INHIBIT or CAP with no line of its scope past its instant. -/
theorem request_adds {s : State} {src : ReqSource} {sc : ReqScope} {k : ReqKind}
    (hk : (match k with | .stop _ => false | .inhibit | .cap _ => true) = true)
    (h : ((idx 32).all fun p => !(s.covers sc p) || (s.port p).lines.all fun l => l.dec.isSome || decide (s.clk ≤ l.decideAt)) = true) :
    request s src sc k = addReq s src sc k := by
  have hfix : (forAll s fun (t : State) (p : Fin 32) => if t.covers sc p then decidePast t p else t) = s := by
    refine forAll_fixed fun p => ?_
    have hp := List.all_eq_true.1 h p (List.mem_finRange p)
    by_cases hc : s.covers sc p = true
    · rw [if_pos hc]
      refine decidePast_none ?_
      rw [hc] at hp
      exact hp
    · exact if_neg hc
  cases k with
  | stop c => cases hk
  | inhibit => exact congrArg (addReq · src sc .inhibit) hfix
  | cap n => exact congrArg (addReq · src sc (.cap n)) hfix

/-- From `s` to `t` no quire but `q` changes, and none takes another state or other ports. -/
structure OnlyQuire (q : Fin 8) (s t : State) : Prop where
  st : ∀ r, (t.quire r).st = (s.quire r).st
  ports : ∀ r, (t.quire r).ports = (s.quire r).ports
  others : ∀ r, r ≠ q → t.quire r = s.quire r

namespace OnlyQuire
variable {q : Fin 8} {s t u : State}

theorem trans (h : OnlyQuire q s t) (g : OnlyQuire q t u) : OnlyQuire q s u :=
  ⟨fun r => (g.st r).trans (h.st r), fun r => (g.ports r).trans (h.ports r), fun r hr => (g.others r hr).trans (h.others r hr)⟩

theorem of_quires (h : t.quires = s.quires) : OnlyQuire q s t :=
  ⟨fun r => congrArg (fun v => (look v r).st) h, fun r => congrArg (fun v => (look v r).ports) h, fun r _ => congrArg (look · r) h⟩

theorem modQuire (s : State) {f : Quire → Quire} (hst : (f (s.quire q)).st = (s.quire q).st)
    (hp : (f (s.quire q)).ports = (s.quire q).ports) : OnlyQuire q s (s.modQuire q f) := by
  refine ⟨fun r => ?_, fun r => ?_, fun r hr => modQuire_quire_ne _ _ _ hr.symm⟩
  · by_cases hr : q = r
    · subst hr
      rw [modQuire_quire_self, hst]
    · rw [modQuire_quire_ne _ _ _ hr]
  · by_cases hr : q = r
    · subst hr
      rw [modQuire_quire_self, hp]
    · rw [modQuire_quire_ne _ _ _ hr]

/-- Ports stay with their quires. -/
theorem quireOf (h : OnlyQuire q s t) (p : Fin 32) : t.quireOf p = s.quireOf p := by
  unfold State.quireOf
  simp only [h.st, h.ports]

end OnlyQuire

/-- Deciding a line counts in the port's quire. -/
theorem decideOne_onlyQuire {s : State} {p : Fin 32} {q : Fin 8} (h : s.quireOf p = some q) (l : Line) :
    OnlyQuire q s (decideOne s p l) := by
  unfold decideOne
  extract_lets +onlyGivenNames x stopped dec l1 s1 s2 fires s3
  have h2 : OnlyQuire q s s2 := .of_quires (by
    unfold s2
    split
    · exact foldl_keeps (π := State.quires) l.plays (fun u w _ => (headWord_frame ..).quires.resolve_left (by decide)) s1
    · rfl)
  refine h2.trans ?_
  have h3 : OnlyQuire q s2 s3 := by
    unfold s3
    split
    · exact .of_quires rfl
    · split
      · exact .of_quires rfl
      · next qi hqi =>
        obtain rfl : qi = q := Option.some.inj (hqi.symm.trans ((h2.quireOf p).trans h))
        extract_lets t t1 t2
        have ht : OnlyQuire qi s2 t := .modQuire _ (by cases fires <;> rfl) (by cases fires <;> rfl)
        have ht1 : OnlyQuire qi t t1 := .of_quires (by unfold t1; split <;> rfl)
        have ht2 : OnlyQuire qi t1 t2 := .of_quires (by
          unfold t2
          split
          · exact (setPwEvent_frame ..).quires.resolve_left (by decide)
          · rfl)
        exact ((ht.trans ht1).trans ht2).trans (.of_quires ((settleLine_frame ..).quires.resolve_left (by decide)))
  exact h3.trans (.of_quires rfl)

theorem foldl_onlyQuire {α : Type} {q : Fin 8} {f : State → α → State} :
    ∀ (l : List α) (s : State), (∀ t, OnlyQuire q s t → ∀ a ∈ l, OnlyQuire q t (f t a)) → OnlyQuire q s (l.foldl f s)
  | [], s, _ => .of_quires rfl
  | a :: l, s, h => by
    have ha := h s (.of_quires rfl) a List.mem_cons_self
    exact ha.trans (foldl_onlyQuire l (f s a) fun t ht b hb => h t (ha.trans ht) b (List.mem_cons_of_mem a hb))

theorem decidePast_onlyQuire {s : State} {p : Fin 32} {q : Fin 8} (h : s.quireOf p = some q) : OnlyQuire q s (decidePast s p) :=
  foldl_onlyQuire _ s fun _ ht l _ => decideOne_onlyQuire ((ht.quireOf p).trans h) l

/-- The ports of a quire decide what has passed. -/
theorem decideActive_onlyQuire {s : State} {q : Fin 8} (h : ((s.activeOf q).all fun p => s.quireOf p == some q) = true) :
    OnlyQuire q s ((s.activeOf q).foldl decidePast s) :=
  foldl_onlyQuire _ s fun _ ht p hp => decidePast_onlyQuire ((ht.quireOf p).trans (by simpa using List.all_eq_true.1 h p hp))

/-- A STOP of a quire that has something to stop: lines are decided, pending swaps happen, ports drain. -/
theorem stopQuire_stops {s : State} {q : Fin 8} {c : Nat} (h : (s.quire q).st.stoppable = true) :
    ∃ (u : State) (nx : Int) (all : List Nat), u.quires = ((s.activeOf q).foldl decidePast s).quires ∧ c ∈ all ∧
      ((s.quire q).stopAt = [] → all = [c]) ∧
      stopQuire s q c = u.modQuire q fun x =>
        { x with st := .stopping, cause := all.foldl max 0, causes := all, next := nx, stopAt := [], event := x.event ||| 2 } := by
  unfold stopQuire stopWith
  simp only [h, if_true]
  refine ⟨_, _, _, ?_, List.mem_append_left _ (List.mem_singleton_self c), fun hn => ?_, rfl⟩
  · rw [(drainPorts_frame ..).quires.resolve_left (by decide), (swapQuire_frame ..).quires.resolve_left (by decide)]
  · rw [hn]
    rfl

theorem le_foldl_max : ∀ (l : List Nat) (m : Nat), m ≤ l.foldl max m
  | [], _ => Nat.le_refl _
  | a :: l, m => (Nat.le_max_left m a).trans (le_foldl_max l (max m a))

theorem mem_le_foldl_max {c : Nat} : ∀ (l : List Nat) (m : Nat), c ∈ l → c ≤ l.foldl max m
  | a :: l, m, h => by
    rcases List.mem_cons.1 h with rfl | h
    · exact (Nat.le_max_right m c).trans (le_foldl_max l (max m c))
    · exact mem_le_foldl_max l (max m a) h

/-- A STOP of a quire in STOPPING may raise the cause. -/
theorem stopQuire_stopping {s : State} {q : Fin 8} {c : Nat} (h : (s.quire q).st = .stopping) :
    stopQuire s q c = s ∨ stopQuire s q c =
      s.modQuire q fun x => { x with cause := max x.cause c, causes := x.causes ++ [c] } := by
  unfold stopQuire stopWith
  simp only [h, QState.stoppable, Bool.false_eq_true, if_false]
  split
  · exact .inr rfl
  · exact .inl rfl

/-- A STOP of a quire that has nothing to stop. -/
theorem stopQuire_idle {s : State} {q : Fin 8} {c : Nat} (h : (s.quire q).st = .unbound ∨ (s.quire q).st = .bound ∨ (s.quire q).st = .fault) :
    stopQuire s q c = s := by
  unfold stopQuire stopWith
  rcases h with h | h | h <;> simp [h, QState.stoppable]

/-- Settles O34: each request by its kind, and a STOP by the state of its quire. -/
theorem arbiterRequests : Obligations.ArbiterRequests := by
  unfold Obligations.ArbiterRequests
  intro s src
  refine ⟨fun sc k hk h => exec_of rfl (request_adds hk h), fun q c hst => ?_, fun q c hst => ?_, fun q c hst => exec_of rfl (stopQuire_idle hst),
    fun p c h => exec_of rfl ?_, fun sc h => exec_of rfl (if_pos h), fun sc h => exec_of rfl (if_neg (by simp [h]))⟩
  · obtain ⟨u, nx, all, hu, hmem, hall, hstop⟩ := stopQuire_stops (q := q) (c := c.toNat) (s := s) (by
      rcases hst with h | h | h | h <;> rw [h] <;> rfl)
    refine ⟨_, exec_of rfl hstop, ?_⟩
    rw [modQuire_quire_self]
    refine ⟨rfl, mem_le_foldl_max _ _ hmem, fun hn => ?_, rfl, fun ha r hr => ?_⟩
    · show all.foldl max 0 = c.toNat
      rw [hall hn]
      exact Nat.zero_max _
    · rw [modQuire_quire_ne _ _ _ hr.symm]
      exact (congrArg (look · r) hu).trans ((decideActive_onlyQuire ha).others r hr)
  · rcases stopQuire_stopping (c := c.toNat) hst with h | h
    · exact ⟨_, exec_of rfl h, Nat.le_refl _, rfl, rfl, fun _ _ => rfl⟩
    · refine ⟨_, exec_of rfl h, ?_⟩
      rw [modQuire_quire_self]
      exact ⟨Nat.le_max_left .., rfl, rfl, fun r hr => modQuire_quire_ne _ _ _ hr.symm⟩
  · show stopPortFor s p c.toNat false = s
    unfold stopPortFor
    rw [h]

/-! ### Start-of-scan edges (R93, R94) -/

/-- Two changes of one quire are one. -/
theorem modQuire_modQuire (s : State) (q : Fin 8) (f g : Quire → Quire) : (s.modQuire q f).modQuire q g = s.modQuire q fun x => g (f x) := by
  simp [State.modQuire, upd]

/-- What a capture changes of a quire. -/
def Quire.captured (q : Quire) (pos : BitVec 64) (tb : BitVec 64) : Quire := { q with sosPos := pos, sosTb := tb }

/-- A capture does not move the next boundary. -/
theorem behindBy_captured (s : State) (q : Fin 8) (pos tb : BitVec 64) (b : Int) :
    (s.modQuire q fun x => x.captured pos tb).behindBy q b = s.behindBy q b := by
  have hq : (s.modQuire q fun x => x.captured pos tb).quire q = (s.quire q).captured pos tb := modQuire_quire_self ..
  unfold State.behindBy State.quireNext State.nextByPosition State.quireLead State.activeOf State.portsOf
  rw [hq]
  rfl

/-- The edge of an input that one quire waits for. -/
theorem sosEdge_single {s : State} {i : Fin 4} {rising : Bool} {held : Nat} {q : Fin 8}
    (h : ((idx 8).all fun r => (s.quire r).gatedBy i == (r == q)) = true) :
    sosEdge i rising held s =
      if sosFits s (s.quire q) i rising held then
        { sosQuire s q i rising held with sos := upd (sosQuire s q i rising held).sos i fun o => { o with last := some s.clk } }
      else sosQuire s q i rising held := by
  have hg : ∀ r, (s.quire r).gatedBy i = decide (r = q) := fun r => by
    exact (eq_of_beq (List.all_eq_true.1 h r (List.mem_finRange r))).trans (beq_eq_decide r q)
  have hall : (forAll s fun (t : State) (r : Fin 8) => if (s.quire r).gatedBy i then sosQuire t r i rising held else t) =
      sosQuire s q i rising held := by
    simp only [hg, decide_eq_true_eq]
    exact forAll_single q
  have hit : ((idx 8).any fun r => (s.quire r).gatedBy i && sosFits s (s.quire r) i rising held) = sosFits s (s.quire q) i rising held := by
    rw [Bool.eq_iff_iff, List.any_eq_true]
    simp only [hg, Bool.and_eq_true, decide_eq_true_eq]
    exact ⟨fun ⟨r, _, hr, hf⟩ => hr ▸ hf, fun hf => ⟨q, List.mem_finRange q, rfl, hf⟩⟩
  unfold sosEdge
  simp only [hall, hit]

/-- An edge of an input that no quire waits for. -/
theorem sosEdge_none {s : State} {i : Fin 4} {rising : Bool} {held : Nat} (h : ((idx 8).all fun q => !((s.quire q).gatedBy i)) = true) :
    sosEdge i rising held s = s := by
  have hg : ∀ r, (s.quire r).gatedBy i = false := fun r => by simpa using List.all_eq_true.1 h r (List.mem_finRange r)
  unfold sosEdge
  simp only [hg, Bool.false_and, Bool.false_eq_true, if_false, List.any_eq_true, and_false, exists_false]
  exact forAll_fixed fun _ => rfl

/-- An edge that does not serve a quire is counted. -/
theorem sosQuire_rejects {s : State} {q : Fin 8} {i : Fin 4} {rising : Bool} {held : Nat} (hg : (s.quire q).gatedBy i = true)
    (hf : sosFits s (s.quire q) i rising held = false) : sosQuire s q i rising held =
      s.modQuire q fun x => { x with cnt := { x.cnt with sosRejected := min (x.cnt.sosRejected + 1) 255 } } := by
  unfold sosQuire
  simp only [hg, hf, Bool.not_true, Bool.false_eq_true, if_false]
  rfl

/-- An edge that serves a quire that waits for a swath opens its gate. -/
theorem sosQuire_opens {s : State} {q : Fin 8} {i : Fin 4} {rising : Bool} {held : Nat} (hg : (s.quire q).gatedBy i = true)
    (hf : sosFits s (s.quire q) i rising held = true) (hgate : (s.quire q).gate = false)
    (hst : (s.quire q).st = .armed ∨ (s.quire q).st = .suspended) : sosQuire s q i rising held =
      openGate (s.modQuire q fun x => x.captured ((s.trackedNow (s.quire q).source).signExtend 64) (BitVec.ofNat 64 s.ns)) q := by
  unfold sosQuire
  simp only [hg, hf, hgate, hst, Bool.not_true, Bool.not_false, Bool.true_and, Bool.false_eq_true, if_false, if_true, Bool.or_eq_true,
    decide_eq_true_eq]
  rfl

/-- Opening the gate, by how far the quire is behind its first boundary. -/
theorem openGate_eq (s : State) (q : Fin 8) : openGate s q =
    if s.behindBy q (s.quire q).anchor ≤ 0 then aimFirst (s.modQuire q fun x => { x with gate := true }) q
    else if s.behindBy q (s.quire q).anchor ≤ (s.quire q).lateWin then
      lateStartEvent (startLate (s.modQuire q fun x => { x with gate := true }) q (s.behindBy q (s.quire q).anchor).toNat) q stOkLate 1
        (s.behindBy q (s.quire q).anchor) (s.quire q).anchor
    else stopQuire (lateStartEvent (s.modQuire q fun x => { x with gate := true }) q stCompareBehind 1
      (s.behindBy q (s.quire q).anchor) (s.quire q).anchor) q 7 := rfl

/-- A change of a quire is what it makes of that quire. -/
theorem modQuire_congr {s : State} {q : Fin 8} {f g : Quire → Quire} (h : f (s.quire q) = g (s.quire q)) : s.modQuire q f = s.modQuire q g :=
  congrArg (fun x => ({ s with quires := s.quires.set q.1 x q.2 } : State)) h

/-- The gate opens after a capture. -/
theorem openGate_captured (s : State) (q : Fin 8) (pos tb : BitVec 64) {u : State}
    (hu : u = s.modQuire q fun x => { x.captured pos tb with gate := true }) :
    openGate (s.modQuire q fun x => x.captured pos tb) q =
      if s.behindBy q (s.quire q).anchor ≤ 0 then aimFirst u q
      else if s.behindBy q (s.quire q).anchor ≤ (s.quire q).lateWin then
        lateStartEvent (startLate u q (s.behindBy q (s.quire q).anchor).toNat) q stOkLate 1 (s.behindBy q (s.quire q).anchor) (s.quire q).anchor
      else stopQuire (lateStartEvent u q stCompareBehind 1 (s.behindBy q (s.quire q).anchor) (s.quire q).anchor) q 7 := by
  rw [openGate_eq, behindBy_captured, modQuire_modQuire, modQuire_quire_self, ← hu]
  rfl

/-- Settles O35: an edge is nobody's, rejected, or opens a gate by how far the quire is behind. -/
theorem scanEdgesOpenSwaths : Obligations.ScanEdgesOpenSwaths := by
  unfold Obligations.ScanEdgesOpenSwaths
  intro s i rising held
  refine ⟨fun h => exec_of rfl (sosEdge_none h), fun q h hf => ?_, ?_⟩
  · have hg : (s.quire q).gatedBy i = true := by simpa using List.all_eq_true.1 h q (List.mem_finRange q)
    exact exec_of rfl ((sosEdge_single h).trans ((if_neg (by simp [hf])).trans (sosQuire_rejects hg hf)))
  · intro q h hf hgate hst n u off
    have hg : (s.quire q).gatedBy i = true := by simpa using List.all_eq_true.1 h q (List.mem_finRange q)
    have hopen := (sosQuire_opens hg hf hgate hst).trans (openGate_captured s q _ _ (u := u) (modQuire_congr rfl))
    have hedge : ∀ t, sosQuire s q i rising held = t → sosEdge i rising held s = off t := by
      rintro t rfl
      have hsos : (sosQuire s q i rising held).sos = s.sos := (sosQuire_frame ..).sos.resolve_left (by decide)
      rw [sosEdge_single h, if_pos hf, hsos]
    refine ⟨fun hn => ?_, fun h0 hn => ?_, fun h0 hn => ?_⟩
    · exact exec_of rfl (hedge _ (hopen.trans (if_pos hn)))
    · exact exec_of rfl (hedge _ (hopen.trans ((if_neg (Int.not_le.2 h0)).trans (if_pos hn))))
    · exact exec_of rfl (hedge _ (hopen.trans ((if_neg (Int.not_le.2 h0)).trans (if_neg (Int.not_le.2 hn)))))

/-! ### Swaps and copies (R15 to R17, R143, R144) -/

/-- With nothing decoded that waits, nothing is screened again. -/
theorem rescreenAt_empty {s : State} {p : Fin 32} (h : (s.port p).dat.queue = []) (js : List Nat) : rescreenAt s p js = s :=
  foldl_fixed js fun j _ => by simp only [h]

/-- A swap with no pending set, and no decoded line, changes nothing. -/
theorem swapPrinting_nothing {s : State} {q : Fin 8} {k : Int} (hsets : s.swapSets q = [])
    (hq : ((s.activeOf q).all fun p => (s.port p).dat.queue.isEmpty) = true) : swapPrinting s q k = s := by
  have hswap : swapQuire s q k false = s := by
    unfold swapQuire
    rw [hsets]
    rfl
  unfold swapPrinting
  simp only [hswap]
  exact foldl_fixed _ fun p hp => rescreenAt_empty (List.isEmpty_iff.1 (List.all_eq_true.1 hq p hp)) _

/-- A quire without active ports swaps its one pending set. -/
theorem swapPrinting_one {s : State} {q : Fin 8} {k : Int} {m : U32} (hact : s.activeOf q = []) (hsets : s.swapSets q = [m]) :
    swapPrinting s q k = swapSet s q k false m := by
  unfold swapPrinting
  simp only [hact, List.foldl_nil]
  unfold swapQuire
  rw [hsets]
  rfl

/-- One pending set: kept back while a copy waits, failed, or swapped. -/
theorem swapSet_eq (s : State) (q : Fin 8) (k : Int) (m : U32) : swapSet s q k false m =
    if ((portsIn m.toNat).any fun p => (s.port p).copyWaits) = true then s
    else if commitBad s (portsIn m.toNat) ≠ 0 then commitFail s m.toNat (commitBad s (portsIn m.toNat))
    else commitDone ((portsIn m.toNat).foldl (fun t p => swapPort t p ((s.quire q).lineG k) k) s) m.toNat k := rfl

/-- What the copy's turn does, by whether an old bank is left and governs a line to come. -/
def copyTurn (p : Fin 32) (s : State) : State :=
  match (s.port p).banks with
  | some b => match b.old with
    | some o => if copyReady s p o.from_ then copyShadow s p else s
    | none => s
  | none => s

theorem copyTurn_none {s : State} {p : Fin 32} (h : ((s.port p).banks.bind fun b => b.old) = none) : copyTurn p s = s := by
  unfold copyTurn
  cases hb : (s.port p).banks with
  | none => rfl
  | some b =>
    rw [hb, Option.bind_some] at h
    simp only [h]

theorem copyTurn_some {s : State} {p : Fin 32} {b : Banks} {o : OldBank} (hb : (s.port p).banks = some b) (ho : b.old = some o) :
    copyTurn p s = if copyReady s p o.from_ then copyShadow s p else s := by
  unfold copyTurn
  simp only [hb, ho]

/-- Two changes of one port are one. -/
theorem modPort_modPort (s : State) (p : Fin 32) (f g : Port → Port) : (s.modPort p f).modPort p g = s.modPort p fun x => g (f x) := by
  simp [State.modPort, upd]

/-- The copy with no held write: the shadow bank is the live bank, and nothing but the port changes. -/
theorem copyShadow_plain {s : State} {p : Fin 32} {b : Banks} (hb : (s.port p).banks = some b) (hw : b.heldW = []) :
    ∃ f : Port → Port, copyShadow s p = s.modPort p f ∧ (f (s.port p)).banks = some { b with shadow := b.live, old := none } := by
  unfold copyShadow landAll
  simp only [hb, modPort_port_self, Option.isSome_none, Bool.false_eq_true, if_false, hw, List.filter_nil, landHeld, State.modBanks,
    modPort_modPort]
  exact ⟨_, rfl, by rw [Option.map_some, ← hw]⟩

/-- Settles O36: swaps by the pending sets of the quire, copies by the old bank of the port. -/
theorem banksSwapAndCopy : Obligations.BanksSwapAndCopy := by
  unfold Obligations.BanksSwapAndCopy
  intro s
  have hturn : ∀ p, exec (.shadowCopy p) s = .next (copyTurn p s) := fun _ => rfl
  have hswap : ∀ q, (s.quire q).st ≠ .suspended → exec (.bankSwap q) s = .next (swapPrinting s q (s.furthest q)) :=
    fun q h => exec_of rfl (if_neg h)
  refine ⟨fun q h => ?_, hswap, ?_, fun p h => exec_of (hturn p) (copyTurn_none h), fun p b o hb ho hr hw => ?_,
    fun p b o hb ho hr _ => exec_of (hturn p) ((copyTurn_some hb ho).trans (if_pos hr)),
    fun p b o hb ho hr => exec_of (hturn p) ((copyTurn_some hb ho).trans (if_neg (by simp [hr])))⟩
  · by_cases hst : (s.quire q).st = .suspended
    · exact exec_of rfl (if_pos hst)
    · obtain ⟨hsets, hq⟩ := h.resolve_left hst
      exact exec_of (hswap q hst) (swapPrinting_nothing hsets hq)
  · intro q m hst hact hsets ps waits bad
    have hset := (swapPrinting_one (k := s.furthest q) hact hsets).trans (swapSet_eq ..)
    refine ⟨fun hwait => exec_of (hswap q hst) (hset.trans (if_pos hwait)), fun hwait hbad => ?_, fun hwait hbad => ?_⟩
    · exact exec_of (hswap q hst) (hset.trans ((if_neg (Bool.not_eq_true _ ▸ hwait)).trans (if_pos hbad)))
    · exact exec_of (hswap q hst) (hset.trans ((if_neg (Bool.not_eq_true _ ▸ hwait)).trans (if_neg (not_not_intro hbad))))
  · obtain ⟨f, hf, hbanks⟩ := copyShadow_plain hb hw
    refine ⟨_, exec_of (hturn p) ((copyTurn_some hb ho).trans ((if_pos hr).trans hf)), ?_, rfl, fun r hrp => modPort_port_ne _ _ _ hrp.symm⟩
    rw [modPort_port_self, hbanks]

/-! ### The ends of drains (R98, R99, R215) -/

/-- A port without its state and what words change. -/
def Port.stateless (x : Port) : Port := { x.wordless with st := .closed }

theorem portTo_keeps (s : State) (p : Fin 32) (new : PState) (cause : Nat) : PortKeeps Port.stateless p s (portTo s p new cause) := by
  unfold portTo
  extract_lets old
  split
  · exact PortKeeps.refl ..
  · exact (PortKeeps.modPort s rfl).trans ((stateChanged_keeps ..).map fun x => { x with st := .closed })

theorem portTo_st (s : State) (p : Fin 32) (new : PState) (cause : Nat) : ((portTo s p new cause).port p).st = new := by
  unfold portTo
  extract_lets old
  split
  · assumption
  · have hk := ((stateChanged_keeps (s.modPort p fun x => { x with st := new }) p old new cause).map Port.st).kept
    rw [modPort_port_self] at hk
    exact hk

/-- An operation on one port leaves the others alone. -/
abbrev OnlyPort (p : Fin 32) (s t : State) : Prop := PortKeeps (fun _ => ()) p s t

theorem PortKeeps.only {α : Type} {π : Port → α} {p : Fin 32} {s t : State} (h : PortKeeps π p s t) : OnlyPort p s t := ⟨h.others, rfl⟩

theorem heaterOff_only (s : State) (p : Fin 32) : OnlyPort p s (heaterOff s p) := by
  unfold heaterOff
  extract_lets s1
  have h1 : OnlyPort p s s1 := PortKeeps.modPort s rfl
  split
  · exact h1
  · exact h1.trans (PortKeeps.of_ports (emit_ports ..))

theorem liveControl_only (s : State) (p : Fin 32) : OnlyPort p s (liveControl s p) := by
  unfold liveControl
  split
  · exact PortKeeps.refl ..
  · extract_lets s1
    have h1 : OnlyPort p s s1 := PortKeeps.modPort s rfl
    split
    · exact h1.trans (heaterOff_only ..)
    · exact h1

theorem purgePort_only (s : State) (p : Fin 32) : OnlyPort p s (purgePort s p) := by
  unfold purgePort
  split
  · exact PortKeeps.refl ..
  · split
    · exact PortKeeps.modPort s rfl
    · exact (PortKeeps.modPort s rfl).trans (retireReady_keeps ..).only

theorem leaveJob_only (s : State) (p : Fin 32) (purge : Bool) : OnlyPort p s (leaveJob s p purge) := by
  unfold leaveJob
  split
  · exact purgePort_only ..
  · exact (PortKeeps.modPort s rfl).trans (retireReady_keeps ..).only

/-- A DRAINING port returns to IDLE with no line in flight. -/
theorem portIdle_draining {s : State} {p : Fin 32} {purge : Bool} (h : (s.port p).st = .draining) :
    ((portIdle s p purge).port p).st = .idle ∧ ((portIdle s p purge).port p).lines = [] ∧ OnlyPort p s (portIdle s p purge) := by
  unfold portIdle
  rw [if_pos h]
  extract_lets s1
  refine ⟨portTo_st .., ?_, ?_⟩
  · have hk := ((portTo_keeps ((leaveJob s1 p purge).modPort p fun x => { x.cutProbes with
      link := { (x.link.newBlock s.clk) with sense := none, next := none, words := [] }, lines := [] }) p .idle 0).map Port.lines).kept
    rw [modPort_port_self] at hk
    exact hk
  · have h1 : OnlyPort p s s1 := (flushWords_keeps ..).only.trans (liveControl_only ..)
    exact (h1.trans (leaveJob_only ..)).trans ((PortKeeps.modPort _ rfl).trans (portTo_keeps ..).only)

/-- What a quire is when it leaves STOPPING. -/
theorem quireLeaves_quires (s : State) (q : Fin 8) : ∃ u : State, u.quires = s.quires ∧
    (quireLeaves s q).quires = (u.modQuire q fun x => { x with
      st := if decide ((s.quire q).cause = 14 ∨ (s.quire q).cause = 15) && !(s.quire q).abort then .fault else .bound,
      active := 0, running := false, gate := false, stopAt := [], stopSwath := false, purge := false, abort := false }).quires := by
  unfold quireLeaves
  extract_lets q0 s0 s1 bad s2
  have h0 : s0.quires = s.quires := foldl_keeps (π := State.quires) _ (fun t p _ => (portIdle_frame ..).quires.resolve_left (by decide)) s
  have h1 : s1.quires = s0.quires := by
    unfold s1
    split
    · exact foldl_keeps (π := State.quires) _ (fun t p _ => (purgePort_frame ..).quires.resolve_left (by decide)) s0
    · rfl
  exact ⟨s1, h1.trans h0, ((jobCommandsDone_frame ..).quires.resolve_left (by decide)).trans
    ((faultEdge_frame s2).quires.resolve_left (by decide))⟩

/-- The turn of a quire's drain: it leaves when every port that is busy has drained. -/
theorem quireDrainEnd_leaves {s : State} {q : Fin 8} (hst : (s.quire q).st = .stopping)
    (h : ((s.portsOf q).all fun p => !((s.port p).st.busy) || drained s p) = true) :
    ∃ at_, exec (.quireDrainEnd q) s = .next (quireLeaves (s.advanceTo at_) q) := by
  have hall : (((s.portsOf q).filter fun p => (s.port p).st.busy).all fun p => drained s p) = true := by
    rw [List.all_filter]
    exact h
  exact ⟨_, exec_of rfl (if_pos (by rw [hst, hall]; rfl))⟩

/-- Settles O37: drains of ports by `drained`, drains of quires by their ports. -/
theorem drainsEnd : Obligations.DrainsEnd := by
  unfold Obligations.DrainsEnd
  intro s
  refine ⟨fun p h => exec_of rfl (if_neg (by simp [h])), fun p h hst hq => ?_, fun q h => exec_of rfl (if_neg (by simp [h])),
    fun q h => exec_of rfl (if_neg ?_), fun q hst h => ?_⟩
  · have hst' : ((s.advanceTo (drainAt s p)).port p).st = .draining := hst
    obtain ⟨hidle, hlines, hothers⟩ := portIdle_draining (purge := match s.quireOf p with
      | some q => (s.quire q).purge
      | none => false) hst'
    have hframe := portIdle_frame (s.advanceTo (drainAt s p)) p (match s.quireOf p with
      | some q => (s.quire q).purge
      | none => false)
    refine ⟨_, exec_of rfl (if_pos h), hidle, hlines, (hframe.clk.resolve_left (by decide)).trans ?_,
      fun q => congrArg (look · q) (hframe.quires.resolve_left (by decide)), hothers.others⟩
    rw [advanceTo_clk]
    omega
  · rw [List.any_eq_true] at h
    obtain ⟨p, hp, hbusy⟩ := h
    rw [Bool.and_eq_true] at hbusy ⊢
    rintro ⟨_, hall⟩
    have := List.all_eq_true.1 hall p (List.mem_filter.2 ⟨hp, hbusy.1⟩)
    rw [this] at hbusy
    simp at hbusy
  · obtain ⟨at_, hexec⟩ := quireDrainEnd_leaves hst h
    obtain ⟨u, hu, hquires⟩ := quireLeaves_quires (s.advanceTo at_) q
    have hq : ∀ r, (quireLeaves (s.advanceTo at_) q).quire r = _ := fun r => congrArg (look · r) hquires
    have hself := (hq q).trans (modQuire_quire_self ..)
    refine ⟨_, hexec, ?_, ?_, ?_, fun r hr => (hq r).trans ((modQuire_quire_ne _ _ _ hr.symm).trans (congrArg (look · r) hu))⟩
    · rw [hself]
      show (if (decide ((s.quire q).cause = 14 ∨ (s.quire q).cause = 15) && !(s.quire q).abort) = true then QState.fault else .bound) = _
      simp only [Bool.and_eq_true, decide_eq_true_eq, Bool.not_eq_true']
    · rw [hself]
    · rw [hself]

end Sys2Proof.Machine
end

section
/-! PROOFS. Image descriptors (04_data_path.md R108 to R115; 12_host_rings.md R345): O38, and what completions leave of the rings. -/

set_option Elab.async false

namespace Sys2Proof.Machine

/-! ### Completions leave a ring's setting, state and reads alone (R343 to R346) -/

/-- A ring without what entries, completions and returns move. -/
def Ring.standing (g : Ring) : Ring := { g with head := 0, tail := 0, pass := 0, dropped := 0, holdUntil := 0, arrived := false }

theorem Ring.st_of_standing {g h : Ring} (e : g.standing = h.standing) : g.st = h.st := (congrArg Ring.st e :)

theorem Ring.haltCode_of_standing {g h : Ring} (e : g.standing = h.standing) : g.haltCode = h.haltCode := (congrArg Ring.haltCode e :)

theorem Ring.fetch_of_standing {g h : Ring} (e : g.standing = h.standing) : g.fetch = h.fetch := (congrArg Ring.fetch e :)

section
variable (s : State) (r i : Fin 64)

theorem modRing_standing {f : Ring → Ring} (h : ∀ g, (f g).standing = g.standing) :
    ((s.modRing r f).ring i).standing = (s.ring i).standing := by
  rw [modRing_ring]
  split
  · exact h _
  · rfl

theorem sendMsix_rings (v : Nat) : (sendMsix s v).rings = s.rings := (sendMsix_frame ..).rings.resolve_left (by decide)

theorem ringIrq_standing (force : Bool) : ((ringIrq s r force).ring i).standing = (s.ring i).standing := by
  unfold ringIrq
  extract_lets g
  split
  · rfl
  · split
    · rw [State.ring, sendMsix_rings]
      exact modRing_standing s r i fun _ => rfl
    · exact modRing_standing s r i fun _ => rfl

theorem pushEntry_standing (e : Bytes) (force : Bool) : ((pushEntry s r e force).ring i).standing = (s.ring i).standing := by
  unfold pushEntry
  extract_lets g entry s1 last s2
  split
  · rfl
  · split
    · rfl
    · split
      · exact modRing_standing s r i fun _ => rfl
      · exact (ringIrq_standing ..).trans (modRing_standing s1 r i fun _ => rfl)

theorem writeCpl_standing (tag st node res : Nat) (notify : Bool) :
    ((writeCpl s r tag st node res notify).ring i).standing = (s.ring i).standing := by
  unfold writeCpl
  extract_lets g
  split
  · exact pushEntry_standing ..
  · rfl

theorem retireOne_standing (p : Fin 32) (d : Desc) (st res : Nat) : ((retireOne s p d st res).ring i).standing = (s.ring i).standing := by
  unfold retireOne
  extract_lets r s1
  have h1 : (s1.ring i).standing = (s.ring i).standing := by
    unfold s1
    split
    · exact writeCpl_standing ..
    · rfl
  split
  · rfl
  · split
    · exact h1
    · refine Eq.trans ?_ h1
      exact modRing_standing s1 r i fun _ => rfl

theorem retireOwed_standing (p : Fin 32) : ∀ (l : List (Desc × Nat)) (s : State),
    ((retireOwed s p l).1.ring i).standing = (s.ring i).standing
  | [], _ => rfl
  | d :: l, s => by
    unfold retireOwed
    split
    · rfl
    · exact (retireOwed_standing p l _).trans (retireOne_standing ..)

theorem retireList_standing (p : Fin 32) (n : Nat) : ∀ (l : List Desc) (s : State),
    ((retireList s p n l).1.ring i).standing = (s.ring i).standing
  | [], _ => rfl
  | d :: l, s => by
    unfold retireList
    split
    · exact retireList_standing p n l s
    · split
      · rfl
      · split
        · exact (retireList_standing p n l _).trans (retireOne_standing ..)
        · split
          · exact (retireList_standing p n l _).trans (retireOne_standing ..)
          · rfl

theorem retireReady_standing (p : Fin 32) : ((retireReady s p).ring i).standing = (s.ring i).standing := by
  unfold retireReady
  extract_lets o t d r
  have ht : (t.ring i).standing = (s.ring i).standing := retireOwed_standing i p _ s
  split
  · exact ht
  · exact (retireList_standing i p _ _ t).trans ht

end

/-! ### What retiring leaves of a port's data (R110) -/

/-- A port's data without the descriptors that it holds and owes. -/
def DataPath.descless (d : DataPath) : DataPath := { d with descs := [], owed := [] }

theorem DataPath.endJ_of_descless {d x : DataPath} (h : d.descless = x.descless) : d.endJ = x.endJ := (congrArg DataPath.endJ h :)

theorem DataPath.nextJ_of_descless {d x : DataPath} (h : d.descless = x.descless) : d.nextJ = x.nextJ := (congrArg DataPath.nextJ h :)

/-- Retiring takes out of the descriptors, and changes nothing else of the data. -/
theorem retireReady_descless (s : State) (p : Fin 32) : ((retireReady s p).port p).dat.descless = (s.port p).dat.descless := by
  have howed : (retireOwed s p (s.port p).dat.owed).1.ports = s.ports := (retireOwed_frame ..).ports.resolve_left (by decide)
  unfold retireReady
  extract_lets o t d r
  have ht : (t.port p).dat.descless = (s.port p).dat.descless := by
    rw [modPort_port_self]
    exact congrArg (fun v => (look v p).dat.descless) howed
  split
  · exact ht
  · have hr : r.1.ports = t.ports := (retireList_frame ..).ports.resolve_left (by decide)
    rw [modPort_port_self]
    exact (congrArg (fun v => (look v p).dat.descless) hr).trans ht

/-- A change of a port that changes nothing. -/
theorem modPort_id {s : State} {p : Fin 32} {f : Port → Port} (h : f (s.port p) = s.port p) : s.modPort p f = s := by
  have hports : upd s.ports p f = s.ports := by
    show s.ports.set p.1 (f (s.port p)) p.2 = s.ports
    rw [h]
    exact Vector.set_getElem_self p.2
  show { s with ports := upd s.ports p f } = s
  rw [hports]

/-- With nothing owed the fetched descriptors are looked at. -/
theorem retireReady_unowed {s : State} {p : Fin 32} (h : (s.port p).dat.owed = []) :
    retireReady s p = (retireList s p (s.port p).dat.settled (s.port p).dat.descs).1.modPort p fun x =>
      { x with dat := { x.dat with descs := (retireList s p (s.port p).dat.settled (s.port p).dat.descs).2 } } := by
  have ht : (s.modPort p fun x => { x with dat := { x.dat with owed := [] } }) = s := modPort_id (by rw [← h])
  unfold retireReady
  simp only [h, retireOwed, List.isEmpty_nil, Bool.not_true, Bool.false_eq_true, if_false, ht]

/-- A descriptor that cannot retire stays, and holds back those behind it. -/
theorem retireList_stays {s : State} {p : Fin 32} {n : Nat} {d : Desc} {ds : List Desc} (hr : d.retired = false)
    (hs : d.kind = 1 → d.staged = false) (ho : d.over n = false) : retireList s p n (d :: ds) = (s, d :: ds) := by
  unfold retireList
  rw [if_neg (by simp [hr])]
  split
  · rfl
  · rw [if_neg fun h => by simp [hs h.1] at h, if_neg (by simp [ho])]

/-- A descriptor that is not over alone in the list keeps its place, whatever is owed. -/
theorem retireReady_keepsOne {s : State} {p : Fin 32} {d : Desc} (hd : (s.port p).dat.descs = [d]) (hr : d.retired = false)
    (hs : d.kind = 1 → d.staged = false) (ho : d.over (s.port p).dat.settled = false) :
    ((retireReady s p).port p).dat.descs = [d] := by
  have howed : (retireOwed s p (s.port p).dat.owed).1.ports = s.ports := (retireOwed_frame ..).ports.resolve_left (by decide)
  have hport : ((retireOwed s p (s.port p).dat.owed).1.port p) = s.port p := congrArg (look · p) howed
  unfold retireReady
  extract_lets o t d0 r
  have ht : (t.port p).dat.descs = [d] := by
    rw [modPort_port_self, hport]
    exact hd
  have hn : d0.settled = (s.port p).dat.settled := by
    unfold d0
    rw [modPort_port_self, hport]
  split
  · exact ht
  · have hlist : r = (t, [d]) := by
      unfold r
      rw [show d0.descs = [d] from ht, hn]
      exact retireList_stays hr hs ho
    rw [modPort_port_self, hlist]

/-! ### Fetching (R108, R109, R345) -/

section
variable {s : State} {p : Fin 32} {e : BitVec 256}

/-- While an entry is to be read again, or the ring gives none, nothing is read. -/
theorem imageDescFetch_idle (h : (s.ring (ringNo p.1)).rereads ≠ 0 ∨ (mayRead s (ringNo p.1) = false ∨ mayFetch s p = false) ∧ mayPurge s p = false) :
    imageDescFetch p e s = s := by
  unfold imageDescFetch
  split
  · next h0 =>
    obtain ⟨hm, hp⟩ := h.resolve_left (not_not_intro h0)
    exact if_neg (by rcases hm with hm | hm <;> simp [hm, hp])
  · rfl

/-- An entry that may be read, and that is not answered at once or has a completion slot. -/
theorem imageDescFetch_reads (h0 : (s.ring (ringNo p.1)).rereads = 0) (hr : mayRead s (ringNo p.1) = true) (hf : mayFetch s p = true)
    (ha : answersNow s p e = false ∨ cplRoom s (ringNo p.1) 1 = true) : imageDescFetch p e s =
      match readEntry s (ringNo p.1) (entryCw e) with
      | .wait t => t
      | .got t => descGot t p e := by
  unfold imageDescFetch descRead
  rw [if_pos h0]
  exact if_pos (by rcases ha with ha | ha <;> simp [hr, hf, ha])

/-- The state in which the entry of a ring has been taken. -/
def entryTaken (s : State) (r : Fin 64) : State :=
  (s.emit (.entryRead r.1 (s.ring r).fetch ((s.ring r).base.toNat + entrySize r.1 * (s.ring r).fetch))).modRing r Ring.fetched

theorem readEntry_got {r : Fin 64} {cw : Nat} (h : cw = catchword (s.ring r).fetchPass) : readEntry s r cw = .got (entryTaken s r) := if_pos h

/-- The state in which the entry of a ring is to be read again 1 µs later. -/
def entryAgain (s : State) (r : Fin 64) : State :=
  (s.emit (.entryRead r.1 (s.ring r).fetch ((s.ring r).base.toNat + entrySize r.1 * (s.ring r).fetch))).modRing r fun x =>
    { x with rereads := x.rereads + 1, rereadAt := s.clk + 4000 }

theorem entryAgain_ring (s : State) (r : Fin 64) :
    (entryAgain s r).ring r = { s.ring r with rereads := (s.ring r).rereads + 1, rereadAt := s.clk + 4000 } := modRing_ring_self ..

/-- The first mismatch asks for another read. -/
theorem readEntry_wait {r : Fin 64} {cw : Nat} (h : cw ≠ catchword (s.ring r).fetchPass) (h0 : (s.ring r).rereads = 0) :
    readEntry s r cw = .wait (entryAgain s r) :=
  (if_neg h).trans (if_neg (by omega))

theorem entryTaken_ring (s : State) (r : Fin 64) : (entryTaken s r).ring r = (s.ring r).fetched := modRing_ring_self ..

/-- A sound entry of a port that purges nothing is taken or fails by its check. -/
theorem imageDescFetch_got (h0 : (s.ring (ringNo p.1)).rereads = 0) (hr : mayRead s (ringNo p.1) = true) (hf : mayFetch s p = true)
    (hp : (s.port p).dat.purge = 0) (hc : entryCw e = catchword (s.ring (ringNo p.1)).fetchPass)
    (ha : descBad s (s.port p) e = 0 ∨ cplRoom s (ringNo p.1) 1 = true) : imageDescFetch p e s =
      if descBad s (s.port p) e ≠ 0 then descFails (entryTaken s (ringNo p.1)) p e (descBad s (s.port p) e)
      else descTaken (entryTaken s (ringNo p.1)) p e := by
  have hans : answersNow s p e = false ∨ cplRoom s (ringNo p.1) 1 = true :=
    ha.imp_left fun h => by simp [answersNow, hp, h]
  rw [imageDescFetch_reads h0 hr hf hans, readEntry_got hc]
  exact if_neg (not_not_intro hp)

/-- The descriptor that joins the list: lines that were dropped before it came are lost. -/
def takenDesc (x : Port) (e : BitVec 256) : Desc :=
  { descOf e x.dat.endJ with lostN := (min (descOf e x.dat.endJ).endJ (x.dat.dropped : Int) - (descOf e x.dat.endJ).startJ).toNat }

theorem imageDescFetch_again (h0 : (s.ring (ringNo p.1)).rereads = 0) (hr : mayRead s (ringNo p.1) = true) (hf : mayFetch s p = true)
    (ha : answersNow s p e = false) (hc : entryCw e ≠ catchword (s.ring (ringNo p.1)).fetchPass) :
    imageDescFetch p e s = entryAgain s (ringNo p.1) := by
  rw [imageDescFetch_reads h0 hr hf (.inl ha), readEntry_wait hc h0]

/-- A taken descriptor, not a MARK, joins the list. -/
theorem descTaken_band (hk : gdmaField e 0 1 ≠ 3) : descTaken s p e =
    retireReady (s.modPort p fun x => { x with dat := { x.dat with
      descs := x.dat.descs ++ [takenDesc (s.port p) e], endJ := (takenDesc (s.port p) e).endJ, orphan := false } }) p := by
  unfold descTaken
  extract_lets x d0 d s1
  have hd : ¬ d.kind = 3 := hk
  rw [if_neg hd]
  unfold s1
  simp only [if_neg hd]
  rfl

/-- The only descriptor of a port: it begins where the last one ended. -/
theorem descTaken_only (hk : gdmaField e 0 1 = 1) (hc : (descOf e 0).count ≠ 0) (hd : (s.port p).dat.descs = []) (hs : (s.port p).dat.settled = 0)
    (hj : 0 ≤ (s.port p).dat.endJ) : ((descTaken s p e).port p).dat.descs = [takenDesc (s.port p) e] ∧
      ((descTaken s p e).port p).dat.endJ = (takenDesc (s.port p) e).endJ := by
  rw [descTaken_band (by omega)]
  constructor
  · apply retireReady_keepsOne
    · rw [modPort_port_self]
      exact congrArg (· ++ _) hd
    · rfl
    · exact fun _ => rfl
    · rw [modPort_port_self]
      have hend : ¬ (takenDesc (s.port p) e).endJ ≤ ((s.port p).dat.settled : Int) := by
        have hpos : 0 < (descOf e 0).count := Nat.pos_of_ne_zero hc
        have : (takenDesc (s.port p) e).endJ = (s.port p).dat.endJ + ((descOf e 0).count : Int) := rfl
        rw [hs]
        omega
      simp [Desc.over, Desc.settledAt, hend]
  · refine (DataPath.endJ_of_descless (retireReady_descless ..)).trans ?_
    rw [modPort_port_self]

/-- A band covers as many lines as its field says. -/
theorem takenDesc_endJ (x : Port) (hk : gdmaField e 0 1 = 1) : (takenDesc x e).endJ = x.dat.endJ + (gdmaField e 8 4 : Int) := by
  have hkind : (takenDesc x e).kind = 1 := hk
  have hreps : (takenDesc x e).reps = 1 := if_neg (by show ¬ gdmaField e 0 1 = 2; omega)
  have hlines : (takenDesc x e).lines = gdmaField e 8 4 := rfl
  have hstart : (takenDesc x e).startJ = x.dat.endJ := rfl
  simp [Desc.endJ, Desc.count, hkind, hreps, hlines, hstart]

theorem haltRing_active {st : Nat} {r : Fin 64} (ha : (s.ring r).st = .active) :
    ((haltRing s r st).ring r).st = .halted ∧ ((haltRing s r st).ring r).haltCode = st := by
  unfold haltRing
  rw [modRing_ring_self, if_pos ha]
  exact ⟨rfl, rfl⟩

/-- A descriptor that fails halts its ring with the status. -/
theorem descFails_halts (st : Nat) (ha : (s.ring (ringNo p.1)).st = .active) :
    ((descFails s p e st).ring (ringNo p.1)).st = .halted ∧ ((descFails s p e st).ring (ringNo p.1)).haltCode = st := by
  unfold descFails
  extract_lets r d s1 s2
  have hs1 : (s1.ring r).st = .active := (Ring.st_of_standing (writeCpl_standing ..)).trans ha
  obtain ⟨hst, hcode⟩ := haltRing_active (st := st) hs1
  exact ⟨(Ring.st_of_standing (retireReady_standing ..)).trans hst, (Ring.haltCode_of_standing (retireReady_standing ..)).trans hcode⟩

/-- A descriptor that fails leaves the lines of its port alone. -/
theorem descFails_lines (st : Nat) : ((descFails s p e st).port p).dat.endJ = (s.port p).dat.endJ ∧
    ((descFails s p e st).port p).dat.nextJ = (s.port p).dat.nextJ := by
  unfold descFails
  extract_lets r d s1 s2
  have h2 : s2.ports = s.ports := (writeCpl_frame ..).ports.resolve_left (by decide)
  have hport : s2.port p = s.port p := congrArg (look · p) h2
  constructor
  · refine (DataPath.endJ_of_descless (retireReady_descless ..)).trans ?_
    rw [modPort_port_self, hport]
  · refine (DataPath.nextJ_of_descless (retireReady_descless ..)).trans ?_
    rw [modPort_port_self, hport]

end

/-! ### Staging and retiring (R110, R115) -/

section
variable {s : State} {p : Fin 32} {d : Desc} {n : Nat}

/-- A descriptor that asks for no completion retires without leaving anything. -/
theorem retireOne_out (st : Nat) (h : d.notify = false) : (retireOne s p d st n).out = s.out := by
  unfold retireOne
  extract_lets r s1
  have h1 : s1 = s := if_neg (by simp [h])
  rw [h1]
  split
  · rfl
  · split <;> rfl

/-- A staged band that is not over retires and stays in the list. -/
theorem retireList_staged (hr : d.retired = false) (hn : d.notify = false) (hk : d.kind = 1) (hs : d.staged = true) (ho : d.over n = false) :
    retireList s p n [d] = (retireOne s p d stOk d.lines, [{ d with retired := true }]) := by
  simp [retireList, hr, hn, hk, hs, ho]

/-- A descriptor that is over retires with its status and leaves the list. -/
theorem retireList_over (hr : d.retired = false) (hc : cplRoom s (ringNo p.1) 1 = true) (hk : d.kind = 1) (hs : d.staged = false) (ho : d.over n = true) :
    retireList s p n [d] = (retireOne s p d d.status d.firedN, []) := by
  simp [retireList, hr, hc, hk, hs, ho]

/-- A purged descriptor with a completion slot retires. -/
theorem retireOwed_one (hc : cplRoom s (ringNo p.1) 1 = true) : retireOwed s p [(d, n)] = (retireOne s p d stAborted n, []) := by
  simp [retireOwed, hc]

/-- With one purged descriptor alone, its completion is all that happens. -/
theorem retireReady_purged (hd : (s.port p).dat.descs = []) (ho : (s.port p).dat.owed = [(d, n)]) (hc : cplRoom s (ringNo p.1) 1 = true) :
    retireReady s p = ((retireOne s p d stAborted n).modPort p fun y => { y with dat := { y.dat with owed := [] } }).modPort p fun y =>
      { y with dat := { y.dat with descs := [] } } := by
  have hports : (retireOne s p d stAborted n).ports = s.ports := (retireOne_frame ..).ports.resolve_left (by decide)
  have hport : (retireOne s p d stAborted n).port p = s.port p := congrArg (look · p) hports
  unfold retireReady
  simp only [ho, retireOwed_one hc, List.isEmpty_nil, Bool.not_true, Bool.false_eq_true, if_false, modPort_port_self, hport, hd, retireList]

theorem retireReady_empty (hd : (s.port p).dat.descs = []) (ho : (s.port p).dat.owed = []) : retireReady s p = s := by
  rw [retireReady_unowed ho, hd]
  exact modPort_id (by show { s.port p with dat := { (s.port p).dat with descs := [] } } = s.port p; rw [← hd])

theorem foldl_emit_out : ∀ (l : List Out) (s : State), (l.foldl State.emit s).out = l.reverse ++ s.out
  | [], _ => rfl
  | o :: l, s => by
    rw [List.foldl_cons, foldl_emit_out l, List.reverse_cons, List.append_assoc]
    rfl

/-- In D0 requests leave at once. -/
theorem request_out (l : List Out) (h : s.link.d3hot = false) : (s.request l).out = l.reverse ++ s.out := by
  unfold State.request
  rw [h]
  exact foldl_emit_out ..

theorem bandRead_out (p addr len : Nat) (ns : Bool) (h : s.link.d3hot = false) : (s.bandRead p addr len ns).out =
    ((s.readSpans addr len).map fun x => Out.bandRead p x.1 x.2 ns).reverse ++ s.out := request_out _ h

/-- A band after `n` more bytes of it have come. -/
def bandPart (b : Desc) (data : Bytes) (n : Nat) : Desc :=
  { b with staged := decide (b.len ≤ b.data.length + n), data := b.data ++ (padTo n data).take n }

/-- What stands before the retirements that follow the staging of `n` bytes of a port's only band. -/
structure BandComes (s t : State) (p : Fin 32) (b : Desc) (data : Bytes) (n : Nat) : Prop where
  out : t.out = ((s.readSpans (b.addr + b.data.length) n).map fun x => Out.bandRead p.1 x.1 x.2 b.ns).reverse ++ s.out
  quires : t.quires = s.quires
  keeps : PortKeeps Port.dataless p s t
  descs : (t.port p).dat.descs = [bandPart b data n]
  owed : (t.port p).dat.owed = (s.port p).dat.owed
  settled : (t.port p).dat.settled = (s.port p).dat.settled

theorem bandStaged_comes {b : Desc} (data : Bytes) (hd : (s.port p).dat.descs = [b]) (hk : b.kind = 1) (hs : b.staged = false)
    (hb : s.buffered p = true) (hp : s.page.st = .ready) (h3 : s.link.d3hot = false)
    (hm : min (b.len - b.data.length) (stageRoom s p * 0x200000) = n) (hn : n ≠ 0) :
    ∃ t, BandComes s t p b data n ∧ bandStaged p data s = retireReady t p := by
  let u := (forgetDamage s (64 + p.1)).bandRead p.1 (b.addr + b.data.length) n b.ns
  have hu : u.ports = s.ports := (State.bandRead_frame ..).ports.resolve_left (by decide)
  have hport : u.port p = s.port p := congrArg (look · p) hu
  refine ⟨u.modPort p fun y => { y with dat := { y.dat with
    descs := (s.port p).dat.descs.map fun d => if d.kind = 1 ∧ d.startJ = b.startJ then bandPart b data n else d,
    delivered := (s.clk, (bandPart b data n).linesStaged (s.port p).nrl (s.port p).lineLen - b.linesStaged (s.port p).nrl (s.port p).lineLen) ::
      y.dat.delivered.filter fun e => decide (s.clk < e.1 + 10 * msPh) } }, ?_, ?_⟩
  · exact
      { out := bandRead_out (s := forgetDamage s (64 + p.1)) _ _ _ _ h3
        quires := (State.bandRead_frame ..).quires.resolve_left (by decide)
        keeps := (PortKeeps.of_ports hu).trans (.modPort u rfl)
        descs := by
          rw [modPort_port_self, hd]
          exact congrArg (fun d => [d]) (if_pos ⟨hk, rfl⟩)
        owed := by rw [modPort_port_self, hport]
        settled := by rw [modPort_port_self, hport] }
  · have hfind : (s.port p).dat.descs.find? (fun d => d.kind == 1 && !d.staged) = some b := by simp [hd, hk, hs]
    unfold bandStaged
    simp only [hfind, hm]
    exact if_pos (by simp [hn, hb, hp, h3])

/-- Staging needs a band that is not staged, BUFFERED feed, a READY page store, D0 and room. -/
theorem bandStaged_idle (data : Bytes) (h : (s.port p).dat.descs.find? (fun d => d.kind == 1 && !d.staged) = none ∨ s.buffered p = false ∨
    s.page.st ≠ .ready ∨ s.link.d3hot = true ∨ stageRoom s p = 0) : bandStaged p data s = s := by
  unfold bandStaged
  extract_lets x
  split
  · rfl
  · next b hf =>
    refine if_neg ?_
    rcases h with h | h | h | h | h
    · exact absurd (hf.symm.trans h) (by simp)
    all_goals simp [h]

end

/-- Settles O38: the reads and checks of an entry, then what joins the list, what is staged, and what retires. -/
theorem descriptorsAreFetched : Obligations.DescriptorsAreFetched := by
  unfold Obligations.DescriptorsAreFetched
  intro s p x r g
  refine ⟨?_, ?_, ?_, ?_, ?_, ?_, ?_, ?_, ?_, ?_⟩
  · intro e h
    exact exec_of rfl (imageDescFetch_idle h)
  · intro e h0 hr hf ha hc
    have hring := entryAgain_ring s r
    refine ⟨_, exec_of rfl (imageDescFetch_again h0 hr hf ha hc), ?_, ?_, ?_, rfl⟩
    · exact (congrArg Ring.rereads hring).trans (congrArg (· + 1) h0)
    · exact (congrArg Ring.rereadAt hring :)
    · exact (congrArg Ring.fetch hring :)
  · intro e h0 hr hf hp hb hc hk hn hd hs hj
    have hstep : imageDescFetch p e s = descTaken (entryTaken s r) p e :=
      (imageDescFetch_got h0 hr hf hp hc (.inl hb)).trans (if_neg (not_not_intro hb))
    obtain ⟨hdescs, hend⟩ := descTaken_only (s := entryTaken s r) hk hn hd hs hj
    refine ⟨_, exec_of rfl hstep, ?_, hend.trans (takenDesc_endJ _ hk), ?_, ?_⟩
    · have hstand : ((descTaken (entryTaken s r) p e).ring r).standing = ((entryTaken s r).ring r).standing := by
        rw [descTaken_band (by omega)]
        exact retireReady_standing ..
      refine (Ring.fetch_of_standing hstand).trans ?_
      rw [entryTaken_ring]
      rfl
    · rw [hdescs]
      exact congrArg (fun k => [(k, x.dat.endJ, gdmaField e 8 4)]) hk
    · rw [hdescs]
      have haddr : (takenDesc x e).addr = gdmaField e 16 8 := if_pos hk
      have htag : (takenDesc x e).tag.toNat = gdmaField e 4 2 := Nat.mod_eq_of_lt (Nat.mod_lt _ (by decide))
      show [((takenDesc x e).len, (takenDesc x e).addr, (takenDesc x e).tag.toNat)] = _
      rw [haddr, htag]
      rfl
  · intro e h0 hr hf hp hb hc hroom hd
    have hstep : imageDescFetch p e s = descFails (entryTaken s r) p e (descBad s x e) :=
      (imageDescFetch_got h0 hr hf hp hc (.inr hroom)).trans (if_pos hb)
    have hact : ((entryTaken s r).ring r).st = .active := by
      rw [entryTaken_ring]
      simp only [mayRead, Bool.and_eq_true, beq_iff_eq] at hr
      exact hr.1.1
    obtain ⟨hst, hcode⟩ := descFails_halts (e := e) (descBad s x e) hact
    obtain ⟨hend, hnext⟩ := descFails_lines (s := entryTaken s r) (p := p) (e := e) (descBad s x e)
    exact ⟨_, exec_of rfl hstep, hst, hcode, hend, hnext⟩
  · intro data b hd hk hs hbuf hps h3 ho hdata hlen hfit hret hnot hrl hov
    have hm : min (b.len - b.data.length) (stageRoom s p * 0x200000) = b.len := by
      rw [hdata]
      exact Nat.min_eq_left hfit
    have hpart : bandPart b data b.len = { b with staged := true, data := (padTo b.len data).take b.len } := by
      simp [bandPart, hdata]
    obtain ⟨t, ht, hstep⟩ := bandStaged_comes data hd hk hs hbuf hps h3 hm hlen
    have hready : retireReady t p = (retireOne t p (bandPart b data b.len) stOk b.lines).modPort p fun y =>
        { y with dat := { y.dat with descs := [{ bandPart b data b.len with retired := true }] } } := by
      rw [retireReady_unowed (ht.owed.trans ho), ht.descs, ht.settled,
        retireList_staged (d := bandPart b data b.len) hret hnot hk (by rw [hpart]) hov]
      rfl
    refine ⟨_, exec_of rfl (hstep.trans hready), ?_, ?_, ?_, ?_⟩
    · rw [modPort_port_self, hpart]
    · refine ((retireOne_out (s := t) (p := p) stOk (show (bandPart b data b.len).notify = false from hnot)).trans ht.out).trans ?_
      rw [hdata]
      rfl
    · intro q hq
      exact (modPort_port_ne _ _ _ hq.symm).trans ((retireOne_keeps Port.dataless t p p _ _ _).others q hq |>.trans (ht.keeps.others q hq))
    · exact ((retireOne_frame ..).quires.resolve_left (by decide)).trans ht.quires
  · intro data b hd hk hs hbuf hps h3 ho hroom hpartly hret hov n
    have hm : min (b.len - b.data.length) (stageRoom s p * 0x200000) = n := Nat.min_eq_right (by omega)
    have hpart : bandPart b data n = { b with data := b.data ++ (padTo n data).take n } := by
      have : ¬ b.len ≤ b.data.length + n := by omega
      simp [bandPart, this, hs]
    obtain ⟨t, ht, hstep⟩ := bandStaged_comes data hd hk hs hbuf hps h3 hm (by omega)
    have hready : retireReady t p = t := by
      rw [retireReady_unowed (ht.owed.trans ho), ht.descs, ht.settled,
        retireList_stays (d := bandPart b data n) hret (fun _ => by rw [hpart]; exact hs) hov]
      exact modPort_id (by rw [← ht.descs])
    refine ⟨_, exec_of rfl (hstep.trans hready), ht.descs.trans (by rw [hpart]), ht.out, fun q hq => ht.keeps.others q hq, ht.quires⟩
  · intro data h
    exact exec_of rfl (bandStaged_idle data h)
  · intro hd ho
    exact exec_of rfl (retireReady_empty hd ho)
  · intro d n hd ho hroom
    have hready : retireReady s p = ((retireOne s p d stAborted n).modPort p fun y => { y with dat := { y.dat with owed := [] } }).modPort p fun y =>
        { y with dat := { y.dat with descs := [] } } := retireReady_purged hd ho hroom
    refine ⟨_, exec_of rfl hready, ?_, ?_, rfl, fun q hq => ?_⟩
    · simp
    · simp
    · rw [modPort_port_ne _ _ _ hq.symm, modPort_port_ne _ _ _ hq.symm]
      exact (retireOne_keeps Port.dataless s p p d _ _).others q hq
  · intro d hd ho hret hk hs hrl hov hnot hroom
    have hready : retireReady s p = (retireOne s p d d.status d.firedN).modPort p fun y => { y with dat := { y.dat with descs := [] } } := by
      rw [retireReady_unowed ho, hd, retireList_over hret hroom hk hs hov]
    have hstatus : d.status = if d.lostN ≠ 0 then stAborted else if d.firedN < d.lines * d.reps then stOkPartial else stOk := by
      simp [Desc.status, Desc.count, hk]
    refine ⟨_, exec_of rfl hready, ?_, ?_, fun q hq => ?_⟩
    · simp
    · rw [hstatus]
      rfl
    · rw [modPort_port_ne _ _ _ hq.symm]
      exact (retireOne_keeps Port.dataless s p p d _ _).others q hq

end Sys2Proof.Machine
end

section
/-! PROOFS. Decoding, screening and the tap (04_data_path.md R112 to R121; 05_screening.md R141; 01_architecture.md R25): O39. Speed demand and
page training (04_data_path.md R120, R130, R131): O40. -/

set_option Elab.async false

namespace Sys2Proof.Machine

/-! ### Decoding -/

section
variable {s : State} {p : Fin 32} {d : Desc}

theorem lineDecode_idle {data : Bytes} {read : PageRead}
    (h : mayDecode s p = false ∨ s.lineRoom p = false ∨ (s.port p).dat.patOn = false ∧ (s.port p).dat.current = none) :
    lineDecode p data read s = s := by
  unfold lineDecode
  rcases h with h | h | ⟨hp, hc⟩
  · exact if_pos (by simp [h])
  · exact if_pos (by simp [h])
  · simp [hp, hc]

/-- A descriptor of a port that decodes, whose data is at hand or not needed. -/
theorem lineDecode_current {data : Bytes} {read : PageRead} (hm : mayDecode s p = true) (hr : s.lineRoom p = true) (hp : (s.port p).dat.patOn = false)
    (hc : (s.port p).dat.current = some d) (hs : ¬ (d.kind = 1 ∧ d.fromStore = false ∧ s.buffered p = true)) (hrun : 0 < d.run) :
    lineDecode p data read s = decodeDesc s p d data read := by
  have hrun0 : (d.run == 0) = false := by simp; omega
  have hhost : ¬ (d.kind = 1 && !d.fromStore && (s.buffered p || (s.link.d3hot && !d.broken && d.run == 0))) = true := by
    simpa [hrun0] using hs
  unfold lineDecode
  simp only [hm, hr, hp, hc, Bool.not_true, Bool.or_self, Bool.false_eq_true, if_false]
  exact if_neg hhost

/-- Inside a run a line needs no bytes. -/
theorem decodeDesc_run {data : Bytes} {read : PageRead} (hb : d.broken = false) (hr : 0 < d.run) : decodeDesc s p d data read =
    lineOut s p (d.step 0 (d.run - 1) d.runRep false)
      (if d.runRep then (s.port p).dat.prevLine.getD (zeros (s.port p).lineLen) else zeros (s.port p).lineLen) := by
  unfold decodeDesc
  simp [hb, hr]

/-- A step inside a band. -/
theorem Desc.step_run (hl : 0 < d.lines) (hn : (d.decoded + 1) % d.lines ≠ 0) (hb : d.broken = false) : d.step 0 (d.run - 1) d.runRep false =
    { d with decoded := d.decoded + 1, run := d.run - 1, starts := if d.kind = 1 then d.byteOfs :: d.starts else [] } := by
  have hmax : max d.lines 1 = d.lines := Nat.max_eq_left hl
  unfold Desc.step
  simp [hmax, hn, hb]

theorem tooLate_put (x : Desc) (j : Nat) : tooLate (s.modPort p fun y => { y with dat := y.dat.put x }) p j = tooLate s p j := by
  unfold tooLate
  rw [modPort_port_self]
  rfl

/-- A line that something can still use, and that is not the last of its descriptor, waits for screening. -/
theorem lineOut_queues {bytes : Bytes} (hj : 0 ≤ d.startJ) (h0 : 0 < d.decoded) (ht : tooLate s p (d.startJ + (d.decoded : Int) - 1).toNat = false)
    (hc : d.decoded ≠ d.count) : lineOut s p d bytes =
      (s.modPort p fun x => { x with dat := x.dat.put d }).modPort p fun x => { x with dat := { x.dat with
        nextJ := d.startJ + (d.decoded : Int) - 1 + 1, prevLine := some bytes,
        queue := x.dat.queue ++ [{ j := (d.startJ + (d.decoded : Int) - 1).toNat, bytes := bytes, levels := none, sat := false }] } } := by
  have hdrop : (decide (d.startJ + (d.decoded : Int) - 1 < 0) || tooLate (s.modPort p fun x => { x with dat := x.dat.put d }) p
      (d.startJ + (d.decoded : Int) - 1).toNat) = false := by
    rw [tooLate_put, ht, Bool.or_false]
    exact decide_eq_false (by omega)
  unfold lineOut queueLine
  rw [if_neg hc]
  simp only [hdrop]
  rfl

/-! ### Screening -/

/-- No first line's deadline is left to judge. -/
theorem crossFirst_idle (h : (s.port p).dat.ahead = false) : crossFirst s p = s := by
  unfold crossFirst
  split
  · rfl
  · exact if_pos (by simp [h])

theorem lineScreen_idle (h : (s.port p).dat.queue = [] ∨ mayDecode s p = false) : lineScreen p s = s := by
  unfold lineScreen
  extract_lets x
  split
  · next hq =>
    rcases h with h | h
    · exact absurd (hq.symm.trans h) (by simp)
    · exact if_pos (by simp [h])
  · rfl

/-- The first line of the queue is screened. -/
theorem lineScreen_first {l : ImgLine} {rest : List ImgLine} {qi : Fin 8} {b : Banks} (hq : (s.port p).dat.queue = l :: rest)
    (hm : mayDecode s p = true) (hqi : s.quireOf p = some qi) (hb : (s.port p).banks = some b) :
    ∃ (f : Port → Port) (codes : List Nat), lineScreen p s = s.modPort p f ∧ (f (s.port p)).dat.queue = rest ∧
      (f (s.port p)).dat.store = (s.port p).dat.store ++ [{ j := l.j, nominal := (s.quire qi).nominal (s.port p) l.j, codes := codes, badW := [] }] := by
  unfold lineScreen
  simp only [hq, hqi, hb, hm, Bool.not_true, Bool.false_eq_true, if_false]
  exact ⟨_, _, rfl, rfl, rfl⟩

end

/-- Settles O39: a run's line is queued without bytes; the first queued line is screened; a tap copies. -/
theorem linesAreDecodedAndScreened : Obligations.LinesAreDecodedAndScreened := by
  unfold Obligations.LinesAreDecodedAndScreened
  intro s p x
  refine ⟨?_, ?_, ?_, ?_, ?_, ?_⟩
  · intro data read h
    exact exec_of rfl (lineDecode_idle h)
  · intro read d hm hr hp hc hd hs hb hrun hcount hin htl hj
    have hlines : 0 < d.lines := by
      by_contra h0
      have : d.lines = 0 := by omega
      simp [Desc.count, this] at hcount
    have hstep := d.step_run hlines hin hb
    have hend : d.decoded + 1 ≠ d.count := by omega
    have hline : d.startJ + ((d.decoded + 1 : Nat) : Int) - 1 = d.startJ + d.decoded := by omega
    have hdec := (lineDecode_current (data := []) (read := read) hm hr hp hc hs hrun).trans (decodeDesc_run hb hrun)
    rw [hstep] at hdec
    refine ⟨_, exec_of rfl (hdec.trans (lineOut_queues hj (Nat.succ_pos _) (by rw [hline]; exact htl) hend)), ?_, ?_, ?_, rfl, fun q hq => ?_⟩
    · rw [modPort_port_self, modPort_port_self, hline]
      rfl
    · rw [modPort_port_self, modPort_port_self]
      show x.dat.descs.map _ = _
      rw [hd]
      exact congrArg (fun e => [e]) (if_pos ⟨rfl, rfl⟩)
    · rw [modPort_port_self, hline]
    · rw [modPort_port_ne _ _ _ hq.symm, modPort_port_ne _ _ _ hq.symm]
  · exact fun _ => rfl
  · intro ha h
    exact exec_of rfl ((congrArg (lineScreen p) (crossFirst_idle ha)).trans (lineScreen_idle h))
  · intro l rest qi b ha hq hm hqi hb
    obtain ⟨f, codes, hstep, hqueue, hstore⟩ := lineScreen_first hq hm hqi hb
    refine ⟨_, exec_of rfl ((congrArg (lineScreen p) (crossFirst_idle ha)).trans hstep), ?_, ?_, rfl, fun q hne => modPort_port_ne _ _ _ hne.symm⟩
    · rw [modPort_port_self, hqueue]
    · rw [modPort_port_self, hstore, List.map_append]
      rfl
  · refine ⟨tapPort s p, rfl, rfl, fun q hq => modPort_port_ne _ _ _ hq.symm, ?_⟩
    unfold tapPort
    rw [modPort_port_self]
    exact ⟨rfl, rfl, rfl, rfl, rfl, rfl, rfl, rfl, rfl⟩

/-! ### Demand (R130, R131) -/

/-- Steps over a list of which each acts on its own index: what `π` shows in the end is what `ρ` showed in the beginning. -/
theorem foldl_at {α σ β : Type} {f : σ → α → σ} {a : α} {π ρ : σ → β} (hπ : ∀ s b, b ≠ a → π (f s b) = π s) (hρ : ∀ s b, b ≠ a → ρ (f s b) = ρ s)
    (ha : ∀ s, π (f s a) = ρ s) : ∀ (l : List α), l.Nodup → a ∈ l → ∀ s, π (l.foldl f s) = ρ s
  | b :: l, hn, hm, s => by
    obtain ⟨hb, hl⟩ := List.nodup_cons.1 hn
    rw [List.foldl_cons]
    by_cases hba : b = a
    · subst hba
      rw [foldl_keeps l (fun t c hc => hπ t c fun e => hb (e ▸ hc)), ha]
    · rw [foldl_at hπ hρ ha l hl ((List.mem_cons.1 hm).resolve_left (Ne.symm hba)), hρ s b hba]

/-- What every step keeps, all of them keep. -/
theorem forAll_keeps {n : Nat} {β : Type} {f : State → Fin n → State} (π : State → β) (h : ∀ t i, π (f t i) = π t) (s : State) :
    π (forAll s f) = π s := foldl_keeps (f := f) (idx n) (fun t i _ => h t i) s

/-- What a port's demand aims at depends on the port, the quires, the sources and the time. -/
theorem demandTarget_congr {s t : State} {p : Fin 32} (hc : t.clk = s.clk) (hs : t.src = s.src) (hq : t.quires = s.quires)
    (hp : t.port p = s.port p) : t.demandTarget p = s.demandTarget p := by
  simp only [State.demandTarget, State.quireOf, State.ttu, State.quire, State.source, State.vOf, State.supplyV, State.firedLately, hq, hs, hc, hp]
  rfl

/-- Every port's demand falls or rises on its own. -/
theorem forAll_evalPort_demand (s : State) (p : Fin 32) :
    ((forAll s evalPort).port p).dat.demand = riseLimit (s.port p).dat.demand (s.demandTarget p) := by
  refine foldl_at (π := fun t => (t.port p).dat.demand) (ρ := fun t => riseLimit (t.port p).dat.demand (t.demandTarget p))
    (fun t r hr => ?_) (fun t r hr => ?_) (fun t => ?_) _ (List.nodup_finRange 32) (List.mem_finRange p) s
  · exact congrArg (fun x : Port => x.dat.demand) (modPort_port_ne t r _ hr)
  · have hport : (evalPort t r).port p = t.port p := modPort_port_ne t r _ hr
    have htarget : (evalPort t r).demandTarget p = t.demandTarget p := demandTarget_congr rfl rfl rfl hport
    show riseLimit ((evalPort t r).port p).dat.demand ((evalPort t r).demandTarget p) = _
    rw [hport, htarget]
  · exact congrArg (fun x : Port => x.dat.demand) (modPort_port_self t p _)

/-- The event of a port's low fill changes no demand. -/
theorem demandEvent_demand (s : State) (r p : Fin 32) : ((demandEvent s r).port p).dat.demand = (s.port p).dat.demand := by
  unfold demandEvent
  extract_lets x crit s1
  have h1 : (s1.port p).dat.demand = (s.port p).dat.demand := by
    unfold s1
    rw [modPort_port]
    split <;> rfl
  split
  · rw [raise_port]
    exact h1
  · exact h1

theorem forAll_demandEvent_clk (s : State) : (forAll s demandEvent).clk = s.clk :=
  forAll_keeps (f := demandEvent) State.clk (fun t r => (demandEvent_frame t r).clk.resolve_left (by decide)) s

theorem forAll_demandEvent_th (s : State) : (forAll s demandEvent).th = s.th :=
  forAll_keeps (f := demandEvent) State.th (fun t r => (demandEvent_frame t r).th.resolve_left (by decide)) s

theorem forAll_demandEvent_demand (s : State) (p : Fin 32) : ((forAll s demandEvent).port p).dat.demand = (s.port p).dat.demand :=
  forAll_keeps (f := demandEvent) (fun t => (t.port p).dat.demand) (fun t r => demandEvent_demand t r p) s

theorem forAll_evalPort_clk (s : State) : (forAll s evalPort).clk = s.clk := forAll_keeps (f := evalPort) State.clk (fun _ _ => rfl) s

theorem forAll_evalPort_th (s : State) : (forAll s evalPort).th = s.th := forAll_keeps (f := evalPort) State.th (fun _ _ => rfl) s

/-- What an evaluation of the demands leaves: the time, the demands of the ports and the thermal demand. -/
theorem demandEval_clk (s : State) : (demandEval s).clk = (s.advanceTo (s.th.demandAt + 400000)).clk := by
  unfold demandEval
  extract_lets u v w
  have hclk : v.clk = u.clk := forAll_evalPort_clk u
  clear_value v
  rw [forAll_demandEvent_clk]
  exact hclk

theorem demandEval_demand (s : State) (p : Fin 32) : ((demandEval s).port p).dat.demand =
    riseLimit (s.port p).dat.demand ((s.advanceTo (s.th.demandAt + 400000)).demandTarget p) := by
  unfold demandEval
  extract_lets u v w
  have hv : v = forAll u evalPort := rfl
  clear_value v
  rw [forAll_demandEvent_demand]
  refine Eq.trans (b := (v.port p).dat.demand) rfl ?_
  rw [hv]
  exact forAll_evalPort_demand u p

theorem demandEval_th (s : State) : (demandEval s).th =
    { s.th with demand := riseLimit s.th.demand s.th.demandTo, demandAt := (s.advanceTo (s.th.demandAt + 400000)).clk } := by
  unfold demandEval
  extract_lets u v w
  have hth : v.th = s.th := forAll_evalPort_th u
  have hclk : v.clk = u.clk := forAll_evalPort_clk u
  clear_value v
  rw [forAll_demandEvent_th]
  show { v.th with demand := riseLimit v.th.demand v.th.demandTo, demandAt := v.clk } = _
  rw [hth, hclk]
  rfl

/-- Settles O40: each port's demand by its own step, the thermal demand between them, and the two ends of page training. -/
theorem demandIsEvaluated : Obligations.DemandIsEvaluated := by
  unfold Obligations.DemandIsEvaluated
  intro s
  refine ⟨?_, fun rate gib h => ⟨?_, ?_⟩, fun ok rate gib h => ?_⟩
  · refine ⟨demandEval s, rfl, ?_, demandEval_demand s, ?_, (demandEval_frame s).quires.resolve_left (by decide),
      (demandEval_frame s).src.resolve_left (by decide), (demandEval_frame s).reqs.resolve_left (by decide)⟩
    · rw [demandEval_clk, advanceTo_clk]
      omega
    · rw [demandEval_th, demandEval_clk]
      rfl
  · exact exec_of rfl (if_pos h)
  · exact exec_of rfl (if_pos h)
  · exact exec_of rfl (if_neg h)

end Sys2Proof.Machine
end

section
/-! PROOFS. The ring engine (12_host_rings.md R339 to R354): O41. -/

set_option Elab.async false

namespace Sys2Proof.Machine

section
variable {s : State} {r : Fin 64}

/-! ### Command entries (R343, R345, R362) -/

theorem cmdFetch_idle {c : Fin 8} {e : BitVec 512}
    (h : (s.ring (ringNo (32 + c.1))).rereads ≠ 0 ∨ mayRead s (ringNo (32 + c.1)) = false ∨ s.cores = false) : cmdFetch c e s = s := by
  unfold cmdFetch
  split
  · next h0 =>
    have hgate := h.resolve_left (not_not_intro h0)
    exact if_neg (by rcases hgate with hm | hm <;> simp [hm])
  · rfl

/-- The command that an entry of this node's host spells. -/
def entryWaits (s : State) (r : Fin 64) (e : BitVec 512) : State :=
  acceptEntry ((entryTaken s r).modRing r fun g => { g with head := g.fetch }) (.ring r) e

theorem cmdFetch_got {c : Fin 8} {e : BitVec 512} (h0 : (s.ring (ringNo (32 + c.1))).rereads = 0) (hm : mayRead s (ringNo (32 + c.1)) = true)
    (hc : s.cores = true) (hx : s.execs.length < 32) (ho : ownDestroy s (ringNo (32 + c.1)) = false)
    (hr : cplRoom s (ringNo (32 + c.1)) (slotsFor s (ringNo (32 + c.1)) e) = true)
    (hcw : entryCw e = catchword (s.ring (ringNo (32 + c.1))).fetchPass) : cmdFetch c e s = entryWaits s (ringNo (32 + c.1)) e := by
  unfold cmdFetch cmdRead
  rw [if_pos h0]
  extract_lets r
  rw [readEntry_got (r := r) hcw]
  exact if_pos (by simp [r, hc, hm, hx, ho, hr])

theorem entryWaits_ring (s : State) (r : Fin 64) (e : BitVec 512) :
    (entryWaits s r e).ring r = { (s.ring r).fetched with head := (s.ring r).fetched.fetch } := by
  refine (modRing_ring_self (entryTaken s r) r _).trans ?_
  rw [entryTaken_ring]

theorem entryWaits_ring_ne (s : State) (e : BitVec 512) {q : Fin 64} (h : q ≠ r) : (entryWaits s r e).ring q = s.ring q :=
  (modRing_ring_ne (entryTaken s r) r _ h.symm).trans (modRing_ring_ne _ r _ h.symm)

/-- A tag is the 16 bits of its field. -/
theorem tagField (e : BitVec 512) : BitVec.ofNat 16 (e.toNat / 2 ^ (8 * 4) % 2 ^ (8 * 2)) = BitVec.ofNat 16 (e.toNat / 2 ^ 32) := by
  apply BitVec.eq_of_toNat_eq
  rw [BitVec.toNat_ofNat, BitVec.toNat_ofNat]
  exact Nat.mod_mod _ _

/-! ### General DMA (R352, R353) -/

theorem gdmaDescFetch_idle {c : Fin 8} {e : BitVec 256} (h : mayRead s (ringNo (56 + c.1)) = false) : gdmaDescFetch c e s = s := by
  unfold gdmaDescFetch
  split
  · exact if_neg (by simp [h])
  · rfl

/-- The state in which a descriptor's transfer is under way. -/
def gdmaMoves (s : State) (r : Fin 64) (e : BitVec 256) : State :=
  { entryTaken s r with gdma := s.gdma ++ [(r.1, e, s.nextId)], nextId := s.nextId + 1 }

/-- The requests of a descriptor: a WRITE reads the host's memory, a READ writes there. -/
def gdmaRequests (s : State) (r : Fin 64) (e : BitVec 256) (id : Nat) : State :=
  if gdmaField e 0 1 = 1 then s.gdmaRead r.1 id (gdmaField e 16 8) (gdmaField e 12 4) (bit (gdmaField e 1 1) 0)
  else s.hostWrite (gdmaField e 16 8) (match s.region (gdmaField e 6 2) with
    | some g => g.mem.bytes (gdmaField e 8 4) (gdmaField e 12 4)
    | none => [])

theorem gdmaStart_good {e : BitVec 256} (h : gdmaBad s e = 0) : gdmaStart s r e =
    gdmaRequests { s with gdma := s.gdma ++ [(r.1, e, s.nextId)], nextId := s.nextId + 1 } r e s.nextId := by
  unfold gdmaStart
  rw [h]
  rfl

theorem gdmaDescFetch_got {c : Fin 8} {e : BitVec 256} (h0 : (s.ring (ringNo (56 + c.1))).rereads = 0)
    (hm : mayRead s (ringNo (56 + c.1)) = true) (hg : (s.gdma.any fun x => x.1 == (ringNo (56 + c.1)).1) = false) (hb : gdmaBad s e = 0)
    (hcw : entryCw e = catchword (s.ring (ringNo (56 + c.1))).fetchPass)
    (ha : bit (gdmaField e 1 1) 1 = false ∨ cplRoom s (ringNo (56 + c.1)) 1 = true) :
    gdmaDescFetch c e s = gdmaRequests (gdmaMoves s (ringNo (56 + c.1)) e) (ringNo (56 + c.1)) e s.nextId := by
  unfold gdmaDescFetch gdmaDescRead
  rw [if_pos h0]
  extract_lets r answers
  rw [readEntry_got (r := r) hcw]
  refine (if_pos ?_).trans ?_
  · rcases ha with ha | ha <;> simp [r, answers, hm, hg, hb, ha]
  · exact gdmaStart_good (s := entryTaken s r) hb

theorem gdmaRequests_frame (s : State) (r : Fin 64) (e : BitVec 256) (id : Nat) : Frame [.parked, .out] s (gdmaRequests s r e id) := by
  unfold gdmaRequests
  split
  · exact State.request_frame ..
  · exact State.request_frame ..

theorem gdmaRequests_write {e : BitVec 256} {id : Nat} (h : gdmaField e 0 1 = 1) : gdmaRequests s r e id =
    s.gdmaRead r.1 id (gdmaField e 16 8) (gdmaField e 12 4) (bit (gdmaField e 1 1) 0) := if_pos h

theorem gdmaRequests_read {e : BitVec 256} {id : Nat} {g : Region} (h : gdmaField e 0 1 ≠ 1) (hg : s.region (gdmaField e 6 2) = some g) :
    gdmaRequests s r e id = s.hostWrite (gdmaField e 16 8) (g.mem.bytes (gdmaField e 8 4) (gdmaField e 12 4)) := by
  unfold gdmaRequests
  rw [if_neg h, hg]

/-! ### Closing and holdoffs (R339, R354) -/

theorem ringCloseDone_idle (h : (s.ring r).st ≠ .closing ∨ ringHolds s r = true) : ringCloseDone r s = s :=
  if_pos (by rcases h with h | h <;> simp [h])

/-- The end of a closing ring. -/
def ringGone (s : State) (r : Fin 64) : State := s.modRing r fun g => { g with st := .absent, arrived := false }

theorem ringCloseDone_closes (hc : (s.ring r).st = .closing) (hh : ringHolds s r = false) :
    (ringCloseDone r s).rings = (ringGone (endAll s (fun e => e.wait == .ringClose && fld e.p 8 1 == r.1) stOk 0) r).rings ∧
    (ringCloseDone r s).execs = (endAll s (fun e => e.wait == .ringClose && fld e.p 8 1 == r.1) stOk 0).execs := by
  unfold ringCloseDone
  rw [if_neg (by simp [hc, hh])]
  extract_lets s1 s2
  split
  · exact ⟨rfl, rfl⟩
  · exact ⟨rfl, rfl⟩

/-- With no command in execution none ends. -/
theorem endAll_none (f : Exec → Bool) (st res : Nat) (h : s.execs = []) : endAll s f st res = s := by
  unfold endAll
  rw [h]
  rfl

theorem msixHoldoffEnd_idle (h : (s.ring r).arrived = false ∨ (s.ring r).st = .absent) : msixHoldoffEnd r s = s :=
  if_pos (by rcases h with h | h <;> simp [Ring.exists_, h])

/-- A message that nothing masks leaves. -/
theorem sendMsix_sends {v : Nat} (he : s.link.msixEn = true) (h3 : s.link.d3hot = false) (hm : s.link.msixMask = false)
    (hv : look s.link.msixVMask (finOf 64 (by decide) v) = false) :
    sendMsix s v = { s with cnt := { s.cnt with msix := sat32 s.cnt.msix 1 } }.emit (.msix v) := by
  unfold sendMsix
  simp [he, h3, hm, hv]

/-- The state in which the holdoff of a ring starts again. -/
def holdoffAgain (s : State) (r : Fin 64) : State :=
  (s.advanceTo (s.ring r).holdUntil).modRing r fun x =>
    { x with arrived := false, holdUntil := (s.advanceTo (s.ring r).holdUntil).clk + x.holdoff.toNat * 4000 }

theorem msixHoldoffEnd_sends (ha : (s.ring r).arrived = true) (hg : (s.ring r).st ≠ .absent) :
    msixHoldoffEnd r s = sendMsix (holdoffAgain s r) (s.ring r).vector.toNat :=
  if_neg (by simp [Ring.exists_, ha, hg])

end

/-- Settles O41: what reads of entries wait for, what an entry becomes, and the ends of rings and holdoffs. -/
theorem ringEngineRuns : Obligations.RingEngineRuns := by
  unfold Obligations.RingEngineRuns
  intro s
  refine ⟨?_, ?_, ?_, ?_, ?_, ?_, ?_, ?_, ?_, ?_⟩
  · exact fun c e h => exec_of rfl (cmdFetch_idle h)
  · intro c e h0 hm hc hx ho hr hcw r
    have hring := entryWaits_ring s r e
    refine ⟨_, exec_of rfl (cmdFetch_got h0 hm hc hx ho hr hcw), ?_, ?_, ?_, ?_, rfl, fun q hq => entryWaits_ring_ne s e hq, ?_⟩
    · rw [hring]
    · exact (congrArg Ring.fetch hring :)
    · exact (congrArg Ring.rereads hring :)
    · exact List.dropLast_concat
    · show (s.waiting ++ [_]).getLast?.map _ = _
      rw [List.getLast?_concat]
      have hop : e.toNat / 2 ^ (8 * 0) % 2 ^ (8 * 2) = e.toNat % 65536 := by simp
      exact congrArg some (Prod.ext hop (Prod.ext rfl (Prod.ext (tagField e) rfl)))
  · exact fun r e h => exec_of rfl (if_pos (by simp [h]))
  · intro r e h32 h40 h0 hm
    refine exec_of rfl ((if_neg (by simp [h0, hm])).trans ((if_neg (by omega)).trans (if_pos h40)))
  · intro c e h0 hm hg hb hcw ha addr len
    have hno : (ringNo (56 + c.1)).1 = 56 + c.1 := Nat.mod_eq_of_lt (by omega)
    have h3 : s.link.d3hot = false := by
      simp only [mayRead, Bool.and_eq_true, Bool.not_eq_true'] at hm
      exact hm.2
    let u := gdmaMoves s (ringNo (56 + c.1)) e
    have hframe : Frame [.parked, .out] u (gdmaRequests u (ringNo (56 + c.1)) e s.nextId) := gdmaRequests_frame ..
    let r := ringNo (56 + c.1)
    let o := Out.entryRead r.1 (s.ring r).fetch ((s.ring r).base.toNat + entrySize r.1 * (s.ring r).fetch)
    refine ⟨_, o, exec_of rfl (gdmaDescFetch_got h0 hm (by rw [hno]; exact hg) hb hcw ha), ?_,
      hframe.nextId.resolve_left (by decide), fun hw => ?_, fun g hw hreg => ?_, hframe.page.resolve_left (by decide), hframe.ports.resolve_left (by decide)⟩
    · refine (hframe.gdma.resolve_left (by decide)).trans ?_
      exact congrArg (fun n => s.gdma ++ [(n, e, s.nextId)]) hno
    · rw [gdmaRequests_write hw]
      refine (request_out (s := u) _ h3).trans ?_
      exact congrArg (fun n => ((s.readSpans addr len).map fun x => Out.gdmaRead n s.nextId x.1 x.2 (bit (gdmaField e 1 1) 0)).reverse ++ o :: s.out) hno
    · intro data
      rw [gdmaRequests_read hw (show u.region (gdmaField e 6 2) = some g from hreg)]
      exact request_out (s := u) _ h3
  · exact fun c e h => exec_of rfl (gdmaDescFetch_idle h)
  · exact fun r h => exec_of rfl (ringCloseDone_idle h)
  · intro r hc hh
    obtain ⟨hrings, hexecs⟩ := ringCloseDone_closes hc hh
    refine ⟨_, rfl, ?_, (ringCloseDone_frame r s).quires.resolve_left (by decide), (ringCloseDone_frame r s).page.resolve_left (by decide), fun h => ?_⟩
    · refine (congrArg (fun v => (look v r).st) hrings).trans ?_
      exact congrArg Ring.st (modRing_ring_self ..)
    · rw [endAll_none _ _ _ h] at hrings hexecs
      exact ⟨hexecs.trans h, fun q hq => (congrArg (look · q) hrings).trans (modRing_ring_ne _ _ _ hq.symm)⟩
  · exact fun r h => exec_of rfl (msixHoldoffEnd_idle h)
  · intro r ha hg he h3 hm hv
    refine ⟨_, exec_of rfl ((msixHoldoffEnd_sends ha hg).trans (sendMsix_sends he h3 hm hv)), ?_, ?_, ?_, rfl, rfl, rfl⟩
    · show s.clk + ((s.ring r).holdUntil - s.clk) = _
      omega
    · exact congrArg Ring.arrived (modRing_ring_self (s.advanceTo (s.ring r).holdUntil) r _)
    · exact congrArg Ring.holdUntil (modRing_ring_self (s.advanceTo (s.ring r).holdUntil) r _)

end Sys2Proof.Machine
end

section
/-! PROOFS. Transfers and telemetry (12_host_rings.md R350, R353; 13_commands_events.md R372; 16_background.md R462): O42. -/

set_option Elab.async false

namespace Sys2Proof.Machine

theorem look_updAll {α : Type} {n : Nat} (v : Vector α n) (f : Fin n → α → α) (i : Fin n) : look (updAll v f) i = f i (look v i) := by
  simp [look, updAll]

/-- A changed entry of an association list is read back. -/
theorem assoc_assocSet {α : Type} (k : Nat) (a : α) : ∀ l : List (Nat × α), assoc k (assocSet k a l) = some a
  | [] => if_pos rfl
  | (j, b) :: l => by
    unfold assocSet
    split
    · exact if_pos rfl
    · split
      · exact if_pos rfl
      · next hj => exact (if_neg hj).trans (assoc_assocSet k a l)

section
variable {s : State}

/-- A failed request is counted, and GLB_ERR.DMA_FAULT is set. -/
def faultCounted (s : State) : State := glbErr { s with cnt := { s.cnt with dmaFaults := sat32 s.cnt.dmaFaults 1 } } 4

theorem dmaFault_command {id : Nat} (ho : ownTransfer s id = none) (hr : relayOf s id = none) : dmaFault (.command id) s = faultCounted s := by
  have ho' : ownTransfer (faultCounted s) id = none := ho
  have hr' : relayOf (faultCounted s) id = none := hr
  show transferFault (faultCounted s) _ = _
  unfold transferFault
  simp only [ho', hr']

/-- A failed entry read halts its ring. -/
theorem entryReadFails_ring {r : Fin 64} (h : (s.ring r).st = .active) :
    (entryReadFails s r).ring r = { s.ring r with st := .halted, haltCode := stAborted, rereads := 0 } := by
  have hst : ((s.modRing r fun g => { g with rereads := 0 }).ring r).st = .active := by
    rw [modRing_ring_self]
    exact h
  unfold entryReadFails haltRing
  rw [modRing_ring_self, if_pos hst, modRing_ring_self]

theorem entryReadFails_ring_ne {r q : Fin 64} (h : q ≠ r) : (entryReadFails s r).ring q = s.ring q :=
  (modRing_ring_ne _ r _ h.symm).trans (modRing_ring_ne _ r _ h.symm)

theorem dmaTransferDone_own {id : Nat} {data : Bytes} {e : Exec} (h : ownTransfer s id = some e) :
    dmaTransferDone id data s = execTransferred s e data := by
  unfold dmaTransferDone
  rw [h]

theorem dmaTransferDone_gdma {id : Nat} {data : Bytes} {g : Nat × BitVec 256 × Nat} (h : ownTransfer s id = none)
    (hg : s.gdma.find? (fun g => g.2.2 == id) = some g) : dmaTransferDone id data s = gdmaDone s (ringNo g.1) g.2.1 data := by
  unfold dmaTransferDone
  rw [h, hg]

theorem dmaTransferDone_none {id : Nat} {data : Bytes} (h : ownTransfer s id = none)
    (hg : s.gdma.find? (fun g => g.2.2 == id) = none) (hr : relayOf s id = none) : dmaTransferDone id data s = s := by
  unfold dmaTransferDone
  rw [h, hg, hr]

/-- A region takes the bytes written into it. -/
theorem fillRegion_mem {handle ofs : Nat} {data : Bytes} {g : Region} (h : s.region handle = some g) :
    ((fillRegion s handle ofs data).region handle).map (fun x => x.mem) = some (g.mem.write ofs data) := by
  unfold fillRegion
  rw [h]
  exact congrArg (Option.map Region.mem) (assoc_assocSet handle _ s.page.regions)

/-- A descriptor that completes well without NOTIFY only moves its ring's head. -/
theorem gdmaOver_quiet {r : Fin 64} {e : BitVec 256} {n : Nat} (h : bit (gdmaField e 1 1) 1 = false) : gdmaOver s r e stOk n =
    { s.modRing r fun g => if g.st = .absent then g else { g with head := (g.head + 1) % max g.size.toNat 1 } with
      gdma := s.gdma.filter fun x => x.1 != r.1 } := by
  unfold gdmaOver
  rw [if_pos (by simp [h])]
  rfl

theorem gdmaDone_fills {r : Fin 64} {e : BitVec 256} {data : Bytes} (hw : gdmaField e 0 1 = 1) : gdmaDone s r e data =
    gdmaOver (fillRegion s (gdmaField e 6 2) (gdmaField e 8 4) ((padTo (gdmaField e 12 4) data).take (gdmaField e 12 4))) r e stOk
      (gdmaField e 12 4) := by
  unfold gdmaDone
  exact congrArg (fun t => gdmaOver t r e stOk (gdmaField e 12 4)) (if_pos hw)

/-- A snapshot has been taken at this instant. -/
def snapshotTaken (s : State) : State :=
  { s with bg := { s.bg with telAt := s.clk }, ports := updAll s.ports fun _ x => { x with telFired := x.firedAll, telLate := x.lateAll } }

theorem snapshotTaken_clk : (snapshotTaken s).clk = s.clk := by simp only [snapshotTaken]

theorem snapshotTaken_bg : (snapshotTaken s).bg = { s.bg with telAt := s.clk } := by simp only [snapshotTaken]

theorem snapshotTaken_out : (snapshotTaken s).out = s.out := by simp only [snapshotTaken]

theorem snapshotTaken_rings : (snapshotTaken s).rings = s.rings := by simp only [snapshotTaken]

theorem snapshotTaken_cnt : (snapshotTaken s).cnt = s.cnt := by simp only [snapshotTaken]

theorem snapshotTaken_port (p : Fin 32) : (snapshotTaken s).port p =
    { s.port p with telFired := (s.port p).firedAll, telLate := (s.port p).lateAll } := by
  simp only [snapshotTaken, State.port]
  exact look_updAll ..

/-- A snapshot that telemetry routes nowhere. -/
theorem telemetrySnapshot_unrouted (hr : s.rst.seq = .ready) (ht : s.telRoute = 0) :
    telemetrySnapshot s = snapshotTaken (s.advanceTo (s.bg.telAt + s.bg.telPeriod * msPh)) := by
  have hready : ¬ (!s.commandReady) = true := by simp [State.commandReady, hr]
  unfold telemetrySnapshot
  refine (if_neg hready).trans ?_
  extract_lets u ps bytes s1
  have hu : u.telRoute = 0 := (advanceTo_telRoute ..).trans ht
  have h1 : s1 = u := if_pos hu
  clear_value s1
  subst h1
  rfl

end

/-- Settles O42: what each transfer's end is for, found in the order of commands, descriptors and relays. -/
theorem transfersEnd : Obligations.TransfersEnd := by
  unfold Obligations.TransfersEnd
  intro s
  refine ⟨?_, ?_, ?_, ?_, ?_, ?_, ?_, ?_⟩
  · exact fun id ho hr => exec_of rfl (dmaFault_command ho hr)
  · intro r h
    exact ⟨entryReadFails (faultCounted s) r, rfl, entryReadFails_ring (s := faultCounted s) h, fun q hq => entryReadFails_ring_ne hq, rfl⟩
  · exact fun id data h hg hr => exec_of rfl (dmaTransferDone_none h hg hr)
  · exact fun id e h hn => exec_of rfl ((dmaTransferDone_own h).trans (if_neg (not_not_intro hn)))
  · exact fun id data e h hn => exec_of rfl ((dmaTransferDone_own h).trans (if_pos hn))
  · intro id data e r g h hg hw hn hreg
    have hfill := fillRegion_mem (ofs := gdmaField e 8 4) (data := (padTo (gdmaField e 12 4) data).take (gdmaField e 12 4)) hreg
    have hframe := fillRegion_frame s (gdmaField e 6 2) (gdmaField e 8 4) ((padTo (gdmaField e 12 4) data).take (gdmaField e 12 4))
    refine ⟨_, exec_of rfl ((dmaTransferDone_gdma h hg).trans ((gdmaDone_fills hw).trans (gdmaOver_quiet hn))), ?_, hfill, ?_, ?_⟩
    · exact congrArg (List.filter _) (hframe.gdma.resolve_left (by decide))
    · exact hframe.out.resolve_left (by decide)
    · exact hframe.ports.resolve_left (by decide)
  · intro h
    exact exec_of rfl (if_pos (by simp [State.commandReady, h]))
  · intro hr ht
    refine ⟨_, exec_of rfl (telemetrySnapshot_unrouted hr ht), ?_, ?_, ?_, ?_, ?_, fun p => ?_⟩
    · rw [snapshotTaken_clk, advanceTo_clk, msPh]
      omega
    · rw [snapshotTaken_bg, snapshotTaken_clk, advanceTo_bg]
    · rw [snapshotTaken_out, advanceTo_out]
    · rw [snapshotTaken_rings, advanceTo_rings]
    · rw [snapshotTaken_cnt, advanceTo_cnt]
    · rw [snapshotTaken_port, advanceTo_port]

end Sys2Proof.Machine
end

section
/-! PROOFS. The host link (12_host_rings.md R335, R337, R340, R355 to R357; 14_reset_boot.md R395, R400): O43. -/

set_option Elab.async false

namespace Sys2Proof.Machine

section
variable {s : State}

/-! ### What a host reset leaves (R355 to R357) -/

/-- Every command of this node's rings has lost its completion. -/
def completionsLost (s : State) : State :=
  { s with
    execs := s.execs.map Exec.lose, waiting := s.waiting.map Waiting.lose,
    spr := { s.spr with tunnel := s.spr.tunnel.map Tunnelled.lose, heldBack := s.spr.heldBack.map Waiting.lose, bcasts := [] } }

/-- No command of a test ends none. -/
theorem endAll_unpicked {f : Exec → Bool} {st res : Nat} (h : s.execs.filter f = []) : endAll s f st res = s := by
  unfold endAll
  rw [h]
  rfl

/-- Commands that wait for no transfer and no ring only lose their completions. -/
theorem loseCommands_waiting (h : (s.execs.all fun e => e.wait != .dma && e.wait != .ringClose) = true) : loseCommands s = completionsLost s := by
  have hwait : ∀ e ∈ s.execs, e.wait ≠ .dma ∧ e.wait ≠ .ringClose := by simpa [List.all_eq_true] using h
  have hdma : (completionsLost s).execs.filter (fun e => e.wait == .dma && e.h.src == .lost) = [] := by
    refine List.filter_eq_nil_iff.2 fun e he => ?_
    obtain ⟨a, ha, rfl⟩ := List.mem_map.1 he
    simp [Exec.lose, hwait a ha]
  have hclose : (completionsLost s).execs.filter (fun e => e.wait == .ringClose) = [] := by
    refine List.filter_eq_nil_iff.2 fun e he => ?_
    obtain ⟨a, ha, rfl⟩ := List.mem_map.1 he
    simp [Exec.lose, hwait a ha]
  show endAll (((completionsLost s).execs.filter fun e => e.wait == .dma && e.h.src == .lost).foldl cutExec (completionsLost s)) _ _ _ = _
  rw [hdma]
  exact endAll_unpicked hclose

/-- The state after a host reset has taken the rings and the link. -/
def hostGone (s : State) (c : HostResetCause) : State := completionsLost (linkReset s c)

theorem hostReset_waiting (c : HostResetCause) (h : (s.execs.all fun e => e.wait != .dma && e.wait != .ringClose) = true)
    (hp : s.spr.parts = []) (hg : s.gdma = []) : hostReset c s = perstSource (perstAbort (hostGone s c)) c := by
  have hlose : loseCommands (linkReset s c) = hostGone s c := loseCommands_waiting (s := linkReset s c) h
  have hparts : (hostGone s c).spr.parts = [] := hp
  unfold hostReset
  rw [hlose, hg]
  simp only [List.foldl_nil, hparts]

/-- What a host reset leaves of a state, where no transfer has to be cut. -/
structure HostLost (s u : State) (c : HostResetCause) : Prop where
  ring : ∀ r, u.ring r = Ring.reset
  irqMask : u.glb.irqMask = 0
  err : u.glb.err = 0
  pselA : u.glb.pselA = 0
  pselB : u.glb.pselB = 0
  parked : u.parked = []
  execs : u.execs = s.execs.map Exec.lose
  waiting : u.waiting = s.waiting.map Waiting.lose
  quires : u.quires = s.quires
  src : u.src = s.src
  page : u.page = s.page
  out : u.out = s.out
  linkUp : u.link.up = if c = .flr then s.link.up else false
  port : ∀ p, u.port p = { s.port p with dat := (s.port p).dat.hostReset (s.ring (ringNo p.1)).exists_ }

theorem hostGone_lost (s : State) (c : HostResetCause) : HostLost s (hostGone s c) c where
  ring r := by simp only [State.ring, hostGone, completionsLost, linkReset]; exact look_replicate _ r
  irqMask := by simp only [hostGone, completionsLost, linkReset]
  err := by simp only [hostGone, completionsLost, linkReset]
  pselA := by simp only [hostGone, completionsLost, linkReset]
  pselB := by simp only [hostGone, completionsLost, linkReset]
  parked := by simp only [hostGone, completionsLost, linkReset]
  execs := by simp only [hostGone, completionsLost, linkReset]
  waiting := by simp only [hostGone, completionsLost, linkReset]
  quires := by simp only [hostGone, completionsLost, linkReset]
  src := by simp only [hostGone, completionsLost, linkReset]
  page := by simp only [hostGone, completionsLost, linkReset]
  out := by simp only [hostGone, completionsLost, linkReset]
  linkUp := by
    simp only [hostGone, completionsLost, linkReset]
    split <;> rfl
  port p := by
    simp only [State.port, hostGone, completionsLost, linkReset]
    exact look_updAll ..

theorem hostGone_rst (s : State) (c : HostResetCause) : (hostGone s c).rst = s.rst := by simp only [hostGone, completionsLost, linkReset]

theorem hostGone_glb_abortOnPerst (s : State) (c : HostResetCause) : (hostGone s c).glb.abortOnPerst = s.glb.abortOnPerst := by
  simp only [hostGone, completionsLost, linkReset]

/-- PERST_N low is noted among the sources; out of a stretch nothing else follows. -/
theorem perstSource_notes (h : s.rst.seq ≠ .stretch) : perstSource s .perst = noteSource s .perst causePerst :=
  (if_neg (not_not_intro rfl)).trans (if_neg h)

theorem perstSource_stretch (h : s.rst.seq = .stretch) : perstSource s .perst = enterHeld (noteSource s .perst causePerst) false :=
  (if_neg (not_not_intro rfl)).trans (if_pos h)

/-- A noted source asserts. -/
theorem noteSource_asserts (s : State) (src : ResetSource) (cause : Nat) : src ∈ (noteSource s src cause).rst.asserted := by
  show src ∈ if s.rst.asserted.contains src then s.rst.asserted else src :: s.rst.asserted
  split
  · next h => exact List.contains_iff_mem.1 h
  · exact List.mem_cons_self

/-- To note a source changes the RST block alone. -/
theorem HostLost.noteSource {u : State} {c : HostResetCause} (h : HostLost s u c) (src : ResetSource) (cause : Nat) :
    HostLost s (noteSource u src cause) c :=
  { ring := h.ring, irqMask := h.irqMask, err := h.err, pselA := h.pselA, pselB := h.pselB, parked := h.parked, execs := h.execs,
    waiting := h.waiting, quires := h.quires, src := h.src, page := h.page, out := h.out, linkUp := h.linkUp, port := h.port }

/-! ### The state that HELD is entered with (R392, R395) -/

/-- HELD out of a stretch: everything but what a pin reset keeps is at its reset value. -/
theorem enterHeld_reset (s : State) : (enterHeld s false).rst.seq = .held ∧ (∀ r, (enterHeld s false).ring r = Ring.reset) ∧
    (enterHeld s false).glb = .reset ∧ (enterHeld s false).parked = [] ∧ (enterHeld s false).link.up = false ∧
    (enterHeld s false).quires = .replicate 8 .reset := by
  refine ⟨?_, fun r => ?_, ?_, ?_, ?_, ?_⟩
  · simp only [enterHeld, cleared, Rst.afterReset]
    rfl
  · simp only [State.ring, enterHeld, cleared]
    exact look_replicate _ r
  all_goals
    simp only [enterHeld, cleared]
    rfl

/-! ### Messages that waited (R340) -/

theorem deliverMsix_none (h : s.link.msixPend = 0) : deliverMsix s = s :=
  forAll_fixed fun v => if_neg (by simp [h])

theorem serveConfig_up (h : s.link.up = true) : serveConfig s = s := if_pos h

theorem serveConfig_down (h : ¬ s.link.up = true) :
    serveConfig s = s.emit (.identity Config.vendorId.toNat s.part 0xA1 0x118000 0x1000000) := if_neg h

end

/-- Settles O43: the rings and commands go first, then the abort and the reset source; D0 and link-up let out what waited. -/
theorem hostLinkResets : Obligations.HostLinkResets := by
  unfold Obligations.HostLinkResets
  intro s
  refine ⟨?_, ?_, ?_, ?_, ?_, ?_, ?_, ?_, ?_, ?_⟩
  · intro c hx hp hg ha hc
    have habort : perstAbort (hostGone s c) = hostGone s c := if_neg (by simp [hostGone_glb_abortOnPerst, ha])
    have hreset : hostReset c s = perstSource (hostGone s c) c := (hostReset_waiting c hx hp hg).trans (by rw [habort])
    by_cases h : c = .perst
    · subst h
      have hseq : (hostGone s .perst).rst.seq ≠ .stretch := by
        rw [hostGone_rst]
        exact hc.resolve_left (not_not_intro rfl)
      have g := (hostGone_lost s .perst).noteSource .perst causePerst
      exact ⟨_, exec_of rfl (hreset.trans (perstSource_notes hseq)), g.ring, g.irqMask, g.err, g.pselA, g.pselB, g.parked, g.execs, g.waiting,
        g.quires, g.src, g.page, g.out, fun h => absurd rfl h, fun _ => ⟨noteSource_asserts .., (congrArg Rst.seq (hostGone_rst s .perst) :)⟩, g.linkUp, g.port⟩
    · have g := hostGone_lost s c
      exact ⟨_, exec_of rfl (hreset.trans (if_pos h)), g.ring, g.irqMask, g.err, g.pselA, g.pselB, g.parked, g.execs, g.waiting,
        g.quires, g.src, g.page, g.out, fun _ => hostGone_rst s c, fun e => absurd e h, g.linkUp, g.port⟩
  · intro c hx hp hg ha
    have g := hostGone_lost s c
    have habort : perstAbort (hostGone s c) =
        forAll (hostGone s c) fun (t : State) (q : Fin 8) => if (t.quire q).st.beyond then abortJob t q 5 else t :=
      if_pos (by simp [hostGone_glb_abortOnPerst, ha])
    exact ⟨hostGone s c, exec_of rfl ((hostReset_waiting c hx hp hg).trans (by rw [habort])), g.ring, g.irqMask, g.err, g.pselA, g.pselB, g.parked,
      g.execs, g.waiting, g.quires, g.src, g.page, g.out, hostGone_rst s c, g.linkUp, g.port⟩
  · intro hx hp hg ha hseq
    have habort : perstAbort (hostGone s .perst) = hostGone s .perst := if_neg (by simp [hostGone_glb_abortOnPerst, ha])
    have hstretch : (hostGone s .perst).rst.seq = .stretch := by rw [hostGone_rst, hseq]
    obtain ⟨hheld, hring, hglb, hparked, hup, hquires⟩ := enterHeld_reset (noteSource (hostGone s .perst) .perst causePerst)
    refine ⟨_, exec_of rfl ((hostReset_waiting .perst (by simp [hx]) hp hg).trans (by rw [habort]; exact perstSource_stretch hstretch)), hheld, hring,
      ?_, ?_, hparked, hup, hquires⟩
    · rw [hglb]; rfl
    · rw [hglb]; rfl
  · exact fun h => exec_of rfl (if_pos h)
  · exact fun h => exec_of rfl (if_neg (by simp [h]))
  · exact fun h => exec_of rfl (if_neg (by simp [h]))
  · exact fun h => exec_of rfl (if_pos h)
  · intro h hp hm
    refine exec_of rfl ((if_pos h).trans ?_)
    rw [hp]
    refine (deliverMsix_none (s := { s with link := { s.link with d3hot := false }, parked := [] }) hm).trans ?_
    rw [← hp]
  · intro gen width mps mrrs en mask hi hp u v
    have hgate : (s.islands && !s.link.perstLow) = true := by simp [hi, hp]
    refine ⟨exec_of rfl ((if_pos hgate).trans ?_), fun hm => deliverMsix_none ?_⟩
    · by_cases hup : s.link.up = true
      · rw [serveConfig_up hup, show v = u from if_pos hup]
      · rw [serveConfig_down hup, show v = u.emit _ from if_neg hup]
        rfl
    · by_cases hup : s.link.up = true
      · rw [show v = u from if_pos hup]
        exact hm
      · rw [show v = u.emit _ from if_neg hup]
        exact hm
  · intro gen width mps mrrs en mask h
    exact exec_of rfl (if_neg (by rcases h with h | h <;> simp [h]))

end Sys2Proof.Machine
end

section
/-! PROOFS. What stops, swaps and faults leave of every port (07_head_ports.md R208, R212, R215): the level of HPnn_PRS_N, the accesses to the
head's memory, and whether the link is up or trains. -/

set_option Elab.async false

namespace Sys2Proof.Machine

/-- What presence, link steps and head-memory accesses have of a port. -/
def Port.wiring (x : Port) : Bool × List HeadJob × Bool × Nat := (x.prsHigh, x.hm, x.link.up, x.link.train)

/-- From `s` to `t` every port keeps its wiring. -/
structure WiringKept (s t : State) : Prop where
  wiring : ∀ r, (t.port r).wiring = (s.port r).wiring

namespace WiringKept
variable {s t u : State} {p : Fin 32}

theorem refl (s : State) : WiringKept s s := ⟨fun _ => rfl⟩

theorem trans (h : WiringKept s t) (g : WiringKept t u) : WiringKept s u := ⟨fun r => (g.wiring r).trans (h.wiring r)⟩

theorem of_ports (h : t.ports = s.ports) : WiringKept s t := ⟨fun r => congrArg (fun v => (look v r).wiring) h⟩

theorem modPort (s : State) (p : Fin 32) (f : Port → Port) (h : ∀ x, (f x).wiring = x.wiring) : WiringKept s (s.modPort p f) := ⟨fun r => by
  rw [modPort_port]
  split
  · exact h _
  · rfl⟩

theorem of_keeps (h : PortKeeps Port.wiring p s t) : WiringKept s t := ⟨fun r => by
  by_cases hr : r = p
  · subst hr
    exact h.kept
  · exact congrArg Port.wiring (h.others r hr)⟩

theorem of_wordless (h : PortKeeps Port.wordless p s t) : WiringKept s t := of_keeps (h.map Port.wiring)

theorem of_dataless (h : PortKeeps Port.dataless p s t) : WiringKept s t := of_keeps (h.map Port.wiring)

theorem of_stateless (h : PortKeeps Port.stateless p s t) : WiringKept s t := of_keeps (h.map Port.wiring)

theorem foldl {α : Type} {f : State → α → State} (h : ∀ t a, WiringKept t (f t a)) :
    ∀ (l : List α) (s : State), WiringKept s (l.foldl f s)
  | [], s => refl s
  | a :: l, s => (h s a).trans (foldl h l (f s a))

theorem forAll {n : Nat} {f : State → Fin n → State} (h : ∀ t a, WiringKept t (f t a)) (s : State) : WiringKept s (forAll s f) :=
  foldl (f := f) h (idx n) s

end WiringKept

section
variable (s : State) (p : Fin 32)

/-! ### Banks (R15 to R17) -/

theorem modBanks_wiring (f : Banks → Banks) : WiringKept s (s.modBanks p f) := .modPort s p _ fun _ => rfl

theorem Port.modChan_wiring (x : Port) (c : Chan) (f : Channel → Channel) : (x.modChan c f).wiring = x.wiring := by cases c <;> rfl

theorem applyReg_wiring (off : Nat) (v : U32) : WiringKept s (applyReg s p off v) := modBanks_wiring ..

theorem applyShadow_wiring (op : Nat) (q : Params) (data : Bytes) : WiringKept s (applyShadow s p op q data) := by
  unfold applyShadow
  extract_lets ch s1
  have h1 : WiringKept s s1 := modBanks_wiring ..
  split
  · exact h1.trans (.modPort s1 p _ fun x => x.modChan_wiring ..)
  · exact h1

theorem landHeld_wiring (p : Fin 32) : ∀ (l : List HeldWrite) (s : State), WiringKept s (landHeld s p l)
  | [], s => .refl s
  | .reg off v :: l, s => (applyReg_wiring s p off v).trans (landHeld_wiring p l _)
  | .cmd id :: l, s => by
    unfold landHeld
    split
    · exact landHeld_wiring p l s
    · next e he =>
      have hload : WiringKept s (endExec (measureLoad (applyShadow s p e.op e.p e.data) e.op e.p e.data) e stOk 0) :=
        ((applyShadow_wiring s p e.op e.p e.data).trans (.of_ports ((measureLoad_frame ..).ports.resolve_left (by decide)))).trans
          (.of_ports ((endExec_frame ..).ports.resolve_left (by decide)))
      exact hload.trans (landHeld_wiring p l _)

theorem landAll_wiring : WiringKept s (landAll s p) := by
  unfold landAll
  split
  · exact .refl s
  · split
    · exact .refl s
    · exact (modBanks_wiring ..).trans (landHeld_wiring ..)

theorem copyShadow_wiring : WiringKept s (copyShadow s p) := by
  unfold copyShadow
  split
  · exact .refl s
  · extract_lets jb s1
    have h1 : WiringKept s s1 := .modPort s p _ fun _ => rfl
    exact h1.trans (landAll_wiring ..)

theorem sendMap_wiring (c : Chan) : WiringKept s (sendMap s p c) := by
  unfold sendMap
  extract_lets +onlyGivenNames x
  split
  · exact .refl s
  · next b hb =>
    extract_lets bank rows s1
    have h1 : WiringKept s s1 := .modPort s p _ fun y => y.modChan_wiring ..
    split
    · exact h1
    · exact h1.trans (.of_ports ((mapTransfer_frame ..).ports.resolve_left (by decide)))

theorem freshEntry_wiring (x : Port) (c : Chan) (written : Bool) (b : Bank) : (freshEntry x c written b).wiring = x.wiring := by
  unfold freshEntry
  split
  · split
    · exact x.modChan_wiring ..
    · exact x.modChan_wiring ..
  · rfl

theorem setPwEvent_wiring (m : Nat) : WiringKept s (setPwEvent s p m) := .of_wordless (setPwEvent_keeps m)

theorem raise_wiring (code kind index sev : Nat) (data : Bytes) : WiringKept s (raise s code kind index sev data) := .of_ports (raise_ports ..)

theorem monChanged_wiring (i old new verdict bad : Nat) (k : Int) : WiringKept s (monChanged s p i old new verdict bad k) := by
  unfold monChanged
  split
  · exact .refl s
  · extract_lets x merged s1
    have h1 : WiringKept s s1 := .modPort s p _ fun _ => rfl
    exact (h1.trans (setPwEvent_wiring ..)).trans (raise_wiring ..)

theorem monReset_wiring (i : Nat) (k : Int) : WiringKept s (monReset s p i k) :=
  (WiringKept.modPort s p (fun y => y.clearMon i) (fun _ => rfl)).trans (monChanged_wiring ..)

theorem planWindow_wiring (bound : Int) : WiringKept s (planWindow s p bound) := by
  unfold planWindow
  extract_lets x
  split
  · exact .refl s
  · split
    · exact .refl s
    · extract_lets w short s1
      have h1 : WiringKept s s1 := .modPort s p _ fun _ => rfl
      split
      · exact (h1.trans (setPwEvent_wiring ..)).trans (raise_wiring ..)
      · exact h1

theorem swapBanks_wiring (g bound : Int) : WiringKept s (swapBanks s p g bound) := by
  unfold swapBanks
  split
  · exact .refl s
  · next b hb =>
    extract_lets jb needMap s0 s1 s2
    have h0 : WiringKept s s0 := by
      unfold s0
      split
      · exact ((sendMap_wiring s p .a).trans (sendMap_wiring _ p .b)).trans (.modPort _ p _ fun _ => rfl)
      · exact .refl s
    have h1 : WiringKept s s1 := h0.trans (.modPort s0 p _ fun x => (freshEntry_wiring ..).trans (freshEntry_wiring ..))
    have h2 : WiringKept s s2 := ((h1.trans (.foldl (fun t i => monReset_wiring t p i bound) _ s1)).trans
      (.of_ports ((forgetDamage_frame ..).ports.resolve_left (by decide)))).trans (planWindow_wiring ..)
    split
    · exact h2.trans (copyShadow_wiring ..)
    · exact h2

theorem swapPort_wiring (g bound : Int) : WiringKept s (swapPort s p g bound) := by
  unfold swapPort
  refine WiringKept.trans ?_ (swapBanks_wiring ..)
  split
  · split
    · exact copyShadow_wiring ..
    · exact .refl s
  · exact .refl s

theorem commitFail_wiring (m st : Nat) : WiringKept s (commitFail s m st) := by
  unfold commitFail
  extract_lets hit all kept s1
  have h1 : WiringKept s s1 := .forAll (fun t r => by
    split
    · exact (modBanks_wiring ..).trans (landAll_wiring ..)
    · exact .refl t) s
  refine h1.trans (.foldl (fun t e => ?_) _ s1)
  split
  · exact .of_ports ((endExec_frame ..).ports.resolve_left (by decide))
  · exact .refl t

theorem swapQuire_wiring (q : Fin 8) (bound : Int) (stops : Bool) : WiringKept s (swapQuire s q bound stops) := by
  refine .foldl (fun t m => ?_) (s.swapSets q) s
  unfold swapSet
  extract_lets ps
  split
  · exact .refl t
  · split
    · exact commitFail_wiring ..
    · exact (WiringKept.foldl (fun u r => swapPort_wiring u r _ bound) _ t).trans (.of_ports ((commitDone_frame ..).ports.resolve_left (by decide)))

/-! ### Decisions and stops (R97 to R99) -/

theorem modQuire_wiring (q : Fin 8) (f : Quire → Quire) : WiringKept s (s.modQuire q f) := .of_ports rfl

theorem decideOne_wiring (l : Line) : WiringKept s (decideOne s p l) := by
  unfold decideOne
  extract_lets +onlyGivenNames x stopped dec l1 s1 s2 fires s3
  have h1 : WiringKept s s1 := .modPort s p _ fun _ => rfl
  have h2 : WiringKept s s2 := by
    unfold s2
    split
    · exact h1.trans (.foldl (fun t w => .of_wordless (headWord_keeps ..)) _ s1)
    · exact h1
  have h3 : WiringKept s s3 := by
    unfold s3
    split
    · exact h2
    · split
      · exact h2
      · next q hq =>
        extract_lets t t1 t2
        have ht1 : WiringKept s t1 := by
          unfold t1
          split
          · exact (h2.trans (modQuire_wiring ..)).trans (.modPort t p _ fun _ => rfl)
          · exact h2.trans (modQuire_wiring ..)
        have ht2 : WiringKept s t2 := by
          unfold t2
          split
          · exact ht1.trans (setPwEvent_wiring ..)
          · exact ht1
        exact ht2.trans (.of_dataless (settleLine_keeps ..))
  exact h3.trans (.modPort s3 p _ fun _ => rfl)

theorem decidePast_wiring : WiringKept s (decidePast s p) := .foldl (fun t l => decideOne_wiring t p l) _ s

theorem endEpisode_wiring : WiringKept s (endEpisode s p) := by
  unfold endEpisode
  split
  · exact .refl s
  · extract_lets s1
    have h1 : WiringKept s s1 := .modPort s p _ fun _ => rfl
    split
    · exact h1
    · exact (h1.trans (setPwEvent_wiring ..)).trans (raise_wiring ..)

theorem portTo_wiring (new : PState) (cause : Nat) : WiringKept s (portTo s p new cause) := .of_stateless (portTo_keeps ..)

theorem drainPorts_wiring (q : Fin 8) : WiringKept s (drainPorts s q) := by
  refine .foldl (fun t r => ?_) _ s
  split
  · exact (endEpisode_wiring ..).trans (portTo_wiring ..)
  · exact endEpisode_wiring ..

theorem stopQuire_wiring (q : Fin 8) (cause : Nat) : WiringKept s (stopQuire s q cause) := by
  unfold stopQuire stopWith
  extract_lets q0 s1 s2 nx all
  split
  · exact (((WiringKept.foldl decidePast_wiring _ s).trans (swapQuire_wiring ..)).trans (drainPorts_wiring ..)).trans (modQuire_wiring ..)
  · split
    · exact modQuire_wiring ..
    · exact .refl s

theorem stopPortFor_wiring (cause : Nat) (faulting : Bool) : WiringKept s (stopPortFor s p cause faulting) := by
  unfold stopPortFor
  split
  · exact .refl s
  · next q hq =>
    split
    · extract_lets s1 left s2
      have h2 : WiringKept s s2 := by
        refine ((decidePast_wiring s p).trans (endEpisode_wiring _ p)).trans ?_
        unfold s2
        split
        · exact .modPort s1 p _ fun _ => rfl
        · exact portTo_wiring ..
      split
      · exact (h2.trans (stopQuire_wiring ..)).trans (modQuire_wiring ..)
      · exact h2.trans (modQuire_wiring ..)
    · exact .refl s

/-! ### Faults (R214, R216) -/

theorem heaterOff_wiring : WiringKept s (heaterOff s p) := by
  unfold heaterOff
  extract_lets s1
  have h1 : WiringKept s s1 := .modPort s p _ fun _ => rfl
  split
  · exact h1
  · exact h1.trans (.of_ports rfl)

theorem liveControl_wiring : WiringKept s (liveControl s p) := by
  unfold liveControl
  split
  · exact .refl s
  · extract_lets s1
    have h1 : WiringKept s s1 := .modPort s p _ fun _ => rfl
    split
    · exact h1.trans (heaterOff_wiring ..)
    · exact h1

/-- Learning ends without touching anything of a port but its records. -/
theorem abortLearn_keeps {α : Type} {π : Port → α} (h : ∀ (x : Port) (v : Rvs), π { x with rvs := v } = π x) : PortKeeps π p s (abortLearn s p) := by
  unfold abortLearn
  extract_lets s1 s2
  have h1 : s1.ports = s.ports := by
    unfold s1
    split
    · rfl
    · exact (endAll_frame ..).ports.resolve_left (by decide)
  have h2 : s2.ports = s.ports := by
    unfold s2
    split
    · exact ((endAll_frame ..).ports.resolve_left (by decide)).trans h1
    · exact h1
  exact (PortKeeps.of_ports h2).trans (.modPort s2 (h ..))

theorem leaveJob_unpurged (s : State) (p : Fin 32) : PortKeeps Port.dataless p s (leaveJob s p false) :=
  (PortKeeps.modPort s rfl).trans (retireReady_keeps ..)

/-- What a port's job, learning and heater come to when it faults. -/
def faultStops (s : State) (p : Fin 32) : State :=
  leaveJob (abortLearn (heaterOff (liveControl (stopPortFor s p 15 true) p) p) p) p false

/-- The port has faulted, and nothing has been reported yet. -/
def faulted (s : State) (p : Fin 32) (cause : Nat) : State :=
  (flushWords (faultStops s p) p (faultStops s p).clk none).modPort p fun x =>
    { x with st := .fault, cause := cause, link := { x.link with sense := none, next := none, words := [] } }

theorem portFault_open {cause : Nat} (h : (s.port p).st = .idle ∨ (s.port p).st.inJob = true ∨ (s.port p).st = .draining) :
    portFault s p cause = stateChanged (faultEdge (faulted s p cause)) p (s.port p).st .fault cause := by
  unfold portFault
  cases hst : (s.port p).st <;> simp only [hst, PState.inJob, reduceCtorEq, Bool.false_eq_true, or_self] at h ⊢ <;> rfl

theorem portFault_shut {cause : Nat} (h : ¬ ((s.port p).st = .idle ∨ (s.port p).st.inJob = true ∨ (s.port p).st = .draining)) :
    portFault s p cause = s := by
  unfold portFault
  cases hst : (s.port p).st <;> simp [hst, PState.inJob] at h ⊢

theorem faultStops_wiring : WiringKept s (faultStops s p) := by
  refine WiringKept.trans ?_ (.of_dataless (leaveJob_unpurged ..))
  refine WiringKept.trans ?_ (.of_keeps (abortLearn_keeps _ _ fun _ _ => rfl))
  exact ((stopPortFor_wiring ..).trans (liveControl_wiring ..)).trans (heaterOff_wiring ..)

theorem faulted_wiring (cause : Nat) : WiringKept s (faulted s p cause) := by
  refine WiringKept.trans ?_ (.modPort _ p _ fun _ => rfl)
  exact (faultStops_wiring s p).trans (.of_wordless (flushWords_keeps ..))

/-- A fault leaves the wiring of every port alone. -/
theorem portFault_wiring (cause : Nat) : WiringKept s (portFault s p cause) := by
  by_cases h : (s.port p).st = .idle ∨ (s.port p).st.inJob = true ∨ (s.port p).st = .draining
  · rw [portFault_open s p h]
    exact ((faulted_wiring s p cause).trans (.of_keeps (faultEdge_keeps _ p _))).trans (.of_wordless (stateChanged_keeps ..))
  · rw [portFault_shut s p h]
    exact .refl s

theorem heaterOut_of_wordless {x y : Port} (h : x.wordless = y.wordless) : x.heater.out = y.heater.out :=
  (congrArg (fun z : Port => z.heater.out) h :)

theorem heaterOut_of_dataless {x y : Port} (h : x.dataless = y.dataless) : x.heater.out = y.heater.out :=
  (congrArg (fun z : Port => z.heater.out) h :)

theorem heaterOff_out : ((heaterOff s p).port p).heater.out = 0 := by
  unfold heaterOff
  extract_lets s1
  have h1 : (s1.port p).heater.out = 0 := congrArg (fun z : Port => z.heater.out) (modPort_port_self ..)
  split
  · exact h1
  · rw [emit_port]
    exact h1

theorem abortLearn_heater : ((abortLearn s p).port p).heater.out = (s.port p).heater.out :=
  (abortLearn_keeps s p (π := fun x => x.heater.out) fun _ _ => rfl).kept

theorem leaveJob_heater : ((leaveJob s p false).port p).heater.out = (s.port p).heater.out :=
  heaterOut_of_dataless (leaveJob_unpurged s p).kept

theorem faultStops_heater : ((faultStops s p).port p).heater.out = 0 := by
  unfold faultStops
  rw [leaveJob_heater, abortLearn_heater, heaterOff_out]

theorem flushWords_heater (till : Nat) (latch : Option Nat) : ((flushWords s p till latch).port p).heater.out = (s.port p).heater.out :=
  heaterOut_of_wordless (flushWords_keeps s p till latch).kept

theorem faulted_heater (cause : Nat) : ((faulted s p cause).port p).heater.out = 0 := by
  unfold faulted
  rw [modPort_port_self, flushWords_heater, faultStops_heater]

/-- A port that faults has its heater off. -/
theorem portFault_heater {cause : Nat} (h : (s.port p).st = .idle ∨ (s.port p).st.inJob = true ∨ (s.port p).st = .draining) :
    ((portFault s p cause).port p).heater.out = 0 := by
  rw [portFault_open s p h]
  exact (heaterOut_of_wordless ((faultEdge_keeps Port.wordless p _).trans (stateChanged_keeps ..)).kept).trans (faulted_heater ..)

end

end Sys2Proof.Machine
end

section
/-! PROOFS. Head presence, link steps, link loss and blocks of link errors (07_head_ports.md R208, R209, R212, R215, R216): O44. -/

set_option Elab.async false

namespace Sys2Proof.Machine

section
variable {s : State} {p : Fin 32}

/-! ### Accesses to the head's memory that are not there -/

theorem pumpHead_none (h : (s.port p).hm = []) : pumpHead s p = s := by
  unfold pumpHead pump
  simp only [h]

/-- A port with no access has none to drop. -/
theorem dropJobs_none {f : HeadJob → Bool} {st : Nat} (h : (s.port p).hm = []) : dropJobs s p f st = s := by
  have hid : ∀ g : HeadJob → Option HeadJob, (s.modPort p fun x => { x with hm := x.hm.filterMap g }) = s := fun g =>
    modPort_id (by rw [h, List.filterMap_nil, ← h])
  unfold dropJobs
  extract_lets hit stay s1
  have h1 : s1 = s := hid stay
  have hhit : hit = [] := by
    unfold hit
    rw [h]
    rfl
  rw [hhit, h1]
  exact pumpHead_none h

/-! ### Presence (R209) -/

theorem presence_short {high : Bool} {held : Nat} (h : held < 4000000) : presence p high held s = s := if_pos h

theorem presence_low {held : Nat} (h : 4000000 ≤ held) : presence p false held s = s.modPort p fun y => { y with prsHigh := false } :=
  (if_neg (Nat.not_lt.2 h)).trans (if_pos rfl)

theorem presence_closed {held : Nat} (h : 4000000 ≤ held) (hc : (s.port p).st = .closed) (hm : (s.port p).hm = []) :
    presence p true held s = s.modPort p fun y => { y with prsHigh := true } := by
  have hm1 : ((s.modPort p fun y => { y with prsHigh := true }).port p).hm = [] := by
    rw [modPort_port_self]
    exact hm
  refine (if_neg (Nat.not_lt.2 h)).trans ((if_pos (by simp [hc])).trans ?_)
  exact dropJobs_none hm1

/-- The state in which the loss of the head has been reported. -/
def headGone (s : State) (p : Fin 32) : State :=
  raise (setPwEvent (s.modPort p fun y => { y with prsHigh := true }) p 2) evHeadLost kPort p.1 3
    ([BitVec.ofNat 8 (s.port p).st.code] ++ zeros 7 ++ le 8 (uns 64 ((s.port p).win.lastDue.getD (-1))))

theorem headGone_port : ((headGone s p).port p).wordless = ({ s.port p with prsHigh := true } : Port).wordless := by
  refine (((setPwEvent_keeps 2).trans (raise_keeps Port.wordless ..)).kept).trans ?_
  rw [modPort_port_self]

theorem st_of_wordless {x y : Port} (h : x.wordless = y.wordless) : x.st = y.st := (congrArg Port.st h :)

theorem wiring_of_wordless {x y : Port} (h : x.wordless = y.wordless) : x.wiring = y.wiring := (congrArg Port.wiring h :)

theorem hm_of_wiring {x y : Port} (h : x.wiring = y.wiring) : x.hm = y.hm := (congrArg (fun w => w.2.1) h :)

theorem presence_lost {held : Nat} (h : 4000000 ≤ held) (hc : (s.port p).st ≠ .closed) (ho : (s.port p).st ≠ .opening)
    (hp : (s.port p).prsHigh = false) (hm : (s.port p).hm = []) : presence p true held s = portFault (headGone s p) p 1 := by
  have hm2 : ((headGone s p).port p).hm = [] := (hm_of_wiring (wiring_of_wordless headGone_port)).trans hm
  refine (if_neg (Nat.not_lt.2 h)).trans ((if_neg (by simp [hc, hp])).trans ((if_neg ho).trans ?_))
  exact congrArg (fun t => portFault t p 1) (dropJobs_none hm2)

/-! ### Link steps (R206, R212) -/

/-- A port without what map transfers note of its channels. -/
def Port.chanless (x : Port) : Port := { x with chA := .reset, chB := .reset }

theorem Port.modChan_chanless (x : Port) (c : Chan) (f : Channel → Channel) : (x.modChan c f).chanless = x.chanless := by cases c <;> rfl

theorem sendBothMaps_keeps (s : State) (p : Fin 32) : PortKeeps Port.chanless p s (sendBothMaps s p) := by
  unfold sendBothMaps
  split
  · exact PortKeeps.refl ..
  · extract_lets one
    have hone : ∀ t c, PortKeeps Port.chanless p t (one t c) := by
      intro t c
      unfold one
      extract_lets rows u
      have hu : PortKeeps Port.chanless p t u := PortKeeps.modPort t (Port.modChan_chanless ..)
      exact (hu.trans (.of_ports ((mapTransfer_frame ..).ports.resolve_left (by decide)))).trans
        (.of_ports ((mapTransfer_frame ..).ports.resolve_left (by decide)))
    exact (hone s .a).trans (hone _ .b)

/-- A port whose link has just trained. -/
def Port.trained (x : Port) (t : Nat) : Port :=
  { x with link := { x.link with
    up := true, train := 0, lastStatus := t, lanes := 15, unlockedAt := none, hifbBase := none, mapBank := false,
    headPend := List.replicate x.nozzles 0, headActive := List.replicate x.nozzles 0, next := none } }

theorem linkTrained_port (s : State) (p : Fin 32) : ((linkTrained s p).port p).chanless = ((s.port p).trained s.clk).chanless := by
  refine (sendBothMaps_keeps ..).kept.trans ?_
  rw [modPort_port_self]
  rfl

theorem linkTrained_others {r : Fin 32} (h : r ≠ p) : (linkTrained s p).port r = s.port r :=
  ((sendBothMaps_keeps ..).others r h).trans (modPort_port_ne _ _ _ h.symm)

/-- What a trained link shows of a port. -/
theorem linkTrained_shows (s : State) (p : Fin 32) : ((linkTrained s p).port p).link.up = true ∧ ((linkTrained s p).port p).link.train = 0 ∧
    ((linkTrained s p).port p).st = (s.port p).st ∧ ((linkTrained s p).port p).hm = (s.port p).hm :=
  have h := linkTrained_port s p
  ⟨(congrArg (fun x : Port => x.link.up) h :), (congrArg (fun x : Port => x.link.train) h :), (congrArg Port.st h :), (congrArg Port.hm h :)⟩

theorem endExec_ports (s : State) (e : Exec) (st res : Nat) : (endExec s e st res).ports = s.ports :=
  (endExec_frame ..).ports.resolve_left (by decide)

theorem endExec_quires (s : State) (e : Exec) (st res : Nat) : (endExec s e st res).quires = s.quires :=
  (endExec_frame ..).quires.resolve_left (by decide)

/-- A command that ends is in execution no more. -/
theorem endExec_execs (s : State) (e : Exec) (st res : Nat) : (endExec s e st res).execs = s.execs.filter fun x => x.id != e.id :=
  (complete_frame ..).execs.resolve_left (by decide)

/-- A port that repeats the steps in vain. -/
def linkSilent (s : State) (p : Fin 32) : State := s.modPort p fun y => { y with link := { y.link with train := 0 } }

/-- The wear record of a port that has just opened is read, or the read ends at once: nothing else of the port changes. -/
theorem pumpHead_wearLoad {j : HeadJob} (hm : (s.port p).hm = [j]) (hs : j.sent = none) (hw : j.why = .wearLoad) :
    PortKeeps (fun x => { x with hm := [] }) p s (pumpHead s p) ∧ (pumpHead s p).execs = s.execs ∧ (pumpHead s p).quires = s.quires := by
  have hper : j.periodic = false := by simp [HeadJob.periodic, hw]
  unfold pumpHead pump
  simp only [hm, hs, hper, Option.isSome_none, Bool.and_false, Bool.false_eq_true, if_false]
  split
  · simp only [hw, hm]
    refine ⟨?_, (sendPage_frame ..).execs.resolve_left (by decide), (sendPage_frame ..).quires.resolve_left (by decide)⟩
    unfold sendPage
    extract_lets f s1
    have h1 : PortKeeps (fun x => { x with hm := [] }) p s s1 := PortKeeps.modPort s rfl
    split
    · exact h1.trans (.of_ports rfl)
    · split
      · exact h1.trans (.of_ports rfl)
      · exact h1.trans (.of_ports rfl)
  · next st hst =>
    have hover : jobOver (s.modPort p fun y => { y with hm := [] }) p j (st + 1) = s.modPort p fun y => { y with hm := [] } := by
      unfold jobOver
      simp only [hw]
      exact if_neg (Nat.succ_ne_zero st)
    have hnone : ((s.modPort p fun y => { y with hm := [] }).port p).hm = [] := congrArg Port.hm (modPort_port_self ..)
    rw [hover]
    simp only [List.length_cons, List.length_nil, pump, hnone]
    exact ⟨PortKeeps.modPort s rfl, rfl, rfl⟩

theorem advanceTo_openExec (till : Nat) : openExec (s.advanceTo till) p = openExec s p := rfl

theorem advanceTo_retrainExec (till : Nat) : retrainExec (s.advanceTo till) p = retrainExec s p := rfl

section
variable {till : Nat} (h : (s.port p).link.train ≠ 0)
include h

theorem bringupDone_waits (ho : (s.port p).linkOutcome = none) : bringupDone p till s =
    if (s.port p).gen = 3 then (s.advanceTo till).modPort p fun y => { y with link := { y.link with train := y.link.train + 1 } }
    else s.advanceTo till := by
  unfold bringupDone
  simp only [if_neg h, ho]

theorem bringupDone_opens {e : Exec} {ok : Bool} (ho : (s.port p).linkOutcome = some ok) (he : openExec s p = some e) : bringupDone p till s =
    if ok then openSucceeds (s.advanceTo till) p e else openFails (s.advanceTo till) p stPortFault 9 := by
  unfold bringupDone
  simp only [if_neg h, ho, advanceTo_openExec, he]

theorem bringupDone_configures {e : Exec} (ho : (s.port p).linkOutcome = some true) (he : openExec s p = none) (hr : retrainExec s p = some e)
    (hi : (s.port p).st = .idle) : bringupDone p till s = endExec (linkTrained (s.advanceTo till) p) e stOk 0 := by
  unfold bringupDone
  simp only [if_neg h, ho, advanceTo_openExec, advanceTo_retrainExec, he, hr, hi, decide_true, Bool.and_self, if_true]

theorem bringupDone_alone {ok : Bool} (ho : (s.port p).linkOutcome = some ok) (he : openExec s p = none) (hr : retrainExec s p = none) :
    bringupDone p till s = if (s.port p).st = .idle then
      (if ok then linkTrained (s.advanceTo till) p else portFault (linkSilent (s.advanceTo till) p) p 3) else s.advanceTo till := by
  unfold bringupDone
  simp only [if_neg h, ho, advanceTo_openExec, advanceTo_retrainExec, he, hr]
  rfl

end

/-- A port that is IDLE with its link up, nothing left of its opening. -/
def Port.nowIdle (x : Port) (t : Nat) : Port :=
  { x with st := .idle, cause := 0, fromFault := false, chA := { x.chA with lastCal := t }, chB := { x.chB with lastCal := t },
           senseCal := if x.gen = 3 then t else x.senseCal, link := x.link.newBlock t }

/-- What a port that has opened shows. -/
structure Opened (s t : State) (p : Fin 32) : Prop where
  st : (t.port p).st = .idle
  up : (t.port p).link.up = true
  cause : (t.port p).cause = 0
  others : ∀ r, r ≠ p → t.port r = s.port r
  execs : t.execs = s.execs
  quires : t.quires = s.quires

theorem Opened.of_keeps {α : Type} {π : Port → α} {t u : State} (h : Opened s t p) (k : PortKeeps π p t u)
    (hπ : ∀ x y : Port, π x = π y → x.st = y.st ∧ x.link.up = y.link.up ∧ x.cause = y.cause) (he : u.execs = t.execs) (hq : u.quires = t.quires) :
    Opened s u p := by
  obtain ⟨hst, hup, hcause⟩ := hπ _ _ k.kept
  exact ⟨hst.trans h.st, hup.trans h.up, hcause.trans h.cause, fun r hr => (k.others r hr).trans (h.others r hr), he.trans h.execs, hq.trans h.quires⟩

/-- The state in which a port has come to IDLE. -/
def openedState (s : State) (p : Fin 32) : State :=
  (linkTrained (s.modPort p fun x => if (s.port p).fromFault then x else freshPort x) p).modPort p fun x => x.nowIdle s.clk

theorem openSucceeds_eq (s : State) (p : Fin 32) (e : Exec) : openSucceeds s p e =
    endExec (stateChanged (if (s.port p).fromFault then openedState s p
      else pumpHead (addJob (openedState s p) p (.reading .wearLoad 0x0100 0x4300)) p) p .opening .idle 0) e stOk (openRes (s.port p) 0) := rfl

theorem openedState_opened (s : State) (p : Fin 32) : Opened s (openedState s p) p ∧ ((openedState s p).port p).hm = (s.port p).hm := by
  let u := s.modPort p fun x => if (s.port p).fromFault then x else freshPort x
  obtain ⟨hup, -, -, hhm⟩ := linkTrained_shows u p
  have huhm : (u.port p).hm = (s.port p).hm := by
    rw [modPort_port_self]
    split <;> rfl
  have hport : (openedState s p).port p = ((linkTrained u p).port p).nowIdle s.clk := modPort_port_self ..
  refine ⟨⟨?_, ?_, ?_, fun r hr => ?_, (linkTrained_frame u p).execs.resolve_left (by decide), (linkTrained_frame u p).quires.resolve_left (by decide)⟩, ?_⟩
  · rw [hport]; rfl
  · rw [hport]; exact hup
  · rw [hport]; rfl
  · exact (modPort_port_ne _ _ _ hr.symm).trans ((linkTrained_others hr).trans (modPort_port_ne _ _ _ hr.symm))
  · rw [hport]; exact hhm.trans huhm

/-- PORT_OPEN succeeds. -/
theorem openSucceeds_opened {e : Exec} (h : (s.port p).hm = []) : ∃ u, Opened s u p ∧ openSucceeds s p e = endExec u e stOk (openRes (s.port p) 0) := by
  obtain ⟨hopen, hhm⟩ := openedState_opened s p
  rw [h] at hhm
  have hloaded : Opened s (if (s.port p).fromFault then openedState s p
      else pumpHead (addJob (openedState s p) p (.reading .wearLoad 0x0100 0x4300)) p) p := by
    split
    · exact hopen
    · let v := addJob (openedState s p) p (.reading .wearLoad 0x0100 0x4300)
      have hv : (v.port p).hm = [.reading .wearLoad 0x0100 0x4300] := by
        refine (congrArg Port.hm (modPort_port_self ..)).trans ?_
        exact congrArg (· ++ _) hhm
      obtain ⟨hk, he, hq⟩ := pumpHead_wearLoad hv rfl rfl
      have hadd : PortKeeps (fun x => { x with hm := [] }) p (openedState s p) v := PortKeeps.modPort _ rfl
      exact hopen.of_keeps (hadd.trans hk) (fun x y hxy => ⟨(congrArg Port.st hxy :), (congrArg (fun z : Port => z.link.up) hxy :), (congrArg Port.cause hxy :)⟩)
        he hq
  refine ⟨_, hloaded.of_keeps (stateChanged_keeps _ p .opening .idle 0) (fun x y hxy =>
    ⟨(congrArg Port.st hxy :), (congrArg (fun z : Port => z.link.up) hxy :), (congrArg Port.cause hxy :)⟩)
    ((stateChanged_frame ..).execs.resolve_left (by decide)) ((stateChanged_frame ..).quires.resolve_left (by decide)), openSucceeds_eq ..⟩

/-! ### Lost links and blocks of link errors (R216) -/

theorem blockEnd_waits (h : (s.port p).st = .closed ∨ (s.port p).st.busy = true ∧ (s.port p).link.blockLines < 1024) : blockEnd p s = s := by
  unfold blockEnd
  extract_lets x
  split
  · rfl
  · next hc =>
    obtain ⟨hb, hl⟩ := h.resolve_left hc
    rw [if_pos hb]
    exact if_neg (Nat.not_le.2 hl)

theorem blockEnd_lines (h : (s.port p).st.busy = true) (hl : 1024 ≤ (s.port p).link.blockLines) :
    blockEnd p s = s.modPort p fun y => { y with link := y.link.newBlock s.clk } := by
  have hc : (s.port p).st ≠ .closed := fun hc => by simp [hc, PState.busy] at h
  exact (if_neg hc).trans ((if_pos h).trans (if_pos hl))

/-- A block of link errors ends with the time. -/
def blockAt (s : State) (p : Fin 32) (t : Nat) : State :=
  (s.advanceTo t).modPort p fun y => { y with link := y.link.newBlock (s.advanceTo t).clk }

theorem blockAt_clk (t : Nat) : (blockAt s p t).clk = s.clk + (t - s.clk) := rfl

theorem blockAt_port (t : Nat) : (blockAt s p t).port p = { s.port p with link := (s.port p).link.newBlock (blockAt s p t).clk } := by
  rw [blockAt, modPort_port_self]
  rfl

theorem blockAt_rest (t : Nat) : { blockAt s p t with ports := s.ports } = s.advanceTo t := rfl

theorem blockEnd_time (hc : (s.port p).st ≠ .closed) (hb : (s.port p).st.busy = false) :
    blockEnd p s = blockAt s p ((s.port p).link.blockStart + 10 * msPh) :=
  (if_neg hc).trans (if_neg (by simp [hb]))

/-- The link of a port is down, and nothing has faulted yet. -/
def linkDown (s : State) (p : Fin 32) (t : Nat) : State := (s.advanceTo t).modPort p fun y => { y with link := { y.link with up := false } }

theorem linkDown_port (t : Nat) : (linkDown s p t).port p = { s.port p with link := { (s.port p).link with up := false } } := by
  rw [linkDown, modPort_port_self]
  rfl

theorem linkDown_clk (t : Nat) : (linkDown s p t).clk = s.clk + (t - s.clk) := rfl

theorem linkLost_idle (h : (s.port p).gen ≠ 3 ∨ (s.port p).st = .closed ∨ (s.port p).st = .opening ∨ (s.port p).link.up = false) : linkLost p s = s :=
  if_pos h

/-- Since when the link of a port is silent. -/
def Link.since (l : Link) : Nat :=
  match l.unlockedAt with
  | some t => min t l.lastStatus
  | none => l.lastStatus

theorem linkLost_faults (h : ¬ ((s.port p).gen ≠ 3 ∨ (s.port p).st = .closed ∨ (s.port p).st = .opening ∨ (s.port p).link.up = false))
    (hm : (s.port p).hm = []) : linkLost p s = portFault (linkDown s p ((s.port p).link.since + 16 * usPh)) p 3 := by
  let u := linkDown s p ((s.port p).link.since + 16 * usPh)
  have hu : (u.port p).hm = [] := (congrArg Port.hm (linkDown_port _)).trans hm
  have hfault : ((portFault u p 3).port p).hm = [] := (hm_of_wiring ((portFault_wiring u p 3).wiring p)).trans hu
  exact (if_neg h).trans (dropJobs_none hfault)

end

/-- Settles O44: presence, the end of link steps by what waits for them, and the link's errors. -/
theorem headPortsFollowTheLink : Obligations.HeadPortsFollowTheLink := by
  unfold Obligations.HeadPortsFollowTheLink
  intro s p x
  refine ⟨?_, ?_, ?_, ?_, ?_, ?_, ?_, ?_, ?_, ?_, ?_, ?_, ?_, ?_, ?_, ?_, ?_⟩
  · exact fun high held h => exec_of rfl (presence_short h)
  · exact fun held h => exec_of rfl (presence_low h)
  · intro held h hc hm
    exact ⟨_, exec_of rfl (presence_closed h hc hm), modPort_port_self .., rfl, fun r hr => modPort_port_ne _ _ _ hr.symm⟩
  · intro held h hst hp hm
    have hopen : x.st = .idle ∨ x.st.inJob = true ∨ x.st = .draining := by
      rcases hst with hst | hst | hst | hst <;> simp [hst, PState.inJob]
    have hst2 : ((headGone s p).port p).st = x.st := (st_of_wordless headGone_port :)
    have hopen2 : ((headGone s p).port p).st = .idle ∨ ((headGone s p).port p).st.inJob = true ∨ ((headGone s p).port p).st = .draining := by
      rw [hst2]
      exact hopen
    have hlost : presence p true held s = portFault (headGone s p) p 1 :=
      presence_lost h (by rcases hst with e | e | e | e <;> simp [x, e]) (by rcases hst with e | e | e | e <;> simp [x, e]) hp hm
    obtain ⟨hfault, hcause⟩ := portFault_faults (cause := 1) hopen2
    have hwire := ((portFault_wiring (headGone s p) p 1).wiring p).trans (wiring_of_wordless headGone_port :)
    exact ⟨_, exec_of rfl hlost, hfault, hcause, (congrArg Prod.fst hwire :), portFault_heater _ _ hopen2⟩
  · exact fun till h => exec_of rfl (if_pos h)
  · exact fun till h ho => exec_of rfl (bringupDone_waits h ho)
  · intro till h ho he hr hi
    obtain ⟨ok, hok⟩ := Option.isSome_iff_exists.1 ho
    exact exec_of rfl ((bringupDone_alone h hok he hr).trans (if_neg hi))
  · intro till h ho he hr hi
    obtain ⟨hup, htrain, hst, -⟩ := linkTrained_shows (s.advanceTo till) p
    exact ⟨_, exec_of rfl ((bringupDone_alone h ho he hr).trans (if_pos hi)), hup, htrain, hst.trans hi,
      (linkTrained_frame ..).execs.resolve_left (by decide), (linkTrained_frame ..).quires.resolve_left (by decide),
      fun r hr => linkTrained_others hr⟩
  · intro till e h ho he hr hi
    obtain ⟨hup, htrain, hst, -⟩ := linkTrained_shows (s.advanceTo till) p
    have hports := endExec_ports (linkTrained (s.advanceTo till) p) e stOk 0
    have hport : ∀ r, (endExec (linkTrained (s.advanceTo till) p) e stOk 0).port r = (linkTrained (s.advanceTo till) p).port r :=
      fun r => congrArg (look · r) hports
    refine ⟨_, exec_of rfl (bringupDone_configures h ho he hr hi), ?_, ?_, ?_, ?_, ?_, fun r hr => (hport r).trans (linkTrained_others hr)⟩
    · rw [hport]; exact hup
    · rw [hport]; exact htrain
    · rw [hport]; exact hst.trans hi
    · rw [endExec_execs, (linkTrained_frame ..).execs.resolve_left (by decide)]
      rfl
    · exact (endExec_quires ..).trans ((linkTrained_frame ..).quires.resolve_left (by decide))
  · intro till h ho he hr hi
    let u := linkSilent (s.advanceTo till) p
    have hport : u.port p = { x with link := { x.link with train := 0 } } := modPort_port_self ..
    have hst : (u.port p).st = .idle := by rw [hport]; exact hi
    obtain ⟨hfault, hcause⟩ := portFault_faults (cause := 3) (.inl hst)
    have hwire := (portFault_wiring u p 3).wiring p
    rw [hport] at hwire
    exact ⟨_, exec_of rfl ((bringupDone_alone h ho he hr).trans (if_pos hi)), hfault, hcause, (congrArg (fun w => w.2.2.2) hwire :)⟩
  · exact fun till e h ho he => exec_of rfl (bringupDone_opens h ho he)
  · intro till e h ho he hm
    obtain ⟨u, hu, heq⟩ := openSucceeds_opened (s := s.advanceTo till) (e := e) hm
    have hports := endExec_ports u e stOk (openRes ((s.advanceTo till).port p) 0)
    have hport : ∀ r, (endExec u e stOk (openRes ((s.advanceTo till).port p) 0)).port r = u.port r := fun r => congrArg (look · r) hports
    refine ⟨_, exec_of rfl ((bringupDone_opens h ho he).trans heq), ?_, ?_, ?_, ?_, ?_, fun r hr => (hport r).trans (hu.others r hr)⟩
    · rw [hport]; exact hu.st
    · rw [hport]; exact hu.up
    · rw [hport]; exact hu.cause
    · rw [endExec_execs, hu.execs]
      rfl
    · exact (endExec_quires ..).trans hu.quires
  · exact fun h => exec_of rfl (linkLost_idle h)
  · intro hg hst hup hm
    let u := linkDown s p (x.link.since + 16 * usPh)
    have hport : u.port p = { x with link := { x.link with up := false } } := linkDown_port _
    have hopen : x.st = .idle ∨ x.st.inJob = true ∨ x.st = .draining := by
      rcases hst with hst | hst | hst | hst <;> simp [hst, PState.inJob]
    have hgate : ¬ (x.gen ≠ 3 ∨ x.st = .closed ∨ x.st = .opening ∨ x.link.up = false) := by
      rcases hst with hst | hst | hst | hst <;> simp [hst, hg, hup]
    have hopen2 : (u.port p).st = .idle ∨ (u.port p).st.inJob = true ∨ (u.port p).st = .draining := by
      rw [hport]
      exact hopen
    obtain ⟨hfault, hcause⟩ := portFault_faults (cause := 3) hopen2
    have hwire := (portFault_wiring u p 3).wiring p
    rw [hport] at hwire
    refine ⟨_, exec_of rfl (linkLost_faults hgate hm), hfault, hcause, (congrArg (fun w => w.2.2.1) hwire :), ?_⟩
    refine ((portFault_frame ..).clk.resolve_left (by decide)).trans ?_
    rw [linkDown_clk, usPh, Link.since]
    cases (s.port p).link.unlockedAt <;> simp only [x] <;> omega
  · exact fun h => exec_of rfl (blockEnd_waits h)
  · exact fun h hl => exec_of rfl (blockEnd_lines h hl)
  · intro hc hb
    refine ⟨_, exec_of rfl (blockEnd_time hc hb), ?_, ?_, ?_⟩
    · rw [blockAt_clk, msPh]
      show _ = max s.clk ((s.port p).link.blockStart + _)
      omega
    · exact blockAt_port _
    · exact blockAt_rest _

end Sys2Proof.Machine
end

section
/-! PROOFS. Status frames, head-memory replies and level maps (07_head_ports.md R206, R208, R210, R227): O45. -/

set_option Elab.async false

namespace Sys2Proof.Machine

/-! ### Bytes of a number -/

theorem rdLE_le : ∀ n v : Nat, rdLE (le n v) = v % 256 ^ n
  | 0, v => (Nat.mod_one v).symm
  | n + 1, v => by
    have hpow : 256 ^ (n + 1) = 256 * 256 ^ n := Nat.pow_succ'
    rw [le, rdLE, rdLE_le n, BitVec.toNat_ofNat, hpow]
    exact (Nat.mod_mul ..).symm

theorem length_le : ∀ n v : Nat, (le n v).length = n
  | 0, _ => rfl
  | n + 1, v => congrArg (· + 1) (length_le n (v / 256))

/-- A 32-bit number is read back from its four bytes. -/
theorem rdLE_bytesOf (v : U32) : rdLE (bytesOf 4 v) = v.toNat := by
  rw [bytesOf, rdLE_le]
  exact Nat.mod_eq_of_lt v.isLt

theorem firstByte (f : BitVec 64) : rdAt (bytesOf 8 f) 0 1 = f.toNat % 256 := by
  simp [rdAt, bytesOf, le, rdLE]

theorem lastByte (f : BitVec 64) : rdAt (bytesOf 8 f) 7 1 = f.toNat / 2 ^ 56 := by
  have hf : f.toNat < 2 ^ 64 := f.isLt
  simp only [rdAt, bytesOf, le, rdLE, List.drop_succ_cons, List.drop_zero, List.take_succ_cons, List.take_nil, BitVec.toNat_ofNat]
  omega

theorem bit_of_bits {v i : Nat} (h : bits v i i = 0) : bit v i = false := by
  have h2 : v / 2 ^ i % 2 = 0 := by simpa [bits] using h
  rw [bit, Nat.testBit_eq_decide_div_mod_eq]
  simp [h2]

section
variable {s : State} {p : Fin 32}

/-! ### Status frames (R208) -/

theorem highestOf_mem : ∀ {l : List (Nat × Int)} {e : Nat × Int}, highestOf l = some e → e ∈ l
  | (i, t) :: l, e, h => by
    unfold highestOf at h
    split at h
    · next j u hl =>
      split at h
      · exact List.mem_cons_of_mem _ (highestOf_mem (hl.trans h))
      · exact Option.some.inj h ▸ List.mem_cons_self
    · exact Option.some.inj h ▸ List.mem_cons_self

/-- Temperatures below T_ABS change nothing on a head that has shown none above it. -/
theorem checkAbs_below {l : List (Nat × Int)} (ha : (s.port p).therm.absSeen = false)
    (hl : (l.all fun t => ((s.port p).profile.map fun q => decide (t.2 < q.tAbs)).getD true) = true) : checkAbs s p (highestOf l) = s := by
  unfold checkAbs
  split
  · next f i t hf hi =>
    have hlt := List.all_eq_true.1 hl _ (highestOf_mem hi)
    rw [hf] at hlt
    have hlt : t < f.tAbs := by simpa using hlt
    rw [if_neg (by simp [ha])]
    exact if_neg (by omega)
  · rfl

/-- The link of a port after a sound status frame. -/
def Link.status (l : Link) (t lanes : Nat) (t0 t1 : Option Int) : Link :=
  { l with lastStatus := t, lanes := lanes, bcT0 := some t0, bcT1 := some t1,
           unlockedAt := if lanes = 15 then none else some (l.unlockedAt.getD t) }

theorem statusFrame_none {f : BitVec 64} (h : (s.port p).gen ≠ 3 ∨ (s.port p).st = .closed) : statusFrame p f s = s := if_pos h

theorem statusFrame_sound {f : BitVec 64} (hg : (s.port p).gen = 3) (hc : (s.port p).st ≠ .closed) (h0 : rdAt (bytesOf 8 f) 0 1 = 0x9C)
    (h7 : (crc8 ((bytesOf 8 f).take 7)).toNat = rdAt (bytesOf 8 f) 7 1) (hb0 : bit (rdAt (bytesOf 8 f) 2 1) 0 = false)
    (hb5 : bit (rdAt (bytesOf 8 f) 2 1) 5 = false) (ha : (s.port p).therm.absSeen = false)
    (hl : ((frameTemps (s.port p) (frameT (rdAt (bytesOf 8 f) 3 2)) (frameT (rdAt (bytesOf 8 f) 5 2))).all
      fun t => ((s.port p).profile.map fun q => decide (t.2 < q.tAbs)).getD true) = true) :
    statusFrame p f s = s.modPort p fun y =>
      { y with link := y.link.status s.clk (bits (rdAt (bytesOf 8 f) 2 1) 4 1) (frameT (rdAt (bytesOf 8 f) 3 2)) (frameT (rdAt (bytesOf 8 f) 5 2)) } := by
  unfold statusFrame
  extract_lets d x fl t0 t1 lanes s1 zero s2 s3
  have h2 : s2 = s1 := if_neg (by simp [fl, d, hb0])
  have h3 : s3 = s2 := if_neg (by simp [fl, d, hb5])
  have hport : s1.port p = { s.port p with link := (s.port p).link.status s.clk lanes t0 t1 } := modPort_port_self ..
  rw [if_neg (by simp [x, hg, hc]), if_neg (by simp [d, h0, h7]), h3, h2]
  refine checkAbs_below ?_ ?_
  · rw [hport]
    exact ha
  · rw [hport]
    exact hl

/-! ### Replies (R208, R210, R227) -/

theorem i2cDone_other {ack : Bool} {data : Bytes} (h : ((s.port p).hm.head?.bind fun j => j.sent) ≠ some false) : i2cDone p ack data s = s := by
  unfold i2cDone
  split
  · next j l hm => exact if_neg fun hs => h (by rw [hm]; exact hs)
  · rfl

theorem i2cDone_waited {ack : Bool} {data : Bytes} (h : ((s.port p).hm.head?.bind fun j => j.sent) = some false) :
    i2cDone p ack data s = pageDone s p (if ack then stOk else stPortFault) data := by
  unfold i2cDone
  split
  · next j l hm =>
    rw [hm] at h
    exact if_pos h
  · next hm =>
    rw [hm] at h
    exact absurd h (by simp)

theorem headReply_other {frame : Bytes} (h : ((s.port p).hm.head?.bind fun j => j.sent) ≠ some true ∨ rdAt frame 0 1 ≠ 0x9C ∨ rdAt frame 1 1 ≠ 2) :
    headReply p frame s = s := by
  unfold headReply
  extract_lets n ok
  split
  · next j l hm =>
    refine if_neg fun ⟨hs, h0, h1⟩ => ?_
    rw [hm] at h
    rcases h with h | h | h
    · exact h hs
    · exact h h0
    · exact h h1
  · rfl

/-- A reply that an access waits for ends its page. -/
theorem headReply_waited {frame : Bytes} (h : ((s.port p).hm.head?.bind fun j => j.sent) = some true) (h0 : rdAt frame 0 1 = 0x9C)
    (h1 : rdAt frame 1 1 = 2) : headReply p frame s =
      pageDone (if (crc32 (frame.take (frame.length - 4))).toNat = rdAt frame (frame.length - 4) 4 then s else linkError s p 1 (-1)) p
        (if (crc32 (frame.take (frame.length - 4))).toNat = rdAt frame (frame.length - 4) 4 ∧ rdAt frame 2 1 = 0 then stOk else stPortFault)
        ((frame.take (frame.length - 4)).drop 3) := by
  unfold headReply
  split
  · next j l hm =>
    rw [hm] at h
    refine (if_pos ⟨h, h0, h1⟩).trans ?_
    simp
  · next hm =>
    rw [hm] at h
    exact absurd h (by simp)

end

/-- A reply frame: its three bytes, the data, and a CRC-32. -/
def replyFrame (k28 kind status : Byte) (data : Bytes) (crc : U32) : Bytes := [k28, kind, status] ++ data ++ bytesOf 4 crc

section
variable (k28 kind status : Byte) (data : Bytes) (crc : U32)

theorem replyFrame_bytes : rdAt (replyFrame k28 kind status data crc) 0 1 = k28.toNat ∧ rdAt (replyFrame k28 kind status data crc) 1 1 = kind.toNat ∧
    rdAt (replyFrame k28 kind status data crc) 2 1 = status.toNat := by
  simp [replyFrame, rdAt, rdLE]

theorem replyFrame_length : (replyFrame k28 kind status data crc).length - 4 = ([k28, kind, status] ++ data).length := by
  rw [replyFrame, List.length_append, bytesOf, length_le, Nat.add_sub_cancel]

theorem replyFrame_take : (replyFrame k28 kind status data crc).take ((replyFrame k28 kind status data crc).length - 4) =
    [k28, kind, status] ++ data := by
  rw [replyFrame_length]
  exact List.take_left

theorem replyFrame_crc : rdAt (replyFrame k28 kind status data crc) ((replyFrame k28 kind status data crc).length - 4) 4 = crc.toNat := by
  rw [replyFrame_length, rdAt, replyFrame, List.drop_left, List.take_of_length_le (by rw [bytesOf, length_le]), rdLE_bytesOf]

end

/-! ### Level maps (R206) -/

section
variable {s : State} {p : Fin 32}

/-- A map transfer only sends. -/
theorem mapTransfer_sends (s : State) (p : Fin 32) (c : Chan) (bank : Bool) (rows : List Nat) : ∃ o, mapTransfer s p c bank rows = { s with out := o } := by
  have hfold : ∀ (l : List Nat) (g : Nat → Nat → Out) (n : Nat) (a : State × Nat), (∃ o, a.1 = { s with out := o }) →
      ∃ o, (l.foldl (fun (a : State × Nat) v => (a.1.emit (g v a.2), a.2 + n)) a).1 = { s with out := o } := by
    intro l g n
    induction l with
    | nil => exact fun a h => h
    | cons v l ih =>
      rintro a ⟨o, ho⟩
      exact ih _ ⟨_, congrArg (fun t => t.emit (g v a.2)) ho⟩
  unfold mapTransfer
  extract_lets x b
  split
  · exact ⟨_, rfl⟩
  · exact hfold _ (fun v t => .laneWord p.1 c 5 v t) (x.bitsPh 9) _ ⟨_, rfl⟩

theorem Channel.headMap_setMap (z : Channel) (bank : Bool) (rows : List Nat) : (z.setMap bank rows).headMap bank = rows := by cases bank <;> rfl

theorem Port.chan_modChan (x : Port) (c : Chan) (f : Channel → Channel) : (x.modChan c f).chan c = f (x.chan c) := by cases c <;> rfl

/-- A channel's rows in the head's other bank. -/
theorem sendMap_sends {b : Banks} (c : Chan) (hb : (s.port p).banks = some b) : ∃ o, sendMap s p c =
    { s.modPort p fun y => y.modChan c fun z => { z.setMap (!(s.port p).link.mapBank) (b.shadow.chan c).rows with mapDue := false } with out := o } := by
  unfold sendMap
  simp only [hb]
  split
  · exact ⟨_, rfl⟩
  · exact mapTransfer_sends ..

theorem levelMapTransfer_none (c : Chan) (h : ((s.port p).chan c).mapDue = false) : levelMapTransfer p c s = s := if_neg (by simp [h])

theorem levelMapTransfer_sends {b : Banks} (c : Chan) (hd : ((s.port p).chan c).mapDue = true) (hb : (s.port p).banks = some b) (hp : b.pend = false)
    (hst : (s.port p).st = .idle ∨ (s.port p).st.busy = true) (hl : ((s.port p).lines.all fun l => l.mapBank == (s.port p).link.mapBank) = true) :
    levelMapTransfer p c s = sendMap s p c := by
  unfold levelMapTransfer
  simp only [hb]
  exact if_pos (by rcases hst with e | e <;> simp [hd, hp, hl, e])

end

/-- Settles O45: a sound frame, the replies by what waits for them, and a map transfer. -/
theorem headStatusAndMemory : Obligations.HeadStatusAndMemory := by
  unfold Obligations.HeadStatusAndMemory
  intro s p x
  refine ⟨?_, ?_, ?_, ?_, ?_, ?_, ?_, ?_, ?_⟩
  · exact fun f h => exec_of rfl (statusFrame_none h)
  · intro f hg hc h0 h7 hb0 hb5 ha hl
    have hframe := statusFrame_sound hg hc ((firstByte f).trans h0) (h7.trans (lastByte f).symm) (bit_of_bits hb0) (bit_of_bits hb5) ha hl
    refine ⟨_, exec_of rfl hframe, rfl, fun r hr => modPort_port_ne _ _ _ hr.symm, ?_⟩
    rw [modPort_port_self]
    exact ⟨rfl, rfl, rfl, rfl, rfl⟩
  · intro k28 kind status data crc h
    obtain ⟨h0, h1, -⟩ := replyFrame_bytes k28 kind status data crc
    refine exec_of rfl (headReply_other (frame := replyFrame k28 kind status data crc) (h.imp_right ?_))
    rw [h0, h1]
    exact Or.imp (fun h e => h (BitVec.eq_of_toNat_eq e)) (fun h e => h (BitVec.eq_of_toNat_eq e))
  · intro status data crc h hcrc
    obtain ⟨h0, h1, h2⟩ := replyFrame_bytes 0x9C 2 status data crc
    refine exec_of rfl ((headReply_waited (frame := replyFrame 0x9C 2 status data crc) h h0 h1).trans ?_)
    have hst : status.toNat = 0 ↔ status = 0 := ⟨fun e => BitVec.eq_of_toNat_eq e, fun e => congrArg BitVec.toNat e⟩
    rw [replyFrame_take, replyFrame_crc, h2, hcrc]
    simp only [true_and, if_true, hst]
    rfl
  · intro status data crc h hcrc
    obtain ⟨h0, h1, h2⟩ := replyFrame_bytes 0x9C 2 status data crc
    refine exec_of rfl ((headReply_waited (frame := replyFrame 0x9C 2 status data crc) h h0 h1).trans ?_)
    have hne : (crc32 ([0x9C, 2, status] ++ data)).toNat ≠ crc.toNat := fun e => hcrc (BitVec.eq_of_toNat_eq e)
    rw [replyFrame_take, replyFrame_crc, if_neg hne, if_neg fun e => hne e.1]
    rfl
  · exact fun ack data h => exec_of rfl (i2cDone_other h)
  · exact fun ack data h => exec_of rfl (i2cDone_waited h)
  · intro c b hd hb hp hst hl
    obtain ⟨o, ho⟩ := sendMap_sends c hb
    let f := fun z : Channel => { z.setMap (!x.link.mapBank) (b.shadow.chan c).rows with mapDue := false }
    have hport : (s.modPort p fun y => y.modChan c f).port p = x.modChan c f := modPort_port_self ..
    have hchan : ((s.modPort p fun y => y.modChan c f).port p).chan c = f (x.chan c) := by rw [hport, Port.chan_modChan]
    refine ⟨_, exec_of rfl ((levelMapTransfer_sends c hd hb hp hst hl).trans ho), (congrArg Channel.mapDue hchan :), ?_, ?_, rfl,
      fun r hr => modPort_port_ne s _ _ hr.symm⟩
    · exact (congrArg (fun z => Channel.headMap z (!x.link.mapBank)) hchan).trans ((x.chan c).headMap_setMap ..)
    · refine (congrArg Port.banks hport).trans ?_
      cases c <;> exact hb
  · exact fun c h => exec_of rfl (levelMapTransfer_none c h)

end Sys2Proof.Machine
end

section
/-! PROOFS. Release and boot (14_reset_boot.md R392 to R400, R408): O48. -/

set_option Elab.async false

namespace Sys2Proof.Machine

section
variable {s : State}

/-! ### Sources (R394 to R396) -/

/-- When the last source releases in HELD, the stretch begins. -/
theorem releaseSources_last {gone : ResetSource → Bool} (hh : s.rst.seq = .held) (hg : s.rst.asserted.filter (fun x => !(gone x)) = []) :
    releaseSources s gone = startStretch { s with rst := { s.rst with asserted := [] } } := by
  unfold releaseSources
  simp only [hg]
  exact if_pos ⟨hh, rfl⟩

theorem resetSourceRelease_none {src : ResetSource} (h : s.rst.asserted.contains src = false) : resetSourceRelease src s = s :=
  if_pos (by rw [h]; rfl)

theorem resetSourceRelease_last {src : ResetSource} (hh : s.rst.seq = .held) (ha : s.rst.asserted = [src]) (hs : src = .corePor ∨ src = .pinExt) :
    resetSourceRelease src s = startStretch { s with rst := { s.rst with asserted := [] } } := by
  have hlast : releaseSources s (· == src) = startStretch { s with rst := { s.rst with asserted := [] } } :=
    releaseSources_last hh (by simp [ha])
  unfold resetSourceRelease
  rw [if_neg (by simp [ha])]
  rcases hs with rfl | rfl
  · exact hlast
  · exact hlast

/-- The drive of a source that has ended, at an instant. -/
def driveOver (s : State) (t : Nat) : State :=
  ({ s.advanceTo t with rst := { (s.advanceTo t).rst with driveEnd := none } }).emit (.pinRstN ((s.advanceTo t).rst.asserted.contains .thermal))

theorem driveOver_clk (t : Nat) : (driveOver s t).clk = s.clk + (t - s.clk) := rfl
theorem driveOver_quires (t : Nat) : (driveOver s t).quires = s.quires := rfl
theorem driveOver_rst (t : Nat) : (driveOver s t).rst = { s.rst with driveEnd := none } := rfl

theorem selfDriveEnd_none (h : s.rst.driveEnd = none) : selfDriveEnd s = s := by
  unfold selfDriveEnd
  simp only [h]

theorem selfDriveEnd_some {t : Nat} (h : s.rst.driveEnd = some t) :
    selfDriveEnd s = releaseSources (driveOver s t) fun x => x == .watchdog || x == .selfReset := by
  unfold selfDriveEnd
  simp only [h]
  rfl

/-! ### The stretch (R396, R397) -/

theorem fuseLoad_loadDone (s : State) (ok : Bool) : (fuseLoad s ok).rst.loadDone = true := by
  unfold fuseLoad
  extract_lets
  exact congrArg Rst.loadDone (foldl_keeps (π := State.rst) _ (fun t n _ => (marginalEvent_frame ..).rst.resolve_left (by decide)) _)

theorem fuseLoadDone_idle {ok : Bool} (h : s.rst.seq ≠ .stretch ∨ s.rst.loadDone = true) : fuseLoadDone ok s = s :=
  if_neg (by rcases h with h | h <;> simp [h])

theorem fuseLoadDone_loads {ok : Bool} (h : s.rst.seq = .stretch) (hl : s.rst.loadDone = false) : fuseLoadDone ok s =
    fuseLoad (s.draw.advanceTo (s.rst.stretchAt + Config.freeDelay s.draws % (350 * usPh + 1))) ok :=
  if_pos (by simp [h, hl])

/-- The drive is released and the pin looked at, at an instant. -/
def pinLooked (s : State) (t : Nat) : State := ((s.advanceTo t).emit (.pinRstN false)).advance usPh

theorem pinLooked_clk (t : Nat) : (pinLooked s t).clk = s.clk + (t - s.clk) + usPh := rfl
theorem pinLooked_rst (t : Nat) : (pinLooked s t).rst = s.rst := rfl
theorem pinLooked_rest (t : Nat) : { pinLooked s t with clk := s.clk, tb := s.tb, out := s.out } = s := rfl

/-- The boot begins with the straps as sampled. -/
def bootBegins (t : State) (straps : BitVec 5) (testEn : Bool) : State :=
  { t with rst := { t.rst with
    seq := .boot, count := sat32 t.rst.count 1, straps := straps, pins := straps, testEn := testEn, t1 := t.clk, bootAt := t.clk,
    stage := if bits straps.toNat 3 2 = 2 then 1 else 0, source := straps.setWidth 2, shut := false } }

theorem bootBegins_rest (t : State) (straps : BitVec 5) (testEn : Bool) (r : Rst) (clk tb : Nat) (out : List Out) :
    { bootBegins t straps testEn with rst := r, clk := clk, tb := tb, out := out } = { t with rst := r, clk := clk, tb := tb, out := out } := rfl

theorem stretchEnd_idle {high te : Bool} {straps : BitVec 5} (h : s.rst.seq ≠ .stretch ∨ s.rst.loadDone = false) :
    stretchEnd high straps te s = s :=
  if_neg (by rcases h with h | h <;> simp [h])

theorem stretchEnd_high {te : Bool} {straps : BitVec 5} (h : s.rst.seq = .stretch) (hl : s.rst.loadDone = true) :
    stretchEnd true straps te s = bootBegins (pinLooked s (s.rst.stretchAt + 200 * usPh)) straps te :=
  if_pos ⟨h, hl⟩

theorem stretchEnd_low {te : Bool} {straps : BitVec 5} (h : s.rst.seq = .stretch) (hl : s.rst.loadDone = true) :
    stretchEnd false straps te s = cleared (noteSource (pinLooked s (s.rst.stretchAt + 200 * usPh)) .pinExt causeExt) false :=
  if_pos ⟨h, hl⟩

theorem cleared_rst (s : State) : (cleared s false).rst = s.rst.afterReset := by simp only [cleared]

/-! ### Clocks and the ROM (R399 to R404) -/

theorem spnuClockLock_locks (h : s.rst.seq = .boot) (hc : s.clkFromSpine = true) (hr : s.isRoot = false) (hl : s.rst.spnuLocked = false) :
    spnuClockLock s = { s with rst := { s.rst with spnuLocked := true, bootAt := s.clk } } := if_pos (by simp [h, hc, hr, hl])

theorem spnuClockLock_idle (h : s.rst.seq ≠ .boot ∨ s.clkFromSpine = false ∨ s.isRoot = true ∨ s.rst.spnuLocked = true) : spnuClockLock s = s :=
  if_neg (by rcases h with h | h | h | h <;> simp [h])

theorem bootImage_pllLocked (s : State) (n : Nat) (img : Bytes) : (bootImage s n img).rst.pllLocked = s.rst.pllLocked := by
  have h : (s.setFwSlot n { st := .running, image := img }).rst = s.rst := (State.setFwSlot_frame ..).rst.resolve_left (by decide)
  exact (congrArg Rst.pllLocked h :)

theorem tryBoot_pllLocked (r : Option BootRec) : ∀ (l : List (Nat × Bool)) (s : State), (tryBoot s r l).rst.pllLocked = s.rst.pllLocked
  | [], _ => rfl
  | (n, a) :: l, s => by
    unfold tryBoot
    extract_lets f st t
    split
    · exact bootImage_pllLocked s n _
    · exact tryBoot_pllLocked r l _

theorem bootFlash_pllLocked (s : State) : (bootFlash s).rst.pllLocked = s.rst.pllLocked := by
  unfold bootFlash
  refine (tryBoot_pllLocked ..).trans ?_
  split <;> rfl

theorem bootBySource_pllLocked (s : State) : (bootBySource s).rst.pllLocked = s.rst.pllLocked := by
  unfold bootBySource
  extract_lets b
  split
  · rfl
  · split
    · exact bootFlash_pllLocked s
    · split <;> rfl

/-- Every island has left reset, at an instant. -/
def pllsUp (s : State) (t : Nat) : State :=
  { s.advanceTo t with
    rst := { (s.advanceTo t).rst with pllLocked := true, stage := 0 },
    th := { (s.advanceTo t).th with roundAt := (s.advanceTo t).clk + (s.advanceTo t).th.round * 64 * usPh, demandAt := (s.advanceTo t).clk },
    press := { (s.advanceTo t).press with spdAt := (s.advanceTo t).clk, psAt := (s.advanceTo t).clk, psLast := none },
    sp := { (s.advanceTo t).sp with u := { (s.advanceTo t).sp.u with link := if (s.advanceTo t).isRoot then .disabled else (s.advanceTo t).sp.u.link } } }

/-- What the lock of the PLLs leaves, whatever the ROM does next. -/
structure PllsUp (s t : State) (n : Nat) : Prop where
  locked : t.rst.pllLocked = true
  clk : t.clk = s.clk + (n - s.clk)
  quires : t.quires = s.quires
  demandAt : t.th.demandAt = t.clk
  spdAt : t.press.spdAt = t.clk
  psAt : t.press.psAt = t.clk
  psLast : t.press.psLast = none

theorem pllsUp_up (s : State) (n : Nat) : PllsUp s (pllsUp s n) n := ⟨rfl, rfl, rfl, rfl, rfl, rfl, rfl⟩

theorem pllsUp_rst (n : Nat) : (pllsUp s n).rst = { s.rst with pllLocked := true, stage := 0 } := rfl

theorem pllsUp_mgt (n : Nat) : (pllsUp s n).mgt = s.mgt := rfl

/-- The ROM keeps what the lock has left. -/
theorem PllsUp.boots {t : State} {n : Nat} (h : PllsUp s t n) (k : Fin 8) (kind : Nat) (d : Bytes) : PllsUp s (bootBySource (measure t k kind d)) n := by
  have hf := bootBySource_frame (measure t k kind d)
  have hclk : (bootBySource (measure t k kind d)).clk = t.clk := hf.clk.resolve_left (by decide)
  have hth : (bootBySource (measure t k kind d)).th = t.th := hf.th.resolve_left (by decide)
  have hpress : (bootBySource (measure t k kind d)).press = t.press := hf.press.resolve_left (by decide)
  have hquires : (bootBySource (measure t k kind d)).quires = t.quires := hf.quires.resolve_left (by decide)
  refine ⟨(bootBySource_pllLocked _).trans h.locked, hclk.trans h.clk, hquires.trans h.quires, ?_, ?_, ?_, ?_⟩
  · rw [hth, hclk, h.demandAt]
  · rw [hpress, hclk, h.spdAt]
  · rw [hpress, hclk, h.psAt]
  · rw [hpress, h.psLast]

theorem pllLock_idle (h : s.rst.seq ≠ .boot ∨ s.rst.pllLocked = true ∨ s.rst.spnuLocked = false ∧ s.clkFromSpine = true) : pllLock s = s :=
  if_neg (by
    rcases h with h | h | h
    · simp [h]
    · simp [h]
    · simp [h.1, h.2])

theorem pllLock_locks (h : s.rst.seq = .boot) (hp : s.rst.pllLocked = false) (hc : s.rst.spnuLocked = true ∨ s.clkFromSpine = false) :
    pllLock s = if (pllsUp s (s.rst.bootAt + 100 * usPh)).rst.testEn then pllsUp s (s.rst.bootAt + 100 * usPh)
      else bootBySource (measure (pllsUp s (s.rst.bootAt + 100 * usPh)) 0 1 (sha384 (romRecord (pllsUp s (s.rst.bootAt + 100 * usPh))))) :=
  if_pos (by simpa [h, hp] using hc)

/-! ### Main firmware (R400) -/

theorem mainFirmwareReady_idle (h : s.rst.seq ≠ .boot ∨ s.rst.stage ≠ 3 ∨ s.rst.testEn = true) : mainFirmwareReady s = s :=
  if_neg fun ⟨hb, hs, ht⟩ => by
    rcases h with h | h | h
    · exact h hb
    · exact h hs
    · simp [h] at ht

/-- The block is READY, and the host has not been told of a fault yet. -/
def nowReady (m : State) : State :=
  { m with
    rst := { m.rst with seq := .ready, stage := 5 },
    page := if m.th.cold then m.page else { m.page with st := .training },
    bg := { m.bg with telAt := m.clk, passStart := .replicate 12 m.clk } }

theorem mainFirmwareReady_readies (h : s.rst.seq = .boot) (hs : s.rst.stage = 3) (ht : s.rst.testEn = false) :
    ∃ m, Frame [.mgt] s m ∧ mainFirmwareReady s = faultEdge (nowReady m) := by
  unfold mainFirmwareReady
  rw [if_pos (by simp [h, hs, ht])]
  refine ⟨_, ?_, rfl⟩
  exact ((measure_frame ..).trans (measure_frame ..)).trans (measure_frame ..)

end

/-- Settles O48: each step of the sequencer in its turn, and nothing out of it. -/
theorem releaseAndBoot : Obligations.ReleaseAndBoot := by
  unfold Obligations.ReleaseAndBoot
  intro s
  refine ⟨rfl, ?_, ?_, ?_, ?_, ?_, ?_, ?_, ?_, ?_, ?_, ?_, ?_, ?_, ?_⟩
  · exact fun src h => exec_of rfl (resetSourceRelease_none h)
  · exact fun src hh ha hs => exec_of rfl (resetSourceRelease_last hh ha hs)
  · intro hd ha hh
    obtain ⟨t, ht⟩ := Option.ne_none_iff_exists'.1 hd
    have hleft : (driveOver s t).rst.asserted.filter (fun x => !(x == .watchdog || x == .selfReset)) = [] := by
      rw [driveOver_rst]
      rcases ha with ha | ha <;> simp [ha]
    have hlast := (selfDriveEnd_some ht).trans (releaseSources_last (s := driveOver s t) hh hleft)
    refine ⟨_, exec_of rfl hlast, rfl, rfl, rfl, rfl, ?_, driveOver_quires t⟩
    rw [ht]
    show s.clk + (t - s.clk) = max s.clk t
    omega
  · exact fun h => exec_of rfl (selfDriveEnd_none h)
  · intro ok h hl
    have hframe := fuseLoad_frame (s.draw.advanceTo (s.rst.stretchAt + Config.freeDelay s.draws % (350 * usPh + 1))) ok
    have hclk := (hframe.clk.resolve_left (by decide)).trans (advanceTo_clk ..)
    have hdraw : s.draw.clk = s.clk := rfl
    have hmod : Config.freeDelay s.draws % (350 * usPh + 1) < 350 * usPh + 1 := Nat.mod_lt _ (Nat.succ_pos _)
    have hmax : 350 * usPh + 1 = 1400001 := rfl
    refine ⟨_, exec_of rfl (fuseLoadDone_loads h hl), fuseLoad_loadDone .., ?_, ?_, hframe.quires.resolve_left (by decide)⟩
    · rw [hclk, hdraw]
      omega
    · rw [hclk, hdraw]
      omega
  · exact fun ok h => exec_of rfl (fuseLoadDone_idle h)
  · intro straps te h hl
    constructor
    · refine ⟨_, exec_of rfl (stretchEnd_high h hl), rfl, rfl, rfl, rfl, ?_, rfl, ?_⟩
      · show s.clk + (s.rst.stretchAt + 200 * usPh - s.clk) + usPh = _
        simp only [usPh]
        omega
      · exact (bootBegins_rest ..).trans (pinLooked_rest _)
    · refine ⟨_, exec_of rfl (stretchEnd_low h hl), ?_, ?_, ?_⟩
      · rw [cleared_rst]
        rfl
      · rw [cleared_rst]
        exact noteSource_asserts (pinLooked s (s.rst.stretchAt + 200 * usPh)) .pinExt causeExt
      · rw [cleared_rst]
        rfl
  · exact fun high straps te h => exec_of rfl (stretchEnd_idle h)
  · exact fun h hc hr hl => exec_of rfl (spnuClockLock_locks h hc hr hl)
  · exact fun h => exec_of rfl (spnuClockLock_idle h)
  · intro h hp hc
    have hclk : ∀ n, n = s.rst.bootAt + 100 * usPh → s.clk + (n - s.clk) = max s.clk (s.rst.bootAt + 400000) := by
      rintro _ rfl
      rw [usPh]
      omega
    by_cases ht : s.rst.testEn = true
    · have hup := pllsUp_up s (s.rst.bootAt + 100 * usPh)
      refine ⟨_, exec_of rfl ((pllLock_locks h hp hc).trans (if_pos ht)), hup.locked, hup.clk.trans (hclk _ rfl), hup.quires, hup.demandAt, hup.spdAt,
        hup.psAt, hup.psLast, fun _ => ⟨?_, ?_, pllsUp_mgt _⟩⟩
      · rw [pllsUp_rst]
        exact h
      · rw [pllsUp_rst]
    · have hup := (pllsUp_up s (s.rst.bootAt + 100 * usPh)).boots 0 1 (sha384 (romRecord (pllsUp s (s.rst.bootAt + 100 * usPh))))
      exact ⟨_, exec_of rfl ((pllLock_locks h hp hc).trans (if_neg ht)), hup.locked, hup.clk.trans (hclk _ rfl), hup.quires, hup.demandAt, hup.spdAt,
        hup.psAt, hup.psLast, fun e => absurd e ht⟩
  · exact fun h => exec_of rfl (pllLock_idle h)
  · intro h hs ht
    obtain ⟨m, hm, hready⟩ := mainFirmwareReady_readies h hs ht
    have hf := faultEdge_frame (nowReady m)
    have hrst : (faultEdge (nowReady m)).rst = (nowReady m).rst := hf.rst.resolve_left (by decide)
    refine ⟨_, exec_of rfl hready, ?_, ?_, ?_, ?_, ?_, ?_⟩
    · rw [hrst]; rfl
    · rw [hrst]; rfl
    · rw [hf.page.resolve_left (by decide)]
      show (if m.th.cold then m.page else { m.page with st := .training }).st = _
      rw [hm.th.resolve_left (by decide), hm.page.resolve_left (by decide)]
      split <;> rfl
    · rw [hf.bg.resolve_left (by decide)]
      exact hm.clk.resolve_left (by decide)
    · exact (hf.clk.resolve_left (by decide)).trans (hm.clk.resolve_left (by decide))
    · exact (hf.quires.resolve_left (by decide)).trans (hm.quires.resolve_left (by decide))
  · exact fun h => exec_of rfl (mainFirmwareReady_idle h)

end Sys2Proof.Machine
end

section
/-! PROOFS. The housekeeping round (09_thermal_supply.md R257) and the supplies (R274 to R277): O49. What follows a round counts none:
whatever touches the thermal block after the count leaves the count and the first-round mark alone. -/

set_option Elab.async false

namespace Sys2Proof.Machine

/-- The round count and the mark of the first round. -/
def Thermal.rounds (t : Thermal) : U32 × Bool := (t.roundCount, t.firstRound)

/-- From `s` to `t` no round is counted. -/
structure RoundsKept (s t : State) : Prop where
  rounds : t.th.rounds = s.th.rounds

namespace RoundsKept
variable {s t u : State}

theorem refl (s : State) : RoundsKept s s := ⟨rfl⟩

theorem trans (h : RoundsKept s t) (g : RoundsKept t u) : RoundsKept s u := ⟨g.rounds.trans h.rounds⟩

theorem after (g : RoundsKept t u) (h : t.th.rounds = s.th.rounds) : RoundsKept s u := trans ⟨h⟩ g

theorem of_th (h : t.th = s.th) : RoundsKept s t := ⟨congrArg Thermal.rounds h⟩

theorem of_frame {l : List Part} (h : Frame l s t) (hl : ¬ Part.th.among l = true := by decide) : RoundsKept s t := .of_th (h.th.resolve_left hl)

theorem foldl {α : Type} {f : State → α → State} (h : ∀ t a, RoundsKept t (f t a)) :
    ∀ (l : List α) (s : State), RoundsKept s (l.foldl f s)
  | [], s => refl s
  | a :: l, s => (h s a).trans (foldl h l (f s a))

theorem forAll {n : Nat} {f : State → Fin n → State} (h : ∀ t a, RoundsKept t (f t a)) (s : State) : RoundsKept s (forAll s f) :=
  foldl (f := f) h (idx n) s

end RoundsKept

section
variable (s : State) (p : Fin 32) (i : Nat) (t thr : Int)

/-! ### Thermal events and the ends of a head's thermal states -/

theorem thermEvent_rounds (code sev : Nat) (port : Option (Fin 32)) (phase kind : Nat) (line : Int) :
    RoundsKept s (thermEvent s code sev port i t thr phase kind line) := by
  unfold thermEvent
  extract_lets th s1 d
  have h1 : RoundsKept s s1 := ⟨rfl⟩
  split
  · exact (h1.trans (.of_frame (setPwEvent_frame ..))).trans (.of_frame (raise_frame ..))
  · exact h1.trans (.of_frame (raise_frame ..))

theorem modPort_rounds (f : Port → Port) : RoundsKept s (s.modPort p f) := .of_th rfl

theorem emit_rounds (o : Out) : RoundsKept s (s.emit o) := .of_th rfl

theorem modExec_rounds (id : Nat) (f : Exec → Exec) : RoundsKept s (s.modExec id f) := .of_th rfl

theorem absDetected_rounds : RoundsKept s (absDetected s p i t thr) := by
  unfold absDetected
  extract_lets line s1 s2
  have h1 : RoundsKept s s1 := (RoundsKept.of_frame (cutBoth_frame ..)).trans (.of_frame (heaterOff_frame ..))
  have h2 : RoundsKept s s2 := h1.trans (modPort_rounds ..)
  exact (h2.trans (.of_frame (headStop_frame ..))).trans (thermEvent_rounds ..)

theorem checkAbs_rounds (high : Option (Nat × Int)) : RoundsKept s (checkAbs s p high) := by
  unfold checkAbs
  split
  · split
    · split
      · exact modPort_rounds ..
      · exact .refl s
    · split
      · exact absDetected_rounds ..
      · exact .refl s
  · exact .refl s

theorem sensorCleared_rounds : RoundsKept s (sensorCleared s p i) := by
  unfold sensorCleared
  split
  · exact (modPort_rounds s p _).trans (thermEvent_rounds ..)
  · exact .refl s

theorem endHeadEpisode_rounds : RoundsKept s (endHeadEpisode s p i t thr) := by
  unfold endHeadEpisode
  extract_lets h s1
  split
  · exact .refl s
  · have h1 : RoundsKept s s1 := by
      unfold s1
      split
      · exact (RoundsKept.of_frame (withdraw_frame ..)).trans (thermEvent_rounds ..)
      · exact .refl s
    exact (h1.trans (modPort_rounds ..)).trans (thermEvent_rounds ..)

theorem endMinjet_rounds : RoundsKept s (endMinjet s p i t thr) := by
  unfold endMinjet
  split
  · exact ((RoundsKept.of_frame (withdraw_frame ..)).trans (modPort_rounds ..)).trans (thermEvent_rounds ..)
  · exact .refl s

theorem endColdWarn_rounds : RoundsKept s (endColdWarn s p i t thr) := by
  unfold endColdWarn
  split
  · exact (modPort_rounds s p _).trans (thermEvent_rounds ..)
  · exact .refl s

theorem closeTherm_rounds : RoundsKept s (closeTherm s p) := by
  unfold closeTherm
  split
  · exact modPort_rounds ..
  · next f _ =>
    extract_lets s1 s2
    have h1 : RoundsKept s s1 := endHeadEpisode_rounds ..
    have h2 : RoundsKept s s2 := (h1.trans (endMinjet_rounds ..)).trans (endColdWarn_rounds ..)
    exact ((h2.trans (sensorCleared_rounds ..)).trans (sensorCleared_rounds ..)).trans (modPort_rounds ..)

/-! ### Head memory -/

theorem openFails_rounds (st reason : Nat) : RoundsKept s (openFails s p st reason) := by
  unfold openFails
  split
  · exact .refl s
  · have hclose : RoundsKept s (openFails.closeThermIf s p) := by
      unfold openFails.closeThermIf
      split
      · exact .refl s
      · exact closeTherm_rounds ..
    exact (hclose.trans (.of_frame (backFromOpening_frame ..))).trans (.of_frame (endExec_frame ..))

theorem identRead_rounds (d : Bytes) : RoundsKept s (identRead s p d) := by
  unfold identRead
  split
  · exact .refl s
  · extract_lets r
    split
    · exact openFails_rounds ..
    · exact ((modExec_rounds ..).trans (modPort_rounds ..)).trans (.of_frame (startTraining_frame ..))

theorem closePort_rounds : RoundsKept s (closePort s p) := by
  unfold closePort
  extract_lets s1 s2
  have h1 : RoundsKept s s1 := by
    unfold s1
    split
    · exact .of_frame (stopPort_frame ..)
    · exact .refl s
  have h2 : RoundsKept s s2 :=
    ((h1.trans (.of_frame (abortLearn_frame ..))).trans (.of_frame (heaterOff_frame ..))).trans (closeTherm_rounds ..)
  exact (((h2.trans (emit_rounds ..)).trans (modPort_rounds ..)).trans (.of_frame (portTo_frame ..))).trans (.of_frame (faultEdge_frame ..))

theorem commitReply_rounds (id : Option Nat) (st : Nat) : RoundsKept s (commitReply s p id st) := by
  unfold commitReply
  split
  · exact .refl s
  · split
    · exact .refl s
    · split
      · exact (closePort_rounds s p).trans (.of_frame (endExec_frame ..))
      · exact .of_frame (endExec_frame ..)

theorem jobOver_rounds (j : HeadJob) (st : Nat) : RoundsKept s (jobOver s p j st) := by
  unfold jobOver
  split
  case h_1 => exact .refl s
  case h_2 =>
    split
    · exact identRead_rounds ..
    · exact openFails_rounds ..
  case h_3 => exact .of_frame (lockRead_frame ..)
  case h_4 =>
    split
    · exact .of_frame (statusBlock_frame ..)
    · exact .refl s
  case h_5 =>
    split
    · exact .refl s
    · split
      · exact .of_frame (endExec_frame ..)
      · split
        · exact .of_frame (finishWrite_frame ..)
        · exact .of_frame (endExec_frame ..)
  case h_6 =>
    split
    · exact modPort_rounds ..
    · exact .refl s
  case h_7 =>
    extract_lets b s0 s1
    have h1 : RoundsKept s s1 := by
      unfold s1
      split
      · exact .of_th rfl
      · exact .of_th rfl
    exact h1.trans (commitReply_rounds ..)

theorem pump_rounds (p : Fin 32) : ∀ (n : Nat) (s : State), RoundsKept s (pump n s p)
  | 0, s => .refl s
  | n + 1, s => by
    unfold pump
    extract_lets +onlyGivenNames x
    split
    · exact .refl s
    · split
      · exact .refl s
      · split
        · split
          · exact (modPort_rounds s p _).trans (pump_rounds p n _)
          · split
            · exact .refl s
            · exact (modPort_rounds s p _).trans (pump_rounds p n _)
        · split
          · extract_lets s1
            have h1 : RoundsKept s s1 := by
              unfold s1
              split
              · split
                · exact .of_frame (prepareCommit_frame ..)
                · exact .refl s
              · exact .refl s
            split
            · exact h1.trans (.of_frame (sendPage_frame ..))
            · exact h1
          · exact ((modPort_rounds s p _).trans (jobOver_rounds ..)).trans (pump_rounds p n _)

theorem pumpHead_rounds : RoundsKept s (pumpHead s p) := pump_rounds ..

/-! ### Sensors -/

theorem sensorFails_rounds (cause : Nat) : RoundsKept s (sensorFails s p i cause t) :=
  (modPort_rounds s p _).trans (thermEvent_rounds ..)

theorem takeReading_rounds (r : Reading) : RoundsKept s (takeReading s p i r) := by
  unfold takeReading
  extract_lets y set
  split
  · exact modPort_rounds ..
  · exact modPort_rounds ..
  · split
    · exact modPort_rounds ..
    · split
      · exact sensorFails_rounds ..
      · exact modPort_rounds ..

theorem crossCheck_rounds (v : State) (r : Reading) : RoundsKept s (crossCheck v s p i r) := by
  unfold crossCheck
  extract_lets ns faulty
  split
  · exact modPort_rounds ..
  · split
    · exact modPort_rounds ..
    · split
      · exact .refl s
      · exact sensorFails_rounds ..
    · extract_lets ok
      split
      · exact (sensorCleared_rounds s p i).trans (modPort_rounds ..)
      · split
        · exact sensorFails_rounds ..
        · exact .refl s

theorem sensorRound_rounds (rd : HkRound) : RoundsKept s (sensorRound s rd) := by
  unfold sensorRound
  extract_lets checked open_ s1 s2
  have h1 : RoundsKept s s1 := .foldl (fun _ _ => .foldl (fun _ _ => takeReading_rounds ..) ..) ..
  have h2 : RoundsKept s s2 := h1.trans (.foldl (fun _ _ => .of_frame (substitute_frame ..)) ..)
  refine h2.trans (.foldl (fun t p => ?_) ..)
  exact (modPort_rounds t p _).trans (.foldl (fun _ _ => crossCheck_rounds ..) ..)

/-! ### Limits of the heads and of the die -/

theorem checkLimit_rounds (f : Profile) (high : Option (Nat × Int)) (lost : Bool) : RoundsKept s (checkLimit s p f high lost) := by
  unfold checkLimit
  extract_lets h hot below line s1 who
  split
  · have h1 : RoundsKept s s1 := (modPort_rounds s p _).trans (.of_frame (heaterOff_frame ..))
    exact (h1.trans (.of_frame (headStop_frame ..))).trans (thermEvent_rounds ..)
  · exact modPort_rounds ..

theorem checkWarn_rounds (f : Profile) (high : Option (Nat × Int)) (lost : Bool) : RoundsKept s (checkWarn s p f high lost) := by
  unfold checkWarn
  extract_lets +onlyGivenNames decided who warm cool s1
  have h1 : RoundsKept s s1 := by
    unfold s1
    split
    · split
      · exact (modPort_rounds s p _).trans (thermEvent_rounds ..)
      · exact .refl s
    · split
      · exact endHeadEpisode_rounds ..
      · exact modPort_rounds ..
  split
  · split
    · extract_lets line s2
      have h2 : RoundsKept s s2 := h1.trans (.of_frame (request_frame ..))
      exact ((h2.trans (modPort_rounds ..)).trans (.of_frame (heaterOff_frame ..))).trans (thermEvent_rounds ..)
    · exact h1
  · exact h1

theorem checkCold_rounds (f : Profile) (low : Option (Nat × Int)) : RoundsKept s (checkCold s p f low) := by
  unfold checkCold
  split
  · exact .refl s
  · next i t =>
    extract_lets s1 line s2
    have h1 : RoundsKept s s1 := by
      unfold s1
      split
      · split
        · exact endColdWarn_rounds ..
        · exact .refl s
      · split
        · exact (modPort_rounds s p _).trans (thermEvent_rounds ..)
        · exact .refl s
    split
    · split
      · exact h1.trans (endMinjet_rounds ..)
      · exact h1
    · split
      · have h2 : RoundsKept s s2 := h1.trans (.of_frame (request_frame ..))
        exact (h2.trans (modPort_rounds ..)).trans (thermEvent_rounds ..)
      · exact h1

theorem headLimits_rounds : RoundsKept s (headLimits s p) := by
  unfold headLimits
  extract_lets x vs high lost
  split
  · exact .refl s
  · next f _ =>
    split
    · exact .refl s
    · exact ((((checkAbs_rounds s p high).trans (checkLimit_rounds _ p f high lost)).trans (checkWarn_rounds _ p f high lost)).trans
        (checkCold_rounds ..)).trans (.of_frame (warmTime_frame ..))

theorem dieWarnCheck_rounds : RoundsKept s (dieWarnCheck s i t) := by
  unfold dieWarnCheck
  split
  · split
    · extract_lets v
      exact (thermEvent_rounds ..).after rfl
    · exact .refl s
  · split
    · extract_lets s1
      have h1 : RoundsKept s s1 := by
        unfold s1
        split
        · exact thermEvent_rounds ..
        · exact .refl s
      exact h1.trans ((thermEvent_rounds ..).after rfl)
    · exact .refl s

theorem dieEnforceCheck_rounds : RoundsKept s (dieEnforceCheck s i t) := by
  unfold dieEnforceCheck
  split
  · extract_lets g
    split
    · exact (thermEvent_rounds ..).after rfl
    · exact .refl s
  · exact .refl s

theorem dieLimitCheck_rounds : RoundsKept s (dieLimitCheck s i t) := by
  unfold dieLimitCheck
  split
  · split
    · exact (RoundsKept.of_frame (faultEdge_frame ..)).after rfl
    · exact .refl s
  · split
    · extract_lets line th s1 s2
      have h1 : RoundsKept s s1 := by
        refine .trans (.trans ((RoundsKept.of_frame (stopAll_frame _ 13)).after ?_) (.of_frame (faultEdge_frame _)))
          (.of_frame (evtStop_frame _ 1 13))
        rfl
      have h2 : RoundsKept s1 s2 := by
        refine .forAll (fun u p => ?_) s1
        split
        · exact .refl u
        · exact (RoundsKept.of_frame (addCommit_frame u p none)).trans (pumpHead_rounds ..)
      exact (h1.trans h2).trans (thermEvent_rounds ..)
    · exact .refl s

theorem dieColdCheck_rounds : RoundsKept s (dieColdCheck s i t) := by
  unfold dieColdCheck
  extract_lets th s1
  split
  · split
    · split
      · exact ⟨rfl⟩
      · exact ⟨rfl⟩
    · exact .refl s
  · split
    · exact (thermEvent_rounds ..).after rfl
    · exact .refl s

theorem dieLimits_rounds : RoundsKept s (dieLimits s) := by
  unfold dieLimits
  split
  · exact .refl s
  · exact (((dieWarnCheck_rounds ..).trans (dieEnforceCheck_rounds ..)).trans (dieLimitCheck_rounds ..)).trans (dieColdCheck_rounds ..)

/-! ### The rest of a round -/

theorem demandRound_rounds : RoundsKept s (demandRound s) := by
  unfold demandRound
  extract_lets d
  exact (RoundsKept.of_frame (updateDemand_frame ..)).after rfl

theorem supplyCheck_rounds (c : Fin 20) : RoundsKept s (supplyCheck s c) := by
  unfold supplyCheck
  extract_lets mv w high outside flag run th s1
  have h1 : RoundsKept s s1 := ⟨rfl⟩
  split
  · exact h1.trans ((RoundsKept.of_frame (supplyEvent_frame ..)).after rfl)
  · split
    · exact h1.trans ((RoundsKept.of_frame (supplyEvent_frame ..)).after rfl)
    · exact h1

theorem statusReads_rounds : RoundsKept s (statusReads s) := by
  unfold statusReads
  refine .forAll (fun t p => ?_) s
  extract_lets x
  split
  · exact (RoundsKept.of_frame (addJob_frame ..)).trans (pumpHead_rounds ..)
  · exact .refl t

theorem suspendEdge_rounds : RoundsKept s (suspendEdge s) := by
  unfold suspendEdge
  split
  · exact ⟨rfl⟩
  · extract_lets d
    exact (RoundsKept.forAll pumpHead_rounds _).after rfl
  · exact .refl s
  · exact .refl s

end

/-- A round is counted once, and it is the last first round. -/
theorem hkRound_counts (s : State) (rd : HkRound) (h : s.rst.pllLocked = true) :
    (hkRound rd s).th.rounds = (s.th.roundCount + 1, false) := by
  unfold hkRound
  rw [if_neg (by simp [h])]
  extract_lets t aux vdd th s' s1 th' s2 s3
  have ht : t.th = s.th := advanceTo_th ..
  clear_value t aux vdd
  have hs : s'.th.rounds = (t.th.roundCount + 1, t.th.firstRound) := rfl
  have h1 : RoundsKept s' s1 := (sensorRound_rounds s' rd).trans (.forAll (fun _ _ => .of_frame (entriesFollow_frame ..)) _)
  have hcount : s1.th.rounds = (s.th.roundCount + 1, s.th.firstRound) := by
    rw [h1.rounds, hs, ht]
  clear_value s1
  have h2 : s2.th.rounds = (s.th.roundCount + 1, false) := by
    refine ((RoundsKept.forAll headLimits_rounds _).trans (dieLimits_rounds _)).rounds.trans ?_
    exact Prod.ext (congrArg Prod.fst hcount :) rfl
  have h3 : RoundsKept s2 s3 := (demandRound_rounds s2).trans (.forAll (fun _ _ => .of_frame (heaterRound_frame ..)) _)
  have hend := ((((h3.trans (.forAll supplyCheck_rounds s3)).trans (statusReads_rounds _)).trans
    (.of_frame (selfTests_frame t _))).trans (suspendEdge_rounds _)).trans (.of_frame (hkCalibrate_frame _))
  exact hend.rounds.trans h2

/-! ### Write-safe -/

section
variable {s : State} {before : Bool} {who mv : Nat}

theorem writeSafeEdge_same (h : s.inReset = true ∨ before = s.writeSafe) : writeSafeEdge before s who mv = s := by
  unfold writeSafeEdge
  rw [if_pos (by simpa using h)]

theorem writeSafeEdge_fall (hr : s.inReset = false) (hs : s.writeSafe = false) : writeSafeEdge true s who mv = writeSafeFall s who mv := by
  unfold writeSafeEdge
  rw [if_neg (by simp [hr, hs]), if_pos rfl]

theorem writeSafeEdge_rise (hr : s.inReset = false) (hs : s.writeSafe = true) : writeSafeEdge false s who mv = writeSafeRise s who mv := by
  unfold writeSafeEdge
  rw [if_neg (by simp [hr, hs]), if_neg (by simp)]

/-- The fall itself, before what it cuts: it is counted, marked and reported. -/
def fallNoted (s : State) (who mv : Nat) : State :=
  supplyEvent { s with th := { s.th with wsLowCount := sat32 s.th.wsLowCount 1, event := s.th.event ||| 0x20 } } 0 who mv 0 (operationCut s)

/-- With no operation under way a fall of WRITE_SAFE cuts nothing. -/
theorem writeSafeFall_idle (ho : s.otp.job = none) (hf : s.flash.job = none) (hh : ∀ p, (s.port p).hm = []) :
    writeSafeFall s who mv = fallNoted s who mv := by
  have hframe := supplyEvent_frame { s with th := { s.th with wsLowCount := sat32 s.th.wsLowCount 1, event := s.th.event ||| 0x20 } } 0 who mv 0
    (operationCut s)
  have hotp : (fallNoted s who mv).otp = s.otp := hframe.otp.resolve_left (by decide)
  have hflash : (fallNoted s who mv).flash = s.flash := hframe.flash.resolve_left (by decide)
  have hports : (fallNoted s who mv).ports = s.ports := hframe.ports.resolve_left (by decide)
  have hcut : otpSupplyLow (fallNoted s who mv) = fallNoted s who mv := by
    unfold otpSupplyLow
    simp only [hotp, ho]
  unfold writeSafeFall
  extract_lets cut th s1 s2 fl s3
  have h2 : s2 = fallNoted s who mv := hcut
  have h3 : s3 = fallNoted s who mv := by
    unfold s3
    rw [h2, if_neg (by simp [hflash, hf])]
  rw [h3]
  exact forAll_fixed fun p => pumpHead_none ((congrArg (fun v => (look v p).hm) hports).trans (hh p))

end

/-- Settles O49: the count of a round passes every later change of the thermal block (`RoundsKept`); the comparators are cases on whether
WRITE_SAFE changes. -/
theorem temperatureAndSupply : Obligations.TemperatureAndSupply := by
  unfold Obligations.TemperatureAndSupply
  intro s low
  refine ⟨?_, ?_, ?_, ?_, ?_, ?_, ?_⟩
  · intro rd h
    refine exec_of rfl ?_
    unfold hkRound
    rw [if_pos (by simp [h])]
  · intro rd h
    have hc := hkRound_counts s rd h
    exact ⟨_, exec_of rfl rfl, congrArg Prod.fst hc, congrArg Prod.snd hc⟩
  · rintro high mv rfl
    exact exec_of rfl (writeSafeEdge_same (.inr rfl))
  · intro mv hr hw hv ho hf hm
    have hsafe : (setComparator s .vdd false).writeSafe = false := rfl
    have hh : ∀ p, (s.port p).hm = [] := fun p => eq_of_beq (List.all_eq_true.1 hm p (List.mem_finRange p))
    have hfall : writeSafeChange .vdd false mv s = fallNoted (setComparator s .vdd false) 0 mv := by
      unfold writeSafeChange
      rw [hw, writeSafeEdge_fall (s := setComparator s .vdd false) hr hsafe, writeSafeFall_idle (s := setComparator s .vdd false) ho hf hh]
      rfl
    have hframe := supplyEvent_frame { setComparator s .vdd false with th := { (setComparator s .vdd false).th with
      wsLowCount := sat32 s.th.wsLowCount 1, event := s.th.event ||| 0x20 } } 0 0 mv 0 (operationCut (setComparator s .vdd false))
    have hth := hframe.th.resolve_left (by decide)
    exact ⟨_, exec_of rfl hfall, ⟨congrArg Thermal.wsLowCount hth, congrArg Thermal.event hth⟩, congrArg Thermal.wsVdd hth,
      hframe.otp.resolve_left (by decide), hframe.flash.resolve_left (by decide), hframe.quires.resolve_left (by decide), raise_events ..⟩
  · intro mv hr hv hio hvpp
    have hunsafe : s.writeSafe = false := by simp [State.writeSafe, hv]
    have hsafe : (setComparator s .vdd true).writeSafe = true := by
      show (true && s.th.wsVddio && (!s.th.vppPresent || s.th.wsVpp)) = true
      simpa [hio] using hvpp
    have hrise : writeSafeChange .vdd true mv s = writeSafeRise (setComparator s .vdd true) 0 mv := by
      unfold writeSafeChange
      rw [hunsafe, writeSafeEdge_rise (s := setComparator s .vdd true) hr hsafe]
      rfl
    have hframe := supplyEvent_frame { setComparator s .vdd true with flash := { (setComparator s .vdd true).flash with pausedAt := none } } 0 0 mv 1 0
    have hth := hframe.th.resolve_left (by decide)
    exact ⟨_, exec_of rfl hrise, (congrArg Thermal.wsVdd hth :), hframe.flash.resolve_left (by decide), (congrArg Thermal.wsLowCount hth :),
      hframe.quires.resolve_left (by decide), hframe.ports.resolve_left (by decide)⟩
  · intro high mv h
    refine exec_of rfl (writeSafeEdge_same (h.imp id fun h => ?_))
    show (s.th.wsVdd && s.th.wsVddio && (!s.th.vppPresent || s.th.wsVpp)) = (s.th.wsVdd && s.th.wsVddio && (!s.th.vppPresent || high))
    rcases h with h | h | h <;> simp [h]
  · intro present h
    refine exec_of rfl (writeSafeEdge_same (h.imp id fun h => ?_))
    show (s.th.wsVdd && s.th.wsVddio && (!s.th.vppPresent || s.th.wsVpp)) = (s.th.wsVdd && s.th.wsVddio && (!present || s.th.wsVpp))
    rcases h with h | h | h <;> simp [h]
end Sys2Proof.Machine
end

section
/-! PROOFS. Spine links (10_spine.md R284, R285, R291, R296): O50. What events, completions and MGT cells leave of the spine's own state
(`SpineKept`), and what a link that leaves UP takes with it. -/

set_option Elab.async false

namespace Sys2Proof.Machine

/-! ### Ports of the spine -/

section
variable (s : State) (p o : SpPort) (f g : Yobor → Yobor)

@[simp] theorem modYobor_self : (s.modYobor p f).yobor p = f (s.yobor p) := by cases p <;> rfl

theorem modYobor_ne (h : o ≠ p) : (s.modYobor p f).yobor o = s.yobor o := by
  match p, o with
  | .u, .u | .a, .a | .b, .b => exact absurd rfl h
  | .u, .a | .u, .b | .a, .u | .a, .b | .b, .u | .b, .a => rfl

theorem modYobor_modYobor : (s.modYobor p f).modYobor p g = s.modYobor p fun y => g (f y) := by cases p <;> rfl

@[simp] theorem modYobor_clk : (s.modYobor p f).clk = s.clk := by cases p <;> rfl
@[simp] theorem modYobor_tb : (s.modYobor p f).tb = s.tb := by cases p <;> rfl
@[simp] theorem modYobor_out : (s.modYobor p f).out = s.out := by cases p <;> rfl
@[simp] theorem modYobor_spr : (s.modYobor p f).spr = s.spr := by cases p <;> rfl
@[simp] theorem modYobor_ports : (s.modYobor p f).ports = s.ports := by cases p <;> rfl
@[simp] theorem modYobor_quires : (s.modYobor p f).quires = s.quires := by cases p <;> rfl
@[simp] theorem modYobor_src : (s.modYobor p f).src = s.src := by cases p <;> rfl
@[simp] theorem modYobor_st : (s.modYobor p f).sp.st = s.sp.st := by cases p <;> rfl
@[simp] theorem modYobor_nodeId : (s.modYobor p f).sp.nodeId = s.sp.nodeId := by cases p <;> rfl
@[simp] theorem modYobor_enum : (s.modYobor p f).sp.enum = s.sp.enum := by cases p <;> rfl
@[simp] theorem modYobor_isRoot : (s.modYobor p f).isRoot = s.isRoot := by cases p <;> rfl

/-- A port that changes as it is changes nothing. -/
theorem modYobor_id (h : f (s.yobor p) = s.yobor p) : s.modYobor p f = s := by
  cases p
  · exact congrArg (fun y => ({ s with sp := { s.sp with u := y } } : State)) h
  · exact congrArg (fun y => ({ s with sp := { s.sp with a := y } } : State)) h
  · exact congrArg (fun y => ({ s with sp := { s.sp with b := y } } : State)) h

end

/-! ### What events and completions leave of the spine -/

/-- A port without what the MGT cells on it change. -/
def Yobor.calm (y : Yobor) : Yobor := { y with mgtHeld := 0, xoff := false, mgtOut := [] }

/-- The spine's state without what MGT cells change. -/
def Spine.calm (x : Spine) : Spine := { x with u := x.u.calm, a := x.a.calm, b := x.b.calm }

/-- The spine interface without its sequence numbers, demands, broadcasts and what it has told of FAULT_N. -/
def SpineRun.calm (r : SpineRun) : SpineRun :=
  { r with seqs := .replicate 6 0, subtree := 0, own := 0, limiter := 0, reason := 0, faultSent := false, bcasts := [], postureDem := 0 }

/-- From `s` to `t` the spine changes by cells sent, completions and demands at most. -/
structure SpineKept (s t : State) : Prop where
  sp : t.sp.calm = s.sp.calm
  spr : t.spr.calm = s.spr.calm

namespace SpineKept
variable {s t u : State}

theorem refl (s : State) : SpineKept s s := ⟨rfl, rfl⟩

theorem trans (h : SpineKept s t) (g : SpineKept t u) : SpineKept s u := ⟨g.sp.trans h.sp, g.spr.trans h.spr⟩

theorem of_same (h : t.sp = s.sp) (g : t.spr = s.spr) : SpineKept s t := ⟨congrArg Spine.calm h, congrArg SpineRun.calm g⟩

theorem after (g : SpineKept t u) (h : t.sp.calm = s.sp.calm) (h' : t.spr.calm = s.spr.calm) : SpineKept s u := trans ⟨h, h'⟩ g

theorem of_frame {l : List Part} (h : Frame l s t) (hl : ¬ Part.sp.among l = true := by decide) (hr : ¬ Part.spr.among l = true := by decide) :
    SpineKept s t := .of_same (h.sp.resolve_left hl) (h.spr.resolve_left hr)

theorem modYobor (s : State) (p : SpPort) {f : Yobor → Yobor} (h : ∀ y, (f y).calm = y.calm) : SpineKept s (s.modYobor p f) := by
  cases p
  · exact ⟨congrArg (fun y => ({ s.sp.calm with u := y } : Spine)) (h s.sp.u), rfl⟩
  · exact ⟨congrArg (fun y => ({ s.sp.calm with a := y } : Spine)) (h s.sp.a), rfl⟩
  · exact ⟨congrArg (fun y => ({ s.sp.calm with b := y } : Spine)) (h s.sp.b), rfl⟩

theorem emit (s : State) (o : Out) : SpineKept s (s.emit o) := ⟨rfl, rfl⟩

theorem foldl {α : Type} {f : State → α → State} (h : ∀ t a, SpineKept t (f t a)) :
    ∀ (l : List α) (s : State), SpineKept s (l.foldl f s)
  | [], s => refl s
  | a :: l, s => (h s a).trans (foldl h l (f s a))

theorem forAll {n : Nat} {f : State → Fin n → State} (h : ∀ t a, SpineKept t (f t a)) (s : State) : SpineKept s (forAll s f) :=
  foldl (f := f) h (idx n) s

theorem yobor (h : SpineKept s t) (p : SpPort) : (t.yobor p).calm = (s.yobor p).calm := by
  cases p
  · exact (congrArg Spine.u h.sp :)
  · exact (congrArg Spine.a h.sp :)
  · exact (congrArg Spine.b h.sp :)

theorem link (h : SpineKept s t) (p : SpPort) : (t.yobor p).link = (s.yobor p).link := (congrArg Yobor.link (h.yobor p) :)
theorem event (h : SpineKept s t) : t.spr.event = s.spr.event := (congrArg SpineRun.event h.spr :)
theorem st (h : SpineKept s t) : t.sp.st = s.sp.st := (congrArg Spine.st h.sp :)
theorem enum (h : SpineKept s t) : t.sp.enum = s.sp.enum := (congrArg Spine.enum h.sp :)
theorem nodeId (h : SpineKept s t) : t.sp.nodeId = s.sp.nodeId := (congrArg Spine.nodeId h.sp :)

end SpineKept

section
variable (s : State)

theorem takeSeq_spine (typ : Fin 6) : SpineKept s (takeSeq s typ).1 := ⟨rfl, rfl⟩

theorem putCell_spine (sp : SpPort) (mgt : Bool) (c : Cell) : SpineKept s (putCell s sp mgt c) := by
  unfold putCell
  split
  · exact .modYobor s sp fun _ => rfl
  · exact .emit ..

theorem sendOne_spine (sp : SpPort) (typ : Fin 6) (dst : Nat) (payload : Bytes) : SpineKept s (sendOne s sp typ dst payload) :=
  (takeSeq_spine s typ).trans (putCell_spine ..)

theorem sendLink_spine (sp : SpPort) (typ : Fin 6) (payload : Bytes) : SpineKept s (sendLink s sp typ payload) :=
  (takeSeq_spine s typ).trans (.emit ..)

theorem flood_spine (typ : Fin 6) (payload : Bytes) : SpineKept s (flood s typ payload) := by
  refine (takeSeq_spine s typ).trans (.foldl (fun t sp => ?_) ..)
  split
  · exact .emit ..
  · exact .refl t

theorem mgtSegs_spine (sp : SpPort) (dst kind ttag : Nat) : ∀ (fuel n : Nat) (s : State) (bs : Bytes),
    SpineKept s (mgtSegs fuel n s sp dst kind ttag bs)
  | 0, _, s, _ => .refl s
  | fuel + 1, n, s, bs => by
    unfold mgtSegs
    split
    · exact .refl s
    · exact (sendOne_spine ..).trans (mgtSegs_spine sp dst kind ttag fuel (n + 1) _ _)

theorem sendMgt_spine (dst kind ttag : Nat) (bs : Bytes) : SpineKept s (sendMgt s dst kind ttag bs) := by
  unfold sendMgt
  split
  · exact .refl s
  · split
    · exact .refl s
    · split
      · exact .refl s
      · exact mgtSegs_spine ..

theorem raise_spine (code kind index sev : Nat) (data : Bytes) : SpineKept s (raise s code kind index sev data) := by
  unfold raise
  extract_lets e cnt s1 s2
  have h2 : SpineKept s s2 := (SpineKept.of_frame (writeEvent_frame s1 code sev e)).after rfl rfl
  split
  · exact h2.trans (sendMgt_spine ..)
  · exact h2

theorem faultEdge_spine : SpineKept s (faultEdge s) := by
  unfold faultEdge
  extract_lets now spr s1
  split
  · exact .refl s
  · have h1 : SpineKept s s1 := ⟨rfl, rfl⟩
    split
    · exact h1
    · exact h1.trans (flood_spine ..)

theorem updateDemand_spine : SpineKept s (updateDemand s) := ⟨rfl, rfl⟩

/-- A cell on one port leaves the others alone. -/
theorem sendOne_others {sp o : SpPort} (h : o ≠ sp) (typ : Fin 6) (dst : Nat) (payload : Bytes) :
    (sendOne s sp typ dst payload).yobor o = s.yobor o := by
  have hput : ∀ (t : State) (c : Cell), (putCell t sp (decide (typ = 4)) c).yobor o = t.yobor o := fun t c => by
    unfold putCell
    split
    · exact modYobor_ne _ _ _ _ h
    · rfl
  exact hput (takeSeq s typ).1 _

/-- A port whose link is not UP sends no MGT message. -/
theorem mgtSegs_others {sp o : SpPort} (h : o ≠ sp) (dst kind ttag : Nat) : ∀ (fuel n : Nat) (s : State) (bs : Bytes),
    (mgtSegs fuel n s sp dst kind ttag bs).yobor o = s.yobor o
  | 0, _, _, _ => rfl
  | fuel + 1, n, s, bs => by
    unfold mgtSegs
    split
    · rfl
    · rw [mgtSegs_others h dst kind ttag fuel]
      exact sendOne_others s h ..

theorem sendMgt_idle {o : SpPort} (h : (s.yobor o).link ≠ .up) (dst kind ttag : Nat) (bs : Bytes) :
    (sendMgt s dst kind ttag bs).yobor o = s.yobor o := by
  unfold sendMgt
  split
  · rfl
  · split
    · rfl
    · next sp _ =>
      split
      · rfl
      · next hup => exact mgtSegs_others (fun e : o = sp => h (e ▸ not_not.1 hup)) dst kind ttag _ _ _ _

/-- An event leaves a port as it is whose link is not UP. -/
theorem raise_idle {o : SpPort} (h : (s.yobor o).link ≠ .up) (code kind index sev : Nat) (data : Bytes) :
    (raise s code kind index sev data).yobor o = s.yobor o := by
  unfold raise
  extract_lets e cnt s1 s2
  have h2 : s2.sp = s.sp := (writeEvent_frame s1 code sev e).sp.resolve_left (by decide)
  have hy : s2.yobor o = s.yobor o := congrArg (fun x => ({ s with sp := x } : State).yobor o) h2
  split
  · rw [sendMgt_idle s2 (hy ▸ h), hy]
  · exact hy

/-- A cell sent on one link is one output, and takes the next number of its type. -/
theorem sendLink_out (sp : SpPort) (typ : Fin 6) (payload : Bytes) : (sendLink s sp typ payload).out.length = s.out.length + 1 := rfl

theorem sendLink_seq (sp : SpPort) (typ : Fin 6) (payload : Bytes) :
    look (sendLink s sp typ payload).spr.seqs typ = look s.spr.seqs typ + 1 :=
  look_upd_self s.spr.seqs typ _

/-! ### Cells that may act -/

end

section
variable {s : State} {sp : SpPort} {c : Cell} {typ : Nat} {act : State → State}

theorem cellActs_bad (h : cellGood c = false) : cellActs s sp c typ act = s.modYobor sp fun y => { y with crcErrs := sat32 y.crcErrs 1 } := by
  unfold cellActs
  rw [if_pos (by simp [h])]

theorem cellActs_good (h : cellGood c = true) (ht : cellAt c 0 1 = 0xA0 + typ) (hs : spoken c = true) : cellActs s sp c typ act = act s := by
  unfold cellActs
  rw [if_neg (by simp [h]), if_neg (by simp [ht, hs])]

theorem cellIn_down (h : (s.yobor sp).link ≠ .up) : cellIn s sp c typ act = s := if_neg h

theorem cellIn_good (hl : (s.yobor sp).link = .up) (h : cellGood c = true) (ht : cellAt c 0 1 = 0xA0 + typ) (hs : spoken c = true) :
    cellIn s sp c typ act = act s := (if_pos hl).trans (cellActs_good h ht hs)

end

/-! ### Flow control (R285) -/

/-- A port without its count of held cells and the XOFF it has sent. -/
def Yobor.unheld (y : Yobor) : Yobor := { y with mgtHeld := 0, xoff := false }

section
variable (s : State)

theorem modYobor_unheld (p o : SpPort) {f : Yobor → Yobor} (h : ∀ y, (f y).unheld = y.unheld) :
    ((s.modYobor p f).yobor o).unheld = (s.yobor o).unheld := by
  by_cases ho : o = p
  · subst ho
    rw [modYobor_self, h]
  · rw [modYobor_ne _ _ _ _ ho]

/-- A cell that leaves a buffer changes counts and XOFF alone, and takes no output back. -/
theorem mgtRelease_unheld (from_ : Option SpPort) (o : SpPort) :
    ((mgtRelease s from_).yobor o).unheld = (s.yobor o).unheld ∧ s.out.length ≤ (mgtRelease s from_).out.length := by
  unfold mgtRelease
  split
  · exact ⟨rfl, le_rfl⟩
  · next sp =>
    extract_lets s1
    have h1 : (s1.yobor o).unheld = (s.yobor o).unheld := modYobor_unheld s sp o fun _ => rfl
    have hout : s1.out = s.out := modYobor_out ..
    split
    · refine ⟨(modYobor_unheld s1 sp o (f := fun y => { y with xoff := false }) fun _ => rfl).trans h1, ?_⟩
      show s.out.length ≤ (s1.modYobor sp _).out.length + 1
      rw [modYobor_out, hout]
      exact Nat.le_succ _
    · exact ⟨h1, hout ▸ le_rfl⟩

theorem mgtRelease_spine (from_ : Option SpPort) : SpineKept s (mgtRelease s from_) := by
  unfold mgtRelease
  split
  · exact .refl s
  · next sp =>
    extract_lets s1
    have h1 : SpineKept s s1 := .modYobor s sp fun _ => rfl
    split
    · exact (h1.trans (.modYobor s1 sp (f := fun y => { y with xoff := false }) fun _ => rfl)).trans (.emit ..)
    · exact h1

theorem mgtDrop_spine (sp : SpPort) : SpineKept s (mgtDrop s sp) :=
  (SpineKept.modYobor s sp (f := fun y => { y with mgtOut := [] }) fun _ => rfl).trans (.foldl (fun _ _ => mgtRelease_spine ..) ..)

theorem releases_unheld (o : SpPort) : ∀ (l : List (Option SpPort × Cell)) (s : State),
    ((l.foldl (fun t e => mgtRelease t e.1) s).yobor o).unheld = (s.yobor o).unheld
  | [], _ => rfl
  | e :: l, s => (releases_unheld o l _).trans (mgtRelease_unheld s e.1 o).1

/-- The cells that waited on a port are gone. -/
theorem mgtDrop_empties (sp : SpPort) : ((mgtDrop s sp).yobor sp).mgtOut = [] := by
  have h := releases_unheld sp (s.yobor sp).mgtOut (s.modYobor sp fun y => { y with mgtOut := [] })
  rw [modYobor_self] at h
  exact (congrArg Yobor.mgtOut h :)

/-- Cells that leave on XON: each is one output at least. -/
theorem leaves_unheld (sp o : SpPort) : ∀ (l : List (Option SpPort × Cell)) (s : State),
    ((l.foldl (fun t e => mgtRelease (t.emit (.cell sp e.2)) e.1) s).yobor o).unheld = (s.yobor o).unheld ∧
      s.out.length + l.length ≤ (l.foldl (fun t e => mgtRelease (t.emit (.cell sp e.2)) e.1) s).out.length
  | [], _ => ⟨rfl, le_rfl⟩
  | e :: l, s => by
    obtain ⟨h1, h2⟩ := leaves_unheld sp o l (mgtRelease (s.emit (.cell sp e.2)) e.1)
    obtain ⟨g1, g2⟩ := mgtRelease_unheld (s.emit (.cell sp e.2)) e.1 o
    refine ⟨h1.trans g1, le_trans ?_ h2⟩
    have hlen : (s.emit (.cell sp e.2)).out.length = s.out.length + 1 := rfl
    rw [List.length_cons]
    omega

end

/-! ### A link that leaves UP (R284, R310) -/

section
variable (s : State) (sp : SpPort) (new : SpLink) (cause : Nat)

theorem toAlone_run : (toAlone s).spr.calm = s.spr.calm := by
  have h : (mgtDrop (mgtDrop (mgtDrop s .u) .a) .b).spr = s.spr :=
    (((mgtDrop_frame ..).spr.resolve_left (by decide)).trans ((mgtDrop_frame ..).spr.resolve_left (by decide))).trans
      ((mgtDrop_frame ..).spr.resolve_left (by decide))
  exact (updateDemand_spine _).spr.trans (congrArg SpineRun.calm h)

/-- The up port that is lost leaves the interface's own state, and an enumeration as it was or none. -/
theorem upLost_run : (upLost s).spr.calm = s.spr.calm ∧ ((upLost s).sp.enum = s.sp.enum ∨ (upLost s).sp.enum = none) := by
  unfold upLost
  split
  · split
    · exact ⟨rfl, .inl rfl⟩
    · exact ⟨toAlone_run s, .inr rfl⟩
  · split
    · exact ⟨rfl, .inl rfl⟩
    · exact ⟨rfl, .inl rfl⟩
  · split
    · exact ⟨rfl, .inl rfl⟩
    · exact ⟨rfl, .inl rfl⟩
  · exact ⟨rfl, .inl rfl⟩
  · exact ⟨rfl, .inl rfl⟩

/-- A child that is lost, before demand and FAULT_N follow. -/
def childGone (s : State) (sp : SpPort) : State :=
  let s1 := s.modYobor sp fun z => { z with childLost := true }
  { s1 with spr := { s1.spr with
    faultSet := s1.spr.faultSet.filter fun i => !(decide ((s.yobor sp).lo ≤ i ∧ i ≤ (s.yobor sp).hi)) } }

theorem downLost_kept : SpineKept (childGone s sp) (downLost s sp) := (updateDemand_spine _).trans (faultEdge_spine _)

theorem childGone_yobor : (childGone s sp).yobor sp = { s.yobor sp with childLost := true } := modYobor_self ..

/-- Demand and FAULT_N leave the ports of the spine as they are. -/
theorem downLost_sp : (downLost s sp).sp = (childGone s sp).sp :=
  (congrArg State.sp (show downLost s sp = faultEdge (updateDemand (childGone s sp)) from rfl)).trans
    (((faultEdge_frame ..).sp.resolve_left (by decide)).trans ((updateDemand_frame ..).sp.resolve_left (by decide)))

theorem childGone_event : (childGone s sp).spr.event = s.spr.event := by
  unfold childGone
  extract_lets s1
  exact (congrArg SpineRun.event (modYobor_spr s sp fun z => { z with childLost := true }) :)

/-- The link's new state is taken, what waits on it is dropped, and the loss is marked and reported. -/
def linkLeft (s : State) (sp : SpPort) (new : SpLink) (cause : Nat) : State :=
  raise (spnEvent (mgtDrop (s.modYobor sp fun y => { y with link := new }) sp) 1) evSpineLinkDown kDevice 0 3
    ([BitVec.ofNat 8 (spIndex sp), BitVec.ofNat 8 new.code, BitVec.ofNat 8 cause, 0] ++ le 2 (s.yobor sp).peer ++ [0, 0] ++ le 8 s.ns)

variable {s sp} in
theorem leaveUp_up (h : (s.yobor sp).link = .up) :
    leaveUp s sp new cause = if sp = .u then upLost (linkLeft s sp new cause) else downLost (linkLeft s sp new cause) sp :=
  if_neg (not_not.2 h)

variable {s sp} in
theorem leaveUp_other (h : (s.yobor sp).link ≠ .up) : leaveUp s sp new cause = s.modYobor sp fun y => { y with link := new } := if_pos h

theorem linkLeft_spine : (linkLeft s sp new cause).sp.calm = (s.modYobor sp fun y => { y with link := new }).sp.calm :=
  (raise_spine ..).sp.trans (mgtDrop_spine ..).sp

theorem linkLeft_event : (linkLeft s sp new cause).spr.event = s.spr.event ||| 1 := by
  unfold linkLeft
  rw [(raise_spine ..).event]
  show (mgtDrop _ sp).spr.event ||| 1 = s.spr.event ||| 1
  rw [(mgtDrop_frame ..).spr.resolve_left (by decide), modYobor_spr]

/-- A port that has left UP and does not hold UP again carries no MGT cell. -/
theorem linkLeft_mgtOut (h : new ≠ .up) : ((linkLeft s sp new cause).yobor sp).mgtOut = [] := by
  have hlink : ((spnEvent (mgtDrop (s.modYobor sp fun y => { y with link := new }) sp) 1).yobor sp).link = new := by
    refine ((mgtDrop_spine (s.modYobor sp fun y => { y with link := new }) sp).link sp).trans ?_
    rw [modYobor_self]
  unfold linkLeft
  rw [raise_idle _ (hlink.trans_ne h)]
  exact mgtDrop_empties ..

theorem linkLeft_link : ((linkLeft s sp new cause).yobor sp).link = new := by
  have h := (SpineKept.mk (linkLeft_spine s sp new cause) rfl : SpineKept
    { s.modYobor sp (fun y => { y with link := new }) with spr := (linkLeft s sp new cause).spr } (linkLeft s sp new cause)).link sp
  refine h.trans ?_
  cases sp <;> rfl

end

/-- The event bit and the enumeration after a link has left UP. -/
theorem leaveUp_event {s : State} {sp : SpPort} (new : SpLink) (cause : Nat) (h : (s.yobor sp).link = .up) :
    (leaveUp s sp new cause).spr.event = s.spr.event ||| 1 ∧
      ((leaveUp s sp new cause).sp.enum = s.sp.enum ∨ (leaveUp s sp new cause).sp.enum = none) := by
  have hev := linkLeft_event s sp new cause
  have hen : (linkLeft s sp new cause).sp.enum = s.sp.enum := (congrArg Spine.enum (linkLeft_spine s sp new cause) :).trans (modYobor_enum ..)
  rw [leaveUp_up new cause h]
  split
  · obtain ⟨hrun, henum⟩ := upLost_run (linkLeft s sp new cause)
    exact ⟨(congrArg SpineRun.event hrun :).trans hev, henum.imp (·.trans hen) id⟩
  · have hk := downLost_kept (linkLeft s sp new cause) sp
    exact ⟨(hk.event.trans (childGone_event ..)).trans hev, .inl ((hk.enum.trans (modYobor_enum ..)).trans hen)⟩

/-- A down port that leaves UP takes its child with it. -/
theorem leaveUp_child {s : State} {sp : SpPort} {new : SpLink} (cause : Nat) (h : (s.yobor sp).link = .up) (hsp : sp ≠ .u) (hn : new ≠ .up) :
    ((leaveUp s sp new cause).yobor sp).link = new ∧ ((leaveUp s sp new cause).yobor sp).childLost = true ∧
      ((leaveUp s sp new cause).yobor sp).mgtOut = [] ∧ (leaveUp s sp new cause).sp.st = s.sp.st := by
  rw [leaveUp_up new cause h, if_neg hsp]
  have hy : (downLost (linkLeft s sp new cause) sp).yobor sp = { (linkLeft s sp new cause).yobor sp with childLost := true } := by
    refine Eq.trans ?_ (childGone_yobor (linkLeft s sp new cause) sp)
    exact congrArg (fun x => ({ s with sp := x } : State).yobor sp) (downLost_sp (linkLeft s sp new cause) sp)
  rw [hy]
  refine ⟨linkLeft_link .., rfl, linkLeft_mgtOut _ _ _ _ hn, ?_⟩
  rw [downLost_sp]
  exact ((modYobor_st ..).trans (congrArg Spine.st (linkLeft_spine s sp new cause) :)).trans (modYobor_st ..)

/-! ### O50 -/

/-- Time runs on to an instant unless that has passed. -/
theorem advanceTo_max (s : State) (u : Nat) : (s.advanceTo u).clk = max s.clk u := add_tsub_eq_max

section
variable {s s1 : State} {sp : SpPort}

theorem afterLink_up (h : (s1.yobor sp).link = .up ∨ (s.yobor sp).link ≠ .up) : afterLink s s1 sp = s1 :=
  if_neg fun g => h.elim g.2 fun n => n g.1

theorem enumOn_none {t : State} (h : s.enumOn sp = none) (he : t.sp.enum = s.sp.enum ∨ t.sp.enum = none) : t.enumOn sp = none := by
  unfold State.enumOn at h ⊢
  rcases he with he | he
  · rwa [he]
  · rw [he]

theorem afterLink_idle (h : s.enumOn sp = none) (he : s1.sp.enum = s.sp.enum ∨ s1.sp.enum = none) : afterLink s s1 sp = s1 := by
  unfold afterLink
  split
  · unfold enumTimedOut
    simp only [enumOn_none h he]
  · rfl

theorem exec_blockLockLost {errors : Bool} {new : SpLink} (hl : (s.yobor sp).locked = true)
    (hn : (if sp = .u && s.isRoot then SpLink.disabled else .down) = new) {t : State}
    (h : afterLink s ((leaveUp s sp new (if errors then 1 else 0)).modYobor sp
      fun y => { y with locked := false, paused := false, xoff := false }) sp = t) : exec (.blockLockLost sp errors) s = .next t := by
  refine exec_of rfl (Eq.trans ?_ h)
  unfold blockLockLost
  rw [if_neg (by simp [hl]), hn]

/-- A good HELLO on a locked port, with its fields in place. -/
theorem helloRx_taken {c : Cell} {blocks : Nat} (hl : (s.yobor sp).locked = true) (hg : cellGood c = true) (ht : cellAt c 0 1 = 165)
    (hs : spoken c = true) (hk : cellAt c 8 1 = 0) (hlink : (s.yobor sp).link = .training) :
    helloRx sp c blocks s = if blocks < 1024 then s.modYobor sp (fun y =>
        { y with lastHello := s.clk, peer := cellAt c 12 2 % 4096, peerUid := BitVec.ofNat 96 (cellAt c 16 12) })
      else s.modYobor sp fun y => { y with
        link := if rolesFit sp c then .up else .disabled,
        lastHello := s.clk, peer := cellAt c 12 2 % 4096, peerUid := BitVec.ofNat 96 (cellAt c 16 12) } := by
  unfold helloRx
  rw [if_neg (by simp [hl]), cellActs_good hg ht hs, if_neg (not_not.2 hk)]
  simp only [hlink]
  split
  · rfl
  · split
    · exact modYobor_modYobor ..
    · exact modYobor_modYobor ..


/-- A peer has been silent until an instant: the port trains again. -/
def peerGone (s : State) (sp : SpPort) (u : Nat) : State := (leaveUp (s.advanceTo u) sp .training 4).modYobor sp Yobor.train

/-- What a silent peer leaves. -/
theorem peerGone_trains (u : Nat) (h : (s.yobor sp).link = .up) :
    (peerGone s sp u).yobor sp = ((leaveUp (s.advanceTo u) sp .training 4).yobor sp).train ∧
      (peerGone s sp u).spr.event = s.spr.event ||| 1 ∧
      ((peerGone s sp u).sp.enum = s.sp.enum ∨ (peerGone s sp u).sp.enum = none) ∧
      (peerGone s sp u).clk = max s.clk u ∧ (peerGone s sp u).ports = s.ports := by
  have hup : ((s.advanceTo u).yobor sp).link = .up := h
  obtain ⟨hev, henum⟩ := leaveUp_event .training 4 hup
  have hframe := leaveUp_frame (s.advanceTo u) sp .training 4
  unfold peerGone
  rw [modYobor_self, modYobor_spr, modYobor_enum, modYobor_clk, modYobor_ports, hframe.clk.resolve_left (by decide), advanceTo_max]
  exact ⟨rfl, hev, henum, rfl, hframe.ports.resolve_left (by decide)⟩

theorem peerSilent_up (h : (s.yobor sp).link = .up) : peerSilent sp s = peerGone s sp ((s.yobor sp).lastHello + msPh) := by
  unfold peerSilent peerGone
  rw [if_neg (not_not.2 h)]

/-- The body of a HELLO. -/
def helloBody (s : State) (sp : SpPort) : Bytes :=
  [0, BitVec.ofNat 8 (spIndex sp), 0x32, BitVec.ofNat 8 (bitAt s.isRoot 0)] ++ le 2 s.sp.nodeId ++ le 2 s.partPorts ++ s.uid

/-- A HELLO leaves at an instant. -/
def helloSent (s : State) (sp : SpPort) (u : Nat) : State :=
  sendLink ((s.advanceTo u).modYobor sp fun y => { y with lastHelloTx := (s.advanceTo u).clk }) sp 5 (helloBody (s.advanceTo u) sp)

theorem helloTx_sends (h : (s.yobor sp).link ≠ .down) : helloTx sp s = helloSent s sp ((s.yobor sp).lastHelloTx + 100 * usPh) := by
  unfold helloTx
  rw [if_neg h]
  rfl

end

/-- Settles O50: a port's own change is one `modYobor`; what leaving UP takes along is a lemma for the up port and one for a down port. -/
theorem spineLinksTrain : Obligations.SpineLinksTrain := by
  unfold Obligations.SpineLinksTrain
  intro s sp y
  refine ⟨?_, ?_, ?_, ?_, ?_, ?_, ?_, ?_, ?_, ?_, ?_, ?_, ?_, ?_, ?_, ?_, ?_, ?_, ?_, ?_⟩
  · exact fun h => exec_of rfl (if_pos (by simpa using h))
  · intro hi hl hr
    refine exec_of rfl ((if_neg (by simp [hi, hl, y])).trans (if_neg ?_))
    rcases hr with hr | hr <;> simp [hr]
  · rintro hi hl hr rfl
    exact exec_of rfl ((if_neg (by simp [hi, hl, y])).trans (if_pos (by simp [hr])))
  · intro errors hl
    refine exec_of rfl ?_
    have hsame : blockLockLost sp errors s = s := if_pos (by simp [hl, y])
    rw [hsame]
    exact ite_eq_right_iff.2 fun h => absurd h.1 h.2
  · intro errors hl hne
    refine exec_blockLockLost hl rfl ?_
    rw [afterLink_up (.inr hne), leaveUp_other _ _ hne, modYobor_modYobor]
  · intro errors hl hup hsp hen
    have hdown : (if sp = .u && s.isRoot then SpLink.disabled else .down) = .down := if_neg (by simp [hsp])
    obtain ⟨hlink, hchild, hout, hst⟩ := leaveUp_child (if errors then 1 else 0) hup hsp (new := .down) (by decide)
    obtain ⟨hev, henum⟩ := leaveUp_event .down (if errors then 1 else 0) hup
    have hframe := leaveUp_frame s sp .down (if errors then 1 else 0)
    rw [← modYobor_enum _ sp fun y => { y with locked := false, paused := false, xoff := false }] at henum
    refine ⟨_, exec_blockLockLost hl hdown (afterLink_idle hen henum), ?_, ?_, ?_, ?_, ?_, ?_, ?_, ?_, ?_⟩
    · rw [modYobor_self]
      exact hlink
    · rw [modYobor_self]
    · rw [modYobor_self]
      exact hchild
    · rw [modYobor_self]
      exact hout
    · rw [modYobor_spr]
      exact hev
    · rw [modYobor_st]
      exact hst
    · rw [modYobor_clk]
      exact hframe.clk.resolve_left (by decide)
    · rw [modYobor_ports]
      exact hframe.ports.resolve_left (by decide)
    · rw [modYobor_quires]
      exact hframe.quires.resolve_left (by decide)
  · intro hne
    have hsame : peerSilent sp s = s := if_pos hne
    exact exec_of rfl ((congrArg (fun t => afterLink s t sp) hsame).trans (afterLink_up (.inr hne)))
  · intro hup hen
    obtain ⟨hy, hev, henum, hclk, hports⟩ := peerGone_trains ((s.yobor sp).lastHello + msPh) hup
    have hsilent := peerSilent_up hup
    exact ⟨_, exec_of rfl ((congrArg (fun t => afterLink s t sp) hsilent).trans (afterLink_idle hen henum)), (congrArg Yobor.link hy :),
      (congrArg Yobor.locked hy :), (congrArg Yobor.reqs hy :), (congrArg Yobor.delays hy :), hev, hclk, hports⟩
  · exact fun h => exec_of rfl (if_pos h)
  · intro h
    have hsend := helloTx_sends h
    generalize hu : (s.yobor sp).lastHelloTx + 100 * usPh = u at hsend
    have hsp : Frame _ _ (helloSent s sp u) := sendLink_frame ((s.advanceTo u).modYobor sp fun y => { y with lastHelloTx := (s.advanceTo u).clk }) sp 5 _
    have hy : ∀ t : State, t.sp = ((s.advanceTo u).modYobor sp fun y => { y with lastHelloTx := (s.advanceTo u).clk }).sp →
        t.yobor sp = { s.yobor sp with lastHelloTx := (s.advanceTo u).clk } := fun t e =>
      (congrArg (fun x => ({ s with sp := x } : State).yobor sp) e).trans (modYobor_self (s.advanceTo u) sp _)
    have hy' := hy _ (hsp.sp.resolve_left (by decide))
    have hclk := hsp.clk.resolve_left (by decide)
    rw [modYobor_clk] at hclk
    refine ⟨_, exec_of rfl hsend, ?_, ?_, ?_, ?_, ?_, ?_, ?_, ?_⟩
    · rw [hclk, advanceTo_max, ← hu, usPh]
    · rw [hy', hclk]
    · refine (sendLink_out ..).trans ?_
      rw [modYobor_out]
      rfl
    · rw [hy']
    · refine (sendLink_seq ..).trans ?_
      rw [modYobor_spr]
      rfl
    · rw [hsp.ports.resolve_left (by decide), modYobor_ports]
      rfl
    · rw [hsp.quires.resolve_left (by decide), modYobor_quires]
      rfl
    · rw [hsp.src.resolve_left (by decide), modYobor_src]
      rfl
  · intro cell blocks hl
    have hsame : helloRx sp cell blocks s = s := if_pos (by simp [hl, y])
    refine exec_of rfl ((congrArg (fun t => afterLink s t sp) hsame).trans ?_)
    exact ite_eq_right_iff.2 fun h => absurd h.1 h.2
  · intro cell blocks hl hbad
    have hrx : helloRx sp cell blocks s = s.modYobor sp fun z => { z with crcErrs := sat32 z.crcErrs 1 } :=
      (if_neg (by simp [hl, y])).trans (cellActs_bad hbad)
    refine exec_of rfl ((congrArg (fun t => afterLink s t sp) hrx).trans (if_neg fun h => h.2 ?_))
    rw [modYobor_self]
    exact h.1
  · intro cell blocks hl hlink hb hg ht hs hk
    have hrx := (helloRx_taken (blocks := blocks) hl hg ht hs hk hlink).trans (if_pos hb)
    exact exec_of rfl ((congrArg (fun t => afterLink s t sp) hrx).trans (afterLink_up (.inr (hlink.trans_ne (by decide)))))
  · intro cell blocks hl hlink hb hg ht hs hk hr
    have hrx := (helloRx_taken (blocks := blocks) hl hg ht hs hk hlink).trans (if_neg (not_lt.2 hb))
    simp only [hr, if_true] at hrx
    exact exec_of rfl ((congrArg (fun t => afterLink s t sp) hrx).trans (afterLink_up (.inr (hlink.trans_ne (by decide)))))
  · intro cell blocks hl hlink hb hg ht hs hk hr
    have hrx := (helloRx_taken (blocks := blocks) hl hg ht hs hk hlink).trans (if_neg (not_lt.2 hb))
    simp only [hr, Bool.false_eq_true, if_false] at hrx
    exact exec_of rfl ((congrArg (fun t => afterLink s t sp) hrx).trans (afterLink_up (.inr (hlink.trans_ne (by decide)))))
  · exact fun hl => exec_of rfl (if_pos (by simp [hl, y]))
  · exact fun hl => exec_of rfl (if_neg (by simp [hl, y]))
  · exact fun h => exec_of rfl (if_pos h)
  · exact fun h => exec_of rfl (if_neg h)
  · obtain ⟨hy, hlen⟩ := leaves_unheld sp sp (s.yobor sp).mgtOut (s.modYobor sp fun y => { y with paused := false, mgtOut := [] })
    rw [modYobor_self] at hy
    rw [modYobor_out] at hlen
    have hframe := flowXonRx_frame sp s
    exact ⟨_, exec_of rfl rfl, (congrArg Yobor.paused hy :), (congrArg Yobor.mgtOut hy :), (congrArg Yobor.link hy :), hlen,
      hframe.ports.resolve_left (by decide), hframe.spr.resolve_left (by decide), hframe.clk.resolve_left (by decide)⟩
end Sys2Proof.Machine
end

section
/-! PROOFS. Time over the spine (10_spine.md R295 to R297): O51. What completions leave of the spine; one SYNC as a correction of the
timebase, a change of state, and SPV_OP. -/

set_option Elab.async false

namespace Sys2Proof.Machine

/-! ### Completions leave the spine alone -/

section
variable (s : State)

theorem writeCpl_spine (r : Fin 64) (tag st node res : Nat) (notify : Bool) : SpineKept s (writeCpl s r tag st node res notify) :=
  .of_frame (writeCpl_frame ..)

theorem bcastAnswer_spine (h : CmdHdr) (node st res : Nat) (timedOut : Bool) : SpineKept s (bcastAnswer s h node st res timedOut) := by
  unfold bcastAnswer
  split
  · next r _ =>
    extract_lets s1
    have h1 : SpineKept s s1 := writeCpl_spine ..
    split
    · exact h1
    · extract_lets b' spr s2
      have h2 : SpineKept s s2 := h1.trans ⟨rfl, rfl⟩
      split
      · exact h2.trans (writeCpl_spine ..)
      · exact h2
  · exact .refl s
  · exact .refl s
  · exact .refl s

theorem complete_spine (h : CmdHdr) (st res : Nat) : SpineKept s (complete s h st res) := by
  unfold complete
  extract_lets s1
  have h1 : SpineKept s s1 := ⟨rfl, rfl⟩
  split
  · split
    · exact h1.trans (bcastAnswer_spine ..)
    · exact h1.trans (writeCpl_spine ..)
  · exact h1.trans (sendMgt_spine ..)
  · exact h1.trans (.emit ..)
  · exact h1

theorem endExec_spine (e : Exec) (st res : Nat) : SpineKept s (endExec s e st res) := (complete_spine ..).after rfl rfl

theorem cutExec_spine (e : Exec) : SpineKept s (cutExec s e) := by
  unfold cutExec
  extract_lets s1 s2
  have h1 : SpineKept s s1 := .of_frame (stageCut_frame ..)
  have h2 : SpineKept s s2 := by
    unfold s2
    split
    · exact h1.trans (.of_frame (undefSpan_frame ..))
    · exact h1
  exact h2.trans (endExec_spine ..)

/-- SPV_OP is set, before the commands that need SPV 3 end. -/
def spvSet (s : State) (v : Nat) : State := { s with sp := { s.sp with spvOp := v } }

theorem setSpvOp_spine (v : Nat) : SpineKept (spvSet s v) (setSpvOp s v) := by
  unfold setSpvOp
  extract_lets sp t
  split
  · exact .foldl (fun _ _ => cutExec_spine ..) ..
  · exact .refl t

end

/-! ### SYNC (R296, R297) -/

/-- The offset that a SYNC shows, in ps. -/
def syncOfs (s : State) (cell : Cell) : Int :=
  (cellAt cell 12 8 * 1000 + cellAt cell 20 2 * 1000 / 65536 + s.sp.u.delayPs : Nat) - (s.tb * 250 : Nat)

/-- SYNCs in a row within 2 ns, with this one. -/
def syncsNow (s : State) (ofs : Int) : Nat := if ofs.natAbs ≤ 2000 then s.spr.syncRun + 1 else 0

/-- The state of a node that takes a SYNC. -/
def syncState (st : SpState) (run : Nat) (ofs : Int) : SpState :=
  match st with
  | .member => if 8 ≤ run then SpState.synced else .member
  | .synced => if 4000 < ofs.natAbs then .member else .synced
  | .lost => .member
  | .joining => .joining
  | .alone => .alone

/-- An accepted SYNC, before SPV_OP. -/
def syncTaken (s : State) (ofs : Int) : State :=
  let t1 := syncCorrect s ofs
  let st := syncState s.sp.st (syncsNow s ofs) ofs
  { t1 with sp := { t1.sp with st := st },
            spr := { t1.spr with syncAt := t1.clk, syncOfsPs := ofs, syncRun := if st = .member then (if s.sp.st = .member then syncsNow s ofs else 0) else 0 } }

section
variable {s : State} {cell : Cell}

/-- A good SYNC from the parent. -/
theorem syncRx_good (hst : s.sp.st ≠ .alone) (hr : s.isRoot = false) (hl : s.sp.u.link = .up) (hg : cellGood cell = true)
    (ht : cellAt cell 0 1 = 161) (hs : spoken cell = true) (hk : cellAt cell 8 1 = 0) :
    syncRx .u cell s =
      if cellAt cell 9 1 ≠ s.sp.epoch ∧ cellAt cell 9 1 ≠ epochBefore s.sp.epoch then
        (if s.sp.st = .joining then s else toAlone (releaseRemotes s))
      else setSpvOp (syncTaken s (syncOfs s cell)) (cellAt cell 10 1 % 16) := by
  unfold syncRx
  rw [if_neg (by simp [hst, hr]), cellIn_good (sp := .u) hl hg ht hs, if_neg (not_not.2 hk)]
  rfl

/-- What an accepted SYNC leaves. -/
theorem syncRx_epoch (hst : s.sp.st ≠ .alone) (hr : s.isRoot = false) (hl : s.sp.u.link = .up) (hg : cellGood cell = true)
    (ht : cellAt cell 0 1 = 161) (hs : spoken cell = true) (hk : cellAt cell 8 1 = 0) (he : cellAt cell 9 1 = s.sp.epoch) :
    ∃ t, exec (.syncRx .u cell) s = .next t ∧ t = setSpvOp (syncTaken s (syncOfs s cell)) (cellAt cell 10 1 % 16) ∧
      t.sp.st = syncState s.sp.st (syncsNow s (syncOfs s cell)) (syncOfs s cell) ∧ t.spr.syncAt = s.clk ∧
      t.spr.syncOfsPs = syncOfs s cell ∧ t.clk = s.clk ∧ t.sp.spvOp = cellAt cell 10 1 % 16 ∧ t.sp.nodeId = s.sp.nodeId ∧
      t.ports = s.ports ∧ t.src = s.src ∧ t.quires = s.quires := by
  have hrx := (syncRx_good hst hr hl hg ht hs hk).trans (if_neg fun h => h.1 he)
  generalize syncOfs s cell = ofs at hrx
  generalize cellAt cell 10 1 % 16 = v at hrx
  have hkept := setSpvOp_spine (syncTaken s ofs) v
  have hset := setSpvOp_frame (syncTaken s ofs) v
  have hcor := syncCorrect_frame s ofs
  have hclk : (syncTaken s ofs).clk = s.clk := hcor.clk.resolve_left (by decide)
  have hsp : (syncCorrect s ofs).sp = s.sp := hcor.sp.resolve_left (by decide)
  refine ⟨_, exec_of rfl hrx, rfl, hkept.st, ?_, (congrArg SpineRun.syncOfsPs hkept.spr :), ?_, (congrArg Spine.spvOp hkept.sp :), ?_, ?_, ?_, ?_⟩
  · exact (congrArg SpineRun.syncAt hkept.spr :).trans hclk
  · exact (hset.clk.resolve_left (by decide)).trans hclk
  · exact hkept.nodeId.trans (congrArg Spine.nodeId hsp :)
  · exact (hset.ports.resolve_left (by decide)).trans (hcor.ports.resolve_left (by decide))
  · exact (hset.src.resolve_left (by decide)).trans (hcor.src.resolve_left (by decide))
  · exact (hset.quires.resolve_left (by decide)).trans (hcor.quires.resolve_left (by decide))

theorem clampI_bounds {lim : Int} (h : 0 ≤ lim) (d : Int) : -lim ≤ clampI (-lim) lim d ∧ clampI (-lim) lim d ≤ lim := by
  unfold clampI
  split
  · omega
  · split <;> omega

/-- After the first SYNC the timebase slews, where it may not step. -/
theorem syncCorrect_slews {ofs : Int} (hf : s.spr.firstSync = false) (hb : ofs.natAbs ≤ 1000000 ∨ s.remoteBusy = true) :
    (syncCorrect s ofs).spr = s.spr ∧ (syncCorrect s ofs).tb ≤ s.tb + (s.clk - s.spr.syncAt) / 10000 ∧
      s.tb ≤ (syncCorrect s ofs).tb + (s.clk - s.spr.syncAt) / 10000 := by
  have hslew : syncCorrect s ofs =
      moveTb s (clampI (-((s.clk - s.spr.syncAt) / 10000 : Nat)) ((s.clk - s.spr.syncAt) / 10000 : Nat) (roundDiv ofs 250)) := by
    unfold syncCorrect
    rw [if_neg]
    rcases hb with hb | hb
    · simp [hf, hb]
    · simp [hf, hb]
  obtain ⟨hlo, hhi⟩ := clampI_bounds (Int.natCast_nonneg ((s.clk - s.spr.syncAt) / 10000)) (roundDiv ofs 250)
  rw [hslew]
  unfold moveTb
  refine ⟨rfl, ?_, ?_⟩ <;> simp only [] <;> omega

end

/-- A node loses sync at an instant. -/
def lostAt (s : State) (u : Nat) : State := { s.advanceTo u with sp := { s.sp with st := .lost } }

theorem lostAt_rest (s : State) (u : Nat) : { lostAt s u with sp := s.sp } = s.advanceTo u := rfl

theorem lostAt_eq (s : State) (u : Nat) : (let t := s.advanceTo u; { t with sp := { t.sp with st := .lost } }) = lostAt s u := rfl

theorem syncLoss_lost {s : State} {n : Nat} (hn : msPh = n) (hr : s.isRoot = false) (h : s.sp.st = .member ∨ s.sp.st = .synced) :
    syncLoss s = lostAt s (s.spr.syncAt + n) := by
  subst hn
  have hc : (!s.isRoot && (s.sp.st == .member || s.sp.st == .synced)) = true := by rcases h with h | h <;> simp [hr, h]
  have hloss : syncLoss s = (let t := s.advanceTo (s.spr.syncAt + msPh); { t with sp := { t.sp with st := .lost } }) := if_pos hc
  exact hloss.trans (lostAt_eq s _)

section
variable (s : State)

/-- The body of a SYNC. -/
def syncBody : Bytes :=
  [0, BitVec.ofNat 8 s.sp.epoch, BitVec.ofNat 8 s.sp.spvOp, BitVec.ofNat 8 (min s.sp.depth 255)] ++ le 8 s.ns ++ le 2 (s.tb % 4 * 16384)

/-- SYNC on one down port. -/
def syncOne (body : Bytes) (t : State) (sp : SpPort) : State := if (t.yobor sp).link = .up then sendLink t sp 1 body else t

theorem syncOne_sends (body : Bytes) (sp : SpPort) :
    (syncOne body s sp).sp = s.sp ∧ (syncOne body s sp).out.length = s.out.length + bitAt ((s.yobor sp).link == .up) 0 := by
  unfold syncOne
  split
  · next h =>
    refine ⟨rfl, (sendLink_out ..).trans ?_⟩
    simp [h, bitAt]
  · next h =>
    refine ⟨rfl, ?_⟩
    simp [h, bitAt]

/-- SYNC leaves on every down port that is UP. -/
theorem sendSync_sends : (sendSync s).sp = s.sp ∧ (sendSync s).spr.syncTxAt = s.clk ∧
    (sendSync s).out.length = s.out.length + bitAt (s.sp.a.link == .up) 0 + bitAt (s.sp.b.link == .up) 0 := by
  obtain ⟨hsa, hoa⟩ := syncOne_sends s (syncBody s) .a
  obtain ⟨hsb, hob⟩ := syncOne_sends (syncOne (syncBody s) s .a) (syncBody s) .b
  refine ⟨hsb.trans hsa, rfl, hob.trans ?_⟩
  have hb : (State.yobor (syncOne (syncBody s) s .a) .b).link = s.sp.b.link := congrArg (fun x => (Spine.b x).link) hsa
  rw [hoa, hb]
  rfl

/-- A delay request leaves. -/
def reqSent (s : State) : State :=
  sendLink (s.modYobor .u fun z => { z with tseq := (s.sp.u.tseq + 1) % 256, reqAt := some s.clk, reqs := min (z.reqs + 1) 8 }) .u 1
    [1, BitVec.ofNat 8 ((s.sp.u.tseq + 1) % 256)]

end

/-- Settles O51: an accepted SYNC is a correction of the timebase (`syncTaken`) followed by SPV_OP, which ends commands at most. -/
theorem spineTimeIsKept : Obligations.SpineTimeIsKept := by
  unfold Obligations.SpineTimeIsKept
  intro s ofs
  refine ⟨?_, ?_, ?_, ?_, ?_, ?_, ?_, ?_, ?_, ?_, ?_, ?_, ?_, ?_, ?_⟩
  · exact fun h => exec_of rfl (if_pos (by simpa using h))
  · intro hi hy
    have htx : syncTx s = sendSync (s.advanceTo (s.spr.syncTxAt + 125 * usPh)) := if_neg (by simp [hi, hy])
    rw [usPh] at htx
    have hus : 125 * 4000 = 500000 := rfl
    rw [hus] at htx
    generalize s.spr.syncTxAt + 500000 = u at htx
    obtain ⟨hsp, hat, hout⟩ := sendSync_sends (s.advanceTo u)
    have hframe := sendSync_frame (s.advanceTo u)
    have hclk := hframe.clk.resolve_left (by decide)
    refine ⟨_, exec_of rfl htx, hclk.trans (advanceTo_max s u), hat.trans hclk.symm, hsp, ?_, ?_, ?_, ?_, hout⟩
    · rw [hframe.tb.resolve_left (by decide), hclk, advanceTo_clk, Nat.add_sub_cancel_left]
      rfl
    · exact hframe.ports.resolve_left (by decide)
    · exact hframe.src.resolve_left (by decide)
    · exact hframe.quires.resolve_left (by decide)
  · intro sp cell h
    refine exec_of rfl ?_
    unfold syncRx
    by_cases hl : s.sp.u.link = .up
    · exact if_pos (by simpa [hl, or_assoc] using h)
    · split
      · rfl
      · next h' =>
        have hsp : sp = .u := by
          simp at h'
          exact h'.1.1
        exact cellIn_down (hsp ▸ hl)
  · intro cell hst hr hl hg ht hs hk he he'
    have hal : s.sp.st ≠ .alone := by rcases hst with h | h | h <;> simp [h]
    have hj : s.sp.st ≠ .joining := by rcases hst with h | h | h <;> simp [h]
    have hrx := (syncRx_good hal hr hl hg ht hs hk).trans ((if_pos ⟨he, he'⟩).trans (if_neg hj))
    have hrel := releaseRemotes_frame s
    have hto := toAlone_frame (releaseRemotes s)
    exact ⟨_, exec_of rfl hrx, rfl, rfl, rfl, rfl, rfl, (hto.tb.resolve_left (by decide)).trans (hrel.tb.resolve_left (by decide)),
      (hto.ports.resolve_left (by decide)).trans (hrel.ports.resolve_left (by decide))⟩
  · intro cell hst hr hl hg ht hs hk he
    obtain ⟨t, hx, -, ht1, hat, hofs, hclk, hop, -, hports, hsrc, hq⟩ := syncRx_epoch (by simp [hst]) hr hl hg ht hs hk he
    rw [hst] at ht1
    exact ⟨t, hx, ht1, hat, hofs, hclk, hop, hports, hsrc, hq⟩
  · intro cell hst hr hl hg ht hs hk he
    obtain ⟨t, hx, -, ht1, hat, hofs, hclk, -, hid, hports, hsrc, hq⟩ := syncRx_epoch (by simp [hst]) hr hl hg ht hs hk he
    refine ⟨t, hx, hat, hofs, hclk, ht1.trans ?_, hid, hports, hsrc, hq⟩
    rw [hst]
    show (if 8 ≤ syncsNow s (ofs cell) then SpState.synced else .member) = _
    unfold syncsNow
    split
    · next h => simp [h]
    · next h => simp [h]
  · intro cell hst hr hl hg ht hs hk he hf hb
    obtain ⟨t, hx, hset, ht1, -⟩ := syncRx_epoch (by simp [hst]) hr hl hg ht hs hk he
    obtain ⟨hspr, hup, hdown⟩ := syncCorrect_slews (ofs := ofs cell) hf hb
    have htb : t.tb = (syncCorrect s (ofs cell)).tb := hset ▸ (setSpvOp_frame ..).tb.resolve_left (by decide)
    rw [hst] at ht1
    refine ⟨t, hx, ht1, htb ▸ hup, htb ▸ hdown, ?_⟩
    rw [hset, (setSpvOp_spine ..).event]
    exact (congrArg SpineRun.event hspr :)
  · intro h
    refine exec_of rfl (if_neg ?_)
    rcases h with h | ⟨h1, h2⟩
    · simp [h]
    · simp [h1, h2]
  · intro hr hst
    exact ⟨_, exec_of rfl (syncLoss_lost rfl hr hst), rfl, lostAt_rest ..⟩
  · exact fun h => exec_of rfl (if_pos h)
  · intro h
    cases ha : s.sp.u.reqAt with
    | none =>
      have htx : delayReqTx s = reqSent s := by
        unfold delayReqTx
        simp only [if_neg h, ha]
        rfl
      have hframe : Frame _ _ (reqSent s) := sendLink_frame _ _ _ _
      refine ⟨_, exec_of rfl htx, rfl, rfl, rfl, rfl, rfl, ?_⟩
      exact (Nat.max_eq_left (Nat.zero_le _)).symm
    | some u =>
      have hlater : delayReqTx s = reqSent (s.advanceTo (u + (if s.sp.u.reqs < 8 then 10 * usPh else msPh))) := by
        unfold delayReqTx
        simp only [if_neg h, ha]
        rfl
      have hus : 10 * usPh = 40000 := rfl
      have hms : msPh = 4000000 := rfl
      rw [hus, hms] at hlater
      exact ⟨_, exec_of rfl hlater, rfl, rfl, rfl, rfl, rfl, advanceTo_max s _⟩
  · exact fun sp cell turn h => exec_of rfl (if_pos h)
  · intro sp cell turn h hg ht hs hk
    have hrx : delayReqRx sp cell turn s = sendLink s sp 1 ([2, BitVec.ofNat 8 (cellAt cell 9 1), 0, 0] ++ bytesOf 4 turn) :=
      ((if_neg h).trans (cellActs_good hg ht hs)).trans (if_pos hk)
    exact ⟨_, exec_of rfl hrx, sendLink_out .., rfl, rfl, rfl, sendLink_seq ..⟩
  · intro sp cell rtt h
    refine exec_of rfl (if_pos ?_)
    by_cases hsp : sp = .u
    · subst hsp
      have hl : (s.yobor .u).link = .down := h.elim (absurd rfl) id
      rw [hl]
      rfl
    · simp [hsp]
  · intro cell rtt h hg ht hs hk hq
    have hl : ((s.yobor .u).link == SpLink.down) = false := beq_eq_false_iff_ne.2 h
    exact exec_of rfl (((if_neg (by rw [hl]; decide)).trans (cellActs_good hg ht hs)).trans (if_pos ⟨hk, hq⟩))
end Sys2Proof.Machine
end

section
/-! PROOFS. Cells of position, demand and events on the spine (10_spine.md R298 to R303, R308): O52. A STOP leaves the spine's own state
(`SpineKept`), and a position cell changes the sources that are bound to it. -/

set_option Elab.async false

namespace Sys2Proof.Machine

/-! ### A STOP leaves the spine alone -/

section
variable (s : State) (p : Fin 32)

theorem modPort_spine (f : Port → Port) : SpineKept s (s.modPort p f) := ⟨rfl, rfl⟩

theorem modQuire_spine (q : Fin 8) (f : Quire → Quire) : SpineKept s (s.modQuire q f) := ⟨rfl, rfl⟩

theorem markRaise_spine (m code kind index sev : Nat) (data : Bytes) : SpineKept s (raise (setPwEvent s p m) code kind index sev data) :=
  (SpineKept.of_frame (setPwEvent_frame ..)).trans (raise_spine ..)

theorem landHeld_spine (p : Fin 32) : ∀ (l : List HeldWrite) (s : State), SpineKept s (landHeld s p l)
  | [], s => .refl s
  | .reg off v :: l, s => (SpineKept.of_frame (applyReg_frame s p off v)).trans (landHeld_spine p l _)
  | .cmd id :: l, s => by
    unfold landHeld
    split
    · exact landHeld_spine p l s
    · next e _ =>
      have hload : SpineKept s (measureLoad (applyShadow s p e.op e.p e.data) e.op e.p e.data) :=
        (SpineKept.of_frame (applyShadow_frame ..)).trans (.of_frame (measureLoad_frame ..))
      exact (hload.trans (endExec_spine ..)).trans (landHeld_spine p l _)

theorem landAll_spine : SpineKept s (landAll s p) := by
  unfold landAll
  split
  · exact .refl s
  · split
    · exact .refl s
    · exact (modPort_spine ..).trans (landHeld_spine ..)

theorem copyShadow_spine : SpineKept s (copyShadow s p) := by
  unfold copyShadow
  split
  · exact .refl s
  · exact (modPort_spine ..).trans (landAll_spine ..)

theorem monChanged_spine (i old new verdict bad : Nat) (k : Int) : SpineKept s (monChanged s p i old new verdict bad k) := by
  unfold monChanged
  split
  · exact .refl s
  · exact (modPort_spine ..).trans (markRaise_spine ..)

theorem monReset_spine (i : Nat) (k : Int) : SpineKept s (monReset s p i k) :=
  (modPort_spine s p fun y => y.clearMon i).trans (monChanged_spine ..)

theorem planWindow_spine (bound : Int) : SpineKept s (planWindow s p bound) := by
  unfold planWindow
  extract_lets x
  split
  · exact .refl s
  · split
    · exact .refl s
    · extract_lets w short s1
      have h1 : SpineKept s s1 := modPort_spine ..
      split
      · exact h1.trans (markRaise_spine ..)
      · exact h1

theorem swapBanks_spine (g bound : Int) : SpineKept s (swapBanks s p g bound) := by
  unfold swapBanks
  split
  · exact .refl s
  · next b hb =>
    extract_lets jb needMap s0 s1 s2
    have h0 : SpineKept s s0 := by
      unfold s0
      split
      · exact ((SpineKept.of_frame (sendMap_frame s p .a)).trans (.of_frame (sendMap_frame _ p .b))).trans (modPort_spine ..)
      · exact .refl s
    have h1 : SpineKept s s1 := h0.trans (modPort_spine ..)
    have h2 : SpineKept s s2 := ((h1.trans (.foldl (fun t i => monReset_spine t p i bound) _ s1)).trans
      (.of_frame (forgetDamage_frame ..))).trans (planWindow_spine ..)
    split
    · exact h2.trans (copyShadow_spine ..)
    · exact h2

theorem swapPort_spine (g bound : Int) : SpineKept s (swapPort s p g bound) := by
  unfold swapPort
  refine SpineKept.trans ?_ (swapBanks_spine ..)
  split
  · split
    · exact copyShadow_spine ..
    · exact .refl s
  · exact .refl s

theorem commitFail_spine (m st : Nat) : SpineKept s (commitFail s m st) := by
  unfold commitFail
  extract_lets hit all kept s1
  have h1 : SpineKept s s1 := .forAll (fun t r => by
    split
    · exact (modPort_spine ..).trans (landAll_spine ..)
    · exact .refl t) s
  refine h1.trans (.foldl (fun t e => ?_) _ s1)
  split
  · exact endExec_spine ..
  · exact .refl t

theorem commitDone_spine (m : Nat) (bound : Int) : SpineKept s (commitDone s m bound) := by
  unfold commitDone
  extract_lets upd1 s1
  refine SpineKept.trans (t := s1) ⟨rfl, rfl⟩ (.foldl (fun t e => ?_) _ s1)
  split
  · exact endExec_spine ..
  · exact .refl t

theorem swapQuire_spine (q : Fin 8) (bound : Int) (stops : Bool) : SpineKept s (swapQuire s q bound stops) := by
  refine .foldl (fun t m => ?_) (s.swapSets q) s
  unfold swapSet
  extract_lets ps
  split
  · exact .refl t
  · split
    · exact commitFail_spine ..
    · have hswap : SpineKept t (ps.foldl (fun u r => swapPort u r ((t.quire q).lineG bound) bound) t) :=
        .foldl (fun u r => swapPort_spine u r _ bound) _ t
      exact hswap.trans (commitDone_spine ..)

theorem endEpisode_spine : SpineKept s (endEpisode s p) := by
  unfold endEpisode
  split
  · exact .refl s
  · extract_lets s1
    have h1 : SpineKept s s1 := modPort_spine ..
    split
    · exact h1
    · exact h1.trans (markRaise_spine ..)

theorem portTo_spine (new : PState) (cause : Nat) : SpineKept s (portTo s p new cause) := by
  unfold portTo
  extract_lets old
  split
  · exact .refl s
  · exact (modPort_spine ..).trans (markRaise_spine ..)

theorem drainPorts_spine (q : Fin 8) : SpineKept s (drainPorts s q) := by
  refine .foldl (fun t r => ?_) _ s
  split
  · exact (endEpisode_spine ..).trans (portTo_spine ..)
  · exact endEpisode_spine ..

theorem stopQuire_spine (q : Fin 8) (cause : Nat) : SpineKept s (stopQuire s q cause) := by
  unfold stopQuire stopWith
  extract_lets q0 s1 s2 nx all
  split
  · exact (((SpineKept.foldl (fun t r => .of_frame (decidePast_frame t r)) _ s).trans (swapQuire_spine ..)).trans (drainPorts_spine ..)).trans
      (modQuire_spine ..)
  · split
    · exact modQuire_spine ..
    · exact .refl s

end

/-! ### A STOP leaves the stops of other quires alone -/

/-- The state of a quire, its cause, and the STOPs that wait for a boundary. -/
def Quire.halt (x : Quire) : QState × Nat × List (Int × Nat) := (x.st, x.cause, x.stopAt)

theorem decideOne_halt (s : State) (p : Fin 32) (l : Line) (r : Fin 8) : ((decideOne s p l).quire r).halt = (s.quire r).halt := by
  unfold decideOne
  extract_lets +onlyGivenNames x stopped dec l1 s1 s2 fires s3
  have h2 : s2.quires = s.quires := by
    unfold s2
    split
    · exact foldl_keeps (π := State.quires) l.plays (fun u w _ => (headWord_frame ..).quires.resolve_left (by decide)) s1
    · rfl
  have h3 : (s3.quire r).halt = (s2.quire r).halt := by
    unfold s3
    split
    · rfl
    · split
      · rfl
      · next qi hqi =>
        extract_lets t t1 t2
        have ht : (t.quire r).halt = (s2.quire r).halt := by
          unfold t
          by_cases hr : qi = r
          · subst hr
            rw [modQuire_quire_self]
            cases fires <;> rfl
          · rw [modQuire_quire_ne _ _ _ hr]
        have ht1 : t1.quires = t.quires := by
          unfold t1
          split <;> rfl
        have ht2 : t2.quires = t1.quires := by
          unfold t2
          split
          · exact (setPwEvent_frame ..).quires.resolve_left (by decide)
          · rfl
        have hsettle : (settleLine t2 p l).quires = t.quires :=
          ((settleLine_frame ..).quires.resolve_left (by decide)).trans (ht2.trans ht1)
        exact (congrArg (fun v => (look v r).halt) hsettle :).trans ht
  exact h3.trans (congrArg (fun v => (look v r).halt) h2 :)

theorem decidePast_halt (s : State) (p : Fin 32) (r : Fin 8) : ((decidePast s p).quire r).halt = (s.quire r).halt :=
  foldl_keeps (π := fun t : State => (t.quire r).halt) _ (fun t l _ => decideOne_halt t p l r) s

theorem stopQuire_others {s : State} {q r : Fin 8} (h : r ≠ q) (c : Nat) : ((stopQuire s q c).quire r).halt = (s.quire r).halt := by
  by_cases hs : (s.quire q).st.stoppable = true
  · obtain ⟨u, nx, all, hu, -, -, hstop⟩ := stopQuire_stops (c := c) hs
    rw [hstop, modQuire_quire_ne _ _ _ h.symm]
    exact (congrArg (fun v => (look v r).halt) hu :).trans
      (foldl_keeps (π := fun t : State => (t.quire r).halt) _ (fun t p _ => decidePast_halt t p r) s)
  · by_cases ht : (s.quire q).st = .stopping
    · rcases stopQuire_stopping (c := c) ht with e | e
      · rw [e]
      · rw [e, modQuire_quire_ne _ _ _ h.symm]
    · rw [stopQuire_idle]
      cases hq : (s.quire q).st <;> simp [hq, QState.stoppable] at hs ht ⊢

/-- The STOP of a quire that has something to stop, with the cause alone where no other STOP waits. -/
theorem stopQuire_self {s : State} {q : Fin 8} (c : Nat) (h : (s.quire q).st.stoppable = true) :
    ((stopQuire s q c).quire q).st = .stopping ∧ c ≤ ((stopQuire s q c).quire q).cause ∧
      ((s.quire q).stopAt = [] → ((stopQuire s q c).quire q).cause = c) := by
  obtain ⟨u, nx, all, -, hmem, hall, hstop⟩ := stopQuire_stops (c := c) h
  rw [hstop, modQuire_quire_self]
  refine ⟨rfl, mem_le_foldl_max _ _ hmem, fun hn => ?_⟩
  show all.foldl max 0 = c
  rw [hall hn]
  exact Nat.zero_max _

/-- Steps by index of which each keeps what the others need: after all of them, what the step of `a` makes of `P` holds. -/
theorem forAll_turn {n : Nat} {f : State → Fin n → State} {a : Fin n} {P Q : State → Prop} (hP : ∀ s b, b ≠ a → P s → P (f s b))
    (hQ : ∀ s b, b ≠ a → Q s → Q (f s b)) (ha : ∀ s, P s → Q (f s a)) (s : State) (h : P s) : Q (forAll s f) := by
  have hpast : ∀ (l : List (Fin n)) (t : State), a ∉ l → Q t → Q (l.foldl f t) := by
    intro l
    induction l with
    | nil => exact fun _ _ => id
    | cons b l ih =>
      intro t hl ht
      simp only [List.mem_cons, not_or] at hl
      exact ih _ hl.2 (hQ t b (Ne.symm hl.1) ht)
  have hall : ∀ (l : List (Fin n)) (t : State), l.Nodup → a ∈ l → P t → Q (l.foldl f t) := by
    intro l
    induction l with
    | nil => exact fun _ _ hm => absurd hm List.not_mem_nil
    | cons b l ih =>
      intro t hn hm ht
      obtain ⟨hb, hl⟩ := List.nodup_cons.1 hn
      by_cases hba : b = a
      · subst hba
        exact hpast l _ hb (ha t ht)
      · exact ih _ hl ((List.mem_cons.1 hm).resolve_left (Ne.symm hba)) (hP t b hba ht)
  exact hall (idx n) s (List.nodup_finRange n) (List.mem_finRange a) h

/-! ### Events (R300 to R302) -/

/-- Steps by quire of which the one of `q` stops it and no other touches it: `q` is stopped. -/
theorem forAll_stops {s : State} {f : State → Fin 8 → State} {q : Fin 8} {c : Nat}
    (hother : ∀ t r, r ≠ q → ((f t r).quire q).halt = (t.quire q).halt) (hq : ∀ t, f t q = stopQuire t q c)
    (h : (s.quire q).st.stoppable = true) :
    ((forAll s f).quire q).st = .stopping ∧ c ≤ ((forAll s f).quire q).cause ∧
      ((s.quire q).stopAt = [] → ((forAll s f).quire q).cause = c) := by
  refine forAll_turn (a := q) (P := fun t => (t.quire q).halt = (s.quire q).halt)
    (Q := fun t => (t.quire q).st = .stopping ∧ c ≤ (t.quire q).cause ∧ ((s.quire q).stopAt = [] → (t.quire q).cause = c))
    (fun t r hr ht => (hother t r hr).trans ht) (fun t r hr ht => ?_) (fun t ht => ?_) s rfl
  · have hst := congrArg Prod.fst (hother t r hr)
    have hcause := congrArg (fun x => x.2.1) (hother t r hr)
    exact ⟨hst.trans ht.1, ht.2.1.trans_eq hcause.symm, fun hn => hcause.trans (ht.2.2 hn)⟩
  · rw [hq t]
    have hst : (t.quire q).st = (s.quire q).st := (congrArg Prod.fst ht :)
    have hat : (t.quire q).stopAt = (s.quire q).stopAt := (congrArg (fun x => x.2.2) ht :)
    obtain ⟨h1, h2, h3⟩ := stopQuire_self (s := t) (q := q) c (hst ▸ h)
    exact ⟨h1, h2, fun hn => h3 (hat.trans hn)⟩

/-- The quires that a mask names stop with cause 10. -/
def stopNamed (s : State) (mask : Nat) : State :=
  forAll s fun (t : State) (q : Fin 8) => if mask.testBit q.1 then stopQuire t q 10 else t

section
variable (s : State) (mask : Nat) (q : Fin 8)

theorem stopNamed_spine : SpineKept s (stopNamed s mask) := .forAll (fun t q => by
  split
  · exact stopQuire_spine ..
  · exact .refl t) s

variable {mask q}

theorem stopNamed_stops (hm : mask.testBit q.1 = true) (h : (s.quire q).st.stoppable = true) :
    ((stopNamed s mask).quire q).st = .stopping ∧ 10 ≤ ((stopNamed s mask).quire q).cause ∧
      ((s.quire q).stopAt = [] → ((stopNamed s mask).quire q).cause = 10) := by
  refine forAll_stops (fun t r hr => ?_) (fun t => if_pos hm) h
  split
  · exact stopQuire_others hr.symm 10
  · rfl

theorem stopNamed_spares (hm : mask.testBit q.1 = false) : ((stopNamed s mask).quire q).st = (s.quire q).st := by
  refine congrArg Prod.fst (forAll_keeps (fun t : State => (t.quire q).halt) (fun t r => ?_) s)
  split
  · next hr => exact stopQuire_others (fun e => by simp [← e, hm] at hr) 10
  · rfl

theorem stopNamed_none (hm : mask = 0) : stopNamed s mask = s := forAll_fixed fun r => if_neg (by simp [hm])

end

/-- An EVT cell for this node. -/
def evtMine (s : State) (sp : SpPort) (cell : Cell) : Bool :=
  (s.yobor sp).link == .up && s.sp.st != .alone && cellGood cell && cellAt cell 0 1 == 160 &&
    (cellDst cell == 4095 || (cellDst cell == s.sp.nodeId && s.sp.nodeId != 0))

section
variable {s : State} {sp : SpPort} {cell : Cell}

theorem floodOn_sp : (floodOn s sp cell).sp = s.sp := (floodOn_frame ..).sp.resolve_left (by decide)

/-- What an EVT cell for this node does, by its kind. -/
def evtActs (u : State) (cell : Cell) : State :=
  if cellAt cell 8 1 = 1 then
    raise (spnEvent (stopNamed u (cellAt cell 10 1 &&& u.sp.evtIn.toNat)) 4) evSpineStopRx kDevice 0 2
      (le 2 (cellSrc cell) ++ [1, BitVec.ofNat 8 (cellAt cell 9 1), BitVec.ofNat 8 (cellAt cell 10 1),
        BitVec.ofNat 8 ((cellAt cell 10 1 &&& u.sp.evtIn.toNat) &&& u.quireMask fun q => q.st.stoppable), 0, 0] ++ le 8 (cellAt cell 12 8))
  else if cellSpv cell ≠ 3 || !u.isRoot then u
  else if cellAt cell 8 1 = 2 then
    faultEdge { u with spr := { u.spr with
      faultSet := if u.spr.faultSet.contains (cellSrc cell) then u.spr.faultSet else cellSrc cell :: u.spr.faultSet } }
  else if cellAt cell 8 1 = 3 then faultEdge { u with spr := { u.spr with faultSet := u.spr.faultSet.filter (· != cellSrc cell) } }
  else u

theorem evtCellRx_mine (h : evtMine s sp cell = true) (hs : spoken cell = true) :
    evtCellRx sp cell s = evtActs (floodOn s sp cell) cell := by
  unfold evtMine at h
  simp only [Bool.and_eq_true] at h
  obtain ⟨⟨⟨⟨hl, hst⟩, hg⟩, ht⟩, hdst⟩ := h
  have hal : (floodOn s sp cell).sp.st ≠ .alone := by
    rw [floodOn_sp]
    exact bne_iff_ne.1 hst
  have hmine : (cellDst cell == 0xFFF || (cellDst cell == (floodOn s sp cell).sp.nodeId && (floodOn s sp cell).sp.nodeId != 0)) = true := by
    rw [floodOn_sp]
    exact hdst
  unfold evtCellRx
  rw [if_neg (not_not.2 (eq_of_beq hl)), cellActs_good hg (eq_of_beq ht) hs]
  extract_lets kind mine mask hit t1
  rw [if_neg (by simp [hal, mine, hmine])]
  rfl

end

/-! ### Position cells (R298, R299) -/

section
variable (s : State) (n : Fin 16) (c : Cell)

/-- What a position cell carries is in the source. -/
def CellTaken (s t : State) (n : Fin 16) (c : Cell) : Prop :=
  (t.source n).cellAt = s.clk ∧ (t.source n).st = srcStateOf (cellAt c 8 1 / 16 % 8) ∧ (t.source n).speed = cellAt c 20 4 * 4096 ∧
    (t.source n).adv = cellAt c 19 1 ∧ (t.source n).cause = cellAt c 9 1 % 16 ∧ (t.source n).trackDir = bit (cellAt c 8 1) 7 ∧
    (t.source n).moveDir = bit (cellAt c 9 1) 4

theorem cellTaken_of_src {s t u : State} (h : u.src = t.src) (g : CellTaken s t n c) : CellTaken s u n c := by
  have hy : u.source n = t.source n := congrArg (look · n) h
  unfold CellTaken
  rw [hy]
  exact g

/-- A cell changes its source as it says, keeps what it is bound to, and changes no other source. -/
theorem takePos_takes : CellTaken s (takePos s n c) n c ∧ ((takePos s n c).source n).bound = (s.source n).bound ∧
    ∀ m, m ≠ n → (takePos s n c).source m = s.source m := by
  unfold takePos
  extract_lets +onlyGivenNames old b0 b1 st trackDir bi pos mark raw prevTs ts turned held s1 was sign back tracked s2
  have hheld : ∀ m, m ≠ n → held.source m = s.source m := fun m hm => modSrc_source_ne _ _ _ hm.symm
  have hbound : (held.source n).bound = (s.source n).bound := by
    unfold held holdTracked
    rw [modSrc_source_self]
  have h1 : s1.src = held.src := by
    unfold s1
    split
    · exact foldl_keeps (π := State.src) _ (fun t q _ => (holdNext_frame t q).src.resolve_left (by decide)) held
    · rfl
  have hs1 : ∀ m, s1.source m = held.source m := fun m => congrArg (look · m) h1
  have h2 : CellTaken s s2 n c ∧ (s2.source n).bound = (s.source n).bound ∧ ∀ m, m ≠ n → s2.source m = s.source m := by
    unfold CellTaken s2
    rw [modSrc_source_self]
    exact ⟨⟨rfl, rfl, rfl, rfl, rfl, rfl, rfl⟩, (congrArg Source.bound (hs1 n)).trans hbound,
      fun m hm => (modSrc_source_ne _ _ _ hm.symm).trans ((hs1 m).trans (hheld m hm))⟩
  have hsrc : ∀ t : State, t.src = s2.src →
      CellTaken s t n c ∧ (t.source n).bound = (s.source n).bound ∧ ∀ m, m ≠ n → t.source m = s.source m := fun t e =>
    have he : ∀ m, t.source m = s2.source m := fun m => congrArg (look · m) e
    ⟨cellTaken_of_src n c e h2.1, (congrArg Source.bound (he n)).trans h2.2.1, fun m hm => (he m).trans (h2.2.2 m hm)⟩
  split
  · split
    · exact h2
    · exact hsrc _ (foldl_keeps (π := State.src) _ (fun t q _ => (stopQuire_frame t q 14).src.resolve_left (by decide)) s2)
  · split
    · exact hsrc _ (foldl_keeps (π := State.src) _ (fun t q _ => (quireReversed_frame t q).src.resolve_left (by decide)) s2)
    · split
      · exact hsrc _ (foldl_keeps (π := State.src) _ (fun t q _ => (quireResumes_frame t q).src.resolve_left (by decide)) s2)
      · exact h2

end

/-- A POS cell reaches the sources that are bound to its origin and source. -/
def posTaken (s : State) (c : Cell) : State :=
  forAll s fun (u : State) (n : Fin 16) => if (u.source n).bound = some (cellSrc c, cellAt c 8 1 % 16) then takePos u n c else u

theorem posTaken_clk (s : State) (c : Cell) : (posTaken s c).clk = s.clk := forAll_keeps State.clk (fun t n => by
  split
  · exact (takePos_frame ..).clk.resolve_left (by decide)
  · rfl) s

/-- Each source that is bound to the cell's origin takes it, and no other does. -/
theorem posTaken_sources (s : State) (c : Cell) (n : Fin 16) :
    ((posTaken s c).source n).bound = (s.source n).bound ∧
      (if (s.source n).bound = some (cellSrc c, cellAt c 8 1 % 16) then CellTaken s (posTaken s c) n c
        else (posTaken s c).source n = s.source n) := by
  have hother : ∀ (t : State) (m : Fin 16), m ≠ n →
      (if (t.source m).bound = some (cellSrc c, cellAt c 8 1 % 16) then takePos t m c else t).source n = t.source n ∧
      (if (t.source m).bound = some (cellSrc c, cellAt c 8 1 % 16) then takePos t m c else t).clk = t.clk := fun t m hm => by
    split
    · exact ⟨(takePos_takes t m c).2.2 n hm.symm, (takePos_frame ..).clk.resolve_left (by decide)⟩
    · exact ⟨rfl, rfl⟩
  refine forAll_turn (a := n) (P := fun t => t.source n = s.source n ∧ t.clk = s.clk)
    (Q := fun t => (t.source n).bound = (s.source n).bound ∧
      (if (s.source n).bound = some (cellSrc c, cellAt c 8 1 % 16) then CellTaken s t n c else t.source n = s.source n))
    (fun t m hm ht => ⟨(hother t m hm).1.trans ht.1, (hother t m hm).2.trans ht.2⟩) (fun t m hm ht => ?_) (fun t ht => ?_) s ⟨rfl, rfl⟩
  · unfold CellTaken
    rw [(hother t m hm).1]
    exact ht
  · obtain ⟨hs, hclk⟩ := ht
    by_cases hb : (s.source n).bound = some (cellSrc c, cellAt c 8 1 % 16)
    · obtain ⟨htake, hbound, -⟩ := takePos_takes t n c
      rw [if_pos (hs ▸ hb), if_pos hb]
      refine ⟨hbound.trans (congrArg Source.bound hs), ?_⟩
      unfold CellTaken at htake ⊢
      rwa [← hclk]
    · rw [if_neg (hs ▸ hb), if_neg hb]
      exact ⟨congrArg Source.bound hs, hs⟩

/-! ### Cells of this node's own -/

/-- What a flooded cell does on one port. -/
def floodOne (typ : Fin 6) (q : Nat) (payload : Bytes) (t : State) (sp : SpPort) : State :=
  if (t.yobor sp).link = .up then t.emit (.cell sp (mkCell typ.1 t.spv sp t.sp.nodeId 0xFFF 0 q payload)) else t

theorem floodOne_out (typ : Fin 6) (q : Nat) (payload : Bytes) (t : State) (sp : SpPort) :
    (floodOne typ q payload t sp).sp = t.sp ∧
      (floodOne typ q payload t sp).out.length = t.out.length + bitAt ((t.yobor sp).link == .up) 0 := by
  unfold floodOne
  split
  · next h => exact ⟨rfl, by simp [h, bitAt, State.emit]⟩
  · next h => exact ⟨rfl, by simp [h, bitAt]⟩

/-- A flooded cell is one output on every UP port. -/
theorem flood_out (s : State) (typ : Fin 6) (payload : Bytes) : (flood s typ payload).out.length =
    s.out.length + bitAt (s.sp.u.link == .up) 0 + bitAt (s.sp.a.link == .up) 0 + bitAt (s.sp.b.link == .up) 0 := by
  have hflood : flood s typ payload = [SpPort.u, .a, .b].foldl (floodOne typ (takeSeq s typ).2 payload) (takeSeq s typ).1 := rfl
  generalize (takeSeq s typ).2 = q at hflood
  obtain ⟨hu, hou⟩ := floodOne_out typ q payload (takeSeq s typ).1 .u
  obtain ⟨ha, hoa⟩ := floodOne_out typ q payload (floodOne typ q payload (takeSeq s typ).1 .u) .a
  obtain ⟨-, hob⟩ := floodOne_out typ q payload (floodOne typ q payload (floodOne typ q payload (takeSeq s typ).1 .u) .a) .b
  have hya : (State.yobor (floodOne typ q payload (takeSeq s typ).1 .u) .a).link = s.sp.a.link := congrArg (fun x => (Spine.a x).link) hu
  have hyb : (State.yobor (floodOne typ q payload (floodOne typ q payload (takeSeq s typ).1 .u) .a) .b).link = s.sp.b.link :=
    congrArg (fun x => (Spine.b x).link) (ha.trans hu)
  rw [hflood]
  refine hob.trans ?_
  rw [hoa, hou, hya, hyb]
  rfl

/-- A POS cell of a local source leaves. -/
def posSent (s : State) (x : Source) (i : Fin 16) : State :=
  flood (s.modSrc i fun y => { y with pubAt := s.clk, pubKey := x.key, pubEdge := false }) 2 (posPayload s i)

/-- An instant that has passed takes no time. -/
theorem advanceTo_past {s : State} {u : Nat} (h : u ≤ s.clk) : s.advanceTo u = s := by
  unfold State.advanceTo State.advance
  rw [Nat.sub_eq_zero_of_le h]
  rfl

/-- When a local source is published. -/
def State.publishAt (s : State) (x : Source) : Nat :=
  if x.key ≠ x.pubKey then s.clk else if x.pubEdge then x.pubAt + 4 * s.sp.posPeriod else x.pubAt + 4 * usPh

theorem publishAt_max (s : State) (x : Source) : max s.clk (s.publishAt x) =
    if x.key ≠ x.pubKey then s.clk else max s.clk (x.pubAt + (if x.pubEdge then 4 * s.sp.posPeriod else 16000)) := by
  have hus : 4 * usPh = 16000 := rfl
  unfold State.publishAt
  rw [hus]
  by_cases hk : x.key ≠ x.pubKey
  · rw [if_pos hk, if_pos hk, max_self]
  · rw [if_neg hk, if_neg hk]
    cases x.pubEdge <;> rfl

theorem posPublish_sends {s : State} {n : Fin 4} (hid : s.sp.nodeId ≠ 0) (ho : s.sp.posOut.getLsbD n.1 = true) :
    posPublish n s = posSent (s.advanceTo (s.publishAt (s.source (srcNo n.1)))) (s.source (srcNo n.1)) (srcNo n.1) := by
  unfold posPublish
  extract_lets i x s1
  rw [if_neg (by simp [hid, ho])]
  have hs1 : s1 = s.advanceTo (s.publishAt x) := by
    unfold s1 State.publishAt
    split
    · exact (advanceTo_past le_rfl).symm
    · split
      · rfl
      · rfl
  rw [hs1]
  rfl

theorem posSent_source (s : State) (x : Source) (i : Fin 16) :
    (posSent s x i).source i = { s.source i with pubAt := s.clk, pubKey := x.key, pubEdge := false } := by
  have h : (posSent s x i).src = (s.modSrc i fun y => { y with pubAt := s.clk, pubKey := x.key, pubEdge := false }).src :=
    (flood_frame ..).src.resolve_left (by decide)
  exact (congrArg (look · i) h :).trans (modSrc_source_self ..)

/-- A DMD cell leaves at an instant. -/
def dmdSentAt (s : State) (u : Nat) : State :=
  sendLink { s.advanceTo u with spr := { s.spr with dmdTxAt := (s.advanceTo u).clk, dmdSent := s.dmdKey } } .u 3
    (le 2 s.spr.subtree ++ le 2 (if decide (3 ≤ s.sp.spvOp) then s.spr.limiter else 0) ++
      [BitVec.ofNat 8 (if decide (3 ≤ s.sp.spvOp) then s.spr.reason else 0), 0] ++ le 2 s.reporting)

theorem dmdTx_sends {s : State} (hid : s.sp.nodeId ≠ 0) (hr : s.isRoot = false) (hl : s.sp.u.link = .up) :
    dmdTx s = dmdSentAt s (if s.dmdKey ≠ s.spr.dmdSent then s.clk else s.spr.dmdTxAt + 100 * usPh) := by
  have hc : (s.sp.nodeId = 0 || s.isRoot || s.sp.u.link != .up) = false := by
    have hn : decide (s.sp.nodeId = 0) = false := decide_eq_false hid
    rw [hn, hr, hl]
    rfl
  unfold dmdTx
  rw [if_neg (by rw [hc]; decide)]
  by_cases hk : s.dmdKey ≠ s.spr.dmdSent
  · rw [if_pos hk, if_pos hk]
    unfold dmdSentAt
    rw [advanceTo_past le_rfl]
  · rw [if_neg hk, if_neg hk]
    generalize s.spr.dmdTxAt + 100 * usPh = u
    rfl

theorem dmdSentAt_sends (s : State) (u : Nat) :
    (dmdSentAt s u).clk = max s.clk u ∧ (dmdSentAt s u).spr.dmdTxAt = (dmdSentAt s u).clk ∧ (dmdSentAt s u).spr.dmdSent = s.dmdKey ∧
      (dmdSentAt s u).out.length = s.out.length + 1 ∧ (dmdSentAt s u).sp = s.sp ∧ (dmdSentAt s u).ports = s.ports ∧
      (dmdSentAt s u).quires = s.quires := ⟨advanceTo_max s u, rfl, rfl, rfl, rfl, rfl, rfl⟩

/-- A child is lost at an instant. -/
def childLostAt (s : State) (sp : SpPort) (u : Nat) : State :=
  updateDemand ((s.advanceTo u).modYobor sp fun y => { y with childLost := true })

theorem childLostAt_lost (s : State) (sp : SpPort) (u : Nat) :
    (childLostAt s sp u).yobor sp = { s.yobor sp with childLost := true } ∧ (childLostAt s sp u).clk = max s.clk u ∧
      (childLostAt s sp u).ports = s.ports ∧ (childLostAt s sp u).quires = s.quires ∧ (childLostAt s sp u).out = s.out := by
  unfold childLostAt
  have hframe := updateDemand_frame ((s.advanceTo u).modYobor sp fun y => { y with childLost := true })
  refine ⟨?_, ?_, ?_, ?_, ?_⟩
  · exact (congrArg (fun x => ({ s with sp := x } : State).yobor sp) (hframe.sp.resolve_left (by decide)) :).trans
      (modYobor_self (s.advanceTo u) sp _)
  · rw [hframe.clk.resolve_left (by decide), modYobor_clk, advanceTo_max]
  · rw [hframe.ports.resolve_left (by decide), modYobor_ports]
    rfl
  · rw [hframe.quires.resolve_left (by decide), modYobor_quires]
    rfl
  · rw [hframe.out.resolve_left (by decide), modYobor_out]
    rfl

/-- The named quires have stopped, and the STOP is marked and reported. -/
theorem stopReported (u : State) (mask : Nat) (data : Bytes) :
    SpineKept (spnEvent u 4) (raise (spnEvent (stopNamed u mask) 4) evSpineStopRx kDevice 0 2 data) ∧
      (raise (spnEvent (stopNamed u mask) 4) evSpineStopRx kDevice 0 2 data).quires = (stopNamed u mask).quires ∧
      (raise (spnEvent (stopNamed u mask) 4) evSpineStopRx kDevice 0 2 data).ports = (stopNamed u mask).ports ∧
      (raise (spnEvent (stopNamed u mask) 4) evSpineStopRx kDevice 0 2 data).clk = u.clk := by
  have hstop := stopNamed_spine u mask
  have hmark : SpineKept (spnEvent u 4) (spnEvent (stopNamed u mask) 4) :=
    ⟨hstop.sp, congrArg (fun r : SpineRun => { r with event := r.event ||| BitVec.ofNat 5 4 }) hstop.spr⟩
  have hframe := raise_frame (spnEvent (stopNamed u mask) 4) evSpineStopRx kDevice 0 2 data
  have hclk : (stopNamed u mask).clk = u.clk := forAll_keeps State.clk (fun t q => by
    split
    · exact (stopQuire_frame ..).clk.resolve_left (by decide)
    · rfl) u
  exact ⟨hmark.trans (raise_spine ..), hframe.quires.resolve_left (by decide), hframe.ports.resolve_left (by decide),
    (hframe.clk.resolve_left (by decide)).trans hclk⟩

/-- FAULT_SET and FAULT_CLEAR on the root. -/
theorem evtCellRx_fault {s : State} {sp : SpPort} {cell : Cell} (h : evtMine s sp cell = true) (hr : s.isRoot = true) (hv : cellSpv cell = 3)
    (hk : cellAt cell 8 1 = 2 ∨ cellAt cell 8 1 = 3) :
    exec (.evtCellRx sp cell) s = .next (evtCellRx sp cell s) ∧
      (evtCellRx sp cell s).spr.faultSet = (if cellAt cell 8 1 = 2 then
        (if s.spr.faultSet.contains (cellSrc cell) then s.spr.faultSet else cellSrc cell :: s.spr.faultSet)
        else s.spr.faultSet.filter (· != cellSrc cell)) ∧
      (evtCellRx sp cell s).quires = s.quires ∧ (evtCellRx sp cell s).ports = s.ports ∧ (evtCellRx sp cell s).clk = s.clk := by
  have hs : spoken cell = true := by simp [spoken, hv]
  have hflood := floodOn_frame s sp cell
  have hroot : (floodOn s sp cell).isRoot = true := (congrArg (fun r : Rst => r.straps.getLsbD 4) (hflood.rst.resolve_left (by decide))).trans hr
  have hspr : (floodOn s sp cell).spr = s.spr := hflood.spr.resolve_left (by decide)
  have hset : ∀ l : List Nat, (faultEdge { floodOn s sp cell with spr := { s.spr with faultSet := l } }).spr.faultSet = l ∧
      (faultEdge { floodOn s sp cell with spr := { s.spr with faultSet := l } }).quires = s.quires ∧
      (faultEdge { floodOn s sp cell with spr := { s.spr with faultSet := l } }).ports = s.ports ∧
      (faultEdge { floodOn s sp cell with spr := { s.spr with faultSet := l } }).clk = s.clk := fun l => by
    have hframe := faultEdge_frame { floodOn s sp cell with spr := { s.spr with faultSet := l } }
    exact ⟨(congrArg SpineRun.faultSet (faultEdge_spine _).spr :), (hframe.quires.resolve_left (by decide)).trans (hflood.quires.resolve_left (by decide)),
      (hframe.ports.resolve_left (by decide)).trans (hflood.ports.resolve_left (by decide)),
      (hframe.clk.resolve_left (by decide)).trans (hflood.clk.resolve_left (by decide))⟩
  refine ⟨rfl, ?_⟩
  rw [evtCellRx_mine h hs]
  unfold evtActs
  rw [hspr]
  rcases hk with hk | hk
  · rw [if_neg (by simp [hk]), if_neg (by simp [hv, hroot]), if_pos hk, if_pos hk]
    exact hset _
  · rw [if_neg (by simp [hk]), if_neg (by simp [hv, hroot]), if_neg (by simp [hk]), if_pos hk, if_neg (by simp [hk])]
    exact hset _

/-- Settles O52: a position cell acts on each bound source in turn, a STOP event on each named quire; the cells of this node's own leave at
their instants. -/
theorem spineCellsAreTaken : Obligations.SpineCellsAreTaken := by
  unfold Obligations.SpineCellsAreTaken
  intro s taken
  refine ⟨?_, ?_, ?_, ?_, ?_, ?_, ?_, ?_, ?_, ?_, ?_, ?_, ?_, ?_, ?_⟩
  · exact fun n h => exec_of rfl (if_pos (by simpa using h))
  · intro n hid ho
    have hsend := posPublish_sends hid ho
    have hsrc := posSent_source (s.advanceTo (s.publishAt (s.source (srcNo n.1)))) (s.source (srcNo n.1)) (srcNo n.1)
    have hframe : Frame _ _ (posSent (s.advanceTo (s.publishAt (s.source (srcNo n.1)))) (s.source (srcNo n.1)) (srcNo n.1)) := flood_frame _ _ _
    have hclk := hframe.clk.resolve_left (by decide)
    have hmax : (s.advanceTo (s.publishAt (s.source (srcNo n.1)))).clk = max s.clk (s.publishAt (s.source (srcNo n.1))) := advanceTo_max ..
    have hat := publishAt_max s (s.source (srcNo n.1))
    generalize s.publishAt (s.source (srcNo n.1)) = u at hsend hsrc hframe hclk hmax hat
    rw [modSrc_clk] at hclk
    refine ⟨_, exec_of rfl hsend, ?_, ?_, ?_, ?_, ?_, flood_out .., ?_, ?_, ?_⟩
    · rw [hsrc]
    · rw [hsrc, hclk]
    · rw [hsrc]
    · rw [hsrc]
      rfl
    · exact (hclk.trans hmax).trans hat
    · exact hframe.ports.resolve_left (by decide)
    · exact hframe.quires.resolve_left (by decide)
    · exact hframe.sp.resolve_left (by decide)
  · exact fun sp cell h => exec_of rfl (if_pos h)
  · intro sp cell hl h
    have hflood := floodOn_frame s sp cell
    by_cases hg : cellGood cell = true
    · have hal : (floodOn s sp cell).sp.st = .alone := floodOn_sp (s := s) ▸ h.resolve_left (by simp [hg])
      have hrx : posCellRx sp cell s = floodOn s sp cell := by
        unfold posCellRx cellActs
        rw [if_neg (not_not.2 hl), if_neg (by simp [hg])]
        split
        · rfl
        · exact if_pos hal
      exact ⟨_, exec_of rfl hrx, hflood.src.resolve_left (by decide), hflood.quires.resolve_left (by decide),
        hflood.ports.resolve_left (by decide), hflood.clk.resolve_left (by decide), fun hbad => absurd hg (by simp [hbad])⟩
    · have hrx : posCellRx sp cell s = (floodOn s sp cell).modYobor sp fun y => { y with crcErrs := sat32 y.crcErrs 1 } :=
        (if_neg (not_not.2 hl)).trans (cellActs_bad (by simpa using hg))
      refine ⟨_, exec_of rfl hrx, ?_, ?_, ?_, ?_, fun _ => ?_⟩
      · exact (modYobor_src ..).trans (hflood.src.resolve_left (by decide))
      · exact (modYobor_quires ..).trans (hflood.quires.resolve_left (by decide))
      · exact (modYobor_ports ..).trans (hflood.ports.resolve_left (by decide))
      · exact (modYobor_clk ..).trans (hflood.clk.resolve_left (by decide))
      · rw [modYobor_self]
        exact congrArg (fun x => sat32 (({ s with sp := x } : State).yobor sp).crcErrs 1) floodOn_sp
  · intro sp cell hl hst hg ht hs
    have hal : (floodOn s sp cell).sp.st ≠ .alone := floodOn_sp (s := s) ▸ hst
    have hrx : posCellRx sp cell s = posTaken (floodOn s sp cell) cell :=
      ((if_neg (not_not.2 hl)).trans (cellActs_good hg ht hs)).trans (if_neg hal)
    have hflood := floodOn_frame s sp cell
    have hclk : (floodOn s sp cell).clk = s.clk := hflood.clk.resolve_left (by decide)
    refine ⟨_, exec_of rfl hrx, (posTaken_clk ..).trans hclk, fun n => ?_⟩
    have hsrc : (floodOn s sp cell).source n = s.source n := congrArg (look · n) (hflood.src.resolve_left (by decide))
    have hn := posTaken_sources (floodOn s sp cell) cell n
    unfold CellTaken at hn
    rwa [hsrc, hclk] at hn
  · intro h
    refine exec_of rfl (if_pos ?_)
    rcases h with h | h | h
    · simp [h]
    · simp [h]
    · simp [h]
  · intro hid hr hl
    obtain ⟨hclk, hat, hsent, hout, hsp, hports, hq⟩ :=
      dmdSentAt_sends s (if s.dmdKey ≠ s.spr.dmdSent then s.clk else s.spr.dmdTxAt + 100 * usPh)
    refine ⟨_, exec_of rfl (dmdTx_sends hid hr hl), hclk.trans ?_, hat, hsent, hout, hsp, hports, hq⟩
    split
    · exact Nat.max_self _
    · rfl
  · intro sp cell h
    exact exec_of rfl (if_pos (by simpa using h))
  · intro sp cell hsp hlo hl hg ht hs
    have hrx : dmdRx sp cell s = updateDemand (s.modYobor sp fun y => { y with
        dmd := some (cellAt cell 8 2, cellAt cell 10 2 % 4096, cellAt cell 12 1, cellAt cell 14 2), dmdAt := s.clk, childLost := false }) :=
      (if_neg (by simp [hsp, hlo])).trans (cellIn_good hl hg ht hs)
    have hframe := updateDemand_frame (s.modYobor sp fun y => { y with
        dmd := some (cellAt cell 8 2, cellAt cell 10 2 % 4096, cellAt cell 12 1, cellAt cell 14 2), dmdAt := s.clk, childLost := false })
    have hy := (congrArg (fun x => ({ s with sp := x } : State).yobor sp) (hframe.sp.resolve_left (by decide)) :).trans (modYobor_self s sp _)
    refine ⟨_, exec_of rfl hrx, (congrArg Yobor.childLost hy :), (congrArg Yobor.dmdAt hy :), (congrArg (fun y => y.dmd.isSome) hy :),
      (congrArg Yobor.link hy :).trans hl, ?_, ?_, ?_, ?_⟩
    · exact (hframe.clk.resolve_left (by decide)).trans (modYobor_clk ..)
    · exact (hframe.ports.resolve_left (by decide)).trans (modYobor_ports ..)
    · exact (hframe.quires.resolve_left (by decide)).trans (modYobor_quires ..)
    · exact (hframe.out.resolve_left (by decide)).trans (modYobor_out ..)
  · intro sp h
    exact exec_of rfl (if_pos (by simpa [or_assoc] using h))
  · intro sp hsp hlo hc
    obtain ⟨hy, hclk, hports, hq, hout⟩ := childLostAt_lost s sp ((s.yobor sp).dmdAt + msPh)
    have hlost : childLost sp s = childLostAt s sp ((s.yobor sp).dmdAt + msPh) := if_neg (by simp [hsp, hlo, hc])
    exact ⟨_, exec_of rfl hlost, (congrArg Yobor.childLost hy :), hclk, (congrArg Yobor.link hy :), hports, hq, hout⟩
  · exact fun sp cell h => exec_of rfl (if_pos h)
  · intro sp cell htaken hs hk
    have hrx : evtCellRx sp cell s = _ := (evtCellRx_mine htaken hs).trans (if_pos hk)
    have hevt : (floodOn s sp cell).sp.evtIn = s.sp.evtIn := congrArg Spine.evtIn floodOn_sp
    have hquire : ∀ q, (floodOn s sp cell).quire q = s.quire q := fun q =>
      congrArg (look · q) ((floodOn_frame s sp cell).quires.resolve_left (by decide))
    have hflood := floodOn_frame s sp cell
    rw [hevt] at hrx
    generalize hmask : cellAt cell 10 1 &&& s.sp.evtIn.toNat = mask at hrx
    have hbit : ∀ q : Fin 8, mask.testBit q.1 = ((cellAt cell 10 1).testBit q.1 && s.sp.evtIn.getLsbD q.1) := fun q => by
      rw [← hmask, Nat.testBit_and]
      rfl
    generalize floodOn s sp cell = u at hrx hquire hflood
    obtain ⟨hspine, hquires, hports, hclk⟩ := stopReported u mask (le 2 (cellSrc cell) ++ [1, BitVec.ofNat 8 (cellAt cell 9 1),
      BitVec.ofNat 8 (cellAt cell 10 1), BitVec.ofNat 8 (mask &&& u.quireMask fun q => q.st.stoppable), 0, 0] ++ le 8 (cellAt cell 12 8))
    have hspr : u.spr = s.spr := hflood.spr.resolve_left (by decide)
    refine ⟨_, exec_of rfl hrx, hspine.event.trans (congrArg (fun r => r.event ||| 4) hspr), hclk.trans (hflood.clk.resolve_left (by decide)),
      (congrArg SpineRun.faultSet hspine.spr :).trans (congrArg SpineRun.faultSet hspr :), fun q hst hm he => ?_, fun q hm => ?_, fun hm => ?_⟩
    · obtain ⟨h1, h2, h3⟩ := stopNamed_stops u (mask := mask) (q := q) (by rw [hbit, hm, he]; rfl) (hquire q ▸ hst)
      rw [hquire q] at h3
      have hq := congrArg (look · q) hquires
      exact ⟨(congrArg Quire.st hq :).trans h1, h2.trans_eq (congrArg Quire.cause hq :).symm, fun hn => (congrArg Quire.cause hq :).trans (h3 hn)⟩
    · have hspare := stopNamed_spares u (mask := mask) (q := q) (by
        rw [hbit]
        rcases hm with hm | hm
        · rw [hm, Bool.false_and]
        · rw [hm, Bool.and_false])
      exact ((congrArg (fun v => (look v q).st) hquires :).trans hspare).trans (congrArg Quire.st (hquire q))
    · have hzero : mask = 0 := by
        rw [← hmask]
        rcases hm with hm | hm <;> simp [hm]
      have hnone := stopNamed_none u hzero
      exact ⟨(hquires.trans (congrArg State.quires hnone)).trans (hflood.quires.resolve_left (by decide)),
        (hports.trans (congrArg State.ports hnone)).trans (hflood.ports.resolve_left (by decide))⟩
  · intro sp cell htaken hr hspv hk
    obtain ⟨hrx, hspr, hq, hports, hclk⟩ := evtCellRx_fault (cell := cell) htaken hr hspv (by simp [hk])
    rw [if_pos hk] at hspr
    refine ⟨_, hrx, ?_, ?_, hq, hports, hclk⟩
    · rw [hspr]
      split
      · next h => exact h
      · simp
    · rw [hspr, List.all_eq_true]
      intro i hi
      split
      · simpa using hi
      · simp [hi]
  · intro sp cell htaken hr hspv hk
    obtain ⟨hrx, hspr, hq, hports, hclk⟩ := evtCellRx_fault (cell := cell) htaken hr hspv (by simp [hk])
    exact ⟨_, hrx, hspr.trans (if_neg (by simp [hk])), hq, hports, hclk⟩
end Sys2Proof.Machine
end

section
/-! PROOFS. The management tunnel (10_spine.md R294, R304 to R306, R308): O53. A cell for this node acts (`mgtIn_here`); a message is put
together segment by segment; a tunnelled command ends with its completion. -/

set_option Elab.async false

namespace Sys2Proof.Machine

/-! ### Cells for this node -/

/-- A good MGT cell for this node on an UP port. -/
def mgtHere (s : State) (sp : SpPort) (cell : Cell) : Bool :=
  (s.yobor sp).link == .up && cellGood cell && cellAt cell 0 1 == 164 && spoken cell && s.sp.st != .alone && cellDst cell != 4095 &&
    cellDst cell == s.sp.nodeId

section
variable {s : State} {sp : SpPort} {cell : Cell} {kind : Nat} {act : State → State}

theorem mgtIn_down (h : (s.yobor sp).link ≠ .up) : mgtIn sp cell kind s act = s := if_pos h

theorem mgtIn_mine (h : mgtHere s sp cell = true) :
    mgtIn sp cell kind s act = if cellAt cell 8 1 ≠ kind ∨ (3 ≤ kind ∧ cellSpv cell ≠ 3) then s else act s := by
  unfold mgtHere at h
  simp only [Bool.and_eq_true] at h
  obtain ⟨⟨⟨⟨⟨⟨hl, hg⟩, ht⟩, hs⟩, hst⟩, hall⟩, hdst⟩ := h
  have hst : s.sp.st ≠ .alone := bne_iff_ne.1 hst
  have hall : cellDst cell ≠ 0xFFF := bne_iff_ne.1 hall
  have hdst : cellDst cell = s.sp.nodeId := eq_of_beq hdst
  unfold mgtIn
  rw [if_neg (not_not.2 (eq_of_beq hl)), if_neg (by simp [hdst]), cellActs_good hg (eq_of_beq ht) hs]
  simp only [hst, hall, false_or]

theorem mgtIn_here (h : mgtHere s sp cell = true) (hk : cellAt cell 8 1 = kind) (hv : kind < 3 ∨ cellSpv cell = 3) :
    mgtIn sp cell kind s act = act s := by
  rw [mgtIn_mine h, if_neg]
  rintro (h | ⟨h3, h⟩)
  · exact h hk
  · exact hv.elim (fun hlt => absurd h3 (Nat.not_le.2 hlt)) h

/-- A cell that changes nothing where it acts changes nothing. -/
theorem mgtIn_idle (h : mgtHere s sp cell = true) (ha : act s = s) : mgtIn sp cell kind s act = s := by
  rw [mgtIn_mine h, ha, ite_self]

end

/-! ### Messages in segments -/

section
variable {s : State} {c : Cell} {kind segs : Nat} {act : State → Bytes → State}

/-- A first segment is kept, in place of an unfinished message. -/
theorem assemble_first (hs : cellAt c 9 1 = 0) (hn : segs ≠ 1) :
    assemble s c kind segs act = { s with spr := { s.spr with parts := (s.spr.parts.filter fun m => !isPart c kind m) ++
      [{ src := cellSrc c, kind := kind, ttag := cellAt c 10 2, data := segBytes c, nextSeg := 1, addr := 0, len := 0 }] } } := by
  unfold assemble
  simp only [hs, if_true, List.nil_append]
  rw [if_neg (by omega)]
  rfl

/-- A segment out of order loses what was kept. -/
theorem assemble_lost (hs : cellAt c 9 1 ≠ 0)
    (h : (s.spr.parts.find? (isPart c kind)).all (fun m => m.nextSeg != cellAt c 9 1) = true) :
    assemble s c kind segs act = dropPart s (isPart c kind) := by
  unfold assemble
  simp only [if_neg hs]
  cases hf : s.spr.parts.find? (isPart c kind) with
  | none => rfl
  | some m =>
    rw [hf, Option.all_some, bne_iff_ne] at h
    simp only [if_neg h]

/-- The last segment in order hands the message over. -/
theorem assemble_last {m : MgtPart} (hs : cellAt c 9 1 ≠ 0) (hf : s.spr.parts.find? (isPart c kind) = some m)
    (hm : m.nextSeg = cellAt c 9 1) (hn : cellAt c 9 1 + 1 = segs) :
    assemble s c kind segs act = act (dropPart s (isPart c kind)) (m.data ++ segBytes c) := by
  unfold assemble
  simp only [if_neg hs, hf, if_pos hm, if_pos hn]

theorem find_next {n : Nat} (h : (s.spr.parts.find? (isPart c kind)).any (fun m => m.nextSeg == n) = true) :
    ∃ m, s.spr.parts.find? (isPart c kind) = some m ∧ m.nextSeg = n := by
  cases hf : s.spr.parts.find? (isPart c kind) with
  | none => rw [hf] at h; cases h
  | some m =>
    rw [hf, Option.any_some] at h
    exact ⟨m, rfl, eq_of_beq h⟩

end

/-! ### A tunnelled command ends (R304, R306) -/

/-- The command is no longer in the tunnel. -/
def untunnelled (s : State) (x : Tunnelled) : State :=
  { s with spr := { s.spr with tunnel := s.spr.tunnel.filter fun y => y.ttag != x.ttag } }

/-- Its completion goes where it came from. -/
def tunnelAnswer (s : State) (x : Tunnelled) (st res : Nat) (timedOut : Bool) : State :=
  match x.h.src with
  | .ring r =>
    if x.bcast then bcastAnswer s x.h x.node st res timedOut
    else
      let u := writeCpl s r x.h.tag.toNat st x.node res (isNotify x.h)
      if st = stAlign then haltRing u r stAlign else u
  | .mctp v => s.emit (.mctpReply v (vendorMsg 2 (cplEntry x.h.tag.toNat st 0xFF x.node res)))
  | .tunnel _ _ | .lost => s

section
variable (s : State) (x : Tunnelled) (st res : Nat) (timedOut : Bool)

theorem tunnelAnswer_spine : SpineKept s (tunnelAnswer s x st res timedOut) := by
  unfold tunnelAnswer
  split
  · next r _ =>
    split
    · exact bcastAnswer_spine ..
    · extract_lets u
      have hu : SpineKept s u := writeCpl_spine ..
      split
      · exact hu.trans (.of_frame (haltRing_frame ..))
      · exact hu
  · exact .emit ..
  · exact .refl s
  · exact .refl s

/-- Where no command is held back for its target, a tunnelled command ends with its completion alone. -/
theorem tunnelEnds_alone (h : s.spr.heldBack.find? (fun w => w.target == x.node) = none) :
    tunnelEnds s x st res timedOut = tunnelAnswer (untunnelled s x) x st res timedOut := by
  have hkept := tunnelAnswer_spine (untunnelled s x) x st res timedOut
  have hheld : (tunnelAnswer (untunnelled s x) x st res timedOut).spr.heldBack = s.spr.heldBack := (congrArg SpineRun.heldBack hkept.spr :)
  rw [← hheld] at h
  unfold tunnelEnds
  extract_lets spr s1 s2
  have h2 : s2 = tunnelAnswer (untunnelled s x) x st res timedOut := rfl
  rw [h2]
  simp only [h]

end

/-! ### What a completion leaves of the count of timeouts -/

section
variable (s : State)

theorem sendMsix_timeouts (v : Nat) : (sendMsix s v).cnt.tunnelTimeouts = s.cnt.tunnelTimeouts := by
  unfold sendMsix
  extract_lets
  split
  · rfl
  · split <;> rfl

theorem pushEntry_timeouts (r : Fin 64) (e : Bytes) (f : Bool) : (pushEntry s r e f).cnt.tunnelTimeouts = s.cnt.tunnelTimeouts := by
  unfold pushEntry ringIrq
  extract_lets
  split
  · rfl
  · split
    · rfl
    · split
      · rfl
      · split
        · rfl
        · split
          · exact sendMsix_timeouts ..
          · rfl

theorem writeCpl_timeouts (r : Fin 64) (tag st node res : Nat) (notify : Bool) :
    (writeCpl s r tag st node res notify).cnt.tunnelTimeouts = s.cnt.tunnelTimeouts := by
  unfold writeCpl
  extract_lets
  split
  · exact pushEntry_timeouts ..
  · rfl

theorem bcastAnswer_timeouts (h : CmdHdr) (node st res : Nat) (timedOut : Bool) :
    (bcastAnswer s h node st res timedOut).cnt.tunnelTimeouts = s.cnt.tunnelTimeouts := by
  unfold bcastAnswer
  split
  · next r _ =>
    extract_lets s1
    have h1 : s1.cnt.tunnelTimeouts = s.cnt.tunnelTimeouts := writeCpl_timeouts ..
    split
    · exact h1
    · extract_lets b' spr s2
      split
      · exact (writeCpl_timeouts s2 ..).trans h1
      · exact h1
  · rfl
  · rfl
  · rfl

theorem tunnelAnswer_timeouts (x : Tunnelled) (st res : Nat) (timedOut : Bool) :
    (tunnelAnswer s x st res timedOut).cnt.tunnelTimeouts = s.cnt.tunnelTimeouts := by
  unfold tunnelAnswer
  split
  · next r _ =>
    split
    · exact bcastAnswer_timeouts ..
    · extract_lets u
      have hu : u.cnt.tunnelTimeouts = s.cnt.tunnelTimeouts := writeCpl_timeouts ..
      split
      · exact (congrArg Counters.tunnelTimeouts ((haltRing_frame ..).cnt.resolve_left (by decide))).trans hu
      · exact hu
  · rfl
  · rfl
  · rfl

end

/-! ### Host transfers for a target (R305) -/

theorem segBytes_length (c : Cell) : (segBytes c).length = 16 := length_le ..

theorem tunnelHost_dropPart (s : State) (f : MgtPart → Bool) (node ttag : Nat) : tunnelHost (dropPart s f) node ttag = tunnelHost s node ttag := rfl

/-- A read of host memory leaves in the outputs, or waits for D0. -/
theorem dmaRead_out (s : State) (id addr len : Nat) (ns : Bool) :
    let reads := (s.readSpans addr len).map fun x => Out.dmaRead id x.1 x.2 ns
    if s.link.d3hot then (s.dmaRead id addr len ns).parked = s.parked ++ reads.map .request ∧ (s.dmaRead id addr len ns).out = s.out
      else (s.dmaRead id addr len ns).out = reads.reverse ++ s.out ∧ (s.dmaRead id addr len ns).parked = s.parked := by
  intro reads
  unfold State.dmaRead State.request
  split
  · exact ⟨rfl, rfl⟩
  · exact ⟨foldl_emit_out .., foldl_keeps (f := State.emit) (π := State.parked) _ (fun _ _ _ => rfl) s⟩

/-- Data written for a target is in the outputs, request by request. -/
theorem hostWrite_mem {s : State} {addr : Nat} {data : Bytes} (h : s.link.d3hot = false) {x : Nat × Nat}
    (hx : x ∈ spans (max 128 s.link.mps) (data.length / 64 + 2) addr data.length) :
    Out.hostWrite x.1 ((data.drop (x.1 - addr)).take x.2) ∈ (s.hostWrite addr data).out := by
  unfold State.hostWrite
  rw [request_out _ h]
  exact List.mem_append_left _ (List.mem_reverse.2 (List.mem_map.2 ⟨x, hx, rfl⟩))

/-- The last segment of a CMD: a node whose cores are up takes the command as one of the sender's. -/
def cmdTaken (c : Cell) (u : State) (d : Bytes) : State :=
  { u with
    cnt := { u.cnt with tunnelRun := sat32 u.cnt.tunnelRun 1 },
    waiting := u.waiting ++ [{
      target := 0, op := rdAt d 0 2,
      h := { src := .tunnel (BitVec.ofNat 12 (cellSrc c)) (BitVec.ofNat 16 (cellAt c 10 2)), tag := BitVec.ofNat 16 (rdAt d 4 2),
             flags := BitVec.ofNat 8 (rdAt d 2 1), bcast := false },
      p := BitVec.ofNat 448 (rdAt d 8 56), cw := rdAt d 3 1, bad := false }] }

/-- The last segment of an EVT: a sink writes the event. -/
def evtSunk (c : Cell) (u : State) (d : Bytes) : State :=
  if out (rdAt d 0 2 / 4096) 1 8 then u else writeEvent u (rdAt d 0 2) (rdAt d 5 1) (d.take 6 ++ le 2 (cellSrc c) ++ d.drop 8)

theorem evtSunk_frame (c : Cell) (u : State) (d : Bytes) : Frame [.link, .rings, .cnt, .parked, .out] u (evtSunk c u d) := by
  unfold evtSunk
  split
  · exact .refl _ u
  · exact writeEvent_frame ..

section
variable {s : State} {sp : SpPort} {cell : Cell}

theorem mgtCmdRx_last {m : MgtPart} (h : mgtHere s sp cell = true) (hk : cellAt cell 8 1 = 0) (hs : cellAt cell 9 1 = 3)
    (hf : s.spr.parts.find? (isPart cell 0) = some m) (hm : m.nextSeg = 3) (hc : s.cores = true) :
    mgtCmdRx sp cell s = cmdTaken cell (dropPart s (isPart cell 0)) (m.data ++ segBytes cell) := by
  have hc' : (dropPart s (isPart cell 0)).cores = true := hc
  unfold mgtCmdRx
  rw [mgtIn_here h hk (.inl (by decide)), assemble_last (by rw [hs]; decide) hf (hm.trans hs.symm) (by rw [hs]), if_neg (by rw [hc']; decide)]
  rfl

theorem mgtEvtRx_last {m : MgtPart} (h : mgtHere s sp cell = true) (hk : cellAt cell 8 1 = 2) (hs : cellAt cell 9 1 = 1)
    (hf : s.spr.parts.find? (isPart cell 2) = some m) (hm : m.nextSeg = 1) :
    mgtEvtRx sp cell s = evtSunk cell (dropPart s (isPart cell 2)) (m.data ++ segBytes cell) := by
  unfold mgtEvtRx
  rw [mgtIn_here h hk (.inl (by decide)), assemble_last (by rw [hs]; decide) hf (hm.trans hs.symm) (by rw [hs])]
  rfl

theorem mgtCplRx_ends {x : Tunnelled} (h : mgtHere s sp cell = true) (hk : cellAt cell 8 1 = 1)
    (hf : s.spr.tunnel.find? (fun x => x.ttag == cellAt cell 10 2 && x.node == cellSrc cell) = some x) :
    mgtCplRx sp cell s = tunnelEnds s x (rdAt (segBytes cell) 2 2) (rdAt (segBytes cell) 8 8) false := by
  unfold mgtCplRx
  rw [mgtIn_here h hk (.inl (by decide))]
  simp only [hf]

/-- A read request is kept, with the number of its reads. -/
def readKept (s : State) (cell : Cell) : State :=
  { s with nextId := s.nextId + 1, spr := { s.spr with parts := s.spr.parts ++
      [{ src := cellSrc cell, kind := 3, ttag := cellAt cell 10 2, data := [], nextSeg := s.nextId, addr := cellAt cell 12 8,
         len := min 4096 (cellAt cell 20 4) }] } }

/-- A read request of a known command of a ring. -/
theorem mgtRdReqRx_reads (h : mgtHere s sp cell = true) (hk : cellAt cell 8 1 = 3) (hv : cellSpv cell = 3)
    (hh : tunnelHost s (cellSrc cell) (cellAt cell 10 2) = some true) :
    mgtRdReqRx sp cell s = (readKept s cell).dmaRead s.nextId (cellAt cell 12 8) (min 4096 (cellAt cell 20 4)) false := by
  unfold mgtRdReqRx
  rw [mgtIn_here h hk (.inr hv)]
  simp only [hh]
  rfl

theorem mgtRdReqRx_fails (h : mgtHere s sp cell = true) (hk : cellAt cell 8 1 = 3) (hv : cellSpv cell = 3)
    (hh : tunnelHost s (cellSrc cell) (cellAt cell 10 2) = none) :
    mgtRdReqRx sp cell s = sendMgt s (cellSrc cell) 7 (cellAt cell 10 2) (le 2 stAborted) := by
  unfold mgtRdReqRx
  rw [mgtIn_here h hk (.inr hv)]
  simp only [hh]
  rfl

theorem mgtWrReqRx_kept (h : mgtHere s sp cell = true) (hk : cellAt cell 8 1 = 5) (hv : cellSpv cell = 3)
    (hh : (tunnelHost s (cellSrc cell) (cellAt cell 10 2)).isSome = true) :
    mgtWrReqRx sp cell s = { s with spr := { s.spr with parts := (s.spr.parts.filter fun m => !isPart cell 5 m) ++
      [{ src := cellSrc cell, kind := 5, ttag := cellAt cell 10 2, data := [], nextSeg := 0, addr := cellAt cell 12 8,
         len := min 4096 (cellAt cell 20 4) }] } } := by
  unfold mgtWrReqRx
  rw [mgtIn_here h hk (.inr hv), if_neg (by rw [Option.isNone_iff_eq_none]; exact Option.isSome_iff_ne_none.1 hh)]
  rfl

/-- The last data segment of a write for a ring's command: the host gets the data, and the target its acknowledgement. -/
theorem mgtWrDataRx_last {m : MgtPart} (h : mgtHere s sp cell = true) (hk : cellAt cell 8 1 = 6) (hv : cellSpv cell = 3)
    (hf : s.spr.parts.find? (isPart cell 5) = some m) (hm : m.nextSeg = cellAt cell 9 1) (hlen : m.len ≤ m.data.length + 16)
    (hh : tunnelHost s m.src m.ttag = some true) :
    mgtWrDataRx sp cell s = sendMgt ((dropPart s (isPart cell 5)).hostWrite m.addr ((m.data ++ segBytes cell).take m.len)) m.src 7 m.ttag
      (le 2 stOk) := by
  have hall : m.len ≤ (m.data ++ segBytes cell).length := by rwa [List.length_append, segBytes_length]
  have hh' : tunnelHost (dropPart s (isPart cell 5)) m.src m.ttag = some true := hh
  unfold mgtWrDataRx
  rw [mgtIn_here h hk (.inr hv)]
  simp only [hf, hm, ne_eq, not_true_eq_false, if_false, if_pos hall]
  unfold relayWrite
  simp only [hh']

variable {e : Exec}

theorem mgtRdDataRx_adds (h : mgtHere s sp cell = true) (hk : cellAt cell 8 1 = 4) (hv : cellSpv cell = 3)
    (hf : tunnelTransfer s cell = some e) (hlen : e.data.length + 16 < e.need) (hs : cellAt cell 9 1 = e.data.length % 4096 / 16) :
    mgtRdDataRx sp cell s = s.modExec e.id fun x => { x with data := e.data ++ segBytes cell } := by
  have hall : (e.data ++ segBytes cell).length < e.need := by rwa [List.length_append, segBytes_length]
  unfold mgtRdDataRx
  rw [mgtIn_here h hk (.inr hv)]
  simp only [hf]
  rw [if_neg (by omega), if_neg (Nat.not_le.2 hall)]

theorem mgtWrAckRx_good (h : mgtHere s sp cell = true) (hk : cellAt cell 8 1 = 7) (hv : cellSpv cell = 3)
    (hf : tunnelTransfer s cell = some e) (hst : rdAt (segBytes cell) 0 2 = 0) (hn : e.need = 0) :
    mgtWrAckRx sp cell s = if e.acks ≤ 1 then endExec s e stOk (rdLE e.data) else s.modExec e.id fun x => { x with acks := x.acks - 1 } := by
  unfold mgtWrAckRx
  rw [mgtIn_here h hk (.inr hv)]
  simp only [hf]
  have hok : rdAt (segBytes cell) 0 2 = stOk := hst
  rw [hok, if_neg (not_not.2 rfl), if_neg (not_not.2 hn)]

/-- Data and acknowledgements for no running command change nothing. -/
theorem mgtTransfer_none (h : mgtHere s sp cell = true) (hf : tunnelTransfer s cell = none) :
    mgtRdDataRx sp cell s = s ∧ mgtWrAckRx sp cell s = s := by
  constructor
  · refine mgtIn_idle h ?_
    simp only [hf]
  · refine mgtIn_idle h ?_
    simp only [hf]

/-- A tunnelled command that has timed out, counted. -/
def timedOutAt (s : State) (u : Nat) : State :=
  { s.advanceTo u with cnt := { s.cnt with tunnelTimeouts := sat32 s.cnt.tunnelTimeouts 1 } }

theorem tunnelTimeout_ends {ttag : BitVec 16} {x : Tunnelled} (hf : s.spr.tunnel.find? (fun x => x.ttag == ttag.toNat) = some x)
    (hl : x.h.src ≠ .lost) : tunnelTimeout ttag s = tunnelEnds (timedOutAt s x.deadline) x stTimeout 0 true := by
  unfold tunnelTimeout
  simp only [hf]
  rw [if_neg hl]
  rfl

end

/-- Settles O53: a cell for this node acts at once (`mgtIn_here`), and each kind by the state of its message or command. -/
theorem tunnelMessagesArrive : Obligations.TunnelMessagesArrive := by
  unfold Obligations.TunnelMessagesArrive
  intro s sp cell kind seg tt here part
  have hpart : ∀ k, kind = k → part = s.spr.parts.find? (isPart cell k) := fun k hk =>
    congrArg (fun k => s.spr.parts.find? (isPart cell k)) hk
  refine ⟨?_, ?_, ?_, ?_, ?_, ?_, ?_, ?_, ?_, ?_, ?_, ?_, ?_, ?_, ?_, ?_, ?_, ?_, ?_⟩
  · exact fun h => ⟨exec_of rfl (mgtIn_down h), exec_of rfl (mgtIn_down h), exec_of rfl (mgtIn_down h), exec_of rfl (mgtIn_down h),
      exec_of rfl (mgtIn_down h), exec_of rfl (mgtIn_down h), exec_of rfl (mgtIn_down h), exec_of rfl (mgtIn_down h)⟩
  · exact fun h hk hs => exec_of rfl ((mgtIn_here h hk (.inl (by decide))).trans (assemble_first hs (by decide)))
  · exact fun h hk hs hp => exec_of rfl ((mgtIn_here h hk (.inl (by decide))).trans (assemble_lost hs (hpart 0 hk ▸ hp)))
  · intro h hk hs hp hc
    obtain ⟨m, hf, hm⟩ := find_next (hpart 0 hk ▸ hp)
    refine ⟨_, exec_of rfl (mgtCmdRx_last h hk hs hf hm hc), ?_, rfl, ?_, rfl, rfl, rfl⟩
    · exact List.length_append ..
    · simp [cmdTaken, tt]
  · intro h hk hf
    refine exec_of rfl ((mgtIn_here h hk (.inl (by decide))).trans ?_)
    have hf' : s.spr.tunnel.find? (fun x => x.ttag == cellAt cell 10 2 && x.node == cellSrc cell) = none := hf
    simp only [hf']
  · intro x h hk hf hheld
    have hkept := tunnelAnswer_spine (untunnelled s x) x (rdAt (segBytes cell) 2 2) (rdAt (segBytes cell) 8 8) false
    have hframe := tunnelEnds_frame s x (rdAt (segBytes cell) 2 2) (rdAt (segBytes cell) 8 8) false
    rw [← tunnelEnds_alone s x _ _ _ hheld] at hkept
    exact ⟨_, exec_of rfl (mgtCplRx_ends h hk hf), (congrArg SpineRun.tunnel hkept.spr :), hframe.ports.resolve_left (by decide),
      hframe.clk.resolve_left (by decide), hframe.execs.resolve_left (by decide), hframe.waiting.resolve_left (by decide)⟩
  · exact fun h hk hs => exec_of rfl ((mgtIn_here h hk (.inl (by decide))).trans (assemble_first hs (by decide)))
  · intro h hk hs hp
    obtain ⟨m, hf, hm⟩ := find_next (hpart 2 hk ▸ hp)
    have hframe := evtSunk_frame cell (dropPart s (isPart cell 2)) (m.data ++ segBytes cell)
    have hspr := hframe.spr.resolve_left (by decide)
    exact ⟨_, exec_of rfl (mgtEvtRx_last h hk hs hf hm), (congrArg SpineRun.parts hspr :), hframe.ports.resolve_left (by decide),
      hframe.clk.resolve_left (by decide), (congrArg SpineRun.tunnel hspr :), hframe.waiting.resolve_left (by decide)⟩
  · intro h hk hv hh
    refine ⟨_, exec_of rfl (mgtRdReqRx_reads h hk hv hh), ?_, ?_⟩
    · exact dmaRead_out (readKept s cell) s.nextId (cellAt cell 12 8) (min 4096 (cellAt cell 20 4)) false
    · have hframe := State.dmaRead_frame (readKept s cell) s.nextId (cellAt cell 12 8) (min 4096 (cellAt cell 20 4)) false
      refine ⟨hframe.nextId.resolve_left (by decide), ?_, hframe.ports.resolve_left (by decide), hframe.clk.resolve_left (by decide)⟩
      rw [hframe.spr.resolve_left (by decide)]
      exact List.length_append ..
  · exact fun h hk hv hh => exec_of rfl (mgtRdReqRx_fails h hk hv hh)
  · exact fun h hk hv hh => exec_of rfl (mgtWrReqRx_kept h hk hv hh)
  · intro h hk hv hf
    refine exec_of rfl (mgtIn_idle h ?_)
    simp only [hf]
  · intro m h hk hv hf hm hlen hh
    have hframe := sendMgt_frame ((dropPart s (isPart cell 5)).hostWrite m.addr ((m.data ++ segBytes cell).take m.len)) m.src 7 m.ttag (le 2 stOk)
    have hspine := sendMgt_spine ((dropPart s (isPart cell 5)).hostWrite m.addr ((m.data ++ segBytes cell).take m.len)) m.src 7 m.ttag (le 2 stOk)
    have hwrite := State.hostWrite_frame (dropPart s (isPart cell 5)) m.addr ((m.data ++ segBytes cell).take m.len)
    refine ⟨_, exec_of rfl (mgtWrDataRx_last h hk hv hf hm hlen hh), fun hd x hx => ?_, ?_, ?_, ?_⟩
    · have hsize : ((m.data ++ segBytes cell).take m.len).length = m.len := by
        rw [List.length_take, List.length_append, segBytes_length]
        exact Nat.min_eq_left hlen
      have hmem := hostWrite_mem (s := dropPart s (isPart cell 5)) (addr := m.addr) (data := (m.data ++ segBytes cell).take m.len) hd (hsize ▸ hx)
      exact List.contains_iff_mem.2 (hframe.sent.subset hmem)
    · exact (congrArg SpineRun.parts hspine.spr :).trans (congrArg SpineRun.parts (hwrite.spr.resolve_left (by decide)))
    · exact (hframe.ports.resolve_left (by decide)).trans (hwrite.ports.resolve_left (by decide))
    · exact (hframe.clk.resolve_left (by decide)).trans (hwrite.clk.resolve_left (by decide))
  · intro h hk hf
    exact ⟨exec_of rfl (mgtTransfer_none h hf).1, exec_of rfl (mgtTransfer_none h hf).2⟩
  · exact fun e h hk hv hf hlen hs => exec_of rfl (mgtRdDataRx_adds h hk hv hf hlen hs)
  · exact fun e h hk hv hf hst hn ha => exec_of rfl ((mgtWrAckRx_good h hk hv hf hst hn).trans (if_neg (by omega)))
  · intro e h hk hv hf hst hn ha
    have hframe := complete_frame { s with execs := s.execs.filter fun x => x.id != e.id } e.h stOk (rdLE e.data)
    exact ⟨_, exec_of rfl ((mgtWrAckRx_good h hk hv hf hst hn).trans (if_pos ha)), hframe.execs.resolve_left (by decide),
      hframe.ports.resolve_left (by decide), hframe.clk.resolve_left (by decide)⟩
  · intro ttag hf
    refine exec_of rfl ?_
    unfold tunnelTimeout
    simp only [hf]
  · intro ttag x hf hheld hl
    have hend := tunnelEnds_alone (timedOutAt s x.deadline) x stTimeout 0 true hheld
    have hkept := tunnelAnswer_spine (untunnelled (timedOutAt s x.deadline) x) x stTimeout 0 true
    have hcount := tunnelAnswer_timeouts (untunnelled (timedOutAt s x.deadline) x) x stTimeout 0 true
    have hframe := tunnelEnds_frame (timedOutAt s x.deadline) x stTimeout 0 true
    rw [← hend] at hkept hcount
    exact ⟨_, exec_of rfl (tunnelTimeout_ends hf hl), (congrArg SpineRun.tunnel hkept.spr :),
      (hframe.clk.resolve_left (by decide)).trans (advanceTo_max ..), hcount, hframe.ports.resolve_left (by decide)⟩
end Sys2Proof.Machine
end

section
/-! PROOFS. Enumeration of the spine tree (10_spine.md R292, R293, R295, R307): O54. The enumeration goes on to the next port or ends; a port
in progress is the one that its record names. -/

set_option Elab.async false

namespace Sys2Proof.Machine

/-- A good ENU cell on an UP port. -/
def enuGood (s : State) (sp : SpPort) (cell : Cell) : Bool :=
  (s.yobor sp).link == .up && cellGood cell && cellAt cell 0 1 == 165 && spoken cell

section
variable {s : State} {sp : SpPort} {cell : Cell} {e : Enum}

theorem cellIn_enu {act : State → State} (h : enuGood s sp cell = true) : cellIn s sp cell 5 act = act s := by
  unfold enuGood at h
  simp only [Bool.and_eq_true] at h
  obtain ⟨⟨⟨hl, hg⟩, ht⟩, hs⟩ := h
  exact cellIn_good (eq_of_beq hl) hg (eq_of_beq ht) hs

theorem enuGood_up (h : enuGood s sp cell = true) : (s.yobor sp).link = .up := by
  unfold enuGood at h
  simp only [Bool.and_eq_true] at h
  exact eq_of_beq h.1.1.1

/-- The port in progress is that of the enumeration. -/
theorem enumOn_some (h : s.enumOn sp = some e) : s.sp.enum = some e ∧ e.sp = sp := by
  unfold State.enumOn at h
  split at h
  · next x hx =>
    split at h
    · next hsp =>
      obtain rfl : x = e := Option.some.inj h
      exact ⟨hx, hsp⟩
    · cases h
  · cases h

/-- Where no port is in progress, the messages and the timeout of an enumeration change nothing. -/
theorem enum_idle (h : s.enumOn sp = none) (hg : enuGood s sp cell = true) :
    enuReplyRx sp cell s = s ∧ enuDoneRx sp cell s = s ∧ enuRefuseRx sp cell s = s ∧ enuProbeTimeout sp s = s := by
  refine ⟨(cellIn_enu hg).trans ?_, (cellIn_enu hg).trans ?_, (cellIn_enu hg).trans ?_, ?_⟩
  · simp only [h]
  · simp only [h]
  · simp only [h]
  · unfold enuProbeTimeout
    simp only [h]

/-! ### The next port, or the end -/

/-- A probed port: its record, and one output. -/
theorem sendProbe_sends (h : s.sp.enum = some e) :
    (sendProbe s sp).sp = { s.sp with enum := some { e with sp := sp, assigned := none, sentAt := s.clk } } ∧
      (sendProbe s sp).out.length = s.out.length + 1 ∧ (sendProbe s sp).clk = s.clk ∧ (sendProbe s sp).ports = s.ports ∧
      (sendProbe s sp).quires = s.quires ∧ (sendProbe s sp).spr.event = s.spr.event := by
  refine ⟨?_, sendLink_out .., rfl, rfl, rfl, rfl⟩
  have hmod : (sendProbe s sp).sp = { s.sp with enum := s.sp.enum.map fun x => { x with sp := sp, assigned := none, sentAt := s.clk } } := rfl
  rw [hmod, h]
  rfl

/-- After SPNA, SPNB is probed when it is UP. -/
theorem enumNext_a (h : s.sp.enum = some e) (ha : e.sp = .a) (hb : s.sp.b.link = .up) : enumNext s = sendProbe s .b := by
  unfold enumNext
  simp only [h, ha]
  exact if_pos hb

theorem enumNext_b (h : s.sp.enum = some e) (hb : e.sp = .b) : enumNext s = enumEnd s e := by
  unfold enumNext
  simp only [h, hb]

/-- The enumeration ends on a node that is no root: DONE goes to the parent. -/
theorem enumEnd_member (hr : s.isRoot = false) :
    (enumEnd s e).sp = { s.sp with st := if e.wasSynced then .synced else .member, last := e.next - 1, nodes := e.nodes, enum := none } ∧
      (enumEnd s e).spr.syncAt = s.clk ∧ (enumEnd s e).spr.event = s.spr.event ||| 8 ∧ (enumEnd s e).out.length = s.out.length + 1 ∧
      (enumEnd s e).clk = s.clk ∧ (enumEnd s e).ports = s.ports := by
  unfold enumEnd
  simp only [hr, Bool.false_or, Bool.false_eq_true, if_false]
  exact ⟨rfl, rfl, rfl, rfl, rfl, rfl⟩

/-! ### Messages -/

/-- What a PROBE tells of the path. -/
def probed (s : State) (cell : Cell) : State :=
  { s with sp := { s.sp with parent := cellAt cell 12 2 % 4096, parentP := cellAt cell 20 4,
                             pathP := cellAt cell 20 4 + ceilDiv s.sp.u.delayPs 1000 + 64, latBudget := cellAt cell 16 4 } }

/-- One cell answers a PROBE. -/
theorem enuProbeRx_answers (hg : enuGood s .u cell = true) (hk : cellAt cell 8 1 = 1) :
    ∃ body, enuProbeRx .u cell s = sendLink (probed s cell) .u 5 body := by
  have hrx : enuProbeRx .u cell s = _ := (if_neg (not_not.2 rfl)).trans ((cellIn_enu hg).trans (if_neg (not_not.2 hk)))
  rw [hrx]
  extract_lets p op ep sp' t1 refuse_
  split
  · exact ⟨_, rfl⟩
  · split
    · exact ⟨_, rfl⟩
    · exact ⟨_, rfl⟩

/-- A node that takes its ID, before it enumerates. -/
def assigned (s : State) (cell : Cell) : State :=
  startEnum (setSpvOp { s with spr := { s.spr with firstSync := s.spr.firstSync || s.sp.st == .alone } } (cellAt cell 10 1 % 16))
    (cellAt cell 12 2 % 4096) (cellAt cell 11 1) (cellAt cell 9 1)

theorem enuAssignRx_probes (hg : enuGood s .u cell = true) (hr : s.isRoot = false) (hj : s.sp.st ≠ .joining) (hk : cellAt cell 8 1 = 3)
    (ha : s.sp.a.link = .up) : enuAssignRx .u cell s = sendProbe (assigned s cell) .a := by
  have hlink := (setSpvOp_spine { s with spr := { s.spr with firstSync := s.spr.firstSync || s.sp.st == .alone } } (cellAt cell 10 1 % 16)).link .a
  have hrx : enuAssignRx .u cell s = enumA (assigned s cell) :=
    (if_neg (by simp [hr, hj])).trans ((cellIn_enu hg).trans (if_neg (not_not.2 hk)))
  exact hrx.trans (if_pos (hlink.trans ha))

/-- REPLY: the next free ID goes to the port. -/
def assigning (s : State) : State := s.modEnum fun x => { x with assigned := some x.next }

theorem enuReplyRx_assigns (hg : enuGood s sp cell = true) (he : s.enumOn sp = some e) (ha : e.assigned = none) (hk : cellAt cell 8 1 = 2)
    (hep : cellAt cell 9 1 = s.sp.epoch) (hn : e.next < 0xFFF) :
    ∃ body, enuReplyRx sp cell s = sendLink (assigning s) sp 5 body := by
  have hrx : enuReplyRx sp cell s = _ := cellIn_enu hg
  rw [hrx]
  simp only [he]
  rw [if_neg (by simp [hk, ha, hep]), if_neg (Nat.not_le.2 hn)]
  exact ⟨_, rfl⟩

/-- DONE: the child's range is known. -/
def childDone (s : State) (sp : SpPort) (cell : Cell) (id : Nat) : State :=
  (s.modYobor sp fun y => { y with
    lo := id, hi := cellAt cell 12 2 % 4096, dmd := if y.childLost then none else y.dmd, dmdAt := s.clk, childLost := false }).modEnum
    fun x => { x with
      next := cellAt cell 12 2 % 4096 + 1, assigned := none, nodes := x.nodes + cellAt cell 14 2, refused := x.refused + cellAt cell 20 1,
      tooDeep := x.tooDeep || cellAt cell 20 1 != 0, timedOut := x.timedOut + cellAt cell 21 1, bigP := max x.bigP (cellAt cell 16 4),
      spvMinId := if cellAt cell 10 1 < x.spvMin then cellAt cell 22 2 % 4096 else x.spvMinId, spvMin := min (cellAt cell 10 1) x.spvMin }

theorem enuDoneRx_done {id : Nat} (hg : enuGood s sp cell = true) (he : s.enumOn sp = some e) (ha : e.assigned = some id)
    (hk : cellAt cell 8 1 = 4) (hep : cellAt cell 9 1 = s.sp.epoch) : enuDoneRx sp cell s = enumNext (childDone s sp cell id) := by
  have hrx : enuDoneRx sp cell s = _ := cellIn_enu hg
  rw [hrx]
  simp only [he, ha]
  rw [if_neg (by simp [hk, hep])]
  rfl

/-- The record of an enumeration after DONE. -/
def Enum.done (x : Enum) (cell : Cell) : Enum :=
  { x with
    next := cellAt cell 12 2 % 4096 + 1, assigned := none, nodes := x.nodes + cellAt cell 14 2, refused := x.refused + cellAt cell 20 1,
    tooDeep := x.tooDeep || cellAt cell 20 1 != 0, timedOut := x.timedOut + cellAt cell 21 1, bigP := max x.bigP (cellAt cell 16 4),
    spvMinId := if cellAt cell 10 1 < x.spvMin then cellAt cell 22 2 % 4096 else x.spvMinId, spvMin := min (cellAt cell 10 1) x.spvMin }

theorem modEnum_enum {f : Enum → Enum} (h : s.sp.enum = some e) : (s.modEnum f).sp.enum = some (f e) := by
  show s.sp.enum.map f = some (f e)
  rw [h]
  rfl

theorem childDone_enum (id : Nat) (h : s.sp.enum = some e) : (childDone s sp cell id).sp.enum = some (e.done cell) :=
  modEnum_enum ((modYobor_enum ..).trans h)

/-- REFUSE: the port is REFUSED, and no part of the tree. -/
def portRefused (s : State) (cell : Cell) : State :=
  (noMember (leaveUp s .a .refused 3) .a).modEnum fun x => { x with
    refused := x.refused + 1, tooDeep := x.tooDeep || cellAt cell 10 1 == 1, version := x.version || cellAt cell 10 1 == 2 }

theorem enuRefuseRx_refused (hg : enuGood s .a cell = true) (he : s.enumOn .a = some e) (ha : e.assigned = none) (hk : cellAt cell 8 1 = 5) :
    enuRefuseRx .a cell s = enumNext (portRefused s cell) := by
  have hrx : enuRefuseRx .a cell s = _ := cellIn_enu hg
  rw [hrx]
  simp only [he]
  rw [if_neg (by simp [hk, ha])]
  rfl

/-- A port that leaves UP by a REFUSE: the other one, and the enumeration, stay. -/
theorem portRefused_leaves (h : s.sp.enum = some e) (hl : s.sp.a.link = .up) :
    (portRefused s cell).sp.a.link = .refused ∧ (portRefused s cell).sp.b.link = s.sp.b.link ∧
      (portRefused s cell).spr.event = s.spr.event ||| 1 ∧ (portRefused s cell).clk = s.clk ∧ (portRefused s cell).ports = s.ports ∧
      (portRefused s cell).sp.enum = some { e with
        refused := e.refused + 1, tooDeep := e.tooDeep || cellAt cell 10 1 == 1, version := e.version || cellAt cell 10 1 == 2 } := by
  have hl : (s.yobor .a).link = .up := hl
  have hframe := leaveUp_frame s .a .refused 3
  have hsp : (leaveUp s .a .refused 3).sp.calm = ((s.modYobor .a fun y => { y with link := .refused }).modYobor .a fun y =>
      { y with childLost := true }).sp.calm := by
    rw [leaveUp_up .refused 3 hl, if_neg (by decide), downLost_sp]
    exact congrArg (fun x : Spine => { x with a := { x.a with childLost := true } }) (linkLeft_spine s .a .refused 3)
  have hen : (leaveUp s .a .refused 3).sp.enum = some e := (congrArg Spine.enum hsp :).trans h
  refine ⟨(congrArg (fun x => (Spine.a x).link) hsp :), (congrArg (fun x => (Spine.b x).link) hsp :), (leaveUp_event .refused 3 hl).1,
    hframe.clk.resolve_left (by decide), hframe.ports.resolve_left (by decide), modEnum_enum hen⟩

/-- A port without an answer counts as timed out. -/
def portTimedOut (s : State) (u : Nat) : State :=
  (noMember (s.advanceTo u) .b).modEnum fun x => { x with timedOut := x.timedOut + 1, next := x.assigned.getD x.next, assigned := none }

theorem portTimedOut_ends (u : Nat) (h : s.sp.enum = some e) (ha : e.assigned = none) (hsp : e.sp = .b) (hr : s.isRoot = false) :
    (enumNext (portTimedOut s u)).clk = max s.clk u ∧ (enumNext (portTimedOut s u)).sp.enum = none ∧
      (enumNext (portTimedOut s u)).sp.last = e.next - 1 ∧
      (enumNext (portTimedOut s u)).sp.st = (if e.wasSynced then .synced else .member) ∧
      (enumNext (portTimedOut s u)).spr.event = s.spr.event ||| 8 ∧ (enumNext (portTimedOut s u)).ports = s.ports := by
  have hdone : (portTimedOut s u).sp.enum =
      some { e with timedOut := e.timedOut + 1, next := e.assigned.getD e.next, assigned := none } := modEnum_enum h
  have hr' : (portTimedOut s u).isRoot = false := hr
  obtain ⟨hesp, -, hev, -, hclk, hports⟩ :=
    enumEnd_member (e := { e with timedOut := e.timedOut + 1, next := e.assigned.getD e.next, assigned := none }) hr'
  rw [enumNext_b hdone hsp, hesp, ha]
  exact ⟨ha ▸ hclk.trans (advanceTo_max ..), rfl, rfl, rfl, ha ▸ hev, ha ▸ hports⟩

theorem enuProbeTimeout_next (he : s.enumOn .b = some e) (ha : e.assigned = none) :
    enuProbeTimeout .b s = enumNext (portTimedOut s (e.sentAt + 2 * msPh)) := by
  have hon : ∀ u, (s.advanceTo u).enumOn .b = some e := fun _ => he
  unfold enuProbeTimeout
  simp only [he]
  rw [if_neg (by simp [ha])]
  unfold enumTimedOut
  simp only [hon]
  rfl

end

/-- Settles O54: each message by the record of the enumeration, which then goes on to SPNB or ends. -/
theorem nodesAreEnumerated : Obligations.NodesAreEnumerated := by
  unfold Obligations.NodesAreEnumerated
  intro s sp cell cmd ok
  refine ⟨?_, ?_, ?_, ?_, ?_, ?_, ?_, ?_, ?_, ?_, ?_⟩
  · intro h
    by_cases hsp : sp = .u
    · have hl := h.resolve_left (not_not.2 hsp)
      refine ⟨exec_of rfl ((if_neg (not_not.2 hsp)).trans (cellIn_down hl)), exec_of rfl ?_⟩
      unfold enuAssignRx
      split
      · rfl
      · exact cellIn_down hl
    · exact ⟨exec_of rfl (if_pos hsp), exec_of rfl (if_pos (by simp [hsp]))⟩
  · rintro hok rfl hk
    obtain ⟨body, hrx⟩ := enuProbeRx_answers hok hk
    exact ⟨_, exec_of rfl hrx, rfl, rfl, rfl, rfl, rfl, rfl, sendLink_out .., rfl, rfl, rfl⟩
  · exact fun h => exec_of rfl (if_pos (by rcases h with h | h <;> simp [h]))
  · rintro hok rfl hr hj hk ha
    have hkept := setSpvOp_spine { s with spr := { s.spr with firstSync := s.spr.firstSync || s.sp.st == .alone } } (cellAt cell 10 1 % 16)
    have hset := setSpvOp_frame { s with spr := { s.spr with firstSync := s.spr.firstSync || s.sp.st == .alone } } (cellAt cell 10 1 % 16)
    obtain ⟨hsp, hout, hclk, hports, hq, -⟩ := sendProbe_sends (s := assigned s cell) (sp := .a) rfl
    have hclk' : (assigned s cell).clk = s.clk := hset.clk.resolve_left (by decide)
    refine ⟨_, exec_of rfl (enuAssignRx_probes hok hr hj hk ha), ?_⟩
    rw [hsp, hout, hclk, hports, hq]
    refine ⟨rfl, rfl, rfl, rfl, (congrArg Spine.spvOp hkept.sp :), (congrArg (fun x => (Spine.a x).lo) hkept.sp :),
      (congrArg (fun x => (Spine.a x).hi) hkept.sp :), (congrArg (fun x => (Spine.b x).lo) hkept.sp :),
      (congrArg (fun x => (Spine.b x).hi) hkept.sp :), ?_, Nat.add_le_add_right hset.sent.length_le 1, fun hv => ?_, hclk',
      hset.ports.resolve_left (by decide), hset.quires.resolve_left (by decide)⟩
    · simp [hclk']
    · have hnone : setSpvOp { s with spr := { s.spr with firstSync := s.spr.firstSync || s.sp.st == .alone } } (cellAt cell 10 1 % 16) =
          spvSet { s with spr := { s.spr with firstSync := s.spr.firstSync || s.sp.st == .alone } } (cellAt cell 10 1 % 16) :=
        if_neg (Nat.not_lt.2 hv)
      exact (congrArg (fun t : State => t.out.length + 1) hnone :)
  · intro hen hok
    obtain ⟨h1, h2, h3, h4⟩ := enum_idle hen hok
    exact ⟨exec_of rfl h1, exec_of rfl h2, exec_of rfl h3, exec_of rfl h4⟩
  · intro e hok he ha hk hep hn
    obtain ⟨body, hrx⟩ := enuReplyRx_assigns hok he ha hk hep hn
    obtain ⟨hen, hsp⟩ := enumOn_some he
    have hmod : (assigning s).sp.enum = some { e with assigned := some e.next } := modEnum_enum hen
    refine ⟨_, exec_of rfl hrx, ?_, sendLink_out .., rfl, rfl⟩
    have henum : (sendLink (assigning s) sp 5 body).sp.enum = (assigning s).sp.enum := rfl
    rw [henum, hmod]
    simp [hsp]
  · rintro e id hok he rfl ha hk hep hr
    obtain ⟨hen, hsp⟩ := enumOn_some he
    have hdone := childDone_enum (sp := .b) (cell := cell) id hen
    obtain ⟨hesp, hat, hev, hout, hclk, hports⟩ := enumEnd_member (s := childDone s .b cell id) (e := e.done cell) hr
    have hrx := (enuDoneRx_done hok he ha hk hep).trans (enumNext_b hdone hsp)
    refine ⟨_, exec_of rfl hrx, ?_⟩
    rw [hesp]
    exact ⟨rfl, rfl, rfl, rfl, rfl, rfl, hat, hev, hout, hclk, hports⟩
  · rintro e id hok he rfl ha hk hep hb
    obtain ⟨hen, hsp⟩ := enumOn_some he
    have hdone := childDone_enum (sp := .a) (cell := cell) id hen
    obtain ⟨hesp, hout, hclk, hports, -, -⟩ := sendProbe_sends (sp := .b) hdone
    have hrx := (enuDoneRx_done hok he ha hk hep).trans (enumNext_a hdone hsp hb)
    refine ⟨_, exec_of rfl hrx, ?_⟩
    rw [hesp]
    refine ⟨rfl, rfl, rfl, ?_, hout, hclk, hports⟩
    have hc : (childDone s .a cell id).clk = s.clk := rfl
    simp [Enum.done, hc]
  · rintro e hok he rfl ha hk hb
    obtain ⟨hen, hsp⟩ := enumOn_some he
    obtain ⟨hla, hlb, hev, hclk, hports, hdone⟩ := portRefused_leaves (cell := cell) hen (enuGood_up hok)
    obtain ⟨hesp, -, hclk', hports', -, hev'⟩ := sendProbe_sends (sp := .b) hdone
    have hrx := (enuRefuseRx_refused hok he ha hk).trans (enumNext_a hdone hsp (hlb.trans hb))
    refine ⟨_, exec_of rfl hrx, ?_⟩
    rw [hesp]
    refine ⟨hla, hev'.trans hev, ?_, hclk'.trans hclk, hports'.trans hports⟩
    simp
  · intro e he ha
    refine exec_of rfl ?_
    unfold enuProbeTimeout
    simp only [he]
    exact if_pos ha
  · rintro e he ha rfl hr
    obtain ⟨hen, hsp⟩ := enumOn_some he
    have hms : 2 * msPh = 8000000 := rfl
    have htime := enuProbeTimeout_next he ha
    rw [hms] at htime
    obtain ⟨hclk, hnone, hlast, hst, hev, hports⟩ := portTimedOut_ends (e.sentAt + 8000000) hen ha hsp hr
    exact ⟨_, exec_of rfl htime, hclk, hnone, hlast, hst, hev, hports⟩
end Sys2Proof.Machine
end

section
/-! PROOFS. CAN frames that arrive (11_press_bus.md R315, R317, R318, R320 to R322): O55. What a controller hears changes its error counters
and its count; what the frame then does is that of the press message or of the host filters. -/

set_option Elab.async false

namespace Sys2Proof.Machine

/-! ### One controller of the pair -/

section
variable {s : State} {c : Fin 2} {f g : Can → Can}

/-- Each of the two controllers is one of them or the other one. -/
theorem can_cases {p : Fin 2 → Prop} (hA : p 0) (hB : p 1) : ∀ c, p c
  | ⟨0, _⟩ => hA
  | ⟨1, _⟩ => hB

theorem can_modCan_self : (s.modCan c f).can c = f (s.can c) := can_cases (p := fun c => (s.modCan c f).can c = f (s.can c)) rfl rfl c

theorem can_modCan_other : (s.modCan c f).can (otherCan c) = s.can (otherCan c) :=
  can_cases (p := fun c => (s.modCan c f).can (otherCan c) = s.can (otherCan c)) rfl rfl c

theorem can_modCan_of_other : (s.modCan (otherCan c) f).can c = s.can c :=
  can_cases (p := fun c => (s.modCan (otherCan c) f).can c = s.can c) rfl rfl c

theorem modCan_modCan : (s.modCan c f).modCan c g = s.modCan c fun x => g (f x) :=
  can_cases (p := fun c => (s.modCan c f).modCan c g = s.modCan c fun x => g (f x)) rfl rfl c

/-- A change of a controller is what it makes of that controller. -/
theorem modCan_congr (h : f (s.can c) = g (s.can c)) : s.modCan c f = s.modCan c g := by
  have hc : ∀ c : Fin 2, f (s.can c) = g (s.can c) → s.modCan c f = s.modCan c g :=
    can_cases (fun h => congrArg (fun k => ({ s with press := { s.press with canA := k } } : State)) h)
      (fun h => congrArg (fun k => ({ s with press := { s.press with canB := k } } : State)) h)
  exact hc c h

/-- What is not a controller stays. -/
theorem modCan_press : { (s.modCan c f).press with canA := s.press.canA, canB := s.press.canB } = s.press :=
  can_cases (p := fun c => { (s.modCan c f).press with canA := s.press.canA, canB := s.press.canB } = s.press) rfl rfl c

theorem modCan_isPress {x : CanFrame} : (s.modCan c f).isPress x = s.isPress x :=
  can_cases (p := fun c => (s.modCan c f).isPress x = s.isPress x) rfl rfl c

/-- Receive errors change the error counter and the error state of a controller only. -/
theorem receives_keeps (k : Can) (errs : Nat) (good : Bool) : { k.receives errs good with st := k.st, recErr := k.recErr } = k := by
  unfold Can.receives
  split
  · rfl
  · unfold Can.confine
    simp only
    split <;> rfl

section
variable (k : Can) (errs : Nat) (good : Bool)

theorem receives_fifo : (k.receives errs good).fifo = k.fifo := (congrArg Can.fifo (receives_keeps k errs good) :)

theorem receives_filters : (k.receives errs good).filters = k.filters := (congrArg Can.filters (receives_keeps k errs good) :)

theorem receives_dropped : (k.receives errs good).dropped = k.dropped := (congrArg Can.dropped (receives_keeps k errs good) :)

theorem receives_seen : (k.receives errs good).seen = k.seen := (congrArg Can.seen (receives_keeps k errs good) :)

end

end

/-! ### The frame that is heard -/

/-- The controller has heard a frame after `errs` receive errors. -/
def heard (s : State) (c : Fin 2) (errs : Nat) : State :=
  s.modCan c fun x => { x.receives errs true with received := sat32 x.received 1 }

section
variable {s : State} {c : Fin 2} {f : CanFrame} {errs : Nat}

theorem can_heard : (heard s c errs).can c = { (s.can c).receives errs true with received := sat32 (s.can c).received 1 } := can_modCan_self

theorem heard_fifo : ((heard s c errs).can c).fifo = (s.can c).fifo := by
  rw [can_heard]
  exact receives_fifo ..

theorem heard_filters : ((heard s c errs).can c).filters = (s.can c).filters := by
  rw [can_heard]
  exact receives_filters ..

/-- A message that cannot be one of this node's own clashes with none. -/
theorem clashCheck_none (h : s.clashType f = none) : clashCheck s c f = s := by
  unfold clashCheck
  rw [h]

theorem clashType_of_foreign (h : s.isPress f = false) : s.clashType f = none := by
  unfold State.clashType
  simp only [h, Bool.false_and, Bool.false_eq_true, ↓reduceIte]

/-- INTERLOCK and PRESS_STATE are messages of the press station only. -/
theorem clashType_of_press (h : f.id.toNat / 4096 % 16 = 0 ∨ f.id.toNat / 4096 % 16 = 2) : s.clashType f = none := by
  unfold State.clashType
  rcases h with h | h <;> simp [h]

/-- The controller takes the frame. -/
def takesFrame (s : State) (c : Fin 2) (f : CanFrame) : Bool :=
  (s.can c).mode != .off && !(s.can c).isOff && !(f.fd && (s.can c).mode == .classic)

theorem canFrameRx_taken (h : takesFrame s c f = true) :
    canFrameRx c f errs s = (if f.rtr then canDrop (heard s c errs) c
      else if (clashCheck (heard s c errs) c f).isPress f then pressFrame (clashCheck (heard s c errs) c f) c f
        else hostFrame (clashCheck (heard s c errs) c f) c f) := by
  unfold takesFrame at h
  simp only [Bool.and_eq_true, Bool.not_eq_true', bne_iff_ne, ne_eq] at h
  obtain ⟨⟨hm, hoff⟩, hfd⟩ := h
  unfold canFrameRx
  simp only [hm, hoff, hfd, decide_false, Bool.false_or, Bool.false_eq_true, ↓reduceIte]
  rfl

theorem canFrameRx_rtr (h : takesFrame s c f = true) (hr : f.rtr = true) : canFrameRx c f errs s = canDrop (heard s c errs) c := by
  rw [canFrameRx_taken h, if_pos hr]

theorem canFrameRx_host (h : takesFrame s c f = true) (hr : f.rtr = false) (hp : s.isPress f = false) :
    canFrameRx c f errs s = hostFrame (heard s c errs) c f := by
  have hph : (heard s c errs).isPress f = false := modCan_isPress.trans hp
  rw [canFrameRx_taken h, clashCheck_none (clashType_of_foreign hph), hph, hr]
  rfl

theorem canFrameRx_press (h : takesFrame s c f = true) (hr : f.rtr = false) (hp : s.isPress f = true)
    (ht : f.id.toNat / 4096 % 16 = 0 ∨ f.id.toNat / 4096 % 16 = 2) : canFrameRx c f errs s = pressFrame (heard s c errs) c f := by
  have hph : (heard s c errs).isPress f = true := modCan_isPress.trans hp
  rw [canFrameRx_taken h, clashCheck_none (clashType_of_press ht), hph, hr]
  rfl

/-! ### The host filters -/

theorem canDrop_heard : canDrop (heard s c errs) c = s.modCan c fun x => { x.receives errs true with
    received := sat32 x.received 1, dropped := sat32 x.dropped 1 } := by
  refine modCan_modCan.trans (modCan_congr ?_)
  simp only [receives_dropped]

theorem hostFrame_none (h : ((idx 16).find? fun i => (look (s.can c).filters i).passes f) = none) :
    hostFrame (heard s c errs) c f = canDrop (heard s c errs) c := by
  unfold hostFrame
  rw [heard_filters, h]

theorem hostFrame_room {i : Fin 16} (h : ((idx 16).find? fun i => (look (s.can c).filters i).passes f) = some i)
    (hl : (s.can c).fifo.length < 64) :
    hostFrame (heard s c errs) c f = s.modCan c fun x => { x.receives errs true with
      received := sat32 x.received 1, fifo := x.fifo ++ [{ f := f, filter := i.1, tb := s.ns }] } := by
  have hns : (heard s c errs).ns = s.ns :=
    can_cases (p := fun c => (heard s c errs).ns = s.ns) rfl rfl c
  unfold hostFrame
  rw [heard_filters, h, heard_fifo]
  simp only [if_neg (Nat.not_le.mpr hl), hns]
  refine modCan_modCan.trans (modCan_congr ?_)
  simp only [receives_fifo]

theorem hostFrame_full {i : Fin 16} (h : ((idx 16).find? fun i => (look (s.can c).filters i).passes f) = some i)
    (hl : 64 ≤ (s.can c).fifo.length) : hostFrame (heard s c errs) c f = canEvent (canDrop (heard s c errs) c) 32 := by
  unfold hostFrame
  rw [heard_filters, h, heard_fifo]
  simp only [if_pos hl]

/-! ### Messages of the press station -/

/-- A sound INTERLOCK or PRESS_STATE of the press station. -/
def pressSound (s : State) (f : CanFrame) : Prop :=
  (f.id.toNat / 4096 % 16 = 0 ∨ f.id.toNat / 4096 % 16 = 2) ∧ f.id.toNat % 4096 = s.press.pressStation.toNat ∧
    pressFrameBad (f.id.toNat / 4096 % 16) f = false

theorem pressFrame_sound (h : pressSound s f) :
    pressFrame s c f = (if (s.can (otherCan c)).seen.any (sameMessage f) then
        s.modCan (otherCan c) fun x => { x with seen := x.seen.takeWhile fun g => !(sameMessage f g) }
      else pressActs (s.modCan c fun x => { x with seen := (f :: x.seen).take 64 }) (f.id.toNat / 4096 % 16) f.data) := by
  obtain ⟨ht, hst, hbad⟩ := h
  unfold pressFrame
  exact if_pos ⟨ht, hst, by rw [hbad]; rfl⟩

theorem pressSound_heard (h : pressSound s f) : pressSound (heard s c errs) f := by
  obtain ⟨ht, hst, hbad⟩ := h
  have hs : (heard s c errs).press.pressStation = s.press.pressStation :=
    can_cases (p := fun c => (heard s c errs).press.pressStation = s.press.pressStation) rfl rfl c
  exact ⟨ht, by rw [hs]; exact hst, hbad⟩

/-- The controller has heard a press message that it keeps among those seen. -/
def heardSeen (s : State) (c : Fin 2) (f : CanFrame) (errs : Nat) : State :=
  s.modCan c fun x => { x.receives errs true with received := sat32 x.received 1, seen := (f :: x.seen).take 64 }

theorem modCan_seen_heard : ((heard s c errs).modCan c fun x => { x with seen := (f :: x.seen).take 64 }) = heardSeen s c f errs := by
  refine modCan_modCan.trans (modCan_congr ?_)
  simp only [receives_seen]

/-- A message that the other controller has not taken acts. -/
theorem pressFrame_first (h : pressSound s f) (hc : (s.can (otherCan c)).seen.any (sameMessage f) = false) :
    pressFrame (heard s c errs) c f = pressActs (heardSeen s c f errs) (f.id.toNat / 4096 % 16) f.data := by
  have hcopy : ((heard s c errs).can (otherCan c)).seen.any (sameMessage f) = false := by
    unfold heard
    rw [can_modCan_other]
    exact hc
  rw [pressFrame_sound (pressSound_heard h), hcopy, modCan_seen_heard]
  rfl

/-- A copy changes the other controller's list only. -/
theorem pressFrame_copy (h : pressSound s f) (hc : (s.can (otherCan c)).seen.any (sameMessage f) = true) :
    pressFrame (heard s c errs) c f = (heard s c errs).modCan (otherCan c) fun x => { x with seen := x.seen.takeWhile fun g => !(sameMessage f g) } := by
  have hcopy : ((heard s c errs).can (otherCan c)).seen.any (sameMessage f) = true := by
    unfold heard
    rw [can_modCan_other]
    exact hc
  rw [pressFrame_sound (pressSound_heard h), if_pos hcopy]

/-- An interlock state that holds already changes nothing. -/
theorem setInterlock_same {on : Bool} (h : on = s.press.interlock) : setInterlock s on = s := by
  unfold setInterlock
  exact if_pos h

theorem heardSeen_interlock : (heardSeen s c f errs).press.interlock = s.press.interlock :=
  can_cases (p := fun c => (heardSeen s c f errs).press.interlock = s.press.interlock) rfl rfl c

theorem heardSeen_timeout : (heardSeen s c f errs).press.timeout = s.press.timeout :=
  can_cases (p := fun c => (heardSeen s c f errs).press.timeout = s.press.timeout) rfl rfl c

theorem heardSeen_clk : (heardSeen s c f errs).clk = s.clk :=
  can_cases (p := fun c => (heardSeen s c f errs).clk = s.clk) rfl rfl c

/-- A PRESS_STATE that ends no timeout and names the interlock state that holds is kept with its time. -/
theorem pressStateRx_kept {d : Bytes} {n : Nat} (hn : s.clk = n) (ht : s.press.timeout = false) (hi : bit (rdAt d 4 1) 0 = s.press.interlock) :
    pressStateRx s d = { s with press := { s.press with
      pressState := rdAt d 0 1, counter := rdAt d 1 1, speed := rdAt d 2 2, timeout := false, psAt := n, psLast := some n } } := by
  subst hn
  unfold pressStateRx
  simp only [ht, Bool.false_eq_true, ↓reduceIte]
  exact setInterlock_same hi

/-- An INTERLOCK that says what holds changes nothing, for this station or another. -/
theorem pressActs_interlock {d : Bytes} (hi : (rdAt d 0 1 == 1) = s.press.interlock) : pressActs s 0 d = s := by
  unfold pressActs
  rw [if_neg (by decide)]
  simp only [setInterlock_same hi, ite_self]

end

/-- What a copy leaves of the state that the frame finds. -/
theorem copy_keeps (s : State) (c : Fin 2) (errs : Nat) (g : Can → Can) :
    let t := (heard s c errs).modCan (otherCan c) g
    (t.can c).received = sat32 (s.can c).received 1 ∧ t.press.interlock = s.press.interlock ∧ t.press.timeout = s.press.timeout ∧
      t.press.psAt = s.press.psAt ∧ t.press.psLast = s.press.psLast ∧ t.press.speed = s.press.speed ∧
      t.quires = s.quires ∧ t.reqs = s.reqs ∧ t.ports = s.ports ∧ t.out = s.out ∧ t.clk = s.clk := by
  intro t
  have hpress : { t.press with canA := s.press.canA, canB := s.press.canB } = s.press :=
    can_cases (p := fun c => { ((heard s c errs).modCan (otherCan c) g).press with canA := s.press.canA, canB := s.press.canB } = s.press) rfl rfl c
  have hfr := (State.modCan_frame s c fun x => { x.receives errs true with received := sat32 x.received 1 }).trans
    (State.modCan_frame (heard s c errs) (otherCan c) g)
  refine ⟨?_, (congrArg Press.interlock hpress :), (congrArg Press.timeout hpress :), (congrArg Press.psAt hpress :), (congrArg Press.psLast hpress :),
    (congrArg Press.speed hpress :), ?_⟩
  · exact congrArg Can.received (can_modCan_of_other.trans can_heard)
  · exact ⟨hfr.quires.resolve_left (by decide), hfr.reqs.resolve_left (by decide), hfr.ports.resolve_left (by decide),
      hfr.out.resolve_left (by decide), hfr.clk.resolve_left (by decide)⟩

/-- Settles O55: each frame goes one of the ways of `canFrameRx`, and what it does is that of its host filter or its press message. -/
theorem canFramesAreTaken : Obligations.CanFramesAreTaken := by
  unfold Obligations.CanFramesAreTaken
  intro s c f k on hit copy
  refine ⟨?_, ?_, ?_, ?_, ?_, ?_, ?_, ?_, ?_⟩
  · intro errs h
    refine exec_of rfl (if_pos ?_)
    simp only [Bool.or_eq_true, decide_eq_true_eq]
    exact h
  · intro errs hm hoff hfd
    refine exec_of rfl ((if_neg ?_).trans (if_pos ?_))
    · simp only [Bool.or_eq_true, decide_eq_true_eq, not_or, Bool.not_eq_true]
      exact ⟨fun h => absurd (hm.symm.trans h) (by decide), hoff⟩
    · simp only [Bool.and_eq_true]
      exact ⟨hfd, beq_iff_eq.mpr hm⟩
  · intro errs hon hr
    exact exec_of rfl ((canFrameRx_rtr hon hr).trans canDrop_heard)
  · intro errs i hon hr hp hhit hl
    exact exec_of rfl ((canFrameRx_host hon hr hp).trans (hostFrame_room hhit hl))
  · intro errs hon hr hp hhit
    exact exec_of rfl (((canFrameRx_host hon hr hp).trans (hostFrame_none hhit)).trans canDrop_heard)
  · intro errs i hon hr hp hhit hl
    refine ⟨canEvent (canDrop (heard s c errs) c) 32, exec_of rfl ((canFrameRx_host hon hr hp).trans (hostFrame_full hhit hl)), ?_⟩
    rw [canDrop_heard]
    refine ⟨can_modCan_self, ?_, ?_⟩
    · exact congrArg (· ||| 32#6) (congrArg Press.event modCan_press :)
    · have hfr := (State.modCan_frame s c fun x => { x.receives errs true with
        received := sat32 x.received 1, dropped := sat32 x.dropped 1 }).trans (canEvent_frame _ 32)
      exact ⟨hfr.ports.resolve_left (by decide), hfr.quires.resolve_left (by decide), hfr.clk.resolve_left (by decide)⟩
  · intro errs hon hr hp ht hst hbad hcopy htime hint
    have hsound : pressSound s f := ⟨.inr ht, hst, by rw [ht]; exact hbad⟩
    refine exec_of rfl (((canFrameRx_press hon hr hp (.inr ht)).trans (pressFrame_first hsound hcopy)).trans ?_)
    rw [ht]
    exact pressStateRx_kept heardSeen_clk (heardSeen_timeout.trans htime) (hint.trans heardSeen_interlock.symm)
  · intro errs hon hr hp ht hst hbad hcopy hint
    have hsound : pressSound s f := ⟨.inl ht, hst, by rw [ht]; exact hbad⟩
    refine exec_of rfl (((canFrameRx_press hon hr hp (.inl ht)).trans (pressFrame_first hsound hcopy)).trans ?_)
    rw [ht]
    exact pressActs_interlock (hint.trans heardSeen_interlock.symm)
  · intro errs hon hr hp ht hst hbad hcopy
    exact ⟨_, exec_of rfl ((canFrameRx_press hon hr hp ht).trans (pressFrame_copy ⟨ht, hst, hbad⟩ hcopy)), copy_keeps s c errs _⟩

end Sys2Proof.Machine
end

section
/-! PROOFS. What the press bus sends and does by itself (11_press_bus.md R318, R319, R321, R323, R325, R328, R333): O56. A message that is
due waits on the controllers; the timeouts and STOP_N act through the requests of the quires. -/

set_option Elab.async false

namespace Sys2Proof.Machine

/-! ### Messages that this node sends -/

section
variable (s : State) (typ : Nat) (d : Bytes)

theorem assocSet_any {α : Type} (k : Nat) (a : α) : ∀ l : List (Nat × α), (assocSet k a l).any (fun e => e.1 == k) = true
  | [] => by simp [assocSet]
  | (j, b) :: l => by
    unfold assocSet
    split
    · simp
    · split
      · simp
      · simp [assocSet_any k a l]

/-- A message that waits changes the controllers only. -/
theorem pressSend_press : { (pressSend s typ d).press with canA := s.press.canA, canB := s.press.canB } = s.press := by
  unfold pressSend
  extract_lets one
  have hone : ∀ (t : State) (c : Fin 2), { (one t c).press with canA := s.press.canA, canB := s.press.canB } =
      { t.press with canA := s.press.canA, canB := s.press.canB } := by
    intro t c
    unfold one
    split
    · exact congrArg (fun x : Press => { x with canA := s.press.canA, canB := s.press.canB }) (modCan_press (s := t) (c := c) :)
    · rfl
  exact (hone _ 1).trans (hone s 0)

/-- A controller that sends press messages has this one waiting. -/
theorem pressSend_waits (h : s.press.canA.sends = true) : (pressSend s typ d).press.canA.press.any (fun e => e.1 == typ) = true := by
  unfold pressSend
  extract_lets one
  have hB : ∀ t : State, (one t 1).press.canA = t.press.canA := fun t => by
    unfold one
    split <;> rfl
  have hA : (one s 0).press.canA.press = assocSet typ (padTo 8 d) s.press.canA.press := by
    unfold one
    rw [if_pos (show (s.can 0).sends = true from h)]
    rfl
  rw [hB, hA]
  exact assocSet_any ..

/-- SPEED_DEMAND is sent now. -/
def speedMessage : State :=
  let s1 := pressSend s 1 (le 2 s.spr.subtree ++ le 2 s.spr.limiter ++ [BitVec.ofNat 8 s.spr.reason, BitVec.ofNat 8 s.press.sdSeq])
  { s1 with press := { s1.press with sdSent := s.spr.subtree, sdAt := s.clk, sdSeq := (s.press.sdSeq + 1) % 256 } }

/-- STATUS is sent now. -/
def statusMessage : State :=
  let s1 := pressSend s 3 s.statusBytes
  { s1 with press := { s1.press with statusSent := s.statusBytes, statusAt := s.clk } }

/-- HEARTBEAT is sent now. -/
def beatMessage : State :=
  let s1 := pressSend s 4 ([BitVec.ofNat 8 s.sp.st.code, BitVec.ofNat 8 s.press.hbSeq, 0, 0] ++ le 4 s.seconds)
  { s1 with press := { s1.press with hbAt := s.clk, hbSeq := (s.press.hbSeq + 1) % 256 } }

theorem pressSend_clk : (pressSend s typ d).clk = s.clk := (pressSend_frame ..).clk.resolve_left (by decide)
theorem pressSend_ports : (pressSend s typ d).ports = s.ports := (pressSend_frame ..).ports.resolve_left (by decide)
theorem pressSend_quires : (pressSend s typ d).quires = s.quires := (pressSend_frame ..).quires.resolve_left (by decide)
theorem pressSend_out : (pressSend s typ d).out = s.out := (pressSend_frame ..).out.resolve_left (by decide)

variable {s} {u : Nat}

/-- A message that is due at once, or when its period is over. -/
theorem due_frame (p : Prop) [Decidable p] : Frame [.clk, .tb] s (if p then s else s.advanceTo u) :=
  .ite (.refl _ s) (s.advanceTo_frame u)

theorem due_clk (p : Prop) [Decidable p] : (if p then s else s.advanceTo u).clk = if p then s.clk else max s.clk u := by
  split
  · rfl
  · exact advanceTo_max s u

theorem speedDemandTx_idle (h : s.sdSender = false ∨ s.press.sdPeriod = 0 ∨ (s.press.canA.sends || s.press.canB.sends) = false) :
    speedDemandTx s = s := by
  unfold speedDemandTx
  refine if_pos ?_
  rcases h with h | h | h <;> simp only [h, decide_true, Bool.not_false, Bool.true_or, Bool.or_true]

theorem speedDemandTx_due (hu : s.press.sdAt + s.press.sdPeriod * msPh = u) (hs : s.sdSender = true) (hp : s.press.sdPeriod ≠ 0)
    (hc : (s.press.canA.sends || s.press.canB.sends) = true) :
    speedDemandTx s = speedMessage (if s.sdChanged then s else s.advanceTo u) := by
  subst hu
  unfold speedDemandTx
  refine if_neg ?_
  simp only [hs, hp, hc, Bool.not_true, decide_false, Bool.or_false, Bool.false_eq_true, not_false_eq_true]

theorem statusTx_idle (h : s.press.station = 0 ∨ (s.press.canA.sends || s.press.canB.sends) = false) : statusTx s = s := by
  unfold statusTx
  refine if_pos ?_
  rcases h with h | h <;> simp only [h, decide_true, Bool.not_false, Bool.true_or, Bool.or_true]

theorem statusTx_due (hu : s.press.statusAt + 1000 * msPh = u) (hs : s.press.station ≠ 0)
    (hc : (s.press.canA.sends || s.press.canB.sends) = true) :
    statusTx s = statusMessage (if s.statusBytes ≠ s.press.statusSent then s else s.advanceTo u) := by
  subst hu
  unfold statusTx
  refine (if_neg ?_).trans ?_
  · simp only [hs, hc, Bool.not_true, decide_false, Bool.or_false, Bool.false_eq_true, not_false_eq_true]
  · simp only [bne_iff_ne]
    rfl

theorem heartbeatTx_idle (h : s.press.station = 0 ∨ s.press.hbPeriod = 0 ∨ (s.press.canA.sends || s.press.canB.sends) = false) :
    heartbeatTx s = s := by
  unfold heartbeatTx
  refine if_pos ?_
  rcases h with h | h | h <;> simp only [h, decide_true, Bool.not_false, Bool.true_or, Bool.or_true]

theorem heartbeatTx_due (hu : s.press.hbAt + s.press.hbPeriod * msPh = u) (hs : s.press.station ≠ 0) (hp : s.press.hbPeriod ≠ 0)
    (hc : (s.press.canA.sends || s.press.canB.sends) = true) : heartbeatTx s = beatMessage (s.advanceTo u) := by
  subst hu
  unfold heartbeatTx
  refine if_neg ?_
  simp only [hs, hp, hc, Bool.not_true, decide_false, Bool.or_false, Bool.false_eq_true, not_false_eq_true]

end

/-! ### Frames that have been sent -/

section
variable {s : State} {c : Fin 2} {i lost errs ago : Nat} {host : Bool} {f : CanFrame} {e : Exec}

theorem modCan_rest {g : Can → Can} : s.modCan c g = { s with press := (s.modCan c g).press } :=
  can_cases (p := fun c => s.modCan c g = { s with press := (s.modCan c g).press }) rfl rfl c

/-- A frame that goes out changes a controller's counters and error state only. -/
theorem transmits_keeps (k : Can) (lost errs : Nat) :
    { k.transmits lost errs with st := k.st, tec := k.tec } = { k with sent := sat32 k.sent 1, arbLost := sat32 k.arbLost lost } := by
  unfold Can.transmits Can.confine
  simp only
  split <;> rfl

theorem transmits_sent (k : Can) (lost errs : Nat) : (k.transmits lost errs).sent = sat32 k.sent 1 :=
  (congrArg Can.sent (transmits_keeps k lost errs) :)

theorem transmits_arbLost (k : Can) (lost errs : Nat) : (k.transmits lost errs).arbLost = sat32 k.arbLost lost :=
  (congrArg Can.arbLost (transmits_keeps k lost errs) :)

/-- The front frame of a controller is out: a host frame leaves its queue, a press message its place. -/
def frameSent (s : State) (c : Fin 2) (i : Nat) (host : Bool) (f : CanFrame) (lost errs : Nat) : State :=
  (s.modCan c fun x => { x.transmits lost errs with
    press := if host then x.press else assocDel i x.press, host := if host then x.host.filter fun e => e.1 != i else x.host }).emit (.canFrame c f)

theorem frameSent_can : (frameSent s c i host f lost errs).can c = { (s.can c).transmits lost errs with
    press := if host then (s.can c).press else assocDel i (s.can c).press,
    host := if host then (s.can c).host.filter fun e => e.1 != i else (s.can c).host } :=
  can_modCan_self (s := s) (c := c)

theorem frameSent_counts : ((frameSent s c i host f lost errs).can c).sent = sat32 (s.can c).sent 1 ∧
    ((frameSent s c i host f lost errs).can c).arbLost = sat32 (s.can c).arbLost lost := by
  rw [frameSent_can]
  exact ⟨transmits_sent .., transmits_arbLost ..⟩

theorem frameSent_rest : { frameSent s c i host f lost errs with press := s.press, out := s.out } = s :=
  can_cases (p := fun c => { frameSent s c i host f lost errs with press := s.press, out := s.out } = s) rfl rfl c

theorem frameSent_out : (frameSent s c i host f lost errs).out = .canFrame c f :: s.out :=
  can_cases (p := fun c => (frameSent s c i host f lost errs).out = .canFrame c f :: s.out) rfl rfl c

theorem frameSent_execs : (frameSent s c i host f lost errs).execs = s.execs := (congrArg State.execs (frameSent_rest (f := f)) :)

theorem canTxDone_idle (h : (s.can c).active = false ∨ s.canFront c = none) : canTxDone c ago lost errs s = s := by
  unfold canTxDone
  simp only
  rcases h with h | h
  · rw [h]
    rfl
  · rw [h]
    simp only [ite_self]

theorem canTxDone_press (ha : (s.can c).active = true) (hf : s.canFront c = some (i, false, f)) :
    canTxDone c ago lost errs s = frameSent s c i false f lost errs := by
  unfold canTxDone
  simp only [ha, hf]
  rfl

theorem canTxDone_lone (ha : (s.can c).active = true) (hf : s.canFront c = some (i, true, f))
    (he : (s.execs.find? fun x => x.id == i) = none) : canTxDone c ago lost errs s = frameSent s c i true f lost errs := by
  have hx : ((frameSent s c i true f lost errs).execs.find? fun x => x.id == i) = none := by rw [frameSent_execs, he]
  unfold frameSent at hx
  unfold canTxDone frameSent
  simp only [ha, hf, Bool.not_true, Bool.false_eq_true, if_true, if_false] at hx ⊢
  rw [hx]

theorem canTxDone_command (ha : (s.can c).active = true) (hf : s.canFront c = some (i, true, f))
    (he : (s.execs.find? fun x => x.id == i) = some e) :
    canTxDone c ago lost errs s = endExec (frameSent s c i true f lost errs) e 0 ((s.tb - ago) / 4) := by
  have hx : ((frameSent s c i true f lost errs).execs.find? fun x => x.id == i) = some e := by rw [frameSent_execs, he]
  unfold frameSent at hx
  unfold canTxDone frameSent
  simp only [ha, hf, Bool.not_true, Bool.false_eq_true, if_true, if_false] at hx ⊢
  rw [hx]
  rfl

theorem complete_mctp {h : CmdHdr} {v : Bool} {st res : Nat} (hv : h.src = .mctp v) :
    complete s h st res = (countCpl s st).emit (.mctpReply v (vendorMsg 2 (cplEntry h.tag.toNat st 0xFF s.sp.nodeId res))) := by
  unfold complete
  simp only [hv]

theorem complete_ring {h : CmdHdr} {r : Fin 64} {st res : Nat} (hr : h.src = .ring r) (hb : h.bcast = false) :
    complete s h st res = writeCpl (countCpl s st) r h.tag.toNat st s.sp.nodeId res (isNotify h) := by
  unfold complete
  simp only [hr, hb, Bool.false_and, Bool.false_eq_true, if_false]

theorem endExec_press {st res : Nat} : (endExec s e st res).press = s.press := (endExec_frame ..).press.resolve_left (by decide)

theorem endExec_can {st res : Nat} : (endExec s e st res).can c = s.can c :=
  congrArg (fun p : Press => if c = 0 then p.canA else p.canB) endExec_press

theorem endExec_mctp {v : Bool} {st res : Nat} (hv : e.h.src = .mctp v) :
    (endExec s e st res).out.head? = some (.mctpReply v (vendorMsg 2 (cplEntry e.h.tag.toNat st 0xFF s.sp.nodeId res))) :=
  congrArg (fun t : State => t.out.head?) (complete_mctp hv)

theorem endExec_frameSent {r : Fin 64} {res : Nat} (hr : e.h.src = .ring r) (hb : e.h.bcast = false) :
    let t := endExec (frameSent s c i host f lost errs) e 0 res
    t = writeCpl (countCpl { s with execs := t.execs, press := t.press, out := .canFrame c f :: s.out } 0) r e.h.tag.toNat 0 s.sp.nodeId res
      (isNotify e.h) := by
  intro t
  have hsent : ∀ l, { frameSent s c i host f lost errs with execs := l } =
      { s with execs := l, press := (frameSent s c i host f lost errs).press, out := .canFrame c f :: s.out } := fun l =>
    can_cases (p := fun c => { frameSent s c i host f lost errs with execs := l } =
      { s with execs := l, press := (frameSent s c i host f lost errs).press, out := .canFrame c f :: s.out }) rfl rfl c
  have hdone : t = complete { frameSent s c i host f lost errs with execs := t.execs } e.h 0 res :=
    congrArg (fun l => complete { frameSent s c i host f lost errs with execs := l } e.h 0 res) (endExec_execs ..).symm
  rw [hsent, complete_ring hr hb] at hdone
  have hp : t.press = (frameSent s c i host f lost errs).press := endExec_press
  rw [hp]
  exact hdone

/-! ### The time limit of a BUS_SEND -/

/-- A BUS_SEND has not been sent by its instant. -/
def sendLapse (s : State) (e : Exec) (u : Nat) : State :=
  endExec ((s.advanceTo u).modCan (finOf 2 (by decide) (fld e.p 8 1)) fun x => { x with host := x.host.filter fun y => y.1 != e.id }) e stTimeout 0

theorem busSendTimeout_none (h : (s.execs.find? fun x => x.id == i) = none) : busSendTimeout i s = s := by
  unfold busSendTimeout
  rw [h]

theorem busSendTimeout_other (h : (s.execs.find? fun x => x.id == i) = some e) (hw : ∀ due, e.wait ≠ .can due) : busSendTimeout i s = s := by
  unfold busSendTimeout
  simp only [h]
  split
  · next due hd => exact absurd hd (hw due)
  all_goals rfl

theorem busSendTimeout_lapse {due : Nat} (h : (s.execs.find? fun x => x.id == i) = some e) (hw : e.wait = .can due) :
    busSendTimeout i s = sendLapse s e due ∧ e.id = i := by
  obtain rfl : e.id = i := eq_of_beq (List.find?_some (p := fun x : Exec => x.id == i) h)
  refine ⟨?_, rfl⟩
  unfold busSendTimeout
  simp only [h, hw]
  rfl

theorem sendLapse_clk {u : Nat} : (sendLapse s e u).clk = max s.clk u :=
  ((endExec_frame ..).clk.resolve_left (by decide)).trans
    (((State.modCan_frame ..).clk.resolve_left (by decide)).trans (advanceTo_max s u))

theorem sendLapse_execs {u : Nat} : (sendLapse s e u).execs = s.execs.filter fun x => x.id != e.id :=
  (endExec_execs ..).trans (congrArg _ ((State.modCan_frame ..).execs.resolve_left (by decide)))

theorem sendLapse_kept {u : Nat} : (sendLapse s e u).ports = s.ports ∧ (sendLapse s e u).quires = s.quires :=
  ⟨(endExec_ports ..).trans ((State.modCan_frame ..).ports.resolve_left (by decide)),
    (endExec_quires ..).trans ((State.modCan_frame ..).quires.resolve_left (by decide))⟩

theorem sendLapse_can {u : Nat} : ((sendLapse s e u).can (finOf 2 (by decide) (fld e.p 8 1))).host =
    (s.can (finOf 2 (by decide) (fld e.p 8 1))).host.filter fun x => x.1 != e.id :=
  congrArg Can.host (endExec_can.trans can_modCan_self)

end

/-! ### Requests by PRESS_POLICY -/

theorem maskOf_succ {n : Nat} (g : Fin (n + 1) → Bool) : maskOf g = maskOf (fun i : Fin n => g i.castSucc) + bitAt (g (Fin.last n)) n := by
  unfold maskOf idx
  rw [List.finRange_succ_last, List.foldl_append, List.foldl_map]
  rfl

theorem bitAt_le (b : Bool) (n : Nat) : bitAt b n ≤ 2 ^ n := by
  unfold bitAt
  split
  · exact Nat.le_refl _
  · exact Nat.zero_le _

theorem maskOf_lt : ∀ {n : Nat} (g : Fin n → Bool), maskOf g < 2 ^ n
  | 0, _ => Nat.one_pos
  | n + 1, g => by
    rw [maskOf_succ, Nat.pow_succ]
    have hlow := maskOf_lt fun i : Fin n => g i.castSucc
    have hbit := bitAt_le (g (Fin.last n)) n
    omega

/-- The bit of an index in a mask is the test of that index. -/
theorem testBit_maskOf : ∀ {n : Nat} (g : Fin n → Bool) (i : Fin n), (maskOf g).testBit i.1 = g i
  | 0, _, i => i.elim0
  | n + 1, g, i => by
    have hlow := maskOf_lt fun i : Fin n => g i.castSucc
    rw [maskOf_succ, Nat.add_comm]
    unfold bitAt
    induction i using Fin.lastCases with
    | last =>
      have hclear : (maskOf fun i : Fin n => g i.castSucc).testBit n = false := Nat.testBit_lt_two_pow hlow
      split
      · next h => rw [Fin.val_last, Nat.testBit_two_pow_add_eq, hclear, h]; rfl
      · next h => rw [Fin.val_last, Nat.zero_add, hclear, Bool.eq_false_of_not_eq_true h]
    | cast j =>
      have ih := testBit_maskOf (fun i : Fin n => g i.castSucc) j
      split
      · exact (Nat.testBit_two_pow_add_gt j.2 _).trans ih
      · rw [Nat.zero_add]; exact ih

/-- The quire is ARMED or beyond with a job of this policy. -/
def State.obeys (s : State) (q : Fin 8) (n : Nat) : Bool := (s.quire q).st.beyond && (s.quire q).job.any fun j => j.policy == n

/-- The source asks the quire to INHIBIT. -/
def State.inhibits (s : State) (src : ReqSource) (q : Fin 8) : Bool :=
  s.reqs.any fun r => r.src == src && r.sc == .quire q && r.kind == .inhibit && !r.gone

section
variable {s : State} {src : ReqSource} {inh stp c n : Nat} {q r : Fin 8}

theorem policyMask_testBit : (s.policyMask n).testBit q.1 = s.obeys q n := by
  unfold State.policyMask State.quireMask
  refine (testBit_maskOf _ q).trans ?_
  unfold State.obeys State.quire
  cases hj : (look s.quires q).job <;> simp only [hj, Option.any]

/-- A quire obeys one policy. -/
theorem obeys_one (h : s.obeys q 2 = true) : s.obeys q 1 = false := by
  unfold State.obeys at h ⊢
  rw [Bool.and_eq_true] at h
  obtain ⟨-, hj⟩ := h
  cases hjob : (s.quire q).job with
  | none => simp [hjob] at hj
  | some j =>
    have hp : j.policy = 2 := by simpa [hjob] using hj
    simp [hp]

/-- What one quire gets by its policy. -/
def policyTurn (src : ReqSource) (inh stp : Nat) (t : State) (q : Fin 8) : State :=
  if inh.testBit q.1 then request t src (.quire q) .inhibit
  else if stp.testBit q.1 then request t src (.quire q) (.stop 9)
  else t

theorem policyRequests_eq : policyRequests s src = forAll s (policyTurn src (s.policyMask 1) (s.policyMask 2)) := rfl

/-- The lines past their instants, decided before an INHIBIT enters. -/
def decideCovered (t : State) (sc : ReqScope) : State :=
  forAll t fun (u : State) (p : Fin 32) => if u.covers sc p then decidePast u p else u

theorem request_inhibit (sc : ReqScope) : request s src sc .inhibit = addReq (decideCovered s sc) src sc .inhibit := rfl

theorem request_stop : request s src (.quire q) (.stop 9) = stopQuire s q 9 := rfl

theorem decideCovered_halt (sc : ReqScope) : ((decideCovered s sc).quire q).halt = (s.quire q).halt := by
  refine forAll_keeps (fun t : State => (t.quire q).halt) (fun t p => ?_) s
  split
  · exact decidePast_halt t p q
  · rfl

theorem decideCovered_reqs (sc : ReqScope) : (decideCovered s sc).reqs = s.reqs := by
  refine forAll_keeps State.reqs (fun t p => ?_) s
  split
  · exact (decidePast_frame ..).reqs.resolve_left (by decide)
  · rfl

theorem request_inhibit_halt (sc : ReqScope) : ((request s src sc .inhibit).quire q).halt = (s.quire q).halt := by
  rw [request_inhibit]
  exact decideCovered_halt sc

theorem policyTurn_others (h : r ≠ q) : ((policyTurn src inh stp s r).quire q).halt = (s.quire q).halt := by
  unfold policyTurn
  split
  · exact request_inhibit_halt _
  · split
    · exact stopQuire_others h.symm 9
    · rfl

theorem inhibits_request : (request s src (.quire q) .inhibit).inhibits src q = true := by
  unfold State.inhibits
  rw [request_inhibit]
  simp [addReq]

/-- The request of another quire leaves an INHIBIT in force. -/
theorem policyTurn_inhibits (hr : r ≠ q) (h : s.inhibits src q = true) : (policyTurn src inh stp s r).inhibits src q = true := by
  unfold policyTurn
  split
  · unfold State.inhibits at h ⊢
    rw [request_inhibit]
    obtain ⟨x, hx, hq⟩ := List.any_eq_true.1 h
    have hsc : x.sc = .quire q := by
      simp only [Bool.and_eq_true, beq_iff_eq] at hq
      exact hq.1.1.2
    have hkeep : x ∈ (decideCovered s (.quire r)).reqs.filter fun y => !(y.src = src ∧ y.sc = .quire r) := by
      rw [decideCovered_reqs]
      refine List.mem_filter.2 ⟨hx, ?_⟩
      simp [hsc, hr.symm]
    exact List.any_eq_true.2 ⟨x, List.mem_cons_of_mem _ hkeep, hq⟩
  · split
    · have hreqs : (stopQuire s r 9).reqs = s.reqs := (stopQuire_frame ..).reqs.resolve_left (by decide)
      unfold State.inhibits
      rw [request_stop, hreqs]
      exact h
    · exact h

theorem policyRequests_inhibits (h : s.obeys q 1 = true) : (policyRequests s src).inhibits src q = true := by
  rw [policyRequests_eq]
  refine forAll_turn (a := q) (P := fun _ => True) (Q := fun t => t.inhibits src q = true) (fun _ _ _ => id)
    (fun t r hr ht => policyTurn_inhibits hr ht) (fun t _ => ?_) s trivial
  unfold policyTurn
  rw [if_pos (policyMask_testBit.trans h)]
  exact inhibits_request

theorem policyRequests_stops (h : s.obeys q 2 = true) (hs : (s.quire q).st.stoppable = true) :
    ((policyRequests s src).quire q).st = .stopping ∧ 9 ≤ ((policyRequests s src).quire q).cause := by
  have hturn : ∀ t, policyTurn src (s.policyMask 1) (s.policyMask 2) t q = stopQuire t q 9 := fun t => by
    unfold policyTurn
    rw [policyMask_testBit, policyMask_testBit, obeys_one h, h]
    rfl
  obtain ⟨hst, hcause, -⟩ := forAll_stops (fun t r hr => policyTurn_others hr) hturn hs
  exact ⟨hst, hcause⟩

theorem policyRequests_spares (h : s.obeys q 2 = false) : ((policyRequests s src).quire q).st = (s.quire q).st := by
  refine congrArg Prod.fst (forAll_keeps (f := policyTurn src (s.policyMask 1) (s.policyMask 2)) (fun t : State => (t.quire q).halt) (fun t r => ?_) s)
  by_cases hr : r = q
  · subst hr
    unfold policyTurn
    rw [policyMask_testBit, policyMask_testBit, h]
    split
    · exact request_inhibit_halt _
    · rfl
  · exact policyTurn_others hr

theorem policyRequests_none (h : ∀ q, s.obeys q 1 = false ∧ s.obeys q 2 = false) : policyRequests s src = s := by
  rw [policyRequests_eq]
  refine forAll_fixed fun q => ?_
  unfold policyTurn
  rw [policyMask_testBit, policyMask_testBit, (h q).1, (h q).2]
  rfl

/-! ### STOP_N -/

theorem stopAll_stops (h : (s.quire q).st.stoppable = true) :
    ((stopAll s c).quire q).st = .stopping ∧ c ≤ ((stopAll s c).quire q).cause ∧
      ((s.quire q).stopAt = [] → ((stopAll s c).quire q).cause = c) :=
  forAll_stops (f := fun t q => stopQuire t q c) (fun _ _ hr => stopQuire_others hr.symm c) (fun _ => rfl) h

/-- A quire that has nothing to stop keeps its state. -/
theorem stopQuire_spares (h : (s.quire q).st.stoppable = false) : ((stopQuire s q c).quire q).st = (s.quire q).st := by
  by_cases ht : (s.quire q).st = .stopping
  · rcases stopQuire_stopping (c := c) ht with e | e
    · rw [e]
    · rw [e, modQuire_quire_self]
  · rw [stopQuire_idle]
    cases hq : (s.quire q).st <;> simp [hq, QState.stoppable] at h ht ⊢

theorem stopAll_spares (h : (s.quire q).st.stoppable = false) : ((stopAll s c).quire q).st = (s.quire q).st := by
  have hother : ∀ (t : State) (r : Fin 8), r ≠ q → (t.quire q).st = (s.quire q).st → ((stopQuire t r c).quire q).st = (s.quire q).st :=
    fun t r hr ht => (congrArg Prod.fst (stopQuire_others hr.symm c) :).trans ht
  exact forAll_turn (f := fun t q => stopQuire t q c) (a := q) (P := fun t => (t.quire q).st = (s.quire q).st)
    (Q := fun t => (t.quire q).st = (s.quire q).st) hother hother (fun t ht => (stopQuire_spares (ht ▸ h)).trans ht) s rfl

/-- STOP_N is accepted low. -/
def stopSignal (s : State) : State := stopAll (canEvent { s with press := { s.press with stopLow := true } } 16) 11

theorem stopNAccepted_stops (hl : s.press.stopLow = false) (hr : s.inReset = false) : stopNAccepted s = evtStop (stopSignal s) 0 11 := by
  unfold stopNAccepted
  exact if_neg (by simp [hl, hr])

theorem stopSignal_press : (stopSignal s).press = { s.press with stopLow := true, event := s.press.event ||| 16 } :=
  (stopAll_frame ..).press.resolve_left (by decide)

theorem stopSignal_clk : (stopSignal s).clk = s.clk := (stopAll_frame ..).clk.resolve_left (by decide)

theorem evtStop_quires (b cause : Nat) : (evtStop s b cause).quires = s.quires := (evtStop_frame ..).quires.resolve_left (by decide)

theorem evtStop_quire (b cause : Nat) : (evtStop s b cause).quire q = s.quire q := congrArg (look · q) (evtStop_quires b cause)

end

/-! ### Press-state timeout -/

section
variable {s : State} {u : Nat} {q : Fin 8}

/-- The timeout is in force from `u` on. -/
def timeoutAt (s : State) (u : Nat) : State := { s.advanceTo u with press := { s.press with timeout := true } }

/-- No PRESS_STATE until `u`. -/
def pressLapse (s : State) (u : Nat) : State :=
  pressTimeoutEvent (faultEdge (policyRequests (timeoutAt s u) .pressTimeout)) 0 ((s.advanceTo u).policyMask 1) ((s.advanceTo u).policyMask 2)

theorem pressStateTimeout_idle (h : s.press.psTimeout = 0 ∨ s.press.timeout = true ∨ s.inReset = true) : pressStateTimeout s = s := by
  unfold pressStateTimeout
  refine if_pos ?_
  rcases h with h | h | h <;> simp only [h, decide_true, Bool.true_or, Bool.or_true]

theorem pressLapse_eq (s : State) (u : Nat) :
    (let t := s.advanceTo u
     pressTimeoutEvent (faultEdge (policyRequests { t with press := { t.press with timeout := true } } .pressTimeout)) 0 (t.policyMask 1)
       (t.policyMask 2)) = pressLapse s u := rfl

theorem pressStateTimeout_lapse (hu : s.press.psAt + s.press.psTimeout * msPh = u) (h0 : s.press.psTimeout ≠ 0)
    (ht : s.press.timeout = false) (hr : s.inReset = false) : pressStateTimeout s = pressLapse s u := by
  unfold pressStateTimeout
  refine (if_neg ?_).trans ?_
  · simp only [h0, ht, hr, decide_false, Bool.or_false, Bool.false_eq_true, not_false_eq_true]
  · rw [hu]
    exact pressLapse_eq s u

theorem timeoutAt_clk : (timeoutAt s u).clk = max s.clk u := advanceTo_max s u

theorem timeoutAt_obeys {n : Nat} : (timeoutAt s u).obeys q n = s.obeys q n := rfl

theorem pressTimeoutEvent_press (phase inh stp : Nat) :
    (pressTimeoutEvent s phase inh stp).press = { s.press with event := s.press.event ||| 4 } :=
  (raise_frame ..).press.resolve_left (by decide)

/-- The quires, the requests and the ports are those after the requests of the policies. -/
theorem pressLapse_policy : (pressLapse s u).quires = (policyRequests (timeoutAt s u) .pressTimeout).quires ∧
    (pressLapse s u).reqs = (policyRequests (timeoutAt s u) .pressTimeout).reqs ∧
    (pressLapse s u).ports = (policyRequests (timeoutAt s u) .pressTimeout).ports := by
  have hev := pressTimeoutEvent_frame (faultEdge (policyRequests (timeoutAt s u) .pressTimeout)) 0
    ((s.advanceTo u).policyMask 1) ((s.advanceTo u).policyMask 2)
  have hf := faultEdge_frame (policyRequests (timeoutAt s u) .pressTimeout)
  exact ⟨(hev.quires.resolve_left (by decide)).trans (hf.quires.resolve_left (by decide)),
    (hev.reqs.resolve_left (by decide)).trans (hf.reqs.resolve_left (by decide)),
    (hev.ports.resolve_left (by decide)).trans (hf.ports.resolve_left (by decide))⟩

theorem pressLapse_press : (pressLapse s u).press = { s.press with timeout := true, event := s.press.event ||| 4 } := by
  refine (pressTimeoutEvent_press ..).trans ?_
  have hp : (faultEdge (policyRequests (timeoutAt s u) .pressTimeout)).press = { s.press with timeout := true } :=
    ((faultEdge_frame _).press.resolve_left (by decide)).trans ((policyRequests_frame ..).press.resolve_left (by decide))
  rw [hp]

theorem pressLapse_clk : (pressLapse s u).clk = max s.clk u :=
  ((pressTimeoutEvent_frame ..).clk.resolve_left (by decide)).trans (((faultEdge_frame _).clk.resolve_left (by decide)).trans
    (((policyRequests_frame ..).clk.resolve_left (by decide)).trans timeoutAt_clk))

/-- What the quires get: INHIBIT or STOP by their policies. -/
theorem pressLapse_quires :
    (s.obeys q 1 = true → (pressLapse s u).inhibits .pressTimeout q = true) ∧
    (s.obeys q 2 = true → (s.quire q).st.stoppable = true →
      ((pressLapse s u).quire q).st = .stopping ∧ 9 ≤ ((pressLapse s u).quire q).cause) ∧
    (s.obeys q 2 = false → ((pressLapse s u).quire q).st = (s.quire q).st) := by
  obtain ⟨hq, hreq, -⟩ := pressLapse_policy (s := s) (u := u)
  have hquire : (pressLapse s u).quire q = (policyRequests (timeoutAt s u) .pressTimeout).quire q := congrArg (look · q) hq
  refine ⟨fun h => ?_, fun h hs => ?_, fun h => ?_⟩
  · unfold State.inhibits
    rw [hreq]
    exact policyRequests_inhibits (s := timeoutAt s u) h
  · rw [hquire]
    exact policyRequests_stops (s := timeoutAt s u) h hs
  · rw [hquire]
    exact policyRequests_spares (s := timeoutAt s u) h

theorem pressLapse_none (h : ∀ q, s.obeys q 1 = false ∧ s.obeys q 2 = false) :
    (pressLapse s u).ports = s.ports ∧ (pressLapse s u).quires = s.quires ∧ (pressLapse s u).reqs = s.reqs := by
  obtain ⟨hq, hreq, hport⟩ := pressLapse_policy (s := s) (u := u)
  rw [policyRequests_none (s := timeoutAt s u) h] at hq hreq hport
  exact ⟨hport, hq, hreq⟩

end

/-! ### Bus-off -/

section
variable {s t : State} {c : Fin 2} {tec recv : Nat}

theorem can_of_press {e : BitVec 6} (h : t.press = { s.press with event := e }) : t.can c = s.can c :=
  (congrArg (fun p : Press => if c = 0 then p.canA else p.canB) h :)

theorem busOffEvent_press (phase : Nat) : (busOffEvent s c phase).press = { s.press with event := s.press.event ||| 1 } :=
  (raise_frame ..).press.resolve_left (by decide)

theorem busOffEvent_can (phase : Nat) : (busOffEvent s c phase).can c = s.can c := can_of_press (busOffEvent_press phase)

theorem faultEdge_press : (faultEdge s).press = s.press := (faultEdge_frame s).press.resolve_left (by decide)

theorem faultEdge_can : (faultEdge s).can c = s.can c := congrArg (fun p : Press => if c = 0 then p.canA else p.canB) faultEdge_press

/-- The controller goes off the bus. -/
def goneOff (s : State) (c : Fin 2) (tec recv : Nat) : State :=
  s.modCan c fun x => { x with
    st := if x.autoRec then .recovering else .busOff, tec := min tec 255, recErr := min recv 255, busOffs := satAdd 16 x.busOffs 1 }

theorem goneOff_event : (goneOff s c tec recv).press.event = s.press.event := (congrArg Press.event modCan_press :)

theorem busOffEntry_idle (h : (s.can c).mode = .off ∨ (s.can c).mode = .listen ∨ (s.can c).isOff = true) : busOffEntry c tec recv s = s := by
  unfold busOffEntry
  refine if_pos ?_
  rcases h with h | h | h <;> simp [h]

theorem busOffEntry_goes (hm : (s.can c).mode = .classic ∨ (s.can c).mode = .fd) (hoff : (s.can c).isOff = false) :
    busOffEntry c tec recv s = busOffEvent (faultEdge (goneOff s c tec recv)) c 0 := by
  unfold busOffEntry
  refine if_neg ?_
  rcases hm with hm | hm <;> simp [hm, hoff]

theorem goneOff_frame : Frame [.link, .rings, .cnt, .parked, .sp, .spr, .press, .out] s
    (busOffEvent (faultEdge (goneOff s c tec recv)) c 0) :=
  ((State.modCan_frame ..).mono (by decide)).trans (((faultEdge_frame _).mono (by decide)).trans (busOffEvent_frame _ c 0))

/-- The controller is back on the bus. -/
def backOn (s : State) (c : Fin 2) : State :=
  (busOffEvent s c 1).modCan c fun x => { x with st := if x.mode = .off then .off else .errorActive, tec := 0, recErr := 0 }

theorem busOffRecovery_idle (h : (s.can c).st ≠ .recovering) : busOffRecovery c s = s := if_neg h

theorem busOffRecovery_back (h : (s.can c).st = .recovering) : busOffRecovery c s = faultEdge (backOn s c) := by
  have hoff : (s.can c).isOff = true := by
    unfold Can.isOff
    rw [h]
    rfl
  refine (if_pos h).trans ?_
  unfold rejoin
  simp only [hoff, if_true]
  rfl

theorem backOn_can (hm : (s.can c).mode ≠ .off) : (backOn s c).can c = { s.can c with st := .errorActive, tec := 0, recErr := 0 } := by
  refine can_modCan_self.trans ?_
  rw [busOffEvent_can, if_neg hm]

theorem busOffRecovery_kept : (faultEdge (backOn s c)).ports = s.ports ∧ (faultEdge (backOn s c)).quires = s.quires ∧
    (faultEdge (backOn s c)).clk = s.clk := by
  have hfr : Frame [.link, .rings, .cnt, .parked, .sp, .spr, .press, .out] s (faultEdge (backOn s c)) :=
    (busOffEvent_frame s c 1).trans (((State.modCan_frame ..).mono (by decide)).trans ((faultEdge_frame _).mono (by decide)))
  exact ⟨hfr.ports.resolve_left (by decide), hfr.quires.resolve_left (by decide), hfr.clk.resolve_left (by decide)⟩

end

/-! ### SPD_DEM -/

/-- A period of SPD_DEM begins at `u`. -/
def periodAt (s : State) (u : Nat) : State :=
  { s.advanceTo u with press := { s.press with spdHigh := spdHighOf s.spr.subtree, spdAt := (s.advanceTo u).clk } }.emit
    (.pinSpdDem (spdHighOf s.spr.subtree))

theorem spdDemPeriod_at {s : State} {u : Nat} (hu : s.press.spdAt + 50 * usPh = u) (hr : s.inReset = false) : spdDemPeriod s = periodAt s u := by
  subst hu
  unfold spdDemPeriod
  rw [hr]
  rfl

/-! ### What sending a message of this node changes -/

theorem speedMessage_sends (s v : State) (hv : Frame [.clk, .tb] s v) :
    (speedMessage v).clk = v.clk ∧ (speedMessage v).press.sdAt = (speedMessage v).clk ∧ (speedMessage v).press.sdSent = s.spr.subtree ∧
      (speedMessage v).press.sdSeq = (s.press.sdSeq + 1) % 256 ∧
      (s.press.canA.sends = true → (speedMessage v).press.canA.press.any (fun e => e.1 == 1) = true) ∧ (speedMessage v).ports = s.ports ∧
      (speedMessage v).quires = s.quires ∧ (speedMessage v).out = s.out := by
  have hp : v.press = s.press := hv.press.resolve_left (by decide)
  have hspr : v.spr = s.spr := hv.spr.resolve_left (by decide)
  refine ⟨pressSend_clk .., (pressSend_clk ..).symm, congrArg SpineRun.subtree hspr, congrArg (fun x : Press => (x.sdSeq + 1) % 256) hp,
    fun h => pressSend_waits v 1 _ (hp ▸ h), ?_⟩
  exact ⟨(pressSend_ports ..).trans (hv.ports.resolve_left (by decide)), (pressSend_quires ..).trans (hv.quires.resolve_left (by decide)),
    (pressSend_out ..).trans (hv.out.resolve_left (by decide))⟩

theorem statusMessage_sends (s v : State) (hv : Frame [.clk, .tb] s v) :
    (statusMessage v).clk = v.clk ∧ (statusMessage v).press.statusAt = (statusMessage v).clk ∧
      (s.press.canA.sends = true → (statusMessage v).press.canA.press.any (fun e => e.1 == 3) = true) ∧ (statusMessage v).ports = s.ports ∧
      (statusMessage v).quires = s.quires ∧ (statusMessage v).out = s.out := by
  have hp : v.press = s.press := hv.press.resolve_left (by decide)
  refine ⟨pressSend_clk .., (pressSend_clk ..).symm, fun h => pressSend_waits v 3 _ (hp ▸ h), ?_⟩
  exact ⟨(pressSend_ports ..).trans (hv.ports.resolve_left (by decide)), (pressSend_quires ..).trans (hv.quires.resolve_left (by decide)),
    (pressSend_out ..).trans (hv.out.resolve_left (by decide))⟩

theorem beatMessage_sends (s v : State) (hv : Frame [.clk, .tb] s v) :
    (beatMessage v).clk = v.clk ∧ (beatMessage v).press.hbAt = (beatMessage v).clk ∧
      (beatMessage v).press.hbSeq = (s.press.hbSeq + 1) % 256 ∧
      (s.press.canA.sends = true → (beatMessage v).press.canA.press.any (fun e => e.1 == 4) = true) ∧ (beatMessage v).ports = s.ports ∧
      (beatMessage v).quires = s.quires ∧ (beatMessage v).out = s.out := by
  have hp : v.press = s.press := hv.press.resolve_left (by decide)
  refine ⟨pressSend_clk .., (pressSend_clk ..).symm, congrArg (fun x : Press => (x.hbSeq + 1) % 256) hp,
    fun h => pressSend_waits v 4 _ (hp ▸ h), ?_⟩
  exact ⟨(pressSend_ports ..).trans (hv.ports.resolve_left (by decide)), (pressSend_quires ..).trans (hv.quires.resolve_left (by decide)),
    (pressSend_out ..).trans (hv.out.resolve_left (by decide))⟩

/-- Settles O56: the messages that are due, the frames that are out, and the timeouts and signals by the requests that they make. -/
theorem pressBusSends : Obligations.PressBusSends := by
  unfold Obligations.PressBusSends
  intro s sends policy
  have hms : msPh = 4000000 := rfl
  have husec : usPh = 4000 := rfl
  refine ⟨?_, ?_, ?_, ?_, ?_, ?_, ?_, ?_, ?_, ?_, ?_, ?_, ?_, ?_, ?_, ?_, ?_, ?_, ?_, ?_, ?_, ?_, ?_, ?_⟩
  · exact fun h => exec_of rfl (speedDemandTx_idle h)
  · intro hs hp hc
    obtain ⟨hclk, hat, hrest⟩ := speedMessage_sends s _ (due_frame (u := s.press.sdAt + s.press.sdPeriod * 4000000) (s.sdChanged = true))
    exact ⟨_, exec_of rfl (speedDemandTx_due (by rw [hms]) hs hp hc), hclk.trans (due_clk _), hat, hrest⟩
  · exact fun h => exec_of rfl (statusTx_idle h)
  · intro hs hc
    obtain ⟨hclk, hat, hrest⟩ := statusMessage_sends s _ (due_frame (u := s.press.statusAt + 4000000000) (s.statusBytes ≠ s.press.statusSent))
    exact ⟨_, exec_of rfl (statusTx_due (by rw [hms]) hs hc), hclk.trans (due_clk _), hat, hrest⟩
  · exact fun h => exec_of rfl (heartbeatTx_idle h)
  · intro hs hp hc
    obtain ⟨hclk, hat, hrest⟩ := beatMessage_sends s _ (s.advanceTo_frame (s.press.hbAt + s.press.hbPeriod * 4000000))
    exact ⟨_, exec_of rfl (heartbeatTx_due (by rw [hms]) hs hp hc), hclk.trans (advanceTo_max ..), hat, hrest⟩
  · exact fun c ago lost errs h => exec_of rfl (canTxDone_idle h)
  · intro c ago lost errs typ f ha hf
    refine ⟨_, exec_of rfl (canTxDone_press ha hf), frameSent_out, ?_, ?_, frameSent_counts.1, frameSent_counts.2, ?_, frameSent_rest⟩
    · exact congrArg Can.press frameSent_can
    · exact (congrArg Can.host (frameSent_can (host := false)) :)
    · exact can_modCan_other
  · intro c ago lost errs id f ha hf he
    exact ⟨_, exec_of rfl (canTxDone_lone ha hf he), frameSent_out, frameSent_counts.1, congrArg Can.host frameSent_can, frameSent_rest⟩
  · intro c ago lost errs e f ha hf he
    refine ⟨_, exec_of rfl (canTxDone_command ha hf he), (endExec_execs ..).trans (congrArg _ frameSent_execs), ?_, ?_, ?_⟩
    · exact fun v hv => (endExec_mctp hv).trans (congrArg (fun sp : Spine => some (Out.mctpReply v
        (vendorMsg 2 (cplEntry e.h.tag.toNat 0 0xFF sp.nodeId ((s.tb - ago) / 4))))) (congrArg State.sp (frameSent_rest (f := f)) :))
    · exact fun r hr hb => endExec_frameSent hr hb
    · have hfr := endExec_frame (frameSent s c e.id true f lost errs) e 0 ((s.tb - ago) / 4)
      refine ⟨congrArg Can.host (endExec_can.trans frameSent_can), (congrArg Can.sent endExec_can).trans frameSent_counts.1,
        (congrArg Can.arbLost endExec_can).trans frameSent_counts.2, ?_, ?_, ?_⟩
      · exact List.contains_iff_mem.2 (hfr.sent.subset (frameSent_out ▸ List.mem_cons_self))
      · exact (hfr.ports.resolve_left (by decide)).trans (congrArg State.ports (frameSent_rest (f := f)) :)
      · exact (hfr.clk.resolve_left (by decide)).trans (congrArg State.clk (frameSent_rest (f := f)) :)
  · exact fun id h => exec_of rfl (busSendTimeout_none h)
  · exact fun id e h hw => exec_of rfl (busSendTimeout_other h hw)
  · intro id e due h hw
    obtain ⟨hlapse, rfl⟩ := busSendTimeout_lapse h hw
    exact ⟨_, exec_of rfl hlapse, sendLapse_clk, sendLapse_execs, sendLapse_can, sendLapse_kept⟩
  · exact fun h => exec_of rfl (pressStateTimeout_idle h)
  · intro h0 ht hr
    refine ⟨_, exec_of rfl (pressStateTimeout_lapse (u := s.press.psAt + s.press.psTimeout * 4000000) (by rw [hms]) h0 ht hr),
      congrArg Press.timeout pressLapse_press, pressLapse_clk, congrArg Press.event pressLapse_press, fun q => pressLapse_quires.1,
      fun q => pressLapse_quires.2.1, fun q => pressLapse_quires.2.2, pressLapse_none⟩
  · exact fun c tec recv h => exec_of rfl (busOffEntry_idle h)
  · intro c tec recv hm hoff
    refine ⟨_, exec_of rfl (busOffEntry_goes hm hoff), ?_⟩
    have hcan : (busOffEvent (faultEdge (goneOff s c tec recv)) c 0).can c = (goneOff s c tec recv).can c :=
      (busOffEvent_can 0).trans faultEdge_can
    have hfr := goneOff_frame (s := s) (c := c) (tec := tec) (recv := recv)
    rw [hcan]
    refine ⟨congrArg Can.st can_modCan_self, congrArg Can.tec can_modCan_self, congrArg Can.recErr can_modCan_self,
      congrArg Can.busOffs can_modCan_self, ?_⟩
    refine ⟨?_, hfr.ports.resolve_left (by decide), hfr.quires.resolve_left (by decide), hfr.clk.resolve_left (by decide)⟩
    rw [busOffEvent_press, faultEdge_press, goneOff_event]
  · exact fun c h => exec_of rfl (busOffRecovery_idle h)
  · intro c h hm
    have hcan := faultEdge_can.trans (backOn_can hm)
    exact ⟨_, exec_of rfl (busOffRecovery_back h), congrArg Can.st hcan, congrArg Can.tec hcan, congrArg Can.recErr hcan, busOffRecovery_kept⟩
  · refine fun h => exec_of rfl (if_pos ?_)
    rcases h with h | h <;> simp [h]
  · intro hl hr
    have hfr := evtStop_frame (stopSignal s) 0 11
    have hp := (hfr.press.resolve_left (by decide)).trans stopSignal_press
    refine ⟨_, exec_of rfl (stopNAccepted_stops hl hr), congrArg Press.stopLow hp, congrArg Press.event hp,
      (hfr.clk.resolve_left (by decide)).trans stopSignal_clk, fun q h => ?_, fun q h => ?_⟩
    · rw [evtStop_quire]
      exact stopAll_stops h
    · rw [evtStop_quire]
      exact stopAll_spares h
  · exact fun h => exec_of rfl (if_neg (by rw [h]; exact Bool.false_ne_true))
  · exact fun h => ⟨exec_of rfl (if_pos h), exec_of rfl (if_pos h)⟩
  · intro hr
    exact ⟨_, exec_of rfl (spdDemPeriod_at (u := s.press.spdAt + 200000) (by rw [husec]) hr), advanceTo_max .., rfl, rfl, rfl, rfl, rfl⟩

end Sys2Proof.Machine
end
